-- ==== Sys2Proof/Word.lean ====
section
/-!
DEFINITION. The word types of the TD7760: registers are 32 bits wide (R7, 00_scope.md).
-/
namespace Sys2Proof

/-- A register word (R7). -/
abbrev Word := BitVec 32

/-- One byte. -/
abbrev Byte := BitVec 8

end Sys2Proof
end

