-- ==== Sys2Proof/Syntax.lean ====
section
/-!
DEFINITION. The commands of the TD7760: one constructor of `Instr` per row of the opcode table, and the types of their
operands. What the chip only observes (a lane that locks, a frame that arrives, a measured voltage) is an operand of the
command that the observation causes.
-/
namespace Sys2Proof

/-- An access path to the register space (Table 18-8); the management tunnel is kept apart per SRC_HID (R419, R390). -/
inductive Path
  | bar0 | mgmt (hid : BitVec 6) | usb | spi | jtag
  deriving DecidableEq, Repr

/-- A register address: page in [23:12], offset in [11:0] (R420). -/
abbrev Addr := BitVec 24

/-- A Veserlink link: 0–3 the cable ports, 4 the Scarf link. -/
abbrev Port := Fin 5

/-- A mortise of the Truss (Table 1-2). -/
abbrev Mort := Fin 16

/-- Where a raise reaches the fault collector: by a fault-group crossing (R328), or directly from the CDC block. -/
inductive FaultVia
  | group (g : Fin 16) | direct
  deriving DecidableEq, Repr

/-- The event crossings of Table 14-1: a fault group, the DISP commit (48) and the level change (61). -/
inductive EventX
  | group (g : Fin 16) | dispCommit | level
  deriving DecidableEq, Repr

/-- What the SECDED check of the Loft finds in the word that a grant reads (R118): nothing, a corrected bit, or a double
error in bank `bank` whose payload leaves as `data`. -/
inductive LoftEcc
  | ok | corrected | double (bank : Fin 32) (data : List Byte)
  deriving DecidableEq, Repr

/-- A standard request on a control endpoint (USB 2.0 chapter 9): a descriptor's type, index and length; the recipient, 0 device, 1
interface, 2 endpoint, and its number; a feature that is set or cleared. -/
inductive StdRequest
  | getDescriptor (type index : Byte) (len : BitVec 16) | getStatus (recipient : Fin 3) (index : Byte)
  | feature (set : Bool) (recipient : Fin 3) (selector index : Byte) | getConfiguration | getInterface (intf : Byte)
  | setAddress (addr : BitVec 7)
  deriving DecidableEq, Repr

/-- A request to the translator of a port of the multi-TT hub (USB 2.0 chapter 11). -/
inductive TtRequest
  | clearBuffer (dev : BitVec 7) (ep : BitVec 4) (isIn : Bool) | reset | getState (len : Byte) | stop
  deriving DecidableEq, Repr

/-- Requests to the hubs and the device function that have no row of their own (R236, R241, R242, R252): hub port requests other than
PORT_POWER, requests to a hub or its translators, standard requests, and the end of a port's reset. -/
inductive PortFeature
  | reset | resetDone (hs : Bool) | suspend | resume | l1 | disable | clearChange (bit : BitVec 4)
  | warmReset | u1Timeout (t : Byte) | u2Timeout (t : Byte) | enterU3 | enterU0 | clearChange3 (bit : BitVec 4)
  | idleTimer (u2 : Bool) | getStatus (ss : Bool) | getDescriptor (ss : Bool) | setAddress (ss : Bool) (addr : BitVec 7)
  | setConfiguration (ss : Bool) (config : Byte) | setDepth (depth : BitVec 16) | clearHalt (ss : Bool) | statusPoll (ss : Bool)
  | ofHub (ss : Bool) (r : StdRequest) | ofDevice (r : StdRequest) | tt (r : TtRequest)
  deriving DecidableEq, Repr

/-- Where a DISP commit falls (Table 7-5): two line times or more before the next latch point, within the last two, at one that is
still to be performed, or at the instant of the one performed last. -/
inductive CommitWindow
  | early | closing | atLatch | onLatch
  deriving DecidableEq, Repr

/-- An underrun (R163, R164): the line it cut short, and the complete lines that the buffers of Ground and Appliqué held as each line
since the last latch point was scanned. -/
structure ShortFrame where
  line : BitVec 12
  ground : List (Fin 9) := []
  apq : List (Fin 9) := []
  deriving DecidableEq, Repr

/-- What the ECC of the SDRAM finds on a read (R127): nothing, a corrected bit, or an uncorrectable error in a 64-byte line,
with the data as read. -/
inductive DramEcc
  | ok | corrected | uncorrectable (line : BitVec 26) (data : List Byte)
  deriving DecidableEq, Repr

/-- Where a TLP is that is to be routed (R216, R217): it comes in on the physical upstream or downstream link, or it is the oldest
that came through the tunnel with M5 tag 0x28. -/
inductive TlpFrom
  | upstream (tlp : List Byte) | downstream (tlp : List Byte) | tunnel
  deriving DecidableEq, Repr

/-- The header of a journal record whose CRC holds (R301): its number, its sender's epoch and the LAST flag. -/
structure JHdr where
  jseq : Word
  epoch : Word
  last : Bool
  deriving DecidableEq, Repr

/-- How a Type-C partner answers a request (chapter 11): it accepts, rejects or defers it, it is silent, or its answer is still
to come. -/
inductive PdAnswer
  | accept | reject | wait | silent | awaited
  deriving DecidableEq, Repr

/-- How a PD message of a type that no other row brings arrives (Table 11-2): as a control or data message, extended, in chunks or not,
as a VDM, structured or not, on SOP'', or as a BIST message with the mode that its object names. -/
inductive PdForm
  | control | data | extended (chunked : Bool) | vdm (structured : Bool) | sop2 | bist (mode : Fin 16)
  deriving DecidableEq, Repr
/-- A partner's answer to a discovery or Enter Mode message (R268): its identity header, whether it lists Veserlink and
DisplayPort, the DisplayPort pin assignments it offers, the modes of Veserlink, or a NAK. -/
inductive ModeAnswer
  | identity (hdr : BitVec 32) | svids (veser dp : Bool) | veserModes | dpModes (c d : Bool) | nak
  deriving DecidableEq, Repr

/-- What a DFP asks of the chip as UFP (R271). -/
inductive DiscoverWhat
  | identity | svids | modes (svid : BitVec 16) | exit (svid : BitVec 16)
  deriving DecidableEq, Repr

/-- What an AO evaluation finds (R278): both feeds, `COM_S` and `HS_SRC` in mV, the current through the sense resistor in mA,
and the level of `PP_EN`. -/
structure PpSense where
  feedA : Nat
  feedB : Nat
  com : Nat
  src : Nat
  cur : Int
  enable : Bool
  deriving DecidableEq, Repr

/-- What comes on EP0 around the status stage of a REG_WRITE (R255): a status IN, the ACK of its packet, the next SETUP, or a SETUP that
meets a transfer still in its SETUP or data stage. -/
inductive StatusStage
  | statusIn | ack | setup | setupEarly
  deriving DecidableEq, Repr

/-- What comes at a moment within the 4 ns tick of Plumb, and that moment in eighths of the tick (R191, R211). -/
structure Timed (α : Type) where
  val : α
  phase : Fin 8
  deriving DecidableEq, Repr

/-- The end of LOWPOWER at a link: this end drives the exit pattern (`own`), or the partner does (R53). -/
structure LpExit where
  port : Port
  own : Bool
  deriving DecidableEq, Repr

/-- What this end's receiver has come to when its sideband slot opens (R49, R63): its training phase, and the FFE_REQ that its
adaptation asks for, as the lane and five 2-bit codes, c−2 lowest. -/
structure SlotState where
  phase : Fin 3
  ffe : Option (Fin 4 × BitVec 10)
  deriving DecidableEq, Repr

/-- A link block as a receiver takes it (R54): what FEC makes of it, its 512 bytes of cells and its trailer. -/
structure BlockIn where
  port : Port
  fecOk : Bool
  data : List Byte
  trailer : BitVec 64
  deriving DecidableEq, Repr

/-- The bytes of a sideband frame that came in on a link, its preamble first (R63). -/
structure SbBytes where
  port : Port
  bytes : List Byte
  deriving DecidableEq, Repr

/-- What the RS decoder of a lane has counted in 1 ms (R74): codewords, corrected symbols, uncorrectable codewords. -/
structure FecTick where
  cw : BitVec 32
  corr : BitVec 32
  uncorr : BitVec 32
  deriving DecidableEq, Repr

/-- What the PRBS checker of a lane has counted in 1 ms (R75): bits checked, errors, and whether it is locked. -/
structure PrbsTick where
  bits : BitVec 64
  errors : BitVec 64
  lock : Bool
  deriving DecidableEq, Repr

/-- The payload of a tunnel cell, and whether the Truss does not take the cell yet (R32). -/
structure CellIn where
  payload : List Byte
  held : Bool
  deriving DecidableEq, Repr

/-- What a Pdelay_Req says (R201): its sequenceId and its sender's port identity. -/
structure PdelayReq where
  seq : BitVec 16
  port : BitVec 80
  deriving DecidableEq, Repr

/-- What the link layer of a PCIe port has had to repeat and to correct since its last TLP (Table 9-9). -/
structure LinkErrs where
  replays : Byte
  corr : Byte
  deriving DecidableEq, Repr

/-- `OC_N` of local port DS5 + `port`: low for 1 ms, or risen (R238). -/
structure OcEdge where
  port : Fin 3
  low : Bool
  deriving DecidableEq, Repr

/-- The remote wakes that a USB host has enabled: of the hub and of the device function (R256). -/
structure WakeFlags where
  hub : Bool
  dev : Bool
  deriving DecidableEq, Repr

/-- The commands and events of the TD7760: one constructor per row of the opcode table, in the table's order. -/
inductive Instr
  /-- A write to a register that has no row of its own acts as its access type states (R7, 00_scope.md). -/
  | registerWrite (p : Path) (addr : Addr) (v : Word)
  /-- A write of DEV.MODE_REQ starts a mode request, or is refused with BUSY or ILLEGAL (R21, 01_architecture.md). -/
  | modeRequest (p : Path) (target : BitVec 3)
  /-- A requested transition reaches its commit point, is checked, and updates CUR, PREV, TRANS_COUNT and REQ_BUSY together (R22, 01_architecture.md). -/
  | modeTransitionComplete
  /-- The named upstream has stayed lost for GRACE, and an island cause is declared (R25, 01_architecture.md). -/
  | islandGraceExpiry
  /-- No DEV.HOST_KICK arrived within the watchdog period, and an island cause is declared (R25, 01_architecture.md). -/
  | hostWatchdogExpiry
  /-- A write of DEV.HOST_KICK restarts the host watchdog (R457, 01_architecture.md). -/
  | hostKick
  /-- A DEV COMMIT applies the hub ID, the island plan and the keep set, and sets HID.COMMITTED (R430, 18_register_pages.md). -/
  | devCommit
  /-- A write of PM.LEVEL_REQ is accepted or refused for busy, admission or rim rate (R35, 02_speed_contract.md). -/
  | levelRequest (target : BitVec 2)
  /-- VREADY is seen after blanking during a level change, and the next Raise or Lower step proceeds (R363, 16_power_states_reset_and_wipe.md). -/
  | levelVready
  /-- The rim clock and SDRAM rate change of a level step completes, and the change moves on or completes (R363, 16_power_states_reset_and_wipe.md). -/
  | levelRimChangeDone
  /-- VREADY is not high at the end of VRDY_TIMEOUT during a level change or its restoration (R364, 16_power_states_reset_and_wipe.md). -/
  | levelVreadyTimeout
  /-- The speed gauge is sampled every 1 µs and the cycle is compared with SPD.LIMIT_PS (R39, 02_speed_contract.md). -/
  | speedGaugeSample (cycle : BitVec 16)
  /-- Every STEP_US the pace guard paces one more class or restores one (R42, 02_speed_contract.md). -/
  | paceGuardStep
  /-- Writing EN 0 to SPD.PACE_GUARD restores all paced classes at once (R43, 02_speed_contract.md). -/
  | paceGuardDisable
  /-- A read of SPD.CYCLE_MAX or CYCLE_MIN returns the extreme and resets it (R40, 02_speed_contract.md). -/
  | spdExtremeRead (max : Bool)
  /-- An Enter Mode ACK sets the mux within 1 ms, and Veserlink hands the port to the link layer (R272, 11_type_c_and_power_delivery.md). -/
  | enterModeAckReceived (n : Fin 4)
  /-- DETECT lasts 5 ms without partner sideband presence, and the link returns to DOWN (R51, 03_veserlink_cable_link.md). -/
  | detectTimeout (n : Port)
  /-- Training completes with at least one lane locked per direction, and the link enters AUTH (R48, 03_veserlink_cable_link.md). -/
  | trainLanesLocked (n : Port) (mask : BitVec 4)
  /-- TRAIN fails or exceeds 25 ms, and the link goes DOWN (R51, 03_veserlink_cable_link.md). -/
  | trainTimeout (n : Port)
  /-- A lane fails to lock on stored coefficients within 100 µs of a RETRAIN, and full training of that lane follows (R48, 03_veserlink_cable_link.md). -/
  | storedCoeffLockTimeout (n : Port) (k : Fin 4)
  /-- An expected AUTH sideband frame does not arrive, and AUTH fails with kind 3 (R403, 17_lifecycle_and_keys.md). -/
  | authFrameMissing (n : Port)
  /-- Loss of signal takes the link DOWN, suspends its tunnels, discards its replay buffer and starts the hold and retry timers (R67, 03_veserlink_cable_link.md). -/
  | linkLoss (n : Port)
  /-- Three sideband rounds pass without a good partner frame in UP or LOWPOWER, a link loss with reason 0x1 (R63, 03_veserlink_cable_link.md). -/
  | sidebandLoss (n : Port)
  /-- Setting LINK.CTRL.FORCE_DOWN takes the link DOWN with reason 0x7 (R51, 03_veserlink_cable_link.md). -/
  | linkForceDown (n : Port)
  /-- RETRAIN succeeds, the link returns to UP and the replay buffer is replayed in full (R52, 03_veserlink_cable_link.md). -/
  | retrainSuccess (n : Port) (mask : BitVec 4)
  /-- RETRAIN lasts 10 ms without success, and the link goes DOWN as a link loss (R51, 03_veserlink_cable_link.md). -/
  | retrainTimeout (n : Port)
  /-- No non-NULL cell has been sent for LP_IDLE_US with LP_ALLOW set, and LP_REQ is sent (R53, 03_veserlink_cable_link.md). -/
  | lpIdleTimer (n : Port)
  /-- An end with a cell to send drives the exit pattern, and both directions return to UP within 2 µs (R53, 03_veserlink_cable_link.md). -/
  | lowpowerExit (e : LpExit)
  /-- A link block is checked by FEC, BCRC and LSEQ, and is accepted, discarded as duplicate or answered by NAK (R54, 03_veserlink_cable_link.md). -/
  | linkBlockReceived (n : Port) (fecOk turned : Bool) (data : List Byte) (trailer : BitVec 64)
  /-- A NAK makes the transmitter resend from the named block in order (R55, 03_veserlink_cable_link.md). -/
  | nakReceived (n : Port) (lseq : BitVec 12)
  /-- A cumulative ACK frees acknowledged blocks from the replay buffer (R55, 03_veserlink_cable_link.md). -/
  | ackReceived (n : Port) (lseq : BitVec 12)
  /-- 500 ns pass while blocks arrive, and the receiver sends a cumulative ACK (R55, 03_veserlink_cable_link.md). -/
  | ackSendTimer (n : Port)
  /-- The ACK timer expires, and all unacknowledged blocks are replayed (R56, 03_veserlink_cable_link.md). -/
  | ackTimeout (n : Port)
  /-- A ROLE cell updates PARTNER_ROLE and PARTNER_EPOCH (R57, 03_veserlink_cable_link.md). -/
  | roleCellReceived (n : Port) (role : BitVec 8) (epoch : Word)
  /-- Every 100 µs the link sends a ROLE cell (R57, 03_veserlink_cable_link.md). -/
  | roleCellTimer (n : Port)
  /-- A CRD_RESYNC cell sets the transmitter's credit counts to the values received (R58, 03_veserlink_cable_link.md). -/
  | crdResyncReceived (n : Port) (counts : Vector (BitVec 16) 8)
  /-- A CTAG cell's GCM tag is checked for its segment; a mismatch takes the link DOWN (R406, 17_lifecycle_and_keys.md). -/
  | ctagReceived (n : Port) (seg : BitVec 64) (tag : List Byte)
  /-- No CTAG for a segment by the end of block 64s + 65, and the link goes DOWN with reason 0x6 (R406, 17_lifecycle_and_keys.md). -/
  | ctagDeadline (n : Port)
  /-- A write of LINK.SPLIT_REQ is checked and starts a re-allotment negotiation (R60, 03_veserlink_cable_link.md). -/
  | splitRequest (n : Port) (target : BitVec 3)
  /-- This end's sideband slot opens and it sends one frame, IDLE if it has nothing else (R63, 03_veserlink_cable_link.md). -/
  | sidebandSlot (n : Port) (st : SlotState)
  /-- An IDLE sideband frame shows partner presence, and in DETECT moves the link to TRAIN (R63, 03_veserlink_cable_link.md). -/
  | sbIdleReceived (n : Port)
  /-- A TRAIN_STATE frame reports the partner's training phase, locks and stored sets (R65, 03_veserlink_cable_link.md). -/
  | sbTrainStateReceived (n : Port) (phase locked stored : Byte)
  /-- An FFE_REQ adapts this end's transmit taps, answered by FFE_STATUS (R49, 03_veserlink_cable_link.md). -/
  | sbFfeReqReceived (n : Port) (lane codes0 codes1 : Byte)
  /-- An FFE_STATUS reports the taps the partner applied or refused (R65, 03_veserlink_cable_link.md). -/
  | sbFfeStatusReceived (n : Port) (payload : Vector Byte 7)
  /-- A SPLIT_REQ frame is answered with SPLIT_ACK or SPLIT_NAK (R60, 03_veserlink_cable_link.md). -/
  | sbSplitReqReceived (n : Port) (target : BitVec 8)
  /-- A SPLIT_ACK makes the losing end send TURN and stop data blocks (R60, 03_veserlink_cable_link.md). -/
  | sbSplitAckReceived (n : Port) (target : BitVec 8)
  /-- A SPLIT_NAK abandons the re-allotment with RESULT REFUSED (R62, 03_veserlink_cable_link.md). -/
  | sbSplitNakReceived (n : Port) (target reason : BitVec 8)
  /-- An LP_REQ is answered with LP_ACK or LP_NAK (R53, 03_veserlink_cable_link.md). -/
  | sbLpReqReceived (n : Port)
  /-- An LP_ACK completes the LOWPOWER entry agreement (R53, 03_veserlink_cable_link.md). -/
  | sbLpAckReceived (n : Port)
  /-- An LP_NAK leaves the link UP (R65, 03_veserlink_cable_link.md). -/
  | sbLpNakReceived (n : Port)
  /-- A WAKE frame while DOWN with a retry timer ends the timer and enters DETECT (R65, 03_veserlink_cable_link.md). -/
  | sbWakeReceived (n : Port)
  /-- A DOWN_REASON frame records the partner's reason in PARTNER_REASON (R64, 03_veserlink_cable_link.md). -/
  | sbDownReasonReceived (n : Port) (reason : Byte)
  /-- An AUTH_HELLO fragment delivers the partner's ID, nonce and KEYED flag (R403, 17_lifecycle_and_keys.md). -/
  | sbAuthHelloReceived (n : Port) (frag : Byte) (body : List Byte)
  /-- An AUTH_PROOF fragment is checked against the partner's expected proof (R403, 17_lifecycle_and_keys.md). -/
  | sbAuthProofReceived (n : Port) (frag : Byte) (body : List Byte)
  /-- An AUTH_DONE ends AUTH in success or failure by kind (R403, 17_lifecycle_and_keys.md). -/
  | sbAuthDoneReceived (n : Port) (kind : Byte)
  /-- A TURN block makes both ends reverse each turned lane and lock it on stored coefficients (R60, 03_veserlink_cable_link.md). -/
  | turnBlockReceived (b : BlockIn)
  /-- Turned lanes lock at the receiving end, which sends TURN_DONE and resumes striping (R60, 03_veserlink_cable_link.md). -/
  | turnedLanesLocked (n : Port)
  /-- TURN_DONE sets SPLIT to the new code, clears SPLITTING and sets RESULT (R60, 03_veserlink_cable_link.md). -/
  | turnDoneReceived (n : Port) (split : BitVec 8)
  /-- A turned lane fails to lock within 100 µs, and RETRAIN restores the prior configuration with ABORTED (R62, 03_veserlink_cable_link.md). -/
  | turnLockTimeout (n : Port)
  /-- The hold timer expires, and suspended tunnels are torn down with their queued cells counted (R70, 03_veserlink_cable_link.md). -/
  | holdExpiry (n : Port)
  /-- The retry timer ends and the port enters DETECT (R68, 03_veserlink_cable_link.md). -/
  | retryExpiry (n : Port)
  /-- Each 1 ms the uncorrectable codewords are compared with FEC_THRESH, raising source 5n+1 above it (R54, 03_veserlink_cable_link.md). -/
  | fecRateInterval (n : Port)
  /-- A write of LANE.CTRL.FREEZE holds or releases the lane's coefficients (R50, 03_veserlink_cable_link.md). -/
  | laneFreezeWrite (p : Fin 28) (k : Fin 4) (freeze : Bool)
  /-- A coefficient write takes effect while FREEZE is 1 and is ignored otherwise (R50, 03_veserlink_cable_link.md). -/
  | laneCoeffWrite (p : Fin 28) (k : Fin 4) (i : Fin 5) (v : Word)
  /-- A write enabling a loop or PRBS is permitted only on an idle lane, and in SERVICE takes an UP link DOWN (R75, 03_veserlink_cable_link.md). -/
  | laneTestEnable (p : Fin 28) (k : Fin 4) (prbs : Bool) (v : Word)
  /-- Setting LANE.PRBS_CTRL.INJ inverts one transmitted bit and self-clears (R75, 03_veserlink_cable_link.md). -/
  | prbsInject (p : Fin 28) (k : Fin 4)
  /-- Every 1 ms LANE.BER_EST is updated from corrected symbols (R74, 03_veserlink_cable_link.md). -/
  | berEstimateUpdate (p : Fin 28) (k : Fin 4) (fec : FecTick) (prbs : PrbsTick)
  /-- The origin takes a cell from its adapter, assigns SEQ and keeps it outstanding if reliable, or waits on a full window (R84, 04_tunnels_and_domain.md). -/
  | originCellIngress (m : Mort) (offer : Option (Byte × List Byte))
  /-- A tunnel cell arriving at a mortise is checked, looked up by (mortise, TID), label-swapped and placed (R77, 04_tunnels_and_domain.md). -/
  | tunnelCellArrival (n : Port) (header : BitVec 64) (cell : CellIn)
  /-- 10 µs pass with unacknowledged accepted cells, and the terminus sends E2E_ACK (R87, 04_tunnels_and_domain.md). -/
  | e2eAckTimer (i : BitVec 8)
  /-- 5 µs pass while E does not advance after a gap, and E2E_GAP is sent again (R87, 04_tunnels_and_domain.md). -/
  | e2eGapRepeatTimer (i : BitVec 8)
  /-- An E2E_ACK frees outstanding cells before E and restarts the end-to-end timer (R88, 04_tunnels_and_domain.md). -/
  | e2eAckReceived (i : BitVec 8) (e : BitVec 10)
  /-- An E2E_GAP makes the origin resend retained cells from E in order (R88, 04_tunnels_and_domain.md). -/
  | e2eGapReceived (i : BitVec 8) (e : BitVec 10)
  /-- A RESUME makes the origin resend every retained cell at once (R89, 04_tunnels_and_domain.md). -/
  | resumeReceived (i : BitVec 8)
  /-- The end-to-end timer expires, retained cells are resent and the tunnel may become STALLED (R88, 04_tunnels_and_domain.md). -/
  | e2eTimerExpiry (i : BitVec 8)
  /-- A TID 0 frame is delivered to M11 or routed by TUN.HROUTE, or discarded if unrouted (R90, 04_tunnels_and_domain.md). -/
  | tid0FrameArrival (n : Port) (frame : List Byte)
  /-- A TID 2 event cell is forwarded towards EVT_ROUTE or delivered to the host queue (R91, 04_tunnels_and_domain.md). -/
  | eventCellArrival (n : Port) (frame : List Byte)
  /-- A TUN COMMIT checks the staged table as a whole and applies it at one instant or refuses it (R94, 04_tunnels_and_domain.md). -/
  | tunCommit
  /-- A write of TUN.IDX selects an entry and snapshots its TSTATE, QCELLS and OUTSTANDING (R98, 04_tunnels_and_domain.md). -/
  | tunIdxWrite (v : Word)
  /-- A cell held at an ingress bobbin queue is tested again when a cell leaves the Loft (R102, 05_truss_switch_and_buffers.md). -/
  | waitingCellRetry (m : Mort)
  /-- A SPILLING queue is filled from its overflow list or staging chunk, possibly leaving SPILLING (R105, 05_truss_switch_and_buffers.md). -/
  | overflowFill (q : Fin 272) (ecc : DramEcc)
  /-- An egress mortise grants its next item by tier, fair-queue tag, shaper credit and gate (R133, 06_scheduling_and_windows.md). -/
  | egressGrant (m : Mort) (blockEnd : Timed Bool) (ecc : LoftEcc)
  /-- A MAC or USB 3 egress finds the next cell of a cut-through frame missing and ends the frame natively (R109, 05_truss_switch_and_buffers.md). -/
  | cutThroughUnderrun (i : BitVec 8)
  /-- Writing 1 to SWC.BQ_CTRL.FLUSH requests a bobbin queue flush (R115, 05_truss_switch_and_buffers.md). -/
  | bqFlushRequest (m : Mort) (egress : Bool) (ct : BitVec 6)
  /-- At the next packet boundary the flush discards words up to the marked packet end (R115, 05_truss_switch_and_buffers.md). -/
  | bqFlushEffect (b : BitVec 5)
  /-- A pointer or tag mismatch resets the queue and starts a Loft sweep (R117, 05_truss_switch_and_buffers.md). -/
  | queuePointerMismatch (q : Fin 272)
  /-- The sweep has freed every cell and chunk of the queue, which is empty again (R117, 05_truss_switch_and_buffers.md). -/
  | queueSweepDone (q : Fin 272)
  /-- A write of SWC.BQ_SEL snapshots the selected bobbin queue status (R131, 05_truss_switch_and_buffers.md). -/
  | swcBqSelWrite (v : Word)
  /-- A write of BUF.QSEL snapshots the selected queue status and overflow count (R131, 05_truss_switch_and_buffers.md). -/
  | bufQselWrite (v : Word)
  /-- Writing MEM.CTRL.INIT starts SDRAM initialisation and training (R124, 05_truss_switch_and_buffers.md). -/
  | memInit
  /-- Initialisation ends with READY or INIT_FAIL and source 51 (R124, 05_truss_switch_and_buffers.md). -/
  | memInitComplete (ok : Bool)
  /-- After its wait condition or 2 ms, the SDRAM enters self-refresh, changes rate and recalibrates (R125, 05_truss_switch_and_buffers.md). -/
  | sdramRateChange
  /-- A MEM COMMIT applies the region bases and sizes or refuses them (R126, 05_truss_switch_and_buffers.md). -/
  | memCommit
  /-- Each second the corrected errors are compared with ECC_THRESH, raising source 48 above it (R127, 05_truss_switch_and_buffers.md). -/
  | eccSecondInterval
  /-- Patrol scrub reads a line and writes it back if corrected (R129, 05_truss_switch_and_buffers.md). -/
  | patrolScrubSlot (forced : Bool) (ecc : DramEcc)
  /-- After 1 h continuously behind, SCRUB_BEHIND is set and source 50 raised (R129, 05_truss_switch_and_buffers.md). -/
  | scrubBehindHour
  /-- A refresh falls due and is issued or postponed under display urgency (R130, 05_truss_switch_and_buffers.md). -/
  | refreshDue (urgent : Bool)
  /-- The ZQ short interval elapses and calibration runs or is deferred (R130, 05_truss_switch_and_buffers.md). -/
  | zqShortDue (urgent : Bool)
  /-- ZQ calibration deferred for 8 ms is forced, blocking the channel for at most 1 µs (R129, 05_truss_switch_and_buffers.md). -/
  | zqForceExpiry
  /-- An SCH COMMIT checks and applies the staged shapers, weights and gates or refuses them (R150, 06_scheduling_and_windows.md). -/
  | schCommit (m : Mort)
  /-- Plumb reaches a gate entry boundary and the next window's open mask comes into force (R145, 06_scheduling_and_windows.md). -/
  | gateWindowBoundary (g : Fin 12)
  /-- At the first cycle start 2 µs after the commit the new gate schedule takes over (R147, 06_scheduling_and_windows.md). -/
  | gateScheduleSwitch (g : Fin 12)
  /-- Setting DISP.CTRL.EN starts the raster, fencing the buffers in force, unless memory or timing forbid it (R152, 07_panel_display_engine.md). -/
  | dispEnableWrite (v : Word)
  /-- Clearing DISP.CTRL.EN applies a pending set at once and ends every fence (R458, 07_panel_display_engine.md). -/
  | dispDisableWrite (v : Word)
  /-- A 4-byte channel frame sets the channel's line cursor (R154, 07_panel_display_engine.md). -/
  | positionFrame (tag : Byte)
  /-- A line frame is written to its line in frame memory, or held by a fence (R154, 07_panel_display_engine.md). -/
  | lineFrame (tag : Byte)
  /-- A DISP COMMIT applies the channel set at once and stages the scanout set for a latch point (R165, 07_panel_display_engine.md). -/
  | dispCommit (miss : Bool)
  /-- The raster reaches line VACT; a pending scanout set takes effect and FRAME_COUNT rises (R166, 07_panel_display_engine.md). -/
  | latchPoint (ground apq : List (Fin 9)) (ecc : DramEcc)
  /-- A pixel falls due that is not in its line buffer; the line goes black and the raster jumps (R164, 07_panel_display_engine.md). -/
  | lineUnderrun (line : ShortFrame)
  /-- A superseded buffer's last fetch completes and a release entry is pushed (R170, 07_panel_display_engine.md). -/
  | bufferRelease (layer : Fin 2)
  /-- A read of DISP.BUF_RELEASE pops one release entry (R170, 07_panel_display_engine.md). -/
  | bufReleaseRead
  /-- A write held by a fence proceeds once no extent it touches is fenced (R169, 07_panel_display_engine.md). -/
  | fencedWriteProceed (tag : Option (Fin 16))
  /-- A tearing-effect edge releases or relocks the raster (R171, 07_panel_display_engine.md). -/
  | teEdge (k : Fin 2) (falling : Bool)
  /-- No TE edge within two frame times; the raster runs free and source 59 is raised (R172, 07_panel_display_engine.md). -/
  | teMissing
  /-- Loss of HPD stops a DisplayPort output and raises source 60 (R162, 07_panel_display_engine.md). -/
  | hpdLoss (o : Fin 6)
  /-- HPD returns and the output retrains if AUTO_TRAIN is 1 (R162, 07_panel_display_engine.md). -/
  | hpdReturn (o : Fin 6)
  /-- The stale timer expires and a stale cause holds (R174, 07_panel_display_engine.md). -/
  | staleTimeoutExpiry
  /-- An access of DISP.IMG_DATA reads or writes an image word and advances IMG_ADDR (R157, 07_panel_display_engine.md). -/
  | imgDataAccess (write : Option Word)
  /-- A DOUT COMMIT checks bandwidth and timing and applies the output at the next latch point (R161, 07_panel_display_engine.md). -/
  | doutCommit (k : Fin 4)
  /-- A write of AUX_CMD or DCS_HDR starts an AUX or DCS transaction (R160, 07_panel_display_engine.md). -/
  | auxTransactionStart (k : Fin 8) (v : Word)
  /-- The AUX or DCS transaction ends with its reply or timeout (R160, 07_panel_display_engine.md). -/
  | auxTransactionDone (k : Fin 8) (reply : BitVec 2) (report : BitVec 16) (data : List Byte)
  /-- Setting MAC.CTRL.EN starts the MAC in the selected mode (R178, 08_ethernet_and_plumb_time.md). -/
  | macEnable (k : Fin 4) (md : Fin 4)
  /-- A MAC loses link or sees remote fault and raises its source (R178, 08_ethernet_and_plumb_time.md). -/
  | macLinkLoss (k : Fin 4) (remote : Bool)
  /-- A received frame is checked, stamped, classified and sent into the tunnels of its set (R179, 08_ethernet_and_plumb_time.md). -/
  | macFrameReceived (k : Fin 4) (frame : Timed (List Byte)) (parity : Bool)
  /-- A frame leaves a MAC, with residence correction for Sync, Delay_Req and Follow_Up (R203, 08_ethernet_and_plumb_time.md). -/
  | macFrameTransmit (tag : Byte) (stamp : Option (BitVec 48 × BitVec 32)) (frame : Timed (List Byte))
  /-- Each second FCS errors are compared with FCS_THRESH, raising source 68 above it (R179, 08_ethernet_and_plumb_time.md). -/
  | fcsSecondInterval (k : Fin 4)
  /-- FWD.CMD INSERT adds or updates a key (R188, 08_ethernet_and_plumb_time.md). -/
  | fwdInsert
  /-- FWD.CMD DELETE removes a key (R188, 08_ethernet_and_plumb_time.md). -/
  | fwdDelete
  /-- FWD.CMD LOOKUP finds a key and sets the result registers (R188, 08_ethernet_and_plumb_time.md). -/
  | fwdLookup (parity : Bool)
  /-- FWD.CMD FLUSH_ALL empties the table (R188, 08_ethernet_and_plumb_time.md). -/
  | fwdFlushAll
  /-- A FWD COMMIT applies the staged tunnel sets between two lookups (R190, 08_ethernet_and_plumb_time.md). -/
  | fwdCommit
  /-- At each 250 MHz tick Plumb advances by its adjusted increment (R191, 08_ethernet_and_plumb_time.md). -/
  | timeTick
  /-- A write of TIME.SNAP captures one coherent Plumb sample (R192, 08_ethernet_and_plumb_time.md). -/
  | timeSnap
  /-- TIME.ADJ_CMD SET loads TIME.SET into Plumb at the next tick (R193, 08_ethernet_and_plumb_time.md). -/
  | timeAdjSet
  /-- TIME.ADJ_CMD STEP adds STEP_NS to Plumb at the next tick (R193, 08_ethernet_and_plumb_time.md). -/
  | timeAdjStep
  /-- Every 1 ms each UP link sends a DREQ (R195, 08_ethernet_and_plumb_time.md). -/
  | dreqTimer (n : Port)
  /-- A DREQ is answered with a DRESP within 10 µs (R195, 08_ethernet_and_plumb_time.md). -/
  | dreqReceived (n : Port) (seq : Timed (BitVec 16))
  /-- A DRESP gives the link's delay and offset (R196, 08_ethernet_and_plumb_time.md). -/
  | drespReceived (n : Port) (seq : Timed (BitVec 16)) (t2 t3 : BitVec 96) (state depth : Byte)
  /-- No valid offset for the loss time; Plumb enters HOLDOVER (R198, 08_ethernet_and_plumb_time.md). -/
  | timeSourceLoss
  /-- Every 1 s the MAC sends Pdelay_Req (R201, 08_ethernet_and_plumb_time.md). -/
  | pdelayReqTimer (k : Timed (Fin 4))
  /-- A Pdelay_Req is answered with a one-step Pdelay_Resp (R201, 08_ethernet_and_plumb_time.md). -/
  | pdelayReqReceived (k : Fin 4) (req : PdelayReq) (turnaround : Word)
  /-- A Pdelay_Resp updates MAC.PDELAY and PDELAY_VALID (R201, 08_ethernet_and_plumb_time.md). -/
  | pdelayRespReceived (k : Fin 4) (seq : Timed (BitVec 16)) (turnaround : BitVec 48)
  /-- A two-step table entry expires after 1 s (R204, 08_ethernet_and_plumb_time.md). -/
  | twoStepEntryExpiry (k : Fin 4) (egress : Bool)
  /-- A time tunnel frame at M12 enters the message receive buffer or is dropped (R206, 08_ethernet_and_plumb_time.md). -/
  | msgPortDelivery (tag : Byte) (stamp : Option (BitVec 48 × BitVec 32)) (data : List Byte)
  /-- A read of TIME.MSG_RX pops the next receive word (R206, 08_ethernet_and_plumb_time.md). -/
  | msgRxRead
  /-- A write of TIME.MSG_TX_GO sends the staged frame into its time tunnel (R206, 08_ethernet_and_plumb_time.md). -/
  | msgTxGo (tag : Byte) (len : BitVec 16)
  /-- Plumb passes a second plus offset and PPS_OUT rises for WIDTH (R207, 08_ethernet_and_plumb_time.md). -/
  | ppsOutEdge
  /-- A PPS_IN edge is stamped and may give a PPS offset (R208, 08_ethernet_and_plumb_time.md). -/
  | ppsInEdge (falling : Timed Bool)
  /-- No PPS_IN edge for 1.5 s raises source 103 (R198, 08_ethernet_and_plumb_time.md). -/
  | ppsInMissing
  /-- An edge on EVT<k> starts a stamped candidate (R209, 08_ethernet_and_plumb_time.md). -/
  | evtPinEdge (k : Fin 8) (level : Timed Bool)
  /-- The candidate level has held for DEBOUNCE and a record is made (R209, 08_ethernet_and_plumb_time.md). -/
  | evtDebounceExpiry (k : Fin 8)
  /-- Writing PCIE.CTRL.RETRAIN retrains the link to the capped rate (R215, 09_pcie_and_dowel_bridge.md). -/
  | pcieRetrain (k : Fin 2) (speed : Fin 4) (width : Fin 3) (ok : Bool)
  /-- A hot reset or link-down of the upstream port applies a new BAR4 size (R221, 09_pcie_and_dowel_bridge.md). -/
  | upstreamHotReset
  /-- A TLP at M5 or M6 is routed by switch rules into its VDP tunnel as one frame (R217, 09_pcie_and_dowel_bridge.md). -/
  | tlpReceived (src : TlpFrom) (errs : LinkErrs) (ecc : DramEcc)
  /-- A BAR0 request accesses one register word or is refused (R220, 09_pcie_and_dowel_bridge.md). -/
  | bar0Request (tag : Byte) (off : Addr) (be : BitVec 4) (dws : BitVec 10) (write : Option Word)
  /-- A BAR4 request reads or writes frame memory, subject to range and fences (R220, 09_pcie_and_dowel_bridge.md). -/
  | bar4Request (tag : BitVec 24) (off : BitVec 32) (write : Option (List Byte)) (len : BitVec 13) (ecc : DramEcc)
  /-- A posted write to a send window builds, sends or discards a frame (R222, 09_pcie_and_dowel_bridge.md). -/
  | sendWindowWrite (t : Fin 16) (off : BitVec 20) (data : List Byte)
  /-- A read in an outbound window performs local cycles or is served from prefetch (R227, 09_pcie_and_dowel_bridge.md). -/
  | outboundRead (w : Fin 8) (tag : BitVec 24) (off : BitVec 26) (enables : List Bool)
  /-- A write in an outbound window is buffered or performed alone on the local bus (R228, 09_pcie_and_dowel_bridge.md). -/
  | outboundWrite (w : Fin 8) (off : BitVec 26) (enables : List Bool) (data : List Byte)
  /-- Prefetched data is discarded 10 µs after its fetch (R227, 09_pcie_and_dowel_bridge.md). -/
  | prefetchExpiry (w : Fin 8)
  /-- A cycle of a posted write ends in error; remaining cycles are skipped and captured (R229, 09_pcie_and_dowel_bridge.md). -/
  | postedWriteFailure (timeout : Bool)
  /-- A beat without answer for TMO clocks ends the cycle in error (R224, 09_pcie_and_dowel_bridge.md). -/
  | lbBeatTimeout
  /-- Writing 1 to PERR_WINDOW.VALID releases the capture (R229, 09_pcie_and_dowel_bridge.md). -/
  | perrCaptureRelease
  /-- LB_REQ_N falls; the TD7760 finishes its cycle, releases the bus and grants (R225, 09_pcie_and_dowel_bridge.md). -/
  | lbRequest
  /-- LB_REQ_N rises and the bus returns to the TD7760 (R225, 09_pcie_and_dowel_bridge.md). -/
  | lbRequestRelease
  /-- The master has held the bus for GNT_MAX with work pending; the grant is withdrawn (R225, 09_pcie_and_dowel_bridge.md). -/
  | lbGrantMaxExpiry
  /-- LB_INT_N low raises source 90 (R223, 09_pcie_and_dowel_bridge.md). -/
  | lbIntLow (low : Bool)
  /-- A local master cycle in an inbound window is claimed and sent to PCIe, or answered by retry (R231, 09_pcie_and_dowel_bridge.md). -/
  | inboundCycle (addr : BitVec 26) (write : Bool) (be : List (BitVec 4)) (lanes : List (List Byte))
  /-- An inbound read without data at 2 µs is retried and becomes a delayed transaction (R232, 09_pcie_and_dowel_bridge.md). -/
  | inboundReadDefer
  /-- A completion arrives for a delayed transaction slot (R232, 09_pcie_and_dowel_bridge.md). -/
  | dtCompletionArrival (slot : Fin 5) (status : Fin 5) (data : List Byte)
  /-- A ready slot not retried within 1 ms is freed (R232, 09_pcie_and_dowel_bridge.md). -/
  | dtSlotExpiry (slot : Fin 4)
  /-- A bridge frame at the terminus is performed as a posted local write or refused (R233, 09_pcie_and_dowel_bridge.md). -/
  | bridgeFramePerform (frame : List Byte)
  /-- BRG.MA_CMD read performs one local read cycle (R234, 09_pcie_and_dowel_bridge.md). -/
  | maRead (be : BitVec 4)
  /-- BRG.MA_CMD write performs one local write cycle (R234, 09_pcie_and_dowel_bridge.md). -/
  | maWrite (be : BitVec 4)
  /-- The management cycle ends with OK, ERR or TIMEOUT (R234, 09_pcie_and_dowel_bridge.md). -/
  | maCycleDone (result : Fin 3) (lanes : List Byte)
  /-- A PSW or BRG COMMIT applies the staged windows or refuses them (R235, 09_pcie_and_dowel_bridge.md). -/
  | pswBrgCommit (brg : Bool)
  /-- Setting EN checks the upstream source combination and enables the hubs (R239, 10_usb_hub_and_device.md). -/
  | usbHubEnable (usb3 : Bool) (v : Word)
  /-- VBUS presence on the chosen UFP connects the D+ pull-up (R240, 10_usb_hub_and_device.md). -/
  | usbUpVbusDetect
  /-- OC_N low for 1 ms removes port power and raises source 81 (R238, 10_usb_hub_and_device.md). -/
  | localPortOvercurrent (oc : OcEdge)
  /-- SetPortFeature or ClearPortFeature(PORT_POWER) switches a local port's power (R238, 10_usb_hub_and_device.md). -/
  | setPortPower (p : BitVec 5) (on ocHigh : Bool)
  /-- Babble or a port error disables a local port and raises source 81 (R241, 10_usb_hub_and_device.md). -/
  | portErrorDisable (p : BitVec 3) (ss : Bool)
  /-- A USB 3 PACKET tunnel frame is delivered to its virtual port (R244, 10_usb_hub_and_device.md). -/
  | usb3PacketFrame (tag : Byte) (frame : List Byte) (aborted : Bool)
  /-- A LINK_STATE frame moves the virtual port's connection or power state (R245, 10_usb_hub_and_device.md). -/
  | usb3LinkStateFrame (tag : Byte) (frame : List Byte)
  /-- A dock performs a SPLIT_REQ transaction on its remote port (R248, 10_usb_hub_and_device.md). -/
  | ttSplitReqFrame (p : BitVec 3) (frame : List Byte) (pid : Byte) (data : List Byte)
  /-- A SPLIT_RESULT reaches the host-side TT buffer or entry (R249, 10_usb_hub_and_device.md). -/
  | ttSplitResultFrame (k : Fin 8) (frame : List Byte) (late : Bool)
  /-- A dock performs reset, suspend, resume or disable on its remote port (R248, 10_usb_hub_and_device.md). -/
  | ttPortCmdFrame (p : BitVec 3) (frame : List Byte) (chirp : Bool)
  /-- A PORT_STATUS updates the translated port and sets BOUND (R248, 10_usb_hub_and_device.md). -/
  | ttPortStatusFrame (k : Fin 8) (frame : List Byte)
  /-- The dock sends PORT_STATUS after 2 ms of stability or every 100 ms (R248, 10_usb_hub_and_device.md). -/
  | portStatusTimer (p : BitVec 3)
  /-- No PORT_STATUS for 300 ms unbinds the translated port (R248, 10_usb_hub_and_device.md). -/
  | portStatusTimeout (k : Fin 8)
  /-- A start-split is acknowledged and forwarded, NAKed or refused (R249, 10_usb_hub_and_device.md). -/
  | startSplit (k : Fin 8) (pid : Byte) (isIn : Bool) (dev : BitVec 7) (ls : Bool) (ep : BitVec 4) (kind : Fin 4) (frameNo : BitVec 11) (uframe : BitVec 3) (dataPid : Byte) (data : List Byte)
  /-- A complete-split is answered with the result, NYET or ERR (R249, 10_usb_hub_and_device.md). -/
  | completeSplit (k : Fin 8) (dev : BitVec 7) (ep : BitVec 4) (isIn : Bool)
  /-- A non-periodic request has no result within TT_TIMEOUT (R249, 10_usb_hub_and_device.md). -/
  | ttTimeoutExpiry (k : Fin 8) (handle : Byte)
  /-- EP1 IN sends the status on change or NAKs (R252, 10_usb_hub_and_device.md). -/
  | ep1InToken
  /-- EP2 IN sends up to 64 queued event records or a zero-length packet (R253, 10_usb_hub_and_device.md). -/
  | ep2InToken
  /-- A REG_READ vendor request returns a register or is stalled by the gate (R254, 10_usb_hub_and_device.md). -/
  | regReadRequest (addr : Addr) (len : BitVec 16)
  /-- A REG_WRITE vendor request holds its data for the status stage (R254, 10_usb_hub_and_device.md). -/
  | regWriteRequest (addr : Addr) (len : BitVec 16) (v : Word)
  /-- The status ACK or next SETUP applies a held REG_WRITE once (R255, 10_usb_hub_and_device.md). -/
  | regWriteStatusStage (event : StatusStage)
  /-- An EP3 OUT register-access frame is executed or routed into the domain (R254, 10_usb_hub_and_device.md). -/
  | ep3OutFrame (frame : List Byte) (repeated : Bool)
  /-- A bus reset abandons any control transfer, clears address and halts and closes the gate (R255, 10_usb_hub_and_device.md). -/
  | usbBusReset (control : Bool)
  /-- CLEAR_FEATURE(ENDPOINT_HALT) clears a halt and resets the toggle (R251, 10_usb_hub_and_device.md). -/
  | clearEndpointHalt (e : Fin 4)
  /-- SET_CONFIGURATION resets toggles of all endpoints (R251, 10_usb_hub_and_device.md). -/
  | setConfiguration (addr : BitVec 7) (config : Byte)
  /-- A wake cause on a suspended bus drives K for 2 ms upstream (R256, 10_usb_hub_and_device.md). -/
  | remoteWake (src : Option (BitVec 7)) (kSeen : Bool)
  /-- The 2 ms K drive ends and the host's resume completes (R256, 10_usb_hub_and_device.md). -/
  | remoteWakeEnd
  /-- An attach is debounced for 120 ms and the port takes its roles (R258, 11_type_c_and_power_delivery.md). -/
  | ccAttach (n : Fin 4) (cc2 : Bool)
  /-- A detach is debounced on CC, voiding the contract and discharging VBUS (R274, 11_type_c_and_power_delivery.md). -/
  | ccDetach (n : Fin 4)
  /-- A sink sees VBUS below 3.67 V outside a transition and detaches (R258, 11_type_c_and_power_delivery.md). -/
  | vbusSinkDetach (n : Fin 4) (mv : Nat)
  /-- An unattached dual-role port alternates its presentation every 75 ms period (R258, 11_type_c_and_power_delivery.md). -/
  | drpToggle (n : Fin 4)
  /-- The cable's e-marker answer clips advertised currents and decides EPR (R259, 11_type_c_and_power_delivery.md). -/
  | emarkerResponse (n : Fin 4) (vdo : Option Word)
  /-- A sink's request is accepted within budget or rejected (R261, 11_type_c_and_power_delivery.md). -/
  | pdRequestReceived (n : Fin 4) (type : Byte) (rdo : Word)
  /-- As sink, the TD7760 chooses and requests an object (R262, 11_type_c_and_power_delivery.md). -/
  | sourceCapsReceived (n : Fin 4) (epr : Bool) (caps : Vector Word 11) (answer : PdAnswer)
  /-- 30 ms after Accept the source starts moving its VSET code (R263, 11_type_c_and_power_delivery.md). -/
  | transitionStart (n : Fin 4)
  /-- The VSET code moves one step at the slew limit (R263, 11_type_c_and_power_delivery.md). -/
  | vsetSlewStep (n : Fin 4)
  /-- VBUS has held within ±5 % for 1 ms and PS_RDY is sent (R263, 11_type_c_and_power_delivery.md). -/
  | vbusSettled (n : Fin 4) (mv : Nat)
  /-- The transition does not settle in time and Hard Reset is sent (R263, 11_type_c_and_power_delivery.md). -/
  | transitionTimeout (n : Fin 4)
  /-- As EPR sink, EPR_KeepAlive is sent every 375 ms (R262, 11_type_c_and_power_delivery.md). -/
  | eprKeepaliveTimer (n : Fin 4)
  /-- 1 s without EPR_KeepAlive from an EPR sink causes a hard reset (R263, 11_type_c_and_power_delivery.md). -/
  | eprKeepaliveMissing (n : Fin 4)
  /-- The port fault timer expires and the VBUS fuse trips (R264, 11_type_c_and_power_delivery.md). -/
  | vbusFuseSlowTrip (n : Fin 4) (uv : Nat)
  /-- Current above the fast limit takes the VBUS gate down within 1 µs (R264, 11_type_c_and_power_delivery.md). -/
  | vbusFastTrip (n : Fin 4) (uv : Nat)
  /-- The fuse retry timer ends and the port enters Unattached (R270, 11_type_c_and_power_delivery.md). -/
  | fuseRetryExpiry (n : Fin 4)
  /-- The close conditions hold and the source closes its VBUS switch (R265, 11_type_c_and_power_delivery.md). -/
  | vbusSafeClose (n : Fin 4) (port converter : Nat)
  /-- A PS_RDY from the new source lets the sink close its switch or completes a swap (R265, 11_type_c_and_power_delivery.md). -/
  | psRdyReceived (n : Fin 4)
  /-- TC.CMD PR_SWAP starts a power role swap (R266, 11_type_c_and_power_delivery.md). -/
  | tcPrSwap (n : Fin 4) (answer : PdAnswer)
  /-- TC.CMD DR_SWAP starts a data role swap, refused during a mode (R266, 11_type_c_and_power_delivery.md). -/
  | tcDrSwap (n : Fin 4) (answer : PdAnswer)
  /-- TC.CMD VCONN_SWAP starts a make-before-break VCONN swap (R266, 11_type_c_and_power_delivery.md). -/
  | tcVconnSwap (n : Fin 4) (answer : PdAnswer)
  /-- TC.CMD HARD_RESET sends Hard Reset and returns to attach-time roles (R267, 11_type_c_and_power_delivery.md). -/
  | tcHardReset (n : Fin 4)
  /-- TC.CMD SEND_CAPS re-advertises the source objects (R261, 11_type_c_and_power_delivery.md). -/
  | tcSendCaps (n : Fin 4)
  /-- TC.CMD ENTER_MODE starts mode entry in the fixed order (R268, 11_type_c_and_power_delivery.md). -/
  | tcEnterMode (n : Fin 4)
  /-- TC.CMD EXIT_MODE leaves the mode and returns MUX to NONE (R272, 11_type_c_and_power_delivery.md). -/
  | tcExitMode (n : Fin 4) (answer : PdAnswer)
  /-- TC.CMD CLEAR_FUSE ends the fuse retry hold early (R270, 11_type_c_and_power_delivery.md). -/
  | tcClearFuse (n : Fin 4)
  /-- TC.CMD GET_SRC_CAPS asks the partner for its source objects (R260, 11_type_c_and_power_delivery.md). -/
  | tcGetSrcCaps (n : Fin 4) (answer : PdAnswer)
  /-- A received PR_Swap is accepted or rejected and performed (R266, 11_type_c_and_power_delivery.md). -/
  | prSwapReceived (n : Fin 4)
  /-- A received DR_Swap is answered, with Hard Reset during a mode (R266, 11_type_c_and_power_delivery.md). -/
  | drSwapReceived (n : Fin 4)
  /-- A received VCONN_Swap is performed make-before-break (R266, 11_type_c_and_power_delivery.md). -/
  | vconnSwapReceived (n : Fin 4)
  /-- A received Hard Reset returns both ends to attach-time roles and loses the link (R267, 11_type_c_and_power_delivery.md). -/
  | hardResetReceived (n : Fin 4)
  /-- A discovery or Enter Mode answer moves the DFP's mode entry along its order (R268, 11_type_c_and_power_delivery.md). -/
  | modeDiscoveryResponse (n : Fin 4) (r : ModeAnswer)
  /-- A mode unanswered within 30 ms counts as refused and the next is tried (R268, 11_type_c_and_power_delivery.md). -/
  | modeEntryTimeout (n : Fin 4)
  /-- As UFP the TD7760 answers Discover Identity, SVIDs and Modes (R271, 11_type_c_and_power_delivery.md). -/
  | discoverReceived (n : Fin 4) (what : DiscoverWhat)
  /-- As UFP an Enter Mode is ACKed for Veserlink or NAKed (R271, 11_type_c_and_power_delivery.md). -/
  | enterModeReceived (n : Fin 4) (svid : BitVec 16) (position : BitVec 3)
  /-- DisplayPort Status or Attention carries HPD to the Alt Mode output (R273, 11_type_c_and_power_delivery.md). -/
  | displayportAttention (n : Fin 4) (hpd : Bool)
  /-- VCONN above 300 mA for 1 ms is turned off (R266, 11_type_c_and_power_delivery.md). -/
  | vconnOvercurrent (n : Fin 4)
  /-- An unexpected, unsupported or invalid PD message is answered as Table 11-5 states (R276, 11_type_c_and_power_delivery.md). -/
  | pdUnexpectedMessage (n : Fin 4) (type : Byte) (form : PdForm)
  /-- No GoodCRC after three attempts fails the message (R276, 11_type_c_and_power_delivery.md). -/
  | goodcrcTimeout (n : Fin 4) (type : Byte)
  /-- As sink, VBUS over 110 % for 1 ms opens the switch and sends Hard Reset (R276, 11_type_c_and_power_delivery.md). -/
  | vbusOvervoltage (n : Fin 4) (mv : Nat)
  /-- Each microsecond the power-path logic evaluates feeds, limits, PG and PFW (R278, 12_feed_and_fuse_control.md). -/
  | aoEvaluation (m : PpSense)
  /-- A feed has stayed within its window for FEED_QUAL and becomes OK (R279, 12_feed_and_fuse_control.md). -/
  | feedQualified (x : Fin 2) (mv : Nat)
  /-- A feed above WARN + 1 V and OK for FEED_QUAL deasserts PFW_N (R290, 12_feed_and_fuse_control.md). -/
  | pfwDeassert
  /-- COM_S above a feed pulls its FET off within 300 ns (R280, 12_feed_and_fuse_control.md). -/
  | reverseCurrentOff (x : Fin 2)
  /-- Writing PP.CTRL.EN 1 starts the hot-swap sequence (R281, 12_feed_and_fuse_control.md). -/
  | hotswapEnable
  /-- EN cleared or PP_EN falling deasserts PG and turns the FET off (R282, 12_feed_and_fuse_control.md). -/
  | hotswapDisable (byPin : Bool)
  /-- An ideal-diode FET is on with no retry hold and the ramp begins (R281, 12_feed_and_fuse_control.md). -/
  | rampStart
  /-- HS_G − HS_SRC reaches 8 V and the hot-swap is ON (R281, 12_feed_and_fuse_control.md). -/
  | rampComplete (mv : Nat)
  /-- The ramp is not complete at RAMP_TMO and the hot-swap trips (R281, 12_feed_and_fuse_control.md). -/
  | rampTimeout
  /-- Current above ILIM is regulated and the fault timer counts (R283, 12_feed_and_fuse_control.md). -/
  | currentLimitEntry (cur : Nat)
  /-- The fault timer reaches FAULT_TMR and the hot-swap trips SLOW (R283, 12_feed_and_fuse_control.md). -/
  | faultTimerExpiry
  /-- Current above FAST × ILIM pulls the gate and PG down within 1 µs (R284, 12_feed_and_fuse_control.md). -/
  | hotswapFastTrip (cur : Nat)
  /-- Every 1 ms the FET temperature is measured or modelled (R286, 12_feed_and_fuse_control.md). -/
  | fetTempSample (diode : Option Int) (die : Int)
  /-- The retry hold ends and the hot-swap restarts or latches (R289, 12_feed_and_fuse_control.md). -/
  | retryHoldEnd
  /-- PP.CMD CLEAR ends a retry hold or LATCHED (R289, 12_feed_and_fuse_control.md). -/
  | ppClear
  /-- PP.CMD MODEL_RESET sets the thermal model's ΔT to 0 (R286, 12_feed_and_fuse_control.md). -/
  | ppModelReset
  /-- Every 100 µs while PFW_N is asserted the hold-up estimate is computed (R291, 12_feed_and_fuse_control.md). -/
  | holdupEstimate
  /-- The standby applies a REG journal record (R300, 13_mirrored_pair.md). -/
  | journalReg (h : JHdr) (addr : Addr) (v : Word)
  /-- The standby commits a page's shadows from a COMMIT record (R300, 13_mirrored_pair.md). -/
  | journalCommit (h : JHdr) (page : BitVec 12)
  /-- The standby stores a tunnel sequence checkpoint (R300, 13_mirrored_pair.md). -/
  | journalCkpt (h : JHdr) (i : Byte) (next base e : BitVec 10) (tstate : Byte)
  /-- The standby stores the servo state record (R300, 13_mirrored_pair.md). -/
  | journalServo (h : JHdr) (body : Vector Byte 13)
  /-- The standby adds a journalled event record to its history (R351, 15_faults_and_event_history.md). -/
  | journalEvent (h : JHdr) (record : Vector Byte 16)
  /-- The standby applies a forwarding table command record (R300, 13_mirrored_pair.md). -/
  | journalFwd (h : JHdr) (op : BitVec 2) (vid : BitVec 12) (da : BitVec 48) (tset : BitVec 6)
  /-- The standby records the active's mode change (R300, 13_mirrored_pair.md). -/
  | journalMode (h : JHdr) (m : BitVec 3) (cause : BitVec 2)
  /-- The standby applies SWAP_COMMIT, sends COMMIT_ACK and takes the role (R318, 13_mirrored_pair.md). -/
  | journalSwapCommit (h : JHdr) (e : Word)
  /-- A SNAP record opens a snapshot group of a resynchronisation (R305, 13_mirrored_pair.md). -/
  | journalSnap (h : JHdr) (group : BitVec 16)
  /-- A JACK frees acknowledged records and advances JSEQ_ACK (R301, 13_mirrored_pair.md). -/
  | jackReceived (jseq : Word)
  /-- Every 10 µs changed tunnel checkpoints are journalled (R300, 13_mirrored_pair.md). -/
  | checkpointTimer
  /-- Every 1 ms the servo state is journalled (R300, 13_mirrored_pair.md). -/
  | servoJournalTimer
  /-- A full resynchronisation starts once the Scarf link is UP and the peer active (R305, 13_mirrored_pair.md). -/
  | resyncStart
  /-- The snapshot group is acknowledged and SYNC becomes SYNCED (R305, 13_mirrored_pair.md). -/
  | resyncComplete
  /-- A RESYNC_REQ cell starts a full resynchronisation (R305, 13_mirrored_pair.md). -/
  | resyncReqReceived
  /-- A valid heartbeat frame updates the peer's mode and HID (R306, 13_mirrored_pair.md). -/
  | heartbeatFrame (f : BitVec 24)
  /-- A heartbeat is lost after HB_TIMEOUT without a valid frame or block (R306, 13_mirrored_pair.md). -/
  | heartbeatLoss (scarf : Bool)
  /-- 10 µs after the fence the standby raises its epoch and becomes PAIR-ACTIVE (R311, 13_mirrored_pair.md). -/
  | takeoverAssume
  /-- PAIR_FENCE_IN high makes an active member stop transmitting and relinquish (R308, 13_mirrored_pair.md). -/
  | fenceInRise
  /-- Both heartbeats present for 10 ms with the peer SYNCED standby releases the fence (R309, 13_mirrored_pair.md). -/
  | fenceRelease
  /-- PAIR.CMD OFFER starts a planned swap at the active (R318, 13_mirrored_pair.md). -/
  | pairOffer
  /-- PAIR.CMD TAKEOVER forces a takeover at a standby with both heartbeats lost (R311, 13_mirrored_pair.md). -/
  | pairTakeover
  /-- PAIR.CMD RESYNC starts a full resynchronisation (R305, 13_mirrored_pair.md). -/
  | pairResync
  /-- The standby answers a SWAP OFFER with ACCEPT or REFUSE (R318, 13_mirrored_pair.md). -/
  | swapOfferReceived
  /-- The active freezes ingress and starts draining (R318, 13_mirrored_pair.md). -/
  | swapAcceptReceived
  /-- The swap ends with RESULT REFUSED (R318, 13_mirrored_pair.md). -/
  | swapRefuseReceived
  /-- Queues and outstanding cells are empty; checkpoints are journalled and SWAP_COMMIT sent (R318, 13_mirrored_pair.md). -/
  | swapDrainDone
  /-- The drain exceeds SWAP_DRAIN; the active unfreezes with DRAIN (R318, 13_mirrored_pair.md). -/
  | swapDrainTimeout
  /-- The old active becomes SYNCED standby and unfreezes (R318, 13_mirrored_pair.md). -/
  | swapCommitAckReceived
  /-- A SWAP ABORT ends the swap with ABORTED (R319, 13_mirrored_pair.md). -/
  | swapAbortReceived
  /-- 100 µs without COMMIT_ACK after Scarf loss unfreezes or relinquishes (R319, 13_mirrored_pair.md). -/
  | swapAckTimeout
  /-- Setting PAIR.DOCK_CTRL.EN binds a port pair unless the ports are equal (R312, 13_mirrored_pair.md). -/
  | dockEnable (v : Word)
  /-- A pulse enters an event crossing's slot, or is lost when both are full (R326, 14_clock_domain_crossings.md). -/
  | crossingPulse (x : EventX) (k : BitVec 3) (detail : BitVec 16)
  /-- An acknowledge frees the in-flight slot and sends any pending pulse (R326, 14_clock_domain_crossings.md). -/
  | crossingAck (x : BitVec 7)
  /-- A request or word waits for STALL_LIMIT and the crossing is stalled (R336, 14_clock_domain_crossings.md). -/
  | crossingStall (x : BitVec 7)
  /-- A register access gets no acknowledge in 2 µs; reads return all ones, writes are held (R338, 14_clock_domain_crossings.md). -/
  | regAccessTimeout (p : Path) (addr : Addr) (write : Option Word)
  /-- A stopped clock returns and the crossing resumes, applying held writes in order (R335, 14_clock_domain_crossings.md). -/
  | clockReturn (page : BitVec 12)
  /-- A side leaving reset sends RESYNC and the crossing discards and empties (R339, 14_clock_domain_crossings.md). -/
  | crossingResync (x : BitVec 7) (words : BitVec 6)
  /-- A write of CDC.SEL snapshots the selected crossing's state (R342, 14_clock_domain_crossings.md). -/
  | cdcSelWrite (v : Word)
  /-- CDC.XCLEAR clears OVERRUN and LOST of the selected crossing (R327, 14_clock_domain_crossings.md). -/
  | cdcXclear
  /-- A raise reaching the collector is handled by severity and escalation (R345, 15_faults_and_event_history.md). -/
  | faultRaise (via : FaultVia)
  /-- Every SHED_STEP ms while the DEGRADE source is pending another class is shed (R347, 15_faults_and_event_history.md). -/
  | shedStepTimer
  /-- ESC_WINDOW ms after the first held raise the escalation count returns to 0 (R350, 15_faults_and_event_history.md). -/
  | escalationWindowEnd (src : BitVec 7)
  /-- Writing 1 to an ESC bit clears it and its count (R350, 15_faults_and_event_history.md). -/
  | escClear (src : BitVec 7)
  /-- FLT.CMD UNSHED restores all shed classes (R347, 15_faults_and_event_history.md). -/
  | fltUnshed
  /-- FLT.CMD FIRST_CLR empties the first-event capture (R354, 15_faults_and_event_history.md). -/
  | fltFirstClr
  /-- FLT.CMD HIST_SNAP copies the history queue into FLT.HIST (R353, 15_faults_and_event_history.md). -/
  | fltHistSnap
  /-- A write of FLT.MARK makes a marker record (R352, 15_faults_and_event_history.md). -/
  | fltMark (detail : BitVec 14)
  /-- 1 µs after the oldest queued record an event cell is formed (R357, 15_faults_and_event_history.md). -/
  | eventCellTimer
  /-- A read of FLT.RX_HDR pops the oldest received record (R357, 15_faults_and_event_history.md). -/
  | fltRxHdrRead
  /-- Setting FI_CTRL.ARM in SERVICE arms injection of inverted check bits (R359, 15_faults_and_event_history.md). -/
  | fiArm (page : BitVec 12) (v : Word)
  /-- A write of PM.SLEEP_REQ starts a sleep entry or is refused (R366, 16_power_states_reset_and_wipe.md). -/
  | sleepRequest (target : BitVec 2)
  /-- After S1_IDLE of idleness the hub enters S1 Doze (R369, 16_power_states_reset_and_wipe.md). -/
  | s1Entry
  /-- Any listed activity ends S1 within 20 µs (R369, 16_power_states_reset_and_wipe.md). -/
  | s1Exit
  /-- Queues drain; links go down and SDRAM self-refreshes for S2 (R367, 16_power_states_reset_and_wipe.md). -/
  | sleepDrainDone
  /-- The drain exceeds SLEEP_DRAIN; ingress unfreezes with DRAIN (R367, 16_power_states_reset_and_wipe.md). -/
  | sleepDrainTimeout
  /-- Banks are signed, resets asserted and VREG_EN falls; PSTATE takes the new state (R367, 16_power_states_reset_and_wipe.md). -/
  | sleepEntryComplete (edges levels : BitVec 9)
  /-- An enabled wake source starts the wake sequence, or aborts an entry (R372, 16_power_states_reset_and_wipe.md). -/
  | wakeCause (b : Fin 9)
  /-- VREADY in the wake sequence enables REFCLK detection (R374, 16_power_states_reset_and_wipe.md). -/
  | wakeVready
  /-- REFCLK is detected; resets are released and the wipe runs (R374, 16_power_states_reset_and_wipe.md). -/
  | wakeClockDetected
  /-- The on-chip wipe completes; retention is checked and the mode is COLD (R379, 16_power_states_reset_and_wipe.md). -/
  | wakeResetDone (held : BitVec 8) (puf : Fin 4) (fuseBad : Bool)
  /-- VREADY is not seen in time; the attempt fails with source 120 (R375, 16_power_states_reset_and_wipe.md). -/
  | wakeVreadyTimeout
  /-- REFCLK is not detected in 5 ms; the attempt fails with source 121 (R375, 16_power_states_reset_and_wipe.md). -/
  | wakeClockTimeout
  /-- The back-off ends and the next attempt starts, or the last failure latches WAKE_FAIL (R375, 16_power_states_reset_and_wipe.md). -/
  | wakeBackoffExpiry
  /-- Writing 1 to AO.FAIL.WAKE_FAIL releases FAULT_N and INT_N (R376, 16_power_states_reset_and_wipe.md). -/
  | wakeFailClear
  /-- AO.CMD WAKE starts a fresh wake sequence (R376, 16_power_states_reset_and_wipe.md). -/
  | aoWakeCmd
  /-- AO.TIMER reaches zero and causes a timer wake (R372, 16_power_states_reset_and_wipe.md). -/
  | aoTimerExpiry
  /-- RESET_N low holds the hub-die resets and VREG_EN low (R374, 16_power_states_reset_and_wipe.md). -/
  | resetNAssert
  /-- Release of RESET_N clears WAKE_FAIL and starts the wake sequence (R374, 16_power_states_reset_and_wipe.md). -/
  | resetNRelease (straps : BitVec 3)
  /-- VDD_AO passes its threshold and the power die starts with reset values (R436, 19_electrical_and_package.md). -/
  | powerOnReset (straps : BitVec 3) (resetHigh : Bool)
  /-- RST.CTRL WARM with KEY 0xA5 performs a warm reset (R378, 16_power_states_reset_and_wipe.md). -/
  | warmReset (key : Byte)
  /-- RST.CTRL LINK bit n resets link n and its lanes (R378, 16_power_states_reset_and_wipe.md). -/
  | linkReset (mask : BitVec 5)
  /-- Setting PAGE_CTRL.SOFT_RESET resets the block's state, queues and counters (R378, 16_power_states_reset_and_wipe.md). -/
  | softReset (page : BitVec 12)
  /-- A soft reset completes within 10 µs and SOFT_RESET reads 0 (R378, 16_power_states_reset_and_wipe.md). -/
  | softResetDone (page : BitVec 12)
  /-- VREADY low beyond VRDY_TIMEOUT resets the hub die and reruns the wake sequence (R456, 16_power_states_reset_and_wipe.md). -/
  | coreSupplyLoss
  /-- The SDRAM wipe completes and EXT_WIPE_PEND clears (R380, 16_power_states_reset_and_wipe.md). -/
  | externalWipeDone
  /-- An access of PM.RB7_DATA reads or writes an RB7 word and advances the address (R370, 16_power_states_reset_and_wipe.md). -/
  | rb7DataAccess (write : Option Word)
  /-- A write of SEC.LC_REQ is checked and accepted or refused (R383, 17_lifecycle_and_keys.md). -/
  | lcRequest (p : Path) (target : BitVec 3) (confirm : Byte)
  /-- The target state word is programmed and a life-cycle reset follows (R384, 17_lifecycle_and_keys.md). -/
  | lcProgramDone
  /-- SEC.AUTH_CMD NEW_CHAL draws a fresh challenge for the path (R391, 17_lifecycle_and_keys.md). -/
  | authNewChallenge (p : Path)
  /-- SEC.AUTH_CMD UNLOCK_CHAL issues an unlock challenge while RELEASE_OK is 1 (R385, 17_lifecycle_and_keys.md). -/
  | authUnlockChallenge (p : Path)
  /-- SEC.AUTH_CMD DEAUTH ends the path's authentication (R393, 17_lifecycle_and_keys.md). -/
  | authDeauth (p : Path)
  /-- A write of AUTH_RESP3 checks the response and authenticates or counts a failure (R391, 17_lifecycle_and_keys.md). -/
  | authResponse (p : Path) (resp : Vector Word 4)
  /-- A challenge becomes invalid 10 s after issue (R391, 17_lifecycle_and_keys.md). -/
  | authChallengeExpiry (p : Path)
  /-- The 10 s lockout of a path ends (R392, 17_lifecycle_and_keys.md). -/
  | authLockoutEnd (p : Path)
  /-- RELEASE_OK and UNLOCK_OK clear 60 s after the release (R385, 17_lifecycle_and_keys.md). -/
  | releaseOkExpiry
  /-- A write of CR_CHAL3 computes the device response or refuses a reflected challenge (R394, 17_lifecycle_and_keys.md). -/
  | crChallenge (chal : Vector Word 4)
  /-- SEC.CMD SEAL_CPS wraps and programs the CPS into antifuse (R389, 17_lifecycle_and_keys.md). -/
  | sealCps (p : Path)
  /-- KEY.CMD SUBMIT checks an update message, may advance the floor and installs its key (R400, 17_lifecycle_and_keys.md). -/
  | keySubmit (p : Path)
  /-- KEY.CMD LOAD_CLR loads a clear key into slot 28 to 31 (R398, 17_lifecycle_and_keys.md). -/
  | keyLoadClr (p : Path) (slot : BitVec 5)
  /-- KEY.CMD ERASE invalidates a slot and zeroes its key (R398, 17_lifecycle_and_keys.md). -/
  | keyErase (p : Path) (slot : BitVec 5)
  /-- A write of KEY.ENG naming a slot is applied or refused by MASTER and WORLD (R397, 17_lifecycle_and_keys.md). -/
  | keyEngineSelect (p : Path) (e : Fin 8) (v : Word)
  /-- A write of PAGE_CTRL.ENABLE gates or restores an idle block (R414, 18_register_pages.md). -/
  | pageEnableWrite (page : BitVec 12) (en : Bool)
  /-- Setting PAGE_CTRL.LOCK freezes the page's RWL fields until reset (R415, 18_register_pages.md). -/
  | pageLock (page : BitVec 12)
  /-- A read of a 64-bit counter's low word latches its high half for the path (R419, 18_register_pages.md). -/
  | counterLowWordRead (p : Path) (addr : Addr)
  /-- A READ management frame reads COUNT words and replies (R424, 18_register_pages.md). -/
  | mgmtRead
  /-- A WRITE management frame writes COUNT words and replies (R424, 18_register_pages.md). -/
  | mgmtWrite
  /-- A WRITE_LIST management frame writes address-value pairs and replies (R424, 18_register_pages.md). -/
  | mgmtWriteList
  /-- A reply frame is delivered to EP3 IN or the mailbox by TAG bit 15 (R427, 18_register_pages.md). -/
  | mgmtReplyDelivery (frame : List Byte)
  /-- A write of DEV.MB_TX_GO sends the staged mailbox frame from M11 (R427, 18_register_pages.md). -/
  | mbTxGo (len : BitVec 14)
  /-- A read of DEV.MB_RX pops the next mailbox receive word (R427, 18_register_pages.md). -/
  | mbRxRead
  /-- SPI READ returns words from rising addresses (R428, 18_register_pages.md). -/
  | spiRead (addr : Addr) (n : BitVec 8)
  /-- SPI READ_FIXED returns words from one address (R428, 18_register_pages.md). -/
  | spiReadFixed (addr : Addr) (n : BitVec 8)
  /-- SPI WRITE applies words at rising addresses (R428, 18_register_pages.md). -/
  | spiWrite (addr : Addr) (words : List Word) (part : List Byte)
  /-- SPI WRITE_FIXED applies words to one address (R428, 18_register_pages.md). -/
  | spiWriteFixed (addr : Addr) (words : List Word) (part : List Byte)
  /-- SPI STATUS returns the status byte and clears ERR (R428, 18_register_pages.md). -/
  | spiStatus
  /-- SPI_CS_N rising ends the transaction and discards a partial word (R428, 18_register_pages.md). -/
  | spiCsRise (unknown : Bool)
  /-- A die temperature above TJ_WARN raises source 124, and at 120 °C source 125 (R431, 18_register_pages.md). -/
  | dieTempSample (hubT powerT : BitVec 16)
  /-- A rail outside its band for 2 µs clears its DEV.SUPPLY bit and raises source 126 (R434, 19_electrical_and_package.md). -/
  | supplyWindowExit (rail : Fin 7)
  /-- A MAC's line gains link, giving the mortise a line rate and repeating the overbooking check (R178, 08_ethernet_and_plumb_time.md). -/
  | macLinkUp (k : Fin 4) (phy : Fin 3)
  /-- A physical PCIe link leaves L0/L1, raising source 72 or 73, dropping VDP4 Link Active and the line rate (R218, 09_pcie_and_dowel_bridge.md). -/
  | pcieLinkDown (k : Fin 2)
  /-- A physical PCIe link reaches L0, giving the mortise a line rate and restoring Link Active (R218, 09_pcie_and_dowel_bridge.md). -/
  | pcieLinkUp (k : Fin 2) (speed : Fin 4) (width : Fin 3)
  /-- A request issued by the TD7760 gets no completion in time and source 76 is raised (R231, 09_pcie_and_dowel_bridge.md). -/
  | pcieCompletionTimeout
  /-- A local-bus cycle ends on LB_RDY or LB_ERR_N, completing an outbound read, write or burst (R224, 09_pcie_and_dowel_bridge.md). -/
  | localBusCycleEnd (err : Bool) (lanes : List (List Byte))
  /-- DisplayPort link training ends in success or in failure with source 60 and TRAIN_FAILS (R162, 07_panel_display_engine.md). -/
  | dpLinkTrainingDone (o : Fin 6) (ok : Bool)
  /-- A sink's IRQ_HPD pulse on a DisplayPort output is received and counted (R160, 07_panel_display_engine.md). -/
  | dpIrqHpd (k : Fin 2)
  /-- The upstream USB link or its VBUS is lost, the pull-up is removed and source 80 is raised (R240, 10_usb_hub_and_device.md). -/
  | usbUpLinkLoss (ss : Bool)
  /-- The upstream bus goes idle into suspend, arming remote wake after 5 ms (R256, 10_usb_hub_and_device.md). -/
  | usbBusSuspend (l1 : Bool) (wake : WakeFlags)
  /-- The host drives resume K and the hub and device function leave suspend at end-of-resume (R256, 10_usb_hub_and_device.md). -/
  | usbHostResume
  /-- A device attaches to or detaches from a downstream port line, changing its state (R241, 10_usb_hub_and_device.md). -/
  | usbPortConnectChange (p : BitVec 3) (ss attached ls : Bool)
  /-- A hub Set/ClearPortFeature other than PORT_POWER (reset, suspend, L1, U1/U2 timeouts) is served (R241, 10_usb_hub_and_device.md). -/
  | hubPortFeatureRequest (p : BitVec 5) (f : PortFeature)
  /-- SET_INTERFACE selects alternate setting 0 or 1 of interface 1, starting or stopping EP2 queueing (R253, 10_usb_hub_and_device.md). -/
  | setInterface (intf alt : Byte)
  /-- An EPR_Mode Enter is acknowledged and succeeds or fails according to the cable (R259, 11_type_c_and_power_delivery.md). -/
  | eprModeReceived (n : Fin 4) (watts : Byte)
  /-- An EPR_KeepAlive from the sink restarts the source's 1 s keep-alive timer (R263, 11_type_c_and_power_delivery.md). -/
  | eprKeepaliveReceived (n : Fin 4)
  /-- Port-side VBUS reaches vSafe0V and DISCHARGING clears (R269, 11_type_c_and_power_delivery.md). -/
  | vbusDischarged (n : Fin 4)
  /-- PAIR_FENCE_IN falls and a fenced member's cable transmitters may leave electrical idle (R308, 13_mirrored_pair.md). -/
  | fenceInFall
  /-- The standby sends JACK every 2 µs while journal records arrive (R301, 13_mirrored_pair.md). -/
  | jackSendTimer
  /-- A journal record with a bad CRC is discarded and a full resynchronisation is requested (R301, 13_mirrored_pair.md). -/
  | journalCrcError (record : Vector Byte 32)
  /-- VDD_AO falls below its power-on reset threshold and the whole device stops (R436, 19_electrical_and_package.md). -/
  | vddAoPowerLoss
  /-- A rail returns within its band and its DEV.SUPPLY bit becomes 1 again (R434, 19_electrical_and_package.md). -/
  | supplyWindowReturn (rail : Fin 7)
  /-- A sideband frame with a bad CRC-8, wrong length or reserved type is ignored and counted in SB_BAD (R65, 03_veserlink_cable_link.md). -/
  | sbBadFrameReceived (frame : SbBytes)
  deriving DecidableEq, Repr

end Sys2Proof
end

