-- ==== Sys2Proof/Decode.lean ====
section
/-!
DEFINITION. The opcode table gives no row any bits (spec/opcode_table.json): a word spells no command.
-/
namespace Sys2Proof

/-- The command that a word of `nbits` bits spells by the opcode table: the table gives no row bits, so none.
DESIGN CHOICE, log entry 3. -/
def decodeTableWord (_nbits _w : Nat) : Option Instr := none

end Sys2Proof
end

