-- ==== Sys2Proof/Machine/Crypto.lean ====
section
/-!
DEFINITION. The check codes and ciphers the spec names: CRC-8 and CRC-32C (00_scope.md, under Table 0-6), SHA-256
(FIPS 180-4), HMAC (FIPS 198-1), the SP 800-108 counter-mode derivation, AES-256 (FIPS 197), its key wrap
(SP 800-38F) and GCM (SP 800-38D).
-/
namespace Sys2Proof.Machine

/-- One byte into a CRC-8 of polynomial 0x07, most significant bit first. -/
def crc8Byte (c b : Byte) : Byte :=
  (List.range 8).foldl (fun c _ => if c.msb then (c <<< 1) ^^^ 0x07 else c <<< 1) (c ^^^ b)

/-- CRC-8: polynomial 0x07, initial value 0, no reflection, no final inversion. -/
def crc8 (l : List Byte) : Byte := l.foldl crc8Byte 0

/-- One byte into the CRC-32C register (Castagnoli, reflected). -/
def crc32Byte (c : BitVec 32) (b : Byte) : BitVec 32 :=
  (List.range 8).foldl (fun c _ => if c.getLsbD 0 then (c >>> 1) ^^^ 0x82F63B78 else c >>> 1) (c ^^^ b.setWidth 32)

/-- Bytes into the CRC-32C register. -/
def crc32Upd (c : BitVec 32) (l : List Byte) : BitVec 32 := l.foldl crc32Byte c

/-- CRC-32C: initial value all ones, final inversion. -/
def crc32c (l : List Byte) : BitVec 32 := ~~~(crc32Upd 0xFFFFFFFF l)

/-- The CRC-32C register after a frame and its own CRC, least significant byte first (R78). -/
abbrev crcResidue : BitVec 32 := 0xB798B438

/-- One byte into the register of the Ethernet FCS (IEEE 802.3, reflected). -/
def fcsByte (c : BitVec 32) (b : Byte) : BitVec 32 :=
  (List.range 8).foldl (fun c _ => if c.getLsbD 0 then (c >>> 1) ^^^ 0xEDB88320 else c >>> 1) (c ^^^ b.setWidth 32)

/-- The Ethernet FCS of a frame, least significant byte sent first. -/
def fcs32 (l : List Byte) : BitVec 32 := ~~~(l.foldl fcsByte 0xFFFFFFFF)

/-! ### SHA-256, HMAC and the SP 800-108 derivation -/

/-- The round constants of SHA-256 (FIPS 180-4, 4.2.2). -/
def shaK : List (BitVec 32) := [
  0x428A2F98, 0x71374491, 0xB5C0FBCF, 0xE9B5DBA5, 0x3956C25B, 0x59F111F1, 0x923F82A4, 0xAB1C5ED5,
  0xD807AA98, 0x12835B01, 0x243185BE, 0x550C7DC3, 0x72BE5D74, 0x80DEB1FE, 0x9BDC06A7, 0xC19BF174,
  0xE49B69C1, 0xEFBE4786, 0x0FC19DC6, 0x240CA1CC, 0x2DE92C6F, 0x4A7484AA, 0x5CB0A9DC, 0x76F988DA,
  0x983E5152, 0xA831C66D, 0xB00327C8, 0xBF597FC7, 0xC6E00BF3, 0xD5A79147, 0x06CA6351, 0x14292967,
  0x27B70A85, 0x2E1B2138, 0x4D2C6DFC, 0x53380D13, 0x650A7354, 0x766A0ABB, 0x81C2C92E, 0x92722C85,
  0xA2BFE8A1, 0xA81A664B, 0xC24B8B70, 0xC76C51A3, 0xD192E819, 0xD6990624, 0xF40E3585, 0x106AA070,
  0x19A4C116, 0x1E376C08, 0x2748774C, 0x34B0BCB5, 0x391C0CB3, 0x4ED8AA4A, 0x5B9CCA4F, 0x682E6FF3,
  0x748F82EE, 0x78A5636F, 0x84C87814, 0x8CC70208, 0x90BEFFFA, 0xA4506CEB, 0xBEF9A3F7, 0xC67178F2]

/-- The initial hash value of SHA-256 (FIPS 180-4, 5.3.3). -/
def shaH0 : List (BitVec 32) := [
  0x6A09E667, 0xBB67AE85, 0x3C6EF372, 0xA54FF53A, 0x510E527F, 0x9B05688C, 0x1F83D9AB, 0x5BE0CD19]

/-- The next 16-word window of the message schedule: the oldest word leaves, the new one comes last. -/
def shaSched (w : List (BitVec 32)) : List (BitVec 32) :=
  let g (i : Nat) : BitVec 32 := w.getD i 0
  let s0 := (g 1).rotateRight 7 ^^^ (g 1).rotateRight 18 ^^^ (g 1 >>> 3)
  let s1 := (g 14).rotateRight 17 ^^^ (g 14).rotateRight 19 ^^^ (g 14 >>> 10)
  w.tail ++ [g 0 + s0 + g 9 + s1]

/-- One round of SHA-256 on the eight working variables. -/
def shaRound (v : List (BitVec 32)) (k w : BitVec 32) : List (BitVec 32) :=
  match v with
  | [a, b, c, d, e, f, g, h] =>
    let t1 := h + (e.rotateRight 6 ^^^ e.rotateRight 11 ^^^ e.rotateRight 25) + ((e &&& f) ^^^ (~~~e &&& g)) + k + w
    let t2 := (a.rotateRight 2 ^^^ a.rotateRight 13 ^^^ a.rotateRight 22) + ((a &&& b) ^^^ (a &&& c) ^^^ (b &&& c))
    [t1 + t2, a, b, c, d + t1, e, f, g]
  | v => v

/-- One 64-byte block into the hash value. -/
def shaBlock (h : List (BitVec 32)) (blk : List Byte) : List (BitVec 32) :=
  let w0 := (List.range 16).map (fun i => BitVec.ofNat 32 (ofBE (sub blk (4 * i) 4)))
  let r := shaK.foldl (fun (p : List (BitVec 32) × List (BitVec 32)) k =>
    (shaRound p.1 k (p.2.getD 0 0), shaSched p.2)) (h, w0)
  List.zipWith (· + ·) h r.1

/-- SHA-256 of a list of bytes. -/
def sha256 (m : List Byte) : List Byte :=
  let pad := (119 - m.length % 64) % 64
  let full := m ++ [0x80] ++ List.replicate pad 0 ++ bytesBE 8 (m.length * 8)
  ((chunksOf 64 (m.length / 64 + 2) full).foldl shaBlock shaH0).flatMap (fun w => bytesBE 4 w.toNat)

/-- HMAC-SHA-256. -/
def hmac (key m : List Byte) : List Byte :=
  let k := padTo 64 (if 64 < key.length then sha256 key else key)
  sha256 (k.map (· ^^^ 0x5C) ++ sha256 (k.map (· ^^^ 0x36) ++ m))

/-- The bytes of an ASCII label. -/
def ascii (t : String) : List Byte := t.toList.map (fun c => BitVec.ofNat 8 c.toNat)

/-- SP 800-108 counter mode with HMAC-SHA-256 (R388): counter, label, zero, context, length; `bitsL` bits of output. -/
def kdf (key : List Byte) (label : String) (context : List Byte) (bitsL : Nat) : List Byte :=
  (((List.range ((bitsL + 255) / 256)).map (fun i =>
    hmac key (bytesBE 4 (i + 1) ++ ascii label ++ [0] ++ context ++ bytesBE 4 bitsL))).flatten).take (bitsL / 8)

/-! ### AES-256, key wrap and GCM -/

/-- The S-box of AES (FIPS 197), byte i at bits [8i + 7:8i]. -/
def aesSbox : Nat :=
  0x16bb54b00f2d99416842e6bf0d89a18cdf2855cee9871e9b948ed9691198f8e19e1dc186b95735610ef6034866b53e708a8bbd4b1f74dde8c6b4a61c2e2578ba08ae7a65eaf4566ca94ed58d6d37c8e779e4959162acd3c25c2406490a3a32e0db0b5ede14b8ee4688902a22dc4f816073195d643d7ea7c41744975fec130ccdd2f3ff1021dab6bcf5389d928f40a351a89f3c507f02f94585334d43fbaaefd0cf584c4a39becb6a5bb1fc20ed00d153842fe329b3d63b52a05a6e1b1a2c830975b227ebe28012079a059618c323c7041531d871f1e5a534ccf73f362693fdb7c072a49cafa2d4adf04759fa7dc982ca76abd7fe2b670130c56f6bf27b777c63

/-- The inverse S-box. -/
def aesInvSbox : Nat :=
  0x7d0c2155631469e126d677ba7e042b17619953833cbbebc8b0f52aae4d3be0a0ef9cc9939f7ae52d0d4ab519a97f51605fec8027591012b131c7078833a8dd1ff45acd78fec0db9a2079d2c64b3e56fc1bbe18aa0e62b76f89c5291d711af1476edf751ce837f9e28535ade72274ac9673e6b4f0cecff297eadc674f4111913a6b8a130103bdafc1020f3fca8f1e2cd00645b3b80558e4f70ad3bc8c00abd890849d8da75746155edab9edfd5048706c92b6655dcc5ca4d41698688664f6f87225d18b6d49a25b76b224d92866a12e084ec3fa420b954cee3d23c2a632947b54cbe9dec444438e3487ff2f9b8239e37cfbd7f3819ea340bf38a53630d56a0952

def subByte (t : Nat) (b : Byte) : Byte := BitVec.ofNat 8 (t / 256 ^ b.toNat)

/-- Multiplication by x in GF(2^8). -/
def xtime (b : Byte) : Byte := if b.msb then (b <<< 1) ^^^ 0x1B else b <<< 1

/-- Multiplication by a small constant in GF(2^8). -/
def gmul (k : Nat) (b : Byte) : Byte :=
  let b2 := xtime b
  let b4 := xtime b2
  let b8 := xtime b4
  (if k.testBit 0 then b else 0) ^^^ (if k.testBit 1 then b2 else 0) ^^^ (if k.testBit 2 then b4 else 0)
    ^^^ (if k.testBit 3 then b8 else 0)

/-- The columns of a 16-byte state multiplied by a circulant matrix whose first row is `m`. -/
def mixCols (m : List Nat) (st : List Byte) : List Byte :=
  (chunksOf 4 4 st).flatMap (fun c =>
    (List.range 4).map (fun r =>
      (List.range 4).foldl (fun a j => a ^^^ gmul (m.getD ((j + 4 - r) % 4) 0) (c.getD j 0)) 0))

def xorBytes (a b : List Byte) : List Byte := List.zipWith (· ^^^ ·) a b

/-- One step of the AES-256 key expansion: the words so far, newest first. -/
def aesExpandStep (ws : List (List Byte)) (i : Nat) : List (List Byte) :=
  let prev := ws.getD 0 []
  let old := ws.getD 7 []
  let t :=
    if i % 8 = 0 then
      let r := (prev.tail ++ prev.take 1).map (subByte aesSbox)
      xorBytes r [BitVec.ofNat 8 (2 ^ (i / 8 - 1)), 0, 0, 0]
    else if i % 8 = 4 then prev.map (subByte aesSbox)
    else prev
  xorBytes old t :: ws

/-- The 15 round keys of AES-256. -/
def aesKeys (key : List Byte) : List (List Byte) :=
  let ws := (List.range' 8 52).foldl aesExpandStep (chunksOf 4 8 (padTo 32 key)).reverse
  chunksOf 16 15 ws.reverse.flatten

/-- One AES round but for its key; the last leaves out the column mixing. -/
def aesRound (last : Bool) (st : List Byte) : List Byte :=
  let b := st.map (subByte aesSbox)
  let r := (List.range 16).map (fun i => b.getD ((i + 4 * (i % 4)) % 16) 0)
  if last then r else mixCols [2, 3, 1, 1] r

/-- AES-256 encryption of a block under expanded keys. -/
def aesEnc (ks : List (List Byte)) (blk : List Byte) : List Byte :=
  let s0 := xorBytes (padTo 16 blk) (ks.getD 0 [])
  let s := (List.range' 1 13).foldl (fun st i => xorBytes (aesRound false st) (ks.getD i [])) s0
  xorBytes (aesRound true s) (ks.getD 14 [])

/-- AES-256 decryption of a block under expanded keys. -/
def aesDec (ks : List (List Byte)) (blk : List Byte) : List Byte :=
  let inv (st : List Byte) : List Byte :=
    (List.range 16).map (fun i => subByte aesInvSbox (st.getD ((i + 16 - 4 * (i % 4)) % 16) 0))
  let s0 := inv (xorBytes (padTo 16 blk) (ks.getD 14 []))
  let s := ((List.range' 1 13).reverse).foldl
    (fun st i => inv (mixCols [14, 11, 13, 9] (xorBytes st (ks.getD i [])))) s0
  xorBytes s (ks.getD 0 [])

/-- The initial value of AES-KW. -/
def kwIv : List Byte := List.replicate 8 0xA6

/-- AES-KW wrapping (SP 800-38F, W). -/
def kwWrap (key data : List Byte) : List Byte :=
  let ks := aesKeys key
  let n := data.length / 8
  let r := (List.range (6 * n)).foldl (fun (p : List Byte × List (List Byte)) t =>
    let i := t % n
    let b := aesEnc ks (p.1 ++ p.2.getD i [])
    (xorBytes (b.take 8) (bytesBE 8 (t + 1)), p.2.set i (b.drop 8))) (kwIv, chunksOf 8 n data)
  r.1 ++ r.2.flatten

/-- AES-KW unwrapping; none where the check value fails. -/
def kwUnwrap (key data : List Byte) : Option (List Byte) :=
  let ks := aesKeys key
  let n := data.length / 8 - 1
  let r := ((List.range (6 * n)).reverse).foldl (fun (p : List Byte × List (List Byte)) t =>
    let i := t % n
    let b := aesDec ks (xorBytes p.1 (bytesBE 8 (t + 1)) ++ p.2.getD i [])
    (b.take 8, p.2.set i (b.drop 8))) (data.take 8, chunksOf 8 n (data.drop 8))
  if r.1 = kwIv then some r.2.flatten else none

/-- Multiplication in GF(2^128) as GHASH counts its bits. -/
def ghashMul (x y : BitVec 128) : BitVec 128 :=
  ((List.range 128).foldl (fun (p : BitVec 128 × BitVec 128) i =>
    (if x.getMsbD i then p.1 ^^^ p.2 else p.1,
     if p.2.getLsbD 0 then (p.2 >>> 1) ^^^ (0xE1#128 <<< 120) else p.2 >>> 1)) (0, y)).1

/-- GHASH over whole 16-byte blocks. -/
def ghash (h : BitVec 128) (l : List Byte) : BitVec 128 :=
  (chunksOf 16 (l.length / 16 + 1) l).foldl (fun a b => ghashMul (a ^^^ BitVec.ofNat 128 (ofBE (padTo 16 b))) h) 0

/-- Bytes enciphered or deciphered in counter mode under a 12-byte IV, from counter value `c`. -/
def gcmCtr (key iv : List Byte) (c : Nat) (data : List Byte) : List Byte :=
  let ks := aesKeys key
  ((chunksOf 16 (data.length / 16 + 1) data).zipIdx.map (fun p =>
    xorBytes p.1 (aesEnc ks (iv ++ bytesBE 4 (c + p.2))))).flatten

/-- The GCM tag of additional data and ciphertext, both whole blocks long. -/
def gcmTag (key iv aad ct : List Byte) : List Byte :=
  let h := BitVec.ofNat 128 (ofBE (aesEnc (aesKeys key) (List.replicate 16 0)))
  let g := ghash h (aad ++ ct ++ bytesBE 8 (aad.length * 8) ++ bytesBE 8 (ct.length * 8))
  xorBytes (bytesBE 16 g.toNat) (aesEnc (aesKeys key) (iv ++ [0, 0, 0, 1]))

end Sys2Proof.Machine
end

