-- ==== Sys2Proof/Config.lean ====
section
/-!
DEFINITION. What an implementation fixes and what the spec leaves open: constants without a body, so that no proof can
see their values.
-/
namespace Sys2Proof.Config

/-- A value the spec leaves open; `i` is the state's counter of free values, so that each use may differ.
DESIGN CHOICE, log entry 4. -/
opaque freeWord : Nat → BitVec 128

/-- The part's device ID, written to its antifuse at enrolment (Table 17-4, 17_lifecycle_and_keys.md).
DESIGN CHOICE, log entry 5. -/
opaque deviceId : BitVec 64

/-- The part's PUF device secret (R387, 17_lifecycle_and_keys.md). DESIGN CHOICE, log entry 5. -/
opaque deviceSecret : BitVec 256

/-- The current in mA that the default Rp of a Type-C source stands for (R264, 11_type_c_and_power_delivery.md).
DESIGN CHOICE, log entry 5. -/
opaque rpDefault : Nat

/-- Bits per pixel that a reserved BPC or FMT code of an output stands for (Tables 7-14 and 7-15,
07_panel_display_engine.md): of DisplayPort outputs, and of DSI outputs. DESIGN CHOICE, log entry 48. -/
opaque reservedBits (dsi : Bool) : Nat

/-- Whether a lane of a page of lanes with a fixed direction transmits, where the spec does not say which way its one lane number
counts: the MAC, PCIe and SuperSpeed groups (R73, Table 3-17). DESIGN CHOICE, log entry 95. -/
opaque laneTransmits (page lane : Nat) : Bool

/-- Whether a pixel of a glyph of the Banner's time field is drawn: its character code, column and row (R176,
07_panel_display_engine.md; the spec shows no font). DESIGN CHOICE, log entry 49. -/
opaque glyphPixel (code x y : Nat) : Bool

/-- Identity words of the elements of the PCIe switch, by element and word of configuration space: Vendor and Device IDs, class
code, serial number (Table 9-2, R219, 09_pcie_and_dowel_bridge.md). PRESUMED, log entry 96. -/
opaque pcieIdentity (element dw : Nat) : BitVec 32

/-- Ticks without a TLP after which a PCIe link with ASPM L1 enabled enters L1 (Table 9-1, 09_pcie_and_dowel_bridge.md).
DESIGN CHOICE, log entry 99. -/
opaque aspmIdle : Nat

/-- Constants of a hub's descriptor that the spec does not give: power-on time, current, delays, the translators' think time
(10_usb_hub_and_device.md R236). PRESUMED, log entry 57. -/
opaque hubConstant (ss : Bool) (i : Nat) : BitVec 8

/-- Bytes of the standard descriptors that the spec does not give: of the device function (0), the USB 2.0 hub (1) and the USB 3.2 hub
(2), by position (10_usb_hub_and_device.md R236, R252). PRESUMED, log entry 57. -/
opaque usbConstant (f i : Nat) : BitVec 8

/-- Lanes that the reserved LANES code of a DisplayPort output stands for. DESIGN CHOICE, log entry 48. -/
opaque reservedLanes : Nat

end Sys2Proof.Config
end

