-- ==== Sys2Proof/Machine/RegNames.lean ====
section
/-!
DEFINITION. The addresses of the registers, by the names the chapters of the spec give them (page number in bits
[23:12], offset in [11:0], 18_register_pages.md R420). `n` is the instance of a block with several pages, `i` the
index in a run of like registers, counted from the run's first register.
-/
namespace Sys2Proof.Machine.R

abbrev DEV_ID : Nat := 0x100
abbrev DEV_MODE : Nat := 0x108
abbrev DEV_MODE_REQ : Nat := 0x10C
abbrev DEV_HID : Nat := 0x110
abbrev DEV_ISLAND_CTRL : Nat := 0x114
abbrev DEV_ISLAND_WDOG : Nat := 0x118
abbrev DEV_HOST_KICK : Nat := 0x11C
abbrev DEV_ISLAND_KEEP (i : Nat) : Nat := 0x120 + i * 4
abbrev DEV_TJ : Nat := 0x140
abbrev DEV_TJ_WARN : Nat := 0x144
abbrev DEV_SUPPLY : Nat := 0x148
abbrev DEV_MB_STATUS : Nat := 0x300
abbrev DEV_MB_RX : Nat := 0x304
abbrev DEV_MB_TX : Nat := 0x308
abbrev DEV_MB_TX_GO : Nat := 0x30C
abbrev DEV_MGMT_REQS : Nat := 0x800
abbrev DEV_MGMT_DUPS : Nat := 0x804
abbrev DEV_MGMT_DROPS : Nat := 0x808
abbrev DEV_MB_TX_REFUSED : Nat := 0x80C
abbrev DEV_MB_RX_DROPS : Nat := 0x810
abbrev DEV_STBY_WR_DROPS : Nat := 0x814
abbrev DEV_PATH_REFUSED : Nat := 0x818
abbrev DEV_MB_TX_FRAMES : Nat := 0x81C
abbrev PM_LEVEL_REQ : Nat := 0x1100
abbrev PM_STATUS : Nat := 0x1104
abbrev PM_VCODE : Nat := 0x1108
abbrev PM_SLEEP_REQ : Nat := 0x110C
abbrev PM_SLEEP_CTRL : Nat := 0x1110
abbrev PM_SLEEP_DRAIN : Nat := 0x1114
abbrev PM_RB7_ADDR : Nat := 0x1120
abbrev PM_RB7_DATA : Nat := 0x1124
abbrev PM_LEVEL_CHANGES : Nat := 0x1800
abbrev PM_VRDY_FAILS : Nat := 0x1804
abbrev PM_S1_ENTRIES : Nat := 0x1808
abbrev PM_S2_ENTRIES : Nat := 0x180C
abbrev PM_S3_ENTRIES : Nat := 0x1810
abbrev PM_ENTRY_ABORTS : Nat := 0x1814
abbrev PM_S1_EXITS : Nat := 0x1818
abbrev RST_CTRL : Nat := 0x2100
abbrev RST_CAUSE : Nat := 0x2104
abbrev RST_STATUS : Nat := 0x2108
abbrev RST_STRAPS : Nat := 0x210C
abbrev FLT_CTRL : Nat := 0x3100
abbrev FLT_STATUS : Nat := 0x3104
abbrev FLT_CMD : Nat := 0x3108
abbrev FLT_ESC_WINDOW : Nat := 0x310C
abbrev FLT_SHED_STEP : Nat := 0x3110
abbrev FLT_MARK : Nat := 0x3114
abbrev FLT_HALT_CAUSE : Nat := 0x3118
abbrev FLT_FIRST (i : Nat) : Nat := 0x3120 + i * 4
abbrev FLT_PEND (i : Nat) : Nat := 0x3200 + i * 4
abbrev FLT_PEND4 : Nat := 0x3210
abbrev FLT_ESC (i : Nat) : Nat := 0x3220 + i * 4
abbrev FLT_RX_HDR : Nat := 0x3300
abbrev FLT_RX_W (i : Nat) : Nat := 0x3304 + i * 4
abbrev FLT_SRC (i : Nat) : Nat := 0x3400 + i * 4
abbrev FLT_SRCCNT (i : Nat) : Nat := 0x3800 + i * 4
abbrev FLT_RECORDS : Nat := 0x3A00
abbrev FLT_RX_RECORDS : Nat := 0x3A08
abbrev FLT_MARKERS : Nat := 0x3A10
abbrev FLT_CELL_DROPS : Nat := 0x3A14
abbrev FLT_RX_DROPS : Nat := 0x3A18
abbrev FLT_CELLS_TX : Nat := 0x3A1C
abbrev FLT_ESCALATIONS : Nat := 0x3A20
abbrev FLT_SHEDS : Nat := 0x3A24
abbrev FLT_FI_INJECTIONS : Nat := 0x3A28
abbrev FLT_MSIX_SENT : Nat := 0x3A2C
abbrev FLT_HIST (i : Nat) : Nat := 0x3C00 + i * 4
abbrev FLT_MSI_X (i : Nat) : Nat := 0x3D00 + i * 4
abbrev FLT_MSI_X_TOTAL : Nat := 0x3F00
abbrev SEC_STATUS : Nat := 0x4100
abbrev SEC_DEVICE_ID (i : Nat) : Nat := 0x4104 + i * 4
abbrev SEC_LC_REQ : Nat := 0x4110
abbrev SEC_LC_STATUS : Nat := 0x4114
abbrev SEC_AUTH_CHAL (i : Nat) : Nat := 0x4120 + i * 4
abbrev SEC_AUTH_RESP (i : Nat) : Nat := 0x4130 + i * 4
abbrev SEC_AUTH_STATUS : Nat := 0x4140
abbrev SEC_AUTH_CMD : Nat := 0x4144
abbrev SEC_CR_CHAL (i : Nat) : Nat := 0x4150 + i * 4
abbrev SEC_CR_RESP (i : Nat) : Nat := 0x4160 + i * 4
abbrev SEC_CPS (i : Nat) : Nat := 0x4170 + i * 4
abbrev SEC_CMD : Nat := 0x4190
abbrev SEC_CMD_STATUS : Nat := 0x4194
abbrev SEC_AUTH_OK : Nat := 0x4800
abbrev SEC_AUTH_FAIL : Nat := 0x4804
abbrev SEC_CR_RESPONSES : Nat := 0x4808
abbrev SEC_LC_TRANSITIONS : Nat := 0x480C
abbrev SEC_PUF_RETRIES : Nat := 0x4810
abbrev SEC_AF_ERRORS : Nat := 0x4814
abbrev KEY_VALID : Nat := 0x5100
abbrev KEY_MSG_STATUS : Nat := 0x5104
abbrev KEY_CMD : Nat := 0x5108
abbrev KEY_CMD_STATUS : Nat := 0x510C
abbrev KEY_CLR_ATTR0 : Nat := 0x5110
abbrev KEY_CLR_ATTR1 : Nat := 0x5114
abbrev KEY_CLR_DATA (i : Nat) : Nat := 0x5120 + i * 4
abbrev KEY_WORLD : Nat := 0x5140
abbrev KEY_ENG (i : Nat) : Nat := 0x5180 + i * 4
abbrev KEY_ATTR (i : Nat) : Nat := 0x5200 + i * 4
abbrev KEY_UPDATES_OK : Nat := 0x5800
abbrev KEY_UPDATES_REFUSED : Nat := 0x5804
abbrev KEY_ADVANCES : Nat := 0x5808
abbrev KEY_CLR_LOADS : Nat := 0x580C
abbrev KEY_ERASES : Nat := 0x5810
abbrev KEY_ENG_REFUSED : Nat := 0x5814
abbrev KEY_MSG (i : Nat) : Nat := 0x5C00 + i * 4
abbrev TIME_CTRL : Nat := 0x6100
abbrev TIME_STATUS : Nat := 0x6104
abbrev TIME_KP : Nat := 0x6108
abbrev TIME_KI : Nat := 0x610C
abbrev TIME_STEP_THRESH : Nat := 0x6110
abbrev TIME_LOCK : Nat := 0x6114
abbrev TIME_SRC_TIMEOUT : Nat := 0x6118
abbrev TIME_HOLD_AVG : Nat := 0x611C
abbrev TIME_FREQ_ADJ : Nat := 0x6120
abbrev TIME_OFFSET : Nat := 0x6124
abbrev TIME_SRC_DELAY : Nat := 0x6128
abbrev TIME_LINK_DELAY (i : Nat) : Nat := 0x6130 + i * 4
abbrev TIME_ASYM (i : Nat) : Nat := 0x6150 + i * 4
abbrev TIME_SNAP : Nat := 0x6180
abbrev TIME_SNAP_FRAC (i : Nat) : Nat := 0x6184 + i * 4
abbrev TIME_ADJ_CMD : Nat := 0x61A0
abbrev TIME_SET_NS : Nat := 0x61A4
abbrev TIME_SET_S_LO : Nat := 0x61A8
abbrev TIME_SET_S_HI : Nat := 0x61AC
abbrev TIME_STEP_NS : Nat := 0x61B0
abbrev TIME_PPS_CTRL : Nat := 0x61C0
abbrev TIME_PPS_OUT_OFS : Nat := 0x61C4
abbrev TIME_PPS_IN_FRAC (i : Nat) : Nat := 0x61C8 + i * 4
abbrev TIME_EVT_CTRL (i : Nat) : Nat := 0x6200 + i * 4
abbrev TIME_EVT_LEVEL : Nat := 0x6220
abbrev TIME_MSG_STATUS : Nat := 0x6300
abbrev TIME_MSG_RX : Nat := 0x6304
abbrev TIME_MSG_TX : Nat := 0x6308
abbrev TIME_MSG_TX_GO : Nat := 0x630C
abbrev TIME_EXCH_TX : Nat := 0x6800
abbrev TIME_EXCH_RX : Nat := 0x6808
abbrev TIME_EXCH_TIMEOUT : Nat := 0x6810
abbrev TIME_STEPS : Nat := 0x6814
abbrev TIME_LOCK_LOSSES : Nat := 0x6818
abbrev TIME_HOLDOVER_ENTRIES : Nat := 0x681C
abbrev TIME_EVT_RECORDS : Nat := 0x6820
abbrev TIME_EVT_GLITCHES : Nat := 0x6824
abbrev TIME_PPS_IN_MISSES : Nat := 0x6828
abbrev TIME_MSG_RX_DROPS : Nat := 0x682C
abbrev SPD_CTRL : Nat := 0x7100
abbrev SPD_CYCLE_PS : Nat := 0x7104
abbrev SPD_LIMIT_PS : Nat := 0x7108
abbrev SPD_CYCLE_MAX : Nat := 0x710C
abbrev SPD_CYCLE_MIN : Nat := 0x7110
abbrev SPD_STATUS : Nat := 0x7114
abbrev SPD_PACE_GUARD : Nat := 0x7118
abbrev SPD_LIMIT_P0 : Nat := 0x7120
abbrev SPD_LIMIT_P1 : Nat := 0x7124
abbrev SPD_LIMIT_P2 : Nat := 0x7128
abbrev SPD_LIMIT_P3 : Nat := 0x712C
abbrev SPD_SLOW_ENTRIES : Nat := 0x7800
abbrev SPD_SLOW_SAMPLES : Nat := 0x7808
abbrev SPD_PACE_STEPS : Nat := 0x7810
abbrev SPD_SAMPLES : Nat := 0x7818
abbrev PAIR_CTRL : Nat := 0x8100
abbrev PAIR_STATUS : Nat := 0x8104
abbrev PAIR_EPOCH : Nat := 0x8108
abbrev PAIR_PEER_EPOCH : Nat := 0x810C
abbrev PAIR_HB_TIMEOUT : Nat := 0x8110
abbrev PAIR_CMD : Nat := 0x8114
abbrev PAIR_SWAP_DRAIN : Nat := 0x8118
abbrev PAIR_DOCK_CTRL : Nat := 0x8120
abbrev PAIR_DOCK_STATUS : Nat := 0x8124
abbrev PAIR_DOCK_EPOCH : Nat := 0x8128
abbrev PAIR_DOCK_HIDS (i : Nat) : Nat := 0x8130 + i * 4
abbrev PAIR_FO_TIME_NS (i : Nat) : Nat := 0x8140 + i * 4
abbrev PAIR_FO_STATUS : Nat := 0x814C
abbrev PAIR_JSEQ_TX : Nat := 0x8150
abbrev PAIR_JSEQ_ACK : Nat := 0x8154
abbrev PAIR_FAILOVERS : Nat := 0x8800
abbrev PAIR_SWAPS : Nat := 0x8804
abbrev PAIR_SWAP_ABORTS : Nat := 0x8808
abbrev PAIR_TAKEOVERS_REFUSED : Nat := 0x880C
abbrev PAIR_PARTIAL_LOSSES : Nat := 0x8810
abbrev PAIR_JOURNAL_OVERFLOWS : Nat := 0x8814
abbrev PAIR_RESYNCS : Nat := 0x8818
abbrev PAIR_JOURNAL_RECORDS : Nat := 0x8820
abbrev PAIR_FOLLOW_DISCARDS : Nat := 0x8828
abbrev PAIR_FO_UNACKED_CELLS : Nat := 0x8830
abbrev PAIR_DOCK_SWITCHES : Nat := 0x8838
abbrev PAIR_ADOPTIONS : Nat := 0x883C
abbrev PAIR_RELINQUISHES : Nat := 0x8840
abbrev PAIR_CMD_REFUSED : Nat := 0x8844
abbrev LINK_CTRL (n : Nat) : Nat := 0x10100 + n * 0x1000
abbrev LINK_STATUS (n : Nat) : Nat := 0x10104 + n * 0x1000
abbrev LINK_SPLIT_REQ (n : Nat) : Nat := 0x10108 + n * 0x1000
abbrev LINK_SPLIT_STATUS (n : Nat) : Nat := 0x1010C + n * 0x1000
abbrev LINK_HOLD (n : Nat) : Nat := 0x10110 + n * 0x1000
abbrev LINK_RETRY (n : Nat) : Nat := 0x10114 + n * 0x1000
abbrev LINK_HOLD_STATUS (n : Nat) : Nat := 0x10118 + n * 0x1000
abbrev LINK_PARTNER_ID_LO (n : Nat) (i : Nat) : Nat := 0x10120 + n * 0x1000 + i * 4
abbrev LINK_PARTNER_ROLE (n : Nat) : Nat := 0x10128 + n * 0x1000
abbrev LINK_PARTNER_EPOCH (n : Nat) : Nat := 0x1012C + n * 0x1000
abbrev LINK_OWN_EPOCH (n : Nat) : Nat := 0x10130 + n * 0x1000
abbrev LINK_ACK_TIMEOUT (n : Nat) : Nat := 0x10140 + n * 0x1000
abbrev LINK_FEC_THRESH (n : Nat) : Nat := 0x10144 + n * 0x1000
abbrev LINK_CRD_INIT (n : Nat) (i : Nat) : Nat := 0x10150 + n * 0x1000 + i * 4
abbrev LINK_VIOL_STATUS (n : Nat) : Nat := 0x10160 + n * 0x1000
abbrev LINK_BLOCKS_TX (n : Nat) : Nat := 0x10800 + n * 0x1000
abbrev LINK_BLOCKS_RX (n : Nat) : Nat := 0x10808 + n * 0x1000
abbrev LINK_BCRC_ERR (n : Nat) : Nat := 0x10810 + n * 0x1000
abbrev LINK_NAK_TX (n : Nat) : Nat := 0x10814 + n * 0x1000
abbrev LINK_NAK_RX (n : Nat) : Nat := 0x10818 + n * 0x1000
abbrev LINK_REPLAYED_BLOCKS (n : Nat) : Nat := 0x1081C + n * 0x1000
abbrev LINK_DUP_BLOCKS (n : Nat) : Nat := 0x10820 + n * 0x1000
abbrev LINK_ACK_TIMEOUTS (n : Nat) : Nat := 0x10824 + n * 0x1000
abbrev LINK_RETRAINS (n : Nat) : Nat := 0x10828 + n * 0x1000
abbrev LINK_DOWN_EVENTS (n : Nat) : Nat := 0x1082C + n * 0x1000
abbrev LINK_AUTH_FAIL (n : Nat) : Nat := 0x10830 + n * 0x1000
abbrev LINK_TID_UNKNOWN (n : Nat) : Nat := 0x10838 + n * 0x1000
abbrev LINK_CRD_OVERRUN (n : Nat) : Nat := 0x1083C + n * 0x1000
abbrev LINK_TRAIN_BAD (n : Nat) : Nat := 0x10840 + n * 0x1000
abbrev LINK_SEQ_REGRESS (n : Nat) : Nat := 0x10844 + n * 0x1000
abbrev LINK_SB_BAD (n : Nat) : Nat := 0x10848 + n * 0x1000
abbrev LINK_HOLD_RESUMES (n : Nat) : Nat := 0x1084C + n * 0x1000
abbrev LINK_HOLD_EXPIRIES (n : Nat) : Nat := 0x10850 + n * 0x1000
abbrev LINK_SPLITS (n : Nat) : Nat := 0x10854 + n * 0x1000
abbrev LINK_LP_ENTRIES (n : Nat) : Nat := 0x10858 + n * 0x1000
abbrev LINK_RETRAIN_LOSS_CELLS (n : Nat) : Nat := 0x10860 + n * 0x1000
abbrev LINK_HOLD_LOSS_CELLS (n : Nat) : Nat := 0x10868 + n * 0x1000
abbrev LANE_SEL (n : Nat) : Nat := 0x20100 + n * 0x1000
abbrev LANE_CTRL (n : Nat) : Nat := 0x20104 + n * 0x1000
abbrev LANE_STATUS (n : Nat) : Nat := 0x20108 + n * 0x1000
abbrev LANE_FFE (n : Nat) : Nat := 0x2010C + n * 0x1000
abbrev LANE_CTLE (n : Nat) : Nat := 0x20110 + n * 0x1000
abbrev LANE_DFE (n : Nat) (i : Nat) : Nat := 0x20114 + n * 0x1000 + i * 4
abbrev LANE_PRBS_CTRL (n : Nat) : Nat := 0x20120 + n * 0x1000
abbrev LANE_BER_EST (n : Nat) : Nat := 0x20124 + n * 0x1000
abbrev LANE_PRBS_ERR (n : Nat) : Nat := 0x20800 + n * 0x1000
abbrev LANE_PRBS_BITS (n : Nat) : Nat := 0x20808 + n * 0x1000
abbrev LANE_FEC_CW (n : Nat) : Nat := 0x20810 + n * 0x1000
abbrev LANE_FEC_CORR_SYM (n : Nat) : Nat := 0x20818 + n * 0x1000
abbrev LANE_FEC_UNCORR_CW (n : Nat) : Nat := 0x20820 + n * 0x1000
abbrev TC_CTRL (n : Nat) : Nat := 0x40100 + n * 0x1000
abbrev TC_STATUS (n : Nat) : Nat := 0x40104 + n * 0x1000
abbrev TC_SVID (n : Nat) : Nat := 0x40108 + n * 0x1000
abbrev TC_MODE_POLICY (n : Nat) : Nat := 0x4010C + n * 0x1000
abbrev TC_SAFE0_TIME (n : Nat) : Nat := 0x40110 + n * 0x1000
abbrev TC_VSET_CAL (n : Nat) : Nat := 0x40114 + n * 0x1000
abbrev TC_VSET_CODE (n : Nat) : Nat := 0x40118 + n * 0x1000
abbrev TC_SENSE (n : Nat) : Nat := 0x4011C + n * 0x1000
abbrev TC_CONTRACT (n : Nat) : Nat := 0x40120 + n * 0x1000
abbrev TC_SNK_POLICY (n : Nat) : Nat := 0x40124 + n * 0x1000
abbrev TC_FUSE (n : Nat) : Nat := 0x40128 + n * 0x1000
abbrev TC_FUSE_RETRY (n : Nat) : Nat := 0x4012C + n * 0x1000
abbrev TC_SRC_PDO1 (n : Nat) : Nat := 0x40130 + n * 0x1000
abbrev TC_SRC_PDO2 (n : Nat) (i : Nat) : Nat := 0x40134 + n * 0x1000 + i * 4
abbrev TC_EPR_PDO8 (n : Nat) (i : Nat) : Nat := 0x40150 + n * 0x1000 + i * 4
abbrev TC_PARTNER_CAP1 (n : Nat) (i : Nat) : Nat := 0x40180 + n * 0x1000 + i * 4
abbrev TC_ID_HDR (n : Nat) : Nat := 0x401B0 + n * 0x1000
abbrev TC_ID_PRODUCT (n : Nat) : Nat := 0x401B4 + n * 0x1000
abbrev TC_CABLE_VDO (n : Nat) : Nat := 0x401B8 + n * 0x1000
abbrev TC_AUX_CMD (n : Nat) : Nat := 0x401C0 + n * 0x1000
abbrev TC_AUX_STATUS (n : Nat) : Nat := 0x401C4 + n * 0x1000
abbrev TC_AUX_DATA0 (n : Nat) (i : Nat) : Nat := 0x401D0 + n * 0x1000 + i * 4
abbrev TC_CMD (n : Nat) : Nat := 0x401E0 + n * 0x1000
abbrev TC_CMD_STATUS (n : Nat) : Nat := 0x401E4 + n * 0x1000
abbrev TC_SRC_BUDGET (n : Nat) : Nat := 0x401F0 + n * 0x1000
abbrev TC_ATTACHES (n : Nat) : Nat := 0x40800 + n * 0x1000
abbrev TC_DETACHES (n : Nat) : Nat := 0x40804 + n * 0x1000
abbrev TC_CONTRACTS (n : Nat) : Nat := 0x40808 + n * 0x1000
abbrev TC_REJECTS (n : Nat) : Nat := 0x4080C + n * 0x1000
abbrev TC_HARD_RESETS_TX (n : Nat) : Nat := 0x40810 + n * 0x1000
abbrev TC_HARD_RESETS_RX (n : Nat) : Nat := 0x40814 + n * 0x1000
abbrev TC_SWAPS (n : Nat) : Nat := 0x40818 + n * 0x1000
abbrev TC_MODE_ENTRIES (n : Nat) : Nat := 0x4081C + n * 0x1000
abbrev TC_FUSE_TRIPS (n : Nat) : Nat := 0x40820 + n * 0x1000
abbrev TC_FAST_TRIPS (n : Nat) : Nat := 0x40824 + n * 0x1000
abbrev TC_VCONN_TRIPS (n : Nat) : Nat := 0x40828 + n * 0x1000
abbrev TC_DISCHARGES (n : Nat) : Nat := 0x4082C + n * 0x1000
abbrev TC_PD_ERRORS (n : Nat) : Nat := 0x40830 + n * 0x1000
abbrev PP_CTRL : Nat := 0x48100
abbrev PP_STATUS : Nat := 0x48104
abbrev PP_CMD : Nat := 0x48108
abbrev PP_FEED_WIN : Nat := 0x4810C
abbrev PP_FEED_QUAL : Nat := 0x48110
abbrev PP_PFW : Nat := 0x48114
abbrev PP_ILIM : Nat := 0x48118
abbrev PP_GATE : Nat := 0x4811C
abbrev PP_SENSE : Nat := 0x48120
abbrev PP_RETRY : Nat := 0x48124
abbrev PP_THERM : Nat := 0x48128
abbrev PP_MODEL : Nat := 0x4812C
abbrev PP_BULK : Nat := 0x48130
abbrev PP_MEAS_FEEDA (i : Nat) : Nat := 0x48140 + i * 4
abbrev PP_MEAS_I : Nat := 0x48150
abbrev PP_MEAS_TEMP : Nat := 0x48154
abbrev PP_LOAD_P : Nat := 0x48158
abbrev PP_HOLDUP_EST : Nat := 0x4815C
abbrev PP_REV_OFF_A : Nat := 0x48800
abbrev PP_REV_OFF_B : Nat := 0x48804
abbrev PP_FEED_A_LOSSES : Nat := 0x48808
abbrev PP_FEED_B_LOSSES : Nat := 0x4880C
abbrev PP_LIMIT_ENTRIES : Nat := 0x48810
abbrev PP_TRIPS_SLOW : Nat := 0x48814
abbrev PP_TRIPS_FAST : Nat := 0x48818
abbrev PP_TRIPS_THERMAL : Nat := 0x4881C
abbrev PP_RAMP_TIMEOUTS : Nat := 0x48820
abbrev PP_RETRIES : Nat := 0x48824
abbrev PP_PFW_ASSERTS : Nat := 0x48828
abbrev TUN_IDX : Nat := 0x50100
abbrev TUN_CTRL : Nat := 0x50104
abbrev TUN_EVT_ROUTE : Nat := 0x50108
abbrev TUN_STATUS : Nat := 0x5010C
abbrev TUN_TORN (i : Nat) : Nat := 0x50110 + i * 4
abbrev TUN_STALLED (i : Nat) : Nat := 0x50130 + i * 4
abbrev TUN_SUB (i : Nat) : Nat := 0x50400 + i * 4
abbrev TUN_HROUTE (i : Nat) : Nat := 0x50500 + i * 4
abbrev TUN_COMMITS : Nat := 0x50800
abbrev TUN_COMMIT_REFUSED : Nat := 0x50804
abbrev TUN_TEARDOWNS : Nat := 0x50808
abbrev TUN_RESYNCS : Nat := 0x5080C
abbrev TUN_HCRC_ERR : Nat := 0x50810
abbrev TUN_FORMAT_ERR : Nat := 0x50814
abbrev TUN_STALL_ENTRIES : Nat := 0x50818
abbrev TUN_CRC_ERR : Nat := 0x5081C
abbrev TUN_OVERSIZE : Nat := 0x50820
abbrev TUN_ABORTS : Nat := 0x50824
abbrev TUN_TID0_UNROUTED : Nat := 0x50828
abbrev TUN_EVT_UNROUTED : Nat := 0x5082C
abbrev TUN_E2E_EXPIRIES : Nat := 0x50830
abbrev TUN_TEARDOWN_CELLS : Nat := 0x50838
abbrev TUN_ENTRY0 : Nat := 0x50C00
abbrev TUN_ENTRY1 : Nat := 0x50C04
abbrev TUN_ENTRY2 : Nat := 0x50C08
abbrev TUN_ENTRY3 : Nat := 0x50C0C
abbrev TUN_ACTIVE (i : Nat) : Nat := 0x50C10 + i * 4
abbrev TUN_TSTATE : Nat := 0x50C20
abbrev TUN_QCELLS : Nat := 0x50C24
abbrev TUN_OUTSTANDING : Nat := 0x50C28
abbrev TUN_ENT_CELLS_IN : Nat := 0x50C40
abbrev TUN_ENT_CELLS_OUT : Nat := 0x50C48
abbrev TUN_ENT_GAP_CELLS : Nat := 0x50C50
abbrev TUN_ENT_DUP_CELLS : Nat := 0x50C54
abbrev TUN_ENT_RETX_CELLS : Nat := 0x50C58
abbrev TUN_ENT_DROPS : Nat := 0x50C5C
abbrev SWC_CTRL : Nat := 0x51100
abbrev SWC_PRESENT : Nat := 0x51104
abbrev SWC_BQ_SEL : Nat := 0x51110
abbrev SWC_BQ_CTRL : Nat := 0x51114
abbrev SWC_BQ_STATUS : Nat := 0x51118
abbrev SWC_CT_FRAMES : Nat := 0x51800
abbrev SWC_SF_FRAMES : Nat := 0x51808
abbrev SWC_CT_ABORTS : Nat := 0x51810
abbrev SWC_CT_UNDERRUN : Nat := 0x51814
abbrev SWC_ABT_RX : Nat := 0x51818
abbrev SWC_SF_ABT_DISCARD : Nat := 0x5181C
abbrev SWC_BQ_FLUSH_WORDS : Nat := 0x51820
abbrev SWC_BQ_PKTS : Nat := 0x51828
abbrev BUF_CTRL : Nat := 0x52100
abbrev BUF_FREE : Nat := 0x52104
abbrev BUF_OVF_STATUS : Nat := 0x52108
abbrev BUF_CLASS0 (i : Nat) : Nat := 0x52120 + i * 4
abbrev BUF_CLASS2 : Nat := 0x52128
abbrev BUF_CLASS3 : Nat := 0x5212C
abbrev BUF_CLASS4 (i : Nat) : Nat := 0x52130 + i * 4
abbrev BUF_QSEL : Nat := 0x52140
abbrev BUF_QSTATUS : Nat := 0x52144
abbrev BUF_QOVF : Nat := 0x52148
abbrev BUF_QDROPS : Nat := 0x5214C
abbrev BUF_QRESET_CELLS : Nat := 0x52150
abbrev BUF_SPILL_CELLS : Nat := 0x52800
abbrev BUF_FILL_CELLS : Nat := 0x52808
abbrev BUF_TAIL_DROPS : Nat := 0x52810
abbrev BUF_STORE_FULL_DROPS : Nat := 0x52818
abbrev BUF_SPILL_BUSY_DROPS : Nat := 0x5281C
abbrev BUF_SPILL_EPISODES : Nat := 0x52820
abbrev BUF_QRESETS : Nat := 0x52824
abbrev BUF_QRESET_CELLS_TOTAL : Nat := 0x52828
abbrev BUF_LOFT_ECC_CORR : Nat := 0x52830
abbrev BUF_LOFT_ECC_UNCORR : Nat := 0x52834
abbrev BUF_WAIT_EVENTS : Nat := 0x52838
abbrev MEM_CFG : Nat := 0x53100
abbrev MEM_CTRL : Nat := 0x53104
abbrev MEM_STATUS : Nat := 0x53108
abbrev MEM_FB_BASE : Nat := 0x53110
abbrev MEM_FB_SIZE : Nat := 0x53114
abbrev MEM_OVF_BASE : Nat := 0x53118
abbrev MEM_OVF_SIZE : Nat := 0x5311C
abbrev MEM_SCR_BASE : Nat := 0x53120
abbrev MEM_SCR_SIZE : Nat := 0x53124
abbrev MEM_ECC_THRESH : Nat := 0x53130
abbrev MEM_ECC_FIRST : Nat := 0x53134
abbrev MEM_SCRUB_POS : Nat := 0x53138
abbrev MEM_ZQ_CTRL : Nat := 0x5313C
abbrev MEM_ECC_CORR : Nat := 0x53800
abbrev MEM_ECC_UNCORR : Nat := 0x53808
abbrev MEM_SCRUB_PASSES : Nat := 0x5380C
abbrev MEM_SCRUB_FORCED_SLOTS : Nat := 0x53810
abbrev MEM_ZQ_FORCED : Nat := 0x53818
abbrev MEM_REF_POSTPONED : Nat := 0x5381C
abbrev MEM_RATE_CHANGES : Nat := 0x53820
abbrev MEM_INIT_FAILS : Nat := 0x53824
abbrev SCH_CTRL (n : Nat) : Nat := 0x60100 + n * 0x1000
abbrev SCH_STATUS (n : Nat) : Nat := 0x60104 + n * 0x1000
abbrev SCH_LINE_RATE (n : Nat) : Nat := 0x60108 + n * 0x1000
abbrev SCH_RESV_SUM (n : Nat) : Nat := 0x6010C + n * 0x1000
abbrev SCH_PORT (n : Nat) : Nat := 0x60110 + n * 0x1000
abbrev SCH_CLASS (n : Nat) (i : Nat) : Nat := 0x60120 + n * 0x1000 + i * 4
abbrev SCH_SVC_SEL (n : Nat) : Nat := 0x60140 + n * 0x1000
abbrev SCH_SVC (n : Nat) : Nat := 0x60144 + n * 0x1000
abbrev SCH_GSEL (n : Nat) : Nat := 0x60180 + n * 0x1000
abbrev SCH_GATE_CTRL (n : Nat) : Nat := 0x60184 + n * 0x1000
abbrev SCH_GATE_CYCLE (n : Nat) : Nat := 0x60188 + n * 0x1000
abbrev SCH_GATE_BASE_NS (n : Nat) : Nat := 0x6018C + n * 0x1000
abbrev SCH_GATE_BASE_S_LO (n : Nat) : Nat := 0x60190 + n * 0x1000
abbrev SCH_GATE_BASE_S_HI (n : Nat) : Nat := 0x60194 + n * 0x1000
abbrev SCH_GATE_STATUS (n : Nat) : Nat := 0x60198 + n * 0x1000
abbrev SCH_SUB (n : Nat) (i : Nat) : Nat := 0x60400 + n * 0x1000 + i * 4
abbrev SCH_SHP_RATE (n : Nat) (i : Nat) : Nat := 0x60608 + n * 0x1000 + i * 8
abbrev SCH_SHP_HI (n : Nat) (i : Nat) : Nat := 0x6060C + n * 0x1000 + i * 8
abbrev SCH_GRANTS (n : Nat) : Nat := 0x60800 + n * 0x1000
abbrev SCH_EXPRESS_GRANTS (n : Nat) : Nat := 0x60808 + n * 0x1000
abbrev SCH_GUARD_HOLDS (n : Nat) : Nat := 0x60810 + n * 0x1000
abbrev SCH_GATE_OVERSIZE (n : Nat) : Nat := 0x60814 + n * 0x1000
abbrev SCH_OVERBOOK_ENTRIES (n : Nat) : Nat := 0x60818 + n * 0x1000
abbrev SCH_GATE_SWITCHES (n : Nat) : Nat := 0x6081C + n * 0x1000
abbrev SCH_GATE_E0_DUR (n : Nat) : Nat := 0x60C00 + n * 0x1000
abbrev SCH_GATE_E1_31_DUR (n : Nat) (i : Nat) : Nat := 0x60C08 + n * 0x1000 + i * 8
abbrev SCH_GATE_E_MASK (n : Nat) (i : Nat) : Nat := 0x60C04 + n * 0x1000 + i * 8
abbrev SCH_GATE_CELLS (n : Nat) (i : Nat) : Nat := 0x60D00 + n * 0x1000 + i * 4
abbrev DISP_CTRL : Nat := 0x70100
abbrev DISP_STATUS : Nat := 0x70104
abbrev DISP_FRAME_COUNT : Nat := 0x70108
abbrev DISP_BG_COLOUR : Nat := 0x7010C
abbrev DISP_H_TIMING : Nat := 0x70110
abbrev DISP_H_SYNC : Nat := 0x70114
abbrev DISP_V_TIMING : Nat := 0x70118
abbrev DISP_V_SYNC : Nat := 0x7011C
abbrev DISP_PCLK_KHZ : Nat := 0x70120
abbrev DISP_GND_CTRL : Nat := 0x70140
abbrev DISP_GND_ADDR : Nat := 0x70144
abbrev DISP_GND_PITCH : Nat := 0x70148
abbrev DISP_GND_SIZE : Nat := 0x7014C
abbrev DISP_GND_POS : Nat := 0x70150
abbrev DISP_APQ_CTRL : Nat := 0x70160
abbrev DISP_APQ_ADDR : Nat := 0x70164
abbrev DISP_APQ_PITCH : Nat := 0x70168
abbrev DISP_APQ_SIZE : Nat := 0x7016C
abbrev DISP_APQ_POS : Nat := 0x70170
abbrev DISP_ACT_GND_ADDR : Nat := 0x70180
abbrev DISP_ACT_APQ_ADDR : Nat := 0x70184
abbrev DISP_CUR_CTRL : Nat := 0x70190
abbrev DISP_CUR_POS : Nat := 0x70194
abbrev DISP_IMG_ADDR : Nat := 0x701A0
abbrev DISP_IMG_DATA : Nat := 0x701A4
abbrev DISP_BNR_CTRL : Nat := 0x701B0
abbrev DISP_BNR_POS : Nat := 0x701B4
abbrev DISP_BNR_TIME_POS : Nat := 0x701B8
abbrev DISP_STALE_TIMEOUT : Nat := 0x701BC
abbrev DISP_BNR_TOFS : Nat := 0x701C0
abbrev DISP_LAST_UPD_NS (i : Nat) : Nat := 0x701C4 + i * 4
abbrev DISP_ALT (i : Nat) : Nat := 0x701E0 + i * 4
abbrev DISP_CH_BASE (i : Nat) : Nat := 0x70200 + i * 16
abbrev DISP_CH_PITCH (i : Nat) : Nat := 0x70204 + i * 16
abbrev DISP_CH_LINE (i : Nat) : Nat := 0x70208 + i * 16
abbrev DISP_CH_POS (i : Nat) : Nat := 0x7020C + i * 16
abbrev DISP_BUF_RELEASE : Nat := 0x70300
abbrev DISP_UNDERRUNS : Nat := 0x70800
abbrev DISP_COMMITS : Nat := 0x70804
abbrev DISP_COMMITS_LATE : Nat := 0x70808
abbrev DISP_SUPERSEDED : Nat := 0x7080C
abbrev DISP_FENCE_HITS : Nat := 0x70810
abbrev DISP_TE_MISSING : Nat := 0x70814
abbrev DISP_CH_LEN_ERR : Nat := 0x70818
abbrev DISP_CH_MISALIGN : Nat := 0x7081C
abbrev DISP_CH_RANGE : Nat := 0x70820
abbrev DISP_CH_NOCHAN : Nat := 0x70824
abbrev DISP_CH_LOST_LINES : Nat := 0x70828
abbrev DISP_BANNER_SHOWS : Nat := 0x7082C
abbrev DISP_URGENT_LINES : Nat := 0x70830
abbrev DISP_LINES_WRITTEN : Nat := 0x70838
abbrev DOUT_DP_CTRL (n : Nat) : Nat := 0x71100 + n * 0x1000
abbrev DOUT_STATUS (n : Nat) : Nat := 0x71104 + n * 0x1000
abbrev DOUT_AUX_CMD (n : Nat) : Nat := 0x71110 + n * 0x1000
abbrev DOUT_AUX_STATUS (n : Nat) : Nat := 0x71114 + n * 0x1000
abbrev DOUT_DATA (n : Nat) (i : Nat) : Nat := 0x71120 + n * 0x1000 + i * 4
abbrev DOUT_TRAIN_FAILS (n : Nat) : Nat := 0x71800 + n * 0x1000
abbrev DOUT_HPD_LOSSES (n : Nat) : Nat := 0x71804 + n * 0x1000
abbrev DOUT_IRQ_HPD (n : Nat) : Nat := 0x71808 + n * 0x1000
abbrev DOUT_AUX_TIMEOUTS (n : Nat) : Nat := 0x7180C + n * 0x1000
abbrev DOUT_DSI_CTRL (n : Nat) : Nat := 0x71100 + n * 0x1000
abbrev DOUT_DCS_HDR (n : Nat) : Nat := 0x71110 + n * 0x1000
abbrev DOUT_DCS_STATUS (n : Nat) : Nat := 0x71114 + n * 0x1000
abbrev DOUT_ACK_ERR (n : Nat) : Nat := 0x71800 + n * 0x1000
abbrev DOUT_TE_EDGES (n : Nat) : Nat := 0x71804 + n * 0x1000
abbrev DOUT_CMD_FRAMES (n : Nat) : Nat := 0x71808 + n * 0x1000
abbrev DOUT_ERR_REPORTS (n : Nat) : Nat := 0x7180C + n * 0x1000
abbrev ETH_CTRL : Nat := 0x78100
abbrev ETH_PTP_DOMAIN : Nat := 0x78104
abbrev ETH_CLOCK_ID (i : Nat) : Nat := 0x78108 + i * 4
abbrev ETH_STATUS : Nat := 0x78110
abbrev ETH_PTP_CORRECTED : Nat := 0x78800
abbrev ETH_PTP_NOSTAMP : Nat := 0x78808
abbrev ETH_FU_NOMATCH : Nat := 0x7880C
abbrev ETH_TWO_STEP_EVICT : Nat := 0x78810
abbrev ETH_TAG_ERR : Nat := 0x78814
abbrev MAC_CTRL (n : Nat) : Nat := 0x79100 + n * 0x1000
abbrev MAC_STATUS (n : Nat) : Nat := 0x79104 + n * 0x1000
abbrev MAC_MAX_FRAME (n : Nat) : Nat := 0x79108 + n * 0x1000
abbrev MAC_MISS_TSET (n : Nat) : Nat := 0x7910C + n * 0x1000
abbrev MAC_FCS_THRESH (n : Nat) : Nat := 0x79110 + n * 0x1000
abbrev MAC_PDELAY (n : Nat) : Nat := 0x79114 + n * 0x1000
abbrev MAC_DELAY_ASYM (n : Nat) : Nat := 0x79118 + n * 0x1000
abbrev MAC_RX_FRAMES (n : Nat) : Nat := 0x79800 + n * 0x1000
abbrev MAC_TX_FRAMES (n : Nat) : Nat := 0x79808 + n * 0x1000
abbrev MAC_RX_FCS_ERR (n : Nat) : Nat := 0x79810 + n * 0x1000
abbrev MAC_RX_RUNT (n : Nat) : Nat := 0x79814 + n * 0x1000
abbrev MAC_RX_OVERSIZE (n : Nat) : Nat := 0x79818 + n * 0x1000
abbrev MAC_RX_MACCTL (n : Nat) : Nat := 0x7981C + n * 0x1000
abbrev MAC_RX_BUF_DROP (n : Nat) : Nat := 0x79820 + n * 0x1000
abbrev MAC_FWD_MISS (n : Nat) : Nat := 0x79824 + n * 0x1000
abbrev MAC_NO_EGRESS (n : Nat) : Nat := 0x79828 + n * 0x1000
abbrev MAC_NO_TUNNEL (n : Nat) : Nat := 0x7982C + n * 0x1000
abbrev MAC_CLASS_SKIP (n : Nat) : Nat := 0x79830 + n * 0x1000
abbrev MAC_SPLIT_HORIZON (n : Nat) : Nat := 0x79834 + n * 0x1000
abbrev MAC_HELD_SKIP (n : Nat) : Nat := 0x79838 + n * 0x1000
abbrev MAC_PDELAY_TX (n : Nat) : Nat := 0x7983C + n * 0x1000
abbrev MAC_PDELAY_RX (n : Nat) : Nat := 0x79840 + n * 0x1000
abbrev FWD_CMD : Nat := 0x7D100
abbrev FWD_KEY_VID : Nat := 0x7D104
abbrev FWD_KEY_DA_LO : Nat := 0x7D108
abbrev FWD_KEY_DA_HI : Nat := 0x7D10C
abbrev FWD_KEY_TSET : Nat := 0x7D110
abbrev FWD_RESULT : Nat := 0x7D114
abbrev FWD_RES_HITS : Nat := 0x7D118
abbrev FWD_RES_SKIPS : Nat := 0x7D11C
abbrev FWD_STATUS : Nat := 0x7D120
abbrev FWD_HASH_SEED : Nat := 0x7D124
abbrev FWD_TSET_CNT (i : Nat) : Nat := 0x7D420 + i * 16
abbrev FWD_TSET_A (i : Nat) : Nat := 0x7D424 + i * 16
abbrev FWD_TSET_B (i : Nat) : Nat := 0x7D428 + i * 16
abbrev FWD_LOOKUPS : Nat := 0x7D800
abbrev FWD_HITS : Nat := 0x7D808
abbrev FWD_MISSES : Nat := 0x7D810
abbrev FWD_INSERT_FULL : Nat := 0x7D818
abbrev FWD_PARITY_ERR : Nat := 0x7D81C
abbrev PCIE_CTRL (n : Nat) : Nat := 0x80100 + n * 0x1000
abbrev PCIE_STATUS (n : Nat) : Nat := 0x80104 + n * 0x1000
abbrev PCIE_BAR_CFG (n : Nat) : Nat := 0x80108 + n * 0x1000
abbrev PCIE_AER_THRESH (n : Nat) : Nat := 0x8010C + n * 0x1000
abbrev PCIE_RX_TLPS (n : Nat) : Nat := 0x80800 + n * 0x1000
abbrev PCIE_TX_TLPS (n : Nat) : Nat := 0x80808 + n * 0x1000
abbrev PCIE_REPLAYS (n : Nat) : Nat := 0x80810 + n * 0x1000
abbrev PCIE_CORR_ERR (n : Nat) : Nat := 0x80814 + n * 0x1000
abbrev PCIE_UNCORR_ERR (n : Nat) : Nat := 0x80818 + n * 0x1000
abbrev PCIE_BAR_ERR (n : Nat) : Nat := 0x8081C + n * 0x1000
abbrev PCIE_POISONED (n : Nat) : Nat := 0x80820 + n * 0x1000
abbrev PCIE_RETRAINS (n : Nat) : Nat := 0x80824 + n * 0x1000
abbrev PCIE_LINK_DOWNS (n : Nat) : Nat := 0x80828 + n * 0x1000
abbrev PSW_CTRL : Nat := 0x82100
abbrev PSW_VDP_STATUS : Nat := 0x82104
abbrev PSW_SW_BASE (i : Nat) : Nat := 0x82200 + i * 8
abbrev PSW_SW_CTRL (i : Nat) : Nat := 0x82204 + i * 8
abbrev PSW_SW_FRAMES : Nat := 0x82800
abbrev PSW_SURPRISE_DOWNS : Nat := 0x82808
abbrev PSW_UR_SYNTH : Nat := 0x8280C
abbrev PSW_POSTED_DISCARDS : Nat := 0x82810
abbrev PSW_SW_ABANDON : Nat := 0x82814
abbrev PSW_SW_ORDER : Nat := 0x82818
abbrev BRG_CTRL : Nat := 0x90100
abbrev BRG_STATUS : Nat := 0x90104
abbrev BRG_PERR_ADDR : Nat := 0x90110
abbrev BRG_PERR_WINDOW : Nat := 0x90114
abbrev BRG_PERR_TIME_NS (i : Nat) : Nat := 0x90118 + i * 4
abbrev BRG_PERR_COUNT : Nat := 0x90124
abbrev BRG_MA_ADDR : Nat := 0x90140
abbrev BRG_MA_DATA : Nat := 0x90144
abbrev BRG_MA_CMD : Nat := 0x90148
abbrev BRG_MA_STATUS : Nat := 0x9014C
abbrev BRG_OW_BASE (i : Nat) : Nat := 0x90200 + i * 16
abbrev BRG_OW_CTRL (i : Nat) : Nat := 0x90204 + i * 16
abbrev BRG_OW_LB (i : Nat) : Nat := 0x90208 + i * 16
abbrev BRG_IW_LB (i : Nat) : Nat := 0x90300 + i * 16
abbrev BRG_IW_CTRL (i : Nat) : Nat := 0x90304 + i * 16
abbrev BRG_IW_PCIE_LO (i : Nat) : Nat := 0x90308 + i * 16
abbrev BRG_IW_PCIE_HI (i : Nat) : Nat := 0x9030C + i * 16
abbrev BRG_OUT_CYCLES : Nat := 0x90800
abbrev BRG_IN_CYCLES : Nat := 0x90808
abbrev BRG_NP_ERR : Nat := 0x90810
abbrev BRG_PERR_SKIPPED : Nat := 0x90814
abbrev BRG_DT_RETRIES : Nat := 0x90818
abbrev BRG_DT_EXPIRED : Nat := 0x9081C
abbrev BRG_DT_FULL : Nat := 0x90820
abbrev BRG_REMOTE_REFUSED : Nat := 0x90824
abbrev USB2_CTRL : Nat := 0x88100
abbrev USB2_STATUS : Nat := 0x88104
abbrev USB2_TT_TIMEOUT : Nat := 0x88108
abbrev USB2_PORT_CTRL (i : Nat) : Nat := 0x88110 + i * 4
abbrev USB2_PORT_STATUS (i : Nat) : Nat := 0x88130 + i * 4
abbrev USB2_TP_CTRL (i : Nat) : Nat := 0x88180 + i * 4
abbrev USB2_TP_STATUS (i : Nat) : Nat := 0x881A0 + i * 4
abbrev USB2_SPLITS_FWD : Nat := 0x88800
abbrev USB2_LATE_RESULTS : Nat := 0x88808
abbrev USB2_REMOTE_TIMEOUTS : Nat := 0x8880C
abbrev USB2_ISO_REFUSED : Nat := 0x88810
abbrev USB2_PERIODIC_FULL : Nat := 0x88814
abbrev USB2_TAG_ERR : Nat := 0x88818
abbrev USB2_UNBINDS : Nat := 0x8881C
abbrev USB2_PORT_ERRORS : Nat := 0x88820
abbrev USB2_L1_ENTRIES : Nat := 0x88824
abbrev USB3_CTRL : Nat := 0x89100
abbrev USB3_STATUS : Nat := 0x89104
abbrev USB3_PORT_CTRL (i : Nat) : Nat := 0x89110 + i * 4
abbrev USB3_PORT_STATUS (i : Nat) : Nat := 0x89130 + i * 4
abbrev USB3_PKT_TX : Nat := 0x89800
abbrev USB3_PKT_RX : Nat := 0x89808
abbrev USB3_BAD_PKT : Nat := 0x89810
abbrev USB3_TAG_ERR : Nat := 0x89814
abbrev USB3_U1_ENTRIES : Nat := 0x89818
abbrev USB3_U2_ENTRIES : Nat := 0x8981C
abbrev USB3_WARM_RESETS : Nat := 0x89820
abbrev USB3_VPORT_DOWNS : Nat := 0x89824
abbrev USB3_LINK_ERRORS : Nat := 0x89828
abbrev USBD_CTRL : Nat := 0x8A100
abbrev USBD_STATUS : Nat := 0x8A104
abbrev USBD_WAKE_STATUS : Nat := 0x8A108
abbrev USBD_IDS : Nat := 0x8A10C
abbrev USBD_EP2_STATUS : Nat := 0x8A110
abbrev USBD_EP2_RECORDS : Nat := 0x8A800
abbrev USBD_EP2_DROPS : Nat := 0x8A808
abbrev USBD_EP2_ZLP : Nat := 0x8A80C
abbrev USBD_CTRL_ABANDONED : Nat := 0x8A810
abbrev USBD_STALLS : Nat := 0x8A814
abbrev USBD_EP3_FRAMES : Nat := 0x8A818
abbrev USBD_GATE_REFUSED : Nat := 0x8A81C
abbrev USBD_BUS_RESETS : Nat := 0x8A820
abbrev USBD_WAKES : Nat := 0x8A824
abbrev USBD_WAKE_COLLISIONS : Nat := 0x8A828
abbrev CDC_STALL_LIMIT : Nat := 0xA0100
abbrev CDC_SEL : Nat := 0xA0104
abbrev CDC_XSTATUS : Nat := 0xA0108
abbrev CDC_XCLEAR : Nat := 0xA010C
abbrev CDC_OVERRUN (i : Nat) : Nat := 0xA0110 + i * 4
abbrev CDC_STALLED (i : Nat) : Nat := 0xA0120 + i * 4
abbrev CDC_REG_TMO_PAGE : Nat := 0xA0130
abbrev CDC_OVERRUN_EVENTS : Nat := 0xA0800
abbrev CDC_STALL_EPISODES : Nat := 0xA0804
abbrev CDC_RESYNCS : Nat := 0xA0808
abbrev CDC_REG_TIMEOUTS : Nat := 0xA080C
abbrev CDC_RESYNC_ITEMS : Nat := 0xA0810
abbrev CDC_REG_WR_DROPS : Nat := 0xA0818
abbrev CDC_XFERS : Nat := 0xA0820
abbrev CDC_X_RESYNC_ITEMS : Nat := 0xA0828
abbrev AO_STATUS : Nat := 0xFF100
abbrev AO_WAKE_EN : Nat := 0xFF104
abbrev AO_WAKE_CFG : Nat := 0xFF108
abbrev AO_WAKE_STATUS : Nat := 0xFF10C
abbrev AO_VRDY_TIMEOUT : Nat := 0xFF110
abbrev AO_WAKE_RETRY : Nat := 0xFF114
abbrev AO_FAIL : Nat := 0xFF118
abbrev AO_CMD : Nat := 0xFF11C
abbrev AO_TIMER : Nat := 0xFF120
abbrev AO_RB_SIG (i : Nat) : Nat := 0xFF140 + i * 4
abbrev AO_RB_VALID : Nat := 0xFF160
abbrev AO_PIN_RESETS : Nat := 0xFF800
abbrev AO_WARM_RESETS : Nat := 0xFF804
abbrev AO_WAKES : Nat := 0xFF808
abbrev AO_WAKE_RETRIES : Nat := 0xFF80C
abbrev AO_WAKE_FAILS : Nat := 0xFF810
abbrev AO_EDGES_MISSED : Nat := 0xFF814

end Sys2Proof.Machine.R
end

