-- ==== Sys2Proof/Machine/RegMap.lean ====
section
/-!
DEFINITION. The register map: for every page kind of Table 18-7 (18_register_pages.md R420) the registers its chapter
defines, with their offsets, reset values and the bits each access type of R7 (00_scope.md)
lets a write change. A register absent here reads zero and ignores writes (R411, R412).
-/
namespace Sys2Proof.Machine

/-- What selects the copy of a windowed register (R98, R131, R140, R144, R73). -/
inductive SelKind
  | none | lane | bq | q | tun | svc | gate
  deriving DecidableEq, Repr

/-- One row of a page's register table: `n` registers `stride` bytes apart; the masks name the bits a write may
change by access type (RW, RWS, RWL, W1C, W1S of Table 0-3). All other bits are read-only. -/
structure RegRow where
  off : Nat
  n : Nat := 1
  stride : Nat := 4
  reset : Nat := 0
  rw : Nat := 0
  rws : Nat := 0
  rwl : Nat := 0
  w1c : Nat := 0
  w1s : Nat := 0
  sel : SelKind := .none
  /-- A 64-bit counter: the low word and the high word after it (R419). -/
  wide : Bool := false
  deriving DecidableEq, Repr

/-- The block types of Table 18-7. -/
inductive PageKind
  | dev | pm | rst | flt | sec | key | time | spd | pair | link | lane | tc | pp | tun | swc | buf | mem | sch | disp | doutDp | doutDsi | eth | mac | fwd | pcieu | pcied | psw | usb2 | usb3 | usbd | brg | cdc | ao
  deriving DecidableEq, Repr

/-- Registers of DEV (18_register_pages.md). -/
def rowsDev : List RegRow := [
  { off := 0x100, reset := 0x17760 }, -- DEV.ID
  { off := 0x108 }, -- DEV.MODE
  { off := 0x10C }, -- DEV.MODE_REQ
  { off := 0x110, rws := 0x3F }, -- DEV.HID
  { off := 0x114, reset := 0x1400, rws := 0xFFFFF1 }, -- DEV.ISLAND_CTRL
  { off := 0x118, rws := 0xFFFF }, -- DEV.ISLAND_WDOG
  { off := 0x11C }, -- DEV.HOST_KICK
  { off := 0x120, n := 8, rws := 0xFFFFFFFF }, -- DEV.ISLAND_KEEP
  { off := 0x140 }, -- DEV.TJ
  { off := 0x144, reset := 0x69, rw := 0xFF }, -- DEV.TJ_WARN
  { off := 0x148, reset := 0x7F }, -- DEV.SUPPLY
  { off := 0x300, reset := 0xFFC0000 }, -- DEV.MB_STATUS
  { off := 0x304 }, -- DEV.MB_RX
  { off := 0x308 }, -- DEV.MB_TX
  { off := 0x30C }, -- DEV.MB_TX_GO
  { off := 0x800 }, -- MGMT_REQS
  { off := 0x804 }, -- MGMT_DUPS
  { off := 0x808 }, -- MGMT_DROPS
  { off := 0x80C }, -- MB_TX_REFUSED
  { off := 0x810 }, -- MB_RX_DROPS
  { off := 0x814 }, -- STBY_WR_DROPS
  { off := 0x818 }, -- PATH_REFUSED
  { off := 0x81C }  -- MB_TX_FRAMES
  ]

/-- The registers of a DEV page. -/
def rowsDevPage : List RegRow := rowsDev

/-- Registers of PM (16_power_states_reset_and_wipe.md). -/
def rowsPm : List RegRow := [
  { off := 0x100 }, -- PM.LEVEL_REQ
  { off := 0x104 }, -- PM.STATUS
  { off := 0x108, reset := 4 }, -- PM.VCODE
  { off := 0x10C }, -- PM.SLEEP_REQ
  { off := 0x110, reset := 0xA001F, rw := 0xFF03FF }, -- PM.SLEEP_CTRL
  { off := 0x114, reset := 0x3E8, rw := 0x3FFF }, -- PM.SLEEP_DRAIN
  { off := 0x120, rw := 0x3FFF }, -- PM.RB7_ADDR
  { off := 0x124 }, -- PM.RB7_DATA
  { off := 0x800 }, -- LEVEL_CHANGES
  { off := 0x804 }, -- VRDY_FAILS
  { off := 0x808 }, -- S1_ENTRIES
  { off := 0x80C }, -- S2_ENTRIES
  { off := 0x810 }, -- S3_ENTRIES
  { off := 0x814 }, -- ENTRY_ABORTS
  { off := 0x818 }  -- S1_EXITS
  ]

/-- The registers of a PM page. -/
def rowsPmPage : List RegRow := rowsPm

/-- Registers of RST (16_power_states_reset_and_wipe.md). -/
def rowsRst : List RegRow := [
  { off := 0x100 }, -- RST.CTRL
  { off := 0x104 }, -- RST.CAUSE
  { off := 0x108 }, -- RST.STATUS
  { off := 0x10C }  -- RST.STRAPS
  ]

/-- The registers of a RST page. -/
def rowsRstPage : List RegRow := rowsRst

/-- Registers of FLT (15_faults_and_event_history.md), part 1. -/
def rowsFltA : List RegRow := [
  { off := 0x100, reset := 3, rw := 0x1F1F07 }, -- FLT.CTRL
  { off := 0x104 }, -- FLT.STATUS
  { off := 0x108 }, -- FLT.CMD
  { off := 0x10C, reset := 0x2710, rw := 0xFFFFF }, -- FLT.ESC_WINDOW
  { off := 0x110, reset := 0x64, rw := 0x3FFF }, -- FLT.SHED_STEP
  { off := 0x114 }, -- FLT.MARK
  { off := 0x118, w1c := 0x8000 }, -- FLT.HALT_CAUSE
  { off := 0x120, n := 4 }, -- FLT.FIRST
  { off := 0x200, n := 4, w1c := 0xFFFFFFFF }, -- FLT.PEND
  { off := 0x210, w1c := 0xFF }, -- FLT.PEND4
  { off := 0x220, n := 4, w1c := 0xFFFFFFFF }, -- FLT.ESC
  { off := 0x300 }, -- FLT.RX_HDR
  { off := 0x304, n := 4 }, -- FLT.RX_W
  { off := 0x400, n := 128, rw := 0xFF1F77 }, -- FLT.SRC
  { off := 0x800, n := 128 }, -- FLT.SRCCNT
  { off := 0xA00, n := 2, wide := true }, -- RECORDS
  { off := 0xA08, n := 2, wide := true }, -- RX_RECORDS
  { off := 0xA10 }, -- MARKERS
  { off := 0xA14 }, -- CELL_DROPS
  { off := 0xA18 }, -- RX_DROPS
  { off := 0xA1C }, -- CELLS_TX
  { off := 0xA20 }, -- ESCALATIONS
  { off := 0xA24 }, -- SHEDS
  { off := 0xA28 }  -- FI_INJECTIONS
  ]

/-- Registers of FLT (15_faults_and_event_history.md), part 2. -/
def rowsFltB : List RegRow := [
  { off := 0xA2C }, -- MSIX_SENT
  { off := 0xC00, n := 64 }, -- FLT.HIST
  { off := 0xD00, n := 32, stride := 16, rw := 0xFFFFFFFF }, -- MSI-X table: message address
  { off := 0xD04, n := 32, stride := 16, rw := 0xFFFFFFFF }, -- its upper half
  { off := 0xD08, n := 32, stride := 16, rw := 0xFFFFFFFF }, -- message data
  { off := 0xD0C, n := 32, stride := 16, reset := 1, rw := 0xFFFFFFFF }, -- vector control
  { off := 0xF00 }  -- MSI-X PBA
  ]

/-- The registers of a FLT page. -/
def rowsFltPage : List RegRow := rowsFltA ++ rowsFltB

/-- Registers of SEC (17_lifecycle_and_keys.md). -/
def rowsSec : List RegRow := [
  { off := 0x100 }, -- SEC.STATUS
  { off := 0x104, n := 2 }, -- SEC.DEVICE_ID
  { off := 0x110 }, -- SEC.LC_REQ
  { off := 0x114 }, -- SEC.LC_STATUS
  { off := 0x120, n := 4 }, -- SEC.AUTH_CHAL
  { off := 0x130, n := 4 }, -- SEC.AUTH_RESP
  { off := 0x140 }, -- SEC.AUTH_STATUS
  { off := 0x144 }, -- SEC.AUTH_CMD
  { off := 0x150, n := 4 }, -- SEC.CR_CHAL
  { off := 0x160, n := 4 }, -- SEC.CR_RESP
  { off := 0x170, n := 8 }, -- SEC.CPS
  { off := 0x190 }, -- SEC.CMD
  { off := 0x194 }, -- SEC.CMD_STATUS
  { off := 0x800 }, -- AUTH_OK
  { off := 0x804 }, -- AUTH_FAIL
  { off := 0x808 }, -- CR_RESPONSES
  { off := 0x80C }, -- LC_TRANSITIONS
  { off := 0x810 }, -- PUF_RETRIES
  { off := 0x814 }  -- AF_ERRORS
  ]

/-- The registers of a SEC page. -/
def rowsSecPage : List RegRow := rowsSec

/-- Registers of KEY (17_lifecycle_and_keys.md). -/
def rowsKey : List RegRow := [
  { off := 0x100 }, -- KEY.VALID
  { off := 0x104 }, -- KEY.MSG_STATUS
  { off := 0x108 }, -- KEY.CMD
  { off := 0x10C }, -- KEY.CMD_STATUS
  { off := 0x110, rw := 0x3F0F }, -- KEY.CLR_ATTR0
  { off := 0x114, rw := 0xFFFFFFFF }, -- KEY.CLR_ATTR1
  { off := 0x120, n := 8 }, -- KEY.CLR_DATA
  { off := 0x140, rw := 0xF }, -- KEY.WORLD
  { off := 0x180, n := 8, reset := 0x100, rw := 0x11F }, -- KEY.ENG
  { off := 0x200, n := 64 }, -- KEY.ATTR
  { off := 0x800 }, -- UPDATES_OK
  { off := 0x804 }, -- UPDATES_REFUSED
  { off := 0x808 }, -- ADVANCES
  { off := 0x80C }, -- CLR_LOADS
  { off := 0x810 }, -- ERASES
  { off := 0x814 }, -- ENG_REFUSED
  { off := 0xC00, n := 32 }  -- KEY.MSG
  ]

/-- The registers of a KEY page. -/
def rowsKeyPage : List RegRow := rowsKey

/-- Registers of TIME (08_ethernet_and_plumb_time.md), part 1. -/
def rowsTimeA : List RegRow := [
  { off := 0x100, reset := 0x100, rw := 0x137 }, -- TIME.CTRL
  { off := 0x104 }, -- TIME.STATUS
  { off := 0x108, reset := 0x4CCD, rw := 0xFFFFFFFF }, -- TIME.KP
  { off := 0x10C, reset := 0x666, rw := 0xFFFFFFFF }, -- TIME.KI
  { off := 0x110, reset := 0x3E8, rw := 0x3FFFFFFF }, -- TIME.STEP_THRESH
  { off := 0x114, reset := 0x100014, rw := 0xFFFFFF }, -- TIME.LOCK
  { off := 0x118, reset := 0xBB8, rw := 0xFFFF }, -- TIME.SRC_TIMEOUT
  { off := 0x11C, reset := 0x3C, rw := 0x3FF }, -- TIME.HOLD_AVG
  { off := 0x120 }, -- TIME.FREQ_ADJ
  { off := 0x124 }, -- TIME.OFFSET
  { off := 0x128 }, -- TIME.SRC_DELAY
  { off := 0x130, n := 5 }, -- TIME.LINK_DELAY
  { off := 0x150, n := 5, rw := 0xFFFFFFFF }, -- TIME.ASYM
  { off := 0x180 }, -- TIME.SNAP
  { off := 0x184, n := 4 }, -- TIME.SNAP_FRAC/NS/S_LO/S_HI
  { off := 0x1A0 }, -- TIME.ADJ_CMD
  { off := 0x1A4, rw := 0xFFFFFFFF }, -- TIME.SET_NS
  { off := 0x1A8, rw := 0xFFFFFFFF }, -- TIME.SET_S_LO
  { off := 0x1AC, rw := 0xFFFF }, -- TIME.SET_S_HI
  { off := 0x1B0, rw := 0xFFFFFFFF }, -- TIME.STEP_NS
  { off := 0x1C0, reset := 0x640000, rw := 0x1FF000F }, -- TIME.PPS_CTRL
  { off := 0x1C4, rw := 0xFFFFFFFF }, -- TIME.PPS_OUT_OFS
  { off := 0x1C8, n := 4 }, -- TIME.PPS_IN_FRAC/NS/S_LO/S_HI
  { off := 0x200, n := 8, reset := 6, rw := 0xFFFF07 }  -- TIME.EVT_CTRL
  ]

/-- Registers of TIME (08_ethernet_and_plumb_time.md), part 2. -/
def rowsTimeB : List RegRow := [
  { off := 0x220 }, -- TIME.EVT_LEVEL
  { off := 0x300 }, -- TIME.MSG_STATUS
  { off := 0x304 }, -- TIME.MSG_RX
  { off := 0x308 }, -- TIME.MSG_TX
  { off := 0x30C }, -- TIME.MSG_TX_GO
  { off := 0x800, n := 2, wide := true }, -- EXCH_TX
  { off := 0x808, n := 2, wide := true }, -- EXCH_RX
  { off := 0x810 }, -- EXCH_TIMEOUT
  { off := 0x814 }, -- STEPS
  { off := 0x818 }, -- LOCK_LOSSES
  { off := 0x81C }, -- HOLDOVER_ENTRIES
  { off := 0x820 }, -- EVT_RECORDS
  { off := 0x824 }, -- EVT_GLITCHES
  { off := 0x828 }, -- PPS_IN_MISSES
  { off := 0x82C }  -- MSG_RX_DROPS
  ]

/-- The registers of a TIME page. -/
def rowsTimePage : List RegRow := rowsTimeA ++ rowsTimeB

/-- Registers of SPD (02_speed_contract.md). -/
def rowsSpd : List RegRow := [
  { off := 0x100, reset := 0xA03, rw := 0xFF0F }, -- SPD.CTRL
  { off := 0x104 }, -- SPD.CYCLE_PS
  { off := 0x108, reset := 0x471C }, -- SPD.LIMIT_PS
  { off := 0x10C }, -- SPD.CYCLE_MAX
  { off := 0x110, reset := 0xFFFF }, -- SPD.CYCLE_MIN
  { off := 0x114 }, -- SPD.STATUS
  { off := 0x118, reset := 0xA00, rw := 0xFF07 }, -- SPD.PACE_GUARD
  { off := 0x120, reset := 0x471C }, -- SPD.LIMIT_P0
  { off := 0x124, reset := 0x238E }, -- SPD.LIMIT_P1
  { off := 0x128, reset := 0x16DB }, -- SPD.LIMIT_P2
  { off := 0x12C, reset := 0x1000 }, -- SPD.LIMIT_P3
  { off := 0x800 }, -- SLOW_ENTRIES
  { off := 0x808, n := 2, wide := true }, -- SLOW_SAMPLES
  { off := 0x810 }, -- PACE_STEPS
  { off := 0x818, n := 2, wide := true }  -- SAMPLES
  ]

/-- The registers of a SPD page. -/
def rowsSpdPage : List RegRow := rowsSpd

/-- Registers of PAIR (13_mirrored_pair.md), part 1. -/
def rowsPairA : List RegRow := [
  { off := 0x100, reset := 5, rw := 7 }, -- PAIR.CTRL
  { off := 0x104 }, -- PAIR.STATUS
  { off := 0x108 }, -- PAIR.EPOCH
  { off := 0x10C }, -- PAIR.PEER_EPOCH
  { off := 0x110, reset := 0xC8, rw := 0x3FFF }, -- PAIR.HB_TIMEOUT
  { off := 0x114 }, -- PAIR.CMD
  { off := 0x118, reset := 0x3E8, rw := 0x3FFF }, -- PAIR.SWAP_DRAIN
  { off := 0x120, rw := 0x3F3D }, -- PAIR.DOCK_CTRL
  { off := 0x124 }, -- PAIR.DOCK_STATUS
  { off := 0x128 }, -- PAIR.DOCK_EPOCH
  { off := 0x130, n := 2, rw := 0xFFFFFFFF }, -- PAIR.DOCK_HIDS
  { off := 0x140, n := 3 }, -- PAIR.FO_TIME_NS/S_LO/S_HI
  { off := 0x14C, w1c := 1 }, -- PAIR.FO_STATUS
  { off := 0x150 }, -- PAIR.JSEQ_TX
  { off := 0x154 }, -- PAIR.JSEQ_ACK
  { off := 0x800 }, -- FAILOVERS
  { off := 0x804 }, -- SWAPS
  { off := 0x808 }, -- SWAP_ABORTS
  { off := 0x80C }, -- TAKEOVERS_REFUSED
  { off := 0x810 }, -- PARTIAL_LOSSES
  { off := 0x814 }, -- JOURNAL_OVERFLOWS
  { off := 0x818 }, -- RESYNCS
  { off := 0x820, n := 2, wide := true }, -- JOURNAL_RECORDS
  { off := 0x828, n := 2, wide := true }  -- FOLLOW_DISCARDS
  ]

/-- Registers of PAIR (13_mirrored_pair.md), part 2. -/
def rowsPairB : List RegRow := [
  { off := 0x830, n := 2, wide := true }, -- FO_UNACKED_CELLS
  { off := 0x838 }, -- DOCK_SWITCHES
  { off := 0x83C }, -- ADOPTIONS
  { off := 0x840 }, -- RELINQUISHES
  { off := 0x844 }  -- CMD_REFUSED
  ]

/-- The registers of a PAIR page. -/
def rowsPairPage : List RegRow := rowsPairA ++ rowsPairB

/-- Registers of LINK (03_veserlink_cable_link.md), part 1. -/
def rowsLinkA : List RegRow := [
  { off := 0x100, reset := 0xA09, rw := 0xFF0F }, -- LINK.CTRL
  { off := 0x104 }, -- LINK.STATUS
  { off := 0x108 }, -- LINK.SPLIT_REQ
  { off := 0x10C }, -- LINK.SPLIT_STATUS
  { off := 0x110, reset := 0x7D0, rw := 0xFFFF }, -- LINK.HOLD
  { off := 0x114, reset := 0x64, rw := 0xFFFF }, -- LINK.RETRY
  { off := 0x118 }, -- LINK.HOLD_STATUS
  { off := 0x120, n := 2 }, -- LINK.PARTNER_ID_LO/HI
  { off := 0x128 }, -- LINK.PARTNER_ROLE
  { off := 0x12C }, -- LINK.PARTNER_EPOCH
  { off := 0x130 }, -- LINK.OWN_EPOCH
  { off := 0x140, reset := 4, rw := 0xFF }, -- LINK.ACK_TIMEOUT
  { off := 0x144, reset := 4, rw := 0xFFFF }, -- LINK.FEC_THRESH
  { off := 0x150, n := 4, reset := 0x2000200, rw := 0xFFF0FFF }, -- LINK.CRD_INIT
  { off := 0x160, w1c := 0xFF }, -- LINK.VIOL_STATUS
  { off := 0x800, n := 2, wide := true }, -- BLOCKS_TX
  { off := 0x808, n := 2, wide := true }, -- BLOCKS_RX
  { off := 0x810 }, -- BCRC_ERR
  { off := 0x814 }, -- NAK_TX
  { off := 0x818 }, -- NAK_RX
  { off := 0x81C }, -- REPLAYED_BLOCKS
  { off := 0x820 }, -- DUP_BLOCKS
  { off := 0x824 }, -- ACK_TIMEOUTS
  { off := 0x828 }  -- RETRAINS
  ]

/-- Registers of LINK (03_veserlink_cable_link.md), part 2. -/
def rowsLinkB : List RegRow := [
  { off := 0x82C }, -- DOWN_EVENTS
  { off := 0x830 }, -- AUTH_FAIL
  { off := 0x838 }, -- TID_UNKNOWN
  { off := 0x83C }, -- CRD_OVERRUN
  { off := 0x840 }, -- TRAIN_BAD
  { off := 0x844 }, -- SEQ_REGRESS
  { off := 0x848 }, -- SB_BAD
  { off := 0x84C }, -- HOLD_RESUMES
  { off := 0x850 }, -- HOLD_EXPIRIES
  { off := 0x854 }, -- SPLITS
  { off := 0x858 }, -- LP_ENTRIES
  { off := 0x860, n := 2, wide := true }, -- RETRAIN_LOSS_CELLS
  { off := 0x868, n := 2, wide := true }  -- HOLD_LOSS_CELLS
  ]

/-- The registers of a LINK page. -/
def rowsLinkPage : List RegRow := rowsLinkA ++ rowsLinkB

/-- Registers of LANE (03_veserlink_cable_link.md). -/
def rowsLane : List RegRow := [
  { off := 0x100 }, -- LANE.SEL
  { off := 0x104, rw := 0xF, sel := .lane }, -- LANE.CTRL
  { off := 0x108, sel := .lane }, -- LANE.STATUS
  { off := 0x10C, reset := 0x3F000, rw := 0x3FFFFFFF, sel := .lane }, -- LANE.FFE
  { off := 0x110, rw := 0xFF, sel := .lane }, -- LANE.CTLE
  { off := 0x114, n := 3, rw := 0xFFFFFFFF, sel := .lane }, -- LANE.DFE
  { off := 0x120, rw := 0x3F, sel := .lane }, -- LANE.PRBS_CTRL
  { off := 0x124, sel := .lane }, -- LANE.BER_EST
  { off := 0x800, n := 2, wide := true, sel := .lane }, -- PRBS_ERR
  { off := 0x808, n := 2, wide := true, sel := .lane }, -- PRBS_BITS
  { off := 0x810, n := 2, wide := true, sel := .lane }, -- FEC_CW
  { off := 0x818, n := 2, wide := true, sel := .lane }, -- FEC_CORR_SYM
  { off := 0x820, n := 2, wide := true, sel := .lane }  -- FEC_UNCORR_CW
  ]

/-- The registers of a LANE page. -/
def rowsLanePage : List RegRow := rowsLane

/-- Registers of TC (11_type_c_and_power_delivery.md), part 1. -/
def rowsTcA : List RegRow := [
  { off := 0x100, reset := 0xEE2, rw := 0xFFF }, -- TC.CTRL
  { off := 0x104 }, -- TC.STATUS
  { off := 0x108, reset := 0x6B3A }, -- TC.SVID
  { off := 0x10C, reset := 0x1B, rw := 0x3F }, -- TC.MODE_POLICY
  { off := 0x110, reset := 2, rw := 0x1F }, -- TC.SAFE0_TIME
  { off := 0x114, rw := 0xFFFFFFFF }, -- TC.VSET_CAL
  { off := 0x118 }, -- TC.VSET_CODE
  { off := 0x11C, reset := 0x1388, rw := 0xFFFF }, -- TC.SENSE
  { off := 0x120 }, -- TC.CONTRACT
  { off := 0x124, reset := 0x4B064, rw := 0xFFFFFFF }, -- TC.SNK_POLICY
  { off := 0x128, reset := 0x10A7D, rw := 0x7FFFF }, -- TC.FUSE
  { off := 0x12C, reset := 0x3E8, rw := 0xFFFF }, -- TC.FUSE_RETRY
  { off := 0x130, reset := 0x26019096, rw := 0xFFFFFFFF }, -- TC.SRC_PDO1
  { off := 0x134, n := 6, rw := 0xFFFFFFFF }, -- TC.SRC_PDO2-7
  { off := 0x150, n := 4, rw := 0xFFFFFFFF }, -- TC.EPR_PDO8-11
  { off := 0x180, n := 11 }, -- TC.PARTNER_CAP1-11
  { off := 0x1B0, rw := 0xFFFFFFFF }, -- TC.ID_HDR
  { off := 0x1B4, rw := 0xFFFFFFFF }, -- TC.ID_PRODUCT
  { off := 0x1B8 }, -- TC.CABLE_VDO
  { off := 0x1C0 }, -- TC.AUX_CMD
  { off := 0x1C4 }, -- TC.AUX_STATUS
  { off := 0x1D0, n := 4, rw := 0xFFFFFFFF }, -- TC.AUX_DATA0-3
  { off := 0x1E0 }, -- TC.CMD
  { off := 0x1E4 }  -- TC.CMD_STATUS
  ]

/-- Registers of TC (11_type_c_and_power_delivery.md), part 2. -/
def rowsTcB : List RegRow := [
  { off := 0x1F0, reset := 0x64, rw := 0x3FF }, -- TC.SRC_BUDGET
  { off := 0x800 }, -- ATTACHES
  { off := 0x804 }, -- DETACHES
  { off := 0x808 }, -- CONTRACTS
  { off := 0x80C }, -- REJECTS
  { off := 0x810 }, -- HARD_RESETS_TX
  { off := 0x814 }, -- HARD_RESETS_RX
  { off := 0x818 }, -- SWAPS
  { off := 0x81C }, -- MODE_ENTRIES
  { off := 0x820 }, -- FUSE_TRIPS
  { off := 0x824 }, -- FAST_TRIPS
  { off := 0x828 }, -- VCONN_TRIPS
  { off := 0x82C }, -- DISCHARGES
  { off := 0x830 }  -- PD_ERRORS
  ]

/-- The registers of a TC page. -/
def rowsTcPage : List RegRow := rowsTcA ++ rowsTcB

/-- Registers of PP (12_feed_and_fuse_control.md), part 1. -/
def rowsPpA : List RegRow := [
  { off := 0x100, reset := 0xC, rw := 0x1F }, -- PP.CTRL
  { off := 0x104 }, -- PP.STATUS
  { off := 0x108 }, -- PP.CMD
  { off := 0x10C, reset := 0x26C00B4, rw := 0x3FF03FF }, -- PP.FEED_WIN
  { off := 0x110, reset := 0xA, rw := 0x3FF }, -- PP.FEED_QUAL
  { off := 0x114, reset := 0xB40190, rw := 0x3FF03FF }, -- PP.PFW
  { off := 0x118, reset := 0xA12710, rw := 0xFF7FFFF }, -- PP.ILIM
  { off := 0x11C, reset := 0xC8000A, rw := 0x3FF003F }, -- PP.GATE
  { off := 0x120, reset := 0x7D0, rw := 0xFFFFF }, -- PP.SENSE
  { off := 0x124, reset := 0x3E8, rw := 0xFFFFFF }, -- PP.RETRY
  { off := 0x128, reset := 0x1496, rw := 0xFFFF }, -- PP.THERM
  { off := 0x12C, reset := 0x3E80FA0, rw := 0xFFFFFFFF }, -- PP.MODEL
  { off := 0x130, rw := 0xFFFFFFFF }, -- PP.BULK
  { off := 0x140, n := 4 }, -- PP.MEAS_FEEDA/FEEDB/COM/SRC
  { off := 0x150 }, -- PP.MEAS_I
  { off := 0x154 }, -- PP.MEAS_TEMP
  { off := 0x158 }, -- PP.LOAD_P
  { off := 0x15C }, -- PP.HOLDUP_EST
  { off := 0x800 }, -- REV_OFF_A
  { off := 0x804 }, -- REV_OFF_B
  { off := 0x808 }, -- FEED_A_LOSSES
  { off := 0x80C }, -- FEED_B_LOSSES
  { off := 0x810 }, -- LIMIT_ENTRIES
  { off := 0x814 }  -- TRIPS_SLOW
  ]

/-- Registers of PP (12_feed_and_fuse_control.md), part 2. -/
def rowsPpB : List RegRow := [
  { off := 0x818 }, -- TRIPS_FAST
  { off := 0x81C }, -- TRIPS_THERMAL
  { off := 0x820 }, -- RAMP_TIMEOUTS
  { off := 0x824 }, -- RETRIES
  { off := 0x828 }  -- PFW_ASSERTS
  ]

/-- The registers of a PP page. -/
def rowsPpPage : List RegRow := rowsPpA ++ rowsPpB

/-- Registers of TUN (04_tunnels_and_domain.md), part 1. -/
def rowsTunA : List RegRow := [
  { off := 0x100, rw := 0xFF }, -- TUN.IDX
  { off := 0x104, reset := 0x100064, rw := 0xFFFFFF }, -- TUN.CTRL
  { off := 0x108, rws := 0x1F }, -- TUN.EVT_ROUTE
  { off := 0x10C }, -- TUN.STATUS
  { off := 0x110, n := 8, w1c := 0xFFFFFFFF }, -- TUN.TORN
  { off := 0x130, n := 8 }, -- TUN.STALLED
  { off := 0x400, n := 64, rws := 0x1F }, -- TUN.SUB
  { off := 0x500, n := 64, rws := 0x1F }, -- TUN.HROUTE
  { off := 0x800 }, -- COMMITS
  { off := 0x804 }, -- COMMIT_REFUSED
  { off := 0x808 }, -- TEARDOWNS
  { off := 0x80C }, -- RESYNCS
  { off := 0x810 }, -- HCRC_ERR
  { off := 0x814 }, -- FORMAT_ERR
  { off := 0x818 }, -- STALL_ENTRIES
  { off := 0x81C }, -- CRC_ERR
  { off := 0x820 }, -- OVERSIZE
  { off := 0x824 }, -- ABORTS
  { off := 0x828 }, -- TID0_UNROUTED
  { off := 0x82C }, -- EVT_UNROUTED
  { off := 0x830 }, -- E2E_EXPIRIES
  { off := 0x838, n := 2, wide := true }, -- TEARDOWN_CELLS
  { off := 0xC00, rws := 0xFFFF77F, sel := .tun }, -- TUN.ENTRY0
  { off := 0xC04, rws := 0x3FFF3FFF, sel := .tun }  -- TUN.ENTRY1
  ]

/-- Registers of TUN (04_tunnels_and_domain.md), part 2. -/
def rowsTunB : List RegRow := [
  { off := 0xC08, rws := 0xFF3F03, sel := .tun }, -- TUN.ENTRY2
  { off := 0xC0C, rws := 0x17FFF, sel := .tun }, -- TUN.ENTRY3
  { off := 0xC10, n := 4 }, -- TUN.ACTIVE
  { off := 0xC20 }, -- TUN.TSTATE
  { off := 0xC24 }, -- TUN.QCELLS
  { off := 0xC28 }, -- TUN.OUTSTANDING
  { off := 0xC40, n := 2, sel := .tun, wide := true }, -- TUN entry CELLS_IN
  { off := 0xC48, n := 2, sel := .tun, wide := true }, -- TUN entry CELLS_OUT
  { off := 0xC50, n := 4, sel := .tun }  -- TUN entry GAP_CELLS DUP_CELLS RETX_CELLS DROPS
  ]

/-- The registers of a TUN page. -/
def rowsTunPage : List RegRow := rowsTunA ++ rowsTunB

/-- Registers of SWC (05_truss_switch_and_buffers.md). -/
def rowsSwc : List RegRow := [
  { off := 0x100, reset := 1, rw := 1 }, -- SWC.CTRL
  { off := 0x104, reset := 0x3FFF }, -- SWC.PRESENT
  { off := 0x110, rw := 0x1F }, -- SWC.BQ_SEL
  { off := 0x114, rw := 0x3F, w1s := 0x100, sel := .bq }, -- SWC.BQ_CTRL
  { off := 0x118 }, -- SWC.BQ_STATUS
  { off := 0x800, n := 2, wide := true }, -- CT_FRAMES
  { off := 0x808, n := 2, wide := true }, -- SF_FRAMES
  { off := 0x810 }, -- CT_ABORTS
  { off := 0x814 }, -- CT_UNDERRUN
  { off := 0x818 }, -- ABT_RX
  { off := 0x81C }, -- SF_ABT_DISCARD
  { off := 0x820, sel := .bq }, -- BQ_FLUSH_WORDS
  { off := 0x828, n := 2, sel := .bq, wide := true }  -- BQ_PKTS
  ]

/-- The registers of a SWC page. -/
def rowsSwcPage : List RegRow := rowsSwc

/-- Registers of BUF (05_truss_switch_and_buffers.md). -/
def rowsBuf : List RegRow := [
  { off := 0x100, reset := 0x800, rw := 0xFFFF }, -- BUF.CTRL
  { off := 0x104, reset := 0x17C80 }, -- BUF.FREE
  { off := 0x108 }, -- BUF.OVF_STATUS
  { off := 0x120, n := 2, reset := 3, rw := 7 }, -- BUF.CLASS0-1
  { off := 0x128, reset := 1, rw := 0x17 }, -- BUF.CLASS2
  { off := 0x12C, rw := 0x17 }, -- BUF.CLASS3
  { off := 0x130, n := 4, reset := 7, rw := 0x17 }, -- BUF.CLASS4-7
  { off := 0x140, rw := 0x1FF }, -- BUF.QSEL
  { off := 0x144 }, -- BUF.QSTATUS
  { off := 0x148 }, -- BUF.QOVF
  { off := 0x14C, sel := .q }, -- BUF.QDROPS
  { off := 0x150, sel := .q }, -- BUF.QRESET_CELLS
  { off := 0x800, n := 2, wide := true }, -- SPILL_CELLS
  { off := 0x808, n := 2, wide := true }, -- FILL_CELLS
  { off := 0x810, n := 2, wide := true }, -- TAIL_DROPS
  { off := 0x818 }, -- STORE_FULL_DROPS
  { off := 0x81C }, -- SPILL_BUSY_DROPS
  { off := 0x820 }, -- SPILL_EPISODES
  { off := 0x824 }, -- QRESETS
  { off := 0x828, n := 2, wide := true }, -- QRESET_CELLS
  { off := 0x830 }, -- LOFT_ECC_CORR
  { off := 0x834 }, -- LOFT_ECC_UNCORR
  { off := 0x838 }  -- WAIT_EVENTS
  ]

/-- The registers of a BUF page. -/
def rowsBufPage : List RegRow := rowsBuf

/-- Registers of MEM (05_truss_switch_and_buffers.md). -/
def rowsMem : List RegRow := [
  { off := 0x100, rw := 0x1F }, -- MEM.CFG
  { off := 0x104, reset := 2, rw := 2, w1s := 1 }, -- MEM.CTRL
  { off := 0x108 }, -- MEM.STATUS
  { off := 0x110, rws := 0xFF }, -- MEM.FB_BASE
  { off := 0x114, rws := 0x1FF }, -- MEM.FB_SIZE
  { off := 0x118, rws := 0xFF }, -- MEM.OVF_BASE
  { off := 0x11C, rws := 0x1FF }, -- MEM.OVF_SIZE
  { off := 0x120, rws := 0xFF }, -- MEM.SCR_BASE
  { off := 0x124, rws := 0x1FF }, -- MEM.SCR_SIZE
  { off := 0x130, reset := 0x10, rw := 0xFFFF }, -- MEM.ECC_THRESH
  { off := 0x134, w1c := 1 }, -- MEM.ECC_FIRST
  { off := 0x138 }, -- MEM.SCRUB_POS
  { off := 0x13C, reset := 0x80, rw := 0xFFFF }, -- MEM.ZQ_CTRL
  { off := 0x800, n := 2, wide := true }, -- ECC_CORR
  { off := 0x808 }, -- ECC_UNCORR
  { off := 0x80C }, -- SCRUB_PASSES
  { off := 0x810, n := 2, wide := true }, -- SCRUB_FORCED_SLOTS
  { off := 0x818 }, -- ZQ_FORCED
  { off := 0x81C }, -- REF_POSTPONED
  { off := 0x820 }, -- RATE_CHANGES
  { off := 0x824 }  -- INIT_FAILS
  ]

/-- The registers of a MEM page. -/
def rowsMemPage : List RegRow := rowsMem

/-- Registers of SCH (06_scheduling_and_windows.md), part 1. -/
def rowsSchA : List RegRow := [
  { off := 0x100, rw := 1, sel := .gate }, -- SCH.CTRL
  { off := 0x104 }, -- SCH.STATUS
  { off := 0x108 }, -- SCH.LINE_RATE
  { off := 0x10C }, -- SCH.RESV_SUM
  { off := 0x110, rws := 0x3F00 }, -- SCH.PORT
  { off := 0x120, n := 8, reset := 1, rws := 0x3FFF }, -- SCH.CLASS
  { off := 0x140, rw := 0x73F }, -- SCH.SVC_SEL
  { off := 0x144, rws := 0x3FFF, sel := .svc }, -- SCH.SVC
  { off := 0x180 }, -- SCH.GSEL
  { off := 0x184, reset := 0x100, rws := 0x3F00, sel := .gate }, -- SCH.GATE_CTRL
  { off := 0x188, reset := 0xF4240, rws := 0x3FFFFFFF, sel := .gate }, -- SCH.GATE_CYCLE
  { off := 0x18C, rws := 0x3FFFFFFF, sel := .gate }, -- SCH.GATE_BASE_NS
  { off := 0x190, rws := 0xFFFFFFFF, sel := .gate }, -- SCH.GATE_BASE_S_LO
  { off := 0x194, rws := 0xFFFF, sel := .gate }, -- SCH.GATE_BASE_S_HI
  { off := 0x198, sel := .gate }, -- SCH.GATE_STATUS
  { off := 0x400, n := 64, reset := 1, rws := 0x3FFF }, -- SCH.SUB
  { off := 0x608, n := 63, stride := 8, rws := 0x8003FFFF }, -- SCH.SHP_RATE
  { off := 0x60C, n := 63, stride := 8, reset := 0x800, rws := 0xFFFFF }, -- SCH.SHP_HI
  { off := 0x800, n := 2, wide := true }, -- GRANTS
  { off := 0x808, n := 2, wide := true }, -- EXPRESS_GRANTS
  { off := 0x810 }, -- GUARD_HOLDS
  { off := 0x814 }, -- GATE_OVERSIZE
  { off := 0x818 }, -- OVERBOOK_ENTRIES
  { off := 0x81C }  -- GATE_SWITCHES
  ]

/-- Registers of SCH (06_scheduling_and_windows.md), part 2. -/
def rowsSchB : List RegRow := [
  { off := 0xC00, reset := 0xF4240, rws := 0xFFFFFFFF, sel := .gate }, -- SCH.GATE_E0_DUR
  { off := 0xC08, n := 31, stride := 8, rws := 0xFFFFFFFF, sel := .gate }, -- SCH.GATE_E1-31_DUR
  { off := 0xC04, n := 32, stride := 8, reset := 0xFF, rws := 0xFF, sel := .gate }, -- SCH.GATE_E_MASK
  { off := 0xD00, n := 32, sel := .gate }  -- SCH.GATE_CELLS
  ]

/-- The registers of a SCH page. -/
def rowsSchPage : List RegRow := rowsSchA ++ rowsSchB

/-- Registers of DISP (07_panel_display_engine.md), part 1. -/
def rowsDispA : List RegRow := [
  { off := 0x100, reset := 0x30, rw := 0x77 }, -- DISP.CTRL
  { off := 0x104 }, -- DISP.STATUS
  { off := 0x108 }, -- DISP.FRAME_COUNT
  { off := 0x10C, rws := 0x3FFFFFFF }, -- DISP.BG_COLOUR
  { off := 0x110, reset := 0x11300F00, rw := 0xFFFFFFFF }, -- DISP.H_TIMING
  { off := 0x114, reset := 0x10080FB0, rw := 0xFFFFFFFF }, -- DISP.H_SYNC
  { off := 0x118, reset := 0x8CA0870, rw := 0xFFFFFFFF }, -- DISP.V_TIMING
  { off := 0x11C, reset := 0x8820878, rw := 0xFFFFFFFF }, -- DISP.V_SYNC
  { off := 0x120, reset := 0xC0091050, rw := 0xC00FFFFF }, -- DISP.PCLK_KHZ
  { off := 0x140, rws := 7 }, -- DISP.GND_CTRL
  { off := 0x144, rws := 0xFFFFF000 }, -- DISP.GND_ADDR
  { off := 0x148, reset := 0x3C00, rws := 0x3FFFF }, -- DISP.GND_PITCH
  { off := 0x14C, reset := 0x8700F00, rws := 0xFFF0FFF }, -- DISP.GND_SIZE
  { off := 0x150, rws := 0xFFF0FFF }, -- DISP.GND_POS
  { off := 0x160, rws := 7 }, -- DISP.APQ_CTRL
  { off := 0x164, rws := 0xFFFFF000 }, -- DISP.APQ_ADDR
  { off := 0x168, reset := 0x3C00, rws := 0x3FFFF }, -- DISP.APQ_PITCH
  { off := 0x16C, reset := 0x8700F00, rws := 0xFFF0FFF }, -- DISP.APQ_SIZE
  { off := 0x170, rws := 0xFFF0FFF }, -- DISP.APQ_POS
  { off := 0x180 }, -- DISP.ACT_GND_ADDR
  { off := 0x184 }, -- DISP.ACT_APQ_ADDR
  { off := 0x190, rws := 1 }, -- DISP.CUR_CTRL
  { off := 0x194, rws := 0x3FFF3FFF }, -- DISP.CUR_POS
  { off := 0x1A0, rw := 0x3FFF }  -- DISP.IMG_ADDR
  ]

/-- Registers of DISP (07_panel_display_engine.md), part 2. -/
def rowsDispB : List RegRow := [
  { off := 0x1A4 }, -- DISP.IMG_DATA
  { off := 0x1B0, reset := 9, rws := 0xFB }, -- DISP.BNR_CTRL
  { off := 0x1B4, rws := 0xFFF0FFF }, -- DISP.BNR_POS
  { off := 0x1B8, reset := 0x14, rws := 0x3F03FF }, -- DISP.BNR_TIME_POS
  { off := 0x1BC, reset := 0x7D0, rw := 0xFFFF }, -- DISP.STALE_TIMEOUT
  { off := 0x1C0, rw := 0xFFFFFFFF }, -- DISP.BNR_TOFS
  { off := 0x1C4, n := 3 }, -- DISP.LAST_UPD_NS/S_LO/S_HI
  { off := 0x1E0, n := 4, reset := 0xC4, rws := 0xCF }, -- DISP.ALT
  { off := 0x200, n := 16, stride := 16, rws := 0xFFFFF001 }, -- DISP.CH_BASE
  { off := 0x204, n := 16, stride := 16, rws := 0x3FFFF }, -- DISP.CH_PITCH
  { off := 0x208, n := 16, stride := 16, rws := 0x3FFF }, -- DISP.CH_LINE
  { off := 0x20C, n := 16, stride := 16 }, -- DISP.CH_POS
  { off := 0x300 }, -- DISP.BUF_RELEASE
  { off := 0x800 }, -- UNDERRUNS
  { off := 0x804 }, -- COMMITS
  { off := 0x808 }, -- COMMITS_LATE
  { off := 0x80C }, -- SUPERSEDED
  { off := 0x810 }, -- FENCE_HITS
  { off := 0x814 }, -- TE_MISSING
  { off := 0x818 }, -- CH_LEN_ERR
  { off := 0x81C }, -- CH_MISALIGN
  { off := 0x820 }, -- CH_RANGE
  { off := 0x824 }, -- CH_NOCHAN
  { off := 0x828 }  -- CH_LOST_LINES
  ]

/-- Registers of DISP (07_panel_display_engine.md), part 3. -/
def rowsDispC : List RegRow := [
  { off := 0x82C }, -- BANNER_SHOWS
  { off := 0x830, n := 2, wide := true }, -- URGENT_LINES
  { off := 0x838, n := 2, wide := true }  -- LINES_WRITTEN
  ]

/-- The registers of a DISP page. -/
def rowsDispPage : List RegRow := rowsDispA ++ rowsDispB ++ rowsDispC

/-- Registers of DOUTDP (07_panel_display_engine.md). -/
def rowsDoutDp : List RegRow := [
  { off := 0x100, reset := 0x1E4, rws := 0x1FF }, -- DOUT.CTRL DP
  { off := 0x104 }, -- DOUT.STATUS
  { off := 0x110 }, -- DOUT.AUX_CMD
  { off := 0x114 }, -- DOUT.AUX_STATUS
  { off := 0x120, n := 8, rw := 0xFFFFFFFF }, -- DOUT.DATA
  { off := 0x800 }, -- TRAIN_FAILS
  { off := 0x804 }, -- HPD_LOSSES
  { off := 0x808 }, -- IRQ_HPD
  { off := 0x80C }  -- AUX_TIMEOUTS
  ]

/-- The registers of a DOUTDP page. -/
def rowsDoutDpPage : List RegRow := rowsDoutDp

/-- Registers of DOUTDSI (07_panel_display_engine.md). -/
def rowsDoutDsi : List RegRow := [
  { off := 0x100, reset := 0x9C40030, rws := 0xFFF00FF }, -- DOUT.CTRL DSI
  { off := 0x104 }, -- DOUT.STATUS
  { off := 0x110 }, -- DOUT.DCS_HDR
  { off := 0x114 }, -- DOUT.DCS_STATUS
  { off := 0x120, n := 8, rw := 0xFFFFFFFF }, -- DOUT.DATA
  { off := 0x800 }, -- ACK_ERR
  { off := 0x804 }, -- TE_EDGES
  { off := 0x808 }, -- CMD_FRAMES
  { off := 0x80C }  -- ERR_REPORTS
  ]

/-- The registers of a DOUTDSI page. -/
def rowsDoutDsiPage : List RegRow := rowsDoutDsi

/-- Registers of ETH (08_ethernet_and_plumb_time.md). -/
def rowsEth : List RegRow := [
  { off := 0x100, reset := 7, rw := 7 }, -- ETH.CTRL
  { off := 0x104, rw := 0xFF }, -- ETH.PTP_DOMAIN
  { off := 0x108, n := 2, rw := 0xFFFFFFFF }, -- ETH.CLOCK_ID
  { off := 0x110 }, -- ETH.STATUS
  { off := 0x800, n := 2, wide := true }, -- PTP_CORRECTED
  { off := 0x808 }, -- PTP_NOSTAMP
  { off := 0x80C }, -- FU_NOMATCH
  { off := 0x810 }, -- TWO_STEP_EVICT
  { off := 0x814 }  -- TAG_ERR
  ]

/-- The registers of a ETH page. -/
def rowsEthPage : List RegRow := rowsEth

/-- Registers of MAC (08_ethernet_and_plumb_time.md). -/
def rowsMac : List RegRow := [
  { off := 0x100, reset := 0x10008, rw := 0xFFF001F }, -- MAC.CTRL
  { off := 0x104 }, -- MAC.STATUS
  { off := 0x108, reset := 0x5F2, rw := 0x3FFF }, -- MAC.MAX_FRAME
  { off := 0x10C, rw := 0x3F }, -- MAC.MISS_TSET
  { off := 0x110, reset := 0x10, rw := 0xFFFF }, -- MAC.FCS_THRESH
  { off := 0x114 }, -- MAC.PDELAY
  { off := 0x118, rw := 0xFFFFFFFF }, -- MAC.DELAY_ASYM
  { off := 0x800, n := 2, wide := true }, -- RX_FRAMES
  { off := 0x808, n := 2, wide := true }, -- TX_FRAMES
  { off := 0x810 }, -- RX_FCS_ERR
  { off := 0x814 }, -- RX_RUNT
  { off := 0x818 }, -- RX_OVERSIZE
  { off := 0x81C }, -- RX_MACCTL
  { off := 0x820 }, -- RX_BUF_DROP
  { off := 0x824 }, -- FWD_MISS
  { off := 0x828 }, -- NO_EGRESS
  { off := 0x82C }, -- NO_TUNNEL
  { off := 0x830 }, -- CLASS_SKIP
  { off := 0x834 }, -- SPLIT_HORIZON
  { off := 0x838 }, -- HELD_SKIP
  { off := 0x83C }, -- PDELAY_TX
  { off := 0x840 }  -- PDELAY_RX
  ]

/-- The registers of a MAC page. -/
def rowsMacPage : List RegRow := rowsMac

/-- Registers of FWD (08_ethernet_and_plumb_time.md). -/
def rowsFwd : List RegRow := [
  { off := 0x100 }, -- FWD.CMD
  { off := 0x104, rw := 0xFFF }, -- FWD.KEY_VID
  { off := 0x108, rw := 0xFFFFFFFF }, -- FWD.KEY_DA_LO
  { off := 0x10C, rw := 0xFFFF }, -- FWD.KEY_DA_HI
  { off := 0x110, rw := 0x3F }, -- FWD.KEY_TSET
  { off := 0x114 }, -- FWD.RESULT
  { off := 0x118 }, -- FWD.RES_HITS
  { off := 0x11C }, -- FWD.RES_SKIPS
  { off := 0x120 }, -- FWD.STATUS
  { off := 0x124, rw := 0x3FF }, -- FWD.HASH_SEED
  { off := 0x420, n := 62, stride := 16, rws := 0xF }, -- FWD.TSET_CNT
  { off := 0x424, n := 62, stride := 16, rws := 0xFFFFFFFF }, -- FWD.TSET_A
  { off := 0x428, n := 62, stride := 16, rws := 0xFFFFFFFF }, -- FWD.TSET_B
  { off := 0x800, n := 2, wide := true }, -- LOOKUPS
  { off := 0x808, n := 2, wide := true }, -- HITS
  { off := 0x810, n := 2, wide := true }, -- MISSES
  { off := 0x818 }, -- INSERT_FULL
  { off := 0x81C }  -- PARITY_ERR
  ]

/-- The registers of a FWD page. -/
def rowsFwdPage : List RegRow := rowsFwd

/-- Registers of PCIEU (09_pcie_and_dowel_bridge.md). -/
def rowsPcieu : List RegRow := [
  { off := 0x100, reset := 0x13, rw := 0x1B, w1s := 4 }, -- PCIE.CTRL
  { off := 0x104 }, -- PCIE.STATUS
  { off := 0x108, reset := 0x1C, rwl := 0x1F }, -- PCIE.BAR_CFG
  { off := 0x10C, reset := 0x10, rw := 0xFFFF }, -- PCIE.AER_THRESH
  { off := 0x800, n := 2, wide := true }, -- RX_TLPS
  { off := 0x808, n := 2, wide := true }, -- TX_TLPS
  { off := 0x810 }, -- REPLAYS
  { off := 0x814 }, -- CORR_ERR
  { off := 0x818 }, -- UNCORR_ERR
  { off := 0x81C }, -- BAR_ERR
  { off := 0x820 }, -- POISONED
  { off := 0x824 }, -- RETRAINS
  { off := 0x828 }  -- LINK_DOWNS
  ]

/-- The registers of a PCIEU page. -/
def rowsPcieuPage : List RegRow := rowsPcieu

/-- Registers of PCIED (09_pcie_and_dowel_bridge.md). -/
def rowsPcied : List RegRow := [
  { off := 0x100, reset := 0x13, rw := 0x3B, w1s := 4 }, -- PCIE.CTRL
  { off := 0x104 }, -- PCIE.STATUS
  { off := 0x108, rwl := 0x1F }, -- PCIE.BAR_CFG
  { off := 0x10C, reset := 0x10, rw := 0xFFFF }, -- PCIE.AER_THRESH
  { off := 0x800, n := 2, wide := true }, -- RX_TLPS
  { off := 0x808, n := 2, wide := true }, -- TX_TLPS
  { off := 0x810 }, -- REPLAYS
  { off := 0x814 }, -- CORR_ERR
  { off := 0x818 }, -- UNCORR_ERR
  { off := 0x81C }, -- BAR_ERR
  { off := 0x820 }, -- POISONED
  { off := 0x824 }, -- RETRAINS
  { off := 0x828 }  -- LINK_DOWNS
  ]

/-- The registers of a PCIED page. -/
def rowsPciedPage : List RegRow := rowsPcied

/-- Registers of PSW (09_pcie_and_dowel_bridge.md). -/
def rowsPsw : List RegRow := [
  { off := 0x100, rw := 1 }, -- PSW.CTRL
  { off := 0x104 }, -- PSW.VDP_STATUS
  { off := 0x200, n := 16, stride := 8, rws := 0xFFFF000 }, -- PSW.SW_BASE
  { off := 0x204, n := 16, stride := 8, rws := 0x3FFF001F }, -- PSW.SW_CTRL
  { off := 0x800, n := 2, wide := true }, -- SW_FRAMES
  { off := 0x808 }, -- SURPRISE_DOWNS
  { off := 0x80C }, -- UR_SYNTH
  { off := 0x810 }, -- POSTED_DISCARDS
  { off := 0x814 }, -- SW_ABANDON
  { off := 0x818 }  -- SW_ORDER
  ]

/-- The registers of a PSW page. -/
def rowsPswPage : List RegRow := rowsPsw

/-- Registers of USB2 (10_usb_hub_and_device.md). -/
def rowsUsb2 : List RegRow := [
  { off := 0x100, reset := 0x30, rw := 0x3F }, -- USB2.CTRL
  { off := 0x104 }, -- USB2.STATUS
  { off := 0x108, reset := 5, rw := 0xFF }, -- USB2.TT_TIMEOUT
  { off := 0x110, n := 7, reset := 1, rw := 3 }, -- USB2.PORT_CTRL
  { off := 0x130, n := 7 }, -- USB2.PORT_STATUS
  { off := 0x180, n := 8, rw := 1 }, -- USB2.TP_CTRL
  { off := 0x1A0, n := 8 }, -- USB2.TP_STATUS
  { off := 0x800, n := 2, wide := true }, -- SPLITS_FWD
  { off := 0x808 }, -- LATE_RESULTS
  { off := 0x80C }, -- REMOTE_TIMEOUTS
  { off := 0x810 }, -- ISO_REFUSED
  { off := 0x814 }, -- PERIODIC_FULL
  { off := 0x818 }, -- TAG_ERR
  { off := 0x81C }, -- UNBINDS
  { off := 0x820 }, -- PORT_ERRORS
  { off := 0x824 }  -- L1_ENTRIES
  ]

/-- The registers of a USB2 page. -/
def rowsUsb2Page : List RegRow := rowsUsb2

/-- Registers of USB3 (10_usb_hub_and_device.md). -/
def rowsUsb3 : List RegRow := [
  { off := 0x100, reset := 0x10, rw := 0x1F }, -- USB3.CTRL
  { off := 0x104 }, -- USB3.STATUS
  { off := 0x110, n := 6, reset := 1, rw := 1 }, -- USB3.PORT_CTRL
  { off := 0x130, n := 6 }, -- USB3.PORT_STATUS
  { off := 0x800, n := 2, wide := true }, -- PKT_TX
  { off := 0x808, n := 2, wide := true }, -- PKT_RX
  { off := 0x810 }, -- BAD_PKT
  { off := 0x814 }, -- TAG_ERR
  { off := 0x818 }, -- U1_ENTRIES
  { off := 0x81C }, -- U2_ENTRIES
  { off := 0x820 }, -- WARM_RESETS
  { off := 0x824 }, -- VPORT_DOWNS
  { off := 0x828 }  -- LINK_ERRORS
  ]

/-- The registers of a USB3 page. -/
def rowsUsb3Page : List RegRow := rowsUsb3

/-- Registers of USBD (10_usb_hub_and_device.md). -/
def rowsUsbd : List RegRow := [
  { off := 0x100, reset := 0x30A, rw := 0x707, rwl := 8 }, -- USBD.CTRL
  { off := 0x104 }, -- USBD.STATUS
  { off := 0x108, w1c := 3 }, -- USBD.WAKE_STATUS
  { off := 0x10C, rwl := 0xFFFFFFFF }, -- USBD.IDS
  { off := 0x110 }, -- USBD.EP2_STATUS
  { off := 0x800, n := 2, wide := true }, -- EP2_RECORDS
  { off := 0x808 }, -- EP2_DROPS
  { off := 0x80C }, -- EP2_ZLP
  { off := 0x810 }, -- CTRL_ABANDONED
  { off := 0x814 }, -- STALLS
  { off := 0x818 }, -- EP3_FRAMES
  { off := 0x81C }, -- GATE_REFUSED
  { off := 0x820 }, -- BUS_RESETS
  { off := 0x824 }, -- WAKES
  { off := 0x828 }  -- WAKE_COLLISIONS
  ]

/-- The registers of a USBD page. -/
def rowsUsbdPage : List RegRow := rowsUsbd

/-- Registers of BRG (09_pcie_and_dowel_bridge.md), part 1. -/
def rowsBrgA : List RegRow := [
  { off := 0x100, reset := 0x401000, rw := 0xFFFFFFF3 }, -- BRG.CTRL
  { off := 0x104, reset := 0x40 }, -- BRG.STATUS
  { off := 0x110 }, -- BRG.PERR_ADDR
  { off := 0x114, w1c := 1 }, -- BRG.PERR_WINDOW
  { off := 0x118, n := 3 }, -- BRG.PERR_TIME_NS/S_LO/S_HI
  { off := 0x124 }, -- BRG.PERR_COUNT
  { off := 0x140, rw := 0xFFFFFFFF }, -- BRG.MA_ADDR
  { off := 0x144, rw := 0xFFFFFFFF }, -- BRG.MA_DATA
  { off := 0x148 }, -- BRG.MA_CMD
  { off := 0x14C }, -- BRG.MA_STATUS
  { off := 0x200, n := 8, stride := 16, rws := 0xFFFF000 }, -- BRG.OW_BASE
  { off := 0x204, n := 8, stride := 16, rws := 0xF3FF }, -- BRG.OW_CTRL
  { off := 0x208, n := 8, stride := 16, rws := 0x3FFFFFF }, -- BRG.OW_LB
  { off := 0x300, n := 4, stride := 16, rws := 0x3FFFFFF }, -- BRG.IW_LB
  { off := 0x304, n := 4, stride := 16, rws := 0xF39F }, -- BRG.IW_CTRL
  { off := 0x308, n := 4, stride := 16, rws := 0xFFFFFFFF }, -- BRG.IW_PCIE_LO
  { off := 0x30C, n := 4, stride := 16, rws := 0xFFFFFFFF }, -- BRG.IW_PCIE_HI
  { off := 0x800, n := 2, wide := true }, -- OUT_CYCLES
  { off := 0x808, n := 2, wide := true }, -- IN_CYCLES
  { off := 0x810 }, -- NP_ERR
  { off := 0x814 }, -- PERR_SKIPPED
  { off := 0x818 }, -- DT_RETRIES
  { off := 0x81C }, -- DT_EXPIRED
  { off := 0x820 }  -- DT_FULL
  ]

/-- Registers of BRG (09_pcie_and_dowel_bridge.md), part 2. -/
def rowsBrgB : List RegRow := [
  { off := 0x824 }  -- REMOTE_REFUSED
  ]

/-- The registers of a BRG page. -/
def rowsBrgPage : List RegRow := rowsBrgA ++ rowsBrgB

/-- Registers of CDC (14_clock_domain_crossings.md). -/
def rowsCdc : List RegRow := [
  { off := 0x100, reset := 0x2710, rw := 0xFFFFF }, -- CDC.STALL_LIMIT
  { off := 0x104, rw := 0x7F }, -- CDC.SEL
  { off := 0x108 }, -- CDC.XSTATUS
  { off := 0x10C }, -- CDC.XCLEAR
  { off := 0x110, n := 4 }, -- CDC.OVERRUN
  { off := 0x120, n := 4 }, -- CDC.STALLED
  { off := 0x130 }, -- CDC.REG_TMO_PAGE
  { off := 0x800 }, -- OVERRUN_EVENTS
  { off := 0x804 }, -- STALL_EPISODES
  { off := 0x808 }, -- RESYNCS
  { off := 0x80C }, -- REG_TIMEOUTS
  { off := 0x810, n := 2, wide := true }, -- RESYNC_ITEMS
  { off := 0x818 }, -- REG_WR_DROPS
  { off := 0x820, n := 2, wide := true }, -- XFERS
  { off := 0x828 }  -- X_RESYNC_ITEMS
  ]

/-- The registers of a CDC page. -/
def rowsCdcPage : List RegRow := rowsCdc

/-- Registers of AO (16_power_states_reset_and_wipe.md). -/
def rowsAo : List RegRow := [
  { off := 0x100, reset := 3 }, -- AO.STATUS
  { off := 0x104, reset := 0x13F, rw := 0xFF }, -- AO.WAKE_EN
  { off := 0x108, rw := 3 }, -- AO.WAKE_CFG
  { off := 0x10C, w1c := 0x1FF01FF }, -- AO.WAKE_STATUS
  { off := 0x110, reset := 0x7D0, rw := 0xFFFF }, -- AO.VRDY_TIMEOUT
  { off := 0x114, reset := 0x103, rw := 0xFF0F }, -- AO.WAKE_RETRY
  { off := 0x118, w1c := 1 }, -- AO.FAIL
  { off := 0x11C }, -- AO.CMD
  { off := 0x120, rw := 0xFFFFFF }, -- AO.TIMER
  { off := 0x140, n := 8 }, -- AO.RB_SIG
  { off := 0x160 }, -- AO.RB_VALID
  { off := 0x800 }, -- PIN_RESETS
  { off := 0x804 }, -- WARM_RESETS
  { off := 0x808 }, -- WAKES
  { off := 0x80C }, -- WAKE_RETRIES
  { off := 0x810 }, -- WAKE_FAILS
  { off := 0x814 }  -- EDGES_MISSED
  ]

/-- The registers of a AO page. -/
def rowsAoPage : List RegRow := rowsAo

/-- What Table 18-2, Table 18-3 and Table 18-7 say of a page kind. -/
structure PageInfo where
  type : Nat
  first : Nat
  last : Nat
  powerDie : Bool
  journalled : Bool
  commit : Bool
  lock : Bool
  fi : Bool
  soft : Bool
  gate : Bool
  rows : List RegRow
  deriving DecidableEq, Repr

/-- Table 18-7 with the capabilities of Table 18-3. -/
def pageInfo : PageKind → PageInfo
  | .dev => { type := 1, first := 0, last := 0, powerDie := false, journalled := true, commit := true, lock := false, fi := false, soft := false, gate := false, rows := rowsDevPage }
  | .pm => { type := 2, first := 1, last := 1, powerDie := false, journalled := false, commit := false, lock := false, fi := false, soft := false, gate := false, rows := rowsPmPage }
  | .rst => { type := 3, first := 2, last := 2, powerDie := false, journalled := false, commit := false, lock := false, fi := false, soft := false, gate := false, rows := rowsRstPage }
  | .flt => { type := 4, first := 3, last := 3, powerDie := false, journalled := false, commit := false, lock := false, fi := false, soft := false, gate := false, rows := rowsFltPage }
  | .sec => { type := 5, first := 4, last := 4, powerDie := false, journalled := false, commit := false, lock := false, fi := false, soft := false, gate := false, rows := rowsSecPage }
  | .key => { type := 6, first := 5, last := 5, powerDie := false, journalled := false, commit := false, lock := false, fi := false, soft := false, gate := false, rows := rowsKeyPage }
  | .time => { type := 7, first := 6, last := 6, powerDie := false, journalled := true, commit := false, lock := false, fi := false, soft := false, gate := false, rows := rowsTimePage }
  | .spd => { type := 8, first := 7, last := 7, powerDie := false, journalled := false, commit := false, lock := false, fi := false, soft := false, gate := false, rows := rowsSpdPage }
  | .pair => { type := 9, first := 8, last := 8, powerDie := false, journalled := false, commit := false, lock := false, fi := false, soft := false, gate := false, rows := rowsPairPage }
  | .link => { type := 0x10, first := 0x10, last := 0x14, powerDie := false, journalled := true, commit := false, lock := false, fi := false, soft := false, gate := false, rows := rowsLinkPage }
  | .lane => { type := 0x11, first := 0x20, last := 0x3B, powerDie := false, journalled := false, commit := false, lock := false, fi := false, soft := true, gate := true, rows := rowsLanePage }
  | .tc => { type := 0x20, first := 0x40, last := 0x43, powerDie := true, journalled := true, commit := false, lock := false, fi := false, soft := false, gate := false, rows := rowsTcPage }
  | .pp => { type := 0x21, first := 0x48, last := 0x48, powerDie := true, journalled := true, commit := false, lock := false, fi := false, soft := false, gate := false, rows := rowsPpPage }
  | .tun => { type := 0x30, first := 0x50, last := 0x50, powerDie := false, journalled := true, commit := true, lock := false, fi := false, soft := false, gate := false, rows := rowsTunPage }
  | .swc => { type := 0x31, first := 0x51, last := 0x51, powerDie := false, journalled := true, commit := false, lock := false, fi := false, soft := false, gate := false, rows := rowsSwcPage }
  | .buf => { type := 0x32, first := 0x52, last := 0x52, powerDie := false, journalled := true, commit := false, lock := false, fi := true, soft := false, gate := false, rows := rowsBufPage }
  | .mem => { type := 0x33, first := 0x53, last := 0x53, powerDie := false, journalled := true, commit := true, lock := false, fi := true, soft := false, gate := false, rows := rowsMemPage }
  | .sch => { type := 0x34, first := 0x60, last := 0x6D, powerDie := false, journalled := true, commit := true, lock := false, fi := false, soft := false, gate := false, rows := rowsSchPage }
  | .disp => { type := 0x40, first := 0x70, last := 0x70, powerDie := false, journalled := true, commit := true, lock := false, fi := false, soft := true, gate := false, rows := rowsDispPage }
  | .doutDp => { type := 0x41, first := 0x71, last := 0x72, powerDie := false, journalled := true, commit := true, lock := false, fi := false, soft := true, gate := true, rows := rowsDoutDpPage }
  | .doutDsi => { type := 0x41, first := 0x73, last := 0x74, powerDie := false, journalled := true, commit := true, lock := false, fi := false, soft := true, gate := true, rows := rowsDoutDsiPage }
  | .eth => { type := 0x50, first := 0x78, last := 0x78, powerDie := false, journalled := true, commit := false, lock := false, fi := false, soft := false, gate := false, rows := rowsEthPage }
  | .mac => { type := 0x51, first := 0x79, last := 0x7C, powerDie := false, journalled := true, commit := false, lock := false, fi := false, soft := true, gate := true, rows := rowsMacPage }
  | .fwd => { type := 0x52, first := 0x7D, last := 0x7D, powerDie := false, journalled := true, commit := true, lock := false, fi := true, soft := false, gate := false, rows := rowsFwdPage }
  | .pcieu => { type := 0x60, first := 0x80, last := 0x80, powerDie := false, journalled := true, commit := false, lock := true, fi := false, soft := true, gate := false, rows := rowsPcieuPage }
  | .pcied => { type := 0x60, first := 0x81, last := 0x81, powerDie := false, journalled := true, commit := false, lock := true, fi := false, soft := true, gate := true, rows := rowsPciedPage }
  | .psw => { type := 0x61, first := 0x82, last := 0x82, powerDie := false, journalled := true, commit := true, lock := false, fi := false, soft := false, gate := false, rows := rowsPswPage }
  | .usb2 => { type := 0x70, first := 0x88, last := 0x88, powerDie := false, journalled := true, commit := false, lock := false, fi := false, soft := true, gate := false, rows := rowsUsb2Page }
  | .usb3 => { type := 0x71, first := 0x89, last := 0x89, powerDie := false, journalled := true, commit := false, lock := false, fi := false, soft := true, gate := false, rows := rowsUsb3Page }
  | .usbd => { type := 0x72, first := 0x8A, last := 0x8A, powerDie := false, journalled := true, commit := false, lock := true, fi := false, soft := true, gate := false, rows := rowsUsbdPage }
  | .brg => { type := 0x80, first := 0x90, last := 0x90, powerDie := false, journalled := true, commit := true, lock := false, fi := false, soft := true, gate := false, rows := rowsBrgPage }
  | .cdc => { type := 0x90, first := 0xA0, last := 0xA0, powerDie := false, journalled := true, commit := false, lock := false, fi := false, soft := false, gate := false, rows := rowsCdcPage }
  | .ao => { type := 0xA0, first := 0xFF, last := 0xFF, powerDie := true, journalled := false, commit := false, lock := false, fi := false, soft := false, gate := false, rows := rowsAoPage }

/-- Every page kind, in page order. -/
def pageKinds : List PageKind :=
  [.dev, .pm, .rst, .flt, .sec, .key, .time, .spd, .pair, .link, .lane, .tc, .pp, .tun, .swc, .buf, .mem, .sch, .disp, .doutDp, .doutDsi, .eth, .mac, .fwd, .pcieu, .pcied, .psw, .usb2, .usb3, .usbd, .brg, .cdc, .ao]

/-- The kind of a page; `none` for an absent page (R412, R16). -/
def pageKindOf (page : Nat) : Option PageKind :=
  pageKinds.find? (fun k => decide ((pageInfo k).first ≤ page ∧ page ≤ (pageInfo k).last))

/-- The first page of a block type, from which instances are counted (Table 18-2). -/
def typeFirst : PageKind → Nat
  | .doutDsi => 0x71
  | .pcied => 0x80
  | k => (pageInfo k).first

/-- The row that defines an offset of a page kind. -/
def findRow (k : PageKind) (off : Nat) : Option RegRow :=
  (pageInfo k).rows.find? (fun r => decide (r.off ≤ off ∧ off < r.off + r.n * r.stride ∧ (off - r.off) % r.stride = 0))

/-- The key of a register copy: its address, and which copy where a selector chooses one. -/
abbrev regKey (addr sel : Nat) : Nat := addr + sel * 0x1000000

/-- Default severities (Table 15-3, 15_faults_and_event_history.md R344). -/
def srcDefaultSev (n : Nat) : Nat :=
  if n = 87 ∨ (95 ≤ n ∧ n ≤ 99) ∨ n = 127 then 0
  else if n = 125 then 7
  else if n = 31 ∨ n = 44 ∨ n = 45 ∨ n = 107 then 1
  else if n < 25 then (if n % 5 = 1 ∨ n % 5 = 2 then 2 else 3)
  else if n ∈ [27, 29, 34, 42, 43, 48, 50, 53, 54, 55, 57, 58, 61, 62, 63, 68, 70, 71, 74, 78, 81, 82, 83, 84, 85, 89,
      94, 101, 104, 105, 106, 118, 123] then 2
  else 3

/-- Stages of a bobbin queue (Table 5-7); 0 for a mortise that is absent. -/
def bqDepth (m : Nat) : Nat :=
  if m ≤ 4 then 32 else if m ≤ 7 then 16 else if m = 8 then 8 else if m = 9 then 16 else if m = 10 then 32
  else if m ≤ 13 then 8 else 0

/-- Reset value of CT_WORDS (Table 5-7). -/
def bqCtReset (m : Nat) : Nat := if m ≤ 4 then 1 else if m ≤ 8 then 2 else 0

/-- Reset value of the common registers (Table 18-1); `none` where the offset is the block's own.
DESIGN CHOICE, log entry 8. -/
def commonReset (k : PageKind) (off : Nat) : Option Nat :=
  if off = 0x008 ∨ off = 0x00C then some 1
  else if off = 0x014 then some 0xFFFFFFFF
  else if off = 0x040 then some (if (pageInfo k).fi then 0x00010100 else 0)
  else if off < 0x100 then some 0
  else none

/-- The value a register holds after power-on (R8): what an unlisted key of the register file reads as.
DESIGN CHOICE, log entry 8. -/
def regReset (key : Nat) : Word :=
  let addr := key % 0x1000000
  let sel := key / 0x1000000
  let off := addr % 0x1000
  match pageKindOf (addr / 0x1000) with
  | none => 0
  | some k =>
    match commonReset k off with
    | some v => BitVec.ofNat 32 v
    | none =>
      match findRow k off with
      | none => 0
      | some r =>
        if k = .flt ∧ r.off = 0x400 then BitVec.ofNat 32 (srcDefaultSev ((off - 0x400) / 4))
        else if k = .tc ∧ r.off = 0x1F0 ∧ addr / 0x1000 ≠ 0x40 then 0
        else if k = .swc ∧ r.off = 0x114 then BitVec.ofNat 32 (bqCtReset (sel % 16))
        else BitVec.ofNat 32 r.reset

end Sys2Proof.Machine
end

