-- ==== Sys2Proof/Machine/SMap.lean ====
section
/-!
DEFINITION. Sparse maps: a list of (key, value) pairs with strictly rising keys and no entry equal to what an
unlisted key reads as. Every register file, table and memory of the model is one of these.
-/
namespace Sys2Proof.Machine

/-- A sparse map from natural-number keys. -/
abbrev SMap (α : Type) := List (Nat × α)

variable {α : Type}

/-- The value at a key; `d` says what an unlisted key reads as. -/
def smGet (d : Nat → α) : SMap α → Nat → α
  | [], k => d k
  | (j, v) :: m, k => if k < j then d k else if k = j then v else smGet d m k

/-- Writing a value at a key; writing what an unlisted key reads as removes the entry. -/
def smSet [DecidableEq α] (d : Nat → α) : SMap α → Nat → α → SMap α
  | [], k, v => if v = d k then [] else [(k, v)]
  | (j, w) :: m, k, v =>
    if k < j then (if v = d k then (j, w) :: m else (k, v) :: (j, w) :: m)
    else if k = j then (if v = d k then m.filter (fun e => k < e.1) else (k, v) :: m)
    else (j, w) :: smSet d m k v

/-- Canonical form: keys strictly rising, no entry equal to the unlisted value. -/
abbrev smWf [DecidableEq α] (d : Nat → α) (m : SMap α) : Prop :=
  m.Pairwise (fun a b => a.1 < b.1) ∧ ∀ e ∈ m, e.2 ≠ d e.1

/-- The map after writing the same function of each key of a list. -/
def smSetAll [DecidableEq α] (d : Nat → α) (m : SMap α) (ks : List Nat) (f : Nat → α) : SMap α :=
  ks.foldl (fun m k => smSet d m k (f k)) m

end Sys2Proof.Machine
end

