-- ==== Sys2Proof/Machine/State.lean ====
section
/-!
DEFINITION. The state of the TD7760: every register, queue, buffer, counter, mode and pin the spec gives it, as plain
data. Registers live in one register file (`regs`), committed copies of RWS registers in another (`act`); what the spec
gives the chip beside its registers lives in the structures below, each beside the chapter that names it.
-/
namespace Sys2Proof.Machine

/-! ### Cells, queues and tunnels (chapters 4 and 5) -/

/-- A cell as it lies in a Loft queue (Table 4-1), with the egress mortise and label it was switched to (R81, R95). -/
structure QCell where
  /-- Check words of its Loft cell, then of its SDRAM line, that an injection inverted: in one bit, in more (R359). -/
  fiLoft : Nat × Nat := (0, 0)
  fiDram : Nat × Nat := (0, 0)
  /-- The parity of its queue tag was inverted (R117, R359). -/
  fiTag : Bool := false
  eg : Nat := 0
  tid : Nat := 0
  seq : Nat := 0
  cls : Nat := 0
  sof : Bool := false
  eof : Bool := false
  abt : Bool := false
  tsp : Bool := false
  data : List Byte := []
  /-- It occupies a cell of a static reserve (R100). -/
  rsv : Bool := false
  /-- Its frame cuts through (R108). -/
  ct : Bool := false
  /-- It is the SOF whose SEQ an adopting terminus takes (R315, R316). -/
  adopt : Bool := false
  /-- It is the last cell of a frame that the hub closes behind it (R109 step 4, R111). -/
  close : Bool := false
  deriving DecidableEq, Repr

/-- A Loft queue (R99): the on-chip part, the overflow list of 64-cell chunks and the staging chunk (R103, R104). -/
structure Queue where
  onchip : List QCell := []
  chunks : List (List QCell) := []
  staging : List QCell := []
  spilling : Bool := false
  /-- A sweep after a queue reset runs (R117). -/
  sweeping : Bool := false
  /-- An injection inverted the second copy of its pointers (R117, R359). -/
  fiPtr : Bool := false
  /-- A frame has begun to leave and its EOF has not (R136). -/
  txOpen : Bool := false
  /-- The last cell that left: its SEQ and its label close its frame (R111). -/
  last : QCell := {}
  /-- A frame is open at the local adapter this queue serves, and its consumer has started on it (R110, R114). -/
  adOpen : Bool := false
  begun : Bool := false
  /-- That frame is one that a flush discards when its end comes, or one whose consumer had started on it when the flush was
  asked for (R115). -/
  flushing : Bool := false
  before : Bool := false
  /-- Bytes of the frame that the adapter is receiving from this queue. -/
  asm : List Byte := []
  /-- Of that frame: cell index of its SOF, cells so far, and whether it carries a timestamp (R154). -/
  asmIdx : Nat := 0
  asmCells : Nat := 0
  asmTsp : Bool := false
  deriving DecidableEq, Repr

/-- The frame of a tunnel that is arriving (R77, R79). -/
structure OpenFrame where
  ct : Bool := false
  bad : Bool := false
  oversize : Bool := false
  /-- It carries a timestamp. -/
  tsp : Bool := false
  /-- Its SOF was placed on chip (R101). -/
  onchip : Bool := false
  /-- Running CRC-32C register and bytes so far. -/
  crc : BitVec 32 := 0xFFFFFFFF
  bytes : Nat := 0
  /-- Cells of the frame now in the queue. -/
  placed : Nat := 0
  deriving DecidableEq, Repr

/-- What a hub keeps of one tunnel beside its table entry. -/
structure Tunnel where
  susp : Bool := false
  halted : Bool := false
  nextSeq : Nat := 0
  /-- Expected sequence at the terminus; none until the first cell (R85). -/
  e : Option Nat := none
  /-- Provisional sequence of a reliable terminus (R112). -/
  p : Nat := 0
  rx : Option OpenFrame := none
  /-- Cells up to the next SOF are discarded: the rest of a frame that was too long (R79), or those before an adoption
  (R315). -/
  awaitSof : Bool := false
  /-- Cells accepted since the last E2E_ACK (R87). -/
  unacked : Nat := 0
  /-- The value of E for which a gap sign stands, until E advances (R87). -/
  gap : Option Nat := none
  /-- It adopts the SEQ of the next SOF cell that arrives (R315, R316). -/
  adopt : Bool := false
  /-- Cells sent and not acknowledged, oldest first (R86). -/
  retained : List QCell := []
  /-- Retained cells to be sent again before the queue (R88). -/
  resend : List QCell := []
  /-- Consecutive end-to-end expiries without an advance (R88). -/
  expiries : Nat := 0
  /-- The queue reset freed retained cells: it can only be removed (R117). -/
  broken : Bool := false
  /-- The four entry words under which the open frame finishes, where it began before the last commit (R95). -/
  old : Option (List Nat) := none
  /-- The four entry words in force until the tunnel resumes, where a commit changed a stopped one (R96). -/
  defer : Option (List Nat) := none
  deriving DecidableEq, Repr

/-- Plumb: 48-bit seconds, 32-bit ns and a 16-bit sub-ns fraction (R191). -/
structure Plumb where
  sec : Nat := 0
  ns : Nat := 0
  frac : Nat := 0
  deriving DecidableEq, Repr

/-- A frame that an adapter offers to its mortise: its tag, its data, the MAC it came in on and the stamp taken there;
`rest` holds what is left of it once its SOF cell has been cut. Of the copies of one Ethernet frame the last counts against
the MAC's receive buffer, and Protection and Time frames go ahead (R186). -/
structure InFrame where
  tag : Nat
  data : List Byte
  src : Nat := 0
  stamp : Option Plumb := none
  rest : Option (List Byte) := none
  last : Bool := true
  ahead : Bool := false
  /-- At M11: a TID 0 frame of this hub, which goes to a control queue (R90, R102), from the mailbox where `src` is 1, and the
  route its placed cells took. -/
  ctl : Bool := false
  via : Option Nat := none
  deriving DecidableEq, Repr

/-- The end marks of a bobbin queue's stages (R113). -/
inductive EndMark
  | idle | mid | done | aborted
  deriving DecidableEq, Repr

/-- A stage of a bobbin queue: a 512-bit word, as its 64 bytes, and its end mark. -/
structure BobWord where
  data : List Byte
  mark : EndMark
  deriving DecidableEq, Repr

/-- What a bobbin queue keeps (R113–R115): at a link mortise's ingress the words it holds, oldest first; a flush pending,
the packets it still discards, and at the ingress of a link the words. What the other bobbin queues hold is what their
adapter or link is handing over (`inq`, `asm`, `forming`). DEDUCED, log entry 43. -/
structure Bobbin where
  words : List BobWord := []
  /-- At the ingress of a link: how many of them, the oldest, came before the link last entered UP from AUTH (R58). -/
  old : Nat := 0
  flush : Bool := false
  left : Nat := 0
  deriving DecidableEq, Repr

/-! ### Links (chapter 3) -/

/-- A link block kept for replay: its LSEQ, its block type, its 520 bytes (R44, R55), and how many tunnel cells it holds. -/
structure TxBlock where
  lseq : Nat
  btype : Nat
  bytes : List Byte
  tunnelCells : Nat
  deriving DecidableEq, Repr

/-- How far a link's re-allotment has come (Table 3-6): in `ending` an end that loses a lane waits for room in its replay buffer
to end its block and send TURN (R55). -/
inductive SplitStep
  | idle | requested | ending | acked | turning
  deriving DecidableEq, Repr

/-- What a link keeps beside its registers. -/
structure Link where
  rxE : Nat := 0
  awaitGood : Bool := false
  txSeq : Nat := 0
  replay : List TxBlock := []
  ackExpiries : Nat := 0
  nakSeq : Nat := 0
  nakCount : Nat := 0
  rxSinceAck : Nat := 0
  /-- Credits held for the partner's buffers, per class (R58). -/
  txCredit : SMap Nat := []
  /-- Credits the partner holds for this receiver, per class. -/
  rxCredit : SMap Nat := []
  /-- Returns not yet sent, per class. -/
  crdRet : SMap Nat := []
  /-- Link-control cells waiting to be sent: payload bytes from byte 0. -/
  ctlOut : List (List Byte) := []
  /-- Close cells waiting to be sent (R111). -/
  closeOut : List QCell := []
  /-- Cells gathered for the block being formed: 64 bytes each, and whether a tunnel cell. -/
  forming : List (List Byte × Bool) := []
  /-- 80-bit units dealt to the lanes since the transmit set was taken, and the 10-bit symbols of the codeword that each
  lane is filling (R44). -/
  dealt : Nat := 0
  fec : SMap (List Nat) := []
  /-- Sideband frames waiting for this end's slot: type and payload. -/
  sbOut : List (Nat × List Byte) := []
  /-- Veserlink mode is entered on the port. -/
  veser : Bool := false
  holding : Bool := false
  holdStart : Nat := 0
  retrying : Bool := false
  splitStep : SplitStep := .idle
  /-- The change under way was requested by this end. -/
  splitOwn : Bool := false
  splitTarget : Nat := 0
  /-- Tick at which data stopped for the change. -/
  splitStart : Nat := 0
  /-- LSEQ from which a NAK that came while data stood still for the change has blocks sent again (R55, Table 3-6). -/
  again : Option Nat := none
  lpAsked : Bool := false
  /-- Tick at which a non-NULL cell was last sent (R53). -/
  lastCell : Nat := 0
  trainBad : Nat := 0
  /-- The partner has been seen to train since this attempt began (R65). -/
  sawTrain : Bool := false
  /-- The tap values and answer of the partner's last FFE_STATUS. -/
  ffePeer : List Byte := []
  /-- Uncorrectable codewords of its lanes at the last 1 ms boundary (R54). -/
  fecSeen : Nat := 0
  /-- Cells of an unknown TID since its last report (Table 3-9). -/
  tidCount : SMap Nat := []
  /-- Session of the link cipher (R404, R405): keys and salts per direction, blocks counted from UP, and additional data
  and ciphertext of the present segment. -/
  keyTx : List Byte := []
  keyRx : List Byte := []
  saltTx : List Byte := []
  saltRx : List Byte := []
  txBlocks : Nat := 0
  rxBlocks : Nat := 0
  txAad : List Byte := []
  txCt : List Byte := []
  rxAad : List Byte := []
  rxCt : List Byte := []
  /-- A completed segment whose tag is still to be checked, with the tag computed (R406). -/
  tagWait : Option (Nat × List Byte) := none
  /-- AUTH (R403): own nonce, the partner's ID, nonce and KEYED as its HELLO fragments give them, its proof, and the
  fragments seen so far as masks. -/
  nonce : List Byte := []
  peerId : List Byte := []
  peerNonce : List Byte := []
  peerKeyed : Bool := false
  helloSeen : Nat := 0
  peerProof : List Byte := []
  proofSeen : Nat := 0
  /-- AUTH has succeeded at this end and waits for the partner's DONE, or for the mode to leave COLD. -/
  authOk : Bool := false
  peerDone : Bool := false
  /-- A loop or PRBS of its lanes holds it DOWN in SERVICE (R75). -/
  testHold : Bool := false
  /-- Tick at which it last left UP (R457). -/
  leftUp : Nat := 0
  deriving DecidableEq, Repr

/-! ### Crossings and faults (chapters 14 and 15) -/

/-- What an event crossing carries: a source number (or a code) and its 16-bit detail (R328). -/
structure Pulse where
  code : Nat
  detail : Nat
  deriving DecidableEq, Repr

/-- A crossing (R326, R327, R336, R339). -/
structure Crossing where
  /-- A pulse, or at a bundled-data crossing a request that the far side has not acknowledged (code and detail 0). -/
  inFlight : Option Pulse := none
  /-- The pulse in flight has reached the far side. -/
  delivered : Bool := false
  pending : Option Pulse := none
  overrun : Bool := false
  lost : Nat := 0
  stalled : Bool := false
  resyncing : Bool := false
  xfers : Nat := 0
  resyncItems : Nat := 0
  deriving DecidableEq, Repr

/-- An event record (Table 8-8). -/
structure Record where
  sec : Nat := 0
  ns : Nat := 0
  source : Nat := 0
  kindEdge : Nat := 0
  seq : Nat := 0
  detail : Nat := 0
  deriving DecidableEq, Repr

/-- What the fault collector keeps beside its registers. -/
structure Flt where
  /-- Raises of the CDC block on their way to the collector (sources 92–99, R455). -/
  direct : List Pulse := []
  history : List Record := []
  outq : List Record := []
  rxq : List (Nat × Record) := []
  /-- Records lost since the outgoing queue was last full (R357). -/
  lost : Nat := 0
  seq : Nat := 0
  /-- Escalation counts per source (R350). -/
  esc : SMap Nat := []
  /-- Severity at which each pending source was last handled (R355). -/
  sev : SMap Nat := []
  /-- The source that made the last DEGRADE step (R347). -/
  shedSrc : Option Nat := none
  deriving DecidableEq, Repr

/-! ### The mirrored pair (chapter 13) -/

/-- A journal record (R301): type, LAST flag, number, epoch and the 16 body bytes. -/
structure JRec where
  type : Nat
  last : Bool := false
  jseq : Nat := 0
  epoch : Nat := 0
  body : List Byte := []
  deriving DecidableEq, Repr

/-- A tunnel sequence checkpoint (Table 13-3, CKPT). -/
structure Ckpt where
  next : Nat := 0
  base : Nat := 0
  e : Nat := 0
  tstate : Nat := 0
  deriving DecidableEq, Repr

/-- How far a planned swap has come (Table 13-7). -/
inductive SwapStep
  | idle | offered | draining | checkpointed | committing
  deriving DecidableEq, Repr

/-- What a pair member or a dock keeps beside its registers. -/
structure Pair where
  ring : List JRec := []
  /-- Number of the next record. -/
  nextJ : Nat := 1
  /-- Highest JSEQ applied by this standby, records since the last JACK, and whether a JACK is due. -/
  applied : Nat := 0
  sinceJack : Nat := 0
  /-- At the active: the last record of the snapshot group under way (R305), what of it is still to be sent, and up to where the standby
  has acknowledged it. -/
  groupEnd : Option Nat := none
  group : List JRec := []
  groupAck : Nat := 0
  /-- At the standby: a snapshot group is open. -/
  groupOpen : Bool := false
  /-- A resynchronisation is to start as soon as the Scarf link is UP and the peer is active. -/
  resyncDue : Bool := false
  /-- Last checkpoints journalled (active) or applied (standby), per table index. -/
  ckpt : SMap Ckpt := []
  swap : SwapStep := .idle
  /-- Ingress is frozen (Table 13-7 step 3). -/
  frozen : Bool := false
  /-- A takeover has passed step 1: forced or not. -/
  taking : Option Bool := none
  /-- The peer's HID, from its last valid heartbeat, where that is valid. -/
  peerHid : Option Nat := none
  /-- Number of the next snapshot group (Table 13-3). -/
  groupNo : Nat := 0
  /-- At the standby: the servo state and the mode with its cause that the active journalled last. -/
  servo : List Byte := []
  activeMode : Option (Nat × Nat) := none
  /-- At the standby: the active's FREQ_ADJ (Table 13-2). -/
  freq : Option Word := none
  /-- The dock follows a port. -/
  following : Bool := false
  /-- Cable transmitters are held electrically idle by the fence (R308). -/
  fenced : Bool := false
  deriving DecidableEq, Repr

/-! ### Scheduling (chapter 6) -/

/-- A gate schedule (R144). -/
structure GateSched where
  entries : List (Nat × Nat) := [(1000000, 0xFF)]
  cycle : Nat := 1000000
  baseS : Nat := 0
  baseNs : Nat := 0
  deriving DecidableEq, Repr

/-- A gate: the schedule in force, the committed one that waits for its first cycle start. -/
structure Gate where
  run : GateSched := {}
  next : Option (GateSched × Nat) := none
  /-- Classes whose head item has been counted as held by the guard band (R145). -/
  held : List Nat := []
  deriving DecidableEq, Repr

/-- An egress scheduler (R135, R138): virtual time per node, finish tag per child (none where it has fallen behind V, R135), the
children whose tag is that of their present head item, each with the table index of the tunnel whose item that is, credit per
shaper in 1/1000 bit, and the tick the credits were last brought up to. -/
structure Sched where
  v : SMap Nat := []
  tag : SMap (Option Nat) := []
  cand : List (Nat × Nat) := []
  credit : SMap Int := []
  tick : Nat := 0
  deriving DecidableEq, Repr
/-! ### PCIe and the Dowel bridge (chapter 9) -/

/-- A virtual downstream port (R216, R218): forwarded non-posted requests not yet answered, by requester ID and tag. -/
structure Vdp where
  np : List Nat := []
  deriving DecidableEq, Repr

/-- One beat of a local-bus cycle: byte address, enabled lanes as a mask, the data on the lanes, and for each lane the
offset of the byte it carries in the request. -/
structure LbBeat where
  addr : Nat
  mask : Nat
  lanes : List Byte
  bytes : List Nat
  deriving DecidableEq, Repr

/-- What a local-bus job serves: a read in an outbound window, a memory write in one, a bridge frame, or `BRG.MA_CMD`. -/
inductive LbFor
  | read (w tag : Nat) | write (w : Nat) | frame | mgmt (write : Bool)
  deriving DecidableEq, Repr

/-- A request being performed on the local bus: the cycles still to come, each a burst of beats; bytes read so far; for an
outbound read the BAR2 offset, the enabled bytes, the length fetched and whether its bytes go into the window's prefetch buffer
(R227); for a write the BAR2 base of its window when it was accepted (R229). -/
structure LbJob where
  who : LbFor
  serial : Nat := 0
  start : Nat := 0
  len : Nat := 0
  enables : List Bool := []
  size : Nat := 0
  cs : Nat := 0
  width : Nat := 0
  cycles : List (List LbBeat) := []
  got : SMap Byte := []
  keep : Bool := false
  base : Nat := 0
  deriving DecidableEq, Repr

/-- An inbound read: its key (R232: address, byte enables and beat count), its completion's status and data, the serial of
the last outbound posted write received before it, the retries it has had, the tag of its PCIe request and the data that has come
while more is to come. -/
structure LbSlot where
  addr : Nat
  be : Nat
  beats : Nat
  done : Option (Nat × List Byte) := none
  after : Nat := 0
  retries : Nat := 0
  tag : Nat := 0
  part : List Byte := []
  deriving DecidableEq, Repr

/-- What the bridge keeps beside its registers. -/
structure Brg where
  jobs : List LbJob := []
  /-- Requests behind a write that the 2 KiB write buffer has no room for (R228, R233). -/
  held : List LbJob := []
  nextSerial : Nat := 1
  /-- The local master asks for the bus; it owns the bus. -/
  req : Bool := false
  master : Bool := false
  /-- Prefetched bytes per outbound window: BAR2 offset and data (R227). -/
  prefetch : SMap (Nat × List Byte) := []
  /-- Inbound writes that wait for PCIe (R231). -/
  inbuf : List (Nat × List Byte) := []
  /-- The inbound read in progress, and the four delayed transactions. -/
  current : Option LbSlot := none
  slots : SMap (Option LbSlot) := []
  /-- PCIe reads the bridge function has made, from which the tag of the next one comes (Table 9-1). -/
  asked : Nat := 0
  deriving DecidableEq, Repr

/-- What the PCIe side keeps beside its registers. -/
structure Pcie where
  vdp : SMap Vdp := []
  /-- Open frames of the send windows (R222). -/
  open_ : SMap (List Byte) := []
  /-- BAR4_LOG2 in effect (R221). -/
  bar4 : Nat := 28
  /-- Words of configuration space, by 1024 × element + word (R216), and the bus number captured from Type 0 writes. -/
  cfg : SMap Word := []
  bus : Nat := 0
  /-- TLPs from upstream that came through the tunnel with M5 tag 0x28 and wait to be routed (Table 9-2). -/
  inbox : List (List Byte) := []
  /-- Per physical link, the tick of its last TLP, and the start tick and count of a second's correctable errors. -/
  used : SMap Nat := []
  corr : SMap (Nat × Nat) := []
  /-- The tunnel pair that is the upstream side stands. -/
  upTunnel : Bool := false
  deriving DecidableEq, Repr

/-! ### USB (chapter 10) -/

/-- A split request that a translator has forwarded: handle, device address, endpoint, direction IN, microframe counter of
the start-split, and what is known of its result. -/
structure Split where
  handle : Nat
  dev : Nat
  ep : Nat
  isIn : Bool
  uframe : Nat := 0
  result : Option (Nat × List Byte) := none
  expired : Bool := false
  deriving DecidableEq, Repr

/-- A remote transaction translator (R249): 2 non-periodic buffers, 16 periodic entries, and splits answered with ERR. -/
structure Tt where
  np : List Split := []
  per : List Split := []
  err : List (Nat × Nat × Bool) := []
  nextHandle : Nat := 1
  /-- wPortStatus as the dock last reported it. -/
  wStatus : Nat := 0
  /-- Stop_TT holds it until Reset_TT (R236). -/
  stopped : Bool := false
  deriving DecidableEq, Repr

/-- What the USB adapter keeps beside its registers. -/
structure Usb where
  /-- UP_SRC in effect of each hub (R239). -/
  up2 : Nat := 7
  up3 : Nat := 7
  /-- The D+ pull-up is connected. -/
  pullup : Bool := false
  /-- SuperSpeed receiver detection is enabled upstream (R240). -/
  rxDetect : Bool := false
  /-- State of port 8 (Table 10-4), and what the host has set in the USB 3.2 hub: its address, its depth, and the sequence number of
  its status endpoint. -/
  port8 : Nat := 0
  addr3 : Nat := 0
  depth : Nat := 0
  seq3 : Nat := 0
  /-- PORT_POWER of DS5–DS7 and with it their PWR_EN pins, by port number. -/
  power : SMap Bool := []
  /-- Change bits per USB 2.0 hub port, as wPortChange numbers them. -/
  change : SMap Nat := []
  change3 : SMap Nat := []
  /-- U1 and U2 timeouts per USB 3 port. -/
  u1 : SMap Nat := []
  u2 : SMap Nat := []
  /-- Last LINK_STATE of the far hub per M8 tag, plus one. -/
  far : SMap Nat := []
  tt : SMap Tt := []
  hubWake : Bool := false
  devWake : Bool := false
  /-- Halts of the status endpoints of the USB 2.0 and the USB 3.2 hub (R251). -/
  halt2 : Bool := false
  halt3 : Bool := false
  /-- Device function: toggles by endpoint, the REG_WRITE held for its status stage, whether its zero-length packet has been sent, and
  whether the last write has been applied in a status stage that may still repeat (R255). -/
  toggle : SMap Bool := []
  held : Option (Nat × Word) := none
  zlpSent : Bool := false
  applied : Bool := false
  alt1 : Bool := false
  ep2 : List Record := []
  ep1Last : List Byte := []
  /-- The K drive of R256 under way: its cause, and whether K was already present. -/
  driving : Option (Nat × Bool) := none
  deriving DecidableEq, Repr

/-! ### Security (chapter 17) -/

/-- A key slot (R395, Table 17-6). -/
structure Slot where
  valid : Bool := false
  key : List Byte := []
  dest : Nat := 0
  lcMask : Nat := 0
  master : Nat := 0
  world : Nat := 0
  deriving DecidableEq, Repr

/-- What the chip keeps for one access path (R391, R392); on the management path one for each SRC_HID. -/
structure AuthPath where
  authed : Bool := false
  chal : Option (List Byte) := none
  unlock : Bool := false
  resp : SMap Word := []
  fails : Nat := 0
  lockout : Bool := false
  /-- Tick at which the lockout began. -/
  lockTick : Nat := 0
  deriving DecidableEq, Repr

/-- The antifuse array (Table 17-4): the highest programmed state word, a word whose programming has begun, the sealed CPS
and the update floor. It outlives every reset and power loss. DESIGN CHOICE, log entry 6. -/
structure Fuse where
  lc : Nat := 0
  begun : Option Nat := none
  cps : Option (List Byte) := none
  floor : Nat := 0
  deriving DecidableEq, Repr

/-- What the security block keeps beside its registers. -/
structure Sec where
  slots : SMap Slot := []
  path : SMap AuthPath := []
  deriving DecidableEq, Repr

/-! ### Ethernet and time (chapter 8) -/

/-- A message a MAC has sent or seen that a later one refers to: a two-step Sync's key (R202: the 13 bytes of
sourcePortIdentity, sequenceId and domainNumber), the correction held for its Follow_Up and, at the MAC that is the source of
Plumb, its receive time and correctionField. -/
structure TwoStep where
  key : List Byte
  add : Int
  rx : Option (Nat × Int) := none
  deriving DecidableEq, Repr

/-- What a MAC keeps beside its registers. -/
structure Mac where
  /-- MODE in effect (Table 8-13). -/
  mode : Nat := 0
  /-- RX_FCS_ERR at the last second boundary. -/
  fcsSeen : Nat := 0
  /-- Two-step tables of R202 (origin) and R204 (egress), oldest first. -/
  origin : List TwoStep := []
  egress : List TwoStep := []
  /-- The Pdelay_Req under way: its sequenceId and transmit time. -/
  pdelay : Option (Nat × Nat) := none
  pdelaySeq : Nat := 0
  deriving DecidableEq, Repr

/-- An entry of the forwarding table (R187). -/
structure FwdEntry where
  vid : Nat
  da : Nat
  tset : Nat
  hits : Nat := 0
  skips : Nat := 0
  /-- Its parity was inverted by an injection (R189, R359). -/
  fi : Bool := false
  deriving DecidableEq, Repr

/-- An event-capture pin (R209): its level, its stable level, the candidate's stamp, glitches since its last record, and
those of the present second with the tick at which that second began. -/
structure EvtPin where
  level : Bool := false
  stable : Bool := false
  cand : Option Plumb := none
  glitches : Nat := 0
  secondStart : Nat := 0
  inSecond : Nat := 0
  deriving DecidableEq, Repr

/-- A link time exchange under way (R195): the SEQ of the DREQ, its transmit stamp once it has left, and timeouts in a row. -/
structure Exchange where
  seq : Nat := 0
  waiting : Bool := false
  t1 : Option Nat := none
  timeouts : Nat := 0
  deriving DecidableEq, Repr

/-- What the timebase keeps beside its registers. Times are in 2^−16 ns. -/
structure Time where
  /-- The integrator in 2^−32 ppb, and the part of an increment below 2^−16 ns. -/
  integ : Int := 0
  rem : Int := 0
  /-- `ADJ_CMD` bits that act at the next tick. -/
  adj : Nat := 0
  /-- Consecutive offsets within LOCK_THRESH. -/
  good : Nat := 0
  /-- FREQ_ADJ values set while LOCKED, newest first, with their ticks (R198). -/
  hist : List (Nat × Int) := []
  exch : SMap Exchange := []
  /-- The second boundaries signalled on `PPS_OUT`, as runs, the latest first; and the boundary that the last forward step
  passed (0: none) (R207). Boundaries count from 1. -/
  ppsSent : List (Nat × Nat) := []
  ppsSkip : Nat := 0
  evt : SMap EvtPin := []
  /-- By Plumb crossing (50–57): how far Plumb is ahead of the rim copy, in 2^−16 ns, since a step that could not reach it (R331). -/
  lag : SMap Int := []
  /-- Words of the message port's receive buffer, and the bytes staged for transmission. -/
  msgRx : List Word := []
  msgTx : List Word := []
  deriving DecidableEq, Repr

/-! ### Display and SDRAM (chapter 7, R124–R130) -/

/-- A write channel (R154): line cursor, cell index, the index to be set to 0 at the next accepted cell, cells of the last
accepted line frame (0: none since it was enabled), and i/c of that frame. -/
structure Chan where
  cursor : Nat := 0
  idx : Nat := 0
  zero : Bool := false
  cells : Nat := 0
  step : Option Nat := none
  deriving DecidableEq, Repr

/-- A frame at M9: its tag, the cell index of its SOF, its cell count, its data bytes, and how many times extents had been
fenced when M9 accepted it (R168). -/
structure M9Frame where
  tag : Nat
  idx : Nat
  cells : Nat
  data : List Byte
  epoch : Nat := 0
  deriving DecidableEq, Repr

/-- A fenced extent (R168): layer 0 Ground or 1 Appliqué, buffer address, bytes, FRAME of the latch point that superseded it,
the number of its fencing, and whether the fence has ended while its last fetch runs (R458). -/
structure Fence where
  layer : Nat
  base : Nat
  len : Nat
  releasing : Option Nat := none
  since : Nat := 0
  ended : Bool := false
  deriving DecidableEq, Repr

/-- A BAR4 request (R220): a write's data or a read's length at an offset; what a read meets; how many times extents had been
fenced when it was accepted, and whether it has been counted as held (R168, R169). -/
structure Bar4Req where
  tag : Nat
  off : Nat
  write : Option (List Byte)
  len : Nat := 0
  ecc : DramEcc := .ok
  epoch : Nat := 0
  counted : Bool := false
  deriving DecidableEq, Repr

/-- What the display engine keeps beside its registers. -/
structure Disp where
  ch : SMap Chan := []
  /-- Whole frames that M9 has received and not yet performed. -/
  inbox : List M9Frame := []
  fences : List Fence := []
  /-- How many times extents have been fenced. -/
  epoch : Nat := 0
  /-- Channel frames held by a fence: offset, data and the fencings before their acceptance, per tag (R168, R169). -/
  held : SMap (Option (Nat × List Byte × Nat)) := []
  /-- BAR4 requests held by a fence, oldest first. -/
  bar4 : List Bar4Req := []
  /-- Source 58 has been raised in this frame. -/
  noted : Bool := false
  /-- The committed scanout set that waits, and whether it misses the next latch point (Table 7-5). -/
  waits : Option (List (Nat × Word)) := none
  misses : Bool := false
  /-- Committed outputs that wait for a latch point: DOUT page 0–3 and the control word committed. -/
  outputs : List (Nat × Word) := []
  releases : List (Nat × Nat × Nat) := []
  img : SMap Word := []
  /-- The stale timer (R174): tick of the last restart event, and the stale cause. -/
  lastTick : Nat := 0
  stale : Bool := false
  /-- After a takeover nothing has been written or committed yet: the background alone is shown (R322). -/
  blank : Bool := false
  /-- Tick at which the raster stood at the start of line `latchLine`: the last latch point, or the end of a wait of R171. -/
  latchTick : Nat := 0
  latchLine : Nat := 0
  /-- Tick of the last latch point since the raster started (R166). -/
  latchAt : Option Nat := none
  /-- Line 0 of the frame has been reached (R171). -/
  started : Bool := false
  /-- Complete lines that the line buffers of Ground and Appliqué hold ahead of the scan (R163). -/
  lineBuf : Nat × Nat := (0, 0)
  /-- Tick of the last TE edge, or of the setting of TE_LOCK (R172); a TE edge seen and not yet used, and the raster past
  VSYNC_START on one (R171). -/
  teTick : Nat := 0
  teKept : Bool := false
  tePassed : Bool := false
  /-- HPD and training of Alternate Mode outputs 4–7; outputs that train. -/
  altHpd : SMap Bool := []
  altTrained : SMap Bool := []
  training : List Nat := []
  deriving DecidableEq, Repr

/-- What the SDRAM controller keeps beside its registers: initialisation or external wipe under way, refreshes postponed in
a row, ECC_CORR at the last second boundary, a ZQ short calibration that waits, and the patrol scrub behind its pass. -/
structure Mem where
  initing : Bool := false
  wiping : Bool := false
  postponed : Nat := 0
  eccSeen : Nat := 0
  zqDue : Bool := false
  behind : Bool := false
  /-- In self-refresh (Table 16-3). -/
  selfRefresh : Bool := false
  /-- `MEM.CFG` as the last INIT took it (Table 5-19). -/
  cfg : Nat := 0
  /-- Check bits that an injection inverted, by 64-bit beat of the SDRAM: 1 one bit, 2 more (R359). -/
  fi : SMap Nat := []
  deriving DecidableEq, Repr

/-! ### Modes (chapter 1) -/

/-- A mode request under way (R21): its target, and whether its path was allowed SERVICE by authentication is asked at the
commit point, so the path is kept. -/
structure ModeReq where
  target : Nat
  path : Path
  deriving DecidableEq, Repr

/-- What the mode logic keeps beside its registers: the request under way, the ticks at which the host watchdog last started,
at which the plan was last armed and at which the PCIe upstream last left L0 and L1 (R457), the UPSTREAM of the plan in force
(R28), and the fault source that caused ISLAND. -/
structure Modes where
  req : Option ModeReq := none
  wdogTick : Nat := 0
  armTick : Nat := 0
  pcieLeft : Nat := 0
  upstream : Nat := 0
  source : Option Nat := none
  /-- In SERVICE: the SRC_HIDs that were authenticated when it was entered (Table 18-8). -/
  served : List Nat := []
  deriving DecidableEq, Repr
/-! ### Power states, reset and speed (chapters 16 and 2) -/

/-- How far the wake sequence has come (Table 16-7): waiting for `VREADY`, for the clock detector, for the wipe, or for the end
of a back-off. -/
inductive WakeStep
  | idle | vready | clock | wipe | backoff
  deriving DecidableEq, Repr

/-- What a level change waits for (Table 16-2, R364): `VREADY` after a raise of the voltage, the rim clocks; the rim clocks of a
lowering, its `VREADY`; the restoring `VREADY` of a raise or a lowering, and the rim clocks raised back. -/
inductive LevelStep
  | idle | raiseVolt | raiseRim | lowerRim | lowerVolt | restoreRaise | restoreLower | restoreRim
  /-- The return to the level in force after an external wipe at P3 (R380): the SDRAM's rate, the code, and the code put back. -/
  | wipeRim | wipeVolt | wipeRestore
  deriving DecidableEq, Repr

/-- What the retention banks hold during S2 (Table 16-5). -/
structure Nap where
  regs : SMap Word := []
  act : SMap Word := []
  tun : SMap Tunnel := []
  fwd : SMap (Option FwdEntry) := []
  img : SMap Word := []
  history : List Record := []
  seq : Nat := 0
  alt1 : Bool := false
  port8 : Nat := 0
  words : SMap Word := []
  /-- By bank: the signature that its content gives, its canary word, and the power die's copy of that (R370). -/
  sigs : SMap Word := []
  canary : SMap Word := []
  copies : SMap Word := []
  deriving DecidableEq, Repr

/-- What the power die keeps of power states beside its registers. -/
structure Pwr where
  /-- `VDD_AO` is present. -/
  on : Bool := true
  /-- `RESET_N` is low. -/
  resetLow : Bool := true
  step : WakeStep := .idle
  /-- Code of Table 16-8 that the sequence under way, or the next, serves. -/
  cause : Nat := 1
  /-- Attempts of the present sequence. -/
  attempt : Nat := 0
  /-- A failure waits for the next wake that succeeds (R377). -/
  failed : Bool := false
  /-- Straps as last sampled. -/
  straps : Nat := 0
  /-- Step of the sleep entry under way (Table 16-4), 0 for none, and its target. -/
  entry : Nat := 0
  target : Nat := 0
  /-- The PCIe links that the entry under way took to L2 (R367). -/
  l2 : List Nat := []
  nap : Option Nap := none
  /-- RB7: the host's words, by word address. -/
  words : SMap Word := []
  level : LevelStep := .idle
  /-- The life-cycle state before the transition that a reset of kind 7 completes, and whether it was cut off (R384, R386). -/
  oldLc : Option (Nat × Bool) := none
  /-- S1 has been left, and S1_AUTO enters it again once idle (R369). -/
  again : Bool := false
  /-- Raises of a start that wait for their turn behind the marker (R371). -/
  boot : List Pulse := []
  deriving DecidableEq, Repr

/-- What the speed gauge keeps beside its registers: consecutive samples within the recovery margin (R41). -/
structure Spd where
  good : Nat := 0
  deriving DecidableEq, Repr

/-- A register write held for a page whose clock has stopped (R338). -/
structure HeldWrite where
  path : Path
  addr : Nat
  value : Word
  deriving DecidableEq, Repr

/-! ### Type-C and the power path (chapters 11 and 12) -/

/-- A Power Delivery or Type-C message that the chip sends. -/
inductive PdMsg
  | accept | reject | wait | psRdy | notSupported | softReset | hardReset
  /-- Source objects advertised, with their positions; in EPR also those of 8 to 11. -/
  | sourceCaps (epr : Bool) (objects : List (Nat × Word))
  | request (rdo : Word)
  /-- Its own sink objects, and the BIST carrier. -/
  | sinkCaps (objects : List Word) | bistCarrier
  | prSwap | drSwap | vconnSwap | getSourceCap
  | eprEnter (watts : Nat) | eprAck | eprSucceeded | eprFailed | eprKeepAlive | eprKeepAliveAck
  | discoverIdentity (cable : Bool) | discoverSvids | discoverModes (svid : Nat)
  | enterMode (svid position : Nat) | exitMode (svid : Nat)
  | vdmAck (objects : List Word) | vdmNak
  deriving DecidableEq, Repr

/-- A requested or contracted supply: voltage, current in 10 mA, object position, EPR, and PPS or AVS. -/
structure TcReq where
  mv : Nat
  cur : Nat
  pos : Nat
  epr : Bool := false
  apdo : Bool := false
  deriving DecidableEq, Repr

/-- How far a PR_Swap has come (R266): as old source before and after its switch opened, or waiting for the new source;
as old sink waiting for the old source's PS_RDY, or to close its own switch. -/
inductive Prs
  | idle | asked | sourceOn | sourceOff | awaitSource | awaitOff | closing
  deriving DecidableEq, Repr

/-- How far mode entry has come (R268). -/
inductive TcEntry
  | idle | identity | svids | veserModes | dpModes | enter (mux : Nat)
  deriving DecidableEq, Repr

/-- What a port keeps beside its TC registers. -/
structure Tc where
  /-- ROLE and TRY in effect (R258). -/
  role : Nat := 2
  tryRole : Nat := 0
  /-- An unattached dual-role port presents Rp. -/
  presentSrc : Bool := false
  /-- Attached as source, and so as DFP. -/
  attachSrc : Bool := false
  /-- VCONN source. -/
  vconn : Bool := false
  /-- The switch is to be closed once R265 allows. -/
  wantClose : Bool := false
  /-- An accepted request not yet in force. -/
  req : Option TcReq := none
  contract : Option TcReq := none
  /-- Discovery has been started after the first contract. -/
  discovered : Bool := false
  /-- The code that a transition moves VSET_CODE to. -/
  target : Nat := 0
  prs : Prs := .idle
  /-- VCONN is turned off at the partner's PS_RDY. -/
  vcsWait : Bool := false
  /-- TC.CMD operation under way, 0 for none. -/
  op : Nat := 0
  entry : TcEntry := .idle
  /-- RESULT that a refusal on the way leaves, 0 for none. -/
  refused : Nat := 0
  usbCap : Bool := false
  veserOk : Bool := false
  /-- Mux code of the DisplayPort mode that the sink offers, 0 for none. -/
  dpCode : Nat := 0
  dpListed : Bool := false
  /-- The e-marker has been asked, and has answered or needs no answer. -/
  cableAsked : Bool := false
  /-- The e-marker has been asked and has not answered (R259). -/
  asking : Bool := false
  /-- BIST Test Data holds the port's protocol until a hard reset or a detach (R260). -/
  bist : Bool := false
  capsSent : Bool := false
  /-- EPR was asked for as sink. -/
  eprAsked : Bool := false
  deriving DecidableEq, Repr

/-- What the power path keeps beside its registers (chapter 12). -/
structure Pp where
  /-- AO evaluations since power-on, one a microsecond. -/
  micros : Nat := 0
  /-- `HS_G` is driven; evaluations until it is pulled down, 0 for none. -/
  gate : Bool := false
  gateDelay : Nat := 0
  /-- The ramp is complete. -/
  ramped : Bool := false
  /-- Fault timer, in 1/8 µs. -/
  timer : Nat := 0
  /-- Trips without 1 s of ON between them, and evaluations of ON since the last. -/
  trips : Nat := 0
  onTime : Nat := 0
  /-- The trip whose hold runs was thermal; the hold has ended and only the temperature is awaited. -/
  thermal : Bool := false
  cooling : Bool := false
  /-- Values of the last evaluation: feeds, COM_S and HS_SRC in mV, the current in mA. -/
  feedA : Nat := 0
  feedB : Nat := 0
  com : Nat := 0
  src : Nat := 0
  cur : Int := 0
  /-- Sums of the four voltages in the present 100 µs, and how many. -/
  sums : List Nat := [0, 0, 0, 0]
  count : Nat := 0
  /-- COM_S × current of the last 1 ms, newest first, in µW. -/
  powers : List Int := []
  /-- Sum of (COM_S − HS_SRC) × current since the last temperature sample, in µW, and how many. -/
  loss : Int := 0
  lossCount : Nat := 0
  /-- The model's ΔT in nK, and the FET temperature in 0.1 °C. -/
  deltaT : Int := 0
  temp : Int := 0
  deriving DecidableEq, Repr

/-- What the SPI slave keeps (R428): ERR, and the bytes of a word that is being written. -/
structure Spi where
  err : Bool := false
  part : List Byte := []
  deriving DecidableEq, Repr

/-- What the temperature monitor keeps (R431, R435): source 124 raised and not yet re-armed for the hub and the power die, and
source 125. DESIGN CHOICE, log entry 27. -/
structure Sense where
  warnHub : Bool := false
  warnPower : Bool := false
  hot : Bool := false
  deriving DecidableEq, Repr

/-! ### Outputs -/

/-- What a command makes the chip send, drive or answer; kept in `State.out` until the next command. -/
inductive Output
  /-- Data a read answers. -/
  | readData (v : Word)
  /-- A frame leaves the Truss to the adapter of a local mortise under its tag; aborted natively where `abt` (R110). -/
  | deliver (m tag : Nat) (data : List Byte) (abt : Bool)
  /-- A link block goes out on a link. -/
  | linkBlock (n lseq btype : Nat) (bytes : List Byte)
  /-- A lane of a link sends a codeword of 544 symbols (R44). -/
  | codeword (n lane : Nat) (symbols : List Nat)
  /-- This end drives the exit pattern of LOWPOWER on its transmit lanes (R53). -/
  | lpExit (n : Nat)
  /-- One transmitted bit of a lane is inverted (R75): lane page and lane. -/
  | invertBit (page lane : Nat)
  /-- A sideband frame goes out: preamble, type, length, payload and CRC-8 (R65). -/
  | sideband (n : Nat) (frame : List Byte)
  /-- A cell accepted from a link block. -/
  | cell (n : Nat) (bytes : List Byte)
  /-- An MSI-X message: its vector and its memory write (R356). -/
  | msix (vector : Nat) (write : List Byte)
  /-- A PCIe completion to a requester: its tag, its status (0 SC, 1 UR, 4 CA), its data and the EP bit. -/
  | completion (tag status : Nat) (data : List Byte) (poisoned : Bool)
  /-- A PCIe request the chip issues as requester: requester ID, tag, write, address, length and data. -/
  | pcieRequest (requester tag : Nat) (write : Bool) (addr len : Nat) (data : List Byte)
  /-- The answer to a local master's beat: 0 data and `LB_RDY`, 1 `LB_RETRY_N`, 2 `LB_ERR_N`. -/
  | lbAnswer (answer : Nat) (data : List Byte)
  /-- A USB handshake or data packet of the chip: its PID and data. -/
  | usb (pid : Nat) (data : List Byte)
  /-- A MAC sends a frame. -/
  | macFrame (k : Nat) (data : List Byte)
  /-- A MAC sends a Pdelay_Req, or a one-step Pdelay_Resp with its turnaround time and the requester's port identity (R201).
  `port`: its own port identity, clockIdentity and portNumber. -/
  | pdelayReq (k seq : Nat) (port : List Byte)
  | pdelayResp (k seq turnaround : Nat) (port requester : List Byte)
  /-- `PPS_OUT` rises for a number of ms. -/
  | ppsOut (width : Nat)
  /-- A packet for a USB 3 port of the hub. -/
  | usb3 (port : Nat) (data : List Byte)
  /-- The rest of a raster line is black on every output (R164). -/
  | blackLine (line : Nat)
  /-- A DSI output starts the transfer of a frame to its command-mode panel (R171). -/
  | writeMemoryStart (output : Nat)
  /-- A frame begins with the Banner shown under its cause, and with the glyphs of its time field, if any (R175, R176). -/
  | banner (cause : Nat) (glyphs : List Nat)
  /-- An AUX or DCS transaction of an output: its command word and data (R160). -/
  | aux (output : Nat) (cmd : Word) (data : List Byte)
  /-- A frame goes out on `PAIR_HB_TX` (R306). -/
  | heartbeat (frame : BitVec 24)
  /-- A port sends a PD message. -/
  | pd (port : Nat) (m : PdMsg)
  deriving DecidableEq, Repr

/-- The state of the TD7760. -/
structure State where
  /-- The commands that wait, first in first out. -/
  pending : List Instr := []
  /-- What the last command made the chip send. -/
  out : List Output := []
  /-- Ticks of the 4 ns time clock since power-on, the model's measure for every "at most once per" rule. -/
  ticks : Nat := 0
  /-- The model's own counter of free values used. -/
  freeIdx : Nat := 0
  regs : SMap Word := []
  act : SMap Word := []
  loft : SMap Queue := []
  tun : SMap Tunnel := []
  inq : SMap (List InFrame) := []
  /-- SPILLING queues that ask for a fill, oldest request first (R105). -/
  fillq : List Nat := []
  /-- Mortises whose head item waits (R86, R102). -/
  waiting : List Nat := []
  bobbin : SMap Bobbin := []
  link : SMap Link := []
  cdc : SMap Crossing := []
  flt : Flt := {}
  pair : Pair := {}
  sched : SMap Sched := []
  gate : SMap Gate := []
  /-- Register-access requests waiting at M11, oldest first (R425). -/
  mgmtQ : List (List Byte) := []
  /-- Ticks of the last raise of a rate-limited source, by source and instance. -/
  limit : SMap Nat := []
  plumb : Plumb := {}
  pcie : Pcie := {}
  brg : Brg := {}
  usb : Usb := {}
  sec : Sec := {}
  fuse : Fuse := {}
  /-- Words written to WO buffer registers, by address, until their command takes them. -/
  buf : SMap Word := []
  mac : SMap Mac := []
  fwd : SMap (Option FwdEntry) := []
  time : Time := {}
  disp : Disp := {}
  /-- Bytes of the SDRAM, by address. -/
  dram : SMap Byte := []
  mem : Mem := {}
  modes : Modes := {}
  pwr : Pwr := {}
  spd : Spd := {}
  tc : SMap Tc := []
  pp : Pp := {}
  /-- High halves of 64-bit counters latched per path and page (R419). -/
  latch : SMap (Option Word) := []
  /-- TAG and reply of the last request executed for each SRC_HID (R426). -/
  mgmtLast : SMap (Option (Nat × List Byte)) := []
  /-- Words staged and received in the mailbox (R427). -/
  mbTx : List Word := []
  mbRx : List Word := []
  spi : Spi := {}
  sense : Sense := {}
  /-- Pages whose clock has stopped (R335, R338). -/
  stopped : List Nat := []
  /-- Writes held per page (R338). -/
  held : SMap (List HeldWrite) := []
  /-- Writes still to be injected, per page whose `FI_CTRL` is armed (R359). -/
  fi : SMap Nat := []
  deriving DecidableEq, Repr

/-- The machine right after power-on (R8, R436): every register at its reset value, everything else empty.
DESIGN CHOICE, log entries 3, 4, 6, 8. -/
def State.reset : State := {}

/-- Why a command stops. -/
inductive Fault
  /-- Kept for a command the chip cannot take; no meaning of this model raises it (safe). -/
  | none
  deriving DecidableEq, Repr

/-- Why a command has no meaning. -/
inductive Refusal
  /-- Raised by an arm of the dispatch for a command not modelled (safe). -/
  | notModelled (mnemonic : String)
  deriving DecidableEq, Repr

end Sys2Proof.Machine
end

