-- ==== Sys2Proof/Machine/Ops.lean ====
section
/-!
DEFINITION. The named operations over registers, counters, crossings and faults that every meaning uses.
-/
namespace Sys2Proof.Machine

/-- The type of a meaning's answer. -/
abbrev Res := Host.Outcome State Fault Refusal

/-! ### Registers -/

/-- The value a register holds. -/
def reg (s : State) (k : Nat) : Word := smGet regReset s.regs k

/-- Sets a register. -/
def setReg (k : Nat) (v : Word) (s : State) : State := { s with regs := smSet regReset s.regs k v }

/-- The committed value of an RWS register (R7, R417). -/
def actReg (s : State) (k : Nat) : Word := smGet regReset s.act k

/-- Sets the committed value of an RWS register. -/
def setAct (k : Nat) (v : Word) (s : State) : State := { s with act := smSet regReset s.act k v }

/-- A field of a register: its address, its lowest bit and its width. -/
structure Fld where
  key : Nat
  lo : Nat := 0
  w : Nat := 1
  deriving DecidableEq, Repr

/-- The value of a field. -/
def getF (s : State) (f : Fld) : Nat := bits (reg s f.key).toNat f.lo f.w

/-- The committed value of a field. -/
def getA (s : State) (f : Fld) : Nat := bits (actReg s f.key).toNat f.lo f.w

/-- Whether a one-bit field is 1. -/
def bit (s : State) (f : Fld) : Bool := getF s f == 1

/-- Sets a field, leaving the register's other bits. -/
def setF (f : Fld) (v : Nat) (s : State) : State :=
  setReg f.key (BitVec.ofNat 32 (putBits (reg s f.key).toNat f.lo f.w v)) s

/-- Bit `i` of a run of 32-bit registers, as a field. -/
def bitIn (base i : Nat) : Fld := ⟨base + i / 32 * 4, i % 32, 1⟩

/-- Adds to a 32-bit counter, wrapping (R419). -/
def addCnt (k n : Nat) (s : State) : State := setReg k (reg s k + BitVec.ofNat 32 n) s

/-- A 32-bit counter rises by one. -/
def bump (k : Nat) (s : State) : State := addCnt k 1 s

/-- A 64-bit counter, low word first (R419). -/
def cnt64 (s : State) (k : Nat) : Nat := (reg s k).toNat + (reg s (k + 4)).toNat * 2 ^ 32

/-- Adds to a 64-bit counter, wrapping. -/
def addCnt64 (k n : Nat) (s : State) : State :=
  let v := cnt64 s k + n
  setReg (k + 4) (BitVec.ofNat 32 (v / 2 ^ 32)) (setReg k (BitVec.ofNat 32 v) s)

/-- A 64-bit counter rises by one. -/
def bump64 (k : Nat) (s : State) : State := addCnt64 k 1 s

/-- Adds to a counter field that saturates. -/
def satAdd (f : Fld) (n : Nat) (s : State) : State := setF f (min (2 ^ f.w - 1) (getF s f + n)) s

/-- Copies the staged value of an RWS register into force. -/
def commitReg (k : Nat) (s : State) : State := setAct k (reg s k) s

/-- Copies a list of RWS registers into force. -/
def commitRegs (ks : List Nat) (s : State) : State := ks.foldl (fun s k => commitReg k s) s

/-! ### Small maps of numbers -/

def dNat : Nat → Nat := fun _ => 0
def natGet (m : SMap Nat) (k : Nat) : Nat := smGet dNat m k
def natSet (m : SMap Nat) (k v : Nat) : SMap Nat := smSet dNat m k v

/-! ### Control -/

/-- Conditional effect. -/
def when (c : Bool) (f : State → State) (s : State) : State := if c then f s else s

/-- Applies an effect for each element of a list. -/
def forAll {α : Type} (l : List α) (f : α → State → State) (s : State) : State := l.foldl (fun s a => f a s) s

/-- Sends or answers something. -/
def emit (o : Output) (s : State) : State := { s with out := s.out ++ [o] }

/-- Forgets what the command before sent. -/
def clearOut (s : State) : State := { s with out := [] }

/-- The hub die runs: RUN or S1, outside the wake sequence and with `RESET_N` high (Table 18-8, R374). -/
def hubRuns (s : State) : Bool :=
  getF s ⟨R.AO_STATUS, 0, 2⟩ ≤ 1 && !bit s ⟨R.AO_STATUS, 3, 1⟩ && !s.pwr.resetLow && s.pwr.on

/-- What the antifuse words hold after a command: programming only adds to them, and nothing clears them
(R386, R389, R401). DESIGN CHOICE, log entry 6. -/
def fuseJoin (a b : Fuse) : Fuse :=
  { lc := max a.lc b.lc, floor := max a.floor b.floor, cps := a.cps.or b.cps, begun := b.begun }

/-- What no command changes, whatever else it does: the commands that wait, and what the antifuse already holds.
DESIGN CHOICE, log entry 6. -/
def kept (s t : State) : State := { t with pending := s.pending, fuse := fuseJoin s.fuse t.fuse }

/-- A command of the hub die: without it the command finds nothing to act on. DESIGN CHOICE, log entry 3. -/
def hub (s : State) (f : State → State) : Res :=
  .next (if hubRuns s then kept s (f (clearOut s)) else clearOut s)

/-- A command of the power die, which runs in every state of the hub die while `VDD_AO` is present (R13).
DESIGN CHOICE, log entry 3. -/
def power (s : State) (f : State → State) : Res :=
  .next (if s.pwr.on then kept s (f (clearOut s)) else clearOut s)

/-- A value the spec leaves open, and the counter of them advanced. DESIGN CHOICE, log entry 4. -/
def free (s : State) : BitVec 128 := Config.freeWord s.freeIdx

/-- The next free value is a fresh one. DESIGN CHOICE, log entry 4. -/
def nextFree (s : State) : State := { s with freeIdx := s.freeIdx + 1 }

/-- A quotient as the hardware holds it: where it is not whole, one of its two whole neighbours, by a free value; by 0 any
number. DEDUCED, log entry 51. DESIGN CHOICE, log entries 61, 66. -/
def quot (a b : Nat) (s : State) : Nat × State :=
  if b = 0 then ((free s).toNat, nextFree s)
  else if a % b = 0 then (a / b, s) else (a / b + (free s).toNat % 2, nextFree s)

/-- `quot` of a signed number. DEDUCED, log entry 51. DESIGN CHOICE, log entry 66. -/
def quotInt (a : Int) (b : Nat) (s : State) : Int × State :=
  if b = 0 then (((free s).toNat : Int), nextFree s)
  else if a % (b : Int) = 0 then (a / (b : Int), s) else (a / (b : Int) + ((free s).toNat % 2 : Nat), nextFree s)

/-- What an armed injection does to the next `writes` writes of checker `chk` of a page: of how many it inverts check bits, and how a
SECDED checker meets each later: 0 sound, 1 one bit, 2 two bits or more (R359). DESIGN CHOICE, log entry 71. -/
def inversion (s : State) (page chk writes : Nat) : Nat × Nat :=
  let key := page * 0x1000 + 0x040
  if bit s ⟨key, 0, 1⟩ && getF s ⟨key, 1, 3⟩ == chk then (min (natGet s.fi page) writes, min 2 (popcount 8 (getF s ⟨key, 8, 8⟩)))
  else (0, 0)

/-- The words of `writes` next writes that an injection spoils in one bit, and in more. -/
def spoiled (s : State) (page chk writes : Nat) : Nat × Nat :=
  let (k, c) := inversion s page chk writes
  (if c = 1 then k else 0, if c = 2 then k else 0)

/-- The next write of a parity checker, which has check bit 0 only, or of the pointers' second copy (any bit of 8) is spoiled. -/
def spoils (s : State) (page chk : Nat) (mask : Nat) : Bool :=
  (inversion s page chk 1).1 != 0 && getF s ⟨page * 0x1000 + 0x040, 8, 8⟩ &&& mask != 0

/-- `writes` writes to the storage of checker `chk` of a page: an armed injection inverts their check bits, and ends with the
N-th (R359). DESIGN CHOICE, log entry 71. -/
def injected (page chk writes : Nat) (s : State) : State :=
  let key := page * 0x1000 + 0x040
  if bit s ⟨key, 0, 1⟩ && getF s ⟨key, 1, 3⟩ == chk then
    let left := natGet s.fi page
    let k := min left writes
    let s := addCnt R.FLT_FI_INJECTIONS k { s with fi := natSet s.fi page (left - k) }
    if left ≤ writes then setF ⟨key, 0, 1⟩ 0 s else s
  else s

/-! ### Modes (Table 1-5) -/

abbrev mCold : Nat := 0
abbrev mSolo : Nat := 1
abbrev mActive : Nat := 2
abbrev mStandby : Nat := 3
abbrev mIsland : Nat := 4
abbrev mService : Nat := 5

/-- `DEV.MODE.CUR` (Table 1-6). -/
abbrev fCur : Fld := ⟨R.DEV_MODE, 0, 3⟩
abbrev fPrev : Fld := ⟨R.DEV_MODE, 4, 3⟩
abbrev fIslCause : Fld := ⟨R.DEV_MODE, 8, 2⟩
abbrev fCauseClear : Fld := ⟨R.DEV_MODE, 10, 1⟩
abbrev fReqBusy : Fld := ⟨R.DEV_MODE, 12, 1⟩
abbrev fReqResult : Fld := ⟨R.DEV_MODE, 16, 3⟩
abbrev fTransCount : Fld := ⟨R.DEV_MODE, 24, 8⟩

/-- The mode. -/
def mode (s : State) : Nat := getF s fCur

/-- The mode is PAIR-ACTIVE, or ISLAND entered from it (R29). -/
def holdsRole (s : State) : Bool := mode s == mActive || (mode s == mIsland && getF s fPrev == mActive)

/-! ### Maps of structures -/

def dQueue : Nat → Queue := fun _ => {}
def dTun : Nat → Tunnel := fun _ => {}
def dLink : Nat → Link := fun _ => {}
def dCross : Nat → Crossing := fun _ => {}
def dBobbin : Nat → Bobbin := fun _ => {}
def dSched : Nat → Sched := fun _ => {}
def dGate : Nat → Gate := fun _ => {}
def dInt : Nat → Int := fun _ => 0
def dCkpt : Nat → Ckpt := fun _ => {}

def qGet (s : State) (q : Nat) : Queue := smGet dQueue s.loft q
def qSet (q : Nat) (v : Queue) (s : State) : State := { s with loft := smSet dQueue s.loft q v }
def tGet (s : State) (i : Nat) : Tunnel := smGet dTun s.tun i
def tSet (i : Nat) (v : Tunnel) (s : State) : State := { s with tun := smSet dTun s.tun i v }
def lGet (s : State) (n : Nat) : Link := smGet dLink s.link n
def lSet (n : Nat) (v : Link) (s : State) : State := { s with link := smSet dLink s.link n v }
def xGet (s : State) (x : Nat) : Crossing := smGet dCross s.cdc x
def xSet (x : Nat) (v : Crossing) (s : State) : State := { s with cdc := smSet dCross s.cdc x v }
def bqGet (s : State) (b : Nat) : Bobbin := smGet dBobbin s.bobbin b
def bqSet (b : Nat) (v : Bobbin) (s : State) : State := { s with bobbin := smSet dBobbin s.bobbin b v }
def scGet (s : State) (m : Nat) : Sched := smGet dSched s.sched m
def scSet (m : Nat) (v : Sched) (s : State) : State := { s with sched := smSet dSched s.sched m v }
def gGet (s : State) (g : Nat) : Gate := smGet dGate s.gate g
def gSet (g : Nat) (v : Gate) (s : State) : State := { s with gate := smSet dGate s.gate g v }
def inqGet (s : State) (m : Nat) : List InFrame := smGet (fun _ => []) s.inq m
def inqSet (m : Nat) (v : List InFrame) (s : State) : State := { s with inq := smSet (fun _ => []) s.inq m v }

/-! ### Crossings and raises -/

/-- A raise of the CDC block: it reaches the collector without a crossing (R455). DEDUCED, log entry 11. -/
def raiseDirect (src detail : Nat) (s : State) : State :=
  { s with flt := { s.flt with direct := s.flt.direct ++ [⟨src, detail % 65536⟩] } }

/-- A pulse at an event crossing: it takes the in-flight slot, then the pending slot, else it is lost (R326, R327).
DEDUCED, log entry 11. -/
def pulse (x : Nat) (p : Pulse) (s : State) : State :=
  let c := xGet s x
  if c.inFlight.isNone then xSet x { c with inFlight := some p, delivered := false, xfers := c.xfers + 1 } s
  else if c.pending.isNone then xSet x { c with pending := some p } s
  else
    let s := bump R.CDC_OVERRUN_EVENTS (xSet x { c with overrun := true, lost := min 255 (c.lost + 1) } s)
    if c.overrun then s else raiseDirect 92 x s

/-- A word or a value passes a stream or bundled-data crossing: XFERS of Table 14-6, and a stall ends (R336).
DEDUCED, log entry 70. -/
def xfer (x : Nat) (s : State) : State :=
  let c := xGet s x
  xSet x { c with xfers := c.xfers + 1, stalled := false, inFlight := none } s

/-- The pages of the clocked rim of mortise `m`, whose clock they share; the register fabric (M11) has none of its own. -/
def rimPages (m : Nat) : List Nat :=
  if m ≤ 4 then [0x10 + m]
  else match m with
    | 5 => [0x80] | 6 => [0x81] | 7 => [0x78] | 8 => [0x88, 0x89] | 9 | 10 => [0x53] | 12 => [0x06] | 13 => [0x90]
    | _ => []

/-- The clock of the rim of mortise `m` runs (R335). -/
def rimRuns (s : State) (m : Nat) : Bool := (rimPages m).all (fun p => !s.stopped.contains p)

/-- The pages of the far side of crossing `x` (Table 14-1). -/
def xPages (x : Nat) : List Nat :=
  if x < 32 then rimPages (x % 16)
  else if x = 48 ∨ x = 49 ∨ x = 57 then [0x70]
  else if 51 ≤ x ∧ x ≤ 55 then rimPages (x - 51)
  else if x = 56 then rimPages 7
  else []

/-- Crossing `x` carries now: it does not resynchronise (R339), and the clock of its far side runs (R335).
DEDUCED, log entry 70. -/
def carries (s : State) (x : Nat) : Bool := !(xGet s x).resyncing && (xPages x).all (fun p => !s.stopped.contains p)

/-- A bundled-data crossing carries a value, or holds its request until the far side can take it (R329, R335). -/
def carry (x : Nat) (s : State) : State :=
  if carries s x then xfer x s else xSet x { xGet s x with inFlight := some ⟨0, 0⟩ } s

/-- Plumb crossing `x` realigns its rim copy with a fresh sample, as soon as it can carry one (R331). -/
def realign (x : Nat) (s : State) : State :=
  let s := if carries s x then { s with time := { s.time with lag := smSet dInt s.time.lag x 0 } } else s
  carry x s

/-- A block raises a source with its detail: sources 92–99 go straight to the collector, every other one crosses by its
fault group (Table 14-1, R328). With the hub die not running there is no collector to reach.
DEDUCED, log entries 10, 11. DESIGN CHOICE, log entry 28. -/
def raise (src detail : Nat) (s : State) : State :=
  if hubRuns s then
    if 92 ≤ src ∧ src ≤ 99 then raiseDirect src detail s else pulse (32 + src / 8) ⟨src, detail % 65536⟩ s
  else s

/-- A raise whose rule names no detail: the detail is a value the spec leaves open. DESIGN CHOICE, log entry 9. -/
def raiseN (src : Nat) (s : State) : State := raise src ((free s).toNat % 65536) (nextFree s)

/-- Event `i` of a page: EVT_RAW always, EVT_PEND while unmasked (R416). -/
def pageEvent (page i : Nat) (s : State) : State :=
  let s := setF ⟨page * 0x1000 + 0x010, i, 1⟩ 1 s
  if bit s ⟨page * 0x1000 + 0x014, i, 1⟩ then s else setF ⟨page * 0x1000 + 0x018, i, 1⟩ 1 s

/-- Whether a rule of "at most once per `ticks`" lets key `k` act now, and the note that it did.
DESIGN CHOICE, log entry 12. -/
def limited (k period : Nat) (f : State → State) (s : State) : State :=
  let last := natGet s.limit k
  if last = 0 ∨ last - 1 + period ≤ s.ticks then f { s with limit := natSet s.limit k (s.ticks + 1) } else s

/-- 10 µs in ticks of 4 ns. -/
abbrev tenUs : Nat := 2500

/-! ### The journal (R299–R304) -/

abbrev fSync : Fld := ⟨R.PAIR_STATUS, 2, 2⟩
abbrev fJfill : Fld := ⟨R.PAIR_STATUS, 16, 12⟩

/-- The 32 bytes of a journal record but for its CRC (R301). -/
def jrecBytes (r : JRec) : List Byte :=
  [BitVec.ofNat 8 r.type, if r.last then 1 else 0, 0, 0] ++ bytesBE 4 r.jseq ++ bytesBE 4 r.epoch ++ padTo 16 r.body

/-- A link-control cell waits to be sent on a link. -/
def sendCtl (n : Nat) (payload : List Byte) (s : State) : State :=
  let l := lGet s n
  lSet n { l with ctlOut := l.ctlOut ++ [payload] } s

/-! ### Severities (R345, R350) -/

abbrev fSev (src : Nat) : Fld := ⟨R.FLT_SRC src, 0, 3⟩
abbrev fEscSev (src : Nat) : Fld := ⟨R.FLT_SRC src, 4, 3⟩
abbrev fEsc (src : Nat) : Fld := bitIn (R.FLT_ESC 0) src

/-- The severity at which a raise is handled. -/
def severityOf (src : Nat) (s : State) : Nat :=
  if bit s (fEsc src) then max (getF s (fSev src)) (getF s (fEscSev src)) else getF s (fSev src)

end Sys2Proof.Machine
end

