-- ==== Sys2Proof/Machine/Journal.lean ====
section
/-!
DEFINITION. The journal at the active member of a pair (13_mirrored_pair.md R299–R304) and the notice of an
own register change on the journal.
-/
namespace Sys2Proof.Machine

/-- The Scarf link's link-control cell of a journal record (Table 13-4, R301). -/
def jrecCell (r : JRec) : List Byte :=
  let b := jrecBytes r
  [0x20] ++ b ++ bytesBE 4 (crc32c b).toNat

/-- The Scarf link is UP. -/
def scarfIsUp (s : State) : Bool := getF s ⟨R.LINK_STATUS 4, 0, 3⟩ == 4

/-- RESYNC_REQ is sent: by the standby to ask for a snapshot, and by the active to tell the standby that records have been lost,
so that SYNC reads the same at both (R303). DESIGN CHOICE, log entry 68. -/
def sendResyncReq (s : State) : State := sendCtl 4 ([0x23] ++ List.replicate 55 0) s

/-- The ring is full and a further record is due (R304). -/
def journalOverflow (s : State) : State :=
  let s := { s with pair := { s.pair with ring := [], groupEnd := none, group := [] } }
  let s := when (scarfIsUp s) sendResyncReq s
  raise 110 1 (bump R.PAIR_JOURNAL_OVERFLOWS (setF fJfill 0 (setF fSync 3 s)))

/-- A record goes out on the Scarf link. -/
def sendRecord (r : JRec) (s : State) : State :=
  sendCtl 4 (jrecCell r) (bump64 R.PAIR_JOURNAL_RECORDS (setReg R.PAIR_JSEQ_TX (BitVec.ofNat 32 r.jseq) s))

/-- A number that has been reached, in 32-bit serial order. -/
def reached (target now : Nat) : Bool := decide ((now + 2 ^ 32 - target % 2 ^ 32) % 2 ^ 32 < 2 ^ 31)

/-- A record is due: the active numbers it, keeps it in the ring and sends it, while its peer is SYNCED or being
resynchronised; it follows a snapshot group that is still being sent (R305). With the ring full R304 applies. -/
def journal (type : Nat) (body : List Byte) (last : Bool) (s : State) : State :=
  if holdsRole s ∧ (getF s fSync = 1 ∨ getF s fSync = 2) then
    if 2048 ≤ s.pair.ring.length then journalOverflow s
    else
      let r : JRec := { type := type, last := last, jseq := s.pair.nextJ % 2 ^ 32,
                        epoch := (reg s R.PAIR_EPOCH).toNat, body := padTo 16 body }
      let s := { s with pair := { s.pair with ring := s.pair.ring ++ [r], nextJ := s.pair.nextJ + 1 } }
      let s := setF fJfill s.pair.ring.length s
      if s.pair.group.isEmpty then sendRecord r s else s
  else s

/-- Records of a snapshot group that may be on their way unacknowledged. DESIGN CHOICE, log entry 69. -/
abbrev groupWindow : Nat := 16

/-- The snapshot group goes on as far as JACK paces it (R305); behind its last record go those made meanwhile. -/
def pumpGroup (s : State) : State :=
  match s.pair.group with
  | [] => s
  | r :: rs =>
    let onWay := (r.jseq + 2 ^ 32 - 1 - s.pair.groupAck) % 2 ^ 32
    let n := groupWindow - onWay
    let s := forAll ((r :: rs).take n) sendRecord { s with pair := { s.pair with group := (r :: rs).drop n } }
    if s.pair.group.isEmpty then
      forAll (s.pair.ring.filter (fun q => match s.pair.groupEnd with | some e => reached e q.jseq | none => true)) sendRecord s
    else s

/-- The selector register of a windowed register's page, and the value that selects copy `sel`. -/
def selectorOf (addr : Nat) : Option Nat :=
  match pageKindOf (addr / 0x1000) with
  | none => none
  | some k =>
    match findRow k (addr % 0x1000) with
    | none => none
    | some r =>
      match r.sel with
      | .tun => some R.TUN_IDX
      | .svc => some (addr / 0x1000 * 0x1000 + 0x140)
      | .gate => if addr / 0x1000 = 0x67 then some 0x67180 else none
      | .bq => some R.SWC_BQ_SEL
      | .q => some R.BUF_QSEL
      | .lane => some (addr / 0x1000 * 0x1000 + 0x100)
      | .none => none

/-- One REG record (Table 13-3): address and value. -/
def journalWord (addr : Nat) (v : Word) (s : State) : State :=
  journal 0x01 (bytesBE 4 addr ++ bytesBE 4 v.toNat) false s

/-- A page is mirrored to the standby (Table 13-2, R360). -/
def mirroredPage (page : Nat) : Bool :=
  match pageKindOf page with
  | some .flt | some .pair | some .key | some .sec | some .rst | some .pm | some .spd | some .ao | some .lane | none => false
  | some _ => page != 0x14

/-- The REG record of a register that was written. The copy of a windowed one is that which the mirrored selector names; that of another
copy, as a commit has them, goes between records that select it and select the old one again. DESIGN CHOICE, log entry 68. -/
def journalReg (key : Nat) (v : Word) (s : State) : State :=
  let addr := key % 0x1000000
  let copy := BitVec.ofNat 32 (key / 0x1000000)
  if mirroredPage (addr / 0x1000) then
    match selectorOf addr with
    | none => journalWord addr v s
    | some a =>
      if reg s a = copy then journalWord addr v s
      else journalWord a (reg s a) (journalWord addr v (journalWord a copy s))
  else s

/-- The REG and COMMIT records of a page's successful commit: every RWS register whose committed value changed. -/
def journalCommit (page : Nat) (changed : List (Nat × Word)) (s : State) : State :=
  if mirroredPage page then journal 0x02 (bytesBE 2 page) true (forAll changed (fun p => journalReg p.1 p.2) s) else s

/-- A mode record (Table 13-3). -/
def journalMode (s : State) : State :=
  journal 0x07 [BitVec.ofNat 8 (mode s), BitVec.ofNat 8 (getF s fIslCause)] false s

end Sys2Proof.Machine
end

