-- ==== Sys2Proof/Machine/PcieCfg.lean ====
section
/-!
DEFINITION. The configuration space of the elements of a hub's switch (09_pcie_and_dowel_bridge.md R214, R216, R219, Table 9-2).
What a register of it does is the PCI Express Base Specification 4.0's, which Table 9-1 names; where a capability stands is this
model's. PRESUMED, log entry 96.
-/
namespace Sys2Proof.Machine

/-! ### Elements (Table 9-2) -/

/-- The upstream port, the management endpoint, the VDPs and the bridge function behind VDP5. -/
abbrev cUp : Nat := 0
abbrev cMgmt : Nat := 1
abbrev cVdp (v : Nat) : Nat := 2 + v
abbrev cBridge : Nat := 8

/-- A double word of an element's configuration space: its value after reset, and the bits that a write sets or clears. -/
structure CfgRow where
  dw : Nat
  reset : Nat := 0
  rw : Nat := 0
  w1c : Nat := 0
  deriving DecidableEq, Repr

/-- The header of a type 1 element: command and status, bus numbers, memory windows, bridge control. `multi`: function 0 of a
device with several functions. -/
def cfgBridgeHeader (multi : Bool) : List CfgRow := [
  { dw := 1, reset := 0x00100000, rw := 0x0547, w1c := 0xF9000000 },
  { dw := 3, reset := if multi then 0x00810000 else 0x00010000, rw := 0xFF },
  { dw := 6, rw := 0x00FFFFFF },
  { dw := 8, rw := 0xFFF0FFF0 },
  { dw := 9, reset := 0x00010001, rw := 0xFFF0FFF0 },
  { dw := 10, rw := 0xFFFFFFFF },
  { dw := 11, rw := 0xFFFFFFFF },
  { dw := 13, reset := 0x40 },
  { dw := 15, rw := 0x004300FF }]

/-- The header of the management endpoint, with BAR0, BAR2 and BAR4 (Table 9-3); BAR4's size masks its own bits. -/
def cfgMgmtHeader : List CfgRow := [
  { dw := 1, reset := 0x00100000, rw := 0x0546, w1c := 0xF9000000 },
  { dw := 3, reset := 0x00800000, rw := 0xFF },
  { dw := 4, rw := 0xFF000000 },
  { dw := 6, reset := 4, rw := 0xF0000000 },
  { dw := 7, rw := 0xFFFFFFFF },
  { dw := 8, reset := 0xC, rw := 0xFFFFFFF0 },
  { dw := 9, rw := 0xFFFFFFFF },
  { dw := 13, reset := 0x40 },
  { dw := 15, rw := 0xFF }]

/-- The header of the bridge function, which has no BAR. -/
def cfgPlainHeader : List CfgRow := [
  { dw := 1, reset := 0x00100000, rw := 0x0546, w1c := 0xF9000000 },
  { dw := 3, rw := 0xFF },
  { dw := 13, reset := 0x40 },
  { dw := 15, rw := 0xFF }]

/-- The PCI Express capability: device, link and slot control and status, device control 2 (where `asks` the completion timeout may
be disabled) and link control 2. `type`: the port type; `next`: the next capability; `slot`: a VDP. -/
def cfgExpress (type next : Nat) (slot asks : Bool) : List CfgRow := [
  { dw := 16, reset := 0x10 + next * 0x100 + 0x20000 + type * 0x100000 + (if slot then 0x1000000 else 0) },
  { dw := 17, reset := 0x8022 },
  { dw := 18, reset := 0x2810, rw := 0x79FF, w1c := 0xF0000 },
  { dw := 19, reset := 0x844 + (if slot then 0x180000 else 0) },
  { dw := 20, rw := if slot then 0x00D3 else 0x00C3 },
  { dw := 21, reset := if slot then 0x60 else 0 },
  { dw := 22, rw := if slot then 0x1028 else 0, w1c := if slot then 0x01080000 else 0 },
  { dw := 25, reset := if asks then 0x10 else 0 },
  { dw := 26, rw := if asks then 0x10 else 0 },
  { dw := 27, reset := 0x1E },
  { dw := 28, reset := 4, rw := 0xFFDF }]

/-- The Power Management capability: D0 and D3hot, without a soft reset on the way back. -/
def cfgPm : List CfgRow := [
  { dw := 36, reset := 0x00030001 },
  { dw := 37, reset := 8, rw := 3 }]

/-- Advanced Error Reporting, with the first error pointer and the header log. -/
def cfgAer (next : Nat) : List CfgRow := [
  { dw := 64, reset := 0x00020001 + next * 0x100000 },
  { dw := 65, w1c := 0x03FFF030 },
  { dw := 66, rw := 0x03FFF030 },
  { dw := 67, reset := 0x00462030, rw := 0x03FFF030 },
  { dw := 68, w1c := 0xF1C1 },
  { dw := 69, reset := 0x2000, rw := 0xF1C1 },
  { dw := 70 }, { dw := 71 }, { dw := 72 }, { dw := 73 }, { dw := 74 }]

/-- ACS of a VDP: source validation, P2P request redirect, P2P completion redirect (Table 9-1). -/
def cfgAcs : List CfgRow := [
  { dw := 82, reset := 0x0001000D },
  { dw := 83, reset := 0x0D, rw := 0x000D0000 }]

/-- The Device Serial Number's header, and the management endpoint's MSI-X capability: 32 vectors, table and pending-bit array
in BAR0 (R356). -/
def cfgSerial : List CfgRow := [{ dw := 88, reset := 0x00010003 }]
def cfgMsix : List CfgRow := [
  { dw := 32, reset := 0x001F9011, rw := 0xC0000000 },
  { dw := 33, reset := 0x3D00 },
  { dw := 34, reset := 0x3F00 }]

/-- The registers of an element. -/
def cfgRows (f : Nat) : List CfgRow :=
  cfgPm ++
  if f = cUp then cfgBridgeHeader true ++ cfgExpress 5 0x90 false false ++ cfgAer 0x160 ++ cfgSerial
  else if f = cMgmt then cfgMgmtHeader ++ cfgExpress 0 0x80 false false ++ cfgMsix ++ cfgAer 0x160 ++ cfgSerial
  else if f = cBridge then cfgPlainHeader ++ cfgExpress 0 0x90 false true ++ cfgAer 0
  else cfgBridgeHeader false ++ cfgExpress 6 0x90 true false ++ cfgAer 0x148 ++ cfgAcs

/-- Identity words: IDs, class code and serial number, which the spec gives no value. -/
def cfgIdentity (dw : Nat) : Bool := dw == 0 || dw == 2 || dw == 89 || dw == 90

/-- The value after reset of a word of configuration space, by element and word. PRESUMED, log entry 96. -/
def cfgReset (key : Nat) : Word :=
  if cfgIdentity (key % 1024) then Config.pcieIdentity (key / 1024) (key % 1024)
  else match (cfgRows (key / 1024)).find? (fun r => r.dw == key % 1024) with
    | some r => BitVec.ofNat 32 r.reset
    | none => 0

/-- A word of an element's configuration space as it is held. -/
def cfgGet (s : State) (f dw : Nat) : Word := smGet cfgReset s.pcie.cfg (f * 1024 + dw)

/-- Sets a word of configuration space. -/
def cfgSet (f dw : Nat) (v : Word) (s : State) : State :=
  { s with pcie := { s.pcie with cfg := smSet cfgReset s.pcie.cfg (f * 1024 + dw) v } }

/-- A field of a configuration word. -/
def cfgF (s : State) (f dw lo w : Nat) : Nat := bits (cfgGet s f dw).toNat lo w
def cfgBit (s : State) (f dw i : Nat) : Bool := (cfgGet s f dw).toNat.testBit i

/-- Bits of a configuration word become 1. -/
def cfgOr (f dw : Nat) (m : Word) (s : State) : State := cfgSet f dw (cfgGet s f dw ||| m) s

/-- Bus numbers of a type 1 element. -/
def secBus (s : State) (f : Nat) : Nat := cfgF s f 6 8 8
def subBus (s : State) (f : Nat) : Nat := cfgF s f 6 16 8

/-- A bus lies below an element. -/
def busBelow (s : State) (f b : Nat) : Bool := decide (secBus s f ≤ b) && decide (b ≤ subBus s f) && secBus s f != 0

/-- Memory space and bus master enables of an element, which count in D0 alone. -/
def memEn (s : State) (f : Nat) : Bool := cfgBit s f 1 1 && cfgF s f 37 0 2 == 0
def busMaster (s : State) (f : Nat) : Bool := cfgBit s f 1 2 && cfgF s f 37 0 2 == 0

/-- An address lies in a memory window of a type 1 element: non-prefetchable, or prefetchable. -/
def memBelow (s : State) (f a : Nat) : Bool :=
  let mb := cfgF s f 8 4 12
  let ml := cfgF s f 8 20 12
  let pb := cfgF s f 10 0 32 * 2 ^ 12 + cfgF s f 9 4 12
  let pl := cfgF s f 11 0 32 * 2 ^ 12 + cfgF s f 9 20 12
  memEn s f && ((decide (mb ≤ a / 2 ^ 20) && decide (a / 2 ^ 20 ≤ ml)) || (decide (pb ≤ a / 2 ^ 20) && decide (a / 2 ^ 20 ≤ pl)))

/-- The BAR of the management endpoint that an address hits, and the offset in it (Table 9-3). -/
def barHit (s : State) (a : Nat) : Option (Nat × Nat) :=
  let hit (bar base n : Nat) : Option (Nat × Nat) := if base ≤ a ∧ a < base + n then some (bar, a - base) else none
  let n4 := 2 ^ s.pcie.bar4
  if memEn s cMgmt then
    (hit 0 (cfgF s cMgmt 4 24 8 * 2 ^ 24) (2 ^ 24)).or
      ((hit 2 (cfgF s cMgmt 7 0 32 * 2 ^ 32 + cfgF s cMgmt 6 28 4 * 2 ^ 28) (2 ^ 28)).or
        (hit 4 ((cfgF s cMgmt 9 0 32 * 2 ^ 32 + cfgF s cMgmt 8 4 28 * 16) / n4 * n4) n4))
  else none

/-- Max_Payload_Size of an element, in bytes: 128, 256 or 512 (Table 9-1). -/
def maxPayload (s : State) (f : Nat) : Nat := 128 * 2 ^ min 2 (cfgF s f 18 5 3)

/-- The page under which the journal names a word of configuration space. DESIGN CHOICE, log entry 97. -/
abbrev cfgPage : Nat := 0xF00000

/-- The journal's name of the BAR4 size in effect, which is no word of configuration space. DESIGN CHOICE, log entry 97. -/
abbrev bar4Addr : Nat := cfgPage + 0xF000

/-- The BAR4 size in effect changes; the pair's standby is told (R219). -/
def setBar4 (n : Nat) (s : State) : State :=
  journalWord bar4Addr (BitVec.ofNat 32 n) { s with pcie := { s.pcie with bar4 := n } }

/-- The words of Advanced Error Reporting, which outlive a hot reset. -/
def cfgSticky (dw : Nat) : Bool := decide (65 ≤ dw) && decide (dw ≤ 74)

/-- The elements of a choice return to reset; the pair's standby is told (R219). -/
def cfgResetOf (which : Nat → Bool) (s : State) : State :=
  let gone (k : Nat) : Bool := which (k / 1024) && !cfgSticky (k % 1024)
  forAll ((s.pcie.cfg.map Prod.fst).filter gone)
    (fun k => journalWord (cfgPage + k / 1024 * 0x1000 + k % 1024 * 4) (cfgReset k))
    { s with pcie := { s.pcie with cfg := s.pcie.cfg.filter (fun p => !gone p.1) } }

/-- A write of a configuration word, with its byte enables as a mask; a power state there is not is not taken; the pair's standby is
told (R219). -/
def cfgWrite (f dw : Nat) (mask v : Word) (s : State) : State :=
  match (cfgRows f).find? (fun r => r.dw == dw) with
  | none => s
  | some r =>
    let own : Word := if f = cMgmt ∧ dw = 8 then ~~~(BitVec.ofNat 32 (2 ^ min 32 s.pcie.bar4 - 1)) else BitVec.allOnes 32
    let m := BitVec.ofNat 32 r.rw &&& own &&& (if dw = 37 ∧ (v.toNat % 4 = 1 ∨ v.toNat % 4 = 2) then 0 else mask)
    let old := cfgGet s f dw
    let new := ((old &&& ~~~m) ||| (v &&& m)) &&& ~~~(v &&& mask &&& BitVec.ofNat 32 r.w1c)
    let s := cfgSet f dw new s
    if r.rw = 0 then s else journalWord (cfgPage + f * 0x1000 + dw * 4) new s

/-! ### ASPM L1 (Table 9-1) -/

abbrev fInL1 (k : Nat) : Fld := ⟨R.PCIE_STATUS k, 5, 1⟩
abbrev fDlUp (k : Nat) : Fld := ⟨R.PCIE_STATUS k, 0, 1⟩

/-- A TLP uses physical link `k`, which leaves L1 for it. -/
def linkUse (k : Nat) (s : State) : State := setF (fInL1 k) 0 { s with pcie := { s.pcie with used := natSet s.pcie.used k s.ticks } }

/-- A physical link whose ASPM L1 is enabled enters L1 after the idle time that the part fixes. DESIGN CHOICE, log entry 99. -/
def aspmIdle (k : Nat) (s : State) : State :=
  if bit s (fDlUp k) && !bit s (fInL1 k) && cfgBit s (if k = 0 then cUp else cVdp 4) 20 1
      && decide (natGet s.pcie.used k + Config.aspmIdle ≤ s.ticks) then setF (fInL1 k) 1 s
  else s

/-! ### Building TLPs -/

/-- A function's requester or completer ID: bus, device and function. -/
def functionId (s : State) (f : Nat) : Nat :=
  if f ≤ 1 then s.pcie.bus * 256 + f
  else if f = cBridge then secBus s (cVdp 5) * 256
  else secBus s cUp * 256 + (f - 2) * 8

/-- A completion TLP: completer, the request's ID and tag, status, bytes still to come, low address bits, data and EP. -/
def cplTlp (completer req status count lower : Nat) (data : List Byte) (ep : Bool) : List Byte :=
  let body := List.replicate (if data.isEmpty then 0 else lower % 4) 0 ++ data
  let dws := (body.length + 3) / 4
  [if data.isEmpty then 0x0A else 0x4A, 0, BitVec.ofNat 8 ((if ep then 0x40 else 0) + dws / 256 % 4), BitVec.ofNat 8 dws]
    ++ bytesBE 2 completer ++ bytesBE 2 (status * 0x2000 + count % 4096) ++ bytesBE 2 (req / 256)
    ++ [BitVec.ofNat 8 req, BitVec.ofNat 8 (lower % 128)] ++ padTo (dws * 4) body

/-- The completions of a request, each with at most `n` data bytes. -/
def cplTlps (n completer req status lower : Nat) (data : List Byte) (ep : Bool) : List (List Byte) :=
  if data.isEmpty then [cplTlp completer req status 4 lower [] ep]
  else (chunksOf n data.length data).mapIdx (fun i c => cplTlp completer req status (data.length - i * n) (lower + i * n) c ep)

/-- A memory request TLP of `len` bytes at an address: a write with its data, or a read. -/
def memTlp (requester tag : Nat) (write : Bool) (addr len : Nat) (data : List Byte) : List Byte :=
  let off := addr % 4
  let dws := (off + len + 3) / 4
  let low := 16 - 2 ^ off
  let high := 2 ^ ((off + len + 3) % 4 + 1) - 1
  let be := if dws = 1 then low &&& high else low + high * 16
  let wide := decide (2 ^ 32 ≤ addr)
  [BitVec.ofNat 8 ((if write then 0x40 else 0) + (if wide then 0x20 else 0)), 0, BitVec.ofNat 8 (dws / 256 % 4), BitVec.ofNat 8 dws]
    ++ bytesBE 2 requester ++ [BitVec.ofNat 8 tag, BitVec.ofNat 8 be]
    ++ bytesBE (if wide then 8 else 4) (addr / 4 * 4)
    ++ (if write then padTo (dws * 4) (List.replicate off 0 ++ data) else [])

/-- A vector's message may go: MSI-X and bus mastering are enabled, and neither the function nor the vector is masked. -/
def msixOpen (s : State) (v : Nat) : Bool :=
  cfgBit s cMgmt 32 31 && !cfgBit s cMgmt 32 30 && busMaster s cMgmt && !bit s ⟨R.FLT_MSI_X (v * 4 + 3), 0, 1⟩

/-- The memory write of a vector, from its entry of the MSI-X table. -/
def msixTlp (s : State) (v : Nat) : List Byte :=
  memTlp (functionId s cMgmt) 0 true
    ((reg s (R.FLT_MSI_X (v * 4))).toNat / 4 * 4 + (reg s (R.FLT_MSI_X (v * 4 + 1))).toNat * 2 ^ 32) 4
    (bytesLE 4 (reg s (R.FLT_MSI_X (v * 4 + 2))).toNat)

end Sys2Proof.Machine
end

