-- ==== Sys2Proof/Machine/Tables.lean ====
section
/-!
DEFINITION. The tunnel table as the switch reads it (04_tunnels_and_domain.md, Tables 4-6 and 4-7), the port pair of a
dock (13_mirrored_pair.md R312), and the line rates of the mortises (06_scheduling_and_windows.md, Table 6-1).
-/
namespace Sys2Proof.Machine

/-- A tunnel entry's fields (Tables 4-6 and 4-7). -/
structure Entry where
  valid : Bool
  kind : Nat
  reliable : Bool
  ctPermit : Bool
  ovfPermit : Bool
  cls : Nat
  inMort : Nat
  inTid : Nat
  egMort : Nat
  egTid : Nat
  sub : Nat
  weight : Nat
  shaper : Nat
  origin : Bool
  terminus : Bool
  orgHid : Nat
  orgIdx : Nat
  maxFrame : Nat
  tspAdd : Bool
  deriving DecidableEq, Repr

/-- The fields of four entry words. -/
def decodeEntry (w0 w1 w2 w3 : Nat) : Entry where
  valid := bits w0 0 1 == 1
  kind := bits w0 1 3
  reliable := bits w0 4 1 == 1
  ctPermit := bits w0 5 1 == 1
  ovfPermit := bits w0 6 1 == 1
  cls := bits w0 8 3
  inMort := bits w0 12 4
  inTid := bits w0 16 8
  egMort := bits w0 24 4
  egTid := bits w1 0 8
  sub := bits w1 8 6
  weight := bits w1 16 8
  shaper := bits w1 24 6
  origin := bits w2 0 1 == 1
  terminus := bits w2 1 1 == 1
  orgHid := bits w2 8 6
  orgIdx := bits w2 16 8
  maxFrame := bits w3 0 15
  tspAdd := bits w3 16 1 == 1

/-- Key of word `w` of entry `i` (the copy that `TUN.IDX` = i selects). -/
abbrev entKey (i w : Nat) : Nat := regKey (R.TUN_ENTRY0 + w * 4) i

/-- Key of a per-entry counter. -/
abbrev entCnt (base i : Nat) : Nat := regKey base i

/-- The four committed words of entry `i`. -/
def entryWords (s : State) (i : Nat) : List Nat := (List.range 4).map (fun w => (actReg s (entKey i w)).toNat)

/-- The entry that four words describe. -/
def entryOf (ws : List Nat) : Entry := decodeEntry (ws.getD 0 0) (ws.getD 1 0) (ws.getD 2 0) (ws.getD 3 0)

/-- The committed entry `i`. -/
def committed (s : State) (i : Nat) : Entry := entryOf (entryWords s i)

/-- The entry in force for tunnel `i`: the committed one, or the one before the commit that waits for the tunnel to resume
(R96). -/
def entry (s : State) (i : Nat) : Entry :=
  match (tGet s i).defer with
  | some ws => entryOf ws
  | none => committed s i

/-- The entry under which the cells of tunnel `i`'s open frame are switched: that of its SOF (R95). -/
def openEntry (s : State) (i : Nat) : Entry :=
  match (tGet s i).rx, (tGet s i).old with
  | some _, some ws => entryOf ws
  | _, _ => entry s i

/-- Whether an entry names an arrival mortise and label. -/
def Entry.arrives (e : Entry) (m tid : Nat) : Bool := e.inMort == m && e.inTid == tid

/-- The staged entry `i`. -/
def staged (s : State) (i : Nat) : Entry :=
  decodeEntry (reg s (entKey i 0)).toNat (reg s (entKey i 1)).toNat (reg s (entKey i 2)).toNat
    (reg s (entKey i 3)).toNat

/-- Entry `i` is committed with VALID 1. -/
def valid (s : State) (i : Nat) : Bool := getA s ⟨entKey i 0, 0, 1⟩ == 1

/-- The valid entries, in table order. -/
def validEntries (s : State) : List Nat := (List.range 256).filter (valid s)

/-- The longest frame of an entry (ENTRY3.MAX_FRAME, 0 means 16,384; a value above 16,384 acts as written).
DESIGN CHOICE, log entry 83. -/
def Entry.maxLen (e : Entry) : Nat := if e.maxFrame = 0 then 16384 else e.maxFrame

/-- The weight of a tunnel (0 acts as 1). -/
def Entry.wt (e : Entry) : Nat := if e.weight = 0 then 1 else e.weight

/-! ### The port pair of a dock (R312) -/

abbrev fDockEn : Fld := ⟨R.PAIR_DOCK_CTRL, 0, 1⟩
abbrev fPortA : Fld := ⟨R.PAIR_DOCK_CTRL, 2, 2⟩
abbrev fPortB : Fld := ⟨R.PAIR_DOCK_CTRL, 4, 2⟩
abbrev fPairHid : Fld := ⟨R.PAIR_DOCK_CTRL, 8, 6⟩
abbrev fFollow : Fld := ⟨R.PAIR_DOCK_STATUS, 0, 1⟩

/-- An entry of a dock that names PORT_B, and so receives no cells (R312). -/
def namesB (s : State) (e : Entry) : Bool := bit s fDockEn && (e.inMort == getF s fPortB || e.egMort == getF s fPortB)

/-- The tunnel of a cell that arrives at a mortise under a label (R81), and the entry it is switched under: a cell of a frame
that is still open under the entry before the last commit is found by that entry (R95). -/
def lookup (s : State) (m tid : Nat) (sof : Bool) : Option (Nat × Entry) :=
  let opened := (List.range 256).find? (fun i =>
    !sof && valid s i && (tGet s i).rx.isSome && (tGet s i).old.isSome && (openEntry s i).arrives m tid)
  match opened with
  | some i => some (i, openEntry s i)
  | none =>
    ((List.range 256).find? (fun i => valid s i && !namesB s (entry s i) && (entry s i).arrives m tid)).map (fun i => (i, entry s i))

/-- The port of the pair that is followed. -/
def followed (s : State) : Nat := if getF s fFollow = 1 then getF s fPortB else getF s fPortA

/-- Link `n` is one of a bound port pair. -/
def inPair (s : State) (n : Nat) : Bool := bit s fDockEn && (n == getF s fPortA || n == getF s fPortB)

/-- The mortise under which a cell from port `n` is looked up; none on the port not followed. -/
def arrivalMort (s : State) (n : Nat) : Option Nat :=
  if inPair s n then if n = followed s then some (getF s fPortA) else none else some n

/-- The mortise named in entries and routes that egress `m` serves: PORT_A at the followed port. -/
def servedMort (s : State) (m : Nat) : Nat :=
  if inPair s m then if m = followed s then getF s fPortA else getF s fPortB else m

/-- The mortise whose egress serves what an entry or route naming `m` queues. -/
def egressOf (s : State) (m : Nat) : Nat := if bit s fDockEn && m == getF s fPortA then followed s else m

/-! ### Link states (Table 3-4) -/

abbrev fLinkState (n : Nat) : Fld := ⟨R.LINK_STATUS n, 0, 3⟩
abbrev fSplit (n : Nat) : Fld := ⟨R.LINK_STATUS n, 4, 3⟩
abbrev lsDown : Nat := 0
abbrev lsDetect : Nat := 1
abbrev lsTrain : Nat := 2
abbrev lsAuth : Nat := 3
abbrev lsUp : Nat := 4
abbrev lsLowpower : Nat := 5
abbrev lsRetrain : Nat := 6

/-- The state of link `n`. -/
def linkState (s : State) (n : Nat) : Nat := getF s (fLinkState n)

/-! ### Line rates in Mb/s (Table 6-1) -/

/-- Lanes in a mask. -/
def lanesIn (mask : Nat) : Nat := popcount 4 mask

/-- A link has trained lanes: TRAIN is behind it. -/
def linkTrained (s : State) (n : Nat) : Bool := 3 ≤ linkState s n

/-- Line rate of a PCIe link; 0 while it is down. -/
def pcieRate (s : State) (k : Nat) : Nat :=
  if bit s ⟨R.PCIE_STATUS k, 0, 1⟩ then
    let perLane := match getF s ⟨R.PCIE_STATUS k, 1, 2⟩ with | 0 => 2000 | 1 => 4000 | 2 => 7880 | _ => 15750
    perLane * 2 ^ min 2 (getF s ⟨R.PCIE_STATUS k, 3, 2⟩)
  else 0

def dMac : Nat → Mac := fun _ => {}
def macGet (s : State) (k : Nat) : Mac := smGet dMac s.mac k
def macSet (k : Nat) (m : Mac) (s : State) : State := { s with mac := smSet dMac s.mac k m }

/-- Bit rate of a MAC: that of its SPEED, and 0 without link (R142). -/
def macRate (s : State) (k : Nat) : Nat :=
  if bit s ⟨R.MAC_STATUS k, 0, 1⟩ then
    match getF s ⟨R.MAC_STATUS k, 1, 2⟩ with | 0 => 10 | 1 => 100 | 2 => 1000 | _ => 10000
  else 0

/-- Egress line rate of a mortise; at M7 of the MAC, at M8 of the kind, that the egress tag names. DEDUCED, log entry 32. -/
def egressRate (s : State) (m tag : Nat) : Nat :=
  if m ≤ 3 then if linkTrained s m then lanesIn (getF s ⟨R.LINK_STATUS m, 8, 4⟩) * 63300 else 0
  else if m = 4 then 63300
  else if m = 5 then pcieRate s 0
  else if m = 6 then pcieRate s 1
  else if m = 7 then macRate s (tag % 4)
  else if m = 8 then if tag < 0x10 then 10000 else 480
  else if m = 9 then 100000
  else if m = 11 ∨ m = 12 then 10000
  else if m = 13 then 2112
  else 0

/-- Arrival line rate of a mortise; at M7 of MAC `mac`. -/
def arrivalRate (s : State) (m tag mac : Nat) : Nat :=
  if m ≤ 3 then if linkTrained s m then lanesIn (getF s ⟨R.LINK_STATUS m, 12, 4⟩) * 63300 else 0
  else if m = 7 then macRate s mac
  else egressRate s m tag

end Sys2Proof.Machine
end

