-- ==== Sys2Proof/Machine/Loft.lean ====
section
/-!
DEFINITION. The Loft (05_truss_switch_and_buffers.md R99–R107): occupancy, placement, the overflow store, the fill, and
the removal of cells.
-/
namespace Sys2Proof.Machine

/-! ### Occupancy (R100, R101) -/

/-- Cells a queue holds in the shared pool, without its retained cells. -/
def Queue.shared (q : Queue) : Nat := (q.onchip.filter (fun c => !c.rsv)).length

/-- Reserve cells a queue holds. -/
def Queue.reserved (q : Queue) : Nat := (q.onchip.filter (fun c => c.rsv)).length

/-- Cells in the overflow list and the staging chunk (`BUF.QOVF`). -/
def Queue.overflow (q : Queue) : Nat := (q.chunks.map List.length).sum + q.staging.length

/-- All queued cells. -/
def Queue.cells (q : Queue) : Nat := q.onchip.length + q.overflow

/-- Free cells of the shared pool, F: 97,408 less every queue's shared cells, the retained cells and one staging chunk of
64 for each SPILLING queue (more while spilled cells wait for the SDRAM, R125). -/
def loftFree (s : State) : Nat :=
  97408 - ((s.loft.map (fun e => e.2.shared + if e.2.spilling then max 64 e.2.staging.length else 0)).sum
    + (s.tun.map (fun e => e.2.retained.length)).sum)

/-- Chunks in use (`BUF.OVF_STATUS.CHUNKS_USED`). -/
def chunksUsed (s : State) : Nat := (s.loft.map (fun e => e.2.chunks.length)).sum

/-- Chunks of the overflow region: 4,096 for each 16 MiB unit of the committed size (R103). -/
def chunkTotal (s : State) : Nat := getA s ⟨R.MEM_OVF_SIZE, 0, 9⟩ * 4096

/-- The SDRAM serves requests: READY, and no gap of a rate change or self-refresh (R124, R125). -/
def memServes (s : State) : Bool :=
  bit s ⟨R.MEM_STATUS, 0, 1⟩ && !bit s ⟨R.MEM_STATUS, 4, 1⟩ && !s.mem.selfRefresh

/-- Queues that are SPILLING. -/
def spillCount (s : State) : Nat := (s.loft.filter (fun e => e.2.spilling)).length

/-- The cells of a queue, oldest first. -/
def Queue.list (q : Queue) : List QCell := q.onchip ++ q.chunks.flatten ++ q.staging

/-- Reserve cells in use at a mortise by a class. -/
def rsvUsed (s : State) (m c : Nat) : Nat :=
  (s.loft.map (fun e => (e.2.onchip.filter (fun x => x.rsv && x.eg == m && x.cls == c)).length)).sum

/-- A mortise with static reserves (R100). -/
def hasReserve (m : Nat) : Bool := m ≤ 4 || m == 7 || m == 12

/-- A mortise whose arrivals wait instead of being dropped (Table 5-2). -/
def canWait (m : Nat) : Bool := m == 5 || m == 6 || m == 8 || m == 11 || m == 13

/-- The occupancy q of R101: shared cells and retained cells. -/
def occupancy (s : State) (q : Nat) : Nat := (qGet s q).shared + (if q < 256 then (tGet s q).retained.length else 0)

/-- q < α × F with α = 2^k and k in two's complement (R101, Table 5-3). -/
def belowThreshold (k q f : Nat) : Bool :=
  if k < 4 then decide (q < 2 ^ k * f) else decide (q * 2 ^ (8 - k) < f)

/-- The threshold test of R101 for a cell of class `c`; `lead` says that the SOF of its frame was placed on chip. -/
def thresholdPasses (s : State) (q c : Nat) (sof lead : Bool) : Bool :=
  if sof then belowThreshold (getF s ⟨R.BUF_CLASS0 0 + c * 4, 0, 3⟩) (occupancy s q) (loftFree s)
  else lead && decide (0 < loftFree s)

/-- Overflow permitted for a queue (R102). -/
def overflowPermitted (s : State) (q : Nat) : Bool :=
  decide (q < 256) && (entry s q).ovfPermit && getF s ⟨R.BUF_CLASS0 0 + (entry s q).cls * 4, 4, 1⟩ == 1
    && decide (getA s ⟨R.MEM_OVF_SIZE, 0, 9⟩ ≠ 0) && decide (64 ≤ loftFree s)

/-! ### Placement (Table 5-2) -/

/-- Where a cell went. -/
inductive Placed
  | reserve | shared | overflow | waits | dropped
  deriving DecidableEq, Repr

/-- Source 44 with the queue number and a reason bit, at most once per 10 µs per queue (R106). -/
def raiseDrop (q flag : Nat) (s : State) : State := limited (44 * 1024 + q) tenUs (raise 44 (q + flag)) s

/-- A tail drop: counted for the queue and in all (Table 5-2). -/
def tailDrop (q flag : Nat) (s : State) : State :=
  raiseDrop q flag (bump64 R.BUF_TAIL_DROPS (bump (regKey R.BUF_QDROPS q) s))

/-- Cells are written to the SDRAM, a line of 8 beats each: an injection spoils check bits (R359). -/
def storeLines : List QCell → State → List QCell × State
  | [], s => ([], s)
  | c :: cs, s =>
    let c := { c with fiDram := spoiled s 0x53 0 8 }
    let (cs, s) := storeLines cs (injected 0x53 0 8 s)
    (c :: cs, s)

/-- Cells are written to the Loft, 8 words each, and tagged: an injection spoils check bits (R359). -/
def storeCells : List QCell → State → List QCell × State
  | [], s => ([], s)
  | c :: cs, s =>
    let c := { c with fiLoft := spoiled s 0x52 0 8, fiTag := spoils s 0x52 2 1 }
    let (cs, s) := storeCells cs (injected 0x52 2 1 (injected 0x52 0 8 s))
    (c :: cs, s)

/-- A full staging chunk goes to a free SDRAM chunk and is linked to the overflow list (R103). -/
def writeStaging (q : Nat) (s : State) : State :=
  let qu := qGet s q
  if 64 ≤ qu.staging.length ∧ chunksUsed s < chunkTotal s ∧ memServes s then
    let (cs, s) := storeLines (qu.staging.take 64) s
    qSet q { qu with chunks := qu.chunks ++ [cs], staging := qu.staging.drop 64 } s
  else s

/-- The on-chip part has a complete frame at its head. -/
def Queue.headComplete (q : Queue) : Bool := q.onchip.any (fun c => c.eof)

/-- A SPILLING queue asks for a fill: its on-chip part is low, or the EOF of its head frame lies behind it (R105). -/
def fillWanted (s : State) (q : Nat) : Bool :=
  let qu := qGet s q
  qu.spilling && (decide (qu.onchip.length ≤ clampN 64 16384 (getF s ⟨R.BUF_CTRL, 0, 16⟩))
    || (!qu.headComplete && (qu.chunks.flatten ++ qu.staging).any (fun c => c.eof)))

/-- A queue that asks for a fill joins those that ask, and one that asks no longer leaves them (R105). -/
def noteFill (q : Nat) (s : State) : State :=
  if fillWanted s q then (if s.fillq.contains q then s else { s with fillq := s.fillq ++ [q] })
  else { s with fillq := s.fillq.filter (· != q) }

/-- A cell bound for the overflow tail (R103, R106); in the gap of a rate change it waits in the Loft (R125). With the staging chunk
full and the SDRAM not serving otherwise (not READY, in self-refresh), no chunk can be written: the cell is dropped as for a
full store. DESIGN CHOICE, log entry 102. -/
def placeTail (q : Nat) (c : QCell) (s : State) : Placed × State :=
  let s := writeStaging q s
  let qu := qGet s q
  if 64 ≤ qu.staging.length ∧ !bit s ⟨R.MEM_STATUS, 4, 1⟩ then
    (.dropped, tailDrop q 0x8000 (bump R.BUF_STORE_FULL_DROPS s))
  else
    (.overflow, noteFill q (writeStaging q (bump64 R.BUF_SPILL_CELLS (qSet q { qu with staging := qu.staging ++ [c] } s))))

/-- A cell joins the on-chip part. -/
def placeOnchip (q : Nat) (c : QCell) (s : State) : State :=
  let ptr := spoils s 0x52 1 0xFF
  let (cs, s) := storeCells [c] (injected 0x52 1 1 s)
  let qu := qGet s q
  qSet q { qu with onchip := qu.onchip ++ cs, fiPtr := qu.fiPtr || ptr } s

/-- Places an arriving cell by the first row of Table 5-2 that applies. DEDUCED, log entry 41. -/
def place (q arr : Nat) (lead : Bool) (c : QCell) (s : State) : Placed × State :=
  let qu := qGet s q
  let m := c.eg
  if qu.sweeping then (.dropped, tailDrop q 0 s)
  else if c.cls < 2 ∧ hasReserve m ∧ rsvUsed s m c.cls < 64 then
    (.reserve, placeOnchip q { c with rsv := true } s)
  else if qu.spilling then placeTail q c s
  else if thresholdPasses s q c.cls c.sof lead then (.shared, placeOnchip q c s)
  else if overflowPermitted s q then
    if 64 ≤ spillCount s then (.dropped, tailDrop q 0x4000 (bump R.BUF_SPILL_BUSY_DROPS s))
    else placeTail q c (bump R.BUF_SPILL_EPISODES (qSet q { qu with spilling := true } s))
  else if canWait arr then (.waits, bump R.BUF_WAIT_EVENTS s)
  else (.dropped, tailDrop q 0 s)

/-! ### Removal -/

/-- A queue without its last `k` cells. -/
def Queue.dropLast (q : Queue) (k : Nat) : Queue :=
  let st := q.staging.take (q.staging.length - k)
  let k1 := k - q.staging.length
  let flat := q.chunks.flatten
  let kept := flat.take (flat.length - k1)
  let k2 := k1 - flat.length
  { q with staging := st, chunks := chunksOf 64 q.chunks.length kept,
           onchip := q.onchip.take (q.onchip.length - k2) }

/-- A queue with its last cell changed. -/
def Queue.mapLast (q : Queue) (f : QCell → QCell) : Queue :=
  let last (cs : List QCell) : List QCell := cs.dropLast ++ cs.getLast?.toList.map f
  if !q.staging.isEmpty then { q with staging := last q.staging }
  else if !q.chunks.isEmpty then { q with chunks := q.chunks.dropLast ++ q.chunks.getLast?.toList.map last }
  else { q with onchip := last q.onchip }

/-- A queue emptied; it keeps nothing of the frame that was leaving. -/
def Queue.emptied (q : Queue) : Queue :=
  { q with onchip := [], chunks := [], staging := [], spilling := false, txOpen := false, adOpen := false, begun := false,
           flushing := false, before := false, asm := [], fiPtr := false }

/-- Child numbers of finish tags (R135): tunnels by table index, then subscribers and services. -/
abbrev kTun (i : Nat) : Nat := i
abbrev kSub (i : Nat) : Nat := 256 + i
abbrev kSvc (i c : Nat) : Nat := 320 + i * 8 + c

/-- The item of queue `i` is held at no gate any longer (R145). -/
def unhold (i : Nat) (s : State) : State :=
  forAll (List.range 12) (fun g s =>
    let gt := gGet s g
    if gt.held.contains i then gSet g { gt with held := gt.held.filter (· != i) } s else s) s

/-- The head item of queue `i` is gone ungranted: it is no candidate any longer, of its tunnel, its service or its subscriber, and
no gate holds it (R135, R145). -/
def dropCandidate (i : Nat) (s : State) : State :=
  unhold i (forAll (List.range 14) (fun m s =>
    let sc := scGet s m
    if sc.cand.any (fun p => p.2 == i) then scSet m { sc with cand := sc.cand.filter (fun p => p.2 != i) } s else s) s)

def dTag : Nat → Option Nat := fun _ => none

/-- Tunnel `i` is a new child of the node that arbitrates it from now on: it has no earlier tag there (R135). -/
def dropTags (i : Nat) (s : State) : State :=
  forAll (List.range 14) (fun m s =>
    let sc := scGet s m
    if (smGet dTag sc.tag (kTun i)).isSome then scSet m { sc with tag := smSet dTag sc.tag (kTun i) none } s else s)
    (dropCandidate i s)

/-- Every queued and retained cell of an entry is discarded; the answer is how many there were. -/
def discardCells (i : Nat) (s : State) : Nat × State :=
  let qu := qGet s i
  let t := tGet s i
  (qu.cells + t.retained.length,
   noteFill i (dropCandidate i (tSet i { t with retained := [], resend := [] } (qSet i qu.emptied s))))

/-! ### Fill (R105) -/

/-- A SPILLING queue is due a fill: of those that ask it asked first, F is no lower than 256, and a chunk in the SDRAM can
be read. -/
def fillDue (s : State) (q : Nat) : Bool :=
  s.fillq.find? (fillWanted s) == some q && decide (256 ≤ loftFree s) && ((qGet s q).chunks.isEmpty || memServes s)

/-- What an ECC error of the SDRAM does (R127); `rank` is the requester's arbitration rank (Table 5-11). -/
def dramEcc (e : DramEcc) (rank : Nat) (s : State) : State :=
  match e with
  | .ok => s
  | .corrected => bump64 R.MEM_ECC_CORR s
  | .uncorrectable line _ =>
    let s := raise 49 rank (bump R.MEM_ECC_UNCORR s)
    if bit s ⟨R.MEM_ECC_FIRST, 0, 1⟩ then s else setReg R.MEM_ECC_FIRST (BitVec.ofNat 32 (line.toNat * 64 + 1)) s

/-- `corr` beats of a read are corrected and `bad` are uncorrectable, as injected check bits make them; the line's address is open here
(R127, R359). DESIGN CHOICE, log entry 71. -/
def dramSpoiled (corr bad rank : Nat) (s : State) : State :=
  forAll (List.range bad)
    (fun _ s => dramEcc (.uncorrectable (BitVec.ofNat 26 (free s).toNat) []) rank (nextFree s)) (addCnt64 R.MEM_ECC_CORR corr s)

/-- A cell as an erroneous read gives it: the bytes read stand in it. -/
def QCell.readAs (c : QCell) (data : List Byte) : QCell :=
  { c with data := (data ++ c.data.drop data.length).take c.data.length }

/-- The cells of a fill as they are read: a 64-byte line holds one cell, and a chunk is 64 lines, so the line in error is
that of the cell with its number within the chunk. -/
def fillData (e : DramEcc) (cs : List QCell) : List QCell :=
  match e with
  | .uncorrectable line data => cs.zipIdx.map (fun p => if p.2 = line.toNat % 64 then p.1.readAs data else p.1)
  | _ => cs

/-- One fill: the head chunk, or the staging chunk and the end of SPILLING. A queue that still asks asks anew. -/
def fill (q : Nat) (e : DramEcc) (s : State) : State :=
  if fillDue s q then
    let qu := qGet s q
    let s := { s with fillq := s.fillq.filter (· != q) }
    noteFill q (match qu.chunks with
      | c :: cs =>
        let s := dramSpoiled (c.map (fun x => x.fiDram.1)).sum (c.map (fun x => x.fiDram.2)).sum 3 (dramEcc e 3 s)
        let (new, s) := storeCells (fillData e c) s
        addCnt64 R.BUF_FILL_CELLS c.length (writeStaging q (qSet q { qu with onchip := qu.onchip ++ new, chunks := cs } s))
      | [] =>
        let (new, s) := storeCells qu.staging s
        addCnt64 R.BUF_FILL_CELLS qu.staging.length (qSet q { qu with onchip := qu.onchip ++ new, staging := [], spilling := false } s))
  else s

end Sys2Proof.Machine
end

