-- ==== Sys2Proof/Machine/Sched.lean ====
section
/-!
DEFINITION. Scheduling (06_scheduling_and_windows.md): the nodes of an egress, their weights and shapers, fair queueing
by virtual time, gates, the admission sum and the overbooking check.
-/
namespace Sys2Proof.Machine

/-! ### Time-aware gates (R144–R149) -/

/-- The gate an item for egress tag `tag` at mortise `m` passes: the mortise's own, or its MAC's at M7. -/
def gateOf (m tag : Nat) : Option Nat := if m ≤ 4 then some m else if m = 7 then some (8 + tag % 4) else none

/-- Key of a gate register: the copy of SCH<m>, or the copy of SCH7 that GSEL = MAC selects. -/
def gateKey (g off : Nat) : Nat := if g < 8 then 0x60000 + g * 0x1000 + off else regKey (0x67000 + off) (g - 8)

/-- GATE_EN of a gate. -/
def gateEn (s : State) (g : Nat) : Bool := bit s ⟨gateKey g 0x100, 0, 1⟩

/-- The schedule that a page's values describe, staged (`get` = reg) or committed. -/
def schedOf (get : Nat → Word) (g : Nat) : GateSched where
  entries := (List.range (bits (get (gateKey g 0x184)).toNat 8 6)).map
    (fun i => ((get (gateKey g (0xC00 + 8 * i))).toNat, bits (get (gateKey g (0xC04 + 8 * i))).toNat 0 8))
  cycle := bits (get (gateKey g 0x188)).toNat 0 30
  baseNs := bits (get (gateKey g 0x18C)).toNat 0 30
  baseS := (get (gateKey g 0x190)).toNat + bits (get (gateKey g 0x194)).toNat 0 16 * 2 ^ 32

/-- Nanoseconds of a number of seconds and ns. -/
def nsOf (sec ns : Nat) : Nat := sec * 1000000000 + ns

/-- Plumb in ns. -/
def plumbNs (s : State) : Nat := nsOf s.plumb.sec s.plumb.ns

/-- Plumb in units of 2^−16 ns. -/
def plumbFine (s : State) : Nat := plumbNs s * 65536 + s.plumb.frac

/-- Units of 2^−16 ns in a second. -/
abbrev secFine : Nat := 65536000000000

/-- A point of time from its count of 2^−16 ns. -/
def plumbOf (x : Nat) : Plumb :=
  { sec := x / secFine % 2 ^ 48, ns := x % secFine / 65536, frac := x % 65536 }

/-- The rim copy of Plumb at crossing `x`, in units of 2^−16 ns: what the gates and stamps of that rim use (R331).
DEDUCED, log entry 70. -/
def rimFine (s : State) (x : Nat) : Nat := ((plumbFine s : Int) - smGet dInt s.time.lag x).toNat

/-- The rim copy of Plumb at crossing `x`. -/
def rimPlumb (s : State) (x : Nat) : Plumb := plumbOf (rimFine s x)

/-- A lane or MAC stamp: the rim copy at the last tick and the interpolated part of the tick, in units of 0.5 ns (R191, R331).
DESIGN CHOICE, log entry 52. -/
def stampAt (x : Nat) (phase : Fin 8) (s : State) : Plumb := plumbOf (rimFine s x + phase * 32768)

/-- A pin stamp: the time rim takes it from Plumb itself (R211). DESIGN CHOICE, log entry 52. -/
def pinStamp (phase : Fin 8) (s : State) : Plumb := plumbOf (plumbFine s + phase * 32768)

/-- The Plumb crossing of a gate's rim. -/
def gateRim (g : Nat) : Nat := if g < 8 then 51 + g else 56

/-- The entry of a schedule that holds offset `t` (2^−16 ns), by walking the entries: its index, its mask and how long
it still lasts. Windows are half-open (R145). -/
def windowAt : List (Nat × Nat) → Nat → Nat → Nat × Nat × Nat
  | [], i, _ => (i, 0, 0)
  | (d, mask) :: es, i, t =>
    if t < d * 65536 then (i, mask, d * 65536 - t) else windowAt es (i + 1) (t - d * 65536)

/-- Offset of Plumb time `x` (2^−16 ns) within the cycle of a schedule. -/
def cycleOffset (x : Nat) (g : GateSched) : Nat :=
  (((x : Int) - (nsOf g.baseS g.baseNs * 65536 : Nat)) % ((max 1 g.cycle * 65536 : Nat) : Int)).toNat

/-- The window in force at a gate at Plumb time `x` (2^−16 ns): entry, open mask, time left; a pending switch ends it early, and
the new schedule runs from then on (R147). -/
def gateAt (s : State) (g x : Nat) : Nat × Nat × Nat :=
  let gt := gGet s g
  let win (sch : GateSched) : Nat × Nat × Nat := windowAt sch.entries 0 (cycleOffset x sch)
  match gt.next with
  | some (sch, at_) =>
    if at_ * 65536 ≤ x then win sch
    else let (i, mask, left) := win gt.run; (i, mask, min left (at_ * 65536 - x))
  | none => win gt.run

/-- The window in force now. -/
def gateNow (s : State) (g : Nat) : Nat × Nat × Nat := gateAt s g (rimFine s (gateRim g))

/-- Of the first `t` of a cycle (2^−16 ns), how much the schedule opens class `c`. -/
def openWithin (es : List (Nat × Nat)) (c t : Nat) : Nat :=
  (es.foldl (fun (a : Nat × Nat) e =>
    let d := e.1 * 65536
    (a.1 + d, if e.2.testBit c then a.2 + min d (t - a.1) else a.2)) (0, 0)).2

/-- The open time of class `c` between the base of a schedule's grid and offset `x` from it (2^−16 ns). -/
def openSince (g : GateSched) (c : Nat) (x : Int) : Int :=
  let cycle := max 1 g.cycle * 65536
  x / (cycle : Int) * (openWithin g.entries c cycle : Nat) + (openWithin g.entries c (x % (cycle : Int)).toNat : Nat)

/-- How much of the last `dt` (2^−16 ns) gate `g` was open for class `c`, by the schedule that runs (R138). -/
def openTime (s : State) (g c dt : Nat) : Nat :=
  if gateEn s g then
    let sch := (gGet s g).run
    let now : Int := (rimFine s (gateRim g) : Int) - (nsOf sch.baseS sch.baseNs * 65536 : Nat)
    (openSince sch c now - openSince sch c (now - (dt : Int))).toNat
  else dt

/-- Bytes of an item's cells. -/
def itemBytes (cells : List QCell) : Nat := (cells.map (fun c => c.data.length)).sum

/-- Bytes that the cells of an Ethernet frame put on the wire (R181): neither the tunnel's CRC-32C nor its timestamp goes
there. -/
def wireBytes (it : List QCell) : Nat :=
  itemBytes it - (if it.any (fun c => c.eof) then 4 else 0) - (if it.any (fun c => c.sof && c.tsp) then 10 else 0)

/-- The bits that cells charge to shapers: cell bits, at M7 wire bits with 8 bytes of preamble and 12 of inter-frame gap for
each frame (Table 6-4). -/
def chargeBits (m : Nat) (it : List QCell) : Nat :=
  if m = 7 then (wireBytes it + (if it.any (fun c => c.sof) then 20 else 0)) * 8 else it.length * 512

/-- The bits of an item's serialisation (R145): cell bits, at M7 those from the first preamble bit to the last FCS bit. The
length of a frame whose EOF has not arrived is taken as the longest that its entry allows. DESIGN CHOICE, log entry 86. -/
def itemBits (m maxLen : Nat) (it : List QCell) : Nat :=
  if m = 7 then ((if it.any (fun c => c.eof) then wireBytes it else max (wireBytes it) (maxLen - 4)) + 8) * 8
  else it.length * 512

/-- What the gate says of an item: closed, held by the guard band, or admitted. -/
inductive GateSays
  | closed | guard | admits
  deriving DecidableEq, Repr

/-- The gate's answer for an item of class `c` (R145). -/
def gateSays (s : State) (m tag c bitsN : Nat) : GateSays :=
  match gateOf m tag with
  | none => .admits
  | some g =>
    if gateEn s g then
      let (_, mask, left) := gateNow s g
      if mask.testBit c then
        if bitsN * 1000 * 65536 ≤ left * egressRate s m tag then .admits else .guard
      else .closed
    else .admits

/-- The item is longer than the longest window of the schedule that opens its class (R149). A MAC without link has no line rate to
measure an item by: what is queued for it waits (R137). -/
def gateOversize (s : State) (m tag c bitsN : Nat) : Bool :=
  match gateOf m tag with
  | none => false
  | some g =>
    let ws := (gGet s g).run.entries.filter (fun e => e.2.testBit c)
    gateEn s g && decide (egressRate s m tag ≠ 0) && !ws.isEmpty && ws.all (fun e => decide (e.1 * egressRate s m tag < bitsN * 1000))

/-! ### Nodes, weights and shapers (R134, R136, R138–R140, R143) -/

/-- A node of an egress hierarchy that may carry a shaper. -/
inductive Node
  | port | cls (c : Nat) | sub (i : Nat) | svc (i c : Nat) | tun (i : Nat)
  deriving DecidableEq, Repr

/-- Key of the SVC register of subscriber `i`, class `c` (selected by SVC_SEL). -/
abbrev svcKey (m i c : Nat) : Nat := regKey (R.SCH_SVC m) (i + c * 256)

/-- The shaper number committed for a node. -/
def shaperOf (s : State) (m : Nat) : Node → Nat
  | .port => getA s ⟨R.SCH_PORT m, 8, 6⟩
  | .cls c => getA s ⟨R.SCH_CLASS m c, 8, 6⟩
  | .sub i => getA s ⟨R.SCH_SUB m i, 8, 6⟩
  | .svc i c => getA s ⟨svcKey m i c, 8, 6⟩
  | .tun i => (committed s i).shaper

/-- Weight of a subscriber and of a service (Table 6-3). -/
def subWeight (s : State) (m i : Nat) : Nat := max 1 (getA s ⟨R.SCH_SUB m i, 0, 8⟩)

def svcWeight (s : State) (m i c : Nat) : Nat :=
  let w := getA s ⟨svcKey m i c, 0, 8⟩
  if w = 0 then max 1 (getA s ⟨R.SCH_CLASS m c, 0, 8⟩) else w

/-- IDLE of shaper number `n` ≥ 1, Mb/s, and its HI_CREDIT in bytes. -/
def shpIdle (s : State) (m n : Nat) : Nat := getA s ⟨R.SCH_SHP_RATE m (n - 1), 0, 18⟩

def shpHi (s : State) (m n : Nat) : Nat := max 64 (getA s ⟨R.SCH_SHP_HI m (n - 1), 0, 20⟩)

/-- Classes paced: PACED counts from class 7 (Table 2-10). -/
def paced (s : State) (c : Nat) : Bool := 4 ≤ c && 8 ≤ c + getF s ⟨R.SPD_STATUS, 2, 3⟩

/-- The divisor of a paced class's rate (Table 2-11). -/
def paceDiv (s : State) : Nat := 2 ^ (getF s ⟨R.SPD_PACE_GUARD, 1, 2⟩ + 1)

/-- A shaper in force: the key of its credit, its idle slope as Mb/s over a divisor, and HI_CREDIT in bytes. -/
structure Shaper where
  key : Nat
  idle : Nat
  div : Nat
  hi : Nat
  deriving DecidableEq, Repr

/-- The shaper in force at a node: the committed one (scaled while its class is paced), the built-in one of classes 0
and 1 (R140), or the temporary cap of a paced class (R143); at M7 these two stand for each MAC by itself, whose line rate
they follow. DESIGN CHOICE, log entry 87. -/
def shaperAt (s : State) (m tag : Nat) (n : Node) : Option Shaper :=
  let k := shaperOf s m n
  match n with
  | .cls c =>
    let own := 64 + c + (if m = 7 then tag % 4 * 8 else 0)
    if k ≠ 0 then some ⟨k, shpIdle s m k, if paced s c then paceDiv s else 1, shpHi s m k⟩
    else if c < 2 then some ⟨own, egressRate s m tag, 16, 2048⟩
    else if paced s c then some ⟨own, egressRate s m tag, paceDiv s, 2048⟩
    else none
  | _ => if k ≠ 0 then some ⟨k, shpIdle s m k, 1, shpHi s m k⟩ else none

/-- Credit of a shaper at a mortise, in 1/1000 bit. -/
def credit (s : State) (m key : Nat) : Int := smGet dInt (scGet s m).credit key

def setCredit (m key : Nat) (v : Int) (s : State) : State :=
  let sc := scGet s m
  scSet m { sc with credit := smSet dInt sc.credit key v } s

/-- A committed shaper with IDLE 0 holds its node (Table 6-7); otherwise its credit must not be negative (R137). -/
def creditOk (s : State) (m : Nat) : Option Shaper → Bool
  | none => true
  | some sh => decide (sh.idle ≠ 0) && decide (0 ≤ credit s m sh.key)

/-! ### What is queued (R134) -/

/-- The cell that entry `i` sends next: a cell to send again, or its queue's head. -/
def headCell (s : State) (i : Nat) : Option QCell :=
  match (tGet s i).resend.head? with
  | some c => some c
  | none => (qGet s i).onchip.head?

/-- The entry of tunnel `i` at its egress: mortise, label and class are those its next cell was switched to (R95). -/
def egEntry (s : State) (i : Nat) : Entry :=
  let e := entry s i
  match headCell s i with
  | some c => { e with egMort := c.eg, egTid := c.tid, cls := c.cls }
  | none => e

/-- The tunnels with something to send at the mortise that entries name `m`: cells to send again, or queued cells. -/
def backlog (s : State) (m : Nat) : List Nat :=
  (validEntries s).filter (fun i => (headCell s i).any (fun c => c.eg == m))

/-- The nodes on the path of a tunnel (R138: every cell is charged to every shaper on its path). -/
def pathOf (s : State) (i : Nat) : List Node :=
  let e := egEntry s i
  if e.cls < 2 then [.tun i, .cls e.cls, .port] else [.tun i, .svc e.sub e.cls, .sub e.sub, .cls e.cls, .port]

/-- A shaper of a mortise, a node and an egress tag that it stands for, and whether something waits there. -/
structure Charged where
  sh : Shaper
  node : Node
  tag : Nat
  waits : Bool
  deriving DecidableEq, Repr

/-- The nodes above the tunnels that a page attaches shapers to. -/
def pageNodes : List Node :=
  .port :: (List.range 8).map .cls ++ (List.range 64).flatMap (fun i => .sub i :: (List.range' 2 6).map (.svc i))

/-- The shaper of credit `key` at a mortise, where no tunnel passes it: a built-in one or a cap has its class and MAC in its key,
a committed one is that of the node that attaches it. -/
def idleShaper (s : State) (m key : Nat) : Option Charged :=
  let tag := if key < 64 then 0 else (key - 64) / 8
  let at_ (n : Node) : Option Charged :=
    ((shaperAt s m tag n).filter (fun sh => sh.key == key)).map (fun sh => ⟨sh, n, tag, false⟩)
  if key < 64 then pageNodes.findSome? at_ else at_ (.cls ((key - 64) % 8))

/-- The shapers of a mortise that its tunnels and its control queue pass, each once, and those that none passes now but whose
credit is not 0. A shaper that tunnels of several MACs pass stands still with the gate of the last of them by table index.
DESIGN CHOICE, log entry 87. -/
def shapersOf (s : State) (m : Nat) : List Charged :=
  let tuns := (validEntries s).filter (fun i => (egEntry s i).egMort == m)
  let all : List Charged := tuns.flatMap (fun i =>
    let tag := (egEntry s i).egTid
    (pathOf s i).filterMap (fun n => (shaperAt s m tag n).map (fun sh => ⟨sh, n, tag, (headCell s i).isSome⟩)))
  let ctl : List Charged := match shaperAt s m 0 (.cls 3) with
    | some sh => [⟨sh, .cls 3, 0, !(qGet s (256 + m)).onchip.isEmpty⟩]
    | none => []
  let used := (all ++ ctl).map (fun x => x.sh.key)
  let rest := ((scGet s m).credit.filter (fun e => !used.contains e.1)).filterMap (fun e => idleShaper s m e.1)
  (all ++ ctl ++ rest).foldr (fun x acc =>
    if acc.any (fun y => y.sh.key == x.sh.key) then
      acc.map (fun y => if y.sh.key = x.sh.key then { y with waits := y.waits || x.waits } else y)
    else x :: acc) []

/-- The class whose gate holds the credit of a node while it is closed. -/
def nodeClass (s : State) : Node → Option Nat
  | .cls c => some c
  | .svc _ c => some c
  | .tun i => some (egEntry s i).cls
  | _ => none

/-- Credits of mortise `m` brought up to the present tick (R138): a waiting node gains the idle slope up to HI_CREDIT; an
idle one climbs back to 0 and stays there; while the gate is closed for its class a credit stands still. -/
def accrue (m : Nat) (s : State) : State :=
  let dt := (s.ticks - (scGet s m).tick) * 4 * 65536
  let s := forAll (shapersOf s m) (fun p s =>
    let time := match nodeClass s p.node, gateOf m p.tag with
      | some c, some g => openTime s g c dt
      | _, _ => dt
    let c := credit s m p.sh.key
    let gain : Int := (p.sh.idle * time / (p.sh.div * 65536) : Nat)
    if p.waits then setCredit m p.sh.key (min ((p.sh.hi * 8000 : Nat) : Int) (c + gain)) s
    else setCredit m p.sh.key (if time = 0 then c else if 0 < c then 0 else min 0 (c + gain)) s) s
  let sc := scGet s m
  scSet m { sc with tick := s.ticks } s

/-- The credits of every shaper are brought up to date before the time, a rate or a gate changes. -/
def accrueAll (s : State) : State := forAll (List.range 14) accrue s

/-! ### Fair queueing by virtual time (R135) -/

/-- Node numbers of virtual time: 0 and 1 the express tiers, 2 the port, then subscribers and services. -/
abbrev vTier (c : Nat) : Nat := c
abbrev vPort : Nat := 2
abbrev vSub (i : Nat) : Nat := 3 + i
abbrev vSvc (i c : Nat) : Nat := 67 + i * 8 + c

/-- Tags and V are compared modulo 2^32: `a` is not after `b`. -/
def tagLe (a b : Nat) : Bool := (b + 2 ^ 32 - a) % 2 ^ 32 < 2 ^ 31

/-- The later of two tags. -/
def tagMax (a b : Nat) : Nat := if tagLe a b then b else a

/-- The tag of a child; one that has none stands at V, of which the choice is never asked. -/
def tagGet (s : State) (m child : Nat) : Nat := (smGet dTag (scGet s m).tag child).getD 0

/-- Gives a child its tag when the head item of tunnel `i`, of `len` cells, becomes its candidate. -/
def makeCandidate (m node child i len w : Nat) (s : State) : State :=
  let sc := scGet s m
  if sc.cand.any (fun p => p.1 == child) then s
  else
    let v := natGet sc.v node
    let base := match smGet dTag sc.tag child with | some t => tagMax v t | none => v
    scSet m { sc with tag := smSet dTag sc.tag child (some ((base + len * 65536 / w) % 2 ^ 32)), cand := (child, i) :: sc.cand } s

/-- The child with the smallest tag, the lower index on a tie. -/
def smallest (s : State) (m : Nat) (key : Nat → Nat) : List Nat → Option Nat
  | [] => none
  | i :: is =>
    match smallest s m key is with
    | none => some i
    | some j =>
      let ti := tagGet s m (key i)
      let tj := tagGet s m (key j)
      if ti = tj then some (min i j) else if tagLe ti tj then some i else some j

/-- The node that arbitrates a tunnel: its express tier, or its service. -/
def tunNode (e : Entry) : Nat := if e.cls < 2 then vTier e.cls else vSvc e.sub e.cls

/-- Child `k` of a mortise is one of node `node`'s. -/
def isChild (s : State) (node k : Nat) : Bool :=
  if k < 256 then tunNode (egEntry s k) == node
  else if k < 320 then node == vPort
  else node == vSub ((k - 320) / 8)

/-- The node's V is `v` now: a child without a candidate whose tag V has reached starts at V when it has one again, so its tag is
forgotten, and does not come to look later than V once 2^32 has wrapped (R135). -/
def raiseV (m node v : Nat) (s : State) : State :=
  let sc := scGet s m
  let behind (p : Nat × Option Nat) : Bool :=
    !sc.cand.any (fun q => q.1 == p.1) && p.2.all (fun t => tagLe t v) && isChild s node p.1
  scSet m { sc with v := natSet sc.v node v, tag := sc.tag.filter (fun p => !behind p) } s

/-- A grant to a child: the node's V becomes its tag, and its next item will be a new candidate. -/
def grantTo (m node child : Nat) (s : State) : State :=
  let v := tagGet s m child
  let sc := scGet s m
  raiseV m node v (scSet m { sc with cand := sc.cand.filter (fun p => p.1 != child) } s)

/-- The granted item of a child proves `len` cells longer than when it was tagged: the child's tag and the node's V follow.
DESIGN CHOICE, log entry 86. -/
def extendTag (m node child len w : Nat) (s : State) : State :=
  let sc := scGet s m
  let v := natGet sc.v node
  let t := ((smGet dTag sc.tag child).getD v + len * 65536 / w) % 2 ^ 32
  raiseV m node (tagMax v t) (scSet m { sc with tag := smSet dTag sc.tag child (some t) } s)

/-! ### Reservations (R38, R141, R142) -/

/-- Reservations of a page in Mb/s, with the values `get` gives (staged or committed). -/
def resvSum (get : Nat → Word) (m : Nat) : Nat :=
  ((List.range 63).map (fun i =>
    let w := (get (R.SCH_SHP_RATE m i)).toNat
    if bits w 31 1 = 1 then bits w 0 18 else 0)).sum

/-- The admission sum with page `m` as `get` gives it and all other pages as committed. DEDUCED, log entry 32. -/
def admissionSum (s : State) (m : Nat) (get : Nat → Word) : Nat :=
  ((List.range 14).map (fun k => if k = m then resvSum get k else resvSum (actReg s) k)).sum

/-- The admission limit of a level in Mb/s (Table 2-1). -/
def admissionLimit : Nat → Nat
  | 0 => 405000 | 1 => 810000 | 2 => 1260000 | _ => 1800000

/-- The level used for checks: the lower of LEVEL and TARGET while a change runs (R37). -/
def checkLevel (s : State) : Nat :=
  let l := getF s ⟨R.PM_STATUS, 0, 2⟩
  if bit s ⟨R.PM_STATUS, 4, 1⟩ then min l (getF s ⟨R.PM_STATUS, 2, 2⟩) else l

/-- The line rate that `SCH.LINE_RATE` reports; on SCH7 of the MAC that GSEL selects. -/
def pageRate (s : State) (m : Nat) : Nat := egressRate s m (if m = 7 then getF s ⟨R.SCH_GSEL 7, 0, 2⟩ else 0)

/-- The line rate the overbooking check of a mortise uses: at M7 that of all its MACs together. -/
def checkRate (s : State) (m : Nat) : Nat :=
  if m = 7 then ((List.range 4).map (fun k => egressRate s 7 k)).sum else egressRate s m 0

/-- Key of the OVERBOOKED bit of a mortise. -/
abbrev fOverbooked (m : Nat) : Fld := ⟨R.SCH_STATUS m, 0, 1⟩

/-- The overbooking check of a mortise (R142): source 52 when OVERBOOKED goes from 0 to 1. DEDUCED, log entry 32. -/
def overbookCheck (m : Nat) (s : State) : State :=
  let ov := decide (checkRate s m ≠ 0) && decide (checkRate s m < resvSum (actReg s) m)
  let was := bit s (fOverbooked m)
  let s := setF (fOverbooked m) (if ov then 1 else 0) s
  if ov && !was then raise 52 m (bump (R.SCH_OVERBOOK_ENTRIES m) s) else s

end Sys2Proof.Machine
end

