-- ==== Sys2Proof/Machine/Tunnels.lean ====
section
/-!
DEFINITION. Tunnels at one hub (04_tunnels_and_domain.md): frames and their closing, the end-to-end rules of origin and
terminus, the hub's own TID 0 frames, resynchronisation, and the removal of an entry.
-/
namespace Sys2Proof.Machine

/-! ### Close cells (R111) and native aborts (R110) -/

/-- The cell a hub creates to close the frame whose last cell sent is `c`. -/
def closeCell (c : QCell) : QCell :=
  { eg := c.eg, tid := c.tid, seq := c.seq, cls := c.cls, eof := true, abt := true, data := [0, 0, 0, 0] }

/-- A frame found bad after its head has left is counted, and source 45 raised (R109). -/
def countCtAbort (eg : Nat) (s : State) : State :=
  limited (45 * 1024 + eg) tenUs (raise 45 eg) (bump R.SWC_CT_ABORTS s)

/-- The frame of queue `i` that is open at its local adapter ends natively: aborted where the adapter has started on it,
else discarded (Table 5-6); a reliable terminus starts again from E (R112). -/
def abortAdapter (i : Nat) (s : State) : State :=
  let q := qGet s i
  if q.adOpen then
    let t := tGet s i
    let s := qSet i { q with adOpen := false, begun := false, flushing := false, before := false, asm := [] } s
    let s := if i < 256 ∧ (entry s i).reliable then tSet i { t with p := t.e.getD t.p } s else s
    if q.begun then emit (.deliver q.last.eg q.last.tid q.asm true) s else s
  else s

/-- A close cell behind cell `c`, the last of its frame that this hub has sent on a link. -/
def sendClose (c : QCell) (s : State) : State :=
  let n := egressOf s c.eg
  let l := lGet s n
  lSet n { l with closeOut := l.closeOut ++ [closeCell c] } s

/-- The frame of entry `i` that is open at its egress is closed: by a close cell on a link, natively at an adapter. -/
def closeEgress (i : Nat) (s : State) : State :=
  let q := qGet s i
  if q.txOpen then
    let s := qSet i { q with txOpen := false } s
    if q.last.eg ≤ 4 then sendClose q.last s else abortAdapter i s
  else s

/-- The head of a cut-through frame of queue `i` has left: fewer of its cells are queued than were placed. -/
def headGone (s : State) (i : Nat) (f : OpenFrame) : Bool := f.ct && decide ((qGet s i).cells < f.placed)

/-- The last `k` cells of queue `i` are removed and freed (R79); an adoption that one of them carried is still to come. -/
def removeLast (i k : Nat) (s : State) : State :=
  let q := qGet s i
  let s := if (q.list.drop (q.cells - k)).any (fun c => c.adopt) then tSet i { tGet s i with adopt := true } s else s
  let s := qSet i (q.dropLast k) s
  noteFill i (if (qGet s i).cells = 0 then dropCandidate i s else s)

/-- The frame of tunnel `i` is closed behind the last of its queued cells, or at its egress where none is left (R109 step
4). -/
def closeBehind (i : Nat) (s : State) : State :=
  let q := qGet s i
  if q.cells = 0 then closeEgress i s else qSet i (q.mapLast (fun c => { c with close := true })) s

/-- The arriving frame of entry `i` ends without its EOF: one whose head has left is closed behind its queued cells (R109
step 4), the cells of any other are removed (R79). -/
def closeArriving (i : Nat) (s : State) : State :=
  let t := tGet s i
  match t.rx with
  | none => s
  | some f =>
    let eg := (openEntry s i).egMort
    let gone := headGone s i f
    let s := tSet i { t with rx := none, old := none } s
    if gone then countCtAbort eg (closeBehind i s) else removeLast i f.placed s

/-! ### TID 0 frames of this hub (R90) -/

/-- This hub's committed ID. -/
def ownHid (s : State) : Nat := getA s ⟨R.DEV_HID, 0, 6⟩

/-- The mortise a TID 0 frame for a hub goes to: M11 for the own ID, else its committed route (R90, Table 4-8). -/
def routeTid0 (s : State) (dest : Nat) : Option Nat :=
  if dest = ownHid s then some 11
  else if getA s ⟨R.TUN_HROUTE dest, 4, 1⟩ = 1 then some (getA s ⟨R.TUN_HROUTE dest, 0, 4⟩) else none

/-- A frame with its CRC cut into cells under a label (R76, R78). -/
def frameCells (tid cls : Nat) (bytes : List Byte) : List QCell :=
  let parts := chunksOf 56 bytes.length bytes
  parts.zipIdx.map (fun p =>
    { tid := tid, cls := cls, sof := p.2 == 0, eof := p.2 + 1 == parts.length, data := p.1 : QCell })

/-- The cells of a control frame are placed one by one (Table 5-2): how many were placed, and whether one was dropped. -/
def placeEach (q arr : Nat) : List QCell → Bool → Nat → Bool → State → Nat × Bool × State
  | [], _, k, lost, s => (k, lost, s)
  | c :: cs, lead, k, lost, s =>
    let (w, s) := place q arr lead c s
    let onchip := if c.sof then w == .shared || w == .reserve else lead
    if w == .dropped || w == .waits then placeEach q arr cs onchip k true s else placeEach q arr cs onchip (k + 1) lost s

/-- How many cells of the frame at the head of adapter mortise `a` the control queue of mortise `m` holds, the rest of which still waits
there (R102). -/
def halfPlacedAt (s : State) (a m : Nat) : Nat :=
  match inqGet s a with
  | f :: _ => match f.rest with
    | some r => if f.ctl && f.via == some m then (f.data.length + 4 - r.length) / 56 else 0
    | none => 0
  | [] => 0

/-- The cells of a frame still being placed that the control queue of mortise `m` holds: of M11's, or of M8's (R254). -/
def halfPlaced (s : State) (m : Nat) : Nat := halfPlacedAt s 11 m + halfPlacedAt s 8 m

/-- The last `k` cells of a control queue, which never spills (R107), go ahead of the `n` before them. -/
def Queue.ahead (q : Queue) (n k : Nat) : Queue :=
  let front := q.onchip.take (q.onchip.length - n - k)
  let back := q.onchip.drop (q.onchip.length - n - k)
  { q with onchip := front ++ back.drop n ++ back.take n }

/-- A whole frame that came in at mortise `arr` enters the control queue of mortise `m` under TID 0 or 2, cell by cell; one
that has lost a cell is discarded whole (R79, R99, R102). It goes ahead of an adapter's frame that is still being placed, so that no
cell of one frame stands among those of another. DESIGN CHOICE, log entry 102. -/
def placeControl (arr m tid : Nat) (bytes : List Byte) (s : State) : State :=
  let q := 256 + m
  let n := halfPlaced s m
  let (k, lost, s) := placeEach q arr ((frameCells tid 3 bytes).map (fun c => { c with eg := m })) false 0 false (accrue m s)
  if lost then bump R.TUN_CRC_ERR (removeLast q k s) else if n = 0 then s else qSet q ((qGet s q).ahead n k) s

/-- The arrival mortise of a frame that a hub makes itself and no mortise can hold back. DESIGN CHOICE, log entry 84. -/
abbrev noMort : Nat := 16

/-- Sends a TID 0 frame of this hub's end-to-end rules, its data given without the CRC, on its route. -/
def sendTid0 (data : List Byte) (s : State) : State :=
  match routeTid0 s (byteAt data 0 % 64) with
  | some m => placeControl noMort m 0 (data ++ bytesLE 4 (crc32c data).toNat) s
  | none => bump R.TUN_TID0_UNROUTED s

/-- An end-to-end control frame of entry `i` to its origin: 0x20 E2E_ACK, 0x21 E2E_GAP, 0x22 RESUME (Table 4-5). -/
def sendE2e (type i seq : Nat) (s : State) : State :=
  let e := entry s i
  let dest := if e.origin then ownHid s else e.orgHid
  let idx := if e.origin then i else e.orgIdx
  sendTid0 ([BitVec.ofNat 8 dest, BitVec.ofNat 8 (ownHid s), BitVec.ofNat 8 type, 0, BitVec.ofNat 8 idx]
    ++ bytesBE 2 (seq % 1024) ++ [0]) s

/-! ### The reliable terminus (R87, R112) -/

/-- A sign of a gap for the E in force: the first one sends E2E_GAP. -/
def gapSign (i : Nat) (s : State) : State :=
  let t := tGet s i
  let e := t.e.getD 0
  if t.gap = some e then s else sendE2e 0x21 i e (tSet i { t with gap := some e } s)

/-- The terminus has accepted the cells up to P: E follows, and an E2E_ACK goes after 64 cells. -/
def acceptUpTo (i : Nat) (s : State) : State :=
  let t := tGet s i
  let n := (t.p + 1024 - t.e.getD 0) % 1024
  let t' := { t with e := some t.p, gap := none, unacked := t.unacked + n }
  if 64 ≤ t'.unacked then sendE2e 0x20 i t'.p (tSet i { t' with unacked := 0 } s) else tSet i t' s

/-! ### The origin (R86, R88) -/

/-- Cells of entry `i` that are outstanding: retained ones and those still queued. -/
def outstanding (s : State) (i : Nat) : Nat := (tGet s i).retained.length + (qGet s i).cells

/-- Every retained cell from SEQ `seq` onwards is to be sent again, in order; RETX_CELLS counts each. -/
def resendFrom (i seq : Nat) (s : State) : State :=
  let t := tGet s i
  let r := t.retained.dropWhile (fun c => c.seq != seq)
  addCnt (entCnt R.TUN_ENT_RETX_CELLS i) r.length (tSet i { t with resend := r } s)

/-- Every retained cell is to be sent again. -/
def resendAll (i : Nat) (s : State) : State :=
  let t := tGet s i
  addCnt (entCnt R.TUN_ENT_RETX_CELLS i) t.retained.length (tSet i { t with resend := t.retained } s)

/-- The tunnel is marked STALLED; source 41 is raised once (R88). -/
def markStalled (i : Nat) (s : State) : State :=
  if bit s (bitIn (R.TUN_STALLED 0) i) then s
  else raise 41 i (bump R.TUN_STALL_ENTRIES (setF (bitIn (R.TUN_STALLED 0) i) 1 s))

/-! ### Stop and resume (R89) -/

/-- A tunnel runs: neither SUSPENDED nor HALTED. -/
def running (s : State) (i : Nat) : Bool := !(tGet s i).susp && !(tGet s i).halted

/-- The frame that a mortise is taking for entry `e` is offered again from its SOF. -/
def offerAgain (e : Entry) (s : State) : State :=
  match inqGet s e.inMort with
  | f :: fs => if f.tag = e.inTid ∧ !f.ctl then inqSet e.inMort ({ f with rest := none } :: fs) s else s
  | [] => s

/-- The queued cells of the arriving frame of entry `i` go. At a reliable origin the retained ones go too, and with them all the
numbers of the frame and of `more` cells that found no place, since nothing else could fill the hole in SEQ.
DESIGN CHOICE, log entry 85. -/
def takeBack (i more : Nat) (s : State) : State :=
  let e := entry s i
  let t := tGet s i
  let k := match t.rx with | some f => f.placed | none => 0
  let queued := min k (qGet s i).cells
  let s := removeLast i queued (tSet i { t with rx := none, old := none } s)
  if e.origin && e.reliable then
    let t := tGet s i
    let kept := t.retained.take (t.retained.length - (k - queued))
    tSet i { t with nextSeq := (t.nextSeq + 1024 - (k + more) % 1024) % 1024, retained := kept,
                    resend := t.resend.filter (fun c => kept.any (fun d => d.seq == c.seq)) } s
  else s

/-- Frames of entry `i` are taken only from the next SOF onwards (R89 step 2): the frame that was arriving is closed where its
head has left (R109 step 4); any other is taken out of the queue, and its cells counted in DROPS. A reliable origin loses nothing
by it: its adapter still holds the frame and offers it again under the numbers it had. DESIGN CHOICE, log entry 85. -/
def restartFrames (i : Nat) (s : State) : State :=
  let e := entry s i
  match (tGet s i).rx with
  | none => s
  | some f =>
    let gone := headGone s i f
    if e.origin && e.reliable then
      let eg := (openEntry s i).egMort
      offerAgain e (takeBack i 0 (when gone (fun s => countCtAbort eg (closeEgress i s)) s))
    else closeArriving i (when (!gone) (addCnt (entCnt R.TUN_ENT_DROPS i) f.placed) s)

/-- Sequence resynchronisation of entry `i` at this hub (R89). A frame open at the egress that has arrived whole is closed there at
once; its other cells leave after the close cell, and the next hub discards them (Table 4-2). DESIGN CHOICE, log entry 85. -/
def resync (i : Nat) (s : State) : State :=
  let e := entry s i
  let arriving := (tGet s i).rx.any (headGone s i)
  let s := bump R.TUN_RESYNCS (restartFrames i (when (!arriving) (closeEgress i) s))
  if e.reliable then if e.origin then resendAll i s else sendE2e 0x22 i 0 s else s

/-- The entry that a commit has left waiting for the tunnel to resume is in force (R96). -/
def takeDeferred (i : Nat) (s : State) : State :=
  let was := entry s i
  let s := tSet i { tGet s i with defer := none } s
  let e := entry s i
  if e.shaper ≠ was.shaper ∨ e.egMort ≠ was.egMort then setCredit e.egMort e.shaper 0 s else s

/-- A HALTED or SUSPENDED tunnel resumes when nothing stops it any longer. -/
def resume (i : Nat) (s : State) : State := if running s i then resync i (takeDeferred i s) else s

/-! ### Removal (R95, R96) -/

/-- Forgets what the hub keeps of a tunnel whose cells are gone; a sweep of its queue goes on. -/
def forget (i : Nat) (s : State) : State :=
  qSet i { sweeping := (qGet s i).sweeping } (tSet i {} (dropTags i (setF (bitIn (R.TUN_STALLED 0) i) 0 s)))

/-- The tunnel of entry `i` goes: its cells are discarded and counted in DROPS, its open frame is closed. -/
def removeTunnel (i : Nat) (s : State) : Nat × State :=
  let s := match (tGet s i).rx with
    | some f => if headGone s i f then countCtAbort (openEntry s i).egMort s else s
    | none => s
  let s := closeEgress i s
  let (n, s) := discardCells i s
  (n, forget i (addCnt (entCnt R.TUN_ENT_DROPS i) n s))

/-- Clears both copies of an entry. -/
def clearEntry (i : Nat) (s : State) : State :=
  forAll [0, 1, 2, 3] (fun w s => setAct (entKey i w) 0 (setReg (entKey i w) 0 s)) s

end Sys2Proof.Machine
end

