-- ==== Sys2Proof/Machine/Cells.lean ====
section
/-!
DEFINITION. Cells entering the Truss: the checks on arrival (R77), the taking of a cell by an entry (R79, R85, R101,
R108), the bobbin queues at the ingress (R113–R115), and the commands of 04_tunnels_and_domain.md and of the Loft in
05_truss_switch_and_buffers.md.
-/
namespace Sys2Proof.Machine

/-! ### The header (Table 4-1) -/

/-- The HCRC of a header: CRC-8 over bits [63:8], most significant byte first. -/
def headerCrc (h : BitVec 64) : Byte := crc8 (bytesBE 7 (h.toNat / 256))

/-- A header from its fields, with no credits. -/
def mkHeader (tid seq cls : Nat) (sof eof abt tsp : Bool) (vlen crdCls crdCnt : Nat) : BitVec 64 :=
  let b (x : Bool) : Nat := if x then 1 else 0
  let hi := tid % 256 * 2 ^ 48 + seq % 1024 * 2 ^ 38 + cls % 8 * 2 ^ 35 + b sof * 2 ^ 34 + b eof * 2 ^ 33
    + b abt * 2 ^ 32 + b tsp * 2 ^ 31 + vlen % 64 * 2 ^ 25 + crdCls % 8 * 2 ^ 22 + crdCnt % 4096 * 2 ^ 10
  BitVec.ofNat 64 (hi * 256 + (crc8 (bytesBE 7 hi)).toNat)

/-- The fields of a header that matter to the switch, with the payload cut to VLEN. -/
def cellOf (h : BitVec 64) (payload : List Byte) : QCell where
  tid := bits h.toNat 56 8
  seq := bits h.toNat 46 10
  cls := bits h.toNat 43 3
  sof := h.getLsbD 42
  eof := h.getLsbD 41
  abt := h.getLsbD 40
  tsp := h.getLsbD 39
  data := payload.take (bits h.toNat 33 6)

/-- VLEN of a header. -/
def vlenOf (h : BitVec 64) : Nat := bits h.toNat 33 6

/-- The format checks of Table 4-2 on VLEN, ABT and TSP. -/
def formatOk (h : BitVec 64) : Bool :=
  let v := vlenOf h
  decide (1 ≤ v) && decide (v ≤ 56) && (h.getLsbD 41 || decide (v = 56))
    && (!h.getLsbD 40 || h.getLsbD 41) && (!h.getLsbD 39 || h.getLsbD 42)

/-! ### Credits of the receiver (R58) -/

/-- Sends CRD_RESYNC with the receiver's free counts (Table 3-5). -/
def sendCrdResync (n : Nat) (s : State) : State :=
  let l := lGet s n
  sendCtl n ([0x04] ++ ((List.range 8).map (fun c => bytesBE 2 (natGet l.rxCredit c))).flatten) s

/-- A violation of the partner is counted by its sticky bit and source 5n + 2 (R66). -/
def violation (n b : Nat) (s : State) : State := raise (5 * n + 2) b (setF ⟨R.LINK_VIOL_STATUS n, b, 1⟩ 1 s)

/-- The arriving cell spends a credit of its class (R58). -/
def spendRxCredit (n c : Nat) (s : State) : State :=
  let l := lGet s n
  lSet n { l with rxCredit := natSet l.rxCredit c (natGet l.rxCredit c - 1) } s

/-- The cell has left its ingress bobbin queue: the return of its credit is due (R58). -/
def returnCredit (n c : Nat) (s : State) : State :=
  let l := lGet s n
  lSet n { l with crdRet := natSet l.crdRet c (natGet l.crdRet c + 1) } s

/-- A tunnel cell of a class without credit (Table 3-9, bit 1). -/
def creditOverrun (n : Nat) (s : State) : State :=
  let s := violation n 1 (bump (R.LINK_CRD_OVERRUN n) s)
  limited (1000 * 1024 + n) tenUs (sendCrdResync n) s

/-- A tunnel cell whose TID has no entry at this ingress (Table 3-9, bit 0): at most one report per 10 µs per TID. -/
def tidUnknown (n tid : Nat) (s : State) : State :=
  let s := violation n 0 (bump (R.LINK_TID_UNKNOWN n) s)
  let l := lGet s n
  let cnt := natGet l.tidCount tid + 1
  let s := lSet n { l with tidCount := natSet l.tidCount tid cnt } s
  limited (1001 * 1024 + n * 256 + tid) tenUs (fun s =>
    let l := lGet s n
    sendCtl n ([0x03, BitVec.ofNat 8 tid] ++ bytesBE 2 cnt) (lSet n { l with tidCount := natSet l.tidCount tid 0 } s)) s

/-! ### Cut-through (R108) -/

/-- Some queue holds a cell for the mortise that entries name `m`, its overflow part counted. -/
def mortiseBusy (s : State) (m : Nat) : Bool := s.loft.any (fun e => e.2.list.any (fun c => c.eg == m))

/-- The decision of R108 for a frame switched under entry `e` of tunnel `i` whose SOF arrives at `arr` (MAC `mac` at M7). -/
def cutsThrough (s : State) (i : Nat) (e : Entry) (arr mac : Nat) : Bool :=
  let eg := egressRate s (egressOf s e.egMort) e.egTid
  bit s ⟨R.SWC_CTRL, 0, 1⟩ && e.ctPermit && e.egMort != 9 && e.egMort != 10 && e.egMort != 13
    && !mortiseBusy s e.egMort && !(qGet s i).spilling && decide (eg ≠ 0)
    && decide (eg ≤ arrivalRate s arr e.inTid mac)

/-! ### Taking a cell (R77, R79, R101, R109) -/

/-- A reliable origin of this hub. -/
def reliableOrigin (s : State) (i : Nat) : Bool := valid s i && (entry s i).origin && (entry s i).reliable

/-- Removes what is left of the head frame of a mortise, which waits no longer. -/
def dropHead (m : Nat) (s : State) : State :=
  { inqSet m (inqGet s m).tail s with waiting := s.waiting.filter (· != m) }

/-- What a reset of queue `i` leaves of the frame that is arriving: its queued cells are gone, so a stored one is bad, and one
that cuts through goes on only where its head has left. The frames that follow are dropped at the tail during the sweep. -/
def resetArriving (i : Nat) (s : State) : State :=
  match (tGet s i).rx with
  | some f =>
    let ct := f.ct && headGone s i f
    tSet i { tGet s i with rx := some { f with bad := true, ct := ct, placed := if ct then f.placed else 0 } } s
  | none => s

/-- A queue is reset (R117): swept; at a reliable origin the retained cells go too and the tunnel is STALLED. The frame that was
leaving is closed, unless it still arrives and its EOF will end it. -/
def queueReset (j : Nat) (s : State) : State :=
  let qu := qGet s j
  let origin := decide (j < 256) && reliableOrigin s j
  let n := qu.cells + if origin then (tGet s j).retained.length else 0
  let s := if j < 256 then resetArriving j s else s
  let goesOn := decide (j < 256) && (tGet s j).rx.any (fun f => f.ct)
  let s := if goesOn then s else closeEgress j s
  let now := qGet s j
  let s := qSet j { now.emptied with sweeping := true, txOpen := now.txOpen, adOpen := now.adOpen, begun := now.begun,
                                     asm := now.asm } s
  let s := if origin then
      tSet j { tGet s j with retained := [], resend := [], broken := true } s
    else s
  let s := noteFill j (dropCandidate j s)
  let s := forAll [11, 8] (fun a s =>
    if 256 ≤ j ∧ halfPlacedAt s a (j - 256) ≠ 0 then bump R.TUN_CRC_ERR (dropHead a s) else s) s
  let s := bump R.BUF_QRESETS (addCnt64 R.BUF_QRESET_CELLS_TOTAL n (addCnt (regKey R.BUF_QRESET_CELLS j) n s))
  raise 40 j (if origin then markStalled j s else s)

/-- The pointers of queue `j` are used: two copies that differ reset it (R117, R359). -/
def usePointers (j : Nat) (s : State) : State := if (qGet s j).fiPtr then queueReset j s else s

/-- The frame of tunnel `i` has reached its EOF (R79, R109): `good` says that the CRC-32C holds and no cell of it is missing,
`abt` that the EOF carries ABT, `lost` that the EOF itself found no place. One whose head has left goes on, and ends aborted
where it is bad; any other bad one goes whole. At a reliable terminus that is a sign of a gap (R112).
DEDUCED, log entry 42. -/
def endFrame (i : Nat) (f : OpenFrame) (good abt lost : Bool) (s : State) : State :=
  let e := openEntry s i
  let s := tSet i { tGet s i with rx := none, old := none } s
  let s := when abt (bump R.SWC_ABT_RX) s
  if good && !abt then s
  else if headGone s i f then
    let s := if lost then closeBehind i s
      else if abt then s
      else qSet i ((qGet s i).mapLast (fun c => { c with abt := true })) s
    if abt then s else countCtAbort e.egMort s
  else
    let s := removeLast i f.placed s
    let s := if abt then bump R.SWC_SF_ABT_DISCARD s else bump R.TUN_CRC_ERR s
    if e.terminus && e.reliable then gapSign i s else s

/-- The arriving frame of tunnel `i` is too long before its head has left: its cells go, and so does what is still to come
(R79). -/
def oversize (i : Nat) (e : Entry) (c : QCell) (s : State) : State :=
  let s := takeBack i 1 (bump R.TUN_OVERSIZE s)
  let s := tSet i { tGet s i with awaitSof := !c.eof } s
  if e.terminus && e.reliable then gapSign i s else s

/-- A cell joins the queue of tunnel `i` under entry `e`: the frame opens at SOF, the longest frame bounds it, EOF ends it.
The answer says whether the cell waits (and then nothing has changed). A frame whose SOF finds no place neither cuts
through nor counts as either. DEDUCED, log entry 41. -/
def enqueue (i : Nat) (e : Entry) (arr mac : Nat) (c : QCell) (s0 : State) : Bool × State :=
  let s := usePointers i (accrue e.egMort s0)
  let s := if c.sof then tSet i { tGet s i with rx := none, awaitSof := false } s else s
  let f := if c.sof then { ct := cutsThrough s i e arr mac, tsp := c.tsp } else (tGet s i).rx.getD {}
  let tooLong := decide (e.maxLen < f.bytes + c.data.length)
  if tooLong && !headGone s i f then (false, oversize i e c s)
  else
    let adopts := c.sof && (tGet s i).adopt
    let (w, s) := place i arr f.onchip { c with eg := e.egMort, tid := e.egTid, cls := e.cls, ct := f.ct, adopt := adopts } s
    if w = .waits then (true, s0)
    else
      let lost := w == .dropped
      let s := if adopts && !lost then tSet i { tGet s i with adopt := false } s else s
      let s := if c.sof && !lost then bump64 (if f.ct then R.SWC_CT_FRAMES else R.SWC_SF_FRAMES) s else s
      let s := if tooLong && !f.oversize then bump R.TUN_OVERSIZE s else s
      let f := { f with ct := f.ct && !(c.sof && lost), bad := f.bad || lost || tooLong, oversize := f.oversize || tooLong,
                        onchip := if c.sof then w == .reserve || w == .shared else f.onchip,
                        crc := crc32Upd f.crc c.data, bytes := f.bytes + c.data.length,
                        placed := f.placed + if lost then 0 else 1 }
      let s := bump64 (entCnt R.TUN_ENT_CELLS_IN i) s
      let s := tSet i { tGet s i with rx := some f } s
      (false, if c.eof then endFrame i f (!f.bad && f.crc == crcResidue) c.abt lost s else s)

/-- A cell of tunnel `i`, switched under entry `e`, meets the framing checks (Table 4-2); then it joins its queue. -/
def takeCell (i : Nat) (e : Entry) (arr mac : Nat) (c : QCell) (s0 : State) : Bool × State :=
  let s := if c.sof && (tGet s0 i).rx.isSome then bump R.TUN_ABORTS (closeArriving i s0) else s0
  let t := tGet s i
  let open' := t.rx.isSome && (t.old.isNone || (openEntry s i).arrives e.inMort e.inTid)
  if c.sof || open' then
    let (w, s1) := enqueue i e arr mac c s
    if w then (true, s0) else (false, s1)
  else (false, if t.awaitSof then s else bump R.TUN_FORMAT_ERR s)

/-- Whether the mode lets cells of an entry pass (Table 1-10). -/
def forwards (s : State) (i : Nat) : Bool :=
  let m := mode s
  if m = mCold || m = mService then false
  else if m = mStandby then (entry s i).kind == 5 || (entry s i).inMort == 4 || (entry s i).egMort == 4
  else true

/-- A cell for a tunnel that does not take cells: HALTED (R26), or not forwarded in this mode (Table 1-10). -/
def declaredDrop (i : Nat) (s : State) : State := bump (entCnt R.TUN_ENT_DROPS i) s

/-- A whole packet passes the ingress bobbin of a mortise (R113, R114): BQ_PKTS counts it. -/
def packetIn (m : Nat) (s : State) : State :=
  let s := if m ≤ 4 then xfer m s else s
  bump64 (regKey R.SWC_BQ_PKTS m) s

/-- A whole packet passes the egress bobbin of a mortise. -/
def packetOut (m : Nat) (s : State) : State :=
  let s := if m ≤ 4 then xfer (16 + m) s else s
  bump64 (regKey R.SWC_BQ_PKTS (m + 16)) s

/-! ### Bobbin queues at the ingress (R113–R116) -/

/-- FLUSH of `SWC.BQ_CTRL` of queue `b`. -/
abbrev fFlush (b : Nat) : Fld := ⟨regKey R.SWC_BQ_CTRL b, 8, 1⟩
/-- CT_WORDS of `SWC.BQ_CTRL` of queue `b`. -/
abbrev fCtWords (b : Nat) : Fld := ⟨regKey R.SWC_BQ_CTRL b, 0, 6⟩

/-- What a consumer reads from an empty bobbin queue (R116): 512 zero bits with the IDLE mark. -/
def idleItem : BobWord := ⟨List.replicate 64 0, .idle⟩

/-- The word at the output of a bobbin queue that holds `ws`. -/
def bobHead (ws : List BobWord) : BobWord := ws.head?.getD idleItem

/-- A packet as its words: every one but the last is MID, the last END (R113). -/
def packetWords (bytes : List Byte) : List BobWord :=
  let parts := chunksOf 64 bytes.length bytes
  parts.zipIdx.map (fun p => ⟨padTo 64 p.1, if p.2 + 1 = parts.length then .done else .mid⟩)

/-- The words of a packet whose end has not come. -/
def partWords (bytes : List Byte) : List BobWord := (chunksOf 64 bytes.length bytes).map (fun p => ⟨padTo 64 p, .mid⟩)

/-- Words of 64 bytes that a packet takes. -/
def stagesOf (bytes : Nat) : Nat := (bytes + 63) / 64

/-- A flush of queue `b` is done: `n` words are gone, and FLUSH reads 0 again (R115). -/
def flushed (b n : Nat) (s : State) : State :=
  addCnt (regKey R.SWC_BQ_FLUSH_WORDS b) n (setF (fFlush b) 0 (bqSet b { bqGet s b with flush := false, left := 0 } s))

/-- The class of the cell in a word. -/
def wordClass (w : BobWord) : Nat := bits (ofBE (w.data.take 8)) 43 3

/-- The header and the payload of the cell in a word. -/
def wordHeader (w : BobWord) : BitVec 64 := BitVec.ofNat 64 (ofBE (w.data.take 8))
def wordPayload (w : BobWord) : List Byte := w.data.drop 8

/-- A tunnel cell discarded at the ingress of link `n` ends the frame that is open under its TID, as R111 has it, and what is left of
that frame goes with it (R340). -/
def discardCell (n : Nat) (w : BobWord) (s : State) : State :=
  let h := wordHeader w
  let c := cellOf h (wordPayload w)
  if c.tid < 3 ∨ headerCrc h ≠ h.setWidth 8 ∨ mode s = mService then s
  else match (arrivalMort s n).bind (fun m => lookup s m c.tid c.sof) with
    | some (i, _) =>
      let s := closeArriving i s
      tSet i { tGet s i with awaitSof := !c.eof } s
    | none => s

/-- Each discarded cell of a link's ingress is a counted drop that returns its credit (R58, R115, R340). -/
def flushLink (n : Nat) (s : State) : State :=
  let b := bqGet s n
  let gone := b.words.take b.left
  flushed n gone.length (forAll gone (discardCell n) (forAll (gone.drop b.old) (fun w s => returnCredit n (wordClass w) s)
    (bqSet n { b with words := b.words.drop b.left, old := b.old - gone.length } s)))

/-- The frames that lay whole in the ingress queue of a local mortise when the flush was asked for go. -/
def flushFrames (m : Nat) (s : State) : State :=
  let fs := inqGet s m
  let k := (bqGet s m).left
  flushed m ((fs.take k).map (fun f => stagesOf f.data.length)).sum
    { inqSet m (fs.drop k) s with waiting := s.waiting.filter (· != m) }

/-- A flush that is asked for takes effect at the next packet boundary of the ingress queue of mortise `m`, before another
packet is taken. -/
def flushIn (m : Nat) (s : State) : State :=
  if (bqGet s m).flush then
    if m ≤ 4 then flushLink m s
    else if (inqGet s m).head?.any (fun f => f.rest.isSome) then s
    else flushFrames m s
  else s

/-! ### TUNNEL_CELL_ARRIVAL -/

/-- A discarded cell is one of the frame that is open under its TID: the frame is bad (R79, R109). The TID of a header whose
HCRC fails names no frame, and the CRC-32C finds the hole. -/
def markBad (m : Nat) (c : QCell) (s : State) : State :=
  match lookup s m c.tid false with
  | some (i, _) =>
    match (tGet s i).rx with
    | some f => tSet i { tGet s i with rx := some { f with bad := true } } s
    | none => s
  | none => s

/-- A tunnel cell leaves the ingress bobbin queue of link `n` (Table 4-2, R81, R312). In SERVICE no TID has an entry (R51). -/
def tunnelCell (n : Nat) (h : BitVec 64) (payload : List Byte) (s : State) : State :=
  if headerCrc h ≠ h.setWidth 8 then limited (42 * 1024 + n) tenUs (raise 42 n) (bump R.TUN_HCRC_ERR s)
  else
    let c := cellOf h payload
    if !formatOk h then
      let s := match arrivalMort s n with | some m => markBad m c s | none => s
      limited (43 * 1024 + n) tenUs (raise 43 n) (bump R.TUN_FORMAT_ERR s)
    else
      match arrivalMort s n with
      | none => bump64 R.PAIR_FOLLOW_DISCARDS s
      | some m =>
        match (if mode s = mService then none else lookup s m c.tid c.sof) with
        | none => tidUnknown n c.tid s
        | some (i, e) => if (tGet s i).halted || !forwards s i then declaredDrop i s else (takeCell i e n 0 c s).2

/-- The word that carries a cell: link mortises mark every cell END (R113). -/
def cellWord (h : BitVec 64) (payload : List Byte) : BobWord := ⟨bytesBE 8 h.toNat ++ padTo 56 payload, .done⟩

/-- A cell joins the ingress bobbin queue of link `n`. -/
def pushCell (n : Nat) (h : BitVec 64) (payload : List Byte) (s : State) : State :=
  let s := spendRxCredit n (bits h.toNat 43 3) s
  let b := bqGet s n
  bqSet n { b with words := b.words ++ [cellWord h payload] } s

/-! ### TID 0 and TID 2 -/

/-- A TID 0 frame that came in on link `n` (R90). One too short to hold the header and the CRC is discarded and counted in
FORMAT_ERR, for which the spec has no word. DESIGN CHOICE, log entry 88. -/
def tid0Frame (n : Nat) (frame : List Byte) (s : State) : State :=
  if frame.length < 12 then bump R.TUN_FORMAT_ERR s
  else if crc32Upd 0xFFFFFFFF frame ≠ crcResidue then bump R.TUN_CRC_ERR s
  else match routeTid0 s (byteAt frame 0 % 64) with
    | some m => placeControl n m 0 frame s
    | none => bump R.TUN_TID0_UNROUTED s

/-- The committed event route (Table 4-10), where it is valid. -/
def evtRoute (s : State) : Option Nat :=
  if getA s ⟨R.TUN_EVT_ROUTE, 4, 1⟩ = 1 then some (getA s ⟨R.TUN_EVT_ROUTE, 0, 4⟩) else none

/-- `MB_STATUS.TX_BUSY`: the last frame of the mailbox has not entered the Truss yet. -/
def mbBusy (s : State) : Bool := (inqGet s 11).any (fun f => f.ctl && f.src == 1)

/-- An adapter hands a frame to its mortise. -/
def offerFrame (m : Nat) (f : InFrame) (s : State) : State := inqSet m (inqGet s m ++ [f]) s

/-- The message R356 and R357 send on a vector (MSIX_SENT counts it): a memory write upstream. One that MSI-X does not let go waits
in the PBA. PRESUMED, log entry 96. -/
def sendMsix (v : Nat) (s : State) : State :=
  if !msixOpen s v then setF ⟨0x3F00, v, 1⟩ 1 s
  else
    let s := bump R.FLT_MSIX_SENT s
    if bit s ⟨R.PSW_CTRL, 0, 1⟩ then offerFrame 5 { tag := 0x28, data := msixTlp s v } s
    else emit (.msix v (msixTlp s v)) (bump64 (R.PCIE_TX_TLPS 0) (linkUse 0 s))

/-- Messages that wait in the PBA and may go now are sent. -/
def msixPending (s : State) : State :=
  forAll (List.range 32) (fun v s => if bit s ⟨0x3F00, v, 1⟩ && msixOpen s v then sendMsix v (setF ⟨0x3F00, v, 1⟩ 0 s) else s) s

/-- A record reaches the receive queue of 512 entries (R357). -/
def receiveRecord (hid : Nat) (r : Record) (s : State) : State :=
  if 512 ≤ s.flt.rxq.length then setF ⟨R.FLT_STATUS, 5, 1⟩ 1 (bump R.FLT_RX_DROPS s)
  else
    let was := s.flt.rxq.isEmpty
    let s := bump64 R.FLT_RX_RECORDS { s with flt := { s.flt with rxq := s.flt.rxq ++ [(hid, r)] } }
    if was then sendMsix (getF s ⟨R.FLT_CTRL, 16, 5⟩) s else s

/-- The 16 bytes of an event record, and the record of 16 bytes (Table 8-8). -/
def recordBytes (r : Record) : List Byte :=
  bytesBE 6 r.sec ++ bytesBE 4 r.ns ++ [BitVec.ofNat 8 r.source, BitVec.ofNat 8 r.kindEdge] ++ bytesBE 2 r.seq
    ++ bytesBE 2 r.detail

def recordOf (b : List Byte) : Record where
  sec := ofBE (sub b 0 6)
  ns := ofBE (sub b 6 4)
  source := byteAt b 10
  kindEdge := byteAt b 11
  seq := ofBE (sub b 12 2)
  detail := ofBE (sub b 14 2)

/-- A TID 2 frame that came in on link `n` (R91) goes on towards the host, or its records are delivered here. A delivered one
whose record count or length is not that of R91 is discarded and counted in FORMAT_ERR, for which the spec has no word.
DESIGN CHOICE, log entry 88. -/
def eventFrame (n : Nat) (frame : List Byte) (s : State) : State :=
  if crc32Upd 0xFFFFFFFF frame ≠ crcResidue then bump R.TUN_CRC_ERR s
  else match evtRoute s with
    | none => bump R.TUN_EVT_UNROUTED s
    | some m =>
      if m ≤ 4 then placeControl n m 2 frame s
      else
        let k := byteAt frame 1
        if k = 0 ∨ 3 < k ∨ frame.length ≠ 8 + 16 * k then bump R.TUN_FORMAT_ERR s
        else forAll (List.range k)
          (fun j => receiveRecord (byteAt frame 0 % 64) (recordOf (sub frame (4 + 16 * j) 16))) s

/-- The words of a control frame: its cells up to the EOF, and their bytes. -/
def frameRun : List BobWord → List BobWord × List Byte
  | [] => ([], [])
  | w :: ws =>
    let data := (wordPayload w).take (vlenOf (wordHeader w))
    if (wordHeader w).getLsbD 41 then ([w], data)
    else let (r, d) := frameRun ws; (w :: r, data ++ d)

/-- The words at the head of link `n`'s ingress bobbin queue leave it: a tunnel cell, or a control frame up to its EOF. -/
def drainOne (n : Nat) (s : State) : State :=
  let b := bqGet s n
  let w := bobHead b.words
  if w.mark = .idle ∨ !carries s n then s
  else
    let tid := bits (wordHeader w).toNat 56 8
    let (run, bytes) := if tid = 0 ∨ tid = 2 then frameRun b.words else ([w], [])
    let s := bqSet n { b with words := b.words.drop run.length, left := b.left - run.length, old := b.old - run.length } s
    let s := forAll (run.drop b.old) (fun w s => returnCredit n (wordClass w) s) (forAll run (fun _ s => packetIn n s) s)
    if tid = 0 then tid0Frame n bytes s
    else if tid = 2 then eventFrame n bytes s
    else tunnelCell n (wordHeader w) (wordPayload w) s

/-- Cells leave the ingress bobbin queue of a link; a flush comes first. A frozen ingress holds the partner's cells by their credit, which
is not returned (Table 13-7 step 3). DEDUCED, log entry 43. -/
def drainIn (n : Nat) : Nat → State → State
  | 0, s => s
  | k + 1, s => drainIn n k (drainOne n (flushIn n s))

/-- The Truss takes what the ingress bobbin queue of a link holds. -/
def drainLink (n : Nat) (s : State) : State := drainIn n ((bqGet s n).words.length + 1) s

/-- The ingress is released: credits return, and adapters may offer frames again. -/
def thaw (s : State) : State := { s with pair := { s.pair with frozen := false } }

/-- A cell has joined the ingress bobbin queue of link `n`: it goes on at once, or is held there while the queue has room
(R32). -/
def arrived (n : Nat) (held : Bool) (s : State) : State :=
  if held && decide ((bqGet s n).words.length ≤ 32) then s else drainLink n s

/-- TUNNEL_CELL_ARRIVAL (R77): a cell of TID 3 or above reaches the ingress of link `n`, whose rim's clock must run (R335).
DEDUCED, log entry 43. -/
def execTunnelCellArrival (n : Port) (header : BitVec 64) (cell : CellIn) (s : State) : Res :=
  hub s (fun s =>
    if bits header.toNat 56 8 < 3 ∨ linkState s n ≠ lsUp ∨ !rimRuns s n then s
    else if natGet (lGet s n).rxCredit (bits header.toNat 43 3) = 0 then creditOverrun n s
    else arrived n cell.held (pushCell n header cell.payload s))

/-- The cells of a control frame reach the ingress of a link. -/
def controlArrives (n tid : Nat) (frame : List Byte) (s : State) : State :=
  arrived n false (forAll (frameCells tid 3 frame)
    (fun c s => pushCell n (mkHeader tid 0 3 c.sof c.eof false false c.data.length 0 0) c.data s) s)

/-- TID0_FRAME_ARRIVAL (R90): a whole TID 0 frame (with its CRC-32C) on a link. -/
def execTid0FrameArrival (n : Port) (frame : List Byte) (s : State) : Res :=
  hub s (fun s => if linkState s n ≠ lsUp ∨ !rimRuns s n then s else controlArrives n 0 frame s)

/-- EVENT_CELL_ARRIVAL (R91): a TID 2 frame on a link. -/
def execEventCellArrival (n : Port) (frame : List Byte) (s : State) : Res :=
  hub s (fun s => if linkState s n ≠ lsUp ∨ !rimRuns s n then s else controlArrives n 2 frame s)

/-! ### ORIGIN_CELL_INGRESS and WAITING_CELL_RETRY -/

/-- A frame with its ingress timestamp (R78) and CRC-32C. -/
def frameBytes (stamp : Option Plumb) (data : List Byte) : List Byte :=
  let body := (match stamp with | some p => bytesBE 6 p.sec ++ bytesBE 4 p.ns | none => []) ++ data
  body ++ bytesLE 4 (crc32c body).toNat

/-- The head frame of a mortise waits there; each wait is counted (R86, R102). -/
def waitHead (m : Nat) (s : State) : State :=
  if s.waiting.contains m then s else bump R.BUF_WAIT_EVENTS { s with waiting := s.waiting ++ [m] }

/-- The frame at the head of adapter mortise `m` is lost half placed: what its control queue holds of it goes, and it is counted once
(R79). -/
def loseCtl (m r : Nat) (s : State) : State :=
  bump R.TUN_CRC_ERR (removeLast (256 + r) (halfPlacedAt s m r) (dropHead m s))

/-- The cells of a TID 0 frame at the head of mortise `m` go to control queue `q` one by one, as each finds a place; the next one
waits where none does (Table 5-2), and a frame that loses one to a sweep goes whole (R79, R117). -/
def placeCtl (m q : Nat) : Nat → State → State
  | 0, s => s
  | n + 1, s =>
    match inqGet s m with
    | [] => s
    | f :: fs =>
      let bytes := f.rest.getD (frameBytes none f.data)
      let eof := decide (bytes.length ≤ 56)
      let c : QCell := { eg := q - 256, cls := 3, sof := f.rest.isNone, eof := eof, data := bytes.take 56 }
      let (w, s1) := place q m true c (usePointers q s)
      if w = .waits then waitHead m s
      else if w = .dropped then loseCtl m (q - 256) s1
      else
        let s1 := xfer m { s1 with waiting := s1.waiting.filter (· != m) }
        if eof then inqSet m fs (packetIn m s1)
        else placeCtl m q n (inqSet m ({ f with rest := some (bytes.drop 56), via := some (q - 256) } :: fs) s1)

/-- A TID 0 frame of this hub at an adapter's mortise goes to its control queue; its later cells go where its SOF went. It waits while
another adapter's frame is being placed there. DESIGN CHOICE, log entry 102. -/
def ingressCtl (m : Nat) (f : InFrame) (s : State) : State :=
  match f.via.or (routeTid0 s (byteAt f.data 0 % 64)) with
  | none => bump R.TUN_TID0_UNROUTED (dropHead m s)
  | some r => if f.via.isNone && halfPlaced s r != 0 then waitHead m s else placeCtl m (256 + r) (f.data.length + 1) (accrue r s)

/-- The head frame of mortise `m` under its tag: the tunnel that takes it, or what becomes of it where none can. A frame under
a tag that no valid entry has is discarded and counted in FORMAT_ERR, for which the spec has no word at a local mortise.
DESIGN CHOICE, log entry 88. -/
def ingressCell (m : Nat) (f : InFrame) (fs : List InFrame) (s : State) : State :=
  let sof := f.rest.isNone
  match lookup s m f.tag sof with
  | none => bump R.TUN_FORMAT_ERR (dropHead m s)
  | some (i, e) =>
    let t := tGet s i
    let stamp := if e.tspAdd then some (f.stamp.getD (rimPlumb s 50)) else none
    let bytes := f.rest.getD (frameBytes stamp f.data)
    if t.halted || !forwards s i then addCnt (entCnt R.TUN_ENT_DROPS i) ((bytes.length + 55) / 56) (dropHead m s)
    else if t.awaitSof && !sof then dropHead m s
    else if e.reliable && decide (1023 ≤ outstanding s i) then waitHead m s
    else
      let eof := bytes.length ≤ 56
      let c : QCell := { seq := t.nextSeq, sof := sof, eof := eof, tsp := sof && e.tspAdd, data := bytes.take 56 }
      let (w, s1) := takeCell i e m f.src c (tSet i { t with nextSeq := (t.nextSeq + 1) % 1024 } s)
      if w then waitHead m s
      else
        let s1 := xfer m { s1 with waiting := s1.waiting.filter (· != m) }
        if eof then inqSet m fs (packetIn m s1) else inqSet m ({ f with rest := some (bytes.drop 56) } :: fs) s1

/-- The head item of mortise `m` enters the Truss, or waits (R84, R86, R102). A frozen ingress takes a frame that has begun to its end and
holds what follows (Table 13-7 step 3); a crossing that cannot carry holds everything (R335, R339). -/
def ingress (m : Nat) (s : State) : State :=
  if !carries s m || (s.pair.frozen && !(inqGet s m).head?.any (fun f => f.rest.isSome)) then s
  else
    let s := flushIn m s
    match inqGet s m with
    | [] => { s with waiting := s.waiting.filter (· != m) }
    | f :: fs => if f.ctl then ingressCtl m f s else ingressCell m f fs s

/-- A TID 0 frame that an adapter itself originates, without its CRC: it enters like any other frame of its mortise. -/
def offerCtlAt (m : Nat) (data : List Byte) (s : State) : State := ingress m (offerFrame m { tag := 0, data := data, ctl := true } s)

/-- A TID 0 frame of M11 (R427). -/
def offerCtl (data : List Byte) (s : State) : State := offerCtlAt 11 data s

/-- A mortise at which an adapter may originate tunnels (Table 1-2, Table 4-4). -/
def isOrigin (m : Nat) : Bool := m == 5 || m == 6 || m == 7 || m == 8 || m == 11 || m == 12 || m == 13

/-- A header packet that a virtual USB 3 port sends, at M8 (R244). -/
def usb3Packet (m : Nat) (tag : Nat) (data : List Byte) : Bool :=
  m == 8 && (decide (tag ≤ 3) || tag == 8) && byteAt data 0 == 1

/-- The words that wait in the ingress bobbin queue of local mortise `m`, and behind it in its adapter. -/
def inWords (s : State) (m : Nat) : Nat := ((inqGet s m).map (fun f => stagesOf (f.rest.getD f.data).length)).sum

/-- The producer of local mortise `m` may write: its rim's clock runs, and the queue is not FULL (R334, R335). -/
def mayOffer (s : State) (m : Nat) : Bool :=
  rimRuns s m && decide (inWords s m < bqDepth m)

/-- The frame an adapter offers is taken, unless it sees FULL or its clock stands (R334, R335). A virtual USB 3 port has 4
header-packet buffers, each free again once its packet has entered the Truss (R244): with none free, no header credit is out, and
nothing is offered. -/
def takeOffer (m tag : Nat) (data : List Byte) (s : State) : State :=
  if !mayOffer s m then s
  else if usb3Packet m tag data then
    if ((inqGet s m).filter (fun f => f.tag == tag && usb3Packet m f.tag f.data)).length < 4 then
      bump64 R.USB3_PKT_TX (offerFrame m { tag := tag, data := data } s)
    else s
  else offerFrame m { tag := tag, data := data } s

/-- ORIGIN_CELL_INGRESS (R84): a local adapter may offer one more frame (its tag and data); the next cell at the head of
mortise `m`'s ingress queue is taken. At a link mortise the Truss takes what its bobbin queue holds. -/
def execOriginCellIngress (m : Mort) (offer : Option (Byte × List Byte)) (s : State) : Res :=
  hub s (fun s =>
    if m.val ≤ 4 then drainLink m s
    else if isOrigin m then
      let s := match offer with
        | some (tag, data) => takeOffer m tag.toNat (data.take 16380) s
        | none => s
      ingress m s
    else s)

/-- WAITING_CELL_RETRY (R102): a waiting cell is tested again when a cell leaves the Loft. DEDUCED, log entry 41. -/
def execWaitingCellRetry (m : Mort) (s : State) : Res :=
  hub s (fun s => if s.waiting.contains m.val then ingress m s else s)

/-! ### End-to-end control (R87–R89) -/

/-- E2E_ACK_TIMER (R87): 10 µs with accepted cells not yet acknowledged. -/
def execE2eAckTimer (i : BitVec 8) (s : State) : Res :=
  hub s (fun s =>
    let t := tGet s i.toNat
    if valid s i.toNat && (entry s i.toNat).terminus && (entry s i.toNat).reliable && decide (0 < t.unacked) then
      sendE2e 0x20 i.toNat (t.e.getD 0) (tSet i.toNat { t with unacked := 0 } s)
    else s)

/-- E2E_GAP_REPEAT_TIMER (R87): E has not advanced since the gap sign. -/
def execE2eGapRepeatTimer (i : BitVec 8) (s : State) : Res :=
  hub s (fun s =>
    match (tGet s i.toNat).gap with
    | some e => if valid s i.toNat then sendE2e 0x21 i.toNat e s else s
    | none => s)

/-- Frees the outstanding cells before `e`; the answer says whether any was freed. -/
def ackUpTo (i e : Nat) (s : State) : Bool × State :=
  let t := tGet s i
  match t.retained.head? with
  | none => (false, s)
  | some h =>
    let k := (e + 1024 - h.seq) % 1024
    if k = 0 ∨ t.retained.length < k then (false, s)
    else
      let kept := t.retained.drop k
      let again := t.resend.filter (fun c => kept.any (fun d => d.seq == c.seq))
      (true, tSet i { t with retained := kept, resend := again, expiries := 0 } s)

/-- E2E_ACK_RECEIVED (R88): cells before E are free; an advance ends STALLED. -/
def execE2eAckReceived (i : BitVec 8) (e : BitVec 10) (s : State) : Res :=
  hub s (fun s =>
    if reliableOrigin s i.toNat then
      let (adv, s) := ackUpTo i.toNat e.toNat s
      if adv && !(tGet s i.toNat).broken then setF (bitIn (R.TUN_STALLED 0) i.toNat) 0 s else s
    else s)

/-- E2E_GAP_RECEIVED (R88): retained cells from E onwards go again; an E outside the retained set after a takeover marks
the tunnel STALLED (R317). -/
def execE2eGapReceived (i : BitVec 8) (e : BitVec 10) (s : State) : Res :=
  hub s (fun s =>
    let j := i.toNat
    if reliableOrigin s j then
      let t := tGet s j
      if t.retained.any (fun c => c.seq == e.toNat) then resendFrom j e.toNat s
      else if holdsRole s && decide (e.toNat ≠ t.nextSeq) && decide ((qGet s j).onchip.all (fun c => c.seq != e.toNat)) then
        markStalled j s
      else s
    else s)

/-- RESUME_RECEIVED (R89): every retained cell goes again at once. -/
def execResumeReceived (i : BitVec 8) (s : State) : Res :=
  hub s (fun s => if reliableOrigin s i.toNat then resendAll i.toNat s else s)

/-- E2E_LIMIT (0 acts as 1). -/
def e2eLimit (s : State) : Nat := max 1 (getF s ⟨R.TUN_CTRL, 16, 8⟩)

/-- E2E_TIMER_EXPIRY (R88): with cells unacknowledged, every retained cell goes again; after E2E_LIMIT expiries in a row
the tunnel is STALLED. -/
def execE2eTimerExpiry (i : BitVec 8) (s : State) : Res :=
  hub s (fun s =>
    let j := i.toNat
    if reliableOrigin s j && decide (0 < outstanding s j) then
      let s := resendAll j (bump R.TUN_E2E_EXPIRIES s)
      let t := tGet s j
      let s := tSet j { t with expiries := t.expiries + 1 } s
      if e2eLimit s ≤ t.expiries + 1 then markStalled j s else s
    else s)

/-! ### The Loft's own events -/

/-- OVERFLOW_FILL (R105): one fill of a SPILLING queue. -/
def execOverflowFill (q : Fin 272) (ecc : DramEcc) (s : State) : Res := hub s (fill q ecc)

/-- QUEUE_POINTER_MISMATCH (R117): the two copies of a queue's pointers differ. -/
def execQueuePointerMismatch (q : Fin 272) (s : State) : Res := hub s (queueReset q.val)

/-- QUEUE_SWEEP_DONE (R117): the queue is empty and takes cells again. -/
def execQueueSweepDone (q : Fin 272) (s : State) : Res :=
  hub s (fun s => let qu := qGet s q; qSet q { qu with sweeping := false } s)

end Sys2Proof.Machine
end

