-- ==== Sys2Proof/Machine/Fec.lean ====
section
/-!
DEFINITION. The RS(544,514) code of a lane: 10-bit symbols over GF(2^10) with the field and generator of IEEE 802.3 clause 91
(03_veserlink_cable_link.md R44). PRESUMED, log entry 91: the spec names the code and the clause, the polynomials are the
clause's.
-/
namespace Sys2Proof.Machine

/-- Twice an element: the field polynomial is x^10 + x^3 + 1. -/
def gfDouble (a : Nat) : Nat := if 512 ≤ a then (2 * a) ^^^ 0x409 else 2 * a

/-- The product of two elements. -/
def gfMul (a b : Nat) : Nat :=
  (List.range 10).foldl (fun r i => if b.testBit (9 - i) then gfDouble r ^^^ a else gfDouble r) 0

/-- The `j`-th power of α. -/
def gfPow (j : Nat) : Nat := (List.range j).foldl (fun r _ => gfDouble r) 1

/-- The generator: the product of x − α^j for j from 0 to 29, its leading 1 left out, highest degree first. -/
def rsGenerator : List Nat :=
  ((List.range 30).foldl (fun g j => List.zipWith (· ^^^ ·) (g ++ [0]) (0 :: g.map (gfMul (gfPow j)))) [1]).drop 1

/-- One message symbol enters the encoder, whose 30 parity symbols stand highest first. -/
def rsStep (g parity : List Nat) (m : Nat) : List Nat :=
  let f := m ^^^ parity.getD 0 0
  List.zipWith (· ^^^ ·) (parity.drop 1 ++ [0]) (g.map (gfMul f))

/-- The codeword of 514 message symbols: the message, then its 30 parity symbols. -/
def rsEncode (msg : List Nat) : List Nat :=
  let g := rsGenerator
  msg ++ msg.foldl (rsStep g) (List.replicate 30 0)

/-- The eight 10-bit symbols of an 80-bit unit, the first bit sent in the highest place of the first symbol. -/
def unitSymbols (unit : List Byte) : List Nat :=
  (List.range 8).map (fun i => bits (ofBE unit) (70 - 10 * i) 10)

end Sys2Proof.Machine
end

