-- ==== Sys2Proof/Machine/Cipher.lean ====
section
/-!
DEFINITION. The link cipher on the block stream (17_lifecycle_and_keys.md R404–R408) and the forming of link blocks
(03_veserlink_cable_link.md R44, R45, Table 3-2).
-/
namespace Sys2Proof.Machine

abbrev fCipher (n : Nat) : Fld := ⟨R.LINK_STATUS n, 16, 1⟩
abbrev fKph (n : Nat) : Fld := ⟨R.LINK_STATUS n, 17, 1⟩
abbrev fTxLanes (n : Nat) : Fld := ⟨R.LINK_STATUS n, 8, 4⟩

/-- The lanes a link has. -/
def linkLanes (n : Nat) : List Nat := if n = 4 then [0] else [0, 1, 2, 3]

/-- The replay buffer has room for another block (R55). -/
def replayRoom (s : State) (n : Nat) : Bool := decide ((lGet s n).replay.length < 63)

/-- Data stands still for a re-allotment (Table 3-6 steps 3 to 5). -/
def dataStands (s : State) (n : Nat) : Bool := (lGet s n).splitStep == .acked || (lGet s n).splitStep == .turning

/-- Generation of block `b` of a direction: 2^23 segments of 64 blocks each (R407). -/
def generation (b : Nat) : Nat := b / 64 / 2 ^ 23

/-- The key of a generation: the session key itself, then keys derived from it (R407). -/
def genKey (key : List Byte) (g : Nat) : List Byte := if g = 0 then key else kdf key "VL-REKEY" (bytesBE 4 g) 256

/-- The IV of segment `s`: salt and segment number (R405). -/
def segIv (salt : List Byte) (seg : Nat) : List Byte := salt ++ bytesBE 8 seg

/-- The 512 bytes of block `b` of a direction through the counter-mode cipher, either way. -/
def cryptBlock (key salt : List Byte) (b : Nat) (data : List Byte) : List Byte :=
  gcmCtr (genKey key (generation b)) (segIv salt (b / 64)) (2 + 32 * (b % 64)) data

/-- The high word of a trailer: LSEQ, KPH and BTYPE (Table 3-2). -/
def trailerHi (lseq kph btype : Nat) : Nat := lseq % 4096 * 2 ^ 20 + kph % 2 * 2 ^ 19 + btype % 8 * 2 ^ 16

/-- The BCRC of a block over its bytes as they travel and the high trailer word. -/
def blockCrc (data : List Byte) (hi : Nat) : BitVec 32 := crc32c (data ++ bytesBE 4 hi)

/-- A link-control cell: TID 1, its payload from byte 0 (Table 3-5), with the credits it returns. -/
def ctlCell (payload : List Byte) (crdCls crdCnt : Nat) : List Byte :=
  bytesBE 8 (mkHeader 1 0 0 true true false false (max 1 (min 56 payload.length)) crdCls crdCnt).toNat ++ padTo 56 payload

/-- A tunnel cell as it leaves a link. -/
def wireCell (c : QCell) (crdCls crdCnt : Nat) : List Byte :=
  bytesBE 8 (mkHeader c.tid c.seq c.cls c.sof c.eof c.abt c.tsp c.data.length crdCls crdCnt).toNat ++ padTo 56 c.data

/-- The class whose credits the next outgoing cell returns, and how many. -/
def nextReturn (l : Link) : Nat × Nat :=
  match (List.range 8).find? (fun c => natGet l.crdRet c ≠ 0) with
  | some c => (c, min 4095 (natGet l.crdRet c))
  | none => (0, 0)

/-- The next outgoing cell of a link joins the block being formed; credits due ride in it (R58), but for those of a frozen ingress, which
hold the partner's cells back (Table 13-7 step 3). -/
def addCell (n : Nat) (mk : Nat → Nat → List Byte) (tunnel : Bool) (s : State) : State :=
  let l := lGet s n
  let (c, k) := if s.pair.frozen then (0, 0) else nextReturn l
  lSet n { l with forming := l.forming ++ [(mk c k, tunnel)],
                  crdRet := natSet l.crdRet c (natGet l.crdRet c - k),
                  rxCredit := natSet l.rxCredit c (natGet l.rxCredit c + k) } s

/-- The 80-bit units of a block are dealt to the transmit lanes, round-robin from the lowest; a lane with 514 symbols sends
their codeword (R44). PRESUMED, log entry 91. -/
def dealUnits (n : Nat) (lanes : List Nat) (units : List (List Byte)) (s : State) : State :=
  forAll units (fun u s =>
    let l := lGet s n
    let k := lanes.getD (l.dealt % lanes.length) 0
    let syms := smGet (fun _ => []) l.fec k ++ unitSymbols u
    let whole := decide (514 ≤ syms.length)
    let s := lSet n { l with dealt := l.dealt + 1,
                             fec := smSet (fun _ => []) l.fec k (if whole then syms.drop 514 else syms) } s
    if whole then emit (.codeword n k (rsEncode (syms.take 514))) s else s) s

/-- The fence holds the transmitters of a cable port electrically idle (R308). -/
def txIdle (s : State) (n : Nat) : Bool := s.pair.fenced && decide (n ≤ 3)

/-- A link block goes out, first or again: its 520 bytes as a stream of 80-bit units on the lanes; with the transmitters idle it does
not. -/
def wire (n : Nat) (b : TxBlock) (s : State) : State :=
  let lanes := (linkLanes n).filter (getF s (fTxLanes n)).testBit
  if txIdle s n then s
  else
    let s := emit (.linkBlock n b.lseq b.btype b.bytes) s
    if lanes.isEmpty then s else dealUnits n lanes (chunksOf 10 52 b.bytes) s

/-- The block is formed, enciphered where a session holds, kept for replay and sent; a completed segment owes its CTAG
(R405). `turn` makes it the TURN block of a re-allotment (Table 3-6). -/
def sendBlock (n : Nat) (turn : Bool) (s : State) : State :=
  let l := lGet s n
  let plain := (l.forming.map Prod.fst).flatten
  let tunnels := (l.forming.filter (fun p => p.2)).length
  let allNull := l.forming.all (fun p => !p.2 && byteAt p.1 8 == 0)
  let btype := if turn then 1 else if allNull then 2 else 0
  let keyed := bit s (fCipher n)
  let b := l.txBlocks
  let g := generation b
  let data := if keyed then cryptBlock l.keyTx l.saltTx b plain else plain
  let hi := trailerHi l.txSeq (if keyed then g else 0) btype
  let bytes := data ++ bytesBE 4 hi ++ bytesBE 4 (blockCrc data hi).toNat
  let aad := if keyed then l.txAad ++ bytesBE 4 hi else []
  let ct := if keyed then l.txCt ++ data else []
  let full := keyed && b % 64 == 63
  let block : TxBlock := ⟨l.txSeq, btype, bytes, tunnels⟩
  let l := { l with forming := [], txSeq := (l.txSeq + 1) % 4096, txBlocks := b + 1,
                    lastCell := if allNull then l.lastCell else s.ticks, replay := l.replay ++ [block],
                    txAad := if full then [] else aad, txCt := if full then [] else ct }
  let s := if (bqGet s (n + 16)).flush then bqSet (n + 16) { bqGet s (n + 16) with left := 0 } s else s
  let s := bump64 (R.LINK_BLOCKS_TX n) (lSet n l s)
  let s := wire n block (if keyed then setF (fKph n) (g % 2) s else s)
  if full then
    let tag := gcmTag (genKey l.keyTx g) (segIv l.saltTx (b / 64)) aad ct
    let l := lGet s n
    lSet n { l with ctlOut := ([0x07] ++ bytesBE 8 (b / 64) ++ tag) :: l.ctlOut } s
  else s

/-- Fills the block with NULL cells and sends it (R45). -/
def finishBlock (n : Nat) (turn : Bool) (s : State) : State :=
  let k := 8 - (lGet s n).forming.length
  sendBlock n turn ((List.range k).foldl (fun s _ => addCell n (ctlCell [0x00]) false s) s)

/-- Sends the block once it holds 8 cells, or at its end. -/
def maybeSend (n : Nat) (blockEnd : Bool) (s : State) : State :=
  if 8 ≤ (lGet s n).forming.length ∨ blockEnd then finishBlock n false s else s

end Sys2Proof.Machine
end

