-- ==== Sys2Proof/Machine/Inbound.lean ====
section
/-!
DEFINITION. The Dowel bridge as the switch sees it (09_pcie_and_dowel_bridge.md R226, R231, R232, Table 9-9): its windows, its work, and
the completions of the reads that it makes for a local master.
-/
namespace Sys2Proof.Machine

/-! ### Windows (Table 9-9) -/

/-- A window's control fields, committed. -/
structure Window where
  en : Bool
  cs : Nat
  width : Nat
  prefetch : Bool
  posted : Bool
  swap : Nat
  target : Bool
  size : Nat
  lb : Nat
  deriving DecidableEq, Repr

/-- Window fields of a control word and a local base. -/
def windowOf (w lb : Nat) : Window where
  en := bits w 0 1 == 1
  cs := bits w 1 2
  width := bits w 3 2
  prefetch := bits w 5 1 == 1
  posted := bits w 6 1 == 1
  swap := bits w 7 2
  target := bits w 9 1 == 1
  size := 4096 * 2 ^ bits w 12 4
  lb := bits lb 0 26

def outWindow (s : State) (w : Nat) : Window := windowOf (actReg s (R.BRG_OW_CTRL w)).toNat (actReg s (R.BRG_OW_LB w)).toNat
def inWindow (s : State) (i : Nat) : Window := windowOf (actReg s (R.BRG_IW_CTRL i)).toNat (actReg s (R.BRG_IW_LB i)).toNat

/-- PCIe base of inbound window `i`. -/
def inPcie (s : State) (i : Nat) : Nat :=
  (actReg s (R.BRG_IW_PCIE_LO i)).toNat + (actReg s (R.BRG_IW_PCIE_HI i)).toNat * 2 ^ 32

/-- The inbound window that holds a local address. -/
def inboundWindow (s : State) (a : Nat) : Option Nat :=
  (List.range 4).find? (fun i => let w := inWindow s i; w.en && decide (w.lb ≤ a) && decide (a < w.lb + w.size))

/-! ### State of the bridge -/

def brgEn (s : State) : Bool := bit s ⟨R.BRG_CTRL, 0, 1⟩

/-- A job writes posted data from the 2 KiB write buffer or alone. -/
def LbJob.isWrite (j : LbJob) : Bool := match j.who with | .write _ => true | .frame => true | _ => false

def slotGet (b : Brg) (k : Nat) : Option LbSlot := smGet (fun _ => none) b.slots k
def slotSet (k : Nat) (v : Option LbSlot) (s : State) : State :=
  { s with brg := { s.brg with slots := smSet (fun _ => none) s.brg.slots k v } }

/-- `BRG.STATUS` follows the bridge: grant, slots busy, write buffer empty. -/
def brgSync (s : State) : State :=
  let busy := ((List.range 4).map (fun k => if (slotGet s.brg k).isSome then 2 ^ k else 0)).sum
  setF ⟨R.BRG_STATUS, 2, 4⟩ busy (setF ⟨R.BRG_STATUS, 6, 1⟩ (if s.brg.jobs.any LbJob.isWrite then 0 else 1) s)

/-- Every job there is, in order of arrival. -/
def allJobs (s : State) : List LbJob := s.brg.jobs ++ s.brg.held

/-! ### Completions of inbound reads (R231, R232) -/

/-- Bytes back on the lanes. -/
def bytesToLanes (swap : Nat) (data : List Byte) : List Byte :=
  if swap = 1 then ((chunksOf 4 data.length data).map List.reverse).flatten else data

/-- Posted writes received before a completion are performed: no write job up to serial `n` is left. -/
def performedUpTo (s : State) (n : Nat) : Bool := (allJobs s).all (fun j => !j.isWrite || decide (n < j.serial))

/-- The answer that a finished read gives: data, or `LB_ERR_N` for status UR or CA. -/
def answerRead (swap status : Nat) (data : List Byte) (s : State) : State :=
  if status = 0 then emit (.lbAnswer 0 (bytesToLanes swap data)) s
  else raise 89 0x100 (bump R.BRG_NP_ERR (emit (.lbAnswer 2 []) s))

/-- The last serial given out. -/
def lastSerial (s : State) : Nat := s.brg.nextSerial - 1

/-- SWAP of the window that holds a slot's address. -/
def slotSwap (s : State) (d : LbSlot) : Nat := match inboundWindow s d.addr with | some i => (inWindow s i).swap | none => 0

/-- A completion is one more part of what an inbound read asked for, or all of it: with the last part, or with a status that is not
SC, the read is done. -/
def LbSlot.take (d : LbSlot) (status : Nat) (data : List Byte) (after : Nat) : LbSlot :=
  if status = 0 ∧ d.part.length + data.length < 4 * d.beats then { d with part := d.part ++ data }
  else { d with done := some (status, d.part ++ data), after := after }

/-- A completion of the read that is still on the bus: answered at once where R232 allows it. -/
def completeCurrent (status : Nat) (data : List Byte) (d : LbSlot) (s : State) : State :=
  let d' := d.take status data (lastSerial s)
  match d'.done with
  | some (st, bytes) =>
    if performedUpTo s d'.after then answerRead (slotSwap s d) st bytes { s with brg := { s.brg with current := none } }
    else { s with brg := { s.brg with current := some d' } }
  | none => { s with brg := { s.brg with current := some d' } }

/-- A completion reaches the bridge function with the tag of one of its reads. -/
def bridgeCompletion (tag status : Nat) (data : List Byte) (s : State) : State :=
  let mine (d : Option LbSlot) : Bool := d.any (fun d => d.tag == tag && d.done.isNone)
  if brgEn s && mine s.brg.current then s.brg.current.elim s (fun d => completeCurrent status data d s)
  else match (List.range 4).find? (fun k => mine (slotGet s.brg k)) with
    | some k => slotSet k ((slotGet s.brg k).map (fun d => d.take status data (lastSerial s))) s
    | none => s

end Sys2Proof.Machine
end

