-- ==== Sys2Proof/Machine/Tlp.lean ====
section
/-!
DEFINITION. TLPs as frames (09_pcie_and_dowel_bridge.md R216–R218): what a header says, the switch rules on what comes from a
VDP, and completions the switch makes itself. Header layout and switch rules are those of the PCI Express Base Specification,
which Table 9-1 names. PRESUMED, log entry 96.
-/
namespace Sys2Proof.Machine

def dVdp : Nat → Vdp := fun _ => {}
def vdpGet (s : State) (v : Nat) : Vdp := smGet dVdp s.pcie.vdp v
def vdpSet (v : Nat) (x : Vdp) (s : State) : State := { s with pcie := { s.pcie with vdp := smSet dVdp s.pcie.vdp v x } }

/-- The M5 tag of a VDP (Table 9-2). -/
def vdpTag (v : Nat) : Nat := 0x20 + v

/-- Link Active of a VDP. -/
abbrev fVdp (v : Nat) : Fld := ⟨R.PSW_VDP_STATUS, v, 1⟩

/-- The upstream side is a tunnel (Table 9-2). -/
def upIsTunnel (s : State) : Bool := bit s ⟨R.PSW_CTRL, 0, 1⟩

/-! ### Headers -/

/-- The three kinds of TLP. -/
inductive TlpKind
  | posted | nonPosted | completion
  deriving DecidableEq, Repr

/-- The kind of a TLP: completions have type 0b01010 or 0b01011, posted ones are memory writes and messages. -/
def tlpKind (tlp : List Byte) : TlpKind :=
  let b := byteAt tlp 0
  let ty := b % 32
  if ty = 0x0A ∨ ty = 0x0B then .completion
  else if (ty = 0 ∧ 64 ≤ b) ∨ (0x10 ≤ ty ∧ ty < 0x18) then .posted
  else .nonPosted

/-- Requester ID and tag of a request, or of the request that a completion answers. -/
def tlpTag (tlp : List Byte) : Nat :=
  match tlpKind tlp with
  | .completion => ofBE (sub tlp 8 2) * 256 + byteAt tlp 10
  | _ => ofBE (sub tlp 4 2) * 256 + byteAt tlp 6

/-- The bus that requested. -/
def tlpBus (tlp : List Byte) : Nat := tlpTag tlp / 65536

/-- TYPE, header length, payload length and payload of a TLP. -/
def tlpType (tlp : List Byte) : Nat := byteAt tlp 0 % 32
def tlpHeader (tlp : List Byte) : Nat := if (byteAt tlp 0).testBit 5 then 16 else 12
def tlpDws (tlp : List Byte) : Nat := let n := byteAt tlp 2 % 4 * 256 + byteAt tlp 3; if n = 0 then 1024 else n
def tlpData (tlp : List Byte) : List Byte :=
  if (byteAt tlp 0).testBit 6 then sub tlp (tlpHeader tlp) (4 * tlpDws tlp) else []

/-- The address of a memory or I/O request, aligned to a double word. -/
def tlpAddr (tlp : List Byte) : Nat := ofBE (sub tlp 8 (tlpHeader tlp - 8)) / 4 * 4

/-- Which bytes of the double words of a request are enabled. -/
def tlpEnables (tlp : List Byte) : List Bool :=
  let be := byteAt tlp 7
  let n := tlpDws tlp
  (List.range (4 * n)).map (fun i =>
    if i < 4 then be.testBit i else if 4 * (n - 1) ≤ i then be.testBit (4 + i % 4) else true)

/-- A memory, a configuration, and a message request. -/
def isMem (tlp : List Byte) : Bool := tlpType tlp == 0 || tlpType tlp == 1
def isCfg (tlp : List Byte) : Bool := tlpType tlp == 4 || tlpType tlp == 5
def isMsg (tlp : List Byte) : Bool := tlpType tlp / 8 == 2

/-- A payload longer than the element allows makes a TLP malformed (Table 9-1). -/
def malformed (s : State) (f : Nat) (tlp : List Byte) : Bool :=
  decide (tlp.length < tlpHeader tlp) || ((byteAt tlp 0).testBit 6 && decide (maxPayload s f < 4 * tlpDws tlp))

/-! ### Towards the upstream side and into a VDP -/

/-- A TLP leaves on the upstream side: into the tunnel with M5 tag 0x28, or on the physical link as `o`. -/
def sendUp (o : Output) (tlp : List Byte) (s : State) : State :=
  if upIsTunnel s then offerFrame 5 { tag := 0x28, data := tlp } s
  else if bit s (fDlUp 0) then emit o (bump64 (R.PCIE_TX_TLPS 0) (linkUse 0 s))
  else s

/-! ### Errors (Table 9-11) -/

/-- The PCIE page that counts for an element: PCIED for VDP4, PCIEU for every other. DESIGN CHOICE, log entry 98. -/
def errPage (f : Nat) : Nat := if f = cVdp 4 then 1 else 0

/-- Detail of source 75: the function, 0x10 + the number of a VDP, 0x20 for the bridge function. DESIGN CHOICE, log entry 98. -/
def errDetail (f : Nat) : Nat := if f ≤ 1 then f else if f = cBridge then 0x20 else 0x10 + (f - 2)

/-- Element `f` sends error messages of its own: 0 correctable, 1 non-fatal, 2 fatal. -/
def errEnabled (s : State) (f kind : Nat) : Bool := cfgBit s f 18 kind || (kind != 0 && cfgBit s f 1 8)

/-- A type 1 element passes error messages on from below. -/
def errPasses (s : State) (f kind : Nat) : Bool := cfgBit s f 15 17 && (kind == 0 || cfgBit s f 1 8)

/-- An error message of element `f` finds its way to the upstream side. -/
def errReaches (s : State) (f kind : Nat) : Bool :=
  decide (f ≤ 1) || ((f != cBridge || errPasses s (cVdp 5) kind) && errPasses s cUp kind)

/-- Codes of ERR_COR, ERR_NONFATAL and ERR_FATAL. -/
def errCode (kind : Nat) : Nat := if kind = 2 then 0x33 else 0x30 + kind

/-- An error message of element `f` goes to the root complex, where it is enabled all the way. -/
def sendErr (f kind : Nat) (s : State) : State :=
  if errEnabled s f kind && errReaches s f kind then
    let tlp : List Byte := [0x30, 0, 0, 0] ++ bytesBE 2 (functionId s f) ++ [0, BitVec.ofNat 8 (errCode kind)] ++ List.replicate 8 0
    sendUp (.deliver 5 0x28 tlp false) tlp s
  else s

/-- The first unmasked error since the last was cleared is pointed at, and its TLP's header is kept. -/
def firstError (f i : Nat) (tlp : List Byte) (s : State) : State :=
  if cfgBit s f 66 i || cfgBit s f 65 (cfgF s f 70 0 5) then s
  else forAll [0, 1, 2, 3] (fun k => cfgSet f (71 + k) (BitVec.ofNat 32 (ofBE (sub tlp (4 * k) 4))))
    (cfgSet f 70 (BitVec.ofNat 32 i) s)

/-- An error of element `f` by its bit in the Uncorrectable Error Status is logged there with its TLP, and in the device status by
`st`. -/
def logError (f i st : Nat) (tlp : List Byte) (s : State) : State :=
  cfgOr f 18 (BitVec.ofNat 32 st) (cfgOr f 65 (BitVec.ofNat 32 (2 ^ i)) (firstError f i tlp s))

/-- An uncorrectable error of an element, by its bit in the Uncorrectable Error Status, with the TLP it was found in: it is logged and
counted; unless it is masked, source 75 is raised and the message of its severity sent (R214). -/
def aerError (f i : Nat) (tlp : List Byte) (s : State) : State :=
  let fatal := cfgBit s f 67 i
  let s := bump (R.PCIE_UNCORR_ERR (errPage f)) (logError f i (if fatal then 2 ^ 18 else 2 ^ 17) tlp s)
  if cfgBit s f 66 i then s else raise 75 (errDetail f) (sendErr f (if fatal then 2 else 1) s)

/-- A correctable error of an element, by its bit in the Correctable Error Status. -/
def corError (f i : Nat) (s : State) : State :=
  let s := cfgOr f 18 (BitVec.ofNat 32 (2 ^ 16)) (cfgOr f 68 (BitVec.ofNat 32 (2 ^ i)) s)
  if cfgBit s f 69 i then s else sendErr f 0 s

/-- A request that an element does not support: an advisory non-fatal error where it is answered and not made fatal, else an
uncorrectable one; the device status shows it. -/
def unsupported (f : Nat) (tlp : List Byte) (s : State) : State :=
  let s := cfgOr f 18 (BitVec.ofNat 32 (2 ^ 19)) s
  if tlpKind tlp = .nonPosted ∧ !cfgBit s f 67 20 then corError f 13 (logError f 20 0 tlp s) else aerError f 20 tlp s

/-- Correctable errors and replays that a physical link has had: counted, and source 74 once they pass AER_THRESH within one
second (Table 9-9). DESIGN CHOICE, log entry 98. -/
def linkErrors (k replays corr : Nat) (s : State) : State :=
  let s := addCnt (R.PCIE_CORR_ERR k) corr (addCnt (R.PCIE_REPLAYS k) replays s)
  if corr = 0 then s
  else
    let (t, n) := smGet (fun _ => (0, 0)) s.pcie.corr k
    let (t, n) := if t + 250000000 ≤ s.ticks then (s.ticks, 0) else (t, n)
    let s := corError (if k = 0 then cUp else cVdp 4) 0
      { s with pcie := { s.pcie with corr := smSet (fun _ => (0, 0)) s.pcie.corr k (t, n + corr) } }
    let lim := getF s ⟨R.PCIE_AER_THRESH k, 0, 16⟩
    if n ≤ lim ∧ lim < n + corr then raiseN 74 s else s

/-! ### Completions, and TLPs for a VDP -/

/-- Element `f` completes a request from upstream: status 0 SC, 1 UR, 4 CA. -/
def complete (f tag status lower : Nat) (data : List Byte) (ep : Bool) (s : State) : State :=
  let tlps := cplTlps (maxPayload s f) (functionId s f) tag status lower data ep
  if upIsTunnel s then forAll tlps (fun t => offerFrame 5 { tag := 0x28, data := t }) s
  else if bit s (fDlUp 0) then emit (.completion tag status data ep) (addCnt64 (R.PCIE_TX_TLPS 0) tlps.length (linkUse 0 s))
  else s

/-- The VDP whose buses hold a bus number; the VDP that an address lies behind. -/
def vdpOfBus (s : State) (b : Nat) : Option Nat := (List.range 6).find? (fun v => busBelow s (cVdp v) b)
def vdpOfAddr (s : State) (a : Nat) : Option Nat := (List.range 6).find? (fun v => memBelow s (cVdp v) a)

/-- The switch itself answers a request, where its requester is: behind a VDP, or upstream. -/
def answerId (f tag status : Nat) (s : State) : State :=
  match vdpOfBus s (tag / 65536) with
  | some v =>
    if v < 5 then offerFrame 5 { tag := vdpTag v, data := cplTlp (functionId s f) tag status 4 0 [] false } s
    else bridgeCompletion (tag % 256) status [] s
  | none => complete f tag status 0 [] false s

/-- Element `f` does not support a request: it is answered with UR, or dropped where it is posted. -/
def refuseTlp (f : Nat) (tlp : List Byte) (s : State) : State :=
  let s := unsupported f tlp s
  match tlpKind tlp with
  | .nonPosted => answerId f (tlpTag tlp) 1 s
  | _ => s

/-- A TLP for VDP `v` enters its tunnel (R216); a request that wants an answer is remembered. While Link Active is 0, R218 steps 2
and 3. The bridge function behind VDP5 supports no request, and takes the completions of its own. -/
def toVdp (v : Nat) (tlp : List Byte) (s : State) : State :=
  if v = 5 then
    match tlpKind tlp with
    | .completion => bridgeCompletion (byteAt tlp 10) (byteAt tlp 6 / 32) (tlpData tlp) s
    | _ => refuseTlp cBridge tlp s
  else if bit s (fVdp v) then
    let d := vdpGet s v
    let s := if tlpKind tlp = .nonPosted then vdpSet v { d with np := d.np ++ [tlpTag tlp] } s else s
    offerFrame 5 { tag := vdpTag v, data := tlp } s
  else match tlpKind tlp with
    | .posted => bump R.PSW_POSTED_DISCARDS s
    | .nonPosted => answerId (cVdp v) (tlpTag tlp) 1 s
    | .completion => s

/-! ### What comes from a VDP (R216, Table 9-1) -/

/-- ACS source validation (bit 0), P2P request redirect (2) and P2P completion redirect (3) of a VDP are enabled. -/
def acsOn (s : State) (v i : Nat) : Bool := cfgBit s (cVdp v) 83 (16 + i)

/-- A completion from VDP `v`: by its requester's bus to another VDP, unless it is redirected, or upstream. -/
def vdpCompletion (v : Nat) (o : Output) (tlp : List Byte) (s : State) : State :=
  let d := vdpGet s v
  let s := vdpSet v { d with np := d.np.filter (fun t => t != tlpTag tlp) } s
  match vdpOfBus s (tlpBus tlp) with
  | some w => if acsOn s v 3 || w == v then sendUp o tlp s else toVdp w tlp s
  | none => sendUp o tlp s

/-- A request from VDP `v` that is routed upstream, as far as the upstream port is a bus master. -/
def requestUp (v : Nat) (o : Output) (tlp : List Byte) (s : State) : State :=
  if busMaster s cUp then sendUp o tlp s else refuseTlp (cVdp v) tlp s

/-- A memory request from VDP `v`: to the VDP it lies behind, unless it is redirected; upstream where it lies outside the upstream
port's windows. -/
def vdpMemory (v : Nat) (o : Output) (tlp : List Byte) (s : State) : State :=
  if !busMaster s (cVdp v) then refuseTlp (cVdp v) tlp s
  else if acsOn s v 2 then requestUp v o tlp s
  else match vdpOfAddr s (tlpAddr tlp) with
    | some w => if w = v then refuseTlp (cVdp v) tlp s else toVdp w tlp s
    | none => if memBelow s cUp (tlpAddr tlp) then refuseTlp cUp tlp s else requestUp v o tlp s

/-- A message that VDP `v` passes on to the root complex: error messages as far as they are enabled. -/
def mayPass (s : State) (v : Nat) (tlp : List Byte) : Bool :=
  match [0x30, 0x31, 0x33].idxOf? (byteAt tlp 7) with
  | some kind => errPasses s (cVdp v) kind && errPasses s cUp kind
  | none => true

/-- A message from VDP `v` by its routing: to the root complex, by address or ID, or local to the port. -/
def vdpMessage (v : Nat) (o : Output) (tlp : List Byte) (s : State) : State :=
  match tlpType tlp % 8 with
  | 0 | 5 => if mayPass s v tlp then sendUp o tlp s else s
  | 1 => vdpMemory v o tlp s
  | 2 =>
    match vdpOfBus s (byteAt tlp 8) with
    | some w => if w = v then s else toVdp w tlp s
    | none => sendUp o tlp s
  | _ => s

/-- A TLP that VDP `v` takes from below, and `o`, the form in which it would leave on the physical upstream link. -/
def fromVdp (v : Nat) (o : Output) (tlp : List Byte) (s : State) : State :=
  let f := cVdp v
  if malformed s f tlp then aerError f 18 tlp s
  else match tlpKind tlp with
    | .completion => vdpCompletion v o tlp s
    | k =>
      if acsOn s v 0 && !busBelow s f (tlpBus tlp) then
        let s := aerError f 21 tlp s
        if k = .nonPosted then answerId f (tlpTag tlp) 4 s else s
      else if isMsg tlp then vdpMessage v o tlp s
      else if isMem tlp || decide (0x0C ≤ tlpType tlp ∧ tlpType tlp ≤ 0x0E) then vdpMemory v o tlp s
      else refuseTlp f tlp s

/-- A TLP leaves the Truss at M5 under its tag (Table 9-2): from a VDP, or from the parent hub by the tunnel with tag 0x28, where
it waits to be routed. -/
def tlpAtM5 (tag : Nat) (data : List Byte) (s : State) : State :=
  if 0x20 ≤ tag ∧ tag < 0x25 then fromVdp (tag - 0x20) (.deliver 5 tag data false) data s
  else if tag = 0x28 then { s with pcie := { s.pcie with inbox := s.pcie.inbox ++ [data] } }
  else emit (.deliver 5 tag data false) s

end Sys2Proof.Machine
end

