-- ==== Sys2Proof/Machine/Egress.lean ====
section
/-!
DEFINITION. The grant at an egress mortise (06_scheduling_and_windows.md R133–R149; R109, R116, R118 of
05_truss_switch_and_buffers.md): choosing the next item, sending it, what the terminus makes of a cell as it leaves for its
adapter (04_tunnels_and_domain.md R85, R87; R110–R112), and delivery to the adapters.
-/
namespace Sys2Proof.Machine

/-- Classes shed: `FLT.STATUS.SHED` counts from class 7 (R347). -/
def shed (s : State) (c : Nat) : Bool := 4 ≤ c && 8 ≤ c + getF s ⟨R.FLT_STATUS, 2, 3⟩

/-- Cells of the item at the head of entry `i`: one cell on a link, else the frame up to its last cell, or as far as it is
queued (R136). The length in cells of a frame whose EOF has not arrived is what is queued. DESIGN CHOICE, log entry 86. -/
def headItem (s : State) (m i : Nat) : List QCell :=
  let src := if (tGet s i).resend.isEmpty then (qGet s i).onchip else (tGet s i).resend
  if m ≤ 4 then src.take 1
  else match src.findIdx? (fun c => c.eof || c.close) with
    | some k => src.take (k + 1)
    | none => src

/-- The item is whole: a cell on a link, or a frame with its last cell. -/
def wholeItem (m : Nat) (it : List QCell) : Bool := decide (m ≤ 4) || it.any (fun c => c.eof || c.close)

/-- The head of entry `i` may leave: it is sent again, it cuts through, or its frame is complete (R108). -/
def headReady (s : State) (i : Nat) : Bool :=
  match (tGet s i).resend with
  | _ :: _ => true
  | [] =>
    match (qGet s i).onchip with
    | [] => false
    | c :: _ => c.ct || (qGet s i).txOpen || (qGet s i).headComplete

/-- The adapter can accept a frame: at M7 the MAC's link is up (R137), at M9 no frame of the channel is held (R169). -/
def adapterReady (s : State) (m tag : Nat) : Bool :=
  if m = 7 then bit s ⟨R.MAC_STATUS (tag % 4), 0, 1⟩
  else if m = 9 then (smGet (fun _ => none) s.disp.held tag).isNone
  else true

/-- Entry `i` is eligible at egress `p` but for its gate (R137): something to send, credit of every shaper on its path, the
link's credit, no shedding, the adapter ready. -/
def eligible (s : State) (p i : Nat) : Bool :=
  let e := egEntry s i
  headReady s i && !shed s e.cls && adapterReady s p e.egTid
    && (decide (4 < p) || decide (natGet (lGet s p).txCredit e.cls ≠ 0))
    && (pathOf s i).all (fun n => creditOk s e.egMort (shaperAt s e.egMort e.egTid n))

/-- The bits of the head item of entry `i`, as the guard band counts them. -/
def headBits (s : State) (p i : Nat) : Nat := itemBits p (entry s i).maxLen (headItem s p i)

/-- The gate's answer for the head item of entry `i`. -/
def headGate (s : State) (p i : Nat) : GateSays :=
  let e := egEntry s i
  gateSays s p e.egTid e.cls (headBits s p i)

/-- Charges bits to every shaper on a path (R138). -/
def charge (m tag bitsN : Nat) (path : List Node) (s : State) : State :=
  forAll path (fun n s =>
    match shaperAt s m tag n with
    | some sh => setCredit m sh.key (credit s m sh.key - (bitsN * 1000 : Nat)) s
    | none => s) s

/-- Counts an item for the gate entry that holds its departure stamp, taken `phase` into the tick (R146). -/
def countGate (m tag : Nat) (phase : Fin 8) (s : State) : State :=
  match gateOf m tag with
  | some g => if gateEn s g then bump (gateKey g (0xD00 + 4 * (gateAt s g (rimFine s (gateRim g) + phase * 32768)).1)) s else s
  | none => s

/-- A register-access request reaches M11's queue of 8; a reply or an end-to-end frame is delivered; any other type is
discarded (R90, R425). -/
def m11Receive (frame : List Byte) (s : State) : State :=
  let ty := byteAt frame 2
  if ty = 1 ∨ ty = 2 ∨ ty = 3 then
    if 8 ≤ s.mgmtQ.length then bump R.DEV_MGMT_DROPS s else { s with mgmtQ := s.mgmtQ ++ [frame] }
  else if ty = 0x11 ∨ ty = 0x12 ∨ ty = 0x20 ∨ ty = 0x21 ∨ ty = 0x22 then emit (.deliver 11 0 frame false) s
  else bump R.TUN_FORMAT_ERR s

/-- A whole frame reaches the adapter of mortise `m` under its tag, without its CRC. M11 takes the frames of its own
tunnels as requests for this hub only (R424). -/
def deliver (m tag : Nat) (bytes : List Byte) (s : State) : State :=
  let data := bytes.take (bytes.length - 4)
  if m = 11 then if byteAt data 0 % 64 = ownHid s then m11Receive data s else bump R.TUN_FORMAT_ERR s
  else if m = 7 ∧ 4 ≤ tag then bump R.ETH_TAG_ERR s
  else if m = 5 then tlpAtM5 tag data s
  else emit (.deliver m tag data false) (if m = 6 then bump64 (R.PCIE_TX_TLPS 1) (linkUse 1 s) else s)

/-- A whole frame reaches M9 (R153): it waits there to be performed, without its timestamp and CRC. -/
def m9Receive (tag : Nat) (q : Queue) (bytes : List Byte) (s : State) : State :=
  let data := (bytes.take (bytes.length - 4)).drop (if q.asmTsp then 10 else 0)
  { s with disp := { s.disp with inbox := s.disp.inbox ++ [⟨tag, q.asmIdx, q.asmCells, data, s.disp.epoch⟩] } }

/-! ### The cell index of a write channel (R154) -/

def dChan : Nat → Chan := fun _ => {}
def chGet (s : State) (t : Nat) : Chan := smGet dChan s.disp.ch t
def chSet (t : Nat) (c : Chan) (s : State) : State := { s with disp := { s.disp with ch := smSet dChan s.disp.ch t c } }

/-- A write channel of M9. -/
def isChan (c : QCell) : Bool := c.eg == 9 && decide (c.tid < 16)

/-- The index of the channel that cell `c` was for rises by `n` cells that the terminus does not accept (R154 step 3). -/
def chanSkip (c : QCell) (n : Nat) (s : State) : State :=
  if isChan c then let ch := chGet s c.tid; chSet c.tid { ch with idx := ch.idx + n } s else s

/-- The index at which the terminus accepts cell `c`, and the state after it. -/
def chanAccept (c : QCell) (s : State) : Nat × State :=
  if isChan c then
    let ch := chGet s c.tid
    let i := if ch.zero then 0 else ch.idx
    (i, chSet c.tid { ch with idx := i + 1, zero := false } s)
  else (0, s)

/-- A good frame with `n` data bytes that ends with cell `c` has been accepted whole: a position frame sets the index to 0 at
the next accepted cell (R154 step 1). -/
def chanFrame (c : QCell) (n : Nat) (s : State) : State :=
  if isChan c ∧ n = 4 then chSet c.tid { chGet s c.tid with zero := true } s else s

/-! ### The terminus (R85, R87, R110–R112) -/

/-- A cell of the form a hub creates to close a frame (R111). -/
def closeForm (c : QCell) : Bool := c.eof && c.abt && !c.sof && c.data == [0, 0, 0, 0]

/-- An adapter that starts on a frame before its end (Table 5-6). -/
def startsEarly (c : QCell) : Bool := c.ct && (c.eg == 5 || c.eg == 6 || c.eg == 7 || (c.eg == 8 && decide (c.tid < 0x10)))

/-- The consumer of an egress bobbin queue starts on a packet that is still coming once CT_WORDS of its words are there (R114);
0 makes it wait, and a value above the depth acts as the depth. -/
def begins (s : State) (c : QCell) (bytes : Nat) : Bool :=
  let w := min (bqDepth c.eg) (getF s (fCtWords (c.eg + 16)))
  startsEarly c && decide (w ≠ 0) && decide (64 * w ≤ bytes)

/-- A frame opens at the adapter of queue `i` with cell `c`. -/
def adapterOpen (i : Nat) (s : State) : State :=
  let q := qGet s i
  qSet i { q with adOpen := true, begun := false, asm := [], asmCells := 0, flushing := false, before := false } s

/-- A packet that was being written at the egress of mortise `m` when a flush was asked for has still to end (R115). -/
def flushWaits (s : State) (m : Nat) : Bool := s.loft.any (fun e => (e.2.flushing || e.2.before) && e.2.last.eg == m)

/-- A packet that a flush discards has come to its end (R115). -/
def flushEnds (i m : Nat) (s : State) : State :=
  let q := qGet s i
  let s := addCnt (regKey R.SWC_BQ_FLUSH_WORDS (m + 16)) (stagesOf q.asm.length)
    (qSet i { q with adOpen := false, flushing := false, asm := [] } s)
  if flushWaits s m then s else flushed (m + 16) 0 s

/-- The frame at the adapter has come to its end with cell `c`: delivered whole, ended natively, or discarded. The answer says
whether it was delivered. DEDUCED, log entry 42. -/
def adapterEnd (i : Nat) (c : QCell) (s : State) : Bool × State :=
  let q := qGet s i
  if q.flushing then (false, flushEnds i c.eg s)
  else
    let whole := crc32Upd 0xFFFFFFFF q.asm == crcResidue
    if whole && !c.abt then
      let s := qSet i { q with adOpen := false, begun := false, before := false, asm := [] } s
      (true, if c.eg = 9 then m9Receive c.tid q q.asm s else deliver c.eg c.tid q.asm s)
    else (false, abortAdapter i (if c.abt then s else bump R.TUN_CRC_ERR s))

/-- Cell `c` of queue `i` joins the frame at its adapter, and ends it with EOF. The answer says whether a good frame has
ended. -/
def adapterAdd (i : Nat) (c : QCell) (s : State) : Bool × State :=
  let (at_, s) := chanAccept c s
  let q := qGet s i
  let asm := q.asm ++ c.data
  let q := if c.sof then { q with asmIdx := at_, asmTsp := c.tsp } else q
  let q := { q with asm := asm, asmCells := q.asmCells + 1, begun := q.begun || (!q.flushing && begins s c asm.length) }
  let s := qSet i q s
  if c.eof then
    let (ok, s) := adapterEnd i c s
    (ok, when ok (chanFrame c (asm.length - if q.asmTsp then 14 else 4)) s)
  else (false, s)

/-- A streaming terminus judges SEQ (R85) and passes the cell to its adapter; one that adopts takes the SEQ of the next SOF
cell (R315). -/
def adapterStreaming (i : Nat) (c : QCell) (s : State) : State :=
  let t := tGet s i
  let e := if c.adopt then c.seq else t.e.getD c.seq
  let d := (c.seq + 1024 - e) % 1024
  if closeForm c && decide (d ≠ 0) then abortAdapter i s
  else if 512 ≤ d then bump (entCnt R.TUN_ENT_DUP_CELLS i) s
  else
    let s := tSet i { t with e := some ((c.seq + 1) % 1024) } s
    let s := if d = 0 then s else chanSkip c d (abortAdapter i (addCnt (entCnt R.TUN_ENT_GAP_CELLS i) d s))
    if c.sof then (adapterAdd i c (adapterOpen i (abortAdapter i s))).2
    else if (qGet s i).adOpen then (adapterAdd i c s).2
    else chanSkip c 1 s

/-- A reliable terminus advances P cell by cell from E (R112); a cell that does not continue the attempt, an ABT or a bad CRC
ends it and is a gap sign, and any other cell but S = E is a duplicate or a gap sign (R87). -/
def adapterReliable (i : Nat) (c : QCell) (s : State) : State :=
  let s := if c.adopt then
      let s := abortAdapter i s
      tSet i { tGet s i with e := some c.seq, p := c.seq, gap := none } s
    else s
  let t := tGet s i
  let e := t.e.getD 0
  let attempt := (qGet s i).adOpen
  if closeForm c && c.seq != t.p then tSet i { t with p := t.p } (abortAdapter i s)
  else if c.seq = (if attempt then t.p else e) ∧ c.sof ≠ attempt then
    let s := tSet i { t with e := some e, p := (c.seq + 1) % 1024 } s
    let (ok, s) := adapterAdd i c (if c.sof then adapterOpen i s else s)
    if !c.eof then s
    else if ok then acceptUpTo i s
    else gapSign i (tSet i { tGet s i with p := e } s)
  else
    let dup := decide (512 ≤ (c.seq + 1024 - e) % 1024)
    let s := when dup (bump (entCnt R.TUN_ENT_DUP_CELLS i)) (abortAdapter i s)
    if attempt || !dup then gapSign i s else s

/-- Cell `c` of queue `i` leaves for its adapter. At a terminus SEQ is judged here, as the cell leaves the Loft, and not as it
arrives: what the hub itself discards from the queue (R79) is a hole in SEQ like any other. DESIGN CHOICE, log entry 103. -/
def adapterCell (i : Nat) (c : QCell) (s : State) : State :=
  if 256 ≤ i then (adapterAdd i c (if c.sof then adapterOpen i s else s)).2
  else if (entry s i).reliable then adapterReliable i c s
  else adapterStreaming i c s

/-! ### Sending an item -/

/-- Removes the head cell of entry `i` as it leaves: a reliable origin retains it (R86). -/
def popHead (i : Nat) (c : QCell) (s : State) : State :=
  let t := tGet s i
  match t.resend with
  | _ :: r => tSet i { t with resend := r } s
  | [] =>
    let q := qGet s i
    let s := noteFill i (qSet i { q with onchip := q.onchip.tail } s)
    if i < 256 ∧ (entry s i).origin ∧ (entry s i).reliable then
      tSet i { t with retained := t.retained ++ [{ c with rsv := false }] } s
    else s

/-- What injected check bits make of the read of a cell's words; the bank is open (R118, R359). DESIGN CHOICE, log entry 71. -/
def loftSpoiled (c : QCell) (s : State) : State :=
  forAll (List.range c.fiLoft.2)
    (fun _ s => raise 46 ((free s).toNat % (32 : Nat)) (nextFree (bump R.BUF_LOFT_ECC_UNCORR s))) (addCnt R.BUF_LOFT_ECC_CORR c.fiLoft.1 s)

/-- The Loft word read for a cell carries an ECC error (R118): a double error leaves as read, and the next frame check finds
it. DEDUCED, log entry 42. -/
def loftEcc (ecc : LoftEcc) (c : QCell) (s : State) : QCell × State :=
  let s := loftSpoiled c s
  match ecc with
  | .ok => (c, s)
  | .corrected => (c, bump R.BUF_LOFT_ECC_CORR s)
  | .double bank data => (c.readAs data, raise 46 bank.val (bump R.BUF_LOFT_ECC_UNCORR s))

/-- One cell of queue `i` leaves by egress `p`. On a link every cell from the Truss, one of TID 0 or 2 too, counts in its block
as a cell that the loss of the replay buffer loses (R52). DESIGN CHOICE, log entry 100. -/
def sendCell (p i : Nat) (c : QCell) (s : State) : State :=
  let s := if i < 256 then bump64 (entCnt R.TUN_ENT_CELLS_OUT i) s else s
  let q := qGet s i
  let s := qSet i { q with txOpen := !c.eof && !c.close, last := c } s
  if p ≤ 4 then
    let l := lGet s p
    let s := lSet p { l with txCredit := natSet l.txCredit c.cls (natGet l.txCredit c.cls - 1) } s
    let s := addCell p (wireCell c) true (packetOut p s)
    if c.close && !c.eof then sendClose c s else s
  else
    let s := xfer (16 + p) s
    let s := adapterCell i c (if c.eof then packetOut p s else s)
    if c.close && !c.eof then abortAdapter i s else s

/-- The cells of an item leave queue `i` in order; the first is read from the Loft with what its ECC says. Pointers that differ, or a
tag with a parity error, reset the queue, and nothing more leaves (R117). -/
def sendCells (p i : Nat) : LoftEcc → List QCell → State → State
  | _, [], s => s
  | ecc, c :: cs, s =>
    if (qGet s i).fiPtr || c.fiTag then queueReset i s
    else
    let s := popHead i c s
    let (c, s) := loftEcc ecc c s
    sendCells p i .ok cs (sendCell p i c s)

/-- Along the path of entry `i` the tags follow `len` more cells of the item granted (R136). -/
def extendPath (i len : Nat) (s : State) : State :=
  let e := egEntry s i
  let m := e.egMort
  if e.cls < 2 then extendTag m (tunNode e) (kTun i) len e.wt s
  else extendTag m vPort (kSub e.sub) len (subWeight s m e.sub)
    (extendTag m (vSub e.sub) (kSvc e.sub e.cls) len (svcWeight s m e.sub e.cls)
      (extendTag m (tunNode e) (kTun i) len e.wt s))

/-- Sends the head item of entry `i`; `more` says that it is more of an item granted before, which counts for its gate once
(R146). -/
def sendItem (p i : Nat) (more : Bool) (phase : Fin 8) (ecc : LoftEcc) (s : State) : State :=
  let e := egEntry s i
  let it := headItem s p i
  let s := charge e.egMort e.egTid (chargeBits p it) (pathOf s i) s
  let s := if more then extendPath i it.length s else countGate p e.egTid phase s
  sendCells p i ecc it s

/-- The head item of the control queue that serves mortise `m`, once its frame is complete: a cell on a link, a frame at an
adapter. -/
def controlItem (s : State) (p m : Nat) : List QCell :=
  let q := qGet s (256 + m)
  match q.onchip.findIdx? (fun c => c.eof) with
  | some k => q.onchip.take (if p ≤ 4 then 1 else k + 1)
  | none => []

/-- Sends the head of the control queue of mortise `m`. Table 6-2 names one shaper for it, that of class 3: the port's neither holds
nor is charged for its cells. DESIGN CHOICE, log entry 87. -/
def sendControl (p m : Nat) (phase : Fin 8) (ecc : LoftEcc) (s : State) : State :=
  let it := controlItem s p m
  sendCells p (256 + m) ecc it (countGate p 0 phase (charge m 0 (chargeBits p it) [.cls 3] s))

/-- The head item of queue `i` can never pass gate `g` and is discarded there (R149). -/
def dropItem (p g i : Nat) (it : List QCell) (s : State) : State :=
  let s := dropCandidate i (forAll it (fun c s => popHead i c s) s)
  limited (55 * 1024 + g) tenUs (raise 55 g) (bump (R.SCH_GATE_OVERSIZE p) s)

/-- The head item of entry `i` at egress `p` is the rest of a frame that has begun to leave by an adapter (R136). -/
def continues (s : State) (p i : Nat) : Bool :=
  decide (4 < p) && (qGet s i).txOpen && (headCell s i).any (fun c => !c.sof)

/-- The head item of entry `i` is discarded if it is whole and longer than every window that opens its class (R149). -/
def dropOversize (p i : Nat) (s : State) : State :=
  let e := egEntry s i
  let it := headItem s p i
  match gateOf p e.egTid with
  | none => s
  | some g =>
    if headReady s i && !continues s p i && wholeItem p it && gateOversize s p e.egTid e.cls (headBits s p i) then dropItem p g i it s
    else s

/-- The same for the head of the control queue, whose class is 3. -/
def dropControl (p m : Nat) (s : State) : State :=
  let it := controlItem s p m
  match gateOf p 0 with
  | none => s
  | some g => if !it.isEmpty && gateOversize s p 0 3 (itemBits p 0 it) then dropItem p g (256 + m) it s else s

/-- Counts once the head item of queue `i` that the guard band of gate `g` holds (R145). -/
def noteGuard (p g i : Nat) (s : State) : State :=
  let gt := gGet s g
  if gt.held.contains i then s
  else bump (R.SCH_GUARD_HOLDS p) (gSet g { gt with held := i :: gt.held } s)

/-- Tags for every head item that may leave and has none (R135): of each tunnel, then of each service and each subscriber, whose
item is that of its child with the smallest tag. The rest of a frame that has begun to leave is no item of its own (R136). -/
def candidates (p m : Nat) (busy : List Nat) (s : State) : State :=
  let e := fun i => egEntry s i
  let len := fun i => (headItem s p i).length
  let is := busy.filter (fun i => headReady s i && !continues s p i)
  let s := forAll is (fun i s => makeCandidate m (tunNode (e i)) (kTun i) i (len i) (e i).wt s) s
  let rest := is.filter (fun i => decide (2 ≤ (e i).cls))
  let ofSvc := fun (x : Nat × Nat) => rest.filter (fun i => (e i).sub == x.1 && (e i).cls == x.2)
  let svcs := (rest.map (fun i => ((e i).sub, (e i).cls))).dedup
  let s := forAll svcs (fun x s =>
    match smallest s m kTun (ofSvc x) with
    | some i => makeCandidate m (vSub x.1) (kSvc x.1 x.2) i (len i) (svcWeight s m x.1 x.2) s
    | none => s) s
  forAll ((svcs.map Prod.fst).dedup) (fun sb s =>
    match (smallest s m (kSvc sb) ((svcs.filter (fun x => x.1 == sb)).map Prod.snd)).bind
        (fun c => smallest s m kTun (ofSvc (sb, c))) with
    | some i => makeCandidate m vPort (kSub sb) i (len i) (subWeight s m sb) s
    | none => s) s

/-- The grant to entry `i` at every node of its path. -/
def grantPath (i : Nat) (s : State) : State :=
  let e := egEntry s i
  let m := e.egMort
  if e.cls < 2 then grantTo m (tunNode e) (kTun i) s
  else grantTo m vPort (kSub e.sub) (grantTo m (vSub e.sub) (kSvc e.sub e.cls) (grantTo m (tunNode e) (kTun i) s))

/-- The tunnel that fair queueing grants among the eligible ones of a tier (R133–R135). -/
def choose (s : State) (m : Nat) (ok : List Nat) : Option Nat :=
  let e := fun i => egEntry s i
  let tier (c : Nat) := smallest s m kTun (ok.filter (fun i => (e i).cls == c))
  (tier 0).or ((tier 1).or (
    let rest := ok.filter (fun i => decide (2 ≤ (e i).cls))
    (smallest s m kSub ((rest.map (fun i => (e i).sub)).dedup)).bind (fun sb =>
      let ofSub := rest.filter (fun i => (e i).sub == sb)
      (smallest s m (kSvc sb) ((ofSub.map (fun i => (e i).cls)).dedup)).bind (fun c =>
        smallest s m kTun (ofSub.filter (fun i => (e i).cls == c))))))

/-- The channel of an adapter that an egress tag names: a MAC of M7, a tag of M8, one elsewhere (R136). -/
def channelOf (m tag : Nat) : Nat := if m = 7 then tag % 4 else if m = 8 then tag else 0

/-- The tunnels with a frame that has begun to leave by adapter mortise `m` and has not ended (R133, R136). -/
def openFrames (s : State) (m : Nat) : List Nat :=
  (validEntries s).filter (fun i => (qGet s i).txOpen && (qGet s i).last.eg == m)

/-- A channel of adapter mortise `m` is in the middle of a frame. -/
def channelBusy (s : State) (m tag : Nat) : Bool :=
  (openFrames s m).any (fun i => channelOf m (qGet s i).last.tid == channelOf m tag)

/-- One grant at egress `p`, which serves what entries name as mortise `m` (Table 6-2). -/
def grant (p m : Nat) (phase : Fin 8) (ecc : LoftEcc) (s0 : State) : State :=
  let s := dropControl p m (forAll (backlog s0 m) (dropOversize p) (accrue m s0))
  let busy := backlog s m
  match (openFrames s m).find? (fun i => headReady s i && continues s p i) with
  | some i => sendItem p i true phase ecc s
  | none =>
    let s := candidates p m busy s
    let free (tag : Nat) : Bool := decide (p ≤ 4) || !channelBusy s m tag
    let able := busy.filter (fun i => eligible s p i && free (egEntry s i).egTid)
    let q := 256 + m
    let ctlItem := controlItem s p m
    let ctlAble := !ctlItem.isEmpty && (decide (4 < p) || decide (natGet (lGet s p).txCredit 3 ≠ 0))
      && creditOk s m (shaperAt s m 0 (.cls 3)) && free 0
    let ctlGate := gateSays s p 0 3 (itemBits p 0 ctlItem)
    let s := forAll (able.filter (fun i => headGate s p i == .guard)) (fun i s =>
      match gateOf p (egEntry s i).egTid with | some g => noteGuard p g i s | none => s) s
    let s := match gateOf p 0 with
      | some g => if ctlAble && ctlGate == .guard then noteGuard p g q s else s
      | none => s
    let ok := able.filter (fun i => headGate s p i == .admits)
    if ok.all (fun i => decide (2 ≤ (egEntry s i).cls)) && ctlAble && ctlGate == .admits then
      unhold q (sendControl p m phase ecc (bump64 (R.SCH_GRANTS m) s))
    else
      match choose s m ok with
      | none => s
      | some i =>
        let s := if (egEntry s i).cls < 2 then bump64 (R.SCH_EXPRESS_GRANTS m) s else s
        unhold i (sendItem p i false phase ecc (grantPath i (bump64 (R.SCH_GRANTS m) s)))

/-- A link may send cells: UP, no turn under way, room in the replay buffer, not fenced (R51, R55, R60, R308). -/
def canSend (s : State) (n : Nat) : Bool :=
  let l := lGet s n
  linkState s n == lsUp && l.splitStep != .ending && !dataStands s n && replayRoom s n && !txIdle s n

/-- Mortise `m` is present and serves an egress (Table 1-2); M10 moves only spill and fill traffic. -/
def isEgress (m : Nat) : Bool := decide (m ≤ 13) && m != 10

/-- The stamps of a link time exchange are taken as the cell leaves: t1 of a DREQ is kept, t3 of a DRESP is inserted
(R195). -/
def stampControl (n : Nat) (phase : Fin 8) (c : List Byte) (s : State) : List Byte × State :=
  let t := stampAt (51 + n) phase s
  if byteAt c 0 = 0x11 then
    (c.take 15 ++ bytesBE 6 t.sec ++ bytesBE 4 t.ns ++ bytesBE 2 t.frac ++ c.drop 27, s)
  else if byteAt c 0 = 0x10 then
    let e := smGet (fun _ => {}) s.time.exch n
    (c, { s with time := { s.time with exch := smSet (fun _ => {}) s.time.exch n { e with t1 := some (rimFine s (51 + n) + phase * 32768) } } })
  else (c, s)

/-- EGRESS_GRANT (R133): egress mortise `m` grants its next item, if its crossing carries (R335, R339). On a link the cell joins the
block being formed, link control first; `blockEnd` ends the block there, and tells when in the tick the cell leaves.
DEDUCED, log entry 42. -/
def execEgressGrant (m : Mort) (blockEnd : Timed Bool) (ecc : LoftEcc) (s : State) : Res :=
  hub s (fun s =>
    if !isEgress m || !carries s (16 + m) then s
    else if m.val ≤ 4 then
      if canSend s m then
        let l := lGet s m
        match l.ctlOut, l.closeOut with
        | c :: cs, _ =>
          let (c, s) := stampControl m blockEnd.phase c s
          maybeSend m blockEnd.val (addCell m (ctlCell c) false (lSet m { l with ctlOut := cs } s))
        | [], c :: cs =>
          if natGet l.txCredit c.cls = 0 then maybeSend m blockEnd.val s
          else maybeSend m blockEnd.val (addCell m (wireCell c) true
            (lSet m { l with closeOut := cs, txCredit := natSet l.txCredit c.cls (natGet l.txCredit c.cls - 1) } s))
        | [], [] => maybeSend m blockEnd.val (grant m (servedMort s m) blockEnd.phase ecc s)
      else s
    else grant m m blockEnd.phase ecc s)

/-- CUT_THROUGH_UNDERRUN (R109 step 5): a MAC or USB 3 port that has started on a frame finds its next cell missing and ends the
frame natively; the rest of it is discarded at that egress. At a reliable terminus that ends the attempt (R112). -/
def execCutThroughUnderrun (i : BitVec 8) (s : State) : Res :=
  hub s (fun s =>
    let j := i.toNat
    let q := qGet s j
    if valid s j && (q.last.eg == 7 || (q.last.eg == 8 && decide (q.last.tid < 0x10))) && q.txOpen && q.begun
        && q.onchip.isEmpty then
      let s := bump R.SWC_CT_UNDERRUN (abortAdapter j s)
      if (entry s j).reliable then gapSign j s else s
    else s)

/-! ### Gates and SCH commits -/

/-- The status of gate `g` follows Plumb (Table 6-7). -/
def gateFollow (g : Nat) (s : State) : State :=
  let (i, mask, _) := gateNow s g
  let k := gateKey g 0x198
  setF ⟨k, 8, 8⟩ mask (setF ⟨k, 2, 5⟩ i (setF ⟨k, 0, 1⟩ (if gateEn s g then 1 else 0) s))

/-- GATE_WINDOW_BOUNDARY (R145): the window in force changes; the status follows, and held items are judged afresh.
DESIGN CHOICE, log entry 80. -/
def execGateWindowBoundary (g : Fin 12) (s : State) : Res :=
  hub s (fun s => if g.val ≤ 4 ∨ 8 ≤ g.val then gateFollow g s else s)

/-- The mortise of a gate. -/
def gateMort (g : Nat) : Nat := if g < 8 then g else 7

/-- GATE_SCHEDULE_SWITCH (R147): the committed schedule takes effect at its first cycle start. -/
def execGateScheduleSwitch (g : Fin 12) (s : State) : Res :=
  hub s (fun s =>
    match (gGet s g).next with
    | some (sch, at_) =>
      if at_ ≤ plumbNs s then
        let s := accrue (gateMort g) s
        let s := gSet g { gGet s g with run := sch, next := none } s
        gateFollow g (setF ⟨gateKey g 0x198, 1, 1⟩ 0 (bump (R.SCH_GATE_SWITCHES (gateMort g)) s))
      else s
    | none => s)

/-- The registers of a gate (R147). -/
def gateRegs (g : Nat) : List Nat :=
  [gateKey g 0x184, gateKey g 0x188, gateKey g 0x18C, gateKey g 0x190, gateKey g 0x194]
    ++ (List.range 32).flatMap (fun i => [gateKey g (0xC00 + 8 * i), gateKey g (0xC04 + 8 * i)])

/-- The gates of a page. -/
def gatesOf (m : Nat) : List Nat := if m ≤ 4 then [m] else if m = 7 then [8, 9, 10, 11] else []

/-- The RWS registers of SCH<m> but for its gates. -/
def schRegs (m : Nat) : List Nat :=
  [R.SCH_PORT m] ++ (List.range 8).map (R.SCH_CLASS m)
    ++ (List.range 64).flatMap (fun i => R.SCH_SUB m i :: (List.range' 2 6).map (svcKey m i))
    ++ (List.range 63).flatMap (fun i => [R.SCH_SHP_RATE m i, R.SCH_SHP_HI m i])

/-- The shaper numbers that the values of a page (staged or committed) attach, one for each node (R139). -/
def pageShapers (get : Nat → Word) (m : Nat) : List Nat :=
  let f (k : Nat) := bits (get k).toNat 8 6
  (f (R.SCH_PORT m) :: (List.range 8).map (fun c => f (R.SCH_CLASS m c))
    ++ (List.range 64).flatMap (fun i => f (R.SCH_SUB m i) :: (List.range' 2 6).map (fun c => f (svcKey m i c)))).filter (· != 0)

/-- The numbers that a page and the committed tunnels attach. -/
def attachedBy (get : Nat → Word) (s : State) (m : Nat) : List Nat :=
  pageShapers get m
    ++ (((validEntries s).filter (fun i => (committed s i).egMort == m)).map (fun i => (committed s i).shaper)).filter (· != 0)

/-- The numbers that the staged values of a page would attach. -/
def attached (s : State) (m : Nat) : List Nat := attachedBy (reg s) s m

/-- The first number that occurs twice. -/
def firstTwice : List Nat → Option Nat
  | [] => none
  | a :: l => if l.contains a then some a else firstTwice l

/-- R144's checks on a schedule. -/
def gateBad (sch : GateSched) : Bool :=
  decide (sch.cycle < 1000) || decide (1000000000 < sch.cycle) || sch.entries.isEmpty || decide (32 < sch.entries.length)
    || sch.entries.any (fun e => decide (e.1 < 8)) || (sch.entries.map Prod.fst).sum != sch.cycle

/-- RESULT and FAIL_IDX of `COMMIT_STATUS` of a page. -/
def commitResult (page result failIdx : Nat) (s : State) : State :=
  setF ⟨page * 0x1000 + 0x024, 8, 8⟩ failIdx (setF ⟨page * 0x1000 + 0x024, 1, 3⟩ result s)

/-- DIRTY of a page (Table 18-5). PRESUMED, log entry 15. -/
abbrev fDirty (page : Nat) : Fld := ⟨page * 0x1000 + 0x00C, 4, 1⟩

/-- The first cycle start of a schedule's grid at least 2 µs after now, in ns (R147). -/
def firstStart (s : State) (sch : GateSched) : Nat :=
  let base := nsOf sch.baseS sch.baseNs
  let t := plumbNs s + 2000 + (if s.plumb.frac = 0 then 0 else 1)
  let c := max 1 sch.cycle
  (((t : Int) + ((base : Int) - t) % (c : Int))).toNat

/-- A committed gate schedule waits for its switch (R147). -/
def commitGate (g : Nat) (s : State) : State :=
  if (gateRegs g).any (fun k => decide (reg s k ≠ actReg s k)) then
    let s := commitRegs (gateRegs g) s
    let sch := schedOf (actReg s) g
    let gt := gGet s g
    setF ⟨gateKey g 0x198, 1, 1⟩ 1 (gSet g { gt with next := some (sch, firstStart s sch) } s)
  else s

/-- The registers of a list whose staged value differs from the committed one. -/
def changed (s : State) (ks : List Nat) : List (Nat × Word) :=
  (ks.filter (fun k => decide (reg s k ≠ actReg s k))).map (fun k => (k, reg s k))

/-- A shaper newly attached, or whose rate changes, starts from credit 0 (Table 6-4). -/
def resetCredits (m : Nat) (before : List Nat) (rates : List Nat) (s : State) : State :=
  forAll ((List.range' 1 63).filter (fun k => ((attached s m).contains k && !before.contains k) || rates.contains k))
    (fun k => setCredit m k 0) s

/-- The staged scheduler registers of page SCH<m> take effect together. -/
def schApply (m : Nat) (s : State) : State :=
  let page := 0x60 + m
  let gates := gatesOf m
  let s := accrue m s
  let ks := schRegs m
  let ch := changed s (ks ++ gates.flatMap gateRegs)
  let before := attachedBy (actReg s) s m
  let rates := (List.range' 1 63).filter (fun k =>
    decide (getF s ⟨R.SCH_SHP_RATE m (k - 1), 0, 18⟩ ≠ getA s ⟨R.SCH_SHP_RATE m (k - 1), 0, 18⟩))
  let s := commitRegs ks s
  let s := forAll gates commitGate s
  let s := resetCredits m before rates s
  let s := setF (fDirty page) 0 (commitResult page 0 0 s)
  overbookCheck m (journalCommit page ch s)

/-- SCH_COMMIT (R150): the staged scheduler registers of page SCH<m> take effect together, or are refused whole. -/
def schCommit (m : Nat) (s : State) : State :=
  let page := 0x60 + m
  let gates := gatesOf m
  if 14 ≤ m then s
  else if mode s = mStandby then commitResult page 1 0 s
  else match firstTwice (attached s m) with
  | some k => commitResult page 3 k s
  | none =>
    match gates.find? (fun g => gateBad (schedOf (reg s) g)) with
    | some g =>
      let es := (schedOf (reg s) g).entries
      commitResult page 4 ((es.findIdx? (fun e => decide (e.1 < 8))).getD 0) s
    | none =>
      if admissionLimit (checkLevel s) < admissionSum s m (reg s) then raise 53 m (commitResult page 5 0 s)
      else schApply m s

/-- SCH_COMMIT (R150). -/
def execSchCommit (m : Mort) (s : State) : Res := hub s (schCommit m)

end Sys2Proof.Machine
end

