-- ==== Sys2Proof/Machine/Virtual.lean ====
section
/-!
DEFINITION. What the adapters do when a tunnel pair appears or goes: the virtual downstream ports of the PCIe switch
(09_pcie_and_dowel_bridge.md R216–R219) and the virtual USB 3 ports (10_usb_hub_and_device.md R245, R246).
-/
namespace Sys2Proof.Machine

/-! ### Tunnel pairs -/

/-- The entry of the direction into the Truss: arrival mortise `m`, arrival tag `t`. -/
def inbound (s : State) (kind m t : Nat) : Option Nat :=
  (validEntries s).find? (fun i => (entry s i).kind == kind && (entry s i).inMort == m && (entry s i).inTid == t)

/-- The entry of the direction out of the Truss: egress mortise `m`, egress tag `t`. -/
def outbound (s : State) (kind m t : Nat) : Option Nat :=
  (validEntries s).find? (fun i => (entry s i).kind == kind && (entry s i).egMort == m && (entry s i).egTid == t)

/-- Both entries of the pair with tag `t` at mortise `m` are committed VALID and neither is HALTED. -/
def pairUp (s : State) (kind m t : Nat) : Bool :=
  match inbound s kind m t, outbound s kind m t with
  | some i, some j => !(tGet s i).halted && !(tGet s j).halted
  | _, _ => false

/-! ### Virtual downstream ports (R216, R218) -/

/-- R218's condition; VDP5 has no tunnel pair. -/
def vdpCondition (s : State) (v : Nat) : Bool :=
  decide (v < 5) && pairUp s 1 5 (vdpTag v)
    && (v != 4 || (pairUp s 1 6 0 && bit s (fDlUp 1)))

/-- Data Link Layer State Changed of a VDP's slot status is set, and Presence Detect Changed (Table 9-1). -/
def dllChanged (v : Nat) (s : State) : State := cfgOr (cVdp v) 22 (BitVec.ofNat 32 (2 ^ 24 + 2 ^ 19)) s

/-- A VDP's link is down on purpose: Link Disable, or a secondary bus reset of its own or of the upstream port. -/
def linkHeld (s : State) (v : Nat) : Bool := cfgBit s (cVdp v) 20 4 || cfgBit s (cVdp v) 15 22 || cfgBit s cUp 15 22

/-- The link of VDP `v` goes: Link Active is 0, and the requests it has forwarded are answered with UR (R218). -/
def linkGoes (v : Nat) (s : State) : State :=
  let np := (vdpGet s v).np
  let s := dllChanged v (vdpSet v {} (setF (fVdp v) 0 s))
  forAll np (fun t => answerId (cVdp v) t 1) (addCnt R.PSW_UR_SYNTH np.length s)

/-- Surprise down (R218): the four steps. -/
def surpriseDown (v : Nat) (s : State) : State :=
  raise 77 v (bump R.PSW_SURPRISE_DOWNS (linkGoes v (aerError (cVdp v) 5 [] s)))

/-- A VDP follows R218's condition. The physical link of VDP4 that was put down on purpose is no surprise. DEDUCED, log
entry 55. -/
def vdpRefresh (v : Nat) (s : State) : State :=
  let now := vdpCondition s v
  if bit s (fVdp v) && !now then (if v = 4 ∧ linkHeld s v then linkGoes v s else surpriseDown v s)
  else if now && !bit s (fVdp v) then dllChanged v (setF (fVdp v) 1 s)
  else s

/-- BAR4_LOG2 takes effect and configuration space returns to reset: a hot reset or a link-down of the upstream side (R221). What
the pair's standby holds follows. DESIGN CHOICE, log entry 97. -/
def upstreamReset (s : State) : State :=
  cfgResetOf (fun _ => true)
    (setBar4 (clampN 24 32 (getF s ⟨R.PCIE_BAR_CFG 0, 0, 5⟩)) { s with pcie := { s.pcie with bus := 0 } })

/-- The tunnel pair that is the upstream side (Table 9-2) comes or goes; its going is a link-down. -/
def upTunnelRefresh (s : State) : State :=
  let now := upIsTunnel s && pairUp s 1 5 0x28
  let was := s.pcie.upTunnel
  let s := { s with pcie := { s.pcie with upTunnel := now } }
  if was && !now then upstreamReset { s with pcie := { s.pcie with inbox := [] } } else s

/-! ### Virtual USB 3 ports (R245) -/

/-- PLS codes of USB 3.2. -/
abbrev plsU0 : Nat := 0
abbrev plsU1 : Nat := 1
abbrev plsU2 : Nat := 2
abbrev plsDisabled : Nat := 4
abbrev plsU3 : Nat := 3
abbrev plsRxDetect : Nat := 5

abbrev fPls3 (p : Nat) : Fld := ⟨R.USB3_PORT_STATUS (p - 1), 0, 4⟩
abbrev fVirtual3 (p : Nat) : Fld := ⟨R.USB3_PORT_STATUS (p - 1), 4, 1⟩
abbrev fConn3 (p : Nat) : Fld := ⟨R.USB3_PORT_STATUS (p - 1), 5, 1⟩

/-- Change bits of a USB 3 hub port, as wPortChange numbers them. -/
def change3 (p b : Nat) (s : State) : State :=
  { s with usb := { s.usb with change3 := natSet s.usb.change3 p (putBits (natGet s.usb.change3 p) b 1 1) } }

/-- R245's condition for the virtual port of cable port `v`: its pair, and connect or U0 as the far hub's last word. -/
def vportCondition (s : State) (v : Nat) : Bool :=
  pairUp s 2 8 v && (natGet s.usb.far v == 0x13 || natGet s.usb.far v == 1)

/-- The virtual port reports disconnect and enters Rx.Detect. -/
def vportDown (v : Nat) (s : State) : State :=
  let p := v + 1
  change3 p 0 (setF (fPls3 p) plsRxDetect (setF (fConn3 p) 0 (setF (fVirtual3 p) 0 s)))

/-- The virtual port of cable port `v` follows R245: VPORT_DOWNS counts that its pair went. One that has been taken to disabled waits for
a reset (R346). -/
def vportRefresh (v : Nat) (s : State) : State :=
  let p := v + 1
  if bit s (fVirtual3 p) then
    if !pairUp s 2 8 v then bump R.USB3_VPORT_DOWNS (vportDown v s)
    else if !vportCondition s v && natGet s.usb.far v == 0x12 then vportDown v s
    else s
  else if vportCondition s v && bit s ⟨R.USB3_CTRL, 0, 1⟩ && bit s ⟨R.USB3_PORT_CTRL v, 0, 1⟩ && getF s (fPls3 p) != plsDisabled then
    change3 p 0 (setF (fPls3 p) plsU0 (setF (fConn3 p) 1 (setF (fVirtual3 p) 1 s)))
  else s

/-- A LINK_STATE frame into the tunnel of a tag. -/
def sendLinkState (tag st : Nat) (s : State) : State :=
  offerFrame 8 { tag := tag, data := [2, BitVec.ofNat 8 st, 0, 0] } s

/-- The upstream of a dock's USB 3.2 hub is virtual while its pair with tag 0x08 stands (Table 10-15); its coming and, where the pair
can still carry it, its going cross as LINK_STATE frames (R245). -/
def upVirtual (s : State) : State :=
  let pair := pairUp s 2 8 8
  let was := bit s ⟨R.USB3_STATUS, 4, 1⟩
  let now := s.usb.up3 == 5 && bit s ⟨R.USB3_CTRL, 0, 1⟩ && pair
  let s := setF ⟨R.USB3_STATUS, 4, 1⟩ (if now then 1 else 0) s
  if now && !was then sendLinkState 8 0x12 s else if was && !now && pair then sendLinkState 8 0x11 s else s

/-- After tunnels were committed, removed, torn down, halted or resumed, the adapters follow. -/
def adaptersFollow (s : State) : State :=
  upVirtual (forAll [0, 1, 2, 3] vportRefresh (upTunnelRefresh (forAll [0, 1, 2, 3, 4] vdpRefresh s)))

/-! ### Teardown (R96) and halts (R26) -/

/-- A teardown by the TD7760: both copies of the entry go, TORN is set, its cells are counted. -/
def teardown (i : Nat) (s : State) : Nat × State :=
  let (n, s) := removeTunnel i s
  let s := addCnt64 R.TUN_TEARDOWN_CELLS n (bump R.TUN_TEARDOWNS (setF (bitIn (R.TUN_TORN 0) i) 1 (clearEntry i s)))
  (n, s)

/-- Teardown of several tunnels; the answer is the number of cells that went. -/
def teardownAll (is : List Nat) (s : State) : Nat × State :=
  let r := is.foldl (fun (a : Nat × State) i => let (n, s) := teardown i a.2; (a.1 + n, s)) (0, s)
  (r.1, adaptersFollow r.2)

/-- Keep flag of table index `i`. -/
def keepFlag (s : State) (i : Nat) : Bool := getA s ⟨R.DEV_ISLAND_KEEP (i / 32), i % 32, 1⟩ == 1

/-- A tunnel is halted (R26): arriving cells are discarded from now on; what is queued leaves as the scheduler allows. -/
def haltTunnel (i : Nat) (s : State) : State := tSet i { tGet s i with halted := true } s

end Sys2Proof.Machine
end

