-- ==== Sys2Proof/Machine/Switch.lean ====
section
/-!
DEFINITION. The TUN commit (04_tunnels_and_domain.md R93–R96), the selector writes that take snapshots (R98, R131), and
the bobbin flush (05_truss_switch_and_buffers.md R113–R116).
-/
namespace Sys2Proof.Machine

/-! ### Commit checks (Tables 4-4 and 4-8) -/

/-- Classes a kind permits, as a mask. -/
def kindClasses : Nat → Nat
  | 0 => 0xFC | 1 => 0xF8 | 2 => 0xF8 | 3 => 0xF8 | 4 => 0xFB | 5 => 0x08 | 6 => 0x02 | _ => 0xF8

/-- The reliable flag a kind requires; none where the host chooses. -/
def kindReliable : Nat → Option Bool
  | 0 => some false | 1 => some true | 2 => some true | 3 => none | 4 => some false | 5 => some true
  | 6 => some false | _ => some true

/-- Origin mortises of a kind. -/
def kindOrigins : Nat → List Nat
  | 0 => [5] | 1 => [5, 6] | 2 => [8] | 3 => [8] | 4 => [7] | 5 => [5, 8, 11] | 6 => [7, 12] | _ => [5, 13]

/-- Terminus mortises of a kind. -/
def kindTermini : Nat → List Nat
  | 0 => [9] | 1 => [5, 6] | 2 => [8] | 3 => [8] | 4 => [7] | 5 => [4, 5, 8, 11] | 6 => [4, 7, 12] | _ => [13]

/-- M10, M14 and M15 never stand in an entry (R16). -/
def absentMort (m : Nat) : Bool := m == 10 || m == 14 || m == 15

/-- Cable mortises of any kind, and the Scarf mortise for management and time. -/
def linkMort (kind m : Nat) : Bool := decide (m ≤ 3) || (m == 4 && (kind == 5 || kind == 6))

/-- An entry's mortises are listed for its kind and role (Table 4-4, Table 1-2, R83). A local mortise that the kind lists passes here
where ORIGIN or TERMINUS is 0: that is a failure of the roles (R84), FIELD. DESIGN CHOICE, log entry 89. -/
def mortisesOk (e : Entry) : Bool :=
  !absentMort e.inMort && !absentMort e.egMort
    && (if e.origin then (kindOrigins e.kind).contains e.inMort
        else linkMort e.kind e.inMort || (decide (4 < e.inMort) && (kindOrigins e.kind).contains e.inMort))
    && (if e.terminus then (kindTermini e.kind).contains e.egMort
        else linkMort e.kind e.egMort || (decide (4 < e.egMort) && (kindTermini e.kind).contains e.egMort))

/-- The staged binding of a subscriber: valid, mortise. -/
def subStaged (s : State) (i : Nat) : Bool × Nat :=
  (bit s ⟨R.TUN_SUB i, 4, 1⟩, getF s ⟨R.TUN_SUB i, 0, 4⟩)

/-- The FIELD checks of an entry. -/
def fieldsOk (s : State) (e : Entry) : Bool :=
  (match kindReliable e.kind with | some r => r == e.reliable | none => true)
    && (kindClasses e.kind).testBit e.cls && !(e.ovfPermit && decide (e.cls < 2))
    && (e.origin == decide (4 < e.inMort)) && (e.terminus == decide (4 < e.egMort))
    && subStaged s e.sub == (true, e.egMort) && !(decide (1 ≤ e.maxFrame) && decide (e.maxFrame ≤ 4))

/-- The staged entries that are VALID. -/
def stagedValid (s : State) : List Nat := (List.range 256).filter (fun i => bit s ⟨entKey i 0, 0, 1⟩)

/-- The first entry that shares `key` with an earlier one. Of the two, Table 4-9 asks for the first failing one: the later, at which
the check fails, is named. DESIGN CHOICE, log entry 89. -/
def firstShared (key : Nat → Option Nat) : List Nat → List Nat → Option Nat
  | _, [] => none
  | seen, i :: is =>
    match key i with
    | none => firstShared key seen is
    | some k => if seen.contains k then some i else firstShared key (k :: seen) is

/-- Cells of an entry in this hub, retained cells included (`TUN.QCELLS`). -/
def qcells (s : State) (i : Nat) : Nat := (qGet s i).cells + (tGet s i).retained.length

/-- Some staged word of an entry differs from the committed one. -/
def entryChanged (s : State) (i : Nat) : Bool :=
  [0, 1, 2, 3].any (fun w => decide (reg s (entKey i w) ≠ actReg s (entKey i w)))

/-- A change that R94's QUEUED row or R96 refuses. -/
def queuedBad (s : State) (i : Nat) : Bool :=
  let a := committed s i
  let b := staged s i
  let t := tGet s i
  a.valid && b.valid && decide (qcells s i ≠ 0)
    && (((t.susp || t.halted) && entryChanged s i)
      || a.egMort != b.egMort || a.cls != b.cls || a.sub != b.sub || a.inMort != b.inMort || a.inTid != b.inTid)

/-- The first staged entry that attaches a shaper which another node of its egress page has (R139). -/
def shaperTwice (s : State) (vs : List Nat) : Option Nat :=
  let vs := vs.filter (fun i => (staged s i).shaper != 0)
  let ms := (vs.map (fun i => (staged s i).egMort)).dedup
  firstShared (fun i => some ((staged s i).egMort * 64 + (staged s i).shaper))
    (ms.flatMap (fun m => (pageShapers (actReg s) m).map (fun k => m * 64 + k))) vs

/-- The first failure in the order of Table 4-8: RESULT, FAIL_KIND, FAIL_IDX. A FIELD failure by way of a subscriber names
the entry, and a shaper attached twice (R139), for which the table has no code, is a FIELD failure that names the entry.
DESIGN CHOICE, log entry 89. -/
def tunCheck (s : State) : Option (Nat × Nat × Nat) :=
  let vs := stagedValid s
  let e := staged s
  let low (t : Nat) : Bool := decide (t ≤ 2)
  let mk (r k : Nat) (o : Option Nat) : Option (Nat × Nat × Nat) := o.map (fun i => (r, k, i))
  if mode s = mStandby then some (7, 0, 0)
  else
    ((((((((mk 3 0 (vs.find? (fun i => (decide ((e i).inMort ≤ 4) && low (e i).inTid)
        || (decide ((e i).egMort ≤ 4) && low (e i).egTid)))).or
      (mk 4 0 (vs.find? (fun i => !mortisesOk (e i))))).or
      (mk 4 1 ((List.range 64).find? (fun i => (subStaged s i).1 && absentMort (subStaged s i).2)))).or
      (mk 4 2 ((List.range 64).find? (fun h => bit s ⟨R.TUN_HROUTE h, 4, 1⟩
        && decide (4 < getF s ⟨R.TUN_HROUTE h, 0, 4⟩))))).or
      (if bit s ⟨R.TUN_EVT_ROUTE, 4, 1⟩ && decide (5 < getF s ⟨R.TUN_EVT_ROUTE, 0, 4⟩)
          && getF s ⟨R.TUN_EVT_ROUTE, 0, 4⟩ != 11 then some (4, 3, 0) else none)).or
      (mk 1 0 (firstShared (fun i => some ((e i).inMort * 256 + (e i).inTid)) [] vs))).or
      (mk 2 0 (firstShared (fun i => if (e i).egMort ≤ 4 then some ((e i).egMort * 256 + (e i).egTid) else none) [] vs))).or
      (mk 5 0 ((vs.find? (fun i => !fieldsOk s (e i))).or (shaperTwice s vs)))).or
      (mk 6 0 ((List.range 256).find? (queuedBad s)))

/-! ### Applying a commit (R95) -/

/-- One entry takes its staged value: a frame that is arriving finishes under the entry it began under (R95), and a stopped
tunnel keeps its entry until it resumes (R96). DESIGN CHOICE, log entry 40. A tunnel that comes into being in ISLAND outside the
keep set is HALTED (Table 1-10). -/
def applyEntry (i : Nat) (s : State) : State :=
  if entryChanged s i then
    let was := valid s i
    let old := entryWords s i
    let stopped := !running s i
    let prior := committed s i
    let s := if was && !(staged s i).valid then (removeTunnel i s).2 else s
    let s := commitRegs ((List.range 4).map (entKey i)) s
    let e := committed s i
    if !was && e.valid then
      let s := forget i (setCredit e.egMort e.shaper 0 s)
      if mode s = mIsland && !keepFlag s i then haltTunnel i s else s
    else if was && e.valid then
      let t := tGet s i
      if stopped then tSet i { t with defer := some (t.defer.getD old) } s
      else
        let s := if t.rx.isSome then tSet i { t with old := some (t.old.getD old) } s else s
        let s := if e.egMort ≠ prior.egMort ∨ e.cls ≠ prior.cls ∨ e.sub ≠ prior.sub then dropTags i s else s
        if e.shaper ≠ prior.shaper ∨ e.egMort ≠ prior.egMort then setCredit e.egMort e.shaper 0 s else s
    else s
  else s

/-- The registers of the TUN page that a commit applies besides the entries. -/
def tunRegs : List Nat :=
  R.TUN_EVT_ROUTE :: ((List.range 64).map R.TUN_SUB ++ (List.range 64).map R.TUN_HROUTE)

/-- APPLIED and the result fields of `TUN.COMMIT_STATUS` (Table 4-9). -/
def tunResult (r kind idx : Nat) (s : State) : State :=
  setF ⟨0x50024, 25, 2⟩ kind (commitResult 0x50 r idx s)

/-- The staged table takes effect at one instant (R95). DESIGN CHOICE, log entry 40. -/
def tunApply (s : State) : State :=
    let moved := (List.range 256).filter (entryChanged s)
    let ch := changed s (moved.flatMap (fun i => (List.range 4).map (entKey i)) ++ tunRegs)
    let s := forAll (List.range 16) accrue s
    let s := forAll moved applyEntry s
    let s := commitRegs tunRegs s
    let s := setF ⟨0x50024, 16, 9⟩ moved.length (tunResult 0 0 0 s)
    adaptersFollow (journalCommit 0x50 ch (setF (fDirty 0x50) 0 (bump R.TUN_COMMITS s)))

/-- A TUN commit (R94, R95). -/
def tunCommit (s : State) : State :=
  match tunCheck s with
  | some (r, k, i) => bump R.TUN_COMMIT_REFUSED (tunResult r k i s)
  | none => tunApply s

/-- TUN_COMMIT (R94): a write of the TUN page's COMMIT. -/
def execTunCommit (s : State) : Res := hub s tunCommit

/-! ### Snapshots (R98, R131) -/

/-- The status words at 0xC20–0xC28 of entry `i`. -/
def tunSnapshot (i : Nat) (s : State) : State :=
  let t := tGet s i
  let e := entry s i
  let st := if valid s i then if t.halted then 3 else if t.susp then 2 else 1 else 0
  let stalled := if bit s (bitIn (R.TUN_STALLED 0) i) then 1 else 0
  let out := if e.origin && e.reliable then outstanding s i else 0
  setReg R.TUN_TSTATE (BitVec.ofNat 32 (st + stalled * 4 + t.nextSeq % 1024 * 16 + t.e.getD 0 % 1024 * 16384))
    (setReg R.TUN_QCELLS (BitVec.ofNat 32 (qcells s i)) (setReg R.TUN_OUTSTANDING (BitVec.ofNat 32 (out % 1024)) s))

/-- A write of `TUN.IDX`. -/
def tunIdxSet (v : Word) (s : State) : State :=
  let i := v.toNat % 256
  tunSnapshot i (carry 59 <| setReg R.TUN_IDX (BitVec.ofNat 32 i) s)

/-- A write of `TUN.IDX`, and its journal record. -/
def tunIdxWrite (v : Word) (s : State) : State :=
  let s := tunIdxSet v s
  journalReg R.TUN_IDX (reg s R.TUN_IDX) s

/-- TUN_IDX_WRITE (R98). -/
def execTunIdxWrite (v : Word) (s : State) : Res := hub s (tunIdxWrite v)

/-- The words that bobbin queue `b` holds, oldest first (R113): at the ingress of a link the cells that the Truss has not
taken, at that of a local mortise the frames its adapter has offered; at the egress of a link the cells that wait for their
block, at that of a local mortise the frames that the adapter has not had whole. DEDUCED, log entry 43. -/
def bobWords (s : State) (b : Nat) : List BobWord :=
  let m := b % 16
  if b < 16 then
    if m ≤ 4 then (bqGet s b).words else (inqGet s m).flatMap (fun f => packetWords (f.rest.getD f.data))
  else if m ≤ 4 then ((lGet s m).forming.filter (fun c => c.2)).map (fun c => ⟨c.1, .done⟩)
  else (s.loft.filter (fun e => e.2.adOpen && e.2.last.eg == m)).flatMap (fun e => partWords e.2.asm)

/-- The stages of a bobbin queue: the empty ones read as the idle item (R113, R116). -/
def bobStages (s : State) (b : Nat) : List BobWord :=
  let d := bqDepth (b % 16)
  let ws := (bobWords s b).take d
  ws ++ List.replicate (d - ws.length) idleItem

/-- The status word of bobbin queue `b` (Table 5-15). -/
def bqStatus (s : State) (b : Nat) : Nat :=
  let st := bobStages s b
  let occupied := (st.filter (fun w => w.mark != .idle)).length
  let packets := (st.filter (fun w => w.mark == .done || w.mark == .aborted)).length
  bqDepth (b % 16) + occupied % 64 * 256 + packets % 64 * 65536 + (if (bqGet s b).flush then 1 else 0) * 2 ^ 24

/-- A write of `SWC.BQ_SEL`. -/
def bqSelSet (v : Word) (s : State) : State :=
  let b := v.toNat % 32
  carry 59 <| setReg R.SWC_BQ_STATUS (BitVec.ofNat 32 (bqStatus s b)) (setReg R.SWC_BQ_SEL (BitVec.ofNat 32 b) s)

/-- A write of `SWC.BQ_SEL`, and its journal record. -/
def bqSelWrite (v : Word) (s : State) : State :=
  let s := bqSelSet v s
  journalReg R.SWC_BQ_SEL (reg s R.SWC_BQ_SEL) s

/-- SWC_BQ_SEL_WRITE (R131). -/
def execSwcBqSelWrite (v : Word) (s : State) : Res := hub s (bqSelWrite v)

/-- The queue exists (Table 5-1). -/
def queueExists (s : State) (q : Nat) : Bool := if q < 256 then valid s q else decide (q < 270)

/-- An arrival for queue `q` waits under R102. -/
def queueWaits (s : State) (q : Nat) : Bool :=
  s.waiting.any (fun m =>
    match inqGet s m with
    | f :: _ => if f.ctl then (f.via.or (routeTid0 s (byteAt f.data 0 % 64))).any (fun r => 256 + r == q)
        else (lookup s m f.tag f.rest.isNone).any (fun p => p.1 == q)
    | [] => false)

/-- A write of `BUF.QSEL`. -/
def bufQselSet (v : Word) (s : State) : State :=
  let q := v.toNat % 512
  let qu := qGet s q
  let b (x : Bool) : Nat := if x then 1 else 0
  let st := qu.onchip.length + b qu.spilling * 2 ^ 17 + b (queueExists s q) * 2 ^ 18 + b (queueWaits s q) * 2 ^ 19
  carry 59 <| setReg R.BUF_QOVF (BitVec.ofNat 32 qu.overflow)
    (setReg R.BUF_QSTATUS (BitVec.ofNat 32 st) (setReg R.BUF_QSEL (BitVec.ofNat 32 q) s))

/-- A write of `BUF.QSEL`, and its journal record. -/
def bufQselWrite (v : Word) (s : State) : State :=
  let s := bufQselSet v s
  journalReg R.BUF_QSEL (reg s R.BUF_QSEL) s

/-- BUF_QSEL_WRITE (R131). -/
def execBufQselWrite (v : Word) (s : State) : Res := hub s (bufQselWrite v)

/-! ### Bobbin flush (R115) -/

/-- What a flush of queue `b` asked for now discards: at the ingress of a link its words, at that of a local mortise the frames
not yet begun, at the egress of a link its cells. At the egress of a local mortise the packet being written is the one that
its end will find. -/
def flushExtent (s : State) (b : Nat) : Nat :=
  let m := b % 16
  if b < 16 ∧ 4 < m then ((inqGet s m).filter (fun f => f.rest.isNone)).length else (bobWords s b).length

/-- The packets that are being written at the egress of local mortise `m` now: the consumer completes those it has started, the
others are discarded as their end comes. -/
def markPackets (m : Nat) (s : State) : State :=
  forAll (s.loft.filter (fun e => e.2.adOpen && e.2.last.eg == m)) (fun e s =>
    let q := qGet s e.1
    qSet e.1 { q with flushing := !q.begun, before := q.begun } s) s

/-- A flush request on queue `b`. DEDUCED, log entry 43. -/
def bqFlush (b : Nat) (s : State) : State :=
  if (bqGet s b).flush || decide (13 < b % 16) then s
  else
    let s := setF (fFlush b) 1 (bqSet b { bqGet s b with flush := true, left := flushExtent s b } s)
    if 16 ≤ b ∧ 4 < b % 16 then markPackets (b % 16) s else s

/-- A write of CT_WORDS of queue `b` (R114), and its journal record. -/
def bqCtSet (b ct : Nat) (s : State) : State :=
  let s := setF (fCtWords b) ct s
  journalReg (fCtWords b).key (BitVec.ofNat 32 (getF s (fCtWords b))) s

/-- BQ_FLUSH_REQUEST (R115): a write of `SWC.BQ_CTRL` of the queue at the ingress or egress of mortise `m`, with FLUSH 1 and
CT_WORDS `ct`. DEDUCED, log entry 43. -/
def execBqFlushRequest (m : Mort) (egress : Bool) (ct : BitVec 6) (s : State) : Res :=
  hub s (fun s =>
    let b := m.val + (if egress then 16 else 0)
    if 13 < m.val then s else bqFlush b (bqCtSet b ct.toNat s))

/-- The cells at the egress of link `n` that a flush discards: the credits they spent and carried are the hub's again. -/
def flushForming (n : Nat) (s : State) : State :=
  let l := lGet s n
  let keep (k : Nat) (c : List Byte × Bool) : Bool := !c.2 || decide (((l.forming.take k).filter (fun c => c.2)).length ≥ (bqGet s (n + 16)).left)
  let pairs := l.forming.zipIdx
  let gone := (pairs.filter (fun p => !keep p.2 p.1)).map (fun p => ofBE (p.1.1.take 8))
  let s := lSet n { l with forming := (pairs.filter (fun p => keep p.2 p.1)).map Prod.fst } s
  flushed (n + 16) gone.length (forAll gone (fun h s =>
    let l := lGet s n
    let cls := bits h 43 3
    let back := bits h 30 3
    let k := bits h 18 12
    lSet n { l with txCredit := natSet l.txCredit cls (natGet l.txCredit cls + 1),
                    crdRet := natSet l.crdRet back (natGet l.crdRet back + k),
                    rxCredit := natSet l.rxCredit back (natGet l.rxCredit back - k) } s) s)

/-- At the egress of a local mortise the flush is done once every packet that was being written when it was asked for has come to
its end. -/
def flushAdapter (m : Nat) (s : State) : State := if flushWaits s m then s else flushed (m + 16) 0 s

/-- BQ_FLUSH_EFFECT (R115): at the packet boundary the marked words are discarded; FLUSH reads 0 again when the discard is
complete. DEDUCED, log entry 43. -/
def execBqFlushEffect (b : BitVec 5) (s : State) : Res :=
  hub s (fun s =>
    let m := b.toNat % 16
    if (bqGet s b.toNat).flush then
      if b.toNat < 16 then flushIn m s
      else if m ≤ 4 then flushForming m s
      else flushAdapter m s
    else s)

end Sys2Proof.Machine
end

