-- ==== Sys2Proof/Machine/Cdc.lean ====
section
/-!
DEFINITION. Clock-domain crossings: pulses, acknowledges, stalls, resynchronisation and the CDC page
(14_clock_domain_crossings.md R324–R342, R455).
-/
namespace Sys2Proof.Machine

/-- TYPE of a crossing (Tables 14-1 and 14-5): 0 event, 1 bundled-data, 2 stream; none for a reserved index. -/
def xType (x : Nat) : Option Nat :=
  if x ≤ 13 ∨ (16 ≤ x ∧ x ≤ 29) then some 2
  else if (32 ≤ x ∧ x ≤ 48) ∨ x = 61 then some 0
  else if 49 ≤ x ∧ x ≤ 60 then some 1
  else none

/-- The index of an event crossing. -/
def xIndex : EventX → Nat
  | .group g => 32 + g.val
  | .dispCommit => 48
  | .level => 61

/-- Raises of a start go out one after another, as their crossing has room (R371). DEDUCED, log entry 10. -/
def pumpBoot (s : State) : State :=
  match s.pwr.boot with
  | [] => s
  | p :: rest =>
    let c := xGet s (32 + p.code / 8)
    if c.inFlight.isNone || c.pending.isNone then raise p.code p.detail { s with pwr := { s.pwr with boot := rest } } else s

/-- CROSSING_PULSE (R326, R327): source `8g + k` at a fault group, a commit or a level step with its payload. -/
def execCrossingPulse (x : EventX) (k : BitVec 3) (detail : BitVec 16) (s : State) : Res :=
  hub s (fun s =>
    match x with
    | .group g => raise (8 * g.val + k.toNat) detail.toNat s
    | x => pulse (xIndex x) ⟨0, detail.toNat⟩ s)

/-- The acknowledge of crossing `x`: of a RESYNC under way, or of the pulse that the far side has taken.
DEDUCED, log entries 11, 70. -/
def crossingAck (x : Nat) (s : State) : State :=
  let c := xGet s x
  if c.resyncing then xSet x { c with resyncing := false } s
  else if c.inFlight.isNone ∨ (32 ≤ x ∧ x ≤ 47 ∧ ¬ c.delivered) then s
  else
    let sent := if c.pending.isSome then 1 else 0
    pumpBoot (xSet x { c with inFlight := c.pending, delivered := false, pending := none, stalled := false,
                              xfers := c.xfers + sent } s)

/-- What crossing `x` holds goes on once it carries again: a bundled-data request is answered, the rim copy of Plumb realigned, and
the Truss takes what waits at an ingress (R331, R335, R341). -/
def crossResume (x : Nat) (s : State) : State :=
  if !carries s x then s
  else if x ≤ 4 then drainLink x s
  else if x ≤ 13 then ingress x s
  else if 49 ≤ x ∧ x ≤ 60 ∧ (xGet s x).inFlight.isSome then (if 50 ≤ x ∧ x ≤ 57 then realign x s else carry x s)
  else s

/-- CROSSING_ACK (R326, R336). A fault group's far side is the collector: its acknowledge follows FAULT_RAISE. The
acknowledge of any other crossing ends its RESYNC or is a word or value taken. -/
def execCrossingAck (x : BitVec 7) (s : State) : Res :=
  hub s (fun s =>
    match xType x.toNat with
    | some 0 => crossingAck x.toNat s
    | some _ =>
      let c := xGet s x.toNat
      when (c.resyncing || c.inFlight.isSome) (crossResume x.toNat) (xSet x.toNat { c with resyncing := false, stalled := false } s)
    | none => s)

/-- Every MAC is off. -/
def macsOff (s : State) : Bool := (List.range 4).all (fun k => !bit s ⟨R.MAC_CTRL k, 0, 1⟩)

/-- The clock of a crossing's far side that S1 Doze gates: not those that R369 keeps running, nor that of a link that stays UP,
nor `LB_CLK`, which the chip does not make. DEDUCED, log entry 70. -/
def dozeGates (s : State) (x : Nat) : Bool :=
  let m := x % 16
  if x < 32 then
    if m ≤ 3 then linkState s m != lsUp
    else if m = 7 then macsOff s
    else m == 5 || m == 6 || m == 8 || m == 9 || m == 10
  else if x = 39 ∨ x = 48 ∨ x = 49 ∨ x = 57 then !bit s ⟨R.DISP_CTRL, 0, 1⟩
  else if x = 40 ∨ x = 56 then macsOff s
  else if x = 41 ∨ x = 42 then true
  else decide (51 ≤ x) && decide (x ≤ 54) && linkState s (x - 51) != lsUp

/-- The stop is one that the TD7760 orders itself, which starts no stall timer (R337): a rim gated in S1 Doze, the switch of the
rim clocks in a level change, the SDRAM gap of R125. -/
def ownStop (s : State) (x : Nat) : Bool :=
  (bit s ⟨R.PM_STATUS, 9, 1⟩ && dozeGates s x)
    || (decide (x ≤ 29)
      && (s.pwr.level == .raiseRim || s.pwr.level == .lowerRim || s.pwr.level == .restoreRim || s.pwr.level == .wipeRim))
    || (bit s ⟨R.MEM_STATUS, 4, 1⟩ && [9, 10, 25, 26].contains x)

/-- There is what a stall needs (R336): a request in flight at an event or bundled-data crossing, a word in front of the consumer of
a stream crossing, at the egress of a stopped rim the cells that the Truss has for it. DEDUCED, log entry 70. -/
def waitsAt (s : State) (x : Nat) : Bool :=
  match xType x with
  | some 2 => !(bobWords s x).isEmpty || (decide (16 ≤ x) && !rimRuns s (x - 16) && !(backlog s (x - 16)).isEmpty)
  | some _ => (xGet s x).inFlight.isSome
  | none => false

/-- CROSSING_STALL (R336, R337): a request or a word has waited for STALL_LIMIT. -/
def execCrossingStall (x : BitVec 7) (s : State) : Res :=
  hub s (fun s =>
    let c := xGet s x.toNat
    match xType x.toNat with
    | some _ =>
      if c.stalled || !waitsAt s x.toNat || ownStop s x.toNat then s
      else raise 93 x.toNat (bump R.CDC_STALL_EPISODES (xSet x.toNat { c with stalled := true } s))
    | none => s)

/-- The frame that a local mortise was taking is lost: it is closed as R111 has it, and at a reliable origin whose egress has
sent none of it its numbers are used again (log entry 85). -/
def abandonFrame (i : Nat) (s : State) : State :=
  let e := entry s i
  if e.origin && e.reliable && (tGet s i).rx.any (fun f => !headGone s i f) then takeBack i 0 s else closeArriving i s

/-- What a resynchronisation does at an adapter's ingress: the frames offered go, and the one half taken is closed. -/
def discardFrames (m n : Nat) (s : State) : State :=
  let s := match inqGet s m with
    | f :: _ =>
      if f.rest.isNone then s
      else match f.via, lookup s m f.tag false with
        | some r, _ => loseCtl m r s
        | none, some (i, _) => abandonFrame i s
        | none, none => s
    | [] => s
  flushed m n { inqSet m [] s with waiting := s.waiting.filter (· != m) }

/-- What a resynchronisation does at an adapter's egress: the frames open there end, and a reliable terminus asks for them
again (R122). -/
def discardOpen (m n : Nat) (s : State) : State :=
  let opened := (s.loft.filter (fun e => e.2.adOpen && e.2.last.eg == m)).map Prod.fst
  flushed (m + 16) n (forAll opened (fun i s =>
    let s := abortAdapter i s
    if i < 256 ∧ (entry s i).reliable then gapSign i s else s) s)

/-- Everything in the bobbin queue of stream crossing `x` is discarded (R340). -/
def discardStream (x n : Nat) (s : State) : State :=
  let m := x % 16
  let s := bqSet x { bqGet s x with left := n } s
  if x < 16 then if m ≤ 4 then flushLink m s else discardFrames m n s
  else if m ≤ 4 then flushForming m s else discardOpen m n s

/-- A crossing resynchronises (R339–R341): everything in it is discarded; `words` lay in a bundled-data crossing. At a stream
crossing the discard is a bobbin flush. DEDUCED, log entry 70. -/
def xResync (x words : Nat) (s : State) : State :=
  match xType x with
  | none => s
  | some t =>
    let c := xGet s x
    if c.resyncing then s
    else
      let slots : Nat := (if c.inFlight.isSome then 1 else 0) + (if c.pending.isSome then 1 else 0)
      let items := if t = 0 then slots else if t = 1 then min 1 words else (bobWords s x).length
      let s := xSet x { c with inFlight := none, delivered := false, pending := none, stalled := false, resyncing := true,
                               resyncItems := (c.resyncItems + items) % 2 ^ 32 } s
      let s := if t = 2 then discardStream x items s else s
      raise 94 (x + min 127 items * 256) (addCnt64 R.CDC_RESYNC_ITEMS items (bump R.CDC_RESYNCS s))

/-- CROSSING_RESYNC (R339). -/
def execCrossingResync (x : BitVec 7) (words : BitVec 6) (s : State) : Res := hub s (xResync x.toNat words.toNat)

/-- A resynchronisation that a reset of a block causes: whether a bundled-data crossing held a word is open.
DEDUCED, log entry 70. -/
def resyncOwn (x : Nat) (s : State) : State := xResync x ((free s).toNat % (64 : Nat)) (nextFree s)

/-- A write of `CDC.SEL` (R342, Table 14-5). -/
def cdcSelWrite (v : Word) (s : State) : State :=
  let x := v.toNat % 128
  let c := xGet s x
  let b (p : Bool) (i : Nat) : Nat := if p then 2 ^ i else 0
  let st := match xType x with
    | none => 0
    | some t => 1 + 2 * t + b c.overrun 3 + c.lost % 256 * 16 + b c.stalled 12 + b c.resyncing 13
        + b (t != 2 && c.inFlight.isSome) 14 + b (t == 0 && c.pending.isSome) 15
        + (if t = 2 then ((bobStages s x).filter (fun w => w.mark != .idle)).length % 64 * 2 ^ 16 else 0)
  let s := setReg R.CDC_SEL (BitVec.ofNat 32 x) s
  let s := journalReg R.CDC_SEL (BitVec.ofNat 32 x) s
  let s := setReg R.CDC_XSTATUS (BitVec.ofNat 32 st) s
  let s := setReg (R.CDC_XFERS + 4) (BitVec.ofNat 32 (c.xfers / 2 ^ 32)) (setReg R.CDC_XFERS (BitVec.ofNat 32 c.xfers) s)
  setReg R.CDC_X_RESYNC_ITEMS (BitVec.ofNat 32 c.resyncItems) s

/-- CDC_SEL_WRITE (R342). -/
def execCdcSelWrite (v : Word) (s : State) : Res := hub s (cdcSelWrite v)

/-- A write of `CDC.XCLEAR` with bit 0. -/
def cdcXclear (s : State) : State :=
  let x := getF s ⟨R.CDC_SEL, 0, 7⟩
  xSet x { xGet s x with overrun := false, lost := 0 } s

/-- CDC_XCLEAR (R327). -/
def execCdcXclear (s : State) : Res := hub s cdcXclear

end Sys2Proof.Machine
end

