-- ==== Sys2Proof/Machine/Dock.lean ====
section
/-!
DEFINITION. A dock's port pair (13_mirrored_pair.md R312–R316) and the tunnels bound to a port (R67, R314).
-/
namespace Sys2Proof.Machine

/-! ### Tunnels of a port -/

/-- The mortise named in the entries of what port `n` carries: PORT_A for either port of a pair. -/
def pairMort (s : State) (n : Nat) : Nat := if inPair s n then getF s fPortA else n

/-- The other port of the pair. -/
def pairOther (s : State) (n : Nat) : Option Nat :=
  if inPair s n then some (if n = getF s fPortA then getF s fPortB else getF s fPortA) else none

/-- Valid entries whose ingress or egress is the port, or the port pair it belongs to. -/
def boundTo (s : State) (n : Nat) : List Nat :=
  let m := pairMort s n
  (validEntries s).filter (fun i => (entry s i).inMort == m || (entry s i).egMort == m)

/-- The ports whose hold timer counts for port `n`. -/
def holdGroup (s : State) (n : Nat) : List Nat := match pairOther s n with | some k => [n, k] | none => [n]

/-- A hold timer of the port, or of its pair, runs. -/
def holdRuns (s : State) (n : Nat) : Bool := (holdGroup s n).any (fun k => (lGet s k).holding)

/-- The hold timers of the port and its pair stop. -/
def stopHold (n : Nat) (s : State) : State :=
  forAll (holdGroup s n) (fun k s => lSet k { lGet s k with holding := false } s) s

/-- A mortise of an entry whose port still holds its tunnels. -/
def mortHeld (s : State) (m : Nat) : Bool := decide (m ≤ 4) && holdRuns s m

/-- The SUSPENDED tunnels of a port whose hold has ended resume, but for those that another port still holds. -/
def resumeHeld (n : Nat) (s : State) : State :=
  forAll (boundTo s n) (fun i s =>
    let t := tGet s i
    let e := entry s i
    if t.susp && !mortHeld s e.inMort && !mortHeld s e.egMort then resume i (tSet i { t with susp := false } s) else s) s

/-- The SUSPENDED tunnels of a port are torn down; the answer is the number of cells that went. -/
def teardownHeld (n : Nat) (s : State) : Nat × State :=
  teardownAll ((boundTo s n).filter (fun i => (tGet s i).susp)) s

/-! ### Time source of a dock (R454) -/

abbrev fTimeState : Fld := ⟨R.TIME_STATUS, 0, 2⟩
abbrev fSrcSel : Fld := ⟨R.TIME_CTRL, 0, 3⟩
abbrev fSrcPort : Fld := ⟨R.TIME_CTRL, 4, 2⟩

/-- A change of the port the time comes from: ACQUIRE, without a step, the integrator kept (R194). -/
def timeSourceMoves (s : State) : State :=
  if getF s fSrcSel = 1 ∧ getF s fSrcPort = getF s fPortA then setF fTimeState 1 s else s

/-! ### Following (R313, R316) -/

/-- A link's ROLE is active: the link is UP and its last ROLE cell names PAIR-ACTIVE or ISLAND. -/
def roleActive (s : State) (n : Nat) : Bool :=
  let r := getF s ⟨R.LINK_PARTNER_ROLE n, 0, 3⟩
  linkState s n == lsUp && bit s ⟨R.LINK_PARTNER_ROLE n, 8, 1⟩ && (r == mActive || r == mIsland)

/-- The epoch of a link's last ROLE cell. -/
def roleEpoch (s : State) (n : Nat) : Nat := (reg s (R.LINK_PARTNER_EPOCH n)).toNat

/-- Terminus entries from the pair adopt, reliable origins resend, frames from the old port are closed (R316). -/
def dockAdopt (s : State) : State :=
  let a := getF s fPortA
  let hid := getF s fPairHid
  let s := forAll ((validEntries s).filter (fun i => (entry s i).inMort == a)) closeArriving s
  let s := forAll ((validEntries s).filter (fun i =>
      let e := entry s i; e.terminus && e.inMort == a && e.orgHid == hid))
    (fun i s => bump R.PAIR_ADOPTIONS (tSet i { tGet s i with adopt := true, awaitSof := true } s)) s
  forAll ((validEntries s).filter (fun i => let e := entry s i; e.origin && e.reliable && e.egMort == a)) resendAll s

/-- The dock follows port `n`; with a new port the time may come from there, and with a higher epoch its tunnels adopt. -/
def dockTo (n : Nat) (s : State) : State :=
  let old := (reg s R.PAIR_DOCK_EPOCH).toNat
  let side := if n = getF s fPortB then 1 else 0
  let moves := n != followed s
  let s := { s with pair := { s.pair with following := true } }
  let s := setReg R.PAIR_DOCK_EPOCH (BitVec.ofNat 32 (roleEpoch s n)) s
  when moves (fun s =>
    when (decide (old < roleEpoch s n)) dockAdopt (timeSourceMoves (bump R.PAIR_DOCK_SWITCHES (setF fFollow side s)))) s

/-- The port that R313 names, where it names one. -/
def dockWant (s : State) : Option Nat :=
  let a := getF s fPortA
  let b := getF s fPortB
  if roleActive s a && roleActive s b then
    if roleEpoch s a = roleEpoch s b then (if s.pair.following then none else some a)
    else some (if roleEpoch s b < roleEpoch s a then a else b)
  else if roleActive s a then some a else if roleActive s b then some b else none

/-- The dock follows the port that R313 names. -/
def dockEvaluate (s : State) : State :=
  if bit s fDockEn then
    let a := getF s fPortA
    let b := getF s fPortB
    let any := roleActive s a || roleActive s b
    let same := roleActive s a && roleActive s b && roleEpoch s a == roleEpoch s b
    let want := dockWant s
    let s := when same (raise 111 2) (setF ⟨R.PAIR_DOCK_STATUS, 1, 1⟩ (if any then 1 else 0) s)
    match want with
    | none => { s with pair := { s.pair with following := s.pair.following || any } }
    | some n => dockTo n s
  else s

/-! ### The upstream of an island plan (R25, R453) -/

abbrev fUpstream : Fld := ⟨R.DEV_ISLAND_CTRL, 4, 4⟩

/-- The upstream that a plan names is there: a cable port UP, of a port pair either port; PCIe in L0 or L1. -/
def upstreamThere (s : State) (u : Nat) : Bool :=
  if u ≤ 3 then (holdGroup s u).any (fun n => linkState s n == lsUp) else bit s ⟨R.PCIE_STATUS 0, 0, 1⟩

/-- `CAUSE_CLEAR` follows the upstream of the plan in force while an ISLAND of cause "upstream lost" stands (Table 1-6).
DEDUCED, log entry 30. -/
def islandFollow (s : State) : State :=
  if mode s = mIsland ∧ getF s fIslCause = 1 then setF fCauseClear (if upstreamThere s s.modes.upstream then 1 else 0) s else s

end Sys2Proof.Machine
end

