-- ==== Sys2Proof/Machine/Pcie.lean ====
section
/-!
DEFINITION. The PCIe ports, the switch, and the send windows (09_pcie_and_dowel_bridge.md R214–R222).
-/
namespace Sys2Proof.Machine

/-! ### Physical links -/

abbrev fPcieSpeed (k : Nat) : Fld := ⟨R.PCIE_STATUS k, 1, 2⟩
abbrev fPcieWidth (k : Nat) : Fld := ⟨R.PCIE_STATUS k, 3, 2⟩

/-- The level in force (Table 2-5). -/
def level (s : State) : Nat := getF s ⟨R.PM_STATUS, 0, 2⟩

/-- The PCIe maximum rate of a level, as a SPEED code (Table 2-1). DESIGN CHOICE, log entry 31. -/
def pcieMax (lvl : Nat) : Nat := if lvl = 0 then 2 else 3

/-- The level whose rim clocks run: in a change, that of the target once they have risen or begun to fall (Table 16-2).
DESIGN CHOICE, log entry 31. -/
def rimLevel (s : State) : Nat :=
  match s.pwr.level with
  | .raiseRim | .lowerRim | .lowerVolt | .restoreLower => getF s ⟨R.PM_STATUS, 2, 2⟩
  | _ => level s

/-- The Target Link Speed of a physical link as a SPEED code: it bounds a downstream port alone (Table 9-1). -/
def linkTarget (s : State) (k : Nat) : Nat := if k = 0 then 3 else cfgF s (cVdp 4) 28 0 4 - 1

/-- The rate and width a link trains to with a partner (R215). -/
def pcieTrain (k partnerSpeed partnerWidth : Nat) (s : State) : State :=
  setF (fPcieWidth k) (min (min 2 (getF s ⟨R.PCIE_CTRL k, 3, 2⟩)) partnerWidth)
    (setF (fPcieSpeed k)
      (min (min (min (getF s ⟨R.PCIE_CTRL k, 0, 2⟩) (pcieMax (rimLevel s))) (linkTarget s k)) partnerSpeed) s)

/-- The physical link may leave Detect.Quiet: not the upstream one while `PSW.CTRL.UP_SRC` is 1 or at the standby (R216,
R219); the downstream one while its EN is 1 (Table 9-9) and configuration space does not put it down. -/
def pcieAllowed (s : State) (k : Nat) : Bool :=
  if k = 0 then !bit s ⟨R.PSW_CTRL, 0, 1⟩ && mode s != mStandby
  else bit s ⟨R.PCIE_CTRL 1, 5, 1⟩ && bit s ⟨0x8100C, 0, 1⟩ && !linkHeld s 4

/-- A physical link is outside L0 and L1; the tick of the upstream one is kept (R457). -/
def pcieLeave (k : Nat) (s : State) : State :=
  let s := when (k == 0) (fun s => { s with modes := { s.modes with pcieLeft := s.ticks } }) s
  setF (fInL1 k) 0 (setF (fDlUp k) 0 s)

/-- A physical link leaves L0 and L1. -/
def pcieDown (k : Nat) (s : State) : State :=
  if bit s (fDlUp k) then
    let s := pcieLeave k (bump (R.PCIE_LINK_DOWNS k) s)
    let s := raiseN (72 + k) s
    islandFollow (adaptersFollow (overbookCheck (5 + k) (when (k == 0) upstreamReset s)))
  else s

/-- PCIE_LINK_DOWN (R218). -/
def execPcieLinkDown (k : Fin 2) (s : State) : Res := hub s (pcieDown k)

/-- A physical link that is up is asked to retrain. -/
def askRetrain (k : Nat) (s : State) : State :=
  if bit s (fDlUp k) then setF ⟨R.PCIE_STATUS k, 6, 1⟩ 1 (setF ⟨R.PCIE_CTRL k, 2, 1⟩ 1 s) else s

/-- A write of RETRAIN (R215): the link retrains to the capped rate, or fails to and raises its source. -/
def pcieRetrain (k speed width : Nat) (ok : Bool) (s : State) : State :=
  if bit s (fDlUp k) then
    let s := setF ⟨R.PCIE_STATUS k, 6, 1⟩ 0 (setF ⟨R.PCIE_CTRL k, 2, 1⟩ 0 (bump (R.PCIE_RETRAINS k) s))
    if ok then overbookCheck (5 + k) (pcieTrain k speed width s) else raiseN (72 + k) s
  else s

/-- PCIE_RETRAIN (R215). -/
def execPcieRetrain (k : Fin 2) (speed : Fin 4) (width : Fin 3) (ok : Bool) (s : State) : Res :=
  hub s (pcieRetrain k speed width ok)

/-- UPSTREAM_HOT_RESET (R221). -/
def execUpstreamHotReset (s : State) : Res := hub s upstreamReset

/-- PCIE_COMPLETION_TIMEOUT (R231): a request of the bridge function is never answered; none times out while device control 2
disables it. -/
def execPcieCompletionTimeout (s : State) : Res :=
  hub s (fun s => if cfgBit s cBridge 26 4 then s else raiseN 76 (aerError cBridge 14 [] s))

/-! ### BAR requests (R220) -/

/-- The management endpoint takes requests: the upstream link is up, or the tunnel pair that carries it (Table 18-8). -/
def upstreamUp (s : State) : Bool := if upIsTunnel s then pairUp s 1 5 0x28 else bit s (fDlUp 0)

/-- A TLP has come in on the upstream side. -/
def upArrives (s : State) : State := if upIsTunnel s then s else bump64 (R.PCIE_RX_TLPS 0) (linkUse 0 s)

/-- A request at a BAR arrives. -/
def barArrives (f : State → State) (s : State) : State := if upstreamUp s then f (upArrives s) else s

/-- A request that Table 9-3 refuses. -/
def barRefused (s : State) : State :=
  limited (78 * 1024) tenUs (raiseN 78) (bump (R.PCIE_BAR_ERR 0) s)

/-! ### Send windows (R222) -/

def openFrame (s : State) (t : Nat) : List Byte := smGet (fun _ => []) s.pcie.open_ t
def setOpen (t : Nat) (f : List Byte) (s : State) : State :=
  { s with pcie := { s.pcie with open_ := smSet (fun _ => []) s.pcie.open_ t f } }

/-- SIZE of a send window in bytes. -/
def swSize (s : State) (t : Nat) : Nat := 4096 * 2 ^ getA s ⟨R.PSW_SW_CTRL t, 1, 4⟩

/-- FRAME_BYTES. -/
def swFrame (s : State) (t : Nat) : Nat := getA s ⟨R.PSW_SW_CTRL t, 16, 14⟩

/-- An open frame is discarded for a new one. -/
def abandon (t : Nat) (s : State) : State :=
  if (openFrame s t).isEmpty then s else setOpen t [] (bump R.PSW_SW_ABANDON s)

/-- The open frame grows; at FRAME_BYTES it enters its tunnel. -/
def grow (t : Nat) (data : List Byte) (s : State) : State :=
  let f := openFrame s t ++ data
  if f.length < swFrame s t then setOpen t f s
  else if f.length = swFrame s t then
    offerFrame 5 { tag := t, data := f } (setOpen t [] (bump64 R.PSW_SW_FRAMES s))
  else setOpen t [] (bump R.PSW_SW_ORDER s)

/-- A posted write to window `t` at window offset `off`. -/
def sendWindow (t off : Nat) (data : List Byte) (s : State) : State :=
  if getA s ⟨R.PSW_SW_CTRL t, 0, 1⟩ = 0 ∨ swSize s t < off + data.length then barRefused s
  else if (lookup s 5 t true).isNone then bump R.PSW_SW_ORDER s
  else if data.isEmpty then s
  else if off = 0 then grow t data (abandon t s)
  else if !(openFrame s t).isEmpty ∧ off = (openFrame s t).length then grow t data s
  else if data.length = 4 ∧ off = swSize s t - 4 then
    offerFrame 5 { tag := t, data := data } (abandon t s)
  else setOpen t [] (bump R.PSW_SW_ORDER s)

/-- SEND_WINDOW_WRITE (R222). DEDUCED, log entry 55. -/
def execSendWindowWrite (t : Fin 16) (off : BitVec 20) (data : List Byte) (s : State) : Res :=
  hub s (barArrives (sendWindow t off.toNat data))

end Sys2Proof.Machine
end

