-- ==== Sys2Proof/Machine/Disp.lean ====
section
/-!
DEFINITION. The panel display engine: write channels, fences, commits and the latch point (07_panel_display_engine.md R152–R177,
R458), and the BAR4 requests that its fences hold (R169, R220).
-/
namespace Sys2Proof.Machine

/-! ### Registers -/

abbrev fDispEn : Fld := ⟨R.DISP_CTRL, 0, 1⟩
abbrev fPending : Fld := ⟨0x70024, 0, 1⟩
abbrev fLate : Fld := ⟨0x70024, 1, 1⟩
abbrev fSuperseded : Fld := ⟨0x70024, 2, 1⟩
abbrev fDispResult : Fld := ⟨0x70024, 3, 3⟩
abbrev fDispSeq : Fld := ⟨0x70024, 8, 8⟩
abbrev fApplied : Fld := ⟨0x70024, 16, 16⟩
abbrev fRunning : Fld := ⟨R.DISP_STATUS, 0, 1⟩
abbrev fIslandHold : Fld := ⟨R.DISP_STATUS, 1, 1⟩
abbrev fBannerOn : Fld := ⟨R.DISP_STATUS, 2, 1⟩
abbrev fTeLocked : Fld := ⟨R.DISP_STATUS, 5, 1⟩
abbrev fTeLost : Fld := ⟨R.DISP_STATUS, 6, 1⟩
abbrev fUrgent : Fld := ⟨R.DISP_STATUS, 7, 1⟩
abbrev fRelOverrun : Fld := ⟨R.DISP_STATUS, 8, 1⟩
abbrev fMemReady : Fld := ⟨R.MEM_STATUS, 0, 1⟩

/-- The display engine is enabled and its raster runs. -/
def dispOn (s : State) : Bool := bit s fDispEn

/-- The outputs may send: the raster runs, the member is no standby (R322), and no sleep entry has stopped them (R367). -/
def sending (s : State) : Bool := dispOn s && mode s != mStandby && s.pwr.entry != 3

/-- An event of the DISP page. -/
def dispEvent (i : Nat) (s : State) : State := pageEvent 0x70 i s

def modDisp (f : Disp → Disp) (s : State) : State := { s with disp := f s.disp }

/-! ### The frame memory region (R126, R152) -/

/-- Bytes of the frame memory region. -/
def fbSize (s : State) : Nat := getA s ⟨R.MEM_FB_SIZE, 0, 9⟩ * 0x1000000

/-- SDRAM address of its first byte. -/
def fbBase (s : State) : Nat := getA s ⟨R.MEM_FB_BASE, 0, 8⟩ * 0x1000000

/-- DESIGN CHOICE, log entry 7. -/
def dByte : Nat → Byte := fun _ => 0

/-- Bytes of frame memory from an offset. DESIGN CHOICE, log entry 7. -/
def fbRead (s : State) (off n : Nat) : List Byte := (List.range n).map (fun i => smGet dByte s.dram (fbBase s + off + i))

/-- `n` beats of the SDRAM from beat `b` are written: the check bits of the first of them are those that an injection spoils (R359). -/
def storeBeats (b n : Nat) (s : State) : State :=
  let (k, c) := inversion s 0x53 0 n
  let fi := (List.range' b n).foldl (fun m i => smSet dNat m i (if i < b + k then c else 0)) s.mem.fi
  injected 0x53 0 n { s with mem := { s.mem with fi := fi } }

/-- `n` bytes of the SDRAM from address `a` are read: what check bits that an injection spoiled make of it (R127, R359). -/
def readBeats (a n rank : Nat) (s : State) : State :=
  let met := s.mem.fi.filter (fun e => decide (a / 8 ≤ e.1 ∧ e.1 < (a + n + 7) / 8))
  dramSpoiled (met.filter (fun e => e.2 = 1)).length (met.filter (fun e => e.2 = 2)).length rank s

/-- A write into frame memory. DESIGN CHOICE, log entry 7. -/
def fbWrite (off : Nat) (data : List Byte) (s : State) : State :=
  let base := fbBase s + off
  let s := storeBeats (base / 8) ((base % 8 + data.length + 7) / 8) s
  { s with dram := (data.zipIdx).foldl (fun m (p : Byte × Nat) => smSet dByte m (base + p.2) p.1) s.dram }

/-! ### The stale timer (R174) -/

/-- A restart event: the timer runs anew, its Plumb time is recorded, and the stale cause ends. -/
def restartStale (s : State) : State :=
  let s := modDisp (fun d => { d with lastTick := s.ticks, stale := false, blank := false }) s
  let w (i v : Nat) (s : State) : State := setReg (R.DISP_LAST_UPD_NS i) (BitVec.ofNat 32 v) s
  let p := rimPlumb s 57
  carry 57 (w 2 (p.sec / 2 ^ 32) (w 1 p.sec (w 0 p.ns s)))

/-- STALE_TIMEOUT in ticks of 4 ns, 0 with the timer disabled. -/
def staleTicks (s : State) : Nat := getF s ⟨R.DISP_STALE_TIMEOUT, 0, 16⟩ * 250000

/-- A write of STALE_TIMEOUT: the new value counts from the last restart event. -/
def staleSet (v : Word) (s : State) : State :=
  let s := setReg R.DISP_STALE_TIMEOUT (v &&& 0xFFFF) s
  if staleTicks s ≠ 0 ∧ staleTicks s ≤ s.ticks - s.disp.lastTick then modDisp (fun d => { d with stale := true }) s else s

/-- A write of `DISP.STALE_TIMEOUT`, and its journal record. -/
def staleWrite (v : Word) (s : State) : State :=
  let s := staleSet v s
  journalReg R.DISP_STALE_TIMEOUT (reg s R.DISP_STALE_TIMEOUT) s

/-- STALE_TIMEOUT_EXPIRY (R174): the time has passed since the last restart event or reset. DESIGN CHOICE, log entry 13. -/
def execStaleTimeoutExpiry (s : State) : Res :=
  hub s (fun s =>
    if staleTicks s ≠ 0 ∧ s.disp.lastTick + staleTicks s ≤ s.ticks then modDisp (fun d => { d with stale := true }) s else s)

/-! ### Layers -/

/-- The registers of a layer, 0 Ground or 1 Appliqué, by their index on the page. -/
abbrev layerReg (l i : Nat) : Nat := R.DISP_GND_CTRL + 0x20 * l + 4 * i

/-- The in-force or staged values of a layer's registers. -/
structure Layer where
  en : Bool
  fmt : Nat
  base : Nat
  pitch : Nat
  width : Nat
  height : Nat
  x : Nat
  y : Nat
  deriving DecidableEq, Repr

/-- A layer as `val` gives its registers. -/
def layerOf (val : Nat → Word) (l : Nat) : Layer :=
  let f (i lo w : Nat) : Nat := bits (val (layerReg l i)).toNat lo w
  { en := f 0 0 1 == 1, fmt := if l = 0 then f 0 1 2 else 0, base := f 1 12 20 * 4096, pitch := f 2 0 18,
    width := f 3 0 12, height := f 3 16 12, x := f 4 0 12, y := f 4 16 12 }

/-- Bytes per pixel (Table 7-2). -/
def Layer.bpp (l : Layer) : Nat := if l.fmt = 2 then 2 else 4

/-- Bytes of a layer buffer's extent (R157). -/
def Layer.len (l : Layer) : Nat := l.pitch * (l.height - 1) + l.width * l.bpp

/-- The extent that an enabled layer in force fences. -/
def fenceOf (s : State) (l : Nat) : Option Fence :=
  let y := layerOf (actReg s) l
  if y.en then some { layer := l, base := y.base, len := y.len } else none

/-- HACT and VACT. -/
def hact (s : State) : Nat := getF s ⟨R.DISP_H_TIMING, 0, 16⟩
def vact (s : State) : Nat := getF s ⟨R.DISP_V_TIMING, 0, 16⟩

/-- The first check of R157 that the staged set fails, as its RESULT code. -/
def dispCheck (s : State) : Nat :=
  let ls := ((List.range 2).map (layerOf (reg s))).filter (fun l => l.en)
  let inRaster (x y w h : Nat) : Bool := decide (x + w ≤ hact s) && decide (y + h ≤ vact s)
  if ls.any (fun l => l.fmt == 3) then 1
  else if ls.any (fun l => decide (fbSize s < l.base + l.len)) then 2
  else if ls.any (fun l => l.width == 0 || l.height == 0 || !inRaster l.x l.y l.width l.height)
      || !inRaster (getF s ⟨R.DISP_BNR_POS, 0, 12⟩) (getF s ⟨R.DISP_BNR_POS, 16, 12⟩) 1024 64 then 3
  else if ls.any (fun l => decide (l.pitch % 64 ≠ 0) || decide (l.pitch < l.width * l.bpp)) then 4
  else 0

/-! ### The raster (R158) and its outputs (R159–R162) -/

/-- The timing registers lie within R158. -/
def timingOk (s : State) : Bool :=
  let ht := getF s ⟨R.DISP_H_TIMING, 16, 16⟩
  let hs := getF s ⟨R.DISP_H_SYNC, 0, 16⟩
  let he := getF s ⟨R.DISP_H_SYNC, 16, 16⟩
  let vt := getF s ⟨R.DISP_V_TIMING, 16, 16⟩
  let vs := getF s ⟨R.DISP_V_SYNC, 0, 16⟩
  let ve := getF s ⟨R.DISP_V_SYNC, 16, 16⟩
  let pc := getF s ⟨R.DISP_PCLK_KHZ, 0, 20⟩
  decide (hact s ≤ 3840) && decide (vact s ≤ 2160)
    && decide (hact s < hs) && decide (hs < he) && decide (he ≤ ht) && decide (ht ≤ 8192)
    && decide (vact s ≤ vs) && decide (vs < ve) && decide (ve ≤ vt) && decide (vt ≤ 4096)
    && decide (25000 ≤ pc) && decide (pc ≤ 600000)

/-- Some timing value is odd (R159). -/
def timingOdd (s : State) : Bool :=
  [R.DISP_H_TIMING, R.DISP_H_SYNC, R.DISP_V_TIMING, R.DISP_V_SYNC].any (fun k =>
    getF s ⟨k, 0, 1⟩ == 1 || getF s ⟨k, 16, 1⟩ == 1)

/-- `DOUT.CTRL` of an output 0–3. -/
abbrev doutCtrl (k : Nat) : Nat := R.DOUT_DP_CTRL k

/-- The output pixel rate in kHz times 4: that of the raster, or a quarter of it with DECIM (R159). -/
def rateTimes4 (s : State) (decim : Bool) : Nat := getF s ⟨R.DISP_PCLK_KHZ, 0, 20⟩ * (if decim then 1 else 4)

/-- Bits per component of a DisplayPort BPC code and of a DSI FMT code, red, green and blue (Tables 7-14 and 7-15). -/
def dpBits (code : Nat) : Nat × Nat × Nat :=
  match code with
  | 0 => (6, 6, 6) | 1 => (8, 8, 8) | 2 => (10, 10, 10)
  | _ => (Config.reservedBits false / 3, Config.reservedBits false / 3, Config.reservedBits false / 3)
def dsiBits (code : Nat) : Nat × Nat × Nat :=
  match code with
  | 0 => (8, 8, 8) | 1 => (10, 10, 10) | 2 => (5, 6, 5)
  | _ => (Config.reservedBits true / 3, Config.reservedBits true / 3, Config.reservedBits true / 3)

/-- A DisplayPort output with DECIM, BPC and RATE as `DOUT.CTRL` and `DISP.ALT<n>` lay them out asks for more than `lanes`
carry (R161): rates in kb/s. DESIGN CHOICE, log entry 48. -/
def dpOver (s : State) (ctl lanes : Nat) : Bool :=
  let bpp := match bits ctl 2 2 with | 0 => 18 | 1 => 24 | 2 => 30 | _ => Config.reservedBits false
  let link := match bits ctl 6 2 with | 0 => 1620000 | 1 => 2700000 | 2 => 5400000 | _ => 8100000
  decide (8 * lanes * link * 4 < 10 * rateTimes4 s (bits ctl 1 1 == 1) * bpp)

/-- The staged output asks for more than its capacity (R161). DESIGN CHOICE, log entry 48. -/
def overBandwidth (s : State) (k : Nat) : Bool :=
  let ctl := (reg s (doutCtrl k)).toNat
  if k < 2 then
    dpOver s ctl (match bits ctl 4 2 with | 0 => 1 | 1 => 2 | 2 => 4 | _ => Config.reservedLanes)
  else
    let bpp := match bits ctl 2 2 with | 0 => 24 | 1 => 30 | 2 => 16 | _ => Config.reservedBits true
    decide (9 * (bits ctl 4 2 + 1) * (clampN 80 2500 (bits ctl 16 12) * 1000) * 4
      < 10 * rateTimes4 s (bits ctl 1 1 == 1) * bpp)

/-- Lanes of cable port `n` in Alternate Mode: pin assignment C has 4, D has 2 (R160, R272); none outside it. -/
def altLanes (s : State) (n : Nat) : Nat := match getF s ⟨R.TC_STATUS n, 12, 3⟩ with | 3 => 4 | 4 => 2 | _ => 0

/-- The LANES code that `DISP.ALT<n>` shows, as Table 7-14 encodes it. -/
def altLanesCode (s : State) (n : Nat) : Nat := altLanes s n / 2

/-- The staged Alternate Mode output would be refused as an output commit is (R161): its capacity, where the port has lanes
for it, or an odd timing with DECIM. DEDUCED, log entry 46. -/
def altRefused (s : State) (n : Nat) : Bool :=
  let ctl := (reg s (R.DISP_ALT n)).toNat
  bits ctl 0 1 == 1 && ((altLanes s n != 0 && dpOver s ctl (altLanes s n)) || (bits ctl 1 1 == 1 && timingOdd s))

/-- The timing that an output sends: with DECIM half of every horizontal and vertical value (R159). -/
def outTiming (s : State) (ctl : Nat) : List Nat :=
  [R.DISP_H_TIMING, R.DISP_H_SYNC, R.DISP_V_TIMING, R.DISP_V_SYNC].flatMap (fun k =>
    [getF s ⟨k, 0, 16⟩, getF s ⟨k, 16, 16⟩].map (fun v => if bits ctl 1 1 = 1 then v / 2 else v))

/-- A good commit of an output waits for the next latch point. -/
def doutApply (k : Nat) (s : State) : State :=
  let ch := if reg s (doutCtrl k) = actReg s (doutCtrl k) then [] else [(doutCtrl k, reg s (doutCtrl k))]
  let s := setF (fDirty (0x71 + k)) 0 (setF ⟨(0x71 + k) * 0x1000 + 0x024, 0, 1⟩ 1 s)
  let s := modDisp (fun d => { d with outputs := d.outputs.filter (fun j => j.1 != k) ++ [(k, reg s (doutCtrl k))] }) s
  journalCommit (0x71 + k) ch s

/-- DOUT_COMMIT (R161): ROLE is checked first; while the last commit waits a further one has no effect (R417).
DEDUCED, log entry 46. -/
def doutCommit (k : Nat) (s : State) : State :=
  let res : Fld := ⟨(0x71 + k) * 0x1000 + 0x024, 1, 2⟩
  if bit s ⟨(0x71 + k) * 0x1000 + 0x024, 0, 1⟩ then s
  else if mode s = mStandby then setF res 3 s
  else if overBandwidth s k then setF res 1 s
  else if bit s ⟨doutCtrl k, 1, 1⟩ && timingOdd s then setF res 2 s
  else doutApply k (setF res 0 s)

/-- DOUT_COMMIT (R161). -/
def execDoutCommit (k : Fin 4) (s : State) : Res := hub s (doutCommit k)

/-- HPD of DisplayPort output `o`: 0 and 1 the DOUT pages, 4–7 the cable ports' Alternate Mode outputs. -/
def hpdOf (s : State) (o : Nat) : Bool :=
  if o < 2 then bit s ⟨R.DOUT_STATUS o, 1, 1⟩ else smGet (fun _ => false) s.disp.altHpd o

/-- A DisplayPort output is enabled in force. -/
def dpEnabled (s : State) (o : Nat) : Bool :=
  if o < 2 then getA s ⟨doutCtrl o, 0, 1⟩ == 1 else getA s ⟨R.DISP_ALT (o - 4), 0, 1⟩ == 1

/-- A DisplayPort output is trained, or is not. -/
def setTrained (o : Nat) (t : Bool) (s : State) : State :=
  if o < 2 then
    let c (lo w : Nat) : Nat := getA s ⟨doutCtrl o, lo, w⟩
    let s := setF ⟨R.DOUT_STATUS o, 2, 1⟩ (if t then 1 else 0) s
    let s := setF ⟨R.DOUT_STATUS o, 0, 1⟩ (if t && sending s then 1 else 0) s
    if t then setF ⟨R.DOUT_STATUS o, 6, 2⟩ (c 6 2) (setF ⟨R.DOUT_STATUS o, 4, 2⟩ (c 4 2) s) else s
  else modDisp (fun d => { d with altTrained := smSet (fun _ => false) d.altTrained o t }) s

/-- Cable port `n` sends a picture in DisplayPort Alternate Mode: it is trained, its `DISP.ALT` is enabled, and the outputs may send
(R162, R273, R367). -/
def altSends (s : State) (n : Nat) : Bool :=
  smGet (fun _ => false) s.disp.altTrained (4 + n) && getA s ⟨R.DISP_ALT n, 0, 1⟩ == 1 && sending s

/-- Link training of a DisplayPort output begins. -/
def startTraining (o : Nat) (s : State) : State :=
  modDisp (fun d => { d with training := d.training.filter (fun j => j != o) ++ [o] }) s

/-- Link training of an output is no longer under way. -/
def endTraining (o : Nat) (s : State) : State :=
  modDisp (fun d => { d with training := d.training.filter (fun j => j != o) }) s

/-- A committed output takes effect. -/
def applyOutput (k : Nat) (v : Word) (s : State) : State :=
  let s := setF ⟨(0x71 + k) * 0x1000 + 0x024, 0, 1⟩ 0 (setAct (doutCtrl k) v s)
  let on := getA s ⟨doutCtrl k, 0, 1⟩ == 1
  if k < 2 then
    if on then if hpdOf s k then startTraining k s else s
    else endTraining k (setTrained k false s)
  else setF ⟨R.DOUT_STATUS k, 0, 1⟩ (if on && sending s then 1 else 0) s

/-- The outputs follow the raster: they send only while it runs. -/
def outputsFollow (s : State) : State :=
  forAll (List.range 4) (fun k s =>
    let on := getA s ⟨doutCtrl k, 0, 1⟩ == 1 && sending s && (decide (2 ≤ k) || bit s ⟨R.DOUT_STATUS k, 2, 1⟩)
    setF ⟨R.DOUT_STATUS k, 0, 1⟩ (if on then 1 else 0) s) s

/-- The number of a DisplayPort output from an operand: 0, 1, then the cable ports. -/
def dpOut (o : Fin 6) : Nat := if o.val < 2 then o.val else o.val + 2

/-- HPD of output `k` is lost (R162). -/
def hpdLoss (k : Nat) (s : State) : State :=
  if hpdOf s k then
    let s := if k < 2 then bump (R.DOUT_HPD_LOSSES k) (setF ⟨R.DOUT_STATUS k, 1, 1⟩ 0 s)
      else modDisp (fun d => { d with altHpd := smSet (fun _ => false) d.altHpd k false }) s
    raise 60 k (endTraining k (setTrained k false s))
  else s

/-- HPD of output `k` returns: the output retrains if AUTO_TRAIN is 1 (R162). -/
def hpdReturn (k : Nat) (s : State) : State :=
  let s := if k < 2 then setF ⟨R.DOUT_STATUS k, 1, 1⟩ 1 s
    else modDisp (fun d => { d with altHpd := smSet (fun _ => false) d.altHpd k true }) s
  if dpEnabled s k && (decide (2 ≤ k) || getA s ⟨doutCtrl k, 8, 1⟩ == 1) then startTraining k s else s

/-- HPD_LOSS (R162). -/
def execHpdLoss (o : Fin 6) (s : State) : Res := hub s (hpdLoss (dpOut o))

/-- HPD_RETURN (R162). -/
def execHpdReturn (o : Fin 6) (s : State) : Res := hub s (hpdReturn (dpOut o))

/-- DP_LINK_TRAINING_DONE (R162). -/
def execDpLinkTrainingDone (o : Fin 6) (ok : Bool) (s : State) : Res :=
  hub s (fun s =>
    let k := dpOut o
    if s.disp.training.contains k then
      let s := setTrained k ok (endTraining k s)
      if ok then s else raise 60 k (when (decide (k < 2)) (bump (R.DOUT_TRAIN_FAILS k)) s)
    else s)

/-- DP_IRQ_HPD (R160). -/
def execDpIrqHpd (k : Fin 2) (s : State) : Res :=
  hub s (fun s => if hpdOf s k then bump (R.DOUT_IRQ_HPD k) s else s)

/-! ### AUX and DCS transactions (Table 7-13) -/

/-- AUX_STATUS and the data registers of a channel: 0–3 the outputs, 4–7 the AUX channels of the cable ports' Alternate Mode,
on the TC pages (R273). -/
def auxStatus (k : Nat) : Nat := if k < 4 then R.DOUT_AUX_STATUS k else R.TC_AUX_STATUS (k - 4)
def auxWord (k i : Nat) : Nat := if k < 4 then R.DOUT_DATA k i else R.TC_AUX_DATA0 (k - 4) i

/-- The channel is a DisplayPort AUX channel, and its number of data words. -/
def auxIsDp (k : Nat) : Bool := decide (k < 2) || decide (4 ≤ k)
def auxWords (k : Nat) : Nat := if auxIsDp k then 4 else 8

/-- The die that a channel belongs to. -/
def auxDie (k : Nat) (s : State) (f : State → State) : Res := if k < 4 then hub s f else power s f

/-- AUX_TRANSACTION_START: a write of AUX_CMD or DCS_HDR. One while a transaction is BUSY is ignored, of which the spec says nothing.
DESIGN CHOICE, log entry 104. -/
def auxStart (k : Nat) (v : Word) (s : State) : State :=
  if bit s ⟨auxStatus k, 0, 1⟩ then s
  else
    let data := (List.range (auxWords k)).flatMap (fun i => bytesLE 4 (reg s (auxWord k i)).toNat)
    emit (.aux k v data) (setReg (auxStatus k) 1 s)

/-- AUX_TRANSACTION_START (R160, R273). -/
def execAuxTransactionStart (k : Fin 8) (v : Word) (s : State) : Res := auxDie k s (auxStart k v)

/-- Data a transaction returns goes to the DATA registers. -/
def auxData (k : Nat) (data : List Byte) (s : State) : State :=
  forAll (List.range (auxWords k)) (fun i s =>
    let old := bytesLE 4 (reg s (auxWord k i)).toNat
    let got := sub data (4 * i) 4
    setReg (auxWord k i) (BitVec.ofNat 32 (ofLE (got ++ old.drop got.length))) s) s

/-- AUX_TRANSACTION_DONE (R160, R273): on DisplayPort `reply` is the reply code; on DSI its bit 0 is ACK and bit 1 an error,
and `report` the peripheral's error report. -/
def execAuxTransactionDone (k : Fin 8) (reply : BitVec 2) (report : BitVec 16) (data : List Byte) (s : State) : Res :=
  auxDie k s (fun s =>
    let st := auxStatus k
    if bit s ⟨st, 0, 1⟩ then
      let s := auxData k data s
      if auxIsDp k then
        let s := setReg st (BitVec.ofNat 32 (reply.toNat * 2 + min 15 data.length * 16)) s
        if reply = 3 ∧ k.val < 2 then bump (R.DOUT_AUX_TIMEOUTS k) s else s
      else
        let s := setReg st (BitVec.ofNat 32 (reply.toNat * 2 + data.length % 256 * 256 + report.toNat * 65536)) s
        let err := decide (reply.getLsbD 1)
        let s := when err (bump (R.DOUT_ACK_ERR k)) s
        let s := when (decide (report ≠ 0)) (fun s => bump (R.DOUT_ERR_REPORTS k) (setF ⟨R.DOUT_STATUS k, 2, 1⟩ 1 s)) s
        if err || decide (report ≠ 0) then raise 61 k s else s
    else s)

/-! ### The Banner (R175, R176) -/

/-- The highest cause in force (Table 7-8). -/
def bannerCause (s : State) : Nat :=
  let auto := getA s ⟨R.DISP_BNR_CTRL, 0, 1⟩ == 1
  if getA s ⟨R.DISP_BNR_CTRL, 1, 1⟩ = 1 then 3
  else if auto && s.disp.stale then 2
  else if auto && bit s fIslandHold then 1
  else 0

/-- Year, month and day of a day number counted from 1970-01-01, in the proleptic Gregorian calendar: eras of 400 years
that begin on 1 March. -/
def civil (day : Nat) : Nat × Nat × Nat :=
  let z := day + 719468
  let era := z / 146097
  let doe := z % 146097
  let yoe := (doe - doe / 1460 + doe / 36524 - doe / 146096) / 365
  let doy := doe - (365 * yoe + yoe / 4 - yoe / 100)
  let mp := (5 * doy + 2) / 153
  let d := doy - (153 * mp + 2) / 5 + 1
  let m := if mp < 10 then mp + 3 else mp - 9
  (yoe + era * 400 + (if m ≤ 2 then 1 else 0), m, d)

/-- The `n` decimal digits of a number, as ASCII codes. -/
def digits (n x : Nat) : List Nat := (List.range n).map (fun i => 48 + x / 10 ^ (n - 1 - i) % 10)

/-- The glyphs YYYY-MM-DD hh:mm:ss of a time in seconds, dashes for a negative one. DESIGN CHOICE, log entry 49. -/
def timeGlyphs (t : Int) : List Nat :=
  let show_ (f : Nat → Nat → List Nat) : List Nat :=
    let n := t.toNat
    let (y, m, d) := civil (n / 86400)
    f 4 y ++ [45] ++ f 2 m ++ [45] ++ f 2 d ++ [32] ++ f 2 (n % 86400 / 3600) ++ [58] ++ f 2 (n % 3600 / 60) ++ [58]
      ++ f 2 (n % 60)
  if t < 0 then show_ (fun n _ => List.replicate n 45) else show_ digits

/-- The time field of the Banner (R176), none with TIME_EN 0. DESIGN CHOICE, log entry 49. -/
def bannerTime (s : State) : List Nat :=
  if getA s ⟨R.DISP_BNR_CTRL, 3, 1⟩ = 1 then
    let sec : Nat := (reg s (R.DISP_LAST_UPD_NS 1)).toNat + (reg s (R.DISP_LAST_UPD_NS 2)).toNat * 2 ^ 32
    timeGlyphs (Int.ofNat sec + (reg s R.DISP_BNR_TOFS).toInt)
  else []

/-- Where the time field lies within the Banner: larger values are held at the limits (R176). -/
def bannerTimePos (s : State) : Nat × Nat :=
  (min 720 (getA s ⟨R.DISP_BNR_TIME_POS, 0, 10⟩), min 40 (getA s ⟨R.DISP_BNR_TIME_POS, 16, 6⟩))

/-- The Banner follows its causes at a latch point. -/
def bannerLatch (s : State) : State :=
  let c := bannerCause s
  let was := bit s fBannerOn
  let s := setF fBannerOn (if c = 0 then 0 else 1) s
  let s := if c ≠ 0 ∧ c ≠ 3 ∧ !was then dispEvent 6 (raise 62 c (bump R.DISP_BANNER_SHOWS s)) else s
  if c = 0 then s else emit (.banner c (bannerTime s)) s

/-! ### Composition (R156) -/

/-- A component of `w` bits widened to 10 by bit replication. -/
def widen (w c : Nat) : Nat := if w = 5 then c * 32 + c else if w = 6 then c * 16 + c / 4 else if w = 8 then c * 4 + c / 64 else c

/-- A pixel of Ground as 10-bit red, green and blue. -/
def groundPixel (fmt v : Nat) : Nat × Nat × Nat :=
  if fmt = 2 then (widen 5 (bits v 11 5), widen 6 (bits v 5 6), widen 5 (bits v 0 5))
  else if fmt = 1 then (bits v 20 10, bits v 10 10, bits v 0 10)
  else (widen 8 (bits v 16 8), widen 8 (bits v 8 8), widen 8 (bits v 0 8))

/-- One layer blended over what lies below: C = C_layer + (1 − α) C_below, premultiplied, held at full scale.
DESIGN CHOICE, log entry 49. -/
def blendOver (argb : Nat) (below : Nat × Nat × Nat) : Nat × Nat × Nat :=
  let a := bits argb 24 8
  let c (lo x : Nat) : Nat := min 1023 (widen 8 (bits argb lo 8) + ((255 - a) * x * 2 + 255) / 510)
  (c 16 below.1, c 8 below.2.1, c 0 below.2.2)

/-- A word of a frame memory buffer. DESIGN CHOICE, log entry 49. -/
def fbWord (s : State) (l : Layer) (x y : Nat) : Nat := ofLE (fbRead s (l.base + l.pitch * y + l.bpp * x) l.bpp)

/-- The palette entry of the Banner at a place within it: the time field's glyphs are drawn over the image (R176). -/
def bannerIndex (s : State) (x y : Nat) : Nat :=
  let img (i : Nat) : Nat := (smGet (fun _ => (0 : Word)) s.disp.img i).toNat
  let (tx, ty) := bannerTimePos s
  let inField : Bool := decide (tx ≤ x) && decide (x < tx + 304) && decide (ty ≤ y) && decide (y < ty + 24)
  match if inField then (bannerTime s)[(x - tx) / 16]? else none with
  | some code =>
    if Config.glyphPixel code ((x - tx) % 16) (y - ty) then getA s ⟨R.DISP_BNR_CTRL, 4, 4⟩
    else bits (img (0x1000 + (y * 1024 + x) / 8)) (4 * (x % 8)) 4
  | none => bits (img (0x1000 + (y * 1024 + x) / 8)) (4 * (x % 8)) 4

/-- The pixel of the raster at (x, y), as 10-bit red, green and blue. -/
def pixelAt (s : State) (x y : Nat) : Nat × Nat × Nat :=
  let bg := (actReg s R.DISP_BG_COLOUR).toNat
  let inside (l : Layer) : Bool := l.en && decide (l.x ≤ x) && decide (x < l.x + l.width) && decide (l.y ≤ y) && decide (y < l.y + l.height)
  let img (i : Nat) : Nat := (smGet (fun _ => (0 : Word)) s.disp.img i).toNat
  let g := layerOf (actReg s) 0
  let a := layerOf (actReg s) 1
  let p := (bits bg 20 10, bits bg 10 10, bits bg 0 10)
  let p := if inside g && !s.disp.blank then groundPixel g.fmt (fbWord s g (x - g.x) (y - g.y)) else p
  let p := if inside a && !s.disp.blank then blendOver (fbWord s a (x - a.x) (y - a.y)) p else p
  let cx : Int := (x : Int) - sext 14 (getA s ⟨R.DISP_CUR_POS, 0, 14⟩)
  let cy : Int := (y : Int) - sext 14 (getA s ⟨R.DISP_CUR_POS, 16, 14⟩)
  let p := if getA s ⟨R.DISP_CUR_CTRL, 0, 1⟩ = 1 ∧ 0 ≤ cx ∧ cx < 64 ∧ 0 ≤ cy ∧ cy < 64 then
      blendOver (img (cy.toNat * 64 + cx.toNat)) p else p
  let bx := getA s ⟨R.DISP_BNR_POS, 0, 12⟩
  let by_ := getA s ⟨R.DISP_BNR_POS, 16, 12⟩
  if bit s fBannerOn ∧ bx ≤ x ∧ x < bx + 1024 ∧ by_ ≤ y ∧ y < by_ + 64 then
    blendOver (img (0x3000 + bannerIndex s (x - bx) (y - by_))) p
  else p

/-- The mean of `n` 10-bit components, given as their sum, rounded to the nearest value of `w` bits (R156, R159).
DESIGN CHOICE, log entry 49. -/
def roundTo (w n sum : Nat) : Nat := (2 * sum * (2 ^ w - 1) + n * 1023) / (2 * n * 1023)

/-- What an output with DECIM at `decim` and these bits per component shows at (x, y) of its own picture (R156, R159). -/
def shownPixel (s : State) (decim : Bool) (w : Nat × Nat × Nat) (x y : Nat) : Nat × Nat × Nat :=
  let ps := if decim then [(0, 0), (1, 0), (0, 1), (1, 1)].map (fun d => pixelAt s (2 * x + d.1) (2 * y + d.2)) else [pixelAt s x y]
  let c (w : Nat) (f : Nat × Nat × Nat → Nat) : Nat := roundTo w ps.length (ps.map f).sum
  (c w.1 (fun p => p.1), c w.2.1 (fun p => p.2.1), c w.2.2 (fun p => p.2.2))

/-- The pixel that output `o` in force shows: 0 and 1 the DisplayPort outputs, 2 and 3 the DSI outputs, 4 to 7 the cable ports. -/
def outputPixel (s : State) (o x y : Nat) : Nat × Nat × Nat :=
  let ctl := (if o < 4 then actReg s (doutCtrl o) else actReg s (R.DISP_ALT (o - 4))).toNat
  shownPixel s (bits ctl 1 1 == 1) (if o = 2 ∨ o = 3 then dsiBits (bits ctl 2 2) else dpBits (bits ctl 2 2)) x y

/-! ### Tearing effect (R171, R172) -/

/-- The output whose panel the raster follows: TE_LOCK is 1 and the output of TE_SRC is in command mode. -/
def teOutput (s : State) : Option Nat :=
  let k := 2 + getF s ⟨R.DISP_CTRL, 2, 1⟩
  if dispOn s && bit s ⟨R.DISP_CTRL, 1, 1⟩ && getA s ⟨doutCtrl k, 6, 1⟩ == 1 then some k else none

/-- `n` line times in ticks of 4 ns. -/
def lineTicks (s : State) (n : Nat) : Nat :=
  n * getF s ⟨R.DISP_H_TIMING, 16, 16⟩ * 250000 / max 1 (getF s ⟨R.DISP_PCLK_KHZ, 0, 20⟩)

/-- Lines from where the raster was last placed to VSYNC_START. -/
def porch (s : State) : Nat := getF s ⟨R.DISP_V_SYNC, 0, 16⟩ - s.disp.latchLine

/-- The raster has come to line VSYNC_START of this frame. -/
def atVsync (s : State) : Bool := decide (s.disp.latchTick + lineTicks s (porch s) ≤ s.ticks)

/-- The raster waits at VSYNC_START for an edge, unless it runs free after a missing one (R171, R172). -/
def teWaits (s : State) : Bool :=
  (teOutput s).isSome && !bit s fTeLost && !s.disp.teKept && !s.disp.tePassed && atVsync s

/-- An edge is used at VSYNC_START: the raster is locked (R171, R172). -/
def teUse (s : State) : State :=
  setF fTeLost 0 (setF fTeLocked 1 (modDisp (fun d => { d with teKept := false, tePassed := true }) s))

/-- The raster has left line VSYNC_START's beginning behind. -/
def pastVsync (s : State) : Bool := decide (s.disp.latchTick + lineTicks s (porch s) < s.ticks)

/-- What became of VSYNC_START of this frame: passed on a kept edge, or running free past it, where an edge that comes later is kept
for the next (R171, R172). -/
def teSettle (s : State) : State :=
  if (teOutput s).isNone || s.disp.tePassed then s
  else if s.disp.teKept && atVsync s then teUse s
  else if bit s fTeLost && pastVsync s then modDisp (fun d => { d with tePassed := true }) s
  else s

/-- The raster stands at the start of a line now. -/
def placeRaster (line : Nat) (s : State) : State := modDisp (fun d => { d with latchTick := s.ticks, latchLine := line }) s

/-- Line VSYNC_START. -/
def vsyncStart (s : State) : Nat := getF s ⟨R.DISP_V_SYNC, 0, 16⟩

/-- Line 0: the transfer of the frame to the command-mode panels starts with write_memory_start (R171). -/
def startFrame (s : State) : State :=
  let s := forAll [2, 3] (fun k s =>
    if bit s ⟨R.DOUT_STATUS k, 0, 1⟩ && getA s ⟨doutCtrl k, 6, 1⟩ == 1 then
      emit (.writeMemoryStart k) (bump (R.DOUT_CMD_FRAMES k) s)
    else s) s
  modDisp (fun d => { d with started := true }) s

/-- What the raster has passed by this tick: VSYNC_START on a kept edge, and line 0. -/
def rasterTick (s : State) : State :=
  if dispOn s then
    let s := teSettle s
    let top := s.disp.latchTick + lineTicks s (getF s ⟨R.DISP_V_TIMING, 16, 16⟩ - s.disp.latchLine)
    if !s.disp.started && !teWaits s && decide (top ≤ s.ticks) then startFrame s else s
  else s

/-- TE_EDGE (R171): an edge of a TE pin; one of the selected polarity counts, and releases the raster that waits, or is kept
for VSYNC_START. -/
def execTeEdge (k : Fin 2) (falling : Bool) (s : State) : Res :=
  hub s (fun s =>
    let o := 2 + k.val
    if falling == (getA s ⟨doutCtrl o, 7, 1⟩ == 1) then
      let s := bump (R.DOUT_TE_EDGES o) (setF ⟨R.DOUT_STATUS o, 1, 1⟩ 1 s)
      if teOutput s = some o then
        let s := modDisp (fun d => { d with teTick := s.ticks }) (teSettle s)
        if teWaits s then placeRaster (vsyncStart s) (teUse s) else modDisp (fun d => { d with teKept := true }) s
      else s
    else s)

/-! ### The latch point (R165–R170) -/

/-- The registers of the scanout set (R165). -/
def scanoutKeys : List Nat :=
  [R.DISP_BG_COLOUR] ++ (List.range 2).flatMap (fun l => (List.range 5).map (layerReg l))
    ++ [R.DISP_CUR_CTRL, R.DISP_CUR_POS, R.DISP_BNR_CTRL, R.DISP_BNR_POS, R.DISP_BNR_TIME_POS]
    ++ (List.range 4).map R.DISP_ALT

/-- The registers of the channel set. -/
def channelKeys : List Nat := (List.range 16).flatMap (fun t => [R.DISP_CH_BASE t, R.DISP_CH_PITCH t, R.DISP_CH_LINE t])

/-- A scanout set is in force; Alternate Mode outputs that it enables train. -/
def applySet (set : List (Nat × Word)) (s : State) : State :=
  let before := (List.range 4).filter (fun n => dpEnabled s (4 + n))
  let s := forAll set (fun p => setAct p.1 p.2) s
  let act (l : Nat) (s : State) : Word :=
    let y := layerOf (actReg s) l
    BitVec.ofNat 32 (y.base + if y.en then 1 else 0)
  let s := setReg R.DISP_ACT_APQ_ADDR (act 1 s) (setReg R.DISP_ACT_GND_ADDR (act 0 s) s)
  forAll (List.range 4) (fun n s =>
    if dpEnabled s (4 + n) && !before.contains n && hpdOf s (4 + n) then startTraining (4 + n) s
    else if !dpEnabled s (4 + n) then endTraining (4 + n) (setTrained (4 + n) false s)
    else s) s

/-- The fences after the layers in force have changed at a latch point: a buffer that stays keeps its fence, one that has a
successor waits for its last fetch (R168, R170). -/
def refence (frame : Nat) (s : State) : State :=
  let one (l : Nat) (fs : List Fence) : List Fence :=
    let new := fenceOf s l
    let stays (f : Fence) : Bool := f.layer == l && f.releasing == none && (new.map (fun n => n.base)) == some f.base
    let since := ((fs.find? stays).map (fun f => f.since)).getD (s.disp.epoch + 1)
    (fs.filter (fun f => !stays f)).map (fun f => if f.layer == l && f.releasing == none then { f with releasing := some frame } else f)
      ++ (new.map (fun n => { n with since := since })).toList
  modDisp (fun d => { d with fences := one 1 (one 0 d.fences), epoch := d.epoch + 1 }) s

/-- The last accepted commit has missed its first latch point (R166). -/
def noteLate (s : State) : State :=
  dispEvent 3 (raise 57 (getF s fDispSeq) (bump R.DISP_COMMITS_LATE (setF fLate 1 s)))

/-- The set that waits takes effect at this latch point, or misses it (R166); it waits on while its crossing cannot carry it
(R335, R341). -/
def latchSet (s : State) : State :=
  match s.disp.waits with
  | none => s
  | some set =>
    if s.disp.misses then
      let s := modDisp (fun d => { d with misses := false }) s
      if bit s fLate then s else noteLate s
    else if !carries s 49 then carry 49 s
    else
      let n := (reg s R.DISP_FRAME_COUNT).toNat
      let s := carry 49 (applySet set (modDisp (fun d => { d with waits := none }) s))
      refence (n % 256) (setF fApplied n (setF fPending 0 s))

/-- A range of frame memory meets an extent that was fenced before M9 accepted the write, and is not yet released (R168,
R169). -/
def fenced (s : State) (off len epoch : Nat) : Bool :=
  dispOn s && s.disp.fences.any (fun f =>
    !f.ended && decide (f.since ≤ epoch) && decide (off < f.base + f.len) && decide (f.base < off + len))

/-- A BAR4 write at the front that a fence holds. -/
def bar4Held (s : State) : Bool :=
  match s.disp.bar4 with
  | q :: _ => (match q.write with | some data => fenced s q.off data.length q.epoch | none => false)
  | [] => false

/-- Source 58 in a new frame, where a write is still held (R169, 14_clock_domain_crossings.md): of several, that of BAR4 or of the
lowest tag. DEDUCED, log entry 50. -/
def fenceAgain (s : State) : State :=
  let tag := (List.range 16).find? (fun t =>
    match smGet (fun _ => none) s.disp.held t with | some (off, data, at_) => fenced s off data.length at_ | none => false)
  let note (d : Nat) (s : State) : State := raise 58 d (modDisp (fun x => { x with noted := true }) s)
  if bar4Held s then note 0x80FF s else match tag with | some t => note t s | none => s

/-- Display urgency is raised or not (R163); a ZQ calibration that it deferred runs once it ends (Table 5-12). -/
def setUrgent (urgent : Bool) (s : State) : State :=
  let s := setF fUrgent (if urgent && dispOn s then 1 else 0) s
  if s.mem.zqDue && !urgent then setF ⟨R.MEM_STATUS, 6, 1⟩ 0 { s with mem := { s.mem with zqDue := false } } else s

/-- WMARK, 0 as 1 (Table 7-10). -/
def wmark (s : State) : Nat := max 1 (getF s ⟨R.DISP_CTRL, 4, 3⟩)

/-- A layer in force has WMARK or fewer complete lines ahead of the scan (R163). -/
def lowLines (s : State) (held : Nat × Nat) : Bool :=
  ((layerOf (actReg s) 0).en && decide (held.1 ≤ wmark s)) || ((layerOf (actReg s) 1).en && decide (held.2 ≤ wmark s))

/-- Urgency follows the line buffers, the watermark and the layers in force. -/
def urgencyFollow (s : State) : State := setUrgent (lowLines s s.disp.lineBuf) s

/-- A latch point, at the start of `line`: FRAME_COUNT, the waiting set, the outputs, the Banner. -/
def latchPoint (line : Nat) (s : State) : State :=
  let s := rasterTick s
  let s := if s.disp.started then s else startFrame s
  let s := dispEvent 0 (bump R.DISP_FRAME_COUNT s)
  let s := placeRaster line (modDisp (fun d => { d with noted := false, tePassed := false, started := false, latchAt := some s.ticks }) s)
  let s := latchSet s
  let outs := s.disp.outputs
  let s := forAll outs (fun o => applyOutput o.1 o.2) (modDisp (fun d => { d with outputs := [] }) s)
  fenceAgain (urgencyFollow (bannerLatch (outputsFollow s)))

/-- The frame that ends here was fetched from the buffers in force (R359). -/
def frameFetched (rank : Nat) (s : State) : State :=
  forAll ((List.range 2).filterMap (fenceOf s)) (fun f s => readBeats (fbBase s + f.base) f.len rank s) s

/-- The lines scanned since the last latch point, by what the buffers of Ground and Appliqué held at each, the last of them what they
hold now: urgency follows, and the lines under it are counted (R163). -/
def linesScanned (ground apq : List (Fin 9)) (s : State) : State :=
  let held := (ground.zip apq).map (fun l => (l.1.val, l.2.val))
  let s := modDisp (fun d => { d with lineBuf := held.getLast?.getD d.lineBuf }) s
  addCnt64 R.DISP_URGENT_LINES (held.filter (lowLines s)).length (urgencyFollow s)

/-- LATCH_POINT (R166): the raster reaches line VACT. `ground` and `apq` are the complete lines that the buffers of Ground and
Appliqué held as each line since the last latch point was scanned, the last of them what they hold now (R163); `ecc` is what a fetch of the
frame met, which is shown as read (R127). DESIGN CHOICE, log entry 47. -/
def execLatchPoint (ground apq : List (Fin 9)) (ecc : DramEcc) (s : State) : Res :=
  hub s (fun s =>
    if dispOn s && !teWaits s then
      let s := linesScanned ground apq s
      latchPoint (vact s) (frameFetched (if bit s fUrgent then 1 else 2) (dramEcc ecc (if bit s fUrgent then 1 else 2) s))
    else s)

/-- LINE_UNDERRUN (R164, Table 7-4): an active line of an enabled layer falls short; the raster jumps to VSYNC_START, and the line
buffers begin again. -/
def execLineUnderrun (line : ShortFrame) (s : State) : Res :=
  hub s (fun s =>
    let n := line.line.toNat
    if dispOn s && !teWaits s && decide (n < vact s) && (List.range 2).any (fun l => (layerOf (actReg s) l).en) then
      let s := emit (.blackLine n) (linesScanned line.ground line.apq s)
      let s := latchPoint (vsyncStart s) (modDisp (fun d => { d with lineBuf := (0, 0) }) s)
      dispEvent 2 (raise 56 n (bump R.DISP_UNDERRUNS s))
    else s)

/-! ### Commits -/

/-- The value of a scanout register that a commit would replace. -/
def lastCommitted (s : State) (k : Nat) : Word :=
  match s.disp.waits with
  | none => actReg s k
  | some set => ((set.find? (fun p => p.1 == k)).map (fun p => p.2)).getD (actReg s k)

/-- The channel set takes effect; a channel that it enables starts at line 0 and index 0 (R154 step 4). -/
def commitChannels (s : State) : State :=
  let s := forAll (List.range 16) (fun t s =>
    if bit s ⟨R.DISP_CH_BASE t, 0, 1⟩ && getA s ⟨R.DISP_CH_BASE t, 0, 1⟩ == 0 then chSet t {} s else s) s
  commitRegs channelKeys s

/-- Where the commit instant falls (Table 7-5): the pixel clocks since the raster was last placed against those of the lines
to the next latch point. A raster that waits has all of its blanking before it. A commit in the tick of the last latch point, after
it, falls on that one's instant. DESIGN CHOICE, log entry 47. -/
def commitWindow (s : State) : CommitWindow :=
  let vt := max 1 (getF s ⟨R.DISP_V_TIMING, 16, 16⟩)
  let lines := if s.disp.latchLine = vact s then vt else (vact s + vt - s.disp.latchLine) % vt
  let line := getF s ⟨R.DISP_H_TIMING, 16, 16⟩ * 1000000
  let gone := (s.ticks - s.disp.latchTick) * 4 * getF s ⟨R.DISP_PCLK_KHZ, 0, 20⟩
  if s.disp.latchAt = some s.ticks then .onLatch
  else if teWaits s ∨ gone + 2 * line ≤ lines * line then .early else if gone < lines * line then .closing else .atLatch

/-- The value that a commit gives a register: a refused Alternate Mode output keeps its own. DEDUCED, log entry 46. -/
def committing (s : State) (k : Nat) : Word :=
  match (List.range 4).find? (fun n => R.DISP_ALT n == k) with
  | some n => if altRefused s n then lastCommitted s k else reg s k
  | none => reg s k

/-- The effect of a DISP commit that its checks pass (R165–R167). DEDUCED, log entry 46. DESIGN CHOICE, log entry 47. -/
def dispApply (miss : Option Bool) (s : State) : State :=
    let w := commitWindow s
    let ch := ((scanoutKeys ++ channelKeys).filter (fun k => decide (committing s k ≠ lastCommitted s k))).map
      (fun k => (k, committing s k))
    let set := scanoutKeys.map (fun k => (k, committing s k))
    let replaced := s.disp.waits.isSome
    let s := bump R.DISP_COMMITS (setF fDispSeq (getF s fDispSeq + 1) (setF fSuperseded 0 (setF fLate 0 (setF fDispResult 0 s))))
    let s := restartStale (setF (fDirty 0x70) 0 (commitChannels s))
    let s := journalCommit 0x70 ch s
    let s := pulse 48 ⟨0, getF s fDispSeq⟩ s
    if !dispOn s then carry 49 (applySet set s)
    else
      let s := when replaced (fun s => bump R.DISP_SUPERSEDED (setF fSuperseded 1 s)) s
      let s := setF fPending 1 s
      let put (miss : Bool) (s : State) : State := modDisp (fun d => { d with waits := some set, misses := miss }) s
      match w with
      | .early => put false s
      | .closing => match miss with | some m => put m s | none => put ((free s).getLsbD 0) (nextFree s)
      | .atLatch => noteLate (put true s)
      | .onLatch => noteLate (put false s)

/-- DISP_COMMIT (R157, R165–R167). DESIGN CHOICE, log entry 47. -/
def dispCommit (miss : Option Bool) (s : State) : State :=
  let r := if mode s = mStandby then 5 else dispCheck s
  if r ≠ 0 then setF fDispResult r s else dispApply miss s

/-- DISP_COMMIT (R165): in the row of Table 7-5 that leaves it open, `miss` says that the set misses the next latch point.
DESIGN CHOICE, log entry 47. -/
def execDispCommit (miss : Bool) (s : State) : Res := hub s (dispCommit (some miss))

/-! ### Enabling and disabling (R152, R158, R458) -/

/-- The raster starts, at a latch point: its buffers are fenced, its line buffers empty (R152, R158, R168). -/
def rasterStart (s : State) : State :=
  let s := setF fRunning 1 (setReg R.DISP_FRAME_COUNT 0 s)
  let new := ((List.range 2).filterMap (fenceOf s)).map (fun f => { f with since := s.disp.epoch + 1 })
  outputsFollow (placeRaster (vact s) (modDisp (fun d =>
    { d with fences := d.fences ++ new, epoch := d.epoch + 1, noted := false, teKept := false, tePassed := false, started := false,
             latchAt := none, lineBuf := (0, 0) }) s))

/-- The raster stops: a pending set is in force, and every fence ends (R458). -/
def rasterStop (s : State) : State :=
  let n := getF s ⟨R.DISP_FRAME_COUNT, 0, 8⟩
  let s := match s.disp.waits with
    | some set => carry 49 (applySet set (setF fPending 0 (modDisp (fun d => { d with waits := none, misses := false }) s)))
    | none => s
  let s := modDisp (fun d => { d with fences := d.fences.map (fun f =>
    { f with ended := true, releasing := some (f.releasing.getD n) }) }) s
  outputsFollow (setF fTeLost 0 (setF fTeLocked 0 (setF fRunning 0 s)))

/-- TE_LOCK or TE_SRC is written: without a lock the raster runs on from where it stands; a new one holds from the next
VSYNC_START. DESIGN CHOICE, log entry 47. -/
def teFollow (was : Option Nat) (waited : Bool) (s : State) : State :=
  let s := if waited then placeRaster (vsyncStart s) s else s
  if teOutput s = was then s
  else
    let s := modDisp (fun d => { d with teTick := s.ticks, teKept := false, tePassed := pastVsync s }) s
    setF fTeLost 0 (setF fTeLocked 0 s)

/-- A write of `DISP.CTRL`. -/
def dispCtrlSet (v : Word) (s : State) : State :=
  let was := dispOn s
  let te := teOutput s
  let waited := teWaits s
  let s := setReg R.DISP_CTRL (v &&& 0x77) s
  let s :=
    if !was && dispOn s then
      if bit s fMemReady && decide (fbSize s ≠ 0) && timingOk s then teFollow none false (rasterStart s) else setF fDispEn 0 s
    else if was && !dispOn s then rasterStop s
    else if dispOn s then teFollow te (waited && !teWaits s) s
    else s
  urgencyFollow s

/-- A write of `DISP.CTRL`, and its journal record. DEDUCED, log entry 50. -/
def dispCtrlWrite (v : Word) (s : State) : State :=
  let s := dispCtrlSet v s
  journalReg R.DISP_CTRL (reg s R.DISP_CTRL) s

/-- DISP_ENABLE_WRITE (R152): a write of `DISP.CTRL` with EN 1. -/
def execDispEnableWrite (v : Word) (s : State) : Res := hub s (dispCtrlWrite (v ||| 1))

/-- DISP_DISABLE_WRITE (R458): a write of `DISP.CTRL` with EN 0. -/
def execDispDisableWrite (v : Word) (s : State) : Res := hub s (dispCtrlWrite (v &&& 0xFFFFFFFE))

/-! ### Fences and held writes (R168–R170) -/

/-- A write is held: it is counted, and reported at most once per frame. -/
def noteFence (detail : Nat) (s : State) : State :=
  let s := dispEvent 4 (bump R.DISP_FENCE_HITS s)
  if s.disp.noted then s else raise 58 detail (modDisp (fun d => { d with noted := true }) s)

/-- A channel line is written. -/
def writeLine (off : Nat) (data : List Byte) (s : State) : State :=
  restartStale (addCnt64 R.DISP_LINES_WRITTEN 1 (fbWrite off data s))

/-- A BAR4 write into the region. -/
def writeBar4 (off : Nat) (data : List Byte) (s : State) : State := restartStale (fbWrite off data s)

/-- A BAR4 read completes; data marked uncorrectable returns poisoned (R220). -/
def readBar4 (q : Bar4Req) (s : State) : State :=
  let s := readBeats (fbBase s + q.off) q.len 4 (dramEcc q.ecc 4 s)
  match q.ecc with
  | .uncorrectable _ data =>
    let d := fbRead s q.off q.len
    complete cMgmt q.tag 0 q.off ((data ++ d.drop data.length).take q.len) true (raiseN 79 (bump (R.PCIE_POISONED 0) s))
  | _ => complete cMgmt q.tag 0 q.off (fbRead s q.off q.len) false s

/-- The SDRAM is in the gap of a rate change: requests wait (R125). -/
abbrev fRateChanging : Fld := ⟨R.MEM_STATUS, 4, 1⟩

/-- The oldest BAR4 requests that neither a fence nor the gap of a rate change holds are performed in order; a write that a fence
holds there is counted once. -/
def drainBar4 : Nat → State → State
  | 0, s => s
  | n + 1, s =>
    if bit s fRateChanging then s
    else match s.disp.bar4 with
    | [] => s
    | q :: qs =>
      let rest (s : State) : State := drainBar4 n (modDisp (fun d => { d with bar4 := qs }) s)
      match q.write with
      | none => rest (readBar4 q s)
      | some data =>
        if fenced s q.off data.length q.epoch then
          if q.counted then s else noteFence 0x80FF (modDisp (fun d => { d with bar4 := { q with counted := true } :: qs }) s)
        else rest (writeBar4 q.off data s)

/-- A BAR4 request that lies in the region waits behind those that are held, or is performed. -/
def bar4Enter (q : Bar4Req) (s : State) : State :=
  let s := modDisp (fun d => { d with bar4 := d.bar4 ++ [{ q with epoch := d.epoch }] }) s
  drainBar4 s.disp.bar4.length s

/-- Table 9-3 lets a request at BAR4 through. -/
def bar4May (s : State) (off n : Nat) : Bool := bit s fMemReady && decide (off + n ≤ fbSize s)

/-- A request at BAR4 (R220): one that leaves the frame memory region is refused whole. DEDUCED, log entry 45. -/
def bar4Access (tag off : Nat) (write : Option (List Byte)) (len : Nat) (ecc : DramEcc) (s : State) : State :=
  let n := match write with | some d => d.length | none => len
  if bar4May s off n then
    bar4Enter { tag := tag, off := off, write := write, len := len, ecc := ecc } s
  else
    let s := barRefused s
    if write.isNone then complete cMgmt tag 1 off [] false s else s

/-- BAR4_REQUEST (R220). DEDUCED, log entry 45. -/
def execBar4Request (tag : BitVec 24) (off : BitVec 32) (write : Option (List Byte)) (len : BitVec 13) (ecc : DramEcc)
    (s : State) : Res :=
  hub s (barArrives (bar4Access tag.toNat off.toNat write len.toNat ecc))

/-- The held frame of channel `t` is written once neither a fence nor the gap of a rate change is in the way. -/
def heldLine (t : Nat) (s : State) : State :=
  match smGet (fun _ => none) s.disp.held t with
  | some (off, data, at_) =>
    if fenced s off data.length at_ || bit s fRateChanging then s
    else writeLine off data (modDisp (fun d => { d with held := smSet (fun _ => none) d.held t none }) s)
  | none => s

/-- FENCED_WRITE_PROCEED (R169): the held frame of a channel, or the held BAR4 requests, once no fence is in the way. -/
def execFencedWriteProceed (tag : Option (Fin 16)) (s : State) : Res :=
  hub s (fun s =>
    match tag with
    | none => drainBar4 s.disp.bar4.length s
    | some t => heldLine t.val s)

/-- The gap of a rate change is over: what waited for the SDRAM goes on (R125). -/
def gapOver (s : State) : State :=
  let s := setF fRateChanging 0 s
  drainBar4 s.disp.bar4.length (forAll (List.range 16) heldLine s)

/-- A release entry (Table 7-7): the queue holds 8, the oldest goes first. -/
def pushRelease (layer frame base : Nat) (s : State) : State :=
  let full := 8 ≤ s.disp.releases.length
  let s := modDisp (fun d => { d with releases := (if full then d.releases.tail else d.releases) ++ [(layer, frame, base)] }) s
  dispEvent 1 (if full then setF fRelOverrun 1 s else s)

/-- BUFFER_RELEASE (R170): the last fetch of the layer's oldest superseded buffer has completed. DEDUCED, log entry 50. -/
def execBufferRelease (layer : Fin 2) (s : State) : Res :=
  hub s (fun s =>
    match s.disp.fences.find? (fun f => f.layer == layer.val && f.releasing.isSome) with
    | some f =>
      pushRelease layer (f.releasing.getD 0) f.base (modDisp (fun d => { d with fences := d.fences.erase f }) s)
    | none => s)

/-- A read of `DISP.BUF_RELEASE`: the value, and the state after it. -/
def releaseRead (s : State) : Word × State :=
  match s.disp.releases with
  | [] => (0, setF fRelOverrun 0 s)
  | (l, f, b) :: r =>
    (BitVec.ofNat 32 (1 + l * 2 + f % 256 * 16 + b / 4096 * 4096), modDisp (fun d => { d with releases := r }) s)

/-- BUF_RELEASE_READ (R170). -/
def execBufReleaseRead (s : State) : Res :=
  hub s (fun s => let (v, s) := releaseRead s; emit (.readData v) s)

/-! ### Write channels (R154, R155) -/

/-- A discarded channel frame (Table 7-1). -/
def channelError (tag kind : Nat) (s : State) : State :=
  let c := match kind with | 1 => R.DISP_CH_LEN_ERR | 2 => R.DISP_CH_MISALIGN | 3 => R.DISP_CH_RANGE | _ => R.DISP_CH_NOCHAN
  limited (63 * 1024 + tag) tenUs (raise 63 (tag + kind * 256)) (dispEvent 7 (bump c s))

/-- LINE_BYTES of a channel in force. -/
def lineBytes (s : State) (t : Nat) : Nat := getA s ⟨R.DISP_CH_LINE t, 0, 14⟩

/-- A line frame that is at its place: its lost lines are counted, and it is written or held. -/
def placeLine (f : M9Frame) (s : State) : State :=
  let c := chGet s f.tag
  let q := f.idx / max 1 f.cells
  let off := getA s ⟨R.DISP_CH_BASE f.tag, 12, 20⟩ * 4096 + (c.cursor + q) * getA s ⟨R.DISP_CH_PITCH f.tag, 0, 18⟩
  if !bit s fMemReady || decide (fbSize s < off + f.data.length) then channelError f.tag 3 s
  else
    let s := match c.step with
      | some p => addCnt R.DISP_CH_LOST_LINES (q - p - 1) s
      | none => s
    let s := chSet f.tag { c with cells := f.cells, step := some q } s
    heldLine f.tag (when (fenced s off f.data.length f.epoch) (noteFence f.tag)
      (modDisp (fun d => { d with held := smSet (fun _ => none) d.held f.tag (some (off, f.data, f.epoch)) }) s))

/-- A whole frame at M9 (R154, Table 7-1). -/
def channelFrame (f : M9Frame) (s : State) : State :=
  if 16 ≤ f.tag ∨ getA s ⟨R.DISP_CH_BASE f.tag, 0, 1⟩ = 0 then channelError f.tag 4 s
  else if f.data.length = 4 then chSet f.tag { chGet s f.tag with cursor := ofBE f.data, step := none } s
  else if f.data.length ≠ lineBytes s f.tag then channelError f.tag 1 s
  else if f.idx % max 1 f.cells ≠ 0 then channelError f.tag 2 s
  else placeLine f s

/-- M9 performs its oldest frame with a tag, if it is of the kind the command names; a channel with a held frame waits. -/
def m9Perform (tag : Nat) (position : Bool) (s : State) : State :=
  match s.disp.inbox.find? (fun f => f.tag == tag) with
  | some f =>
    if (f.data.length == 4) == position && (smGet (fun _ => none) s.disp.held tag).isNone then
      channelFrame f (modDisp (fun d => { d with inbox := d.inbox.erase f }) s)
    else s
  | none => s

/-- POSITION_FRAME (R154). DEDUCED, log entry 45. -/
def execPositionFrame (tag : Byte) (s : State) : Res := hub s (m9Perform tag.toNat true)

/-- LINE_FRAME (R154): a frame of another length than 4, written, held, or discarded under Table 7-1.
DEDUCED, log entry 45. -/
def execLineFrame (tag : Byte) (s : State) : Res := hub s (m9Perform tag.toNat false)

/-- `DISP.CH<t>_POS`. -/
def channelPos (s : State) (t : Nat) : Nat :=
  let c := chGet s t
  let n := if c.cells = 0 then (lineBytes s t + 4 + 55) / 56 else c.cells
  let i := if c.zero then 0 else c.idx
  (c.cursor + (i + n - 1) / max 1 n) % 65536

/-! ### The raster at a moment -/

/-- TE_MISSING (R172): no edge for two nominal frame times; the raster runs free from where it stands. -/
def execTeMissing (s : State) : Res :=
  hub s (fun s =>
    match teOutput s with
    | some o =>
      let frame := lineTicks s (getF s ⟨R.DISP_V_TIMING, 16, 16⟩)
      if bit s fTeLost || decide (s.ticks < s.disp.teTick + 2 * frame) then s
      else
        let s := if teWaits s then placeRaster (vsyncStart s) (modDisp (fun d => { d with tePassed := true }) s) else s
        let s := dispEvent 5 (bump R.DISP_TE_MISSING (raise 59 o s))
        setF fTeLocked 0 (setF fTeLost 1 s)
    | none => s)

/-- The raster line at this moment: that at which it was last placed, and the lines elapsed since. A raster that waits for a TE
edge stands at VSYNC_START. -/
def rasterLine (s : State) : Nat :=
  if dispOn s then
    let vt := max 1 (getF s ⟨R.DISP_V_TIMING, 16, 16⟩)
    let ht := max 1 (getF s ⟨R.DISP_H_TIMING, 16, 16⟩)
    let n := (s.ticks - s.disp.latchTick) * 4 * getF s ⟨R.DISP_PCLK_KHZ, 0, 20⟩ / (1000000 * ht)
    if teWaits s then vsyncStart s else (s.disp.latchLine + n) % vt
  else 0

/-! ### Image memory -/

/-- An access of `DISP.IMG_DATA`: it reads, or writes, the word at IMG_ADDR, which advances. -/
def imgAccess (write : Option Word) (s : State) : Word × State :=
  let a := getF s ⟨R.DISP_IMG_ADDR, 0, 14⟩
  let d : Nat → Word := fun _ => 0
  let v := smGet d s.disp.img a
  let s := match write with
    | some w =>
      if a ≤ 0x300F then
        journalReg R.DISP_IMG_DATA w (journalReg R.DISP_IMG_ADDR (BitVec.ofNat 32 a) (modDisp (fun x => { x with img := smSet d x.img a w }) s))
      else s
    | none => s
  (v, setF ⟨R.DISP_IMG_ADDR, 0, 14⟩ (a + 1) s)

/-- IMG_DATA_ACCESS (R157). -/
def execImgDataAccess (write : Option Word) (s : State) : Res :=
  hub s (fun s =>
    let (v, s) := imgAccess write s
    if write.isNone then emit (.readData v) s else s)

/-! ### ISLAND (R173) -/

/-- The ISLAND condition is signalled: the picture in force is held. -/
def holdPicture (s : State) : State := setF fIslandHold 1 s

/-- The mode leaves ISLAND. -/
def releasePicture (s : State) : State := setF fIslandHold 0 s

end Sys2Proof.Machine
end

