-- ==== Sys2Proof/Machine/Bridge.lean ====
section
/-!
DEFINITION. The Dowel bridge (09_pcie_and_dowel_bridge.md R223–R235): byte lanes, outbound and inbound windows, delayed
transactions, posted write failures, bridge frames and the management cycle.
-/
namespace Sys2Proof.Machine

/-! ### Byte lanes (Table 9-7) -/

/-- Byte of a word that lane `lane` carries in the cycle at offset `off`, for a WIDTH code and a SWAP code. -/
def laneByte (width swap off lane : Nat) : Nat :=
  if width = 2 then (if swap = 1 then 3 - lane else lane)
  else if width = 1 then
    (if swap = 1 then off + (1 - lane) else if swap = 2 then (2 - off) + lane else off + lane)
  else if swap = 2 then 3 - off else off

/-- Offsets of the cycles of a word. -/
def wordOffsets (width : Nat) : List Nat := if width = 2 then [0] else if width = 1 then [0, 2] else [0, 1, 2, 3]

/-- Bytes per beat of a WIDTH code. -/
def beatBytes (width : Nat) : Nat := if width = 2 then 4 else if width = 1 then 2 else 1

/-- The beats of one word at local address `addr`; byte b of the word is byte `idx b` of the request, where enabled.
Beats whose bytes are all disabled are skipped. -/
def wordBeats (width swap addr : Nat) (idx : Nat → Option Nat) (data : List Byte) : List LbBeat :=
  ((wordOffsets width).map (fun off =>
    let ix := (List.range (beatBytes width)).map (fun l => idx (laneByte width swap off l))
    { addr := addr + off
      mask := (ix.zipIdx.map (fun p => if p.1.isSome then 2 ^ p.2 else 0)).sum
      lanes := ix.map (fun o => match o with | some i => data.getD i 0 | none => 0)
      bytes := ix.map (fun o => o.getD 0) : LbBeat })).filter (fun b => b.mask != 0)

/-- The beats of a request whose byte `i` lies at word-aligned distance: it starts at `start` in window space and at
`lb` + `start` locally. -/
def requestBeats (width swap lb start : Nat) (en : List Bool) (data : List Byte) : List LbBeat :=
  let first := start / 4
  let words := if en.isEmpty then 0 else (start + en.length - 1) / 4 + 1 - first
  (List.range words).flatMap (fun k =>
    let w := (first + k) * 4
    wordBeats width swap ((lb + w) % 2 ^ 26)
      (fun b => if start ≤ w + b ∧ en.getD (w + b - start) false then some (w + b - start) else none) data)

/-- Beats gathered into cycles: a burst has up to 16 beats at addresses rising by the width, within 64 bytes (R224).
DEDUCED, log entry 56. -/
def bursts (step : Nat) : List LbBeat → List (List LbBeat)
  | [] => []
  | b :: bs =>
    match bursts step bs with
    | (c :: cs) :: rest =>
      if c.addr = b.addr + step ∧ c.addr / 64 = b.addr / 64 ∧ cs.length < 15 then (b :: c :: cs) :: rest
      else [b] :: (c :: cs) :: rest
    | rest => [b] :: rest

/-- Bytes in the write buffer. -/
def wbuf (s : State) : Nat := (s.brg.jobs.map (fun j => if j.isWrite then j.size else 0)).sum

/-- Requests that wait for room in the 2 KiB write buffer go on while they find it (R228, R233); `fuel` bounds their number. -/
def releaseHeld : Nat → State → State
  | 0, s => s
  | n + 1, s =>
    match s.brg.held with
    | [] => s
    | j :: js =>
      if j.isWrite && wbuf s != 0 && decide (2048 < wbuf s + j.size) then s
      else releaseHeld n { s with brg := { s.brg with jobs := s.brg.jobs ++ [j], held := js } }

/-- The head job ends. -/
def dropJob (s : State) : State := brgSync (releaseHeld s.brg.held.length { s with brg := { s.brg with jobs := s.brg.jobs.tail } })

/-- The bus goes to a local master that asks for it, between cycles (R225). -/
def grantBus (s : State) : State :=
  if brgEn s && s.brg.req && !s.brg.master then
    setF ⟨R.BRG_STATUS, 0, 1⟩ 1 { s with brg := { s.brg with master := true } }
  else s

/-- After a write of `BRG.CTRL` (R223): with EN 0 the grant is released and the cycle of a local master that waits has no answer;
with EN 1 a master that asks is granted between cycles. -/
def brgEnFollow (s : State) : State :=
  if brgEn s then (if s.brg.jobs.isEmpty then grantBus s else s)
  else setF ⟨R.BRG_STATUS, 0, 1⟩ 0 { s with brg := { s.brg with master := false, current := none } }

/-! ### Outbound reads (R227) -/

/-- A read of window `w` that is under way will leave nothing in the prefetch buffer. -/
def LbJob.unkeep (p : Nat → Bool) (j : LbJob) : LbJob :=
  match j.who with
  | .read w _ => if p w then { j with keep := false } else j
  | _ => j

/-- The reads under way in windows of a choice prefetch nothing any more: what they have got is discarded with the buffers. -/
def unkeepJobs (p : Nat → Bool) (s : State) : State :=
  { s with brg := { s.brg with jobs := s.brg.jobs.map (LbJob.unkeep p), held := s.brg.held.map (LbJob.unkeep p) } }

/-- The prefetch buffer of a window is discarded. -/
def dropPrefetch (w : Nat) (s : State) : State :=
  { s with brg := { s.brg with prefetch := smSet (fun _ => (0, [])) s.brg.prefetch w (0, []) } }

/-- A write to window `w` discards what has been prefetched there (R227). -/
def writePrefetch (w : Nat) (s : State) : State := unkeepJobs (· == w) (dropPrefetch w s)

/-- A cycle of the local master discards what has been prefetched in any window (R227). -/
def dropPrefetches (s : State) : State := unkeepJobs (fun _ => true) { s with brg := { s.brg with prefetch := [] } }

/-- The enabled bytes of a request. -/
def enabledBytes (en : List Bool) (data : List Byte) : List Byte :=
  (en.zip data).filterMap (fun p => if p.1 then some p.2 else none)

/-- Maximal runs of enabled bytes: start and length. -/
def enabledRuns : Nat → List Bool → List (Nat × Nat)
  | _, [] => []
  | i, false :: en => enabledRuns (i + 1) en
  | i, true :: en =>
    match enabledRuns (i + 1) en with
    | (j, n) :: rest => if j = i + 1 then (i, n + 1) :: rest else (i, 1) :: (j, n) :: rest
    | [] => [(i, 1)]

/-- The first enabled byte of a request. -/
def firstOn (en : List Bool) : Nat := (en.takeWhile (fun b => !b)).length

/-- The management endpoint answers a read that starts at `off` (R220). -/
def readAnswer (tag status off : Nat) (en : List Bool) (data : List Byte) (s : State) : State :=
  complete cMgmt tag status (off + firstOn en) data false s

/-- The last byte of a job has been moved: it completes. DEDUCED, log entry 56. -/
def finishJob (j : LbJob) (s : State) : State :=
  let s := dropJob s
  let bytes := (List.range j.len).map (smGet (fun _ => 0) j.got)
  match j.who with
  | .read w tag =>
    let s := if j.keep then
        let keep := bytes.drop (bytes.length - 128)
        { s with brg := { s.brg with prefetch := smSet (fun _ => (0, [])) s.brg.prefetch w
                                       (j.start + (bytes.length - keep.length), keep) } }
      else s
    readAnswer tag 0 j.start j.enables (enabledBytes j.enables bytes) s
  | .write w => writePrefetch w s
  | .frame => s
  | .mgmt write =>
    let s := setF ⟨R.BRG_MA_STATUS, 0, 3⟩ 0 s
    if write then s
    else setReg R.BRG_MA_DATA (BitVec.ofNat 32 (ofLE ((List.range 4).map (fun b =>
      smGet (fun k => BitVec.ofNat 8 (bits (reg s R.BRG_MA_DATA).toNat (8 * k) 8)) j.got b)))) s

/-- Jobs at the head that need no cycle complete at once: every byte of them is disabled (R230). -/
def settleJobs : Nat → State → State
  | 0, s => s
  | n + 1, s =>
    match s.brg.jobs with
    | j :: _ => if j.cycles.isEmpty then settleJobs n (finishJob j s) else s
    | [] => s

/-- The jobs at the head that need no cycle complete. -/
def settleAll (s : State) : State := settleJobs (allJobs s).length s

/-- A job joins the bridge's work, in order of arrival (R228); a write that the buffer has no room for waits, and what comes after
it too. -/
def addJob (j : LbJob) (s : State) : State :=
  let s := { s with brg := { s.brg with held := s.brg.held ++ [{ j with serial := s.brg.nextSerial }],
                                        nextSerial := s.brg.nextSerial + 1 } }
  settleAll (brgSync (releaseHeld s.brg.held.length s))

/-- The read of `off` within outbound window `w`: refused, served from the prefetch buffer, or put to the bus. No read passes an
earlier write (R228). -/
def outboundRead (w tag off : Nat) (en : List Bool) (s : State) : State :=
  let win := outWindow s w
  if !win.en ∨ win.size < off + en.length then readAnswer tag 1 off en [] (barRefused s)
  else if win.target then readAnswer tag 1 off en [] s
  else
    let (base, buf) := smGet (fun _ => (0, [])) s.brg.prefetch w
    if win.prefetch ∧ base ≤ off ∧ off + en.length ≤ base + buf.length ∧ !buf.isEmpty ∧ !(allJobs s).any LbJob.isWrite then
      readAnswer tag 0 off en (enabledBytes en (buf.drop (off - base))) s
    else
      let last := off + en.length - 1
      let stop := if win.prefetch then min win.size ((last / 64 + 2) * 64) else off + en.length
      let all := if win.prefetch then List.replicate (stop - off) true else en
      addJob { who := .read w tag, start := off, len := stop - off, enables := en, keep := win.prefetch, cs := win.cs, width := win.width,
               cycles := bursts (beatBytes win.width) (requestBeats win.width win.swap win.lb off all []) } s

/-- OUTBOUND_READ (R227). -/
def execOutboundRead (w : Fin 8) (tag : BitVec 24) (off : BitVec 26) (enables : List Bool) (s : State) : Res :=
  hub s (barArrives (outboundRead w tag.toNat off.toNat enables))

/-! ### Outbound writes and bridge frames (R228, R233) -/

/-- The frame of one contiguous run of a bridge-tunnel write. -/
def bridgeFrame (win : Window) (addr : Nat) (data : List Byte) : List Byte :=
  [BitVec.ofNat 8 (win.cs + win.width * 4 + win.swap * 16)] ++ bytesBE 4 (addr % 2 ^ 26) ++ bytesBE 2 data.length ++ [0]
    ++ data

/-- A write through a bridge tunnel that starts at local address `addr`. -/
def sendBridge (m tag : Nat) (win : Window) (addr : Nat) (en : List Bool) (data : List Byte) (s : State) : State :=
  forAll (enabledRuns 0 en) (fun r s =>
    offerFrame m { tag := tag, data := bridgeFrame win (addr + r.1) ((data.drop r.1).take r.2) } s) s

/-- A memory write at `off` within outbound window `w`. -/
def outboundWrite (w off : Nat) (en : List Bool) (data : List Byte) (s : State) : State :=
  let win := outWindow s w
  if !win.en ∨ win.size < off + en.length then barRefused s
  else if win.target then sendBridge 5 (0x10 + w) win (win.lb + off) en data (writePrefetch w s)
  else
    let beats := requestBeats win.width win.swap win.lb off en data
    addJob { who := .write w, start := off, len := en.length, enables := en, size := data.length, cs := win.cs,
             width := win.width, base := getA s ⟨R.BRG_OW_BASE w, 12, 16⟩ * 4096,
             cycles := if win.posted then bursts (beatBytes win.width) beats else beats.map (fun b => [b]) }
      (writePrefetch w s)

/-- OUTBOUND_WRITE (R228). DEDUCED, log entry 56. -/
def execOutboundWrite (w : Fin 8) (off : BitVec 26) (enables : List Bool) (data : List Byte) (s : State) : Res :=
  hub s (barArrives (outboundWrite w off.toNat enables data))

/-- PREFETCH_EXPIRY (R227): prefetched data is 10 µs old. -/
def execPrefetchExpiry (w : Fin 8) (s : State) : Res := hub s (dropPrefetch w)

/-- BRIDGE_FRAME_PERFORM (R233): a bridge frame at the terminus becomes a posted local write, or is refused. -/
def execBridgeFramePerform (frame : List Byte) (s : State) : Res :=
  hub s (fun s =>
    if bit s ⟨R.BRG_CTRL, 1, 1⟩ then
      let c := byteAt frame 0
      let addr := ofBE (sub frame 1 4) % 2 ^ 26
      let data := (frame.drop 8).take (ofBE (sub frame 5 2))
      let width := bits c 2 2
      addJob { who := .frame, start := addr, len := data.length, size := data.length, cs := bits c 0 2, width := width,
               cycles := bursts (beatBytes width)
                 (requestBeats width (bits c 4 2) 0 addr (List.replicate data.length true) data) } s
    else bump R.BRG_REMOTE_REFUSED s)

/-! ### The end of a cycle (R224, R227, R229, R234) -/

/-- The capture of a failed posted write (Table 9-6 steps 3 and 4). DEDUCED, log entry 56. -/
def perrCapture (window addr : Nat) (timeout : Bool) (s : State) : State :=
  let s := if bit s ⟨R.BRG_PERR_WINDOW, 0, 1⟩ then s else
    setReg (R.BRG_PERR_TIME_NS 2) (BitVec.ofNat 32 (s.plumb.sec / 2 ^ 32))
      (setReg (R.BRG_PERR_TIME_NS 1) (BitVec.ofNat 32 s.plumb.sec)
        (setReg (R.BRG_PERR_TIME_NS 0) (BitVec.ofNat 32 s.plumb.ns)
          (setReg R.BRG_PERR_WINDOW (BitVec.ofNat 32 (1 + window % 16 * 16 + if timeout then 256 else 0))
            (setReg R.BRG_PERR_ADDR (BitVec.ofNat 32 (addr % 2 ^ 28)) s))))
  raise 88 window (satAdd ⟨R.BRG_PERR_COUNT, 0, 32⟩ 1 s)

/-- The first byte of the request that a cycle carries, as a distance from its start. -/
def cycleFirst (c : List LbBeat) : Nat :=
  match c with
  | b :: _ =>
    let on := (b.bytes.zipIdx.filter (fun p => b.mask.testBit p.2)).map Prod.fst
    on.foldl min (on.headD 0)
  | [] => 0

/-- The head job's cycle ends in error (R227, R229, R234). -/
def cycleError (timeout : Bool) (s : State) : State :=
  match s.brg.jobs with
  | [] => s
  | j :: _ =>
    let rest := j.cycles.length - 1
    match j.who with
    | .read w tag =>
      raise 89 w (bump R.BRG_NP_ERR (readAnswer tag 4 j.start j.enables [] (dropJob s)))
    | .write w =>
      perrCapture w (j.base + j.start + cycleFirst (j.cycles.headD [])) timeout
        (addCnt R.BRG_PERR_SKIPPED rest (writePrefetch w (dropJob s)))
    | .frame =>
      perrCapture 15 (j.start + cycleFirst (j.cycles.headD [])) timeout (addCnt R.BRG_PERR_SKIPPED rest (dropJob s))
    | .mgmt _ =>
      raiseN 89 (setF ⟨R.BRG_MA_STATUS, 0, 3⟩ ((if timeout then 2 else 1) * 2) (dropJob s))

/-- Bytes that a read cycle brought in on its lanes. -/
def takeLanes (c : List LbBeat) (lanes : List (List Byte)) (got : SMap Byte) : SMap Byte :=
  (c.zip lanes).foldl (fun got p =>
    (p.1.bytes.zipIdx.filter (fun q => p.1.mask.testBit q.2)).foldl
      (fun got q => smSet (fun _ => 0) got q.1 (p.2.getD q.2 0)) got) got

/-- The head job's cycle ends well; at its last cycle the job completes. DEDUCED, log entry 56. -/
def cycleOk (lanes : List (List Byte)) (s : State) : State :=
  match s.brg.jobs with
  | [] => s
  | j :: js =>
    let j := { j with got := takeLanes (j.cycles.headD []) lanes j.got, cycles := j.cycles.tail }
    let s := bump64 R.BRG_OUT_CYCLES { s with brg := { s.brg with jobs := j :: js } }
    if j.cycles.isEmpty then finishJob j s else s

/-- A cycle of the TD7760 ends, well or in error; the bus then goes to a local master that asks for it (R225). -/
def cycleEnds (f : State → State) (s : State) : State := grantBus (settleAll (f s))

/-- Some cycle of the TD7760 is on the bus. -/
def cycling (s : State) : Bool := brgEn s && !s.brg.master && !s.brg.jobs.isEmpty

/-- The head job is `BRG.MA_CMD`'s. -/
def mgmtAtHead (s : State) : Bool := match s.brg.jobs with | j :: _ => (match j.who with | .mgmt _ => true | _ => false) | [] => false

/-- LOCAL_BUS_CYCLE_END (R224): a cycle of an outbound window or a bridge frame ends; `lanes` are the lanes of each beat. -/
def execLocalBusCycleEnd (err : Bool) (lanes : List (List Byte)) (s : State) : Res :=
  hub s (fun s =>
    if cycling s && !mgmtAtHead s then cycleEnds (if err then cycleError false else cycleOk lanes) s else s)

/-- LB_BEAT_TIMEOUT (R224): a beat has had no answer for TMO clocks. -/
def execLbBeatTimeout (s : State) : Res :=
  hub s (fun s => if cycling s then cycleEnds (cycleError true) s else s)

/-- POSTED_WRITE_FAILURE (R229): a cycle of a posted write ends with `LB_ERR_N` or a timeout. -/
def execPostedWriteFailure (timeout : Bool) (s : State) : Res :=
  hub s (fun s =>
    match s.brg.jobs with
    | j :: _ => if cycling s && j.isWrite then cycleEnds (cycleError timeout) s else s
    | [] => s)

/-- PERR_CAPTURE_RELEASE (R229). -/
def execPerrCaptureRelease (s : State) : Res := hub s (setF ⟨R.BRG_PERR_WINDOW, 0, 1⟩ 0)

/-! ### The management cycle (R234) -/

/-- A write of `BRG.MA_CMD`: one local cycle, unless one runs. -/
def maCmd (write : Bool) (be : Nat) (s : State) : State :=
  if bit s ⟨R.BRG_MA_STATUS, 0, 1⟩ then s
  else
    let a := (reg s R.BRG_MA_ADDR).toNat
    let addr := bits a 0 26
    let width := bits a 28 2
    let step := beatBytes width
    let beats := wordBeats width (bits a 30 2) (addr / 4 * 4) (fun b => if be.testBit b then some b else none)
      (bytesLE 4 (reg s R.BRG_MA_DATA).toNat)
    let mine := beats.filter (fun b => b.addr == addr / step * step)
    if mine.isEmpty then setF ⟨R.BRG_MA_STATUS, 0, 3⟩ 0 s
    else addJob { who := .mgmt write, start := addr, len := 4, cs := bits a 26 2, width := width, cycles := [mine] }
      (setF ⟨R.BRG_MA_STATUS, 0, 3⟩ 1 s)

/-- MA_READ and MA_WRITE (R234). -/
def execMaRead (be : BitVec 4) (s : State) : Res := hub s (maCmd false be.toNat)
def execMaWrite (be : BitVec 4) (s : State) : Res := hub s (maCmd true be.toNat)

/-- MA_CYCLE_DONE (R234): OK, ERR or TIMEOUT. -/
def execMaCycleDone (result : Fin 3) (lanes : List Byte) (s : State) : Res :=
  hub s (fun s =>
    if cycling s && mgmtAtHead s then
      cycleEnds (if result.val = 0 then cycleOk [lanes] else cycleError (result.val == 2)) s
    else s)

/-! ### Arbitration (R225) and the interrupt -/

/-- LB_REQUEST (R225): granted once the cycle in progress has ended. -/
def execLbRequest (s : State) : Res :=
  hub s (fun s =>
    let s := { s with brg := { s.brg with req := true } }
    if s.brg.jobs.isEmpty then grantBus s else s)

/-- LB_REQUEST_RELEASE (R225). -/
def execLbRequestRelease (s : State) : Res :=
  hub s (fun s => setF ⟨R.BRG_STATUS, 0, 1⟩ 0 { s with brg := { s.brg with req := false, master := false } })

/-- LB_GRANT_MAX_EXPIRY (R225): with work pending the grant is withdrawn; the master still holds the bus until it
releases its request. -/
def execLbGrantMaxExpiry (s : State) : Res :=
  hub s (fun s => if s.brg.master && !s.brg.jobs.isEmpty then setF ⟨R.BRG_STATUS, 0, 1⟩ 0 s else s)

/-- LB_INT_LOW (Table 9-4): the sampled level of `LB_INT_N`; source 90 while it is low. -/
def execLbIntLow (low : Bool) (s : State) : Res :=
  hub s (fun s =>
    let s := setF ⟨R.BRG_STATUS, 1, 1⟩ (if low then 1 else 0) s
    if low then raiseN 90 s else s)

/-! ### Inbound windows (R231, R232) -/

/-- The switch takes a request of the bridge function for an address: the function and VDP5 are bus masters, and the request has
somewhere to go (R216, Table 9-2). -/
def bridgeMay (s : State) (a : Nat) : Bool :=
  busMaster s cBridge && busMaster s (cVdp 5) &&
    (match (if acsOn s 5 2 then none else vdpOfAddr s a) with
      | some w => w != 5 && bit s (fVdp w)
      | none => busMaster s cUp && upstreamUp s && (acsOn s 5 2 || !memBelow s cUp a))

/-- A request of the bridge function, with its requester ID and a tag, enters the switch behind VDP5 (R231). -/
def bridgeRequest (tag : Nat) (write : Bool) (addr len : Nat) (data : List Byte) (s : State) : State :=
  let id := functionId s cBridge
  fromVdp 5 (.pcieRequest id tag write addr len data) (memTlp id tag write addr len data) s

/-- The tag of the bridge function's next read: of 8 bits where its device control enables them, else of 5 (Table 9-1). -/
def nextTag (s : State) : Nat := s.brg.asked % (if cfgBit s cBridge 18 8 then 256 else 32)

/-- Inbound writes leave for PCIe, one request per run of enabled bytes, each of no more than a payload. -/
def drainInbound (s : State) : State :=
  if upstreamUp s then
    let n := min (maxPayload s cBridge) (maxPayload s (cVdp 5))
    forAll s.brg.inbuf (fun w s =>
      if busMaster s cBridge then
        forAll (chunksOf n w.2.length w.2).zipIdx (fun c => bridgeRequest 0 true (w.1 + c.2 * n) c.1.length c.1) s
      else s) { s with brg := { s.brg with inbuf := [] } }
  else s

/-- Bytes of a master's beats in address order, under the 32-bit rows of Table 9-7, and which of them are enabled. -/
def beatsToBytes (swap : Nat) (be : List (BitVec 4)) (lanes : List (List Byte)) : List Bool × List Byte :=
  let lane (b : Nat) : Nat := if swap = 1 then 3 - b else b
  (be.flatMap (fun m => (List.range 4).map (fun b => m.toNat.testBit (lane b))),
   ((List.range be.length).map (fun k => (List.range 4).map (fun b => (lanes.getD k []).getD (lane b) 0))).flatten)

/-- The slot that a read matches. -/
def matchSlot (s : State) (addr be beats : Nat) : Option Nat :=
  (List.range 4).find? (fun k => match slotGet s.brg k with
    | some d => d.addr == addr && d.be == be && d.beats == beats
    | none => false)

/-- A retry of slot `k` that gets no data: the 1,024th frees the slot (R232). -/
def retryAgain (k : Nat) (d : LbSlot) (s : State) : State :=
  let s := emit (.lbAnswer 1 []) (bump R.BRG_DT_RETRIES s)
  if 1024 ≤ d.retries + 1 then raise 91 k (slotSet k none s)
  else slotSet k (some { d with retries := d.retries + 1 }) s

/-- A retry of slot `k` (R232). -/
def retrySlot (k swap : Nat) (d : LbSlot) (s : State) : State :=
  match d.done with
  | some (st, data) => if performedUpTo s d.after then answerRead swap st data (slotSet k none s) else retryAgain k d s
  | none => retryAgain k d s

/-- Byte enables of a cycle as one number. -/
def beKey (be : List (BitVec 4)) : Nat := be.foldl (fun a b => a * 16 + b.toNat) 0

/-- INBOUND_CYCLE (R231, R232): a cycle of the local master that holds the bus. DEDUCED, log entry 56. -/
def execInboundCycle (addr : BitVec 26) (write : Bool) (be : List (BitVec 4)) (lanes : List (List Byte)) (s : State) : Res :=
  hub s (fun s =>
    if brgEn s && s.brg.master && decide (be.length ≤ 16) then
      let s := drainInbound (dropPrefetches s)
      match inboundWindow s addr.toNat with
      | none => s
      | some i =>
        let win := inWindow s i
        let a := addr.toNat / 4 * 4
        let s := bump64 R.BRG_IN_CYCLES s
        if write then
          let (en, data) := beatsToBytes win.swap be lanes
          if win.target then
            emit (.lbAnswer 0 []) (sendBridge 13 (0x10 + i) win a en data s)
          else
            let ws := (enabledRuns 0 en).map (fun r => (inPcie s i + (a + r.1 - win.lb), (data.drop r.1).take r.2))
            let used := (s.brg.inbuf.map (fun w => w.2.length)).sum
            if 1024 < used + (ws.map (fun w => w.2.length)).sum then emit (.lbAnswer 1 []) s
            else drainInbound (emit (.lbAnswer 0 []) { s with brg := { s.brg with inbuf := s.brg.inbuf ++ ws } })
        else if win.target then emit (.lbAnswer 2 []) s
        else match matchSlot s a (beKey be) be.length with
          | some k => match slotGet s.brg k with
            | some d => brgSync (retrySlot k win.swap d s)
            | none => s
          | none =>
            if (List.range 4).all (fun k => (slotGet s.brg k).isSome) then
              emit (.lbAnswer 1 []) (bump R.BRG_DT_FULL s)
            else if bridgeMay s (inPcie s i + (a - win.lb)) then
              bridgeRequest (nextTag s) false (inPcie s i + (a - win.lb)) (4 * be.length) []
                { s with brg := { s.brg with asked := s.brg.asked + 1,
                                             current := some { addr := a, be := beKey be, beats := be.length, tag := nextTag s } } }
            else answerRead win.swap 1 [] s
    else s)

/-- INBOUND_READ_DEFER (R232): 2 µs without data; the read becomes a delayed transaction in the first free slot. -/
def execInboundReadDefer (s : State) : Res :=
  hub s (fun s =>
    match (if brgEn s then s.brg.current else none) with
    | none => s
    | some d =>
      let s := { s with brg := { s.brg with current := none } }
      match (List.range 4).find? (fun k => (slotGet s.brg k).isNone) with
      | some k => brgSync (emit (.lbAnswer 1 []) (slotSet k (some d) s))
      | none => emit (.lbAnswer 1 []) s)

/-- DT_COMPLETION_ARRIVAL (R232): the completion for slot 0–3, or (4) for the read still on the bus; one that a TLP has brought
already changes nothing. -/
def execDtCompletionArrival (slot : Fin 5) (status : Fin 5) (data : List Byte) (s : State) : Res :=
  hub s (fun s =>
    if slot.val < 4 then
      match slotGet s.brg slot with
      | some d => if d.done.isSome then s else slotSet slot (some { d with done := some (status.val, data), after := lastSerial s }) s
      | none => s
    else match (if brgEn s then s.brg.current else none) with
      | none => s
      | some d =>
        if performedUpTo s (lastSerial s) then
          answerRead (slotSwap s d) status data { s with brg := { s.brg with current := none } }
        else { s with brg := { s.brg with current := some { d with done := some (status.val, data), after := lastSerial s } } })

/-- DT_SLOT_EXPIRY (R232): a ready slot not retried within 1 ms. -/
def execDtSlotExpiry (slot : Fin 4) (s : State) : Res :=
  hub s (fun s =>
    match slotGet s.brg slot with
    | some d => if d.done.isSome then brgSync (bump R.BRG_DT_EXPIRED (slotSet slot none s)) else s
    | none => s)

/-! ### The upstream side comes up (R218, R231) -/

/-- PCIE_LINK_UP (R218): a physical link reaches L0 with what its partner supports. -/
def execPcieLinkUp (k : Fin 2) (speed : Fin 4) (width : Fin 3) (s : State) : Res :=
  hub s (fun s =>
    if pcieAllowed s k then
      drainInbound (islandFollow (adaptersFollow (overbookCheck (5 + k) (linkUse k (setF (fDlUp k) 1 (pcieTrain k speed width s))))))
    else s)

/-! ### PSW and BRG commits (R235, Table 9-10) -/

/-- A window in BAR2: base, size, enabled, SIZE code. -/
def bar2Windows (sw : Nat → Word) (ow : Nat → Word) : List (Nat × Nat × Bool × Nat) :=
  (List.range 16).map (fun t =>
    let c := (sw (R.PSW_SW_CTRL t)).toNat
    (bits (sw (R.PSW_SW_BASE t)).toNat 12 16 * 4096, 4096 * 2 ^ bits c 1 4, bits c 0 1 == 1, bits c 1 4))
  ++ (List.range 8).map (fun w =>
    let c := (ow (R.BRG_OW_CTRL w)).toNat
    (bits (ow (R.BRG_OW_BASE w)).toNat 12 16 * 4096, 4096 * 2 ^ bits c 12 4, bits c 0 1 == 1, bits c 12 4))

/-- Some two enabled windows of a list overlap. -/
def overlaps : List (Nat × Nat × Bool) → Bool
  | [] => false
  | (b, n, e) :: ws =>
    (e && ws.any (fun w => w.2.2 && decide (b < w.1 + w.2.1) && decide (w.1 < b + n))) || overlaps ws

/-- A reserved WIDTH or SWAP code. -/
def codesBad (c : Nat) : Bool := bits c 3 2 == 3 || bits c 7 2 == 3

/-- The result of a PSW commit. -/
def pswCheck (s : State) : Nat :=
  let sw := (bar2Windows (reg s) (actReg s)).take 16
  if mode s = mStandby then 1
  else if sw.any (fun w => decide (8 < w.2.2.2) || decide (2 ^ 28 < w.1 + w.2.1)) then 2
  else if sw.any (fun w => w.1 % w.2.1 != 0) then 3
  else if overlaps ((bar2Windows (reg s) (actReg s)).map (fun w => (w.1, w.2.1, w.2.2.1))) then 4
  else 0

/-- The result of a BRG commit. -/
def brgCheck (s : State) : Nat :=
  let ow := (List.range 8).map (fun w => ((reg s (R.BRG_OW_CTRL w)).toNat, getF s ⟨R.BRG_OW_BASE w, 12, 16⟩ * 4096,
    getF s ⟨R.BRG_OW_LB w, 0, 26⟩))
  let iw := (List.range 4).map (fun i => ((reg s (R.BRG_IW_CTRL i)).toNat, getF s ⟨R.BRG_IW_LB i, 0, 26⟩,
    (reg s (R.BRG_IW_PCIE_LO i)).toNat))
  let size (c : Nat) : Nat := 4096 * 2 ^ bits c 12 4
  if mode s = mStandby then 1
  else if ow.any (fun w => codesBad w.1 || decide (14 < bits w.1 12 4) || decide (2 ^ 28 < w.2.1 + size w.1)
      || decide (2 ^ 26 < w.2.2 + size w.1))
    || iw.any (fun w => codesBad w.1 || decide (14 < bits w.1 12 4) || decide (2 ^ 26 < w.2.1 + size w.1)) then 2
  else if ow.any (fun w => w.2.1 % size w.1 != 0 || w.2.2 % size w.1 != 0)
    || iw.any (fun w => w.2.1 % size w.1 != 0 || w.2.2 % size w.1 != 0) then 3
  else if overlaps ((bar2Windows (actReg s) (reg s)).map (fun w => (w.1, w.2.1, w.2.2.1)))
    || overlaps (iw.map (fun w => (w.2.1, size w.1, bits w.1 0 1 == 1))) then 4
  else 0

def pswRegs : List Nat := (List.range 16).flatMap (fun t => [R.PSW_SW_BASE t, R.PSW_SW_CTRL t])
def brgRegs : List Nat :=
  (List.range 8).flatMap (fun w => [R.BRG_OW_BASE w, R.BRG_OW_CTRL w, R.BRG_OW_LB w])
    ++ (List.range 4).flatMap (fun i => [R.BRG_IW_LB i, R.BRG_IW_CTRL i, R.BRG_IW_PCIE_LO i, R.BRG_IW_PCIE_HI i])

/-- A page's staged windows take effect together. -/
def windowApply (page : Nat) (ks : List Nat) (s : State) : State :=
  let ch := changed s ks
  journalCommit page ch (setF (fDirty page) 0 (commitResult page 0 0 (commitRegs ks s)))

/-- A page's windows take effect together, or are refused whole. -/
def windowCommit (page result : Nat) (ks : List Nat) (s : State) : State :=
  if result = 0 then windowApply page ks s else commitResult page result 0 s

/-- A commit of the PSW page (false) or of the BRG page (true). -/
def pswBrgCommit (brg : Bool) (s : State) : State :=
  if brg then windowCommit 0x90 (brgCheck s) brgRegs s else windowCommit 0x82 (pswCheck s) pswRegs s

/-- PSW_BRG_COMMIT (R235). -/
def execPswBrgCommit (brg : Bool) (s : State) : Res := hub s (pswBrgCommit brg)

end Sys2Proof.Machine
end

