-- ==== Sys2Proof/Machine/Records.lean ====
section
/-!
DEFINITION. Event records: making one and where it goes (15_faults_and_event_history.md R351–R354, R357; R91, R253, R300).
-/
namespace Sys2Proof.Machine

abbrev fOutCount : Fld := ⟨R.FLT_STATUS, 8, 8⟩

/-- An event cell takes up to three waiting records towards the host (R91, R357). Records that a commit leaves without a cable or
Scarf mortise in EVT_ROUTE wait in the queue for the next one, uncounted. DESIGN CHOICE, log entry 103. -/
def sendEventCell (s : State) : State :=
  match evtRoute s with
  | some m =>
    let rs := s.flt.outq.take 3
    if rs.isEmpty ∨ 4 < m then s
    else
      let data := [BitVec.ofNat 8 (ownHid s), BitVec.ofNat 8 rs.length, 0, 0] ++ (rs.map recordBytes).flatten
      let s := { s with flt := { s.flt with outq := s.flt.outq.drop 3 } }
      placeControl noMort m 2 (data ++ bytesLE 4 (crc32c data).toNat)
        (bump R.FLT_CELLS_TX (setF fOutCount s.flt.outq.length s))
  | none => s

/-- The outgoing queue of 64, or the hub's own receive queue (R357). -/
def recordOut (r : Record) (s : State) : State :=
  if bit s ⟨R.FLT_CTRL, 1, 1⟩ then
    match evtRoute s with
    | some m =>
      if m ≤ 4 then
        if 64 ≤ s.flt.outq.length then
          bump R.FLT_CELL_DROPS { s with flt := { s.flt with lost := s.flt.lost + 1 } }
        else
          let s := { s with flt := { s.flt with outq := s.flt.outq ++ [r] } }
          setF fOutCount s.flt.outq.length s
      else if m = 5 ∨ m = 11 then receiveRecord (ownHid s) r s
      else s
    | none => s
  else s

/-- The EP2 queue of 256 (R253). -/
def recordEp2 (r : Record) (s : State) : State :=
  if s.usb.alt1 && bit s ⟨R.USBD_CTRL, 1, 1⟩ then
    if 256 ≤ s.usb.ep2.length then limited (85 * 1024) 250000000 (raiseN 85) (bump R.USBD_EP2_DROPS s)
    else { s with usb := { s.usb with ep2 := s.usb.ep2 ++ [r] } }
  else s

/-- A record enters the history queue of the 16 latest, newest first (R353). -/
def historyAdd (r : Record) (s : State) : State :=
  { s with flt := { s.flt with history := (r :: s.flt.history).take 16 } }

/-- A record is made: SEQ, RECORDS, and the four places of R351. -/
def makeRecord (stamp : Plumb) (source kindEdge detail : Nat) (s : State) : State :=
  let r : Record := { sec := stamp.sec, ns := stamp.ns, source := source, kindEdge := kindEdge,
                      seq := s.flt.seq % 65536, detail := detail % 65536 }
  let s := bump64 R.FLT_RECORDS { s with flt := { s.flt with seq := (s.flt.seq + 1) % 65536 } }
  journal 0x05 (recordBytes r) false (recordEp2 r (recordOut r (historyAdd r s)))

/-- A marker record of a type (R352). -/
def makeMarker (type detail : Nat) (s : State) : State :=
  makeRecord s.plumb 0 8 (type % 4 * 2 ^ 14 + detail % 2 ^ 14) (bump R.FLT_MARKERS s)

/-- After the outgoing queue has room again, a marker says how many records were lost (R352 type 0b01); with three records
waiting a cell goes at once (R357). -/
def drainRecords (s : State) : State :=
  let s := if 3 ≤ s.flt.outq.length then sendEventCell s else s
  if s.flt.lost ≠ 0 ∧ s.flt.outq.length < 64 then
    makeMarker 1 (min (2 ^ 14 - 1) s.flt.lost) { s with flt := { s.flt with lost := 0 } }
  else s

/-- A record is made and event cells that it completes are formed. -/
def record (stamp : Plumb) (source kindEdge detail : Nat) (s : State) : State :=
  drainRecords (makeRecord stamp source kindEdge detail s)

/-- A marker is made and event cells that it completes are formed. -/
def marker (type detail : Nat) (s : State) : State := drainRecords (makeMarker type detail s)

/-- EVENT_CELL_TIMER (R357): 1 µs after the oldest waiting record was queued. -/
def execEventCellTimer (s : State) : Res :=
  hub s (fun s => if s.flt.outq.isEmpty then s else drainRecords (sendEventCell s))

/-- FLT_MARK (R352): the host writes `FLT.MARK`. -/
def execFltMark (detail : BitVec 14) (s : State) : Res := hub s (marker 0 detail.toNat)

end Sys2Proof.Machine
end

