-- ==== Sys2Proof/Machine/Time.lean ====
section
/-!
DEFINITION. Plumb (08_ethernet_and_plumb_time.md R191–R199), the message port (R206), pulse per second (R207, R208) and the
event-capture pins (R209).
-/
namespace Sys2Proof.Machine

/-! ### Plumb (R191–R193) -/

/-- The count of 2^−16 ns of a point of time. -/
def fineOf (p : Plumb) : Nat := (p.sec * 1000000000 + p.ns) * 65536 + p.frac

/-- Plumb as 12 bytes: 6 of seconds, 4 of ns, 2 of fraction (Table 8-4). DESIGN CHOICE, log entry 52. -/
def stampBytes (p : Plumb) : List Byte := bytesBE 6 p.sec ++ bytesBE 4 p.ns ++ bytesBE 2 p.frac

/-- Plumb moves by a signed amount. -/
def stepPlumb (d : Int) (s : State) : State := { s with plumb := plumbOf ((fineOf s.plumb : Int) + d).toNat }

abbrev fTimeSrcValid : Fld := ⟨R.TIME_STATUS, 8, 1⟩
abbrev fFreqLimit : Fld := ⟨R.TIME_STATUS, 3, 1⟩
abbrev fDepth : Fld := ⟨R.TIME_STATUS, 4, 4⟩
abbrev fScarfTrack : Fld := ⟨R.TIME_STATUS, 2, 1⟩

/-- ±200 ppm in 2^−8 ppb. -/
abbrev freqMax : Int := 51200000

/-- `FREQ_ADJ` as a number. -/
def freqAdj (s : State) : Int := sext 32 (reg s R.TIME_FREQ_ADJ).toNat

/-- FREQ_ADJ takes a value held to ±200 ppm; source 105 is raised as it saturates (R191). DEDUCED, log entry 51. -/
def setFreq (f : Int) (s : State) : State :=
  let g := clampI (-freqMax) freqMax f
  let lim := decide (g ≠ f)
  let was := bit s fFreqLimit
  let s := setF fFreqLimit (if lim then 1 else 0) (setReg R.TIME_FREQ_ADJ (BitVec.ofInt 32 g) s)
  if lim && !was then raiseN 105 s else s

/-- Detail of source 101: host step, sign, magnitude in µs. DEDUCED, log entry 51. -/
def stepDetail (host : Bool) (d : Int) : Nat :=
  (if host then 2 ^ 15 else 0) + (if d < 0 then 2 ^ 14 else 0) + min (2 ^ 14 - 1) (d.natAbs / 65536000)

/-- The gates. -/
abbrev allGates : List Nat := [0, 1, 2, 3, 4, 8, 9, 10, 11]

/-- The `PPS_OUT` boundary that Plumb has last passed, counted from 1: a whole second plus PPS_OUT_OFS, at a time in 2^−16 ns. -/
def secondOf (s : State) (x : Int) : Nat :=
  ((x - sext 32 (reg s R.TIME_PPS_OUT_OFS).toNat * 65536) / secFine).toNat + 1

/-- A forward step past a second boundary: that boundary gets no edge (R207). Plumb already has its new value. A boundary that a
backward step has put ahead again is passed anew. DESIGN CHOICE, log entry 52. -/
def skipSecond (d : Int) (s : State) : State :=
  let now := secondOf s (fineOf s.plumb)
  let skipped := if secondOf s ((fineOf s.plumb : Int) - d) < now then now else if now < s.time.ppsSkip then 0 else s.time.ppsSkip
  { s with time := { s.time with ppsSkip := skipped } }

/-- The step of Plumb by `d` at the rim copy of crossing `x`: it is realigned, or falls behind until it can be (R331). -/
def stepRim (d : Int) (x : Nat) (s : State) : State :=
  realign x { s with time := { s.time with lag := smSet dInt s.time.lag x (smGet dInt s.time.lag x + d) } }

/-- A step of Plumb is counted and source 101 raised (R193); a step of more than 100 ns under a running gate raises source 54
with the gate's number, and each gate goes on from where the new time puts it (R148). -/
def stepMade (host : Bool) (d : Int) (s : State) : State :=
  let s := forAll (List.range' 50 8) (stepRim d) s
  let s := raise 101 (stepDetail host d) (bump R.TIME_STEPS (skipSecond d s))
  forAll (allGates.filter (gateEn s)) (fun g s => gateFollow g (if 6553600 < d.natAbs then raise 54 g s else s)) s

/-- The SET and STEP that wait take effect at the tick. -/
def applyAdj (s : State) : State :=
  let a := s.time.adj
  let s := if a = 0 then s else accrueAll s
  let s := { s with time := { s.time with adj := 0 } }
  let s := if a % 2 = 1 then
      let p : Plumb := { sec := (reg s R.TIME_SET_S_LO).toNat + (reg s R.TIME_SET_S_HI).toNat * 2 ^ 32,
                         ns := (reg s R.TIME_SET_NS).toNat % 1000000000, frac := 0 }
      let d := (fineOf p : Int) - fineOf s.plumb
      stepMade true d { s with plumb := p }
    else s
  if 2 ≤ a then
    let d := sext 32 (reg s R.TIME_STEP_NS).toNat * 65536
    stepMade true d (stepPlumb d s)
  else s

/-- The heartbeat frame of this member (R306). -/
def ownHeartbeat (s : State) : BitVec 24 :=
  let v := 0xD * 2 ^ 20 + getF s ⟨R.PAIR_STATUS, 0, 1⟩ * 2 ^ 19 + mode s % 8 * 2 ^ 16 + (reg s R.PAIR_EPOCH).toNat % 128 * 2 ^ 9
    + getF s ⟨R.DEV_HID, 8, 1⟩ * 2 ^ 8 + getA s ⟨R.DEV_HID, 0, 6⟩ * 4
  BitVec.ofNat 24 (v + (popcount 24 v + 1) % 2)

/-- A member of a pair sends its heartbeat frames back to back, one every 24 µs. -/
def sendHeartbeat (s : State) : State :=
  if bit s ⟨R.PAIR_STATUS, 1, 1⟩ && s.ticks % 6000 == 0 then emit (.heartbeat (ownHeartbeat s)) s else s

/-- TIME_TICK (R191): Plumb gains 4 ns × (1 + FREQ_ADJ), the raster runs on, an idle PCIe link may enter L1, and a member of a pair
sends its heartbeat. DESIGN CHOICE, log entries 13, 99. -/
def execTimeTick (s : State) : Res :=
  hub s (fun s =>
    let r := s.time.rem + freqAdj s * 1024
    let s := { s with ticks := s.ticks + 1, time := { s.time with rem := r % 1000000000 } }
    let s := sendHeartbeat (aspmIdle 1 (aspmIdle 0 (rasterTick (applyAdj (stepPlumb (262144 + r / 1000000000) s)))))
    if s.ticks % 250 = 0 then forAll (List.range' 50 8) realign s else s)

/-- TIME_SNAP (R192). -/
def timeSnap (s : State) : State :=
  let p := s.plumb
  forAll [(0, p.frac), (1, p.ns), (2, p.sec), (3, p.sec / 2 ^ 32)]
    (fun x s => setReg (R.TIME_SNAP_FRAC x.1) (BitVec.ofNat 32 x.2) s) s

def execTimeSnap (s : State) : Res := hub s timeSnap

/-- A write of `TIME.ADJ_CMD`. -/
def timeAdj (v : Nat) (s : State) : State := { s with time := { s.time with adj := s.time.adj ||| v % 4 } }

/-- TIME_ADJ_SET (R193). -/
def execTimeAdjSet (s : State) : Res := hub s (timeAdj 1)

/-- TIME_ADJ_STEP (R193). -/
def execTimeAdjStep (s : State) : Res := hub s (timeAdj 2)

/-! ### The source of Plumb (R194, R199, Table 1-10) -/

/-- Where Plumb comes from. -/
inductive TimeSrc
  | none | link (n : Nat) | mac (k : Nat) | pps
  deriving DecidableEq, Repr

/-- The source in force: none in COLD and SERVICE, the Scarf link in PAIR-STANDBY, else SRC_SEL. -/
def timeSrc (s : State) : TimeSrc :=
  if mode s = mCold ∨ mode s = mService then .none
  else if mode s = mStandby then .link 4
  else
    match getF s fSrcSel with
    | 1 => .link (if inPair s (getF s fSrcPort) then followed s else getF s fSrcPort)
    | 2 => .mac (getF s fSrcPort)
    | 3 => .pps
    | _ => .none

/-- The source has changed: FREE, or ACQUIRE with the integrator kept (R194). -/
def timeSrcChanged (s : State) : State :=
  let src := timeSrc s
  let s := { s with time := { s.time with good := 0 } }
  let s := setF fScarfTrack (if mode s = mStandby then 1 else 0) s
  match src with
  | .none => setF fDepth 0 (setF fTimeSrcValid 0 (setF fTimeState 0 s))
  | .link _ => setF fTimeSrcValid 0 (setF fTimeState 1 s)
  | _ => setF fDepth 1 (setF fTimeSrcValid 0 (setF fTimeState 1 s))

/-- A write of `TIME.CTRL`. -/
def timeCtrlWrite (v : Word) (s : State) : State :=
  let old := reg s R.TIME_CTRL &&& 0x37
  let s := setReg R.TIME_CTRL (v &&& 0x137) s
  let s := journalReg R.TIME_CTRL (reg s R.TIME_CTRL) s
  if old = v &&& 0x37 then s else timeSrcChanged s

/-- A write of `TIME.FREQ_ADJ`, which holds it only in FREE (Table 8-15). -/
def freqWrite (v : Word) (s : State) : State :=
  if getF s fTimeState = 0 then
    let s := setFreq (sext 32 v.toNat) s
    journalReg R.TIME_FREQ_ADJ (reg s R.TIME_FREQ_ADJ) s
  else s

/-! ### The servo (R197, R198) -/

/-- The lock threshold in 2^−16 ns. -/
def lockThresh (s : State) : Nat := getF s ⟨R.TIME_LOCK, 0, 16⟩ * 65536

/-- The state after an offset: LOCKED after LOCK_COUNT within the threshold, ACQUIRE again beyond four times it. -/
def lockFollow (o : Int) (s : State) : State :=
  let st := getF s fTimeState
  let s := if st = 3 ∨ st = 0 then setF fTimeState 1 { s with time := { s.time with good := 0 } } else s
  let near := decide (o.natAbs < lockThresh s)
  let good := if near then s.time.good + 1 else 0
  let s := { s with time := { s.time with good := good } }
  if st = 2 then
    if 4 * lockThresh s < o.natAbs then
      setF fTimeState 1 (raiseN 102 (bump R.TIME_LOCK_LOSSES { s with time := { s.time with good := 0 } }))
    else s
  else if max 1 (getF s ⟨R.TIME_LOCK, 16, 8⟩) ≤ good then setF fTimeState 2 s
  else s

/-- FREQ_ADJ values of LOCKED are kept for HOLD_AVG seconds. -/
def noteFreq (s : State) : State :=
  if getF s fTimeState = 2 then
    let span := max 1 (getF s ⟨R.TIME_HOLD_AVG, 0, 10⟩) * 250000000
    let h := (s.ticks, freqAdj s) :: s.time.hist
    { s with time := { s.time with hist := h.filter (fun p => decide (s.ticks ≤ p.1 + span)) } }
  else s

/-- The servo acts on an offset, in 2^−16 ns, with the delay of the source and its depth. DEDUCED, log entry 51. -/
def servo (o : Int) (delay depth : Nat) (s : State) : State :=
  let s := setReg R.TIME_OFFSET (BitVec.ofInt 32 (clampI (-2147483648) 2147483647 o)) s
  let s := setReg R.TIME_SRC_DELAY (BitVec.ofNat 32 delay) s
  let s := setF fDepth (min 15 depth) (setF fTimeSrcValid 1 s)
  let s := setF ⟨R.TIME_STATUS, 16, 16⟩ (getF s ⟨R.TIME_STATUS, 16, 16⟩ + 1) s
  let s := if bit s ⟨R.TIME_CTRL, 8, 1⟩ ∧ getF s ⟨R.TIME_STEP_THRESH, 0, 30⟩ * 65536 < o.natAbs then
      stepMade false (-o) (stepPlumb (-o) (accrueAll { s with time := { s.time with integ := 0 } }))
    else
      let i := s.time.integ + (reg s R.TIME_KI).toNat * o
      let (f, s) := quotInt ((reg s R.TIME_KP).toNat * o + i) 16777216 { s with time := { s.time with integ := i } }
      setFreq (-f) s
  noteFreq (lockFollow o s)

/-- HOLDOVER is entered: FREQ_ADJ takes the mean of its values over LOCKED, and source 100 is raised.
DEDUCED, log entry 51. -/
def holdover (s : State) : State :=
  let h := s.time.hist
  let s := if h.isEmpty then s
    else
      let (m, s) := quotInt (h.map Prod.snd).sum h.length s
      setFreq m s
  let s := setF fTimeState 3 (setF fTimeSrcValid 0 s)
  raise 100 (getF s fSrcSel) (bump R.TIME_HOLDOVER_ENTRIES s)

/-- TIME_SOURCE_LOSS (R198): no valid offset for the loss time. -/
def execTimeSourceLoss (s : State) : Res :=
  hub s (fun s => if getF s fTimeState = 1 ∨ getF s fTimeState = 2 then holdover s else s)

/-! ### Link time exchanges (R195, R196) -/

def dExch : Nat → Exchange := fun _ => {}
def exGet (s : State) (n : Nat) : Exchange := smGet dExch s.time.exch n
def exSet (n : Nat) (e : Exchange) (s : State) : State :=
  { s with time := { s.time with exch := smSet dExch s.time.exch n e } }

/-- DREQ_TIMER: every 1 ms each UP link sends a DREQ; one without its DRESP is a timeout, and leaves its interval without a valid
offset (Table 8-17). -/
def execDreqTimer (n : Port) (s : State) : Res :=
  hub s (fun s =>
    if linkState s n = lsUp ∨ linkState s n = lsLowpower then
      let e := exGet s n
      let k := if e.waiting then e.timeouts + 1 else 0
      let s := if e.waiting then bump R.TIME_EXCH_TIMEOUT s else s
      let s := if e.waiting && timeSrc s == .link n then setF fTimeSrcValid 0 s else s
      let s := if k = 10 then raise 104 n s else s
      let seq := (e.seq + 1) % 65536
      let s := exSet n { seq := seq, waiting := true, t1 := none, timeouts := k % 10 } s
      bump64 R.TIME_EXCH_TX (sendCtl n ([0x10] ++ bytesBE 2 seq) s)
    else s)

/-- DREQ_RECEIVED: answered by a DRESP, whose t3 is inserted as the cell leaves. -/
def execDreqReceived (n : Port) (seq : Timed (BitVec 16)) (s : State) : Res :=
  hub s (fun s =>
    if linkState s n = lsUp then
      sendCtl n ([0x11] ++ bytesBE 2 seq.val.toNat ++ stampBytes (stampAt (51 + n) seq.phase s) ++ List.replicate 12 0
        ++ [BitVec.ofNat 8 (getF s fTimeState), BitVec.ofNat 8 (getF s fDepth)]) s
    else s)

/-- `ASYM` of a link. -/
def asym (s : State) (n : Nat) : Int := sext 32 (reg s (R.TIME_ASYM n)).toNat

/-- DRESP_RECEIVED: the link's delay, and its offset where it is the source; t2, t3, the responder's STATE and DEPTH. -/
def execDrespReceived (n : Port) (seq : Timed (BitVec 16)) (t2 t3 : BitVec 96) (_state depth : Byte) (s : State) : Res :=
  hub s (fun s =>
    let e := exGet s n
    match e.t1 with
    | none => s
    | some t1 =>
      if ¬ e.waiting ∨ e.seq ≠ seq.val.toNat ∨ linkState s n ≠ lsUp then s
      else
        let p (t : BitVec 96) : Int :=
          fineOf { sec := bits t.toNat 48 48, ns := bits t.toNat 16 32, frac := bits t.toNat 0 16 }
        let t4 : Int := fineOf (stampAt (51 + n) seq.phase s)
        let delay := ((t4 - t1) - (p t3 - p t2)) / 2
        let o := ((t1 - p t2) + (t4 - p t3)) / 2 - asym s n
        let s := exSet n { e with waiting := false, timeouts := 0 } s
        let s := setReg (R.TIME_LINK_DELAY n) (BitVec.ofInt 32 delay) (bump64 R.TIME_EXCH_RX s)
        if timeSrc s = .link n then servo o (toField 32 delay) (depth.toNat + 1) s else s)

/-! ### The message port (R206) -/

/-- Words of a frame, byte 0 in [7:0]. -/
def wordsOf (data : List Byte) : List Word :=
  (chunksOf 4 data.length data).map (fun c => BitVec.ofNat 32 (ofLE c))

/-- MSG_PORT_DELIVERY: a time tunnel's frame at M12, with its egress tag and TSP stamp. DESIGN CHOICE, log entry 52. -/
def execMsgPortDelivery (tag : Byte) (stamp : Option (BitVec 48 × BitVec 32)) (data : List Byte) (s : State) : Res :=
  hub s (fun s =>
    let hdr := data.length % 65536 + tag.toNat * 65536 + (if stamp.isSome then 2 ^ 24 else 0)
    let st : List Word := match stamp with
      | some (sec, ns) => [ns, sec.setWidth 32, BitVec.ofNat 32 (sec.toNat / 2 ^ 32)]
      | none => []
    let ws := BitVec.ofNat 32 hdr :: st ++ wordsOf data
    if 1024 < s.time.msgRx.length + ws.length then raiseN 107 (bump R.TIME_MSG_RX_DROPS s)
    else setF ⟨R.TIME_MSG_STATUS, 0, 1⟩ 1 { s with time := { s.time with msgRx := s.time.msgRx ++ ws } })

/-- A read of `TIME.MSG_RX`: the word, and the buffer without it. -/
def msgRxPop (s : State) : Word × State :=
  match s.time.msgRx with
  | [] => (0, s)
  | w :: ws => (w, setF ⟨R.TIME_MSG_STATUS, 0, 1⟩ (if ws.isEmpty then 0 else 1) { s with time := { s.time with msgRx := ws } })

/-- MSG_RX_READ. -/
def execMsgRxRead (s : State) : Res := hub s (fun s => let (w, s) := msgRxPop s; emit (.readData w) s)

/-- Free transmit bytes of the message port. -/
def msgFree (s : State) : State := setF ⟨R.TIME_MSG_STATUS, 16, 12⟩ (4092 - min 4092 (4 * s.time.msgTx.length)) s

/-- A write of `TIME.MSG_TX` stages a word. -/
def msgTxWrite (v : Word) (s : State) : State :=
  if s.time.msgTx.length < 1023 then msgFree { s with time := { s.time with msgTx := s.time.msgTx ++ [v] } } else s

/-- A write of `TIME.MSG_TX_GO`: the staged frame enters its time tunnel at M12, or waits there behind the one before it
(TX_BUSY). DESIGN CHOICE, log entry 52. -/
def msgTxGo (v : Nat) (s : State) : State :=
  let data := ((s.time.msgTx.map (fun w => bytesLE 4 w.toNat)).flatten).take (bits v 8 16)
  msgFree (offerFrame 12 { tag := bits v 0 8, data := data } { s with time := { s.time with msgTx := [] } })

/-- MSG_TX_GO (R206): the words staged through `MSG_TX` and the write of `MSG_TX_GO`. -/
def execMsgTxGo (tag : Byte) (len : BitVec 16) (s : State) : Res := hub s (msgTxGo (tag.toNat + len.toNat * 256))

/-! ### Pulse per second (R207, R208) -/

/-- Runs of second boundaries with one more. -/
def runsAdd (b : Nat) : List (Nat × Nat) → List (Nat × Nat)
  | (lo, hi) :: l => if hi + 1 = b then (lo, b) :: l else (b, b) :: (lo, hi) :: l
  | [] => [(b, b)]

/-- `PPS_OUT` runs (R207): OUT_EN with the state LOCKED or HOLDOVER, or FORCE. DESIGN CHOICE, log entry 52. -/
def ppsRuns (s : State) : Bool :=
  (bit s ⟨R.TIME_PPS_CTRL, 0, 1⟩ && decide (2 ≤ getF s fTimeState)) || bit s ⟨R.TIME_PPS_CTRL, 1, 1⟩

/-- PPS_OUT_EDGE: Plumb has passed a whole second plus PPS_OUT_OFS: an edge, but for a boundary that a forward step passed or
that has been signalled before. -/
def execPpsOutEdge (s : State) : Res :=
  hub s (fun s =>
    let b := secondOf s (fineOf s.plumb)
    if ppsRuns s && s.time.ppsSkip != b && !s.time.ppsSent.any (fun r => decide (r.1 ≤ b ∧ b ≤ r.2)) then
      emit (.ppsOut (clampN 1 500 (getF s ⟨R.TIME_PPS_CTRL, 16, 9⟩)))
        { s with time := { s.time with ppsSent := runsAdd b s.time.ppsSent } }
    else s)

/-- PPS_IN_EDGE: an edge of the selected polarity is stamped, and is an offset where PPS is the source (R196). -/
def execPpsInEdge (falling : Timed Bool) (s : State) : Res :=
  hub s (fun s =>
    if bit s ⟨R.TIME_PPS_CTRL, 2, 1⟩ ∧ bit s ⟨R.TIME_PPS_CTRL, 3, 1⟩ = falling.val then
      let p := pinStamp falling.phase s
      let s := forAll [(0, p.frac), (1, p.ns), (2, p.sec), (3, p.sec / 2 ^ 32)]
        (fun x s => setReg (R.TIME_PPS_IN_FRAC x.1) (BitVec.ofNat 32 x.2) s) s
      let o : Int := (p.ns * 65536 + p.frac : Nat) - (if 500000000 ≤ p.ns then (secFine : Int) else 0)
      if timeSrc s = .pps then servo o 0 1 s else s
    else s)

/-- PPS_IN_MISSING (R198): no edge for 1.5 s, an interval without a valid offset where PPS is the source (Table 8-17). -/
def execPpsInMissing (s : State) : Res :=
  hub s (fun s =>
    if bit s ⟨R.TIME_PPS_CTRL, 2, 1⟩ then
      raiseN 103 (bump R.TIME_PPS_IN_MISSES (if timeSrc s = .pps then setF fTimeSrcValid 0 s else s))
    else s)

/-! ### Event-capture pins (R209) -/

def dPin : Nat → EvtPin := fun _ => {}
def pinGet (s : State) (k : Nat) : EvtPin := smGet dPin s.time.evt k
def pinSet (k : Nat) (p : EvtPin) (s : State) : State :=
  { s with time := { s.time with evt := smSet dPin s.time.evt k p } }

/-- DEBOUNCE of a pin in µs. -/
def debounce (s : State) (k : Nat) : Nat := min 10000 (getF s ⟨R.TIME_EVT_CTRL k, 8, 16⟩)

/-- A new level is stable: a record of stamp T where the edge's polarity is enabled; a pin record may set PEND4 (R355). -/
def pinStable (k : Nat) (level : Bool) (t : Plumb) (s : State) : State :=
  let p := pinGet s k
  let s := setF ⟨R.TIME_EVT_LEVEL, k, 1⟩ (if level then 1 else 0) (pinSet k { p with stable := level, cand := none } s)
  if bit s ⟨R.TIME_EVT_CTRL k, if level then 1 else 2, 1⟩ then
    let s := pinSet k { pinGet s k with glitches := 0 } (bump R.TIME_EVT_RECORDS s)
    let s := record t (128 + k) (4 + (if level then 1 else 2)) (min 65535 p.glitches) s
    if bit s ⟨R.FLT_CTRL, 2, 1⟩ ∧ ¬ bit s ⟨R.FLT_PEND4, k, 1⟩ then
      sendMsix (getF s ⟨R.FLT_CTRL, 8, 5⟩) (setF ⟨R.FLT_PEND4, k, 1⟩ 1 s)
    else s
  else s

/-- A candidate is dropped; the 256th within a second raises source 106 once. -/
def pinGlitch (k : Nat) (s : State) : State :=
  let p := pinGet s k
  let fresh := decide (p.secondStart + 250000000 ≤ s.ticks)
  let n := if fresh then 1 else p.inSecond + 1
  let s := pinSet k { p with cand := none, glitches := p.glitches + 1, inSecond := n,
                             secondStart := if fresh then s.ticks else p.secondStart } s
  let s := bump R.TIME_EVT_GLITCHES s
  if n = 256 then raise 106 k s else s

/-- EVT_PIN_EDGE: pin k takes a level. -/
def execEvtPinEdge (k : Fin 8) (level : Timed Bool) (s : State) : Res :=
  hub s (fun s =>
    let at_ := pinStamp level.phase s
    let level := level.val
    let p := pinGet s k
    if p.level = level then s
    else
      let s := pinSet k { p with level := level } s
      if bit s ⟨R.TIME_EVT_CTRL k, 0, 1⟩ then
        if level = p.stable then (if p.cand.isSome then pinGlitch k s else s)
        else if debounce s k = 0 then pinStable k level at_ s
        else pinSet k { pinGet s k with cand := some at_ } s
      else s)

/-- EVT_DEBOUNCE_EXPIRY: the candidate's level has held for DEBOUNCE. -/
def execEvtDebounceExpiry (k : Fin 8) (s : State) : Res :=
  hub s (fun s =>
    match (pinGet s k).cand with
    | some t => pinStable k (pinGet s k).level t s
    | none => s)

/-- A write of `TIME.EVT_CTRL<k>`: enabling a pin takes its level as stable, without a record. -/
def evtCtrlWrite (k : Nat) (v : Word) (s : State) : State :=
  let was := bit s ⟨R.TIME_EVT_CTRL k, 0, 1⟩
  let s := setReg (R.TIME_EVT_CTRL k) (v &&& 0xFFFF07) s
  let s := journalReg (R.TIME_EVT_CTRL k) (v &&& 0xFFFF07) s
  if bit s ⟨R.TIME_EVT_CTRL k, 0, 1⟩ then
    if was then s
    else
      let p := pinGet s k
      setF ⟨R.TIME_EVT_LEVEL, k, 1⟩ (if p.level then 1 else 0) (pinSet k { p with stable := p.level, cand := none } s)
  else pinSet k { pinGet s k with cand := none } s

end Sys2Proof.Machine
end

