-- ==== Sys2Proof/Machine/Ether.lean ====
section
/-!
DEFINITION. The MACs, classification and forwarding (08_ethernet_and_plumb_time.md R178–R190) and the PTP transparent clock
(R200–R205).
-/
namespace Sys2Proof.Machine

/-! ### MACs (R178) -/

abbrev fMacEn (k : Nat) : Fld := ⟨R.MAC_CTRL k, 0, 1⟩
abbrev fMacLink (k : Nat) : Fld := ⟨R.MAC_STATUS k, 0, 1⟩
abbrev fMacSpeed (k : Nat) : Fld := ⟨R.MAC_STATUS k, 1, 2⟩

/-- A MAC's line has no link any longer. -/
def macNoLink (k : Nat) (s : State) : State :=
  let s := setF (fMacSpeed k) 0 (setF (fMacLink k) 0 s)
  let s := setF ⟨R.MAC_STATUS k, 3, 1⟩ 0 (setF ⟨R.ETH_STATUS, k, 1⟩ 0 s)
  overbookCheck 7 s

/-- A MAC stops: EN is 0. -/
def macStop (k : Nat) (s : State) : State := macNoLink k (setF (fMacEn k) 0 s)

/-- A write of `MAC.CTRL`: MODE 0b11 clears EN; a write that sets EN starts the MAC in the selected mode (Table 8-13). -/
def macCtrlWrite (k : Nat) (v : Word) (s : State) : State :=
  let key := R.MAC_CTRL k
  let was := bit s (fMacEn k)
  let s := setReg key (v &&& 0xFFF001F) s
  let s := if getF s ⟨key, 1, 2⟩ = 3 then setF (fMacEn k) 0 s else s
  let s := journalReg key (reg s key) s
  if bit s (fMacEn k) then
    let s := macSet k { macGet s k with mode := getF s ⟨key, 1, 2⟩ } s
    if was then s else setF ⟨R.MAC_STATUS k, 5, 1⟩ 0 (macNoLink k s)
  else macNoLink k s

/-- MAC_ENABLE (R178): the host sets EN with a mode; on a gated page the block's own enable stays as it is (R414). -/
def execMacEnable (k : Fin 4) (md : Fin 4) (s : State) : Res :=
  hub s (fun s =>
    let en := if bit s ⟨(0x79 + k) * 0x1000 + 0x00C, 0, 1⟩ then 1 else getF s (fMacEn k)
    macCtrlWrite k ((reg s (R.MAC_CTRL k) &&& ~~~7) ||| BitVec.ofNat 32 (en + md.val * 2)) s)

/-- The SPEED code of a line mode; SGMII takes the PHY's. -/
def speedOf (mode phy : Nat) : Nat := match mode with | 0 => 3 | 1 => 2 | _ => min 2 phy

/-- MAC_LINK_UP (R178): the line gains link. -/
def execMacLinkUp (k : Fin 4) (phy : Fin 3) (s : State) : Res :=
  hub s (fun s =>
    if bit s (fMacEn k) then
      let md := (macGet s k).mode
      let an := md ≠ 0 ∧ bit s ⟨R.MAC_CTRL k, 3, 1⟩
      let s := setF (fMacSpeed k) (speedOf md phy) (setF (fMacLink k) 1 s)
      let s := setF ⟨R.MAC_STATUS k, 5, 1⟩ 0 (setF ⟨R.MAC_STATUS k, 3, 1⟩ (if an then 1 else 0) s)
      overbookCheck 7 (setF ⟨R.ETH_STATUS, k, 1⟩ 1 s)
    else s)

/-- MAC_LINK_LOSS (R178): loss of link, or a remote fault. -/
def execMacLinkLoss (k : Fin 4) (remote : Bool) (s : State) : Res :=
  hub s (fun s =>
    if bit s (fMacLink k) then
      raise (64 + k) (if remote then 1 else 0) (setF ⟨R.MAC_STATUS k, 5, 1⟩ (if remote then 1 else 0) (macNoLink k s))
    else s)

/-- FCS_SECOND_INTERVAL (R179). -/
def execFcsSecondInterval (k : Fin 4) (s : State) : Res :=
  hub s (fun s =>
    let now := (reg s (R.MAC_RX_FCS_ERR k)).toNat
    let n := (now + 2 ^ 32 - (macGet s k).fcsSeen) % 2 ^ 32
    let s := macSet k { macGet s k with fcsSeen := now } s
    if getF s ⟨R.MAC_FCS_THRESH k, 0, 16⟩ < n then raise 68 k s else s)

/-! ### The forwarding table (R187–R190) -/

def dFwd : Nat → Option FwdEntry := fun _ => none
def fwdGet (s : State) (i : Nat) : Option FwdEntry := smGet dFwd s.fwd i

abbrev fFwdCode : Fld := ⟨R.FWD_RESULT, 1, 3⟩
abbrev fFwdIndex : Fld := ⟨R.FWD_RESULT, 16, 13⟩

/-- An entry changes; `FWD.STATUS` counts entries and CAM entries. -/
def fwdSet (i : Nat) (e : Option FwdEntry) (s : State) : State :=
  let e := e.map (fun e => { e with fi := spoils s 0x7D 0 1 })
  let s := injected 0x7D 0 1 { s with fwd := smSet dFwd s.fwd i e }
  let cam := (s.fwd.filter (fun p => decide (4096 ≤ p.1))).length
  setReg R.FWD_STATUS (BitVec.ofNat 32 (s.fwd.length + cam * 65536)) s

/-- The bucket of a key. -/
def fwdBucket (s : State) (vid da : Nat) : Nat :=
  ((crc32c (bytesBE 2 (vid % 4096) ++ bytesBE 6 da)).toNat % 1024) ^^^ getF s ⟨R.FWD_HASH_SEED, 0, 10⟩

/-- The places a key may have: the 4 ways of its bucket, then the CAM. -/
def fwdPlaces (s : State) (vid da : Nat) : List Nat :=
  (List.range 4).map (fun w => fwdBucket s vid da * 4 + w) ++ List.range' 4096 64

/-- The index of a key. -/
def fwdFind (s : State) (vid da : Nat) : Option Nat :=
  (fwdPlaces s vid da).find? (fun i => match fwdGet s i with | some e => e.vid == vid && e.da == da | none => false)

/-- An injection spoiled the parity of entry `i` (R359). -/
def fwdSpoiled (s : State) (i : Nat) : Bool := (fwdGet s i).any (fun e => e.fi)

/-- Source 69: an entry whose parity is wrong is invalid and its key misses (R189). -/
def fwdParity (i : Nat) (s : State) : State := raise 69 i (bump R.FWD_PARITY_ERR (fwdSet i none s))

/-- The key registers. -/
def keyVid (s : State) : Nat := getF s ⟨R.FWD_KEY_VID, 0, 12⟩
def keyDa (s : State) : Nat := (reg s R.FWD_KEY_DA_LO).toNat + getF s ⟨R.FWD_KEY_DA_HI, 0, 16⟩ * 2 ^ 32

/-- A FWD journal record (Table 13-3). -/
def journalFwd (op vid da tset : Nat) (s : State) : State :=
  journal 0x06 ([BitVec.ofNat 8 op, 0] ++ bytesBE 2 vid ++ bytesBE 6 da ++ [BitVec.ofNat 8 tset]) false s

/-- A command's outcome. -/
def fwdResult (code : Nat) (s : State) : State := setF fFwdCode code s

/-- INSERT of a key with a set: its code and the table. -/
def fwdInsert (vid da tset : Nat) (s : State) : Nat × State :=
  match fwdFind s vid da with
  | some i => (1, setF fFwdIndex i (fwdSet i ((fwdGet s i).map (fun e => { e with tset := tset })) s))
  | none =>
    match (fwdPlaces s vid da).find? (fun i => (fwdGet s i).isNone) with
    | some i => (0, setF fFwdIndex i (fwdSet i (some { vid := vid, da := da, tset := tset }) s))
    | none => (2, bump R.FWD_INSERT_FULL s)

/-- DELETE of a key. -/
def fwdDelete (vid da : Nat) (s : State) : Nat × State :=
  match fwdFind s vid da with
  | some i => (0, setF fFwdIndex i (fwdSet i none s))
  | none => (3, s)

/-- FLUSH_ALL. -/
def fwdFlush (s : State) : State := setReg R.FWD_STATUS 0 { s with fwd := [] }

/-- A command that changes the table: refused in PAIR-STANDBY, journalled where it succeeds (R188). -/
def fwdChange (op : Nat) (f : State → Nat × State) (s : State) : State :=
  if mode s = mStandby then fwdResult 4 s
  else
    let vid := keyVid s
    let da := keyDa s
    let tset := getF s ⟨R.FWD_KEY_TSET, 0, 6⟩
    let (c, s) := f s
    let s := fwdResult c s
    if c ≤ 1 then journalFwd op vid da tset s else s

/-- A write of `FWD.CMD`. `parity`: the entry that a LOOKUP finds has a parity error. -/
def fwdCmd (op : Nat) (parity : Bool) (s : State) : State :=
  match op with
  | 1 => fwdChange 1 (fun s => fwdInsert (keyVid s) (keyDa s) (getF s ⟨R.FWD_KEY_TSET, 0, 6⟩) s) s
  | 2 => fwdChange 2 (fun s => fwdDelete (keyVid s) (keyDa s) s) s
  | 3 =>
    if mode s = mStandby then fwdResult 4 s
    else match fwdFind s (keyVid s) (keyDa s) with
    | some i =>
      if parity || fwdSpoiled s i then fwdResult 3 (fwdParity i s)
      else
        match fwdGet s i with
        | some e => setReg R.FWD_RES_HITS (BitVec.ofNat 32 e.hits) (setReg R.FWD_RES_SKIPS (BitVec.ofNat 32 e.skips)
            (setF fFwdIndex i (fwdResult 0 s)))
        | none => fwdResult 3 s
    | none => fwdResult 3 s
  | 4 => fwdChange 4 (fun s => (0, fwdFlush s)) s
  | _ => s

/-- FWD_INSERT (R188): the key registers hold key and set. -/
def execFwdInsert (s : State) : Res := hub s (fwdCmd 1 false)

/-- FWD_DELETE (R188). -/
def execFwdDelete (s : State) : Res := hub s (fwdCmd 2 false)

/-- FWD_LOOKUP (R188, R189). -/
def execFwdLookup (parity : Bool) (s : State) : Res := hub s (fwdCmd 3 parity)

/-- FWD_FLUSH_ALL (R188). -/
def execFwdFlushAll (s : State) : Res := hub s (fwdCmd 4 false)

/-- A write of `FWD.HASH_SEED`, ignored while the table holds an entry. -/
def seedWrite (v : Word) (s : State) : State :=
  if s.fwd.isEmpty then journalReg R.FWD_HASH_SEED (v &&& 0x3FF) (setReg R.FWD_HASH_SEED (v &&& 0x3FF) s) else s

/-- Keys of tunnel set `t`: CNT, A and B. Set 63 stands where counters read (the spec gives both the addresses).
PRESUMED, log entry 53. -/
def tsetKey (t j : Nat) : Nat :=
  if t = 63 then regKey (R.FWD_LOOKUPS + j * 4) 1 else R.FWD_TSET_CNT 0 + (t - 1) * 16 + j * 4

/-- The RWS registers of the FWD page. PRESUMED, log entry 53. -/
def fwdRegs : List Nat := (List.range' 1 63).flatMap (fun t => [tsetKey t 0, tsetKey t 1, tsetKey t 2])

/-- The staged tunnel sets take effect. -/
def fwdApply (s : State) : State :=
  let ch := changed s fwdRegs
  journalCommit 0x7D ch (setF (fDirty 0x7D) 0 (commitRegs fwdRegs (setF ⟨0x7D024, 1, 1⟩ 0 s)))

/-- A FWD commit (R190). -/
def fwdCommit (s : State) : State := if mode s = mStandby then setF ⟨0x7D024, 1, 1⟩ 1 s else fwdApply s

/-- FWD_COMMIT (R190). -/
def execFwdCommit (s : State) : Res := hub s fwdCommit

/-- The tags of a committed tunnel set, in order. -/
def tsetTags (s : State) (t : Nat) : List Nat :=
  if t = 0 then []
  else
    let n := min 8 (getA s ⟨tsetKey t 0, 0, 4⟩)
    (List.range n).map (fun i => getA s ⟨tsetKey t (1 + i / 4), i % 4 * 8, 8⟩)

/-! ### Frames: fields and PTP -/

/-- A tagged frame. -/
def tagged (f : List Byte) : Bool := ofBE (sub f 12 2) == 0x8100

/-- EtherType and VID (0 for untagged) of R183. -/
def etherType (f : List Byte) : Nat := ofBE (sub f (if tagged f then 16 else 12) 2)
def frameVid (f : List Byte) : Nat := if tagged f then ofBE (sub f 14 2) % 4096 else 0

/-- Bytes before the EtherType's payload. -/
def payloadAt (f : List Byte) : Nat := if tagged f then 18 else 14

/-- IPv4 without options carrying UDP to port 319 or 320. -/
def udpPtp (f : List Byte) : Bool :=
  let p := payloadAt f
  etherType f == 0x0800 && byteAt f p == 0x45 && byteAt f (p + 9) == 17
    && (ofBE (sub f (p + 22) 2) == 319 || ofBE (sub f (p + 22) 2) == 320)

/-- Categories (Table 8-2). -/
inductive Category
  | protection | time | general
  deriving DecidableEq, Repr

def category (f : List Byte) : Category :=
  let e := etherType f
  if e = 0x88B8 ∨ e = 0x88BA then .protection else if e = 0x88F7 ∨ udpPtp f then .time else .general

/-- Where the PTP header begins. -/
def ptpAt (f : List Byte) : Option Nat :=
  if etherType f = 0x88F7 then some (payloadAt f) else if udpPtp f then some (payloadAt f + 28) else none

/-- PTP message types: Sync 0, Delay_Req 1, Pdelay_Req 2, Pdelay_Resp 3, Follow_Up 8, Pdelay_Resp_Follow_Up 0xA. -/
def ptpType (f : List Byte) (p : Nat) : Nat := byteAt f p % 16
def twoStepFlag (f : List Byte) (p : Nat) : Bool := (byteAt f (p + 6)).testBit 1
def correction (f : List Byte) (p : Nat) : Int := sext 64 (ofBE (sub f (p + 8) 8))
/-- sourcePortIdentity, sequenceId and domainNumber. -/
def ptpKey (f : List Byte) (p : Nat) : List Byte := sub f (p + 20) 10 ++ sub f (p + 30) 2 ++ sub f (p + 4) 1
/-- originTimestamp of a Sync, preciseOriginTimestamp of a Follow_Up, in 2^−16 ns. -/
def originTime (f : List Byte) (p : Nat) : Nat := (ofBE (sub f (p + 34) 6) * 1000000000 + ofBE (sub f (p + 40) 4)) * 65536

/-- A sum for a correctionField, its largest value where it leaves the range (R203). -/
def corrSum (a : Int) : Nat := if -(2 ^ 63 : Int) ≤ a ∧ a < 2 ^ 63 then toField 64 a else 2 ^ 63 - 1

/-- A list with other bytes at a place. -/
def patch (f : List Byte) (i : Nat) (b : List Byte) : List Byte := f.take i ++ b ++ f.drop (i + b.length)

/-- A frame, FCS included, whose correctionField gains `d`: UDP checksum zero, FCS recomputed (Table 8-5, R203). -/
def addCorrection (f : List Byte) (p : Nat) (d : Int) : List Byte :=
  let g := f.take (f.length - 4)
  let g := patch g (p + 8) (bytesBE 8 (corrSum (correction f p + d)))
  let g := if udpPtp f then patch g (p - 2) [0, 0] else g
  g ++ bytesLE 4 (fcs32 g).toNat

/-- Correction acts on this frame at all: TC_EN, and UDP4_EN for UDP. -/
def tcActs (s : State) (f : List Byte) : Bool :=
  bit s ⟨R.ETH_CTRL, 0, 1⟩ && (!udpPtp f || bit s ⟨R.ETH_CTRL, 1, 1⟩)

/-- Source 70, at most once per second per MAC (R205). -/
def raise70 (k detail : Nat) (s : State) : State := limited (70 * 1024 + k) 250000000 (raise 70 detail) s

/-- A two-step table takes an entry; a full one displaces its oldest (R204). -/
def addTwoStep (k : Nat) (egress : Bool) (e : TwoStep) (s : State) : State :=
  let m := macGet s k
  let l := if egress then m.egress else m.origin
  let full := decide (16 ≤ l.length)
  let l := (if full then l.tail else l) ++ [e]
  let s := macSet k (if egress then { m with egress := l } else { m with origin := l }) s
  if full then raise70 k (2 ^ 15 + k) (bump R.ETH_TWO_STEP_EVICT s) else s

/-- The entry that matches a Follow_Up, and the table without it. -/
def takeTwoStep (key : List Byte) (l : List TwoStep) : Option TwoStep × List TwoStep :=
  (l.find? (fun e => e.key == key), l.filter (fun e => e.key != key))

/-- TWO_STEP_ENTRY_EXPIRY (R204): the oldest entry of a table is 1 s old. -/
def execTwoStepEntryExpiry (k : Fin 4) (egress : Bool) (s : State) : Res :=
  hub s (fun s =>
    let m := macGet s k
    macSet k (if egress then { m with egress := m.egress.tail } else { m with origin := m.origin.tail }) s)

/-! ### Receiving (R179–R186, R202) -/

/-- `MAC.PDELAY` and `DELAY_ASYM` of a MAC. -/
def pdelayOf (s : State) (k : Nat) : Nat := (reg s (R.MAC_PDELAY k)).toNat
def delayAsym (s : State) (k : Nat) : Int := sext 32 (reg s (R.MAC_DELAY_ASYM k)).toNat

/-- A Sync or Follow_Up stamped `rx` at the MAC that is the source of Plumb gives an offset (R196). -/
def macSource (k : Nat) (rx : Plumb) (f : List Byte) (p : Nat) (s : State) : State :=
  if timeSrc s = .mac k ∧ byteAt f (p + 4) = getF s ⟨R.ETH_PTP_DOMAIN, 0, 8⟩ then
    let t : Int := fineOf rx
    if ptpType f p = 0 ∧ ¬ twoStepFlag f p then
      servo (t - ((originTime f p : Int) + correction f p + pdelayOf s k)) (pdelayOf s k) 1 s
    else if ptpType f p = 8 then
      match (takeTwoStep (ptpKey f p) (macGet s k).origin).1.bind (fun e => e.rx) with
      | some (rx, cf) =>
        servo ((rx : Int) - ((originTime f p : Int) + cf + correction f p + pdelayOf s k)) (pdelayOf s k) 1 s
      | none => s
    else s
  else s

/-- A Time frame at its origin (R202), whether or not a tunnel then takes it (R194): a one-step Sync gains the link's delay; a
two-step Sync's sum waits for its Follow_Up. DEDUCED, log entry 54. -/
def ptpOrigin (k : Nat) (rx : Plumb) (f : List Byte) (s : State) : List Byte × State :=
  match ptpAt f with
  | none => (f, s)
  | some p =>
    let sum : Int := pdelayOf s k + delayAsym s k
    let s := macSource k rx f p s
    if ptpType f p = 0 ∧ ¬ twoStepFlag f p then (if tcActs s f then addCorrection f p sum else f, s)
    else if ptpType f p = 0 then
      (f, addTwoStep k false { key := ptpKey f p, add := sum, rx := some (fineOf rx, correction f p) } s)
    else if ptpType f p = 8 then
      let m := macGet s k
      let (e, l) := takeTwoStep (ptpKey f p) m.origin
      let s := macSet k { m with origin := l } s
      match e with
      | some e => (if tcActs s f then addCorrection f p e.add else f, s)
      | none => (f, s)
    else (f, s)

/-- A member's kind and class are permitted for a category (Table 8-2). -/
def memberPermitted (c : Category) (e : Entry) : Bool :=
  match c with
  | .protection => e.kind == 4 && e.cls == 0
  | .time => e.kind == 6 || (e.kind == 4 && e.cls == 1)
  | .general => e.kind == 4 && decide (3 ≤ e.cls)

/-- Which members of a set take the frame, and the skips counted (Table 8-3). -/
def members (k : Nat) (c : Category) (tags : List Nat) (s : State) : List Nat × Nat × State :=
  tags.foldl (fun (a : List Nat × Nat × State) t =>
    let (ok, n, s) := a
    match lookup s 7 t true with
    | none => (ok, n + 1, bump (R.MAC_NO_TUNNEL k) s)
    | some (i, e) =>
      if !memberPermitted c e then (ok, n + 1, bump (R.MAC_CLASS_SKIP k) s)
      else if e.origin && e.terminus && e.egMort == 7 && e.egTid % 4 == k then (ok, n + 1, bump (R.MAC_SPLIT_HORIZON k) s)
      else if !running s i then (ok, n + 1, bump (R.MAC_HELD_SKIP k) s)
      else (ok ++ [t], n, s)) ([], 0, s)

/-- Bytes of a MAC's receive buffer in use. -/
def rxBufUsed (s : State) (k : Nat) : Nat :=
  (((inqGet s 7).filter (fun f => f.src == k && f.last)).map (fun f => f.data.length)).sum

/-- Copies enter M7's queue; Protection and Time frames go before every General frame not yet begun (R186). -/
def enqueueFrames (fs : List InFrame) (s : State) : State :=
  let q := inqGet s 7
  if (fs.head?.map (fun f => f.ahead)).getD false then
    let first := q.takeWhile (fun f => f.ahead || f.rest.isSome)
    inqSet 7 (first ++ fs ++ q.drop first.length) s
  else inqSet 7 (q ++ fs) s

/-- Forwarding of an accepted frame stamped `rx` (R184–R186). -/
def forwardFrame (k : Nat) (rx : Plumb) (f : List Byte) (parity : Bool) (s : State) : State :=
  let c := category f
  let (f, s) := if c = .time then ptpOrigin k rx f s else (f, s)
  let vid := if frameVid f = 0 then getF s ⟨R.MAC_CTRL k, 16, 12⟩ else frameVid f
  let da := ofBE (f.take 6)
  let s := bump64 R.FWD_LOOKUPS s
  let (hit, s) := match fwdFind s vid da with
    | some i => if parity || fwdSpoiled s i then ((none : Option Nat), fwdParity i s) else (some i, s)
    | none => (none, s)
  let (tset, s) := match hit with
    | some i =>
      let e := (fwdGet s i).getD { vid := 0, da := 0, tset := 0 }
      (e.tset, bump64 R.FWD_HITS (fwdSet i (some { e with hits := (e.hits + 1) % 2 ^ 32 }) s))
    | none => (getF s ⟨R.MAC_MISS_TSET k, 0, 6⟩, bump64 R.FWD_MISSES (bump (R.MAC_FWD_MISS k) s))
  let (ok, skips, s) := members k c (tsetTags s tset) s
  let s := match hit with
    | some i =>
      match fwdGet s i with
      | some e => fwdSet i (some { e with skips := min 65535 (e.skips + skips) }) s
      | none => s
    | none => s
  if ok.isEmpty then bump (R.MAC_NO_EGRESS k) s
  else
    let room := if c = .general then 49152 else 65536
    if room < rxBufUsed s k + f.length then
      limited (71 * 1024 + k) tenUs (raise 71 k) (bump (R.MAC_RX_BUF_DROP k) s)
    else
      enqueueFrames (ok.zipIdx.map (fun p =>
        { tag := p.1, data := f, src := k, stamp := some rx, last := p.2 + 1 == ok.length, ahead := c != .general })) s

/-- Ethernet forwarding runs in this mode (Table 1-10). -/
def etherRuns (s : State) : Bool := mode s == mSolo || mode s == mActive || mode s == mIsland

/-- MAC_FRAME_RECEIVED (R179): a frame, FCS included; `parity`: the table entry it would hit has a parity error. It is
stamped as its first bit after the SFD crosses the balls (R180). Peer-delay messages are consumed at the MAC
(R201). DEDUCED, log entry 54. -/
def execMacFrameReceived (k : Fin 4) (frame : Timed (List Byte)) (parity : Bool) (s : State) : Res :=
  hub s (fun s =>
    let rx := stampAt 56 frame.phase s
    let frame := frame.val
    let n := frame.length
    let body := frame.take (n - 4)
    if ¬ (bit s (fMacEn k) ∧ bit s (fMacLink k)) then s
    else if frame.drop (n - 4) ≠ bytesLE 4 (fcs32 body).toNat then bump (R.MAC_RX_FCS_ERR k) s
    else if n < 64 then bump (R.MAC_RX_RUNT k) s
    else if clampN 64 9600 (getF s ⟨R.MAC_MAX_FRAME k, 0, 14⟩) < n then bump (R.MAC_RX_OVERSIZE k) s
    else if etherType frame = 0x8808 then bump (R.MAC_RX_MACCTL k) s
    else
      let s := bump64 (R.MAC_RX_FRAMES k) s
      let peer : Bool := match ptpAt frame with
        | some p => ptpType frame p == 2 || ptpType frame p == 3 || ptpType frame p == 0xA
        | none => false
      if peer ∨ !etherRuns s then s else forwardFrame k rx frame parity s)

/-! ### Transmitting (R182, R203–R205) -/

/-- Sends a frame on a MAC. -/
def macSend (k : Nat) (f : List Byte) (s : State) : State := emit (.macFrame k f) (bump64 (R.MAC_TX_FRAMES k) s)

/-- MAC_FRAME_TRANSMIT (R203): a frame, FCS included, leaves under its egress tag, with the TSP stamp it carries. A Sync or
Delay_Req without one is discarded whether correction acts or not (R205). -/
def execMacFrameTransmit (tag : Byte) (stamp : Option (BitVec 48 × BitVec 32)) (frame : Timed (List Byte)) (s : State) : Res :=
  hub s (fun s =>
    let out := stampAt 56 frame.phase s
    let frame := frame.val
    let k := tag.toNat % 4
    if 4 ≤ tag.toNat then bump R.ETH_TAG_ERR s
    else if ¬ (bit s (fMacEn k) ∧ bit s (fMacLink k)) then s
    else
      match ptpAt frame with
      | none => macSend k frame s
      | some p =>
        let ty := ptpType frame p
        if ty = 0 ∨ ty = 1 then
          match stamp with
          | none => raise70 k k (bump R.ETH_PTP_NOSTAMP s)
          | some (sec, ns) =>
            let r : Int := (fineOf out : Int) - ((sec.toNat * 1000000000 + ns.toNat) * 65536 + 32768 : Nat)
            if !tcActs s frame || (ty == 1 && !bit s ⟨R.ETH_CTRL, 2, 1⟩) then macSend k frame s
            else if ty = 0 ∧ twoStepFlag frame p then
              macSend k frame (addTwoStep k true { key := ptpKey frame p, add := r } s)
            else macSend k (addCorrection frame p r) (bump64 R.ETH_PTP_CORRECTED s)
        else if ty = 8 ∧ tcActs s frame then
          let m := macGet s k
          let (e, l) := takeTwoStep (ptpKey frame p) m.egress
          match e with
          | some e =>
            macSend k (addCorrection frame p e.add) (bump64 R.ETH_PTP_CORRECTED (macSet k { m with egress := l } s))
          | none => macSend k frame (bump R.ETH_FU_NOMATCH s)
        else macSend k frame s)

/-! ### Peer delay (R201) -/

/-- A MAC's port identity (R201): clockIdentity `ETH.CLOCK_ID`, portNumber MAC + 1. -/
def portIdentity (s : State) (k : Nat) : List Byte :=
  bytesBE 4 (reg s (R.ETH_CLOCK_ID 1)).toNat ++ bytesBE 4 (reg s (R.ETH_CLOCK_ID 0)).toNat ++ bytesBE 2 (k + 1)

/-- PDELAY_REQ_TIMER: every 1 s. -/
def execPdelayReqTimer (k : Timed (Fin 4)) (s : State) : Res :=
  hub s (fun s =>
    let tx := stampAt 56 k.phase s
    let k := k.val
    if bit s (fMacEn k) ∧ bit s ⟨R.MAC_CTRL k, 4, 1⟩ ∧ bit s (fMacLink k) then
      let m := macGet s k
      let seq := (m.pdelaySeq + 1) % 65536
      emit (.pdelayReq k seq (portIdentity s k)) (bump (R.MAC_PDELAY_TX k)
        (macSet k { m with pdelaySeq := seq, pdelay := some (seq, fineOf tx) } s))
    else s)

/-- PDELAY_REQ_RECEIVED: a request, answered with a one-step Pdelay_Resp carrying the turnaround time.
DEDUCED, log entry 54. -/
def execPdelayReqReceived (k : Fin 4) (req : PdelayReq) (turnaround : Word) (s : State) : Res :=
  hub s (fun s =>
    if bit s (fMacEn k) ∧ bit s ⟨R.MAC_CTRL k, 4, 1⟩ then
      emit (.pdelayResp k req.seq.toNat turnaround.toNat (portIdentity s k) (bytesBE 10 req.port.toNat))
        (bump (R.MAC_PDELAY_TX k) (bump (R.MAC_PDELAY_RX k) s))
    else s)

/-- PDELAY_RESP_RECEIVED: the response to the request under way, with the partner's turnaround as its correctionField. -/
def execPdelayRespReceived (k : Fin 4) (seq : Timed (BitVec 16)) (turnaround : BitVec 48) (s : State) : Res :=
  hub s (fun s =>
    let m := macGet s k
    match m.pdelay with
    | some (q, t1) =>
      if q = seq.val.toNat ∧ bit s ⟨R.MAC_CTRL k, 4, 1⟩ then
        let d : Int := (((fineOf (stampAt 56 seq.phase s) : Int) - t1) - turnaround.toNat) / 2
        let s := setReg (R.MAC_PDELAY k) (BitVec.ofInt 32 d) (macSet k { m with pdelay := none } s)
        bump (R.MAC_PDELAY_RX k) (setF ⟨R.MAC_STATUS k, 4, 1⟩ 1 s)
      else s
    | none => s)

end Sys2Proof.Machine
end

