-- ==== Sys2Proof/Machine/Keys.lean ====
section
/-!
DEFINITION. Life-cycle state, paths and keys as the other blocks use them (17_lifecycle_and_keys.md R381, R388, R390,
R395–R397, Tables 17-1 and 17-5).
-/
namespace Sys2Proof.Machine

abbrev lcManufacture : Nat := 0
abbrev lcTest : Nat := 1
abbrev lcProvision : Nat := 2
abbrev lcField : Nat := 3
abbrev lcReturn : Nat := 4
abbrev lcEnd : Nat := 5

abbrev fLc : Fld := ⟨R.SEC_STATUS, 0, 3⟩
abbrev fRootOk : Fld := ⟨R.SEC_STATUS, 3, 1⟩
abbrev fCpsSealed : Fld := ⟨R.SEC_STATUS, 4, 1⟩
abbrev fAfErr : Fld := ⟨R.SEC_STATUS, 5, 1⟩
abbrev fFloor : Fld := ⟨R.SEC_STATUS, 8, 9⟩

/-- The life-cycle state in force (Table 17-1). -/
def lc (s : State) : Nat := getF s fLc

/-- The 8 bytes of the device ID, big-endian. -/
def idBytes : List Byte := bytesBE 8 Config.deviceId.toNat

/-! ### Paths (R390) -/

/-- Path number. -/
def pathNum : Path → Nat
  | .bar0 => 0 | .mgmt _ => 1 | .usb => 2 | .spi => 3 | .jtag => 4

/-- Key of what is held per path; on the management path per SRC_HID. -/
def pathKey : Path → Nat
  | .mgmt h => 8 * h.toNat + 1
  | p => pathNum p

def dPath : Nat → AuthPath := fun _ => {}
def apGet (s : State) (p : Path) : AuthPath := smGet dPath s.sec.path (pathKey p)
def apSet (p : Path) (a : AuthPath) (s : State) : State :=
  { s with sec := { s.sec with path := smSet dPath s.sec.path (pathKey p) a } }

/-- The path is authenticated. -/
def authed (s : State) (p : Path) : Bool := (apGet s p).authed

/-- A privileged path: 0 or 3, authenticated, or any in MANUFACTURE or TEST. -/
def privileged (s : State) (p : Path) : Bool :=
  pathNum p == 0 || pathNum p == 3 || authed s p || decide (lc s ≤ 1)

/-! ### Derived keys (R388, Table 17-5) -/

/-- The device secret as bytes. -/
def secretBytes : List Byte := bytesBE 32 Config.deviceSecret.toNat

/-- A key derived with the device ID as context. -/
def derive (key : List Byte) (label : String) : List Byte := kdf key label idBytes 256

/-- The root of the current state. -/
def rootKey (s : State) : Option (List Byte) :=
  if !bit s fRootOk then none
  else if lc s ≤ 1 then some (derive secretBytes "ROOT_MFG")
  else if lc s ≤ 3 then some (derive secretBytes "ROOT_CUST")
  else if lc s = 4 then some (derive secretBytes "ROOT_RMA")
  else none

/-- The CPS, unsealed under K_SEAL where ROOT_CUST can be derived. -/
def cpsKey (s : State) : Option (List Byte) :=
  match rootKey s, s.fuse.cps with
  | some root, some w => if lc s = lcProvision ∨ lc s = lcField then kwUnwrap (derive root "SEAL") w else none
  | _, _ => none

/-- K_KEK, K_UV, K_DBG. -/
def cpsDerived (s : State) (label : String) : Option (List Byte) := (cpsKey s).map (fun k => derive k label)

/-! ### Slots and engines (R395–R397) -/

def dSlot : Nat → Slot := fun _ => {}
def slotOf (s : State) (i : Nat) : Slot := smGet dSlot s.sec.slots i

/-- A slot changes; `KEY.VALID` and `KEY.ATTR` follow. -/
def setSlot (i : Nat) (v : Slot) (s : State) : State :=
  let s := { s with sec := { s.sec with slots := smSet dSlot s.sec.slots i v } }
  let s := setF ⟨R.KEY_VALID, i, 1⟩ (if v.valid then 1 else 0) s
  let a0 := if v.valid then v.dest + v.lcMask * 256 else 0
  let a1 := if v.valid then v.master + v.world * 65536 else 0
  setReg (R.KEY_ATTR (2 * i)) (BitVec.ofNat 32 a0) (setReg (R.KEY_ATTR (2 * i + 1)) (BitVec.ofNat 32 a1) s)

/-- The slot that engine `e` takes its key from. -/
def engineSlot (s : State) (e : Nat) : Option Nat :=
  if bit s ⟨R.KEY_ENG e, 8, 1⟩ then
    (List.range 32).find? (fun i => (slotOf s i).valid && (slotOf s i).dest == e)
  else some (getF s ⟨R.KEY_ENG e, 0, 5⟩)

/-- The key of engine `e`, where its slot is usable (R396). -/
def engineKey (s : State) (e : Nat) : Option (List Byte) :=
  (engineSlot s e).bind (fun i =>
    let v := slotOf s i
    if v.valid && v.dest == e && v.lcMask.testBit (lc s) then some v.key else none)

end Sys2Proof.Machine
end

