-- ==== Sys2Proof/Machine/Links.lean ====
section
/-!
DEFINITION. The states of a Veserlink link, their transitions, the hold and retry timers and what a loss or a return of a
link does (03_veserlink_cable_link.md R46–R56, R63–R71), AUTH and the session it sets up (17_lifecycle_and_keys.md
R403, R404).
-/
namespace Sys2Proof.Machine

/-! ### Fields -/

abbrev fRef (n : Nat) : Fld := ⟨R.LINK_STATUS n, 3, 1⟩
abbrev fSplitting (n : Nat) : Fld := ⟨R.LINK_STATUS n, 7, 1⟩
abbrev fRxLanes (n : Nat) : Fld := ⟨R.LINK_STATUS n, 12, 4⟩
abbrev fLastReason (n : Nat) : Fld := ⟨R.LINK_STATUS n, 24, 4⟩
abbrev fPartnerReason (n : Nat) : Fld := ⟨R.LINK_STATUS n, 28, 4⟩
abbrev fForceDown (n : Nat) : Fld := ⟨R.LINK_CTRL n, 1, 1⟩
abbrev fSplitResult (n : Nat) : Fld := ⟨R.LINK_SPLIT_STATUS n, 0, 3⟩
abbrev fSplitHold (n : Nat) : Fld := ⟨R.LINK_SPLIT_STATUS n, 8, 8⟩
abbrev fSplitRefusals (n : Nat) : Fld := ⟨R.LINK_SPLIT_STATUS n, 16, 16⟩

/-- `SPLIT` codes (Table 3-3). -/
abbrev split22 : Nat := 1
abbrev split11 : Nat := 4

/-- Lanes on which an end transmits in a configuration (Table 3-3); in 1+1 the lowest and highest of `working`. -/
def txMask (ref : Bool) (split working : Nat) : Nat :=
  let low := ((List.range 4).find? (fun k => working.testBit k)).getD 0
  let high := ((List.range 4).reverse.find? (fun k => working.testBit k)).getD 0
  match split, ref with
  | 1, true => 3 | 1, false => 12
  | 2, true => 7 | 2, false => 8
  | 3, true => 1 | 3, false => 14
  | 4, true => 2 ^ low | 4, false => 2 ^ high
  | _, _ => 0

/-- Lane page of lane `k` of link `n` (R73). -/
def lanePage (n k : Nat) : Nat := if n = 4 then 16 else 4 * n + k

abbrev fLaneDir (p : Nat) : Fld := ⟨R.LANE_STATUS p, 0, 1⟩
abbrev fLaneLock (p : Nat) : Fld := ⟨R.LANE_STATUS p, 1, 1⟩

/-- The lanes of a configuration take their directions; SPLIT and the lane masks name it, and the dealing of blocks begins
with the lowest lane and empty codewords. PRESUMED, log entry 91. -/
def takeSplit (n split working : Nat) (s : State) : State :=
  let s := lSet n { lGet s n with dealt := 0, fec := [] } s
  if n = 4 then setF (fRxLanes 4) 1 (setF (fTxLanes 4) 1 (setF (fSplit 4) split22 s))
  else
    let ref := bit s (fRef n)
    let tx := txMask ref split working
    let s := setF (fRxLanes n) (txMask (!ref) split working) (setF (fTxLanes n) tx (setF (fSplit n) split s))
    forAll (linkLanes n) (fun k s => setF (fLaneDir (lanePage n k)) (if tx.testBit k then 1 else 0) s) s

/-- The ROLE cell of a link (Table 3-5, R57). -/
def roleCell (s : State) (n : Nat) : List Byte :=
  [0x06, BitVec.ofNat 8 (mode s)] ++ bytesBE 4 (reg s (R.LINK_OWN_EPOCH n)).toNat

/-- A ROLE cell is sent on every link that is up, in LOWPOWER as well, as after a change of own mode or epoch (R57). -/
def announceRole (s : State) : State :=
  forAll [0, 1, 2, 3, 4] (fun n s =>
    if linkState s n = lsUp ∨ linkState s n = lsLowpower then sendCtl n (roleCell s n) s else s) s

/-- A link changes its state; the tick of its leaving UP is kept, and an island plan follows (R457, Table 1-6). -/
def setLinkState (n st : Nat) (s : State) : State :=
  let left := linkState s n == lsUp && st != lsUp
  let s := when left (fun s => lSet n { lGet s n with leftUp := s.ticks } s) s
  islandFollow (setF (fLinkState n) st s)

/-- The hold of a port, or of its port pair, ends with a return: its tunnels resume (R67, R314). -/
def holdReturns (n : Nat) (s : State) : State := resumeHeld n (bump (R.LINK_HOLD_RESUMES n) (stopHold n s))

/-- UP is entered from LOWPOWER or RETRAIN: a ROLE cell is sent (R57). Tunnels that the loss of the other port of a pair had suspended
meanwhile resume (R314). -/
def returnUp (n : Nat) (s : State) : State :=
  let s := setLinkState n lsUp s
  dockEvaluate (when (holdRuns s n) (holdReturns n) (sendCtl n (roleCell s n) s))

/-- LOWPOWER ends; `own` says that this end drives the exit pattern (R53), which a fenced port does not (R308). -/
def endLowpower (n : Nat) (own : Bool) (s : State) : State :=
  if linkState s n = lsLowpower then returnUp n (when (own && !txIdle s n) (emit (.lpExit n)) s) else s

/-- The bytes of a sideband frame (R63, R65). -/
def sbFrame (type : Nat) (payload : List Byte) : List Byte :=
  let body := BitVec.ofNat 8 type :: BitVec.ofNat 8 payload.length :: payload
  0x57 :: body ++ [crc8 body]

/-- A sideband frame waits for this end's slot. -/
def sendSb (n type : Nat) (payload : List Byte) (s : State) : State :=
  let l := lGet s n
  lSet n { l with sbOut := l.sbOut ++ [(type, payload)] } s

/-! ### Starting (R51, R68) -/

/-- DETECT is entered: Veserlink mode is entered (the Scarf link needs none), training is permitted, the
fence does not hold the transmitters idle and no retry timer runs. -/
def linkStart (n : Nat) (s : State) : State :=
  let l := lGet s n
  if linkState s n = lsDown ∧ (l.veser ∨ n = 4) ∧ ¬ (n ≤ 3 ∧ s.pair.fenced) ∧ ¬ l.retrying ∧ ¬ l.testHold ∧ s.pwr.entry < 3 ∧ bit s ⟨R.LINK_CTRL n, 0, 1⟩
      ∧ ¬ bit s (fForceDown n) then
    let s := lSet n { l with sawTrain := false, trainBad := 0 } s
    let s := if n = 4 then setF (fRef 4) (1 - getF s ⟨R.PAIR_STATUS, 0, 1⟩) s else setF (fRef n) (getF s ⟨R.TC_STATUS n, 5, 1⟩) s
    setF (fLinkState n) lsDetect s
  else s

/-- A failed attempt or a loss starts the retry timer again (R68). -/
def startRetry (n : Nat) (s : State) : State :=
  lSet n { lGet s n with retrying := true } (setF ⟨R.LINK_HOLD_STATUS n, 1, 1⟩ 1 s)

/-- The retry timer ends. -/
def stopRetry (n : Nat) (s : State) : State :=
  lSet n { lGet s n with retrying := false } (setF ⟨R.LINK_HOLD_STATUS n, 1, 1⟩ 0 s)

/-! ### Going DOWN (R52, R64, R67, R70) -/

/-- Source 5n: kind and reason (R71). -/
def raiseLink (n kind : Nat) (s : State) : State := raise (5 * n) (kind * 2 ^ 14 + getF s (fLastReason n)) s

/-- The hold of a port's tunnels ends without a return (R70). DEDUCED, log entry 35. -/
def holdExpires (n : Nat) (s : State) : State :=
  let (k, s) := teardownHeld n (stopHold n s)
  raiseLink n 2 (bump (R.LINK_HOLD_EXPIRIES n) (addCnt64 (R.LINK_HOLD_LOSS_CELLS n) k s))

/-- The tunnels bound to a lost port enter SUSPENDED and its hold timer starts; of a port pair only when neither port is
UP (R67, R314). -/
def suspendBound (n : Nat) (s : State) : State :=
  let otherUp := match pairOther s n with | some k => linkState s k == lsUp | none => false
  if otherUp then s
  else
    let s := forAll (boundTo s n) (fun i s => tSet i { tGet s i with susp := true } s) s
    if holdRuns s n then s
    else if getF s ⟨R.LINK_HOLD n, 0, 16⟩ = 0 then holdExpires n s
    else lSet n { lGet s n with holding := true, holdStart := s.ticks } s

/-- What the loss of the Scarf link makes of a resynchronisation under way (R305). -/
def scarfLost (s : State) : State :=
  if getF s fSync = 1 then
    setF fSync 3 { s with pair := { s.pair with groupEnd := none, groupOpen := false, group := [] } }
  else s

/-- The reasons for which this end sends DOWN_REASON: drops by its own decision (R64). -/
def ownDecision (reason : Nat) : Bool := reason != 1 && reason != 2 && reason != 8

/-- The drop must take effect faster than a sideband frame: the fence (R64, R308). -/
def fastDrop (reason : Nat) : Bool := reason == 0xB

/-- Link `n` goes DOWN for a reason of Table 3-12. By this end's own decision its DOWN_REASON goes out before the drop, after
an AUTH_DONE of failure that waits; a fast drop leaves it to the next slot (R64). RESULT of an own re-allotment under way
shows ABORTED, and LOCK, ADAPTING, DIR and TRAINED of its lanes stay: Table 3-7 and Table 3-18 say nothing of DOWN.
DEDUCED, log entries 33, 35, 92. DESIGN CHOICE, log entry 93. -/
def linkDown (n reason : Nat) (s : State) : State :=
  let was := linkState s n
  if was = lsDown then s
  else
    let lost := was = lsUp ∨ was = lsLowpower ∨ was = lsRetrain
    let l := lGet s n
    let cells := (l.replay.map TxBlock.tunnelCells).sum + (l.forming.filter (fun c => c.2)).length
    let fails := l.sbOut.filter (fun f => f.1 == 0x42 && byteAt f.2 0 != 0)
    let why := (0x20, [BitVec.ofNat 8 reason])
    let sent := if ownDecision reason && !fastDrop reason then fails ++ [why] else []
    let sbOut := if fastDrop reason then fails ++ [why] else if ownDecision reason then [] else fails
    let s := forAll sent (fun f => emit (.sideband n (sbFrame f.1 f.2))) s
    let s := when (l.splitOwn && l.splitStep != .idle) (setF (fSplitResult n) 5) s
    let s := lSet n { holding := l.holding, holdStart := l.holdStart, veser := l.veser, fecSeen := l.fecSeen,
                      testHold := l.testHold, ffePeer := l.ffePeer, tidCount := l.tidCount, retrying := l.retrying,
                      sbOut := sbOut, leftUp := if was = lsUp then s.ticks else l.leftUp } s
    let s := bump (R.LINK_DOWN_EVENTS n) s
    let keep := getF s (fRef n) * 8 + getF s (fPartnerReason n) * 2 ^ 28
    let s := setReg (R.LINK_STATUS n) (BitVec.ofNat 32 (keep + reason % 16 * 2 ^ 24)) s
    let s := when (decide lost) (fun s => raiseLink n 0 (suspendBound n (addCnt64 (R.LINK_RETRAIN_LOSS_CELLS n) cells s))) s
    let s := when (decide (n = 4)) scarfLost s
    let s := when (decide (reason ≠ 2)) (startRetry n) s
    islandFollow (dockEvaluate (overbookCheck n s))

/-! ### RETRAIN (R51, R52, R56, Table 3-7) -/

/-- A re-allotment under way ends without effect (Table 3-7). -/
def splitAborts (n : Nat) (s : State) : State :=
  let l := lGet s n
  let s := when l.splitOwn (setF (fSplitResult n) 5) s
  setF (fSplitting n) 0 (lSet n { l with splitStep := .idle, splitOwn := false, again := none } s)

/-- Link `n` enters RETRAIN; a re-allotment in its steps 3 to 5 is aborted. -/
def enterRetrain (n reason : Nat) (s : State) : State :=
  if linkState s n = lsUp then
    let moving := (lGet s n).splitStep == .acked || (lGet s n).splitStep == .turning || (lGet s n).splitStep == .ending
    let s := when moving (splitAborts n) s
    let s := lSet n { lGet s n with ackExpiries := 0, nakCount := 0, lpAsked := false } s
    setLinkState n lsRetrain (setF (fLastReason n) reason (bump (R.LINK_RETRAINS n) s))
  else s

/-- Blocks of the replay buffer are sent again. -/
def sendAgain (n : Nat) (bs : List TxBlock) (s : State) : State :=
  if txIdle s n then s else addCnt (R.LINK_REPLAYED_BLOCKS n) bs.length (forAll bs (wire n) s)

/-! ### AUTH (R403, R404) -/

/-- The partner's device ID as its HELLO gives it. -/
def peerIdNat (l : Link) : Nat := ofBE l.peerId

/-- `ID_A || ID_B || N_A || N_B`, A being the reference end. -/
def authContext (s : State) (n : Nat) : List Byte :=
  let l := lGet s n
  if bit s (fRef n) then idBytes ++ l.peerId ++ l.nonce ++ l.peerNonce
  else l.peerId ++ idBytes ++ l.peerNonce ++ l.nonce

/-- The proof of a role under the link key. -/
def proof (s : State) (n : Nat) (key : List Byte) (role : Byte) : List Byte :=
  (hmac key (ascii "VL-AUTH" ++ [role] ++ authContext s n)).take 16

/-- Role byte of this end, and of its partner. -/
def ownRole (s : State) (n : Nat) : Byte := if bit s (fRef n) then 1 else 2
def peerRole (s : State) (n : Nat) : Byte := if bit s (fRef n) then 2 else 1

/-- AUTH fails with a kind: this end's AUTH_DONE names it, unless the partner's DONE was the failure. -/
def authFail (n kind : Nat) (s : State) : State :=
  let s := lSet n { lGet s n with sbOut := [] } s
  let s := if kind = 4 ∨ kind = 6 then s else sendSb n 0x42 [BitVec.ofNat 8 kind] s
  linkDown n 6 (raise (5 * n + 3) kind (bump (R.LINK_AUTH_FAIL n) s))

/-- AUTH at an end in END: it fails there with kind 6, after the AUTH_DONE 0x06 of its own slot; until that has gone nothing that
arrives, or fails to, ends it otherwise (R382, R403). DEDUCED, log entry 37. -/
def authEnd (n : Nat) (s : State) : State := if (lGet s n).sbOut.any (fun f => f.1 == 0x42) then s else authFail n 6 s

/-- The session keys and salts of direction A to B and B to A (R404). -/
def session (s : State) (n : Nat) (key : List Byte) (l : Link) : Link :=
  let k := kdf key "VL-SESS" (authContext s n) 576
  let a := (sub k 0 32, sub k 64 4)
  let b := (sub k 32 32, sub k 68 4)
  let (t, r) := if bit s (fRef n) then (a, b) else (b, a)
  { l with keyTx := t.1, saltTx := t.2, keyRx := r.1, saltRx := r.2 }

/-- The grant of a class (`LINK.CRD_INIT`, 16 to 4,095). -/
def crdInit (s : State) (n c : Nat) : Nat := max 16 (getF s ⟨R.LINK_CRD_INIT n (c / 2), c % 2 * 16, 12⟩)

/-- The partner is the one that the hold waited for, or another (R69). -/
def partnerReturns (n : Nat) (s : State) : State :=
  let l := lGet s n
  let lo := BitVec.ofNat 32 (peerIdNat l)
  let hi := BitVec.ofNat 32 (peerIdNat l / 2 ^ 32)
  let same := reg s (R.LINK_PARTNER_ID_LO n 0) == lo && reg s (R.LINK_PARTNER_ID_LO n 1) == hi
  let s := if holdRuns s n then
      if same then holdReturns n s else raiseLink n 3 (teardownHeld n (stopHold n s)).2
    else s
  setReg (R.LINK_PARTNER_ID_LO n 1) hi (setReg (R.LINK_PARTNER_ID_LO n 0) lo s)

/-- The Scarf link is UP: what the ring holds is sent again in order to a peer that is SYNCED, and a resynchronisation due may start
(R301, R305). -/
def scarfUp (s : State) : State :=
  let s := when (getF s fSync == 2) (fun s => forAll s.pair.ring (fun r s => sendCtl 4 (jrecCell r) s) s) s
  if getF s fSync = 3 ∧ holdsRole s ∧ bit s ⟨R.PAIR_CTRL, 2, 1⟩ then { s with pair := { s.pair with resyncDue := true } }
  else s

/-- Link `n` passes from AUTH to UP (R45, R54, R58, R69, R404): CRD_RESYNC carries the `CRD_INIT` values. Cells that its ingress
bobbin queue still holds belong to the credits of before, and return none. DESIGN CHOICE, log entry 100. -/
def goUp (n : Nat) (s : State) : State :=
  let l := lGet s n
  let s := setLinkState n lsUp s
  let s := setF (fKph n) 0 (setF (fCipher n) (if l.keyTx.isEmpty then 0 else 1) s)
  let s := bqSet n { bqGet s n with old := (bqGet s n).words.length } s
  let grant := (List.range 8).foldl (fun m c => natSet m c (crdInit s n c)) ([] : SMap Nat)
  let s := lSet n { l with rxE := 0, awaitGood := false, txSeq := 0, replay := [], ackExpiries := 0, nakCount := 0,
                           rxSinceAck := 0, txCredit := [], rxCredit := grant, crdRet := [], ctlOut := [], closeOut := [],
                           forming := [], txBlocks := 0, rxBlocks := 0, txAad := [], txCt := [], rxAad := [], rxCt := [],
                           tagWait := none, splitStep := .idle, splitOwn := false, again := none, lpAsked := false,
                           lastCell := s.ticks } s
  let s := partnerReturns n (sendCtl n (roleCell s n) (sendCrdResync n s))
  let s := if n = 4 then scarfUp s else s
  islandFollow (dockEvaluate (overbookCheck n s))

/-- A loop or a PRBS of lane `k` of the link is enabled. -/
def laneTested (s : State) (n k : Nat) : Bool :=
  getF s ⟨R.LANE_CTRL (lanePage n k), 1, 2⟩ != 0 || bit s ⟨R.LANE_PRBS_CTRL (lanePage n k), 2, 1⟩
    || bit s ⟨R.LANE_PRBS_CTRL (lanePage n k), 5, 1⟩

/-- Some loop or PRBS of the link's lanes is enabled. -/
def testRuns (s : State) (n : Nat) : Bool := (linkLanes n).any (laneTested s n)

/-- A test keeps the link from UP: in SERVICE one of any of its lanes (R51), elsewhere one of a lane that would carry traffic
(R75). DESIGN CHOICE, log entry 38. -/
def testBars (s : State) (n : Nat) : Bool :=
  if mode s = mService then testRuns s n
  else (linkLanes n).any (fun k => ((getF s (fTxLanes n)).testBit k || (getF s (fRxLanes n)).testBit k) && laneTested s n k)

/-- AUTH has succeeded at both ends and this end's DONE has gone: the link passes to UP unless the mode is COLD, the host holds
it DOWN or a test of its lanes runs (R51). -/
def authCheck (n : Nat) (s : State) : State :=
  let l := lGet s n
  if linkState s n = lsAuth ∧ l.authOk ∧ l.peerDone ∧ ¬ l.sbOut.any (fun f => f.1 == 0x42) ∧ mode s ≠ mCold
      ∧ ¬ bit s (fForceDown n) ∧ ¬ testBars s n then goUp n s
  else s

/-- AUTH begins: a fresh nonce, and the three HELLO fragments; in END only AUTH_DONE 0x06 (R382, R403). -/
def enterAuth (n : Nat) (s : State) : State :=
  let s := setF (fLinkState n) lsAuth s
  let l := { lGet s n with peerId := [], peerNonce := [], peerKeyed := false, helloSeen := 0, peerProof := List.replicate 16 0,
                           proofSeen := 0, authOk := false, peerDone := false, keyTx := [], keyRx := [] }
  if lc s = lcEnd then sendSb n 0x42 [0x06] (lSet n l s)
  else
    let nonce := bytesBE 16 (free s).toNat
    let keyed := (engineKey s n).isSome
    let s := lSet n { l with nonce := nonce, peerId := List.replicate 8 0, peerNonce := List.replicate 16 0 } (nextFree s)
    let s := sendSb n 0x40 ([0] ++ idBytes ++ nonce.take 1) s
    let s := sendSb n 0x40 ([1] ++ sub nonce 1 9) s
    sendSb n 0x40 ([2] ++ sub nonce 10 6 ++ [if keyed then 1 else 0]) s

/-- All three HELLO fragments are there: the case of R403 that holds. DESIGN CHOICE, log entry 78. -/
def helloDone (n : Nat) (s : State) : State :=
  let l := lGet s n
  match engineKey s n, l.peerKeyed with
  | none, false =>
    if lc s ≤ 1 then authCheck n (sendSb n 0x42 [0x00] (lSet n { l with authOk := true } s)) else authFail n 2 s
  | some key, true =>
    let p := proof s n key (ownRole s n)
    sendSb n 0x41 ([1] ++ sub p 8 8) (sendSb n 0x41 ([0] ++ p.take 8) s)
  | _, _ => authFail n 2 s

/-- Both PROOF fragments are there: the partner's proof is checked with its role. -/
def proofDone (n : Nat) (s : State) : State :=
  let l := lGet s n
  match engineKey s n with
  | none => authFail n 1 s
  | some key =>
    if l.peerProof = proof s n key (peerRole s n) then
      authCheck n (sendSb n 0x42 [0x00] (lSet n (session s n key { l with authOk := true }) s))
    else authFail n 1 s

/-- A list with `part` in place of its bytes from `i`. -/
def splice (l : List Byte) (i : Nat) (part : List Byte) : List Byte := l.take i ++ part ++ l.drop (i + part.length)

/-! ### Commands on the state of a link -/

/-- DETECT_TIMEOUT (R51): 5 ms without partner presence. DEDUCED, log entry 33. -/
def execDetectTimeout (n : Port) (s : State) : Res :=
  hub s (fun s => if linkState s n = lsDetect then linkDown n 1 s else s)

/-- A trained or retrained link takes its configuration: fewer than four locked lanes make it 1+1 (R47). -/
def trainedSplit (n mask was : Nat) (s : State) : State :=
  if n = 4 then takeSplit 4 split22 1 s
  else if popcount 4 mask < 4 then
    let s := takeSplit n split11 mask s
    if was = split11 then s else raiseLink n 1 s
  else takeSplit n (if was = 0 then split22 else was) 15 s

/-- The receiver of a lane adapts: its CTLE and DFE stand where the data have driven them, which the spec leaves open
(R49). DESIGN CHOICE, log entry 38. -/
def adaptTaps (ctle : Nat) (dfe : Nat → Nat) (s : State) : State :=
  let f := (free s).toNat
  let s := setReg ctle (BitVec.ofNat 32 (f % 256)) (nextFree s)
  forAll [0, 1, 2] (fun i => setReg (dfe i) (BitVec.ofNat 32 (f / 2 ^ (8 + 32 * i)))) s

/-- Lanes that locked: their status, and the coefficients that adaptation has found (R48, R49). -/
def lanesLocked (n mask : Nat) (s : State) : State :=
  forAll (linkLanes n) (fun k s =>
    let p := lanePage n k
    if n = 4 ∨ mask.testBit k then
      let s := setF ⟨R.LANE_STATUS p, 6, 2⟩ 3 (setF (fLaneLock p) 1 s)
      if bit s ⟨R.LANE_CTRL p, 0, 1⟩ then s
      else adaptTaps (R.LANE_CTLE p) (R.LANE_DFE p) (setF ⟨R.LANE_STATUS p, 2, 1⟩ 1 s)
    else setF ⟨R.LANE_STATUS p, 1, 2⟩ 0 s) s

/-- TRAIN_LANES_LOCKED (R47, R48, R51): training ends with the lanes of `mask` locked; at least one per direction takes the
link to AUTH. -/
def execTrainLanesLocked (n : Port) (mask : BitVec 4) (s : State) : Res :=
  hub s (fun s =>
    if linkState s n = lsTrain then
      let m := mask.toNat
      if (n.val = 4 ∧ m % 2 = 1) ∨ (n.val ≠ 4 ∧ 2 ≤ popcount 4 m) then
        overbookCheck n (enterAuth n (trainedSplit n m 0 (lanesLocked n m s)))
      else linkDown n 5 s
    else s)

/-- TRAIN_TIMEOUT (R51): TRAIN fails or exceeds 25 ms. -/
def execTrainTimeout (n : Port) (s : State) : Res :=
  hub s (fun s => if linkState s n = lsTrain then linkDown n 5 s else s)

/-- STORED_COEFF_LOCK_TIMEOUT (R48): lane `k` does not lock on its stored coefficients; full training of it follows. -/
def execStoredCoeffLockTimeout (n : Port) (k : Fin 4) (s : State) : Res :=
  hub s (fun s =>
    if linkState s n = lsRetrain ∧ (linkLanes n).contains k.val then
      setF ⟨R.LANE_STATUS (lanePage n k), 6, 2⟩ 0 (setF (fLaneLock (lanePage n k)) 0 s)
    else s)

/-- AUTH_FRAME_MISSING (R403). -/
def execAuthFrameMissing (n : Port) (s : State) : Res :=
  hub s (fun s =>
    if linkState s n = lsAuth ∧ lc s = lcEnd then authEnd n s
    else if linkState s n = lsAuth ∧ ¬ ((lGet s n).authOk ∧ (lGet s n).peerDone) then authFail n 3 s
    else s)

/-- LINK_LOSS (R67): loss of signal. -/
def execLinkLoss (n : Port) (s : State) : Res :=
  hub s (fun s => if linkState s n = lsDetect then s else linkDown n 1 s)

/-- SIDEBAND_LOSS (R63): three rounds without a good frame, in UP or LOWPOWER. -/
def execSidebandLoss (n : Port) (s : State) : Res :=
  hub s (fun s => if linkState s n = lsUp ∨ linkState s n = lsLowpower then linkDown n 1 s else s)

/-- A write of `LINK.CTRL` arrives at its page: FORCE_DOWN takes the link DOWN with reason 7, and a permission may let it
start (R51). -/
def linkCtrlWrite (n : Nat) (v : Word) (s : State) : State :=
  let k := R.LINK_CTRL n
  let s := setReg k ((reg s k &&& ~~~0xFF0F) ||| (v &&& 0xFF0F)) s
  let s := journalReg k (reg s k) s
  if bit s (fForceDown n) then linkDown n 7 s else authCheck n (linkStart n s)

/-- LINK_FORCE_DOWN (R51): a write that sets FORCE_DOWN. -/
def execLinkForceDown (n : Port) (s : State) : Res :=
  hub s (fun s => linkCtrlWrite n (reg s (R.LINK_CTRL n) ||| 2) s)

/-- The lanes of `mask` that run no test: a lane that runs one carries no traffic (R75), and counts as not locked.
DESIGN CHOICE, log entry 38. -/
def untested (s : State) (n mask : Nat) : Nat :=
  ((linkLanes n).map (fun k => if mask.testBit k && !laneTested s n k then 2 ^ k else 0)).sum

/-- RETRAIN_SUCCESS (R46, R47, R52): the lanes of `mask` are locked again and the configuration held before is taken, 1+1 where
fewer than four locked or it was 1+1; the replay buffer is replayed in full. -/
def execRetrainSuccess (n : Port) (mask : BitVec 4) (s : State) : Res :=
  hub s (fun s =>
    let m := untested s n mask.toNat
    if linkState s n = lsRetrain ∧ ((n.val = 4 ∧ m % 2 = 1) ∨ (n.val ≠ 4 ∧ 2 ≤ popcount 4 m)) then
      let s := trainedSplit n m (getF s (fSplit n)) (lanesLocked n m s)
      let s := returnUp n s
      let s := lSet n { lGet s n with awaitGood := false } s
      overbookCheck n (sendAgain n (lGet s n).replay s)
    else s)

/-- RETRAIN_TIMEOUT (R51): 10 ms without success, a link loss. -/
def execRetrainTimeout (n : Port) (s : State) : Res :=
  hub s (fun s => if linkState s n = lsRetrain then linkDown n 5 s else s)

/-- This end may agree to LOWPOWER: LP_ALLOW, and no non-NULL cell sent for LP_IDLE_US nor waiting (R53). While a re-allotment
is under way it agrees to none: the spec does not say. DESIGN CHOICE, log entry 94. -/
def lpIdle (s : State) (n : Nat) : Bool :=
  let l := lGet s n
  linkState s n == lsUp && n != 4 && bit s ⟨R.LINK_CTRL n, 2, 1⟩
    && decide (l.lastCell + max 1 (getF s ⟨R.LINK_CTRL n, 8, 8⟩) * 250 ≤ s.ticks)
    && l.ctlOut.isEmpty && l.forming.isEmpty && l.splitStep == .idle

/-- An LP_REQ is queued where this end may agree and has not asked (R53). -/
def askLowpower (n : Nat) (s : State) : State :=
  if lpIdle s n && !(lGet s n).lpAsked then sendSb n 0x10 [] (lSet n { lGet s n with lpAsked := true } s) else s

/-- LP_IDLE_TIMER (R53): no non-NULL cell for LP_IDLE_US. DEDUCED, log entry 39. -/
def execLpIdleTimer (n : Port) (s : State) : Res := hub s (askLowpower n)

/-- LOWPOWER is entered. -/
def enterLowpower (n : Nat) (s : State) : State :=
  if linkState s n = lsUp then
    setLinkState n lsLowpower (bump (R.LINK_LP_ENTRIES n) (lSet n { lGet s n with lpAsked := false } s))
  else s

/-- LOWPOWER_EXIT (R53). -/
def execLowpowerExit (e : LpExit) (s : State) : Res := hub s (endLowpower e.port e.own)

/-- HOLD_EXPIRY (R70). -/
def execHoldExpiry (n : Port) (s : State) : Res := hub s (fun s => if holdRuns s n then holdExpires n s else s)

/-- RETRY_EXPIRY (R68). -/
def execRetryExpiry (n : Port) (s : State) : Res :=
  hub s (fun s => if (lGet s n).retrying then linkStart n (stopRetry n s) else s)

end Sys2Proof.Machine
end

