-- ==== Sys2Proof/Machine/Memory.lean ====
section
/-!
DEFINITION. The SDRAM controller: initialisation, regions, rate changes and background work (05_truss_switch_and_buffers.md
R124–R130).
-/
namespace Sys2Proof.Machine

abbrev fInitFail : Fld := ⟨R.MEM_STATUS, 1, 1⟩
abbrev fMemRate : Fld := ⟨R.MEM_STATUS, 2, 2⟩

abbrev fScrubBehind : Fld := ⟨R.MEM_STATUS, 5, 1⟩
abbrev fZqDeferred : Fld := ⟨R.MEM_STATUS, 6, 1⟩
abbrev fExtWipe : Fld := ⟨R.AO_STATUS, 8, 1⟩
abbrev fChanging : Fld := ⟨R.PM_STATUS, 4, 1⟩

def modMem (f : Mem → Mem) (s : State) : State := { s with mem := f s.mem }

/-- The SDRAM rate of a level, as a RATE code (Table 2-1). -/
def memRate (lvl : Nat) : Nat := min 2 lvl

/-- The code of a level (Table 16-1). -/
def levelCode (lvl : Nat) : Nat := 4 + 16 * lvl

/-- The code that the level in force, or the step of a change under way, asks for (Tables 16-1 and 16-2). -/
def levelVcode (s : State) : Nat :=
  levelCode (match s.pwr.level with
    | .raiseVolt | .raiseRim | .lowerVolt => getF s ⟨R.PM_STATUS, 2, 2⟩
    | .wipeRim | .wipeRestore => 3
    | _ => level s)

/-- `VCODE` takes the code that is due, the P3 code during an external wipe (R380); `VREADY` leaves its band for a moment where
that changes it (R361, R362). -/
def driveCode (s : State) : State :=
  let v := BitVec.ofNat 32 (if s.mem.wiping then 52 else levelVcode s)
  if reg s R.PM_VCODE = v then s else setF ⟨R.AO_STATUS, 5, 1⟩ 0 (setReg R.PM_VCODE v s)

/-! ### Initialisation (R124, R380) -/

/-- MEM_INIT: a write of 1 to `MEM.CTRL.INIT`, which applies `MEM.CFG`; an external wipe under way is broken off. -/
def memInit (s : State) : State :=
  let cfg := (reg s R.MEM_CFG).toNat
  let wiped := s.mem.wiping
  when wiped driveCode (setF fMemReady 0 (setF fInitFail 0
    (modMem (fun m => { m with initing := true, wiping := false, cfg := cfg }) s)))

/-- MEM_INIT (R124). DEDUCED, log entry 44. -/
def execMemInit (s : State) : Res := hub s memInit

/-- The SDRAM serves requests from now on. -/
def memReady (s : State) : State := setF fMemRate (memRate (rimLevel s)) (setF fMemReady 1 s)

/-- MEM_INIT_COMPLETE (R124): success, or INIT_FAIL and source 51; an unknown capacity or bin always fails. With
EXT_WIPE_PEND the external wipe comes before READY (R380). DEDUCED, log entry 44. -/
def execMemInitComplete (ok : Bool) (s : State) : Res :=
  hub s (fun s =>
    if s.mem.initing then
      let s := modMem (fun m => { m with initing := false }) s
      if !ok || bits s.mem.cfg 0 2 == 3 || bits s.mem.cfg 3 2 == 3 then
        raiseN 51 (bump R.MEM_INIT_FAILS (setF fInitFail 1 s))
      else if bit s fExtWipe then driveCode (setF fMemRate 2 (modMem (fun m => { m with wiping := true }) s))
      else memReady s
    else s)

/-- The rim clocks and with them the SDRAM change to those of `rimLevel` (Table 16-2). -/
def startRims (s : State) : State :=
  if bit s fMemReady && decide (getF s fMemRate ≠ memRate (rimLevel s)) then setF fRateChanging 1 s else s

/-- The SDRAM serves after a wipe, at 3200 MT/s and the P3 code. The return to a lower level in force is a lowering by Table 16-2:
CHANGING, the rate first, then the code; in a level change already under way its own steps bring it (R380).
DESIGN CHOICE, log entry 106. -/
def wipeReturn (s : State) : State :=
  let s := setF fMemReady 1 s
  if s.pwr.level != .idle then driveCode s
  else if level s = 3 then s
  else
    startRims (setF ⟨R.PM_STATUS, 2, 2⟩ (level s) (setF fChanging 1 { s with pwr := { s.pwr with level := .wipeRim } }))

/-- EXTERNAL_WIPE_DONE (R380): all installed SDRAM is zero, EXT_WIPE_PEND clears, and the return to the level in force begins. -/
def execExternalWipeDone (s : State) : Res :=
  hub s (fun s =>
    if s.mem.wiping then
      wipeReturn (setF fExtWipe 0 (modMem (fun m => { m with wiping := false, fi := [] }) { s with dram := [] }))
    else s)

/-- SDRAM_RATE_CHANGE (R125): the rate follows the rim clocks of the level, in a level change as Table 16-2 orders them. -/
def rateChange (s : State) : State :=
  if bit s fMemReady then
    let lvl := rimLevel s
    let s := if getF s fMemRate = memRate lvl then s else bump R.MEM_RATE_CHANGES (setF fMemRate (memRate lvl) s)
    gapOver s
  else gapOver s

/-- SDRAM_RATE_CHANGE (R125). -/
def execSdramRateChange (s : State) : Res := hub s rateChange

/-! ### Regions (R126) -/

/-- The capacity of a CAP code in units of 16 MiB; 0b11 names none. -/
def capOf : Nat → Nat
  | 0 => 64 | 1 => 128 | 2 => 256 | _ => 0

/-- The capacity in `MEM.CFG`, which the region commit checks against (R126). -/
def capacity (s : State) : Nat := capOf (getF s ⟨R.MEM_CFG, 0, 2⟩)

/-- The installed SDRAM, as the last INIT took it. -/
def installed (s : State) : Nat := capOf (bits s.mem.cfg 0 2)

/-- Base and size registers of the frame memory, overflow and scratch regions. -/
def regionKeys : List (Nat × Nat) :=
  [(R.MEM_FB_BASE, R.MEM_FB_SIZE), (R.MEM_OVF_BASE, R.MEM_OVF_SIZE), (R.MEM_SCR_BASE, R.MEM_SCR_SIZE)]

/-- Two regions of non-zero size overlap. -/
def regionsOverlap (a b : Nat × Nat) : Bool :=
  a.2 != 0 && b.2 != 0 && decide (a.1 < b.1 + b.2) && decide (b.1 < a.1 + a.2)

/-- The RESULT of a MEM commit (Table 5-10). -/
def memCheck (s : State) : Nat :=
  let rs := regionKeys.map (fun k => ((reg s k.1).toNat, (reg s k.2).toNat))
  let moved (k : Nat × Nat) : Bool := decide (reg s k.1 ≠ actReg s k.1) || decide (reg s k.2 ≠ actReg s k.2)
  let pair (i j : Nat) : Bool := regionsOverlap (rs.getD i (0, 0)) (rs.getD j (0, 0))
  let chunks : Nat := (s.loft.map (fun e => e.2.chunks.length)).sum
  if mode s = mStandby then 4
  else if rs.any (fun r => r.2 != 0 && decide (capacity s < r.1 + r.2)) || decide (16 < (rs.getD 1 (0, 0)).2) then 1
  else if pair 0 1 || pair 0 2 || pair 1 2 then 2
  else if (moved (R.MEM_OVF_BASE, R.MEM_OVF_SIZE) && decide (chunks ≠ 0))
      || (moved (R.MEM_FB_BASE, R.MEM_FB_SIZE) && dispOn s) then 3
  else 0

/-- The RWS registers of the MEM page. -/
def memKeys : List Nat := regionKeys.flatMap (fun k => [k.1, k.2])

/-- The staged regions take effect. -/
def memApply (s : State) : State :=
  let ch := changed s memKeys
  journalCommit 0x53 ch (setF (fDirty 0x53) 0 (commitResult 0x53 0 0 (commitRegs memKeys s)))

/-- MEM_COMMIT (R126). -/
def memCommit (s : State) : State :=
  let r := memCheck s
  if r ≠ 0 then commitResult 0x53 r 0 s else memApply s

/-- MEM_COMMIT (R126). -/
def execMemCommit (s : State) : Res := hub s memCommit

/-! ### Background work (R127, R129, R130) -/

/-- ECC_SECOND_INTERVAL (R127). -/
def execEccSecondInterval (s : State) : Res :=
  hub s (fun s =>
    let n := cnt64 s R.MEM_ECC_CORR
    let s' := modMem (fun m => { m with eccSeen := n }) s
    if getF s ⟨R.MEM_ECC_THRESH, 0, 16⟩ < n - s.mem.eccSeen then raiseN 48 s' else s')

/-- The scrub reads the line at address `a`: beats with one inverted check bit are corrected and written back (R127, R359). -/
def scrubLine (a : Nat) (s : State) : State :=
  let s := readBeats a 64 6 s
  modMem (fun m => { m with fi := m.fi.filter (fun e => !(decide (a / 8 ≤ e.1) && decide (e.1 < a / 8 + 8) && e.2 == 1)) }) s

/-- PATROL_SCRUB_SLOT (R129): the next line is read; `forced` says that the scrub is behind its pass and takes a slot.
SCRUB_BEHIND, of which the spec says only when it is set, clears at the first slot that is not forced.
DESIGN CHOICE, log entry 90. DEDUCED, log entry 44. -/
def execPatrolScrubSlot (forced : Bool) (ecc : DramEcc) (s : State) : Res :=
  hub s (fun s =>
    if bit s fMemReady && bit s ⟨R.MEM_CTRL, 1, 1⟩ then
      let s := scrubLine (reg s R.MEM_SCRUB_POS).toNat (modMem (fun m => { m with behind := forced }) (dramEcc ecc 6 s))
      let s := if forced then bump64 R.MEM_SCRUB_FORCED_SLOTS s else setF fScrubBehind 0 s
      let pos := (reg s R.MEM_SCRUB_POS).toNat + 64
      if installed s * 0x1000000 ≤ pos then bump R.MEM_SCRUB_PASSES (setReg R.MEM_SCRUB_POS 0 s)
      else setReg R.MEM_SCRUB_POS (BitVec.ofNat 32 pos) s
    else s)

/-- SCRUB_BEHIND_HOUR (R129): 1 h continuously behind. -/
def execScrubBehindHour (s : State) : Res :=
  hub s (fun s => if s.mem.behind then raiseN 50 (setF fScrubBehind 1 s) else s)

/-- REFRESH_DUE (R130): issued, or postponed under display urgency, at most 4 in a row. DEDUCED, log entry 44. -/
def execRefreshDue (urgent : Bool) (s : State) : Res :=
  hub s (fun s =>
    let s := setUrgent urgent s
    if bit s fUrgent && decide (s.mem.postponed < 4) then
      bump R.MEM_REF_POSTPONED (modMem (fun m => { m with postponed := m.postponed + 1 }) s)
    else modMem (fun m => { m with postponed := 0 }) s)

/-- ZQ_SHORT_DUE (R130): calibration runs, or is deferred while display urgency is raised. -/
def execZqShortDue (urgent : Bool) (s : State) : Res :=
  hub s (fun s =>
    let s := setUrgent urgent s
    if bit s fUrgent then setF fZqDeferred 1 (modMem (fun m => { m with zqDue := true }) s) else s)

/-- ZQ_FORCE_EXPIRY (R129): a calibration deferred for 8 ms is forced. -/
def execZqForceExpiry (s : State) : Res :=
  hub s (fun s =>
    if s.mem.zqDue then bump R.MEM_ZQ_FORCED (setF fZqDeferred 0 (modMem (fun m => { m with zqDue := false }) s)) else s)

end Sys2Proof.Machine
end

