-- ==== Sys2Proof/Machine/Modes.lean ====
section
/-!
DEFINITION. Operating modes and the island plan (01_architecture.md R20–R30, R457; R430, R453).
-/
namespace Sys2Proof.Machine

abbrev fHidCommitted : Fld := ⟨R.DEV_HID, 8, 1⟩
abbrev fWipeDone : Fld := ⟨R.RST_STATUS, 0, 1⟩
abbrev fMember : Fld := ⟨R.PAIR_STATUS, 0, 1⟩
abbrev fPaired : Fld := ⟨R.PAIR_STATUS, 1, 1⟩
abbrev fScarfHb : Fld := ⟨R.PAIR_STATUS, 4, 1⟩
abbrev fSbHb : Fld := ⟨R.PAIR_STATUS, 5, 1⟩
abbrev fFenceOut : Fld := ⟨R.PAIR_STATUS, 6, 1⟩
abbrev fFenceIn : Fld := ⟨R.PAIR_STATUS, 7, 1⟩
abbrev fPeerMode : Fld := ⟨R.PAIR_STATUS, 8, 3⟩
abbrev fSwapping : Fld := ⟨R.PAIR_STATUS, 11, 1⟩

def modModes (f : Modes → Modes) (s : State) : State := { s with modes := f s.modes }

/-! ### What every mode change does (R22) -/

/-- Outside ISLAND no tunnel is HALTED: each resumes where the mode forwards it (R27). That this holds however ISLAND ends, be it
by a relinquishing of the active role, a planned swap, a takeover or a sleep, is the model's choice, since the spec speaks of the
permitted return alone. DESIGN CHOICE, log entry 101. -/
def unhalt (s : State) : State :=
  let s' := forAll ((s.tun.filter (fun e => e.2.halted)).map Prod.fst) (fun i s =>
    let s := tSet i { tGet s i with halted := false } s
    if forwards s i then resume i s else s) s
  adaptersFollow s'

/-- CUR and PREV change together, TRANS_COUNT rises; links learn the role, Plumb its source, and a link held at AUTH may
pass to UP. DEDUCED, log entry 30. -/
def changeMode (m : Nat) (s : State) : State :=
  let was := mode s
  let s := setF fTransCount (getF s fTransCount + 1) (setF fPrev was (setF fCur m s))
  let s := if was = mIsland ∧ m ≠ mIsland then releasePicture s else s
  let s := if m ≠ mIsland ∧ s.tun.any (fun e => e.2.halted) then unhalt s else s
  let served := if m = mService then (List.range 64).filter (fun h => authed s (.mgmt (BitVec.ofNat 6 h))) else []
  let s := modModes (fun x => { x with wdogTick := s.ticks, armTick := s.ticks, served := served }) s
  forAll [0, 1, 2, 3, 4] authCheck (announceRole (journalMode s))

/-- The source of Plumb is chosen anew where the change of mode moves it (Table 1-10). -/
def changeModeAndTime (m : Nat) (s : State) : State :=
  let before := timeSrc s
  let s := changeMode m s
  if timeSrc s = before then s else timeSrcChanged s

/-! ### Island plan (R25–R29) -/

abbrev fArm : Fld := ⟨R.DEV_ISLAND_CTRL, 0, 1⟩

/-- The plan is armed, and the mode is one in which a cause may be declared. -/
def islandArmed (s : State) : Bool :=
  getA s fArm == 1 && (mode s == mSolo || mode s == mActive)

/-- Tunnels outside the keep set halt, and tunnels in it do not. -/
def haltByPlan (s : State) : State :=
  adaptersFollow (forAll (validEntries s) (fun i s =>
    let t := tGet s i
    if keepFlag s i then (if t.halted then resume i (tSet i { t with halted := false } s) else s)
    else haltTunnel i s) s)

/-- Plumb comes from the upstream that the plan names. -/
def timeFromUpstream (s : State) (u : Nat) : Bool :=
  match timeSrc s with
  | .link n => decide (u ≤ 3) && (holdGroup s u).contains n
  | _ => false

/-- A host request under way is overtaken (R30). -/
def preempt (s : State) : State :=
  match s.modes.req with
  | some _ => setF fReqResult 5 (setF fReqBusy 0 (modModes (fun x => { x with req := none }) s))
  | none => s

/-- ISLAND is entered for cause `c` of Table 1-6 (R26). -/
def enterIsland (c : Nat) (s : State) : State :=
  let u := getA s fUpstream
  let s := preempt s
  let s := modModes (fun x => { x with upstream := u }) s
  let s := setF fCauseClear 0 (setF fIslCause c s)
  let s := holdPicture (haltByPlan (changeMode mIsland s))
  islandFollow (if c = 1 && timeFromUpstream s u && getF s fTimeState != 3 then holdover s else s)

/-- An island cause is declared; without an armed plan, or in ISLAND, it changes nothing (R25, R28). -/
def declareIsland (c : Nat) (s : State) : State := if islandArmed s then enterIsland c s else s

/-- GRACE in ticks; 0 acts as 1 ms (Table 1-11). -/
def graceTicks (s : State) : Nat := max 1 (getA s ⟨R.DEV_ISLAND_CTRL, 8, 16⟩) * 250000

/-- Tick from which GRACE counts: that at which the upstream was lost, of a port pair its second port, or the arming instant
where that is later (R453, R457). -/
def graceStart (s : State) (u : Nat) : Nat :=
  let lost := if u ≤ 3 then ((holdGroup s u).map (fun n => (lGet s n).leftUp)).foldl max 0 else s.modes.pcieLeft
  max s.modes.armTick lost

/-- ISLAND_GRACE_EXPIRY (R25, R457): the upstream of the plan is lost, and has been so for GRACE.
DESIGN CHOICE, log entry 13. -/
def execIslandGraceExpiry (s : State) : Res :=
  hub s (fun s =>
    let u := getA s fUpstream
    if (u ≤ 3 ∨ u = 5) ∧ !upstreamThere s u ∧ graceStart s u + graceTicks s ≤ s.ticks then declareIsland 1 s else s)

/-- Watchdog period in ticks, 0 disabled. -/
def wdogTicks (s : State) : Nat := getA s ⟨R.DEV_ISLAND_WDOG, 0, 16⟩ * 250000

/-- HOST_WATCHDOG_EXPIRY (R25): a period has passed since the watchdog last started (R457).
DESIGN CHOICE, log entry 13. DEDUCED, log entry 30. -/
def execHostWatchdogExpiry (s : State) : Res :=
  hub s (fun s =>
    if wdogTicks s ≠ 0 ∧ s.modes.wdogTick + wdogTicks s ≤ s.ticks then declareIsland 2 s else s)

/-- A write of `DEV.HOST_KICK`: the watchdog starts afresh, and an ISLAND that it caused has lost its cause. -/
def hostKick (s : State) : State :=
  let s := modModes (fun x => { x with wdogTick := s.ticks }) s
  if mode s = mIsland ∧ getF s fIslCause = 2 then setF fCauseClear 1 s else s

/-- HOST_KICK (R457). -/
def execHostKick (s : State) : Res := hub s hostKick

/-- A source is no longer pending: an ISLAND that it caused has lost its cause (Table 1-6). -/
def islandFaultGone (src : Nat) (s : State) : State :=
  if mode s = mIsland ∧ getF s fIslCause = 3 ∧ s.modes.source = some src then setF fCauseClear 1 s else s

/-! ### DEV commit (R430) -/

/-- The RWS registers of the DEV page. -/
def devKeys : List Nat :=
  [R.DEV_HID, R.DEV_ISLAND_CTRL, R.DEV_ISLAND_WDOG] ++ (List.range 8).map R.DEV_ISLAND_KEEP

/-- RESULT of `COMMIT_STATUS` of the DEV page. -/
abbrev fDevResult : Fld := ⟨0x00024, 1, 2⟩

/-- The staged hub ID, island plan and keep set take effect. -/
def devApply (s : State) : State :=
    let ch := changed s devKeys
    let u := getF s fUpstream
    let wasArmed := getA s fArm
    let newWdog := decide (reg s R.DEV_ISLAND_WDOG ≠ actReg s R.DEV_ISLAND_WDOG)
    let s := if 3 < u ∧ u ≠ 5 then setF fArm 0 s else s
    let s := setF (fDirty 0) 0 (setF fDevResult 0 (commitRegs devKeys (setF fHidCommitted 1 s)))
    let s := journalCommit 0 ch s
    let armed := wasArmed = 0 && getA s fArm == 1
    let s := if newWdog || armed then modModes (fun x => { x with wdogTick := s.ticks }) s else s
    let s := if armed then modModes (fun x => { x with armTick := s.ticks }) s else s
    if mode s = mIsland then haltByPlan s else s

/-- DEV_COMMIT (R430). -/
def devCommit (s : State) : State :=
  let hid (k : State → Nat → Word) : Nat := bits (k s R.DEV_HID).toNat 0 6
  if mode s = mStandby then setF fDevResult 1 s
  else if hid reg ≠ hid actReg ∧ mode s ≠ mCold then setF fDevResult 2 s
  else devApply s

/-- DEV_COMMIT (R430). -/
def execDevCommit (s : State) : Res := hub s devCommit

/-! ### Requests (R21–R24) -/

/-- The transitions that a host may request (Table 1-8). -/
def requestable (s : State) (t : Nat) : Bool :=
  let m := mode s
  if t = m then false
  else if t = mService then true
  else if m = mCold then t == mSolo || t == mActive || t == mStandby
  else if m = mIsland then t == getF s fPrev
  else false

/-- A write of `DEV.MODE_REQ`. DEDUCED, log entry 29. -/
def modeRequest (p : Path) (t : Nat) (s : State) : State :=
  if bit s fReqBusy || bit s fSwapping || bit s ⟨R.SEC_LC_STATUS, 0, 1⟩ then setF fReqResult 1 s
  else if requestable s t then setF fReqBusy 1 (modModes (fun x => { x with req := some ⟨t, p⟩ }) s)
  else setF fReqResult 2 s

/-- MODE_REQUEST (R21). -/
def execModeRequest (p : Path) (target : BitVec 3) (s : State) : Res := hub s (modeRequest p target.toNat)

/-- The peer's heartbeat advertises the active role. -/
def peerActive (s : State) : Bool := getF s fPeerMode == mActive || getF s fPeerMode == mIsland

/-- The conditions of leaving COLD for SOLO or a pair mode (Table 1-8, R297, R298). -/
def leaveColdOk (s : State) (t : Nat) : Bool :=
  bit s fHidCommitted
    && decide (admissionSum s 14 (actReg s) ≤ admissionLimit (checkLevel s))
    && (t == mSolo || bit s fPaired)
    && (t != mActive || (!peerActive s && decide ((reg s R.PAIR_EPOCH).toNat < 2 ^ 32 - 1)))
    && (t != mStandby || (peerActive s && s.pair.peerHid == some (getA s ⟨R.DEV_HID, 0, 6⟩)
          && ((linkState s 4 == lsAuth && (lGet s 4).authOk) || linkState s 4 == lsUp)))

/-- SERVICE entry by life-cycle state (Table 1-9). -/
def serviceOk (s : State) (p : Path) : Bool :=
  if lc s = lcProvision ∨ lc s = lcField then authed s p else decide (lc s ≠ lcEnd)

/-- Own epoch on the PAIR page and on every link page (R298, R57). -/
def setEpoch (e : Nat) (s : State) : State :=
  forAll [0, 1, 2, 3, 4] (fun n s => setReg (R.LINK_OWN_EPOCH n) (BitVec.ofNat 32 e) s)
    (setReg R.PAIR_EPOCH (BitVec.ofNat 32 e) s)

/-- A source is raised anew: an ISLAND that it caused has its cause again (Table 1-6). -/
def islandFaultBack (src : Nat) (s : State) : State :=
  if mode s = mIsland ∧ getF s fIslCause = 3 ∧ s.modes.source = some src then setF fCauseClear 0 s else s

/-- Everything that SERVICE ends: tunnels, the part in a pair (R303), and links with reason 0xC; a link whose lanes run a test stays DOWN
(R75). -/
def enterService (s : State) : State :=
  let s := setF fSync 0 { s with pair := { s.pair with groupOpen := false, groupEnd := none, group := [], resyncDue := false } }
  let s := (teardownAll (validEntries s) s).2
  let s := forAll [0, 1, 2, 3, 4] (fun n s => linkDown n 0xC s) (changeModeAndTime mService s)
  forAll [0, 1, 2, 3, 4] (fun n s => when (testRuns s n) (lSet n { lGet s n with testHold := true }) s) s

/-- Every request out of COLD fails: while the wipe runs, or a HALT holds the chip (R379, R349). -/
def heldInCold (s : State) : Bool := !bit s fWipeDone || bit s ⟨R.FLT_HALT_CAUSE, 15, 1⟩

/-- What stands behind a request at its commit point: 0 for success, or the result code. -/
def requestCheck (s : State) (r : ModeReq) : Nat :=
  if !requestable s r.target then 2
  else if mode s = mCold ∧ lc s = lcEnd then 4
  else if mode s = mCold ∧ heldInCold s then 3
  else if r.target = mService then (if serviceOk s r.path then 0 else 4)
  else if mode s = mCold then (if leaveColdOk s r.target then 0 else 3)
  else if bit s fCauseClear then 0 else 3

/-- PAIR-STANDBY is entered: its resynchronisation is due (R305), its outputs are idle (R322), its physical PCIe upstream and
its USB pull-up go (R219, R240). -/
def becomeStandby (s : State) : State :=
  let s := outputsFollow (changeModeAndTime mStandby s)
  let s := { s with pair := { s.pair with resyncDue := true, groupOpen := false, groupEnd := none, group := [], ring := [] } }
  pcieDown 0 (setF fJfill 0 (setF ⟨R.USB3_STATUS, 0, 4⟩ plsDisabled
    (setF ⟨R.USB2_STATUS, 0, 5⟩ 0 { s with usb := { s.usb with pullup := false, rxDetect := false } })))

/-- MODE_TRANSITION_COMPLETE (R22): the request reaches its commit point and is checked there. -/
def modeComplete (s : State) : State :=
  match s.modes.req with
  | none => s
  | some r =>
    let code := requestCheck s r
    let s := setF fReqResult code (setF fReqBusy 0 (modModes (fun x => { x with req := none }) s))
    if code ≠ 0 then
      let exhausted := mode s = mCold ∧ r.target = mActive ∧ (reg s R.PAIR_EPOCH).toNat = 2 ^ 32 - 1
      if exhausted then raise 110 3 s else s
    else if r.target = mService then enterService s
    else if mode s = mCold then
      if r.target = mActive then changeModeAndTime mActive (setEpoch ((reg s R.PAIR_EPOCH).toNat + 1) s)
      else if r.target = mStandby then becomeStandby s
      else changeModeAndTime mSolo s
    else changeModeAndTime r.target s

/-- MODE_TRANSITION_COMPLETE (R22). DEDUCED, log entry 29. -/
def execModeTransitionComplete (s : State) : Res := hub s modeComplete

end Sys2Proof.Machine
end

