-- ==== Sys2Proof/Machine/Security.lean ====
section
/-!
DEFINITION. Life-cycle requests, path authentication, the device's own proof, sealing, key slots and update messages
(17_lifecycle_and_keys.md R383–R402, Tables 17-2, 17-6, 17-8, 17-10, 17-12, 17-13). A command arrives by a path; the words of
write-only buffers come from `State.buf`.
-/
namespace Sys2Proof.Machine

abbrev fLcBusy : Fld := ⟨R.SEC_LC_STATUS, 0, 1⟩
abbrev fLcResult : Fld := ⟨R.SEC_LC_STATUS, 1, 3⟩
abbrev fReleaseOk : Fld := ⟨R.SEC_LC_STATUS, 4, 1⟩
abbrev fUnlockOk : Fld := ⟨R.SEC_LC_STATUS, 5, 1⟩
abbrev fSecResult : Fld := ⟨R.SEC_CMD_STATUS, 1, 3⟩
abbrev fKeyResult : Fld := ⟨R.KEY_CMD_STATUS, 1, 3⟩

/-! ### Write-only buffers -/

/-- The word a write-only buffer register holds. -/
def bufWord (s : State) (k : Nat) : Word := smGet (fun _ => 0) s.buf k

/-- A write of a write-only buffer register. -/
def bufSet (k : Nat) (v : Word) (s : State) : State := { s with buf := smSet (fun _ => 0) s.buf k v }

/-- The bytes of `n` buffer words, byte 0 of each in [31:24]. DEDUCED, log entry 77. -/
def bufBytes (s : State) (base n : Nat) : List Byte :=
  ((List.range n).map (fun i => bytesBE 4 (bufWord s (base + i * 4)).toNat)).flatten

/-- Buffer words are zeroed. -/
def bufClear (base n : Nat) (s : State) : State := forAll (List.range n) (fun i => bufSet (base + i * 4) 0) s

/-! ### Life-cycle requests (R383, R384) -/

/-- The transitions of Table 17-2. -/
def lcPermitted (now target : Nat) : Bool :=
  (decide (now < 4) && target == now + 1) || (decide (now < 5) && target == 5)

/-- The RESULT of a life-cycle request, in the order of R383. DEDUCED, log entry 20. -/
def lcCheck (s : State) (p : Path) (target confirm : Nat) : Nat :=
  let now := lc s
  if bit s fLcBusy then 5
  else if !privileged s p then 3
  else if confirm ≠ 0x3C then 4
  else if !lcPermitted now target then 1
  else if now = lcProvision ∧ target = lcField ∧ ¬ bit s fCpsSealed then 2
  else if now = lcField ∧ target = lcReturn ∧ ¬ (bit s fReleaseOk ∧ bit s fUnlockOk) then 2
  else if target = lcEnd ∧ 2 ≤ now ∧ ¬ authed s p then 3
  else 0

/-- A write of `SEC.LC_REQ`: an accepted request sets BUSY and begins to program the target's state word (Table 17-3). -/
def lcRequest (p : Path) (v : Nat) (s : State) : State :=
  let target := bits v 0 3
  let r := lcCheck s p target (bits v 8 8)
  let s := setF fLcResult r s
  if r = 0 then setF fLcBusy 1 { s with fuse := { s.fuse with begun := some target } } else s

/-- LC_REQUEST (R383). -/
def execLcRequest (p : Path) (target : BitVec 3) (confirm : Byte) (s : State) : Res :=
  hub s (lcRequest p (target.toNat + confirm.toNat * 256))

/-! ### Authenticating a path (R391–R393) -/

/-- The key of Table 17-1 for the state; without a root, path authentication fails (R387). -/
def authKey (s : State) : Option (List Byte) :=
  if lc s = lcProvision then cpsDerived s "DBG"
  else if lc s = lcField then (if bit s fRootOk then engineKey s 5 else none)
  else if lc s = lcReturn then (rootKey s).map (fun r => derive r "RMA")
  else none

/-- K_UNL, in FIELD only. -/
def unlockKey (s : State) : Option (List Byte) :=
  if lc s = lcField ∧ bit s fRootOk then some (derive secretBytes "UNLOCK") else none

/-- The formula of R391. -/
def crFormula (s : State) (key chal : List Byte) : List Byte :=
  (hmac key (chal ++ idBytes ++ bytesBE 2 (getF s fFloor))).take 16

/-- A challenge or response during a lockout (R392). -/
def lockedOut (p : Path) (s : State) : State := raise 117 (pathNum p) (bump R.SEC_AUTH_FAIL s)

/-- A fresh challenge for the path; bit 7 of its byte 0 is 1. DESIGN CHOICE, log entry 78. -/
def newChallenge (unlock : Bool) (p : Path) (s : State) : State :=
  if (apGet s p).lockout then lockedOut p s
  else if unlock ∧ ¬ bit s fReleaseOk then s
  else
    let c := bytesBE 16 (free s ||| (1#128 <<< 127)).toNat
    apSet p { apGet s p with chal := some c, unlock := unlock } (nextFree s)

/-- Ends the path's authentication. -/
def deauth (p : Path) (s : State) : State := apSet p { apGet s p with authed := false } s

/-- AUTH_NEW_CHALLENGE (R391). -/
def execAuthNewChallenge (p : Path) (s : State) : Res := hub s (newChallenge false p)

/-- AUTH_UNLOCK_CHALLENGE (R385). -/
def execAuthUnlockChallenge (p : Path) (s : State) : Res := hub s (newChallenge true p)

/-- AUTH_DEAUTH (R393). -/
def execAuthDeauth (p : Path) (s : State) : Res := hub s (deauth p)

/-- A write of `AUTH_CMD`. -/
def authCmd (p : Path) (v : Nat) (s : State) : State :=
  let s := when (bits v 1 1 == 1) (deauth p) s
  let s := when (bits v 0 1 == 1) (newChallenge false p) s
  when (bits v 2 1 == 1) (newChallenge true p) s

/-- The response of a path is there: a match authenticates it, or sets UNLOCK_OK; the third failure in a row locks it
out (R391, R392). -/
def authResponse (p : Path) (s : State) : State :=
  let a := apGet s p
  if a.lockout then lockedOut p s
  else
    let resp := ((List.range 4).map (fun i => bytesBE 4 (smGet (fun _ => (0 : Word)) a.resp i).toNat)).flatten
    let key := if a.unlock then unlockKey s else authKey s
    let ok := match a.chal, key with | some c, some k => resp == crFormula s k c | _, _ => false
    let unlock := a.chal.isSome && a.unlock
    let a := { a with chal := none, resp := [], unlock := false }
    if ok then
      let s := bump R.SEC_AUTH_OK s
      if unlock then
        let s := apSet p { a with fails := 0 } s
        if bit s fReleaseOk then setF fUnlockOk 1 s else s
      else apSet p { a with authed := true, fails := 0 } s
    else
      let fails := a.fails + 1
      let lock := decide (3 ≤ fails)
      let s := apSet p { a with fails := fails, lockout := lock, lockTick := s.ticks } s
      raise 112 (pathNum p + (if unlock then 16 else 0) + (if lock then 256 else 0)) (bump R.SEC_AUTH_FAIL s)

/-- The word a path writes to AUTH_RESP<i>; the last one starts the check. -/
def authRespWrite (p : Path) (i : Nat) (v : Word) (s : State) : State :=
  let a := apGet s p
  let s := apSet p { a with resp := smSet (fun _ => (0 : Word)) a.resp i v } s
  if i = 3 then authResponse p s else s

/-- AUTH_RESPONSE (R391): the path writes its response, AUTH_RESP3 last. -/
def execAuthResponse (p : Path) (resp : Vector Word 4) (s : State) : Res :=
  hub s (fun s => forAll (List.range 4) (fun i => authRespWrite p i (resp.toList.getD i 0)) s)

/-- AUTH_CHALLENGE_EXPIRY (R391): 10 s after its issue. DESIGN CHOICE, log entry 79. -/
def execAuthChallengeExpiry (p : Path) (s : State) : Res :=
  hub s (fun s => apSet p { apGet s p with chal := none, unlock := false } s)

/-- AUTH_LOCKOUT_END (R392). DESIGN CHOICE, log entry 79. -/
def execAuthLockoutEnd (p : Path) (s : State) : Res :=
  hub s (fun s => if (apGet s p).lockout then apSet p { apGet s p with lockout := false, fails := 0 } s else s)

/-- RELEASE_OK_EXPIRY (R385): 60 s after the release. -/
def execReleaseOkExpiry (s : State) : Res := hub s (fun s => setF fUnlockOk 0 (setF fReleaseOk 0 s))

/-! ### The device's own proof and the CPS (R394, R389) -/

/-- The result words of R394. -/
def crRespSet (r : List Byte) (s : State) : State :=
  forAll (List.range 4) (fun i => setReg (R.SEC_CR_RESP i) (BitVec.ofNat 32 (ofBE (sub r (4 * i) 4)))) s

/-- The write of CR_CHAL3: REFLECT, NOKEY, or the response. -/
def crChallenge (s : State) : State :=
  let c := bufBytes s (R.SEC_CR_CHAL 0) 4
  if 128 ≤ byteAt c 0 then setF fSecResult 4 s
  else
    match engineKey s 5 with
    | none => setF fSecResult 5 (crRespSet [] s)
    | some k => setF fSecResult 0 (bump R.SEC_CR_RESPONSES (crRespSet (crFormula s k c) s))

/-- CR_CHALLENGE (R394): the four challenge words, CR_CHAL3 last. -/
def execCrChallenge (chal : Vector Word 4) (s : State) : Res :=
  hub s (fun s => crChallenge (forAll (List.range 4) (fun i => bufSet (R.SEC_CR_CHAL i) (chal.toList.getD i 0)) s))

/-- `SEC.CMD.SEAL_CPS` (R389). DEDUCED, log entries 20, 77. -/
def sealCps (p : Path) (s : State) : State :=
  if !privileged s p then setF fSecResult 3 s
  else if lc s ≠ lcProvision then setF fSecResult 1 s
  else if bit s fCpsSealed then setF fSecResult 2 s
  else
    match rootKey s with
    | none => setF fSecResult 5 s
    | some root =>
      let w := kwWrap (derive root "SEAL") (bufBytes s (R.SEC_CPS 0) 8)
      let s := bufClear (R.SEC_CPS 0) 8 { s with fuse := { s.fuse with cps := some w } }
      setF fSecResult 0 (setF fCpsSealed 1 s)

/-- SEAL_CPS (R389). -/
def execSealCps (p : Path) (s : State) : Res := hub s (sealCps p)

/-! ### Key commands (R397, R398) -/

/-- A slot's attributes are acceptable: no reserved DEST and some life-cycle state. -/
def attrOk (dest mask : Nat) : Bool := decide (dest < 8) && mask % 64 != 0

/-- `KEY.CMD` LOAD_CLR. -/
def keyLoadClr (slot : Nat) (s : State) : State :=
  let dest := getF s ⟨R.KEY_CLR_ATTR0, 0, 4⟩
  let mask := getF s ⟨R.KEY_CLR_ATTR0, 8, 6⟩
  if slot < 28 then setF fKeyResult 2 s
  else if dest = 6 ∨ dest = 7 ∨ !attrOk dest mask then setF fKeyResult 3 s
  else
    let v : Slot := { valid := true, key := bufBytes s (R.KEY_CLR_DATA 0) 8, dest := dest, lcMask := mask,
                      master := getF s ⟨R.KEY_CLR_ATTR1, 0, 16⟩, world := getF s ⟨R.KEY_CLR_ATTR1, 16, 16⟩ }
    setF fKeyResult 0 (bump R.KEY_CLR_LOADS (bufClear (R.KEY_CLR_DATA 0) 8 (setSlot slot v s)))

/-- `KEY.CMD` ERASE. -/
def keyErase (slot : Nat) (s : State) : State :=
  setF fKeyResult 0 (bump R.KEY_ERASES (setSlot slot {} s))

/-! ### The update message (R399–R402) -/

/-- The key an engine uses to check or unwrap: its slot's, else the derived one (R396). -/
def engineOr (s : State) (e : Nat) (label : String) : List Byte :=
  ((engineKey s e).or (cpsDerived s label)).getD []

/-- All bytes of a list are zero. -/
def allZero (l : List Byte) : Bool := l.all (· == 0)

/-- The format of Table 17-7. -/
def msgFormatOk (m : List Byte) : Bool :=
  byteAt m 0 == 0x5D && byteAt m 1 == 0x76 && byteAt m 2 == 1 && (byteAt m 3 == 1 || byteAt m 3 == 2)
    && byteAt m 15 == 0 && byteAt m 17 == 0 && byteAt m 19 == 0 && allZero (sub m 64 32)
    && (byteAt m 3 == 1 || (byteAt m 14 == 0 && allZero (sub m 24 40)))

/-- The checks of Table 17-8 in their order: the RESULT, and the unwrapped key where an INSTALL passes. -/
def msgCheck (s : State) (m : List Byte) : Nat × List Byte :=
  let install := byteAt m 3 == 1
  let c := ofBE (sub m 12 2)
  if bit s fLcBusy then (1, [])
  else if (lc s ≠ lcProvision ∧ lc s ≠ lcField) ∨ (byteAt m 3 = 2 ∧ lc s ≠ lcField) then (2, [])
  else if ¬ bit s fRootOk ∨ ¬ bit s fCpsSealed then (3, [])
  else if !msgFormatOk m then (4, [])
  else if sub m 4 8 ≠ idBytes then (5, [])
  else if sub m 96 32 ≠ hmac (engineOr s 6 "UV") (m.take 96) then (6, [])
  else if c < getF s fFloor then (7, [])
  else if 256 < c then (8, [])
  else if 27 < byteAt m 14 ∨ !attrOk (byteAt m 16) (byteAt m 18) then (9, [])
  else if install then
    match kwUnwrap (engineOr s 7 "KEK") (sub m 24 40) with
    | some k => (0, k)
    | none => (0xA, [])
  else (0, [])

/-- The floor rises to `c` (R401). -/
def floorTo (c : Nat) (s : State) : State :=
  let s := setF fFloor c { s with fuse := { s.fuse with floor := c } }
  if c = 256 then raise 114 0 s else s

/-- `KEY.CMD` SUBMIT (R400): the message in KEY.MSG0–31. DEDUCED, log entry 77. -/
def keySubmit (s : State) : State :=
  let m := bufBytes s (R.KEY_MSG 0) 32
  let (r, key) := msgCheck s m
  let slot := byteAt m 14 % 32
  let c := ofBE (sub m 12 2)
  let s := bufClear (R.KEY_MSG 0) 32 s
  let s := setReg R.KEY_MSG_STATUS (BitVec.ofNat 32 (r * 2 + slot * 256)) s
  if r ≠ 0 then
    let s := raise 113 (r + slot * 256) (bump R.KEY_UPDATES_REFUSED s)
    if r = 8 then raise 114 0 s else s
  else
    let s := bump R.KEY_UPDATES_OK s
    let s := if getF s fFloor < c then setF ⟨R.KEY_MSG_STATUS, 16, 1⟩ 1 (bump R.KEY_ADVANCES (floorTo c s)) else s
    if byteAt m 3 = 1 then
      setSlot slot { valid := true, key := key, dest := byteAt m 16, lcMask := byteAt m 18 % 64,
                     master := ofBE (sub m 20 2), world := ofBE (sub m 22 2) } s
    else setF fReleaseOk 1 s

/-- A write of `KEY.CMD` by a path (R398): PRIV, then STATE; while a transition runs only BUSY shows (Table 17-3).
DEDUCED, log entries 20, 77. -/
def keyCmd (p : Path) (op slot : Nat) (s : State) : State :=
  if op = 0 ∨ 3 < op then s
  else if !privileged s p then setF fKeyResult 1 s
  else if lc s = lcEnd then setF fKeyResult 4 s
  else if op = 1 then setF fKeyResult 0 (keySubmit s)
  else if bit s fLcBusy then setF ⟨R.KEY_CMD_STATUS, 0, 1⟩ 1 s
  else if op = 2 then keyLoadClr slot s
  else keyErase slot s

/-- KEY_SUBMIT (R400). -/
def execKeySubmit (p : Path) (s : State) : Res := hub s (keyCmd p 1 0)

/-- KEY_LOAD_CLR (R398). -/
def execKeyLoadClr (p : Path) (slot : BitVec 5) (s : State) : Res := hub s (keyCmd p 2 slot.toNat)

/-- KEY_ERASE (R398). -/
def execKeyErase (p : Path) (slot : BitVec 5) (s : State) : Res := hub s (keyCmd p 3 slot.toNat)

/-- A write of `KEY.ENG<e>` (R397): with AUTO 0 the named slot must permit the path and the world. -/
def keyEng (p : Path) (e : Nat) (v : Word) (s : State) : State :=
  let w := slotOf s (bits v.toNat 0 5)
  let ok := v.toNat.testBit 8 || (w.master.testBit (pathNum p) && w.world.testBit (getF s ⟨R.KEY_WORLD, 0, 4⟩))
  if ok then setReg (R.KEY_ENG e) (v &&& 0x11F) s else bump R.KEY_ENG_REFUSED s

/-- KEY_ENGINE_SELECT (R397). -/
def execKeyEngineSelect (p : Path) (e : Fin 8) (v : Word) (s : State) : Res := hub s (keyEng p e v)

end Sys2Proof.Machine
end

