-- ==== Sys2Proof/Machine/Usb.lean ====
section
/-!
DEFINITION. The USB hubs, the remote transaction translators and remote wake (10_usb_hub_and_device.md R236–R250, R256).
-/
namespace Sys2Proof.Machine

/-! ### Ports -/

/-- STATE of local port `p` (1–7, Table 10-4). -/
abbrev fPort (p : Nat) : Fld := ⟨R.USB2_PORT_STATUS (p - 1), 0, 3⟩
abbrev fPortLs (p : Nat) : Fld := ⟨R.USB2_PORT_STATUS (p - 1), 3, 1⟩
abbrev fPortHs (p : Nat) : Fld := ⟨R.USB2_PORT_STATUS (p - 1), 4, 1⟩
abbrev fPortChirp (p : Nat) : Fld := ⟨R.USB2_PORT_STATUS (p - 1), 5, 1⟩
abbrev fPortOc (p : Nat) : Fld := ⟨R.USB2_PORT_STATUS (p - 1), 6, 1⟩
abbrev fPortMode (p : Nat) : Fld := ⟨R.USB2_PORT_CTRL (p - 1), 0, 2⟩
/-- STATE and BOUND of translated port `k`. -/
abbrev fTp (k : Nat) : Fld := ⟨R.USB2_TP_STATUS k, 0, 3⟩
abbrev fBound (k : Nat) : Fld := ⟨R.USB2_TP_STATUS k, 7, 1⟩

abbrev psOff : Nat := 0
abbrev psDisconnected : Nat := 1
abbrev psDisabled : Nat := 2
abbrev psResetting : Nat := 3
abbrev psEnabled : Nat := 4
abbrev psSuspended : Nat := 5
abbrev psL1 : Nat := 6

/-- Change bits of the USB 2.0 hub's ports, numbered as wPortChange: 0 connection, 1 enable, 2 suspend, 3 over-current,
4 reset. -/
def change2 (p b : Nat) (s : State) : State :=
  { s with usb := { s.usb with change := natSet s.usb.change p (putBits (natGet s.usb.change p) b 1 1) } }

/-- Port power of DS5–DS7, which drives `USB_DS<p>_PWR_EN` (R238). -/
def setPower (p : Nat) (on : Bool) (s : State) : State :=
  { s with usb := { s.usb with power := smSet (fun _ => false) s.usb.power p on } }

/-- PORT_POWER of a USB 2.0 port (R238): on DS1–DS4 whether the cable port's VBUS switch is closed, on DS5–DS7 what the hub
drives, else always on. -/
def portPowered (s : State) (p : Nat) : Bool :=
  if 1 ≤ p ∧ p ≤ 4 then bit s ⟨R.TC_STATUS (p - 1), 9, 1⟩
  else if 5 ≤ p ∧ p ≤ 7 then smGet (fun _ => false) s.usb.power p else true

/-- PORT_OVER_CURRENT (R238): on DS1–DS4 while the cable port holds after its fuse, on DS5–DS7 as OC_N has it. -/
def portOc (s : State) (p : Nat) : Bool :=
  if 1 ≤ p ∧ p ≤ 4 then getF s ⟨R.TC_STATUS (p - 1), 0, 3⟩ == 5
  else decide (5 ≤ p) && decide (p ≤ 7) && bit s (fPortOc p)

/-- Port 8, to which the device function is connected (R237), changes state. -/
def setPort8 (st : Nat) (s : State) : State := { s with usb := { s.usb with port8 := st } }

/-- Port 8 follows `USB2.CTRL.EN`, DEVFN_EN and `USBD.CTRL.EN` (Table 10-14). PRESUMED, log entry 57. -/
def port8Follow (s : State) : State :=
  let device := bit s ⟨R.USB2_CTRL, 4, 1⟩ && bit s ⟨R.USBD_CTRL, 0, 1⟩
  if !bit s ⟨R.USB2_CTRL, 0, 1⟩ then setPort8 psOff s
  else if device && decide (s.usb.port8 < 2) then change2 8 0 (setPort8 psDisabled s)
  else if !device && decide (2 ≤ s.usb.port8) then change2 8 0 (setPort8 psDisconnected s)
  else if device then s else setPort8 psDisconnected s

/-- wPortStatus of a state (USB 2.0 table 11-21). -/
def wPortStatus (st : Nat) (ls hs oc power : Bool) : Nat :=
  let b (x : Bool) (n : Nat) : Nat := if x then 2 ^ n else 0
  b (decide (2 ≤ st)) 0 + b (decide (4 ≤ st)) 1 + b (st == psSuspended) 2 + b oc 3 + b (st == psResetting) 4 + b (st == psL1) 5
    + b power 8 + b ls 9 + b hs 10

/-- The TP state that a wPortStatus reports. -/
def stateOfStatus (w : Nat) : Nat :=
  if !w.testBit 0 then psDisconnected else if w.testBit 4 then psResetting else if w.testBit 2 then psSuspended
  else if w.testBit 1 then psEnabled else psDisabled

/-! ### Enabling and the upstream side (R239, R240) -/

abbrev fEn2 : Fld := ⟨R.USB2_CTRL, 0, 1⟩
abbrev fEn3 : Fld := ⟨R.USB3_CTRL, 0, 1⟩
abbrev fUp2 : Fld := ⟨R.USB2_CTRL, 1, 3⟩
abbrev fUp3 : Fld := ⟨R.USB3_CTRL, 1, 3⟩

/-- A combination that R239 refuses. -/
def upBad (u2 u3 : Nat) : Bool :=
  u2 == 6 || u3 == 6 || (decide (u3 ≤ 4) && u3 != u2) || (u3 == 5 && u2 != 7 && u2 != 5)

/-- Local port `n` loses its power, and with it the SuperSpeed port that shares it. -/
def cutPower (n : Nat) (s : State) : State :=
  let s := setF (fPort n) psOff (setPower n false s)
  if n ≤ 6 then setF (fPls3 n) plsDisabled (setF (fConn3 n) 0 s) else s

/-- The ports of the USB 2.0 hub with it enabled: DS1–DS7 by their mode, power on DS5–DS7 and on the SuperSpeed ports that share it. -/
def portsOn (s : State) : State :=
  let s := forAll [5, 6, 7] (fun p => setPower p true) s
  let s := forAll [5, 6] (fun p s => if getF s (fPls3 p) = plsDisabled then setF (fPls3 p) plsRxDetect s else s) s
  port8Follow (forAll [1, 2, 3, 4, 5, 6, 7] (fun p s =>
    setF (fPort p) (if getF s (fPortMode p) = 1 ∨ getF s (fPortMode p) = 2 then psDisconnected else psOff) s)
    (forAll (List.range 8) (fun k => setF (fTp k) psDisconnected) s))

/-- The USB 2.0 hub is disabled: its ports lose power, its pull-up goes. -/
def portsOff (s : State) : State :=
  let s := forAll [1, 2, 3, 4] (fun p => setF (fPort p) psOff) (forAll [5, 6, 7] cutPower s)
  port8Follow (setF ⟨R.USB2_STATUS, 0, 5⟩ 0 { s with usb := { s.usb with pullup := false } })

/-- The USB 3.2 hub is disabled: its virtual ports go, and its receiver detection upstream ends. -/
def hub3Off (s : State) : State :=
  upVirtual (forAll [0, 1, 2, 3] (fun v s => if bit s (fVirtual3 (v + 1)) then vportDown v s else s)
    (setF ⟨R.USB3_STATUS, 0, 4⟩ plsDisabled { s with usb := { s.usb with rxDetect := false } }))

/-- Cable port `n` is in USB fallback as UFP (Table 10-3): attached, its mux at USB, its data role not DFP. -/
def usbUfp (s : State) (n : Nat) : Bool :=
  let r := R.TC_STATUS n
  (getF s ⟨r, 0, 3⟩ == 2 || getF s ⟨r, 0, 3⟩ == 3) && getF s ⟨r, 12, 3⟩ == 1 && !bit s ⟨r, 5, 1⟩

/-- The physical upstream that a UP_SRC names is there to serve (Table 10-3). -/
def upServes (s : State) (src : Nat) : Bool := src == 0 || (decide (src ≤ 4) && usbUfp s (src - 1))

/-- A write of `USB2.CTRL` or `USB3.CTRL`: EN from 0 to 1 checks the combination and puts UP_SRC in effect. -/
def usbCtrlSet (usb3 : Bool) (v : Word) (s : State) : State :=
  let k := if usb3 then R.USB3_CTRL else R.USB2_CTRL
  let was := bit s ⟨k, 0, 1⟩
  let mask := if usb3 then 0x1F else 0x3F
  let s := setReg k (BitVec.ofNat 32 ((reg s k).toNat / (mask + 1) * (mask + 1) + v.toNat % (mask + 1))) s
  let en := bit s ⟨k, 0, 1⟩
  if en && !was then
    if upBad (getF s fUp2) (getF s fUp3) then
      let other := bit s (if usb3 then fEn2 else fEn3)
      let s := setF ⟨R.USB2_CTRL, 6, 1⟩ 1 (setF ⟨R.USB3_CTRL, 5, 1⟩ 1 (setF fEn2 0 (setF fEn3 0 s)))
      when other (if usb3 then portsOff else hub3Off) s
    else
      let s := setF ⟨R.USB2_CTRL, 6, 1⟩ 0 (setF ⟨R.USB3_CTRL, 5, 1⟩ 0 s)
      if usb3 then adaptersFollow (setF ⟨R.USB3_STATUS, 0, 4⟩ plsDisabled { s with usb := { s.usb with up3 := getF s fUp3 } })
      else portsOn { s with usb := { s.usb with up2 := if getF s fUp2 = 5 then 7 else getF s fUp2 } }
  else if was && !en then (if usb3 then hub3Off s else portsOff s)
  else if en && !usb3 then port8Follow s
  else s

/-- A write of `USB2.CTRL` or `USB3.CTRL`, and its journal record. PRESUMED, log entry 57. -/
def usbCtrlWrite (usb3 : Bool) (v : Word) (s : State) : State :=
  let s := usbCtrlSet usb3 v s
  journalReg (if usb3 then R.USB3_CTRL else R.USB2_CTRL) (reg s (if usb3 then R.USB3_CTRL else R.USB2_CTRL)) s

/-- USB_HUB_ENABLE (R239): a write of a hub's CTRL register. -/
def execUsbHubEnable (usb3 : Bool) (v : Word) (s : State) : Res := hub s (usbCtrlWrite usb3 v)

/-- USB_UP_VBUS_DETECT (R240): VBUS on the chosen UFP. The D+ pull-up is connected and the chirp completed; the USB 3.2 hub
detects receivers, and where the host has one trains to U0: a free value says so. The standby keeps both off. PRESUMED, log entry 57. -/
def execUsbUpVbusDetect (s : State) : Res :=
  hub s (fun s =>
    if mode s = mStandby then s
    else
      let s := when (bit s fEn2 && upServes s s.usb.up2)
        (fun s => setF ⟨R.USB2_STATUS, 0, 2⟩ 3 { s with usb := { s.usb with pullup := true } }) s
      when (bit s fEn3 && upServes s s.usb.up3)
        (fun s => nextFree (setF ⟨R.USB3_STATUS, 0, 4⟩ (if (free s).getLsbD 0 then plsU0 else plsRxDetect)
          { s with usb := { s.usb with rxDetect := true } })) s)

/-- USB_UP_LINK_LOSS (R240): the upstream link or its VBUS is lost. -/
def execUsbUpLinkLoss (ss : Bool) (s : State) : Res :=
  hub s (fun s =>
    if ss then raise 80 1 (setF ⟨R.USB3_STATUS, 5, 1⟩ 0 (setF ⟨R.USB3_STATUS, 0, 4⟩ plsRxDetect s))
    else
      let s := setF ⟨R.USB2_STATUS, 16, 7⟩ 0 (setF ⟨R.USB2_STATUS, 0, 5⟩ 0 { s with usb := { s.usb with pullup := false } })
      raise 80 0 s)

/-! ### Local ports (R238, R241) -/

/-- Over-current of local port `n` and of the SuperSpeed port that shares it. -/
def setOc (n v : Nat) (s : State) : State :=
  let s := change2 n 3 (setF (fPortOc n) v s)
  if n ≤ 6 then change3 n 3 (setF ⟨R.USB3_PORT_STATUS (n - 1), 6, 1⟩ v s) else s

/-- LOCAL_PORT_OVERCURRENT (R238). -/
def execLocalPortOvercurrent (oc : OcEdge) (s : State) : Res :=
  hub s (fun s =>
    let n := 5 + oc.port.val
    if oc.low then raise 81 (n + 0x200) (setOc n 1 (cutPower n s))
    else if bit s (fPortOc n) then setOc n 0 s
    else s)

/-- SET_PORT_POWER (R238): SetPortFeature or ClearPortFeature(PORT_POWER); `ocHigh` is the level of OC_N. -/
def execSetPortPower (p : BitVec 5) (on ocHigh : Bool) (s : State) : Res :=
  hub s (fun s =>
    let n := p.toNat
    if 5 ≤ n ∧ n ≤ 7 ∧ bit s fEn2 then
      let s := when (ocHigh && bit s (fPortOc n)) (setOc n 0) s
      if on then
        if ocHigh && getF s (fPort n) == psOff then
          let s := setF (fPort n) psDisconnected (setPower n true s)
          if n ≤ 6 then setF (fPls3 n) plsRxDetect s else s
        else s
      else cutPower n s
    else s)

/-- PORT_ERROR_DISABLE (R241): babble or a port error; `ss` for the link of a SuperSpeed port. -/
def execPortErrorDisable (p : BitVec 3) (ss : Bool) (s : State) : Res :=
  hub s (fun s =>
    let n := p.toNat
    if n = 0 then s
    else if ss then
      if n ≤ 6 then raise 81 (n + 0x100) (change3 n 6 (setF (fPls3 n) 6 (setF (fConn3 n) 0 (bump R.USB3_LINK_ERRORS s)))) else s
    else if 2 ≤ getF s (fPort n) then raise 81 n (change2 n 1 (setF (fPort n) psDisabled (bump R.USB2_PORT_ERRORS s)))
    else s)

/-- USB_PORT_CONNECT_CHANGE (R241): a device attaches to or leaves a local port's line. A SuperSpeed port that has been taken to disabled
detects nothing until it is reset (R346). -/
def execUsbPortConnectChange (p : BitVec 3) (ss attached ls : Bool) (s : State) : Res :=
  hub s (fun s =>
    let n := p.toNat
    if n = 0 then s
    else if ss then
      if n ≤ 6 && bit s fEn3 && bit s ⟨R.USB3_PORT_CTRL (n - 1), 0, 1⟩ && !bit s (fVirtual3 n) && getF s (fPls3 n) != plsDisabled then
        change3 n 0 (setF (fPls3 n) (if attached then plsU0 else plsRxDetect) (setF (fConn3 n) (if attached then 1 else 0) s))
      else s
    else if getF s (fPort n) = psOff then s
    else
      let s := setF (fPort n) (if attached then psDisabled else psDisconnected)
        (setF (fPortLs n) (if attached && ls then 1 else 0) (setF (fPortChirp n) 0 (setF (fPortHs n) 0 s)))
      if getF s (fPortMode n) = 1 then change2 n 0 s else s)

/-! ### Frames at M8 (R243, R244) -/

/-- A frame whose tag, type or length is not allowed. -/
def tagError (tag : Nat) (s : State) : State :=
  limited (84 * 1024) tenUs (raise 84 tag) (bump (if tag < 0x10 then R.USB3_TAG_ERR else R.USB2_TAG_ERR) s)

/-- A USB 3 tag (Table 10-5). -/
def usb3Tag (tag : Nat) : Bool := decide (tag ≤ 3) || tag == 8

/-- USB3_PACKET_FRAME (R244). -/
def execUsb3PacketFrame (tag : Byte) (frame : List Byte) (aborted : Bool) (s : State) : Res :=
  hub s (fun s =>
    let t := tag.toNat
    if aborted then bump R.USB3_BAD_PKT s
    else if !usb3Tag t || byteAt frame 0 != 1 || decide (frame.length < 20) || decide (1044 < frame.length) then tagError t s
    else if t = 8 then
      if bit s ⟨R.USB3_STATUS, 4, 1⟩ then emit (.usb3 0 (frame.drop 4)) (bump64 R.USB3_PKT_RX s) else s
    else if bit s (fVirtual3 (t + 1)) then emit (.usb3 (t + 1) (frame.drop 4)) (bump64 R.USB3_PKT_RX s)
    else s)

/-- USB3_LINK_STATE_FRAME (R245). -/
def execUsb3LinkStateFrame (tag : Byte) (frame : List Byte) (s : State) : Res :=
  hub s (fun s =>
    let t := tag.toNat
    if !usb3Tag t || byteAt frame 0 != 2 || frame.length != 4 then tagError t s
    else
      let st := byteAt frame 1
      let s := { s with usb := { s.usb with far := natSet s.usb.far t (st + 1) } }
      let s := when (st == 0x10) (bump R.USB3_WARM_RESETS) s
      if t = 8 then
        if bit s ⟨R.USB3_STATUS, 4, 1⟩ then
          setF ⟨R.USB3_STATUS, 0, 4⟩ (if st = 0 then plsU0 else if st = 3 then plsU3 else plsRxDetect) s
        else s
      else
        let s := vportRefresh t s
        if bit s (fVirtual3 (t + 1)) && getF s (fPls3 (t + 1)) != plsDisabled then
          if st = 0 then setF (fPls3 (t + 1)) plsU0 s
          else if st = 3 then setF (fPls3 (t + 1)) plsU3 s
          else if st = 0x10 then change3 (t + 1) 5 (setF (fPls3 (t + 1)) plsRxDetect s)
          else s
        else s)

/-! ### Remote transaction translators (R247–R249) -/

def dTt : Nat → Tt := fun _ => {}
def ttGet (s : State) (k : Nat) : Tt := smGet dTt s.usb.tt k
/-- A translator changes; splits outstanding show in its status. -/
def ttSet (k : Nat) (t : Tt) (s : State) : State :=
  setF ⟨R.USB2_TP_STATUS k, 8, 5⟩ (t.np.length + t.per.length) { s with usb := { s.usb with tt := smSet dTt s.usb.tt k t } }

/-- Source 82, at most once per 10 µs per TT (R249). -/
def raiseTt (k code : Nat) (s : State) : State := limited (82 * 1024 + k) tenUs (raise 82 (k + code * 256)) s

/-- PIDs: ACK, NAK, STALL, NYET and ERR of the standard. -/
abbrev pidAck : Nat := 0xD2
abbrev pidNak : Nat := 0x5A
abbrev pidStall : Nat := 0x1E
abbrev pidNyet : Nat := 0x96
abbrev pidErr : Nat := 0x3C

/-- START_SPLIT (R249): `kind` 0 control, 1 bulk, 2 interrupt, 3 isochronous; `isIn` is the token's direction. -/
def execStartSplit (k : Fin 8) (pid : Byte) (isIn : Bool) (dev : BitVec 7) (ls : Bool) (ep : BitVec 4) (kind : Fin 4)
    (frameNo : BitVec 11) (uframe : BitVec 3) (dataPid : Byte) (data : List Byte) (s : State) : Res :=
  hub s (fun s =>
    let t := ttGet s k
    if !(bit s (fBound k) && bit s ⟨R.USB2_TP_CTRL k, 0, 1⟩) || t.stopped then s
    else if kind.val = 3 then
      let e := (dev.toNat, ep.toNat, isIn)
      raiseTt k 2 (bump R.USB2_ISO_REFUSED (ttSet k { t with err := e :: t.err.filter (· != e) } s))
    else
      let periodic := kind.val == 2
      if periodic && decide (16 ≤ t.per.length) then bump R.USB2_PERIODIC_FULL s
      else if !periodic && decide (2 ≤ t.np.length) then emit (.usb pidNak []) s
      else
        let h := t.nextHandle % 256
        let sp : Split := { handle := h, dev := dev.toNat, ep := ep.toNat, isIn := isIn, uframe := uframe.toNat }
        let e := (dev.toNat, ep.toNat, isIn)
        let t := { t with nextHandle := (t.nextHandle + 1) % 256, err := t.err.filter (· != e),
                          np := if periodic then t.np else t.np ++ [sp], per := if periodic then t.per ++ [sp] else t.per }
        let d := data.take 64
        let f : List Byte := [1, BitVec.ofNat 8 h, pid, BitVec.ofNat 8 (dev.toNat + if ls then 128 else 0),
            BitVec.ofNat 8 (ep.toNat + kind.val * 16)]
          ++ bytesBE 2 (frameNo.toNat + uframe.toNat * 2048) ++ [if isIn then 0 else dataPid] ++ bytesBE 2 d.length ++ d
        let s := offerFrame 8 { tag := 0x10 + k.val, data := f } (bump64 R.USB2_SPLITS_FWD (ttSet k t s))
        if periodic then s else emit (.usb pidAck []) s)

/-- Whether a split is the one a complete-split names. -/
def Split.is (sp : Split) (dev ep : Nat) (isIn : Bool) : Bool := sp.dev == dev && sp.ep == ep && sp.isIn == isIn

/-- COMPLETE_SPLIT (R249). -/
def execCompleteSplit (k : Fin 8) (dev : BitVec 7) (ep : BitVec 4) (isIn : Bool) (s : State) : Res :=
  hub s (fun s =>
    let t := ttGet s k
    let is (sp : Split) : Bool := sp.is dev.toNat ep.toNat isIn
    if t.err.contains (dev.toNat, ep.toNat, isIn) then emit (.usb pidErr []) s
    else match (t.np ++ t.per).find? is with
      | none => s
      | some sp =>
        let freed := ttSet k { t with np := t.np.filter (fun x => x.handle != sp.handle),
                                      per := t.per.filter (fun x => x.handle != sp.handle) } s
        if sp.expired then emit (.usb pidErr []) freed
        else match sp.result with
          | some (pid, data) => emit (.usb (if pid = 0 then pidErr else pid) data) freed
          | none => emit (.usb pidNyet []) s)

/-- TT_SPLIT_RESULT_FRAME (R249): `late` says that a periodic result came after the end of microframe Y + 4. -/
def execTtSplitResultFrame (k : Fin 8) (frame : List Byte) (late : Bool) (s : State) : Res :=
  hub s (fun s =>
    let len := ofBE (sub frame 8 2)
    if byteAt frame 0 != 2 || decide (64 < len) || frame.length != 10 + len then tagError (0x10 + k) s
    else
      let t := ttGet s k
      let h := byteAt frame 1
      let r := (byteAt frame 2, frame.drop 10)
      let set (x : Split) : Split := if x.handle = h ∧ !x.expired then { x with result := some r } else x
      if t.np.any (fun x => x.handle == h) then ttSet k { t with np := t.np.map set } s
      else if t.per.any (fun x => x.handle == h) then
        if late then
          raiseTt k 0 (bump R.USB2_LATE_RESULTS (ttSet k { t with per := t.per.filter (fun x => x.handle != h) } s))
        else ttSet k { t with per := t.per.map set } s
      else s)

/-- TT_TIMEOUT_EXPIRY (R249): a non-periodic request has had no result for TT_TIMEOUT. -/
def execTtTimeoutExpiry (k : Fin 8) (handle : Byte) (s : State) : Res :=
  hub s (fun s =>
    let t := ttGet s k
    let due (x : Split) : Bool := x.handle == handle.toNat && x.result.isNone && !x.expired
    if t.np.any due then
      raiseTt k 1 (bump R.USB2_REMOTE_TIMEOUTS
        (ttSet k { t with np := t.np.map (fun x => if due x then { x with expired := true } else x) } s))
    else s)

/-- TT_PORT_STATUS_FRAME (R248): the dock's PORT_STATUS. -/
def execTtPortStatusFrame (k : Fin 8) (frame : List Byte) (s : State) : Res :=
  hub s (fun s =>
    if byteAt frame 0 != 4 || frame.length != 8 then tagError (0x10 + k) s
    else if !bit s ⟨R.USB2_TP_CTRL k, 0, 1⟩ || !pairUp s 3 8 (0x10 + k) then s
    else
      let w := ofBE (sub frame 2 2)
      let was := getF s (fTp k)
      let st := stateOfStatus w
      let p := 9 + k.val
      let s := setF ⟨R.USB2_TP_STATUS k, 5, 1⟩ (byteAt frame 4 % 2)
        (setF ⟨R.USB2_TP_STATUS k, 3, 1⟩ (bits w 9 1) (setF (fBound k) 1 (setF (fTp k) st s)))
      let s := ttSet k { ttGet s k with wStatus := w } s
      let s := when (decide (2 ≤ was) != decide (2 ≤ st)) (change2 p 0) s
      let s := when (was == psResetting && st == psEnabled) (change2 p 4) s
      let s := when (was == psSuspended && st == psEnabled) (change2 p 2) s
      when (was == psEnabled && st == psDisabled) (change2 p 1) s)

/-- PORT_STATUS_TIMEOUT (R248): 300 ms without PORT_STATUS. -/
def execPortStatusTimeout (k : Fin 8) (s : State) : Res :=
  hub s (fun s =>
    if bit s (fBound k) then
      let t := ttGet s k
      let fail (x : Split) : Split := { x with expired := true }
      let was := getF s (fTp k)
      let s := setF (fTp k) psDisconnected (setF (fBound k) 0 (ttSet k { t with np := t.np.map fail, per := t.per.map fail } s))
      raise 83 k (bump R.USB2_UNBINDS (when (decide (2 ≤ was)) (change2 (9 + k) 0) s))
    else s)

/-! ### The dock's side (R248) -/

/-- Port `p` is served as a remote port. -/
def isRemote (s : State) (p : Nat) : Bool := decide (1 ≤ p) && decide (p ≤ 7) && getF s (fPortMode p) == 2

/-- TT_SPLIT_REQ_FRAME (R248): the dock performs the transaction; `pid` and `data` are what its bus answers. -/
def execTtSplitReqFrame (p : BitVec 3) (frame : List Byte) (pid : Byte) (data : List Byte) (s : State) : Res :=
  hub s (fun s =>
    let n := p.toNat
    let len := ofBE (sub frame 8 2)
    if byteAt frame 0 != 1 || decide (64 < len) || frame.length != 10 + len || n == 0 then tagError (0x18 + n) s
    else if !isRemote s n then s
    else
      let ok := getF s (fPort n) == psEnabled
      let isIn := byteAt frame 2 % 16 == 9
      let d := if ok && isIn then data.take 64 else []
      let f : List Byte := [2, BitVec.ofNat 8 (byteAt frame 1), if ok then pid else 0, 0, 0] ++ sub frame 5 2 ++ [0]
        ++ bytesBE 2 d.length ++ d
      offerFrame 8 { tag := 0x18 + n, data := f } s)

/-- TT_PORT_CMD_FRAME (R248): reset, suspend, resume or disable; `chirp` says that the device is seen to chirp in the reset (R250),
whose 12 ms end as those of any port's reset do. -/
def execTtPortCmdFrame (p : BitVec 3) (frame : List Byte) (chirp : Bool) (s : State) : Res :=
  hub s (fun s =>
    let n := p.toNat
    if byteAt frame 0 != 3 || frame.length != 8 || n == 0 then tagError (0x18 + n) s
    else if !isRemote s n || decide (getF s (fPort n) < 2) then s
    else match byteAt frame 1 with
      | 1 => setF (fPortChirp n) (if chirp then 1 else 0) (setF (fPort n) psResetting s)
      | 2 => if getF s (fPort n) = psEnabled then setF (fPort n) psSuspended s else s
      | 3 => if getF s (fPort n) = psSuspended then setF (fPort n) psEnabled s else s
      | 4 => setF (fPort n) psDisabled s
      | _ => s)

/-- PORT_STATUS_TIMER (R248): 2 ms of a stable line, or 100 ms; disconnected while the SuperSpeed companion is enabled
(R247). -/
def execPortStatusTimer (p : BitVec 3) (s : State) : Res :=
  hub s (fun s =>
    let n := p.toNat
    if isRemote s n then
      let ss := decide (n ≤ 6) && bit s (fConn3 n) && !bit s (fVirtual3 n)
      let st := if ss then psDisconnected else getF s (fPort n)
      let w := wPortStatus st (bit s (fPortLs n)) false (portOc s n) (portPowered s n)
      offerFrame 8 { tag := 0x18 + n, data := [4, 0] ++ bytesBE 2 w ++ [BitVec.ofNat 8 (getF s (fPortChirp n)), 0, 0, 0] } s
    else s)

/-! ### The device function's resets and packets (R251, R255) -/

def modUsb (f : Usb → Usb) (s : State) : State := { s with usb := f s.usb }

/-- Toggle of an endpoint: 1 EP1 IN, 3 EP3 OUT, 4 EP3 IN; 9 the status endpoint of the USB 2.0 hub. -/
def toggleGet (s : State) (e : Nat) : Bool := smGet (fun _ => false) s.usb.toggle e

/-- The bytes of EP1 IN, EP3 OUT and EP3 IN that show their halts. -/
def fHalt (e : Nat) : Fld := ⟨R.USBD_STATUS, if e = 1 then 7 else if e = 3 then 8 else 9, 1⟩

/-- Toggles of the device function's endpoints return to DATA0; the hub's status endpoint keeps its own (R251). -/
def toggleReset (u : Usb) : Usb := { u with toggle := u.toggle.filter (fun e => decide (9 ≤ e.1)) }

/-- A data packet goes out on an IN endpoint, and its toggle turns. PRESUMED, log entry 58. -/
def sendIn (e : Nat) (data : List Byte) (s : State) : State :=
  let t := toggleGet s e
  emit (.usb (if t then 0x4B else 0xC3) data) (modUsb (fun u => { u with toggle := smSet (fun _ => false) u.toggle e (!t) }) s)

/-- A control transfer is abandoned. -/
def abandonControl (s : State) : State :=
  bump R.USBD_CTRL_ABANDONED (modUsb (fun u => { u with held := none, zlpSent := false, applied := false }) s)

/-- A protocol STALL. PRESUMED, log entry 58. -/
def stall (s : State) : State := emit (.usb pidStall []) s

/-- A bus reset of the device function (R255): `control` says that a control transfer was under way. -/
def deviceReset (control : Bool) (s : State) : State :=
  let s := if s.usb.held.isSome || control then abandonControl s else s
  let s := deauth .usb (bump R.USBD_BUS_RESETS s)
  let s := modUsb (fun u => { toggleReset u with applied := false, alt1 := false, ep1Last := [], devWake := false }) s
  setReg R.USBD_STATUS 0 s

/-- USB 3 port `n`, or for 0 the upstream, is a physical link that holds a partner. -/
def physical3 (s : State) (n : Nat) : Bool :=
  if n = 0 then s.usb.rxDetect && decide (s.usb.up3 ≤ 4)
  else decide (n ≤ 6) && bit s (fConn3 n) && !bit s (fVirtual3 n)

/-- Link state of a USB 3 port, or for 0 of the upstream. -/
def fLink3 (n : Nat) : Fld := if n = 0 then ⟨R.USB3_STATUS, 0, 4⟩ else fPls3 n

/-! ### Suspend, resume and remote wake (R256) -/

/-- USB_BUS_SUSPEND (R256, R236): the bus has been suspended for 5 ms, the flags being what the host has set beside what its requests
have set; or with `l1` the
host's LPM token is acknowledged, and the hub and the device function enter L1. PRESUMED, log entry 57. -/
def execUsbBusSuspend (l1 : Bool) (wake : WakeFlags) (s : State) : Res :=
  hub s (fun s =>
    if l1 then
      if !bit s ⟨R.USB2_CTRL, 5, 1⟩ || !bit s ⟨R.USB2_STATUS, 0, 1⟩ then stall s
      else emit (.usb pidAck []) (bump R.USB2_L1_ENTRIES (setF ⟨R.USBD_STATUS, 3, 1⟩ 1 (setF ⟨R.USB2_STATUS, 4, 1⟩ 1 s)))
    else if bit s ⟨R.USB2_STATUS, 0, 1⟩ then
      setF ⟨R.USBD_STATUS, 4, 1⟩ (if s.usb.hubWake || wake.hub || s.usb.devWake || wake.dev then 1 else 0) (setF ⟨R.USBD_STATUS, 2, 1⟩ 1
        (setF ⟨R.USB2_STATUS, 3, 1⟩ 1
          { s with usb := { s.usb with hubWake := s.usb.hubWake || wake.hub, devWake := s.usb.devWake || wake.dev } }))
    else s)

/-- The hub and the device function leave suspend or L1; one that port 8 suspends stays so. -/
def busResumed (s : State) : State :=
  let held := if s.usb.port8 = psSuspended then 1 else 0
  setF ⟨R.USBD_STATUS, 2, 3⟩ held (setF ⟨R.USB2_STATUS, 3, 2⟩ 0 s)

/-- USB_HOST_RESUME (R256). -/
def execUsbHostResume (s : State) : Res := hub s (fun s => if s.usb.driving.isSome then s else busResumed s)

/-- REMOTE_WAKE (R256): a wake cause on the armed bus: a fault source, or a hub port change; `kSeen` says that K was
present in the sampling window. -/
def execRemoteWake (src : Option (BitVec 7)) (kSeen : Bool) (s : State) : Res :=
  hub s (fun s =>
    let allowed := match src with
      | some n => s.usb.devWake && bit s ⟨R.USBD_CTRL, 2, 1⟩
          && decide (getF s ⟨R.USBD_CTRL, 8, 3⟩ ≤ severityOf n.toNat s)
      | none => s.usb.hubWake
    if bit s ⟨R.USBD_STATUS, 4, 1⟩ && allowed && s.usb.driving.isNone then
      { s with usb := { s.usb with driving := some (match src with | some n => n.toNat | none => 0xFF, kSeen) } }
    else s)

/-- REMOTE_WAKE_END (R256): the 2 ms drive ends and the resume completes. PRESUMED, log entry 57. -/
def execRemoteWakeEnd (s : State) : Res :=
  hub s (fun s =>
    match s.usb.driving with
    | none => s
    | some (src, k) =>
      let s := busResumed { s with usb := { s.usb with driving := none } }
      let s := if bit s ⟨R.USBD_WAKE_STATUS, 0, 1⟩ then s else setF ⟨R.USBD_WAKE_STATUS, 8, 8⟩ src s
      let s := bump R.USBD_WAKES (setF ⟨R.USBD_WAKE_STATUS, 0, 1⟩ 1 s)
      if k then bump R.USBD_WAKE_COLLISIONS (setF ⟨R.USBD_WAKE_STATUS, 1, 1⟩ 1 s) else s)

end Sys2Proof.Machine
end

