-- ==== Sys2Proof/Machine/Pair.lean ====
section
/-!
DEFINITION. The mirrored pair: journal, heartbeat, fence, failover, planned swap and docks (13_mirrored_pair.md R294–R323,
R459).
-/
namespace Sys2Proof.Machine

def modPair (f : Pair → Pair) (s : State) : State := { s with pair := f s.pair }

abbrev fSwapResult : Fld := ⟨R.PAIR_STATUS, 12, 3⟩
abbrev syncNone : Nat := 0
abbrev syncResync : Nat := 1
abbrev syncSynced : Nat := 2
abbrev syncLost : Nat := 3

/-- Own epoch. -/
def epoch (s : State) : Nat := (reg s R.PAIR_EPOCH).toNat

/-- A command not permitted in the mode or state. -/
def cmdRefused (s : State) : State := bump R.PAIR_CMD_REFUSED s

/-! ### Checkpoints (Table 13-3, CKPT) -/

/-- The checkpoint of a table entry; the oldest unacknowledged cell of a reliable origin is retained, or still queued. -/
def ckptOf (s : State) (i : Nat) : Ckpt :=
  let t := tGet s i
  let st := if t.halted then 3 else if t.susp then 2 else 1
  let oldest := if reliableOrigin s i then (t.retained ++ (qGet s i).list).head? else none
  { next := t.nextSeq, base := (oldest.map (fun c => c.seq)).getD t.nextSeq, e := t.e.getD 0,
    tstate := st + (if bit s (bitIn (R.TUN_STALLED 0) i) then 4 else 0) }

/-- The CKPT record of an entry. -/
def ckptBody (i : Nat) (c : Ckpt) : List Byte :=
  [BitVec.ofNat 8 i, 0] ++ bytesBE 2 c.next ++ bytesBE 2 c.base ++ bytesBE 2 c.e ++ [BitVec.ofNat 8 c.tstate]

/-- An entry's checkpoint is journalled. -/
def journalCkpt (i : Nat) (s : State) : State :=
  let c := ckptOf s i
  journal 0x03 (ckptBody i c) false (modPair (fun p => { p with ckpt := smSet dCkpt p.ckpt i c }) s)

/-- CHECKPOINT_TIMER (R300): every 10 µs the entries whose NEXT, BASE or E changed. -/
def execCheckpointTimer (s : State) : Res :=
  hub s (fun s =>
    let moved (s : State) (i : Nat) : Bool :=
      let a := ckptOf s i
      let b := smGet dCkpt s.pair.ckpt i
      a.next != b.next || a.base != b.base || a.e != b.e
    if holdsRole s then forAll ((validEntries s).filter (moved s)) journalCkpt s else s)

/-- The SERVO record. -/
def servoBody (s : State) : List Byte :=
  bytesBE 8 (BitVec.ofInt 64 s.time.integ).toNat ++ bytesBE 4 (reg s R.TIME_FREQ_ADJ).toNat ++ [BitVec.ofNat 8 (getF s fTimeState)]

/-- SERVO_JOURNAL_TIMER (R300). -/
def execServoJournalTimer (s : State) : Res :=
  hub s (fun s => if holdsRole s then journal 0x04 (servoBody s) false s else s)

/-! ### Full resynchronisation (R305) -/

/-- The selector values of a windowed register of a page (Tables 3-17, 5-13, 4-10 and 6-9). -/
def copies (page : Nat) : SelKind → List Nat
  | .none => [0]
  | .lane => List.range 4
  | .bq => List.range 32
  | .q => List.range 272
  | .tun => List.range 256
  | .svc => (List.range' 2 6).flatMap (fun c => (List.range 64).map (fun i => i + c * 256))
  | .gate => if page = 0x67 then List.range 4 else [0]

/-- The keys of a page's registers that a mask names. -/
def pageKeys (page : Nat) (k : PageKind) (mask : RegRow → Nat) : List Nat :=
  ((pageInfo k).rows.filter (fun r => mask r != 0)).flatMap (fun r =>
    (List.range r.n).flatMap (fun i => (copies page r.sel).map (fun c =>
      regKey (page * 0x1000 + r.off + i * r.stride) c)))

/-- Every page that exists. -/
def allPages : List (Nat × PageKind) :=
  pageKinds.flatMap (fun k => (List.range' (pageInfo k).first ((pageInfo k).last + 1 - (pageInfo k).first)).map (fun p => (p, k)))

/-- The REG records of one register. -/
def snapReg (key : Nat) (v : Word) : List (Nat × List Byte) :=
  let a := key % 0x1000000
  let r (x : Nat) (w : Nat) : Nat × List Byte := (0x01, bytesBE 4 x ++ bytesBE 4 w)
  match selectorOf a with
  | some sel => [r sel (key / 0x1000000), r a v.toNat]
  | none => [r a v.toNat]

/-- The records of a page's mirrored registers: RW and RWL values, committed RWS values and the COMMIT record.
DESIGN CHOICE, log entry 69. -/
def snapPage (s : State) (page : Nat) (k : PageKind) : List (Nat × List Byte) :=
  ([page * 0x1000 + 0x008, page * 0x1000 + 0x014].map (fun a => (0x01, bytesBE 4 a ++
      bytesBE 4 ((reg s a).toNat &&& (if a % 0x1000 = 0x008 then 1 else 0xFFFFFFFF)))))
    ++ (pageKeys page k (fun r => r.rw ||| r.rwl)).flatMap (fun key => snapReg key (reg s key))
    ++ (if (pageInfo k).commit then
          (pageKeys page k (fun r => r.rws)).flatMap (fun key => snapReg key (actReg s key)) ++ [(0x02, bytesBE 2 page)]
        else [])
    ++ ((((pageInfo k).rows.filterMap (fun r => selectorOf (page * 0x1000 + r.off))).eraseDups).map
          (fun a => (0x01, bytesBE 4 a ++ bytesBE 4 (reg s a).toNat)))

/-- A word of the image memory: its address, then the word. -/
def snapImage (a : Nat) (w : Nat) : List (Nat × List Byte) :=
  [(0x01, bytesBE 4 R.DISP_IMG_ADDR ++ bytesBE 4 a), (0x01, bytesBE 4 R.DISP_IMG_DATA ++ bytesBE 4 w)]

/-- A snapshot group: SNAP, then everything R305 names, each page's selectors last with the values they have. -/
def snapshot (s : State) : List (Nat × List Byte) :=
  [(0x09, bytesBE 2 s.pair.groupNo)]
    ++ (allPages.filter (fun p => mirroredPage p.1)).flatMap (fun p => snapPage s p.1 p.2)
    ++ s.pcie.cfg.map (fun p => (0x01, bytesBE 4 (cfgPage + p.1 / 1024 * 0x1000 + p.1 % 1024 * 4) ++ bytesBE 4 p.2.toNat))
    ++ [(0x01, bytesBE 4 bar4Addr ++ bytesBE 4 s.pcie.bar4)]
    ++ s.disp.img.flatMap (fun p => snapImage p.1 p.2.toNat)
    ++ [(0x01, bytesBE 4 R.DISP_IMG_ADDR ++ bytesBE 4 (reg s R.DISP_IMG_ADDR).toNat)]
    ++ (validEntries s).map (fun i => (0x03, ckptBody i (ckptOf s i)))
    ++ s.fwd.filterMap (fun p => p.2.map (fun e => (0x06, [1, 0] ++ bytesBE 2 e.vid ++ bytesBE 6 e.da ++ [BitVec.ofNat 8 e.tset])))
    ++ s.flt.history.reverse.map (fun r => (0x05, recordBytes r))
    ++ [(0x04, servoBody s)]

/-- The active starts a snapshot group, read from its live state and paced by JACK: its records do not occupy the ring, whose own
stay until they are acknowledged. DESIGN CHOICE, log entry 69. -/
def sendSnapshot (s : State) : State :=
  let rs := snapshot s
  let first := s.pair.nextJ
  let e := epoch s
  let group := rs.mapIdx (fun i r => ({ type := r.1, last := i + 1 == rs.length, jseq := (first + i) % 2 ^ 32,
                                        epoch := e, body := padTo 16 r.2 } : JRec))
  let s := modPair (fun p => { p with nextJ := first + rs.length, groupNo := p.groupNo + 1, group := group,
                                      groupAck := (first + 2 ^ 32 - 1) % 2 ^ 32,
                                      groupEnd := some ((first + rs.length - 1) % 2 ^ 32), resyncDue := false }) s
  pumpGroup (bump R.PAIR_RESYNCS (setF fSync syncResync s))

/-- The standby asks for a resynchronisation. -/
def askResync (s : State) : State :=
  let s := modPair (fun p => { p with resyncDue := false, groupOpen := false, groupEnd := none }) s
  sendResyncReq (bump R.PAIR_RESYNCS (setF fSync syncResync s))

/-- RESYNC_START (R305): the Scarf link is UP, and the peer is active, or is the standby that was not synchronised. -/
def execResyncStart (s : State) : Res :=
  hub s (fun s =>
    if scarfIsUp s && s.pair.resyncDue then
      if mode s = mStandby ∧ peerActive s then askResync s else if holdsRole s then sendSnapshot s else s
    else s)

/-- RESYNC_REQ_RECEIVED (R305): the active starts a snapshot; the standby learns that records have been lost (R303).
DESIGN CHOICE, log entry 68. -/
def execResyncReqReceived (s : State) : Res :=
  hub s (fun s =>
    if !scarfIsUp s then s
    else if holdsRole s then sendSnapshot s
    else if mode s = mStandby then setF fSync syncLost (modPair (fun p => { p with groupOpen := false, groupEnd := none }) s)
    else s)

/-- RESYNC_COMPLETE (R305): the group is acknowledged at the active, closed at the standby. -/
def execResyncComplete (s : State) : Res :=
  hub s (fun s =>
    match s.pair.groupEnd with
    | some e =>
      if getF s fSync = syncResync ∧ s.pair.group.isEmpty
          ∧ (mode s = mStandby ∨ (holdsRole s ∧ reached e (reg s R.PAIR_JSEQ_ACK).toNat)) then
        setF fSync syncSynced (modPair (fun p => { p with groupEnd := none }) s)
      else s
    | none => s)

/-- Step 6 of Table 13-7: with every record acknowledged, SWAP_COMMIT goes. -/
def swapCommit (s : State) : State :=
  if s.pair.swap = .checkpointed ∧ s.pair.ring.isEmpty then
    journal 0x08 (bytesBE 4 (epoch s + 1)) false (modPair (fun p => { p with swap := .committing }) s)
  else s

/-- JACK_RECEIVED (R301, R305, R318): records up to the acknowledged one leave the ring; a snapshot group, and a swap that waits for the
last record, go on. -/
def execJackReceived (jseq : Word) (s : State) : Res :=
  hub s (fun s =>
    let ack := (reg s R.PAIR_JSEQ_ACK).toNat
    if holdsRole s && scarfIsUp s && reached ack jseq.toNat && reached jseq.toNat (s.pair.nextJ + 2 ^ 32 - 1) then
      let s := modPair (fun p => { p with ring := p.ring.filter (fun r => !reached r.jseq jseq.toNat),
                                          groupAck := if reached p.groupAck jseq.toNat then jseq.toNat else p.groupAck }) s
      pumpGroup (swapCommit (setF fJfill s.pair.ring.length (setReg R.PAIR_JSEQ_ACK jseq s)))
    else s)

/-! ### Receiving records (R300–R302) -/

/-- JACK names the last record applied. -/
def sendJack (s : State) : State :=
  sendCtl 4 ([0x21] ++ bytesBE 4 s.pair.applied) (modPair (fun p => { p with sinceJack := 0 }) s)

/-- JACK_SEND_TIMER (R301): 2 µs while records arrive. -/
def execJackSendTimer (s : State) : Res :=
  hub s (fun s => if mode s = mStandby ∧ 0 < s.pair.sinceJack then sendJack s else s)

/-- A record with a good CRC at the standby: applied if it is the next one, or opens a snapshot group. A gap means that
records have been lost, for which a SYNCED standby asks for a resynchronisation, so that SYNC reads the same at both (R303).
DESIGN CHOICE, log entry 68. -/
def applyRecord (h : JHdr) (opens : Bool) (f : State → State) (s : State) : State :=
  if mode s = mStandby ∧ linkState s 4 = lsUp then
    let s := setReg R.PAIR_PEER_EPOCH h.epoch s
    if opens ∨ h.jseq.toNat = (s.pair.applied + 1) % 2 ^ 32 then
      let s := f (modPair (fun p => { p with applied := h.jseq.toNat, sinceJack := p.sinceJack + 1 }) s)
      let ends := h.last && s.pair.groupOpen
      let s := if ends then modPair (fun p => { p with groupOpen := false, groupEnd := some h.jseq.toNat }) s else s
      if ends || decide (8 ≤ s.pair.sinceJack) then sendJack s else s
    else if reached h.jseq.toNat s.pair.applied ∨ getF s fSync ≠ syncSynced then s
    else askResync s
  else s

/-- JOURNAL_CKPT (R300). -/
def execJournalCkpt (h : JHdr) (i : Byte) (next base e : BitVec 10) (tstate : Byte) (s : State) : Res :=
  hub s (applyRecord h false (modPair (fun p =>
    { p with ckpt := smSet dCkpt p.ckpt i.toNat { next := next.toNat, base := base.toNat, e := e.toNat, tstate := tstate.toNat } })))

/-- JOURNAL_SERVO (R300, R321): integrator, FREQ_ADJ and STATE. The standby's servo goes on from the integrator; its own STATE stays, and
the FREQ_ADJ holds for a takeover with SRC_SEL FREE. DESIGN CHOICE, log entry 69. -/
def execJournalServo (h : JHdr) (body : Vector Byte 13) (s : State) : Res :=
  hub s (applyRecord h false (fun s =>
    let b := body.toList
    modPair (fun p => { p with servo := b, freq := some (BitVec.ofNat 32 (ofBE (sub b 8 4))) })
      { s with time := { s.time with integ := sext 64 (ofBE (sub b 0 8)) } }))

/-- JOURNAL_EVENT (R351): the record enters the history queue only. -/
def execJournalEvent (h : JHdr) (record : Vector Byte 16) (s : State) : Res :=
  hub s (applyRecord h false (historyAdd (recordOf record.toList)))

/-- JOURNAL_FWD (R300). -/
def execJournalFwd (h : JHdr) (op : BitVec 2) (vid : BitVec 12) (da : BitVec 48) (tset : BitVec 6) (s : State) : Res :=
  hub s (applyRecord h false (fun s =>
    match op.toNat with
    | 1 => (fwdInsert vid.toNat da.toNat tset.toNat s).2
    | 2 => (fwdDelete vid.toNat da.toNat s).2
    | 0 => s
    | _ => fwdFlush s))

/-- JOURNAL_MODE (R300, R29). -/
def execJournalMode (h : JHdr) (m : BitVec 3) (cause : BitVec 2) (s : State) : Res :=
  hub s (applyRecord h false (modPair (fun p => { p with activeMode := some (m.toNat, cause.toNat) })))

/-- JOURNAL_SNAP (R305). -/
def execJournalSnap (h : JHdr) (_group : BitVec 16) (s : State) : Res :=
  hub s (applyRecord h true (fun s =>
    setF fSync syncResync (fwdFlush (modPair (fun p => { p with groupOpen := true, groupEnd := none, ckpt := [] })
      { s with pcie := { s.pcie with cfg := [] }, disp := { s.disp with img := [] } }))))

/-- JOURNAL_CRC_ERROR (R301): a record whose CRC-32C is wrong is discarded, and a full resynchronisation is requested. -/
def execJournalCrcError (record : Vector Byte 32) (s : State) : Res :=
  hub s (fun s =>
    let b := record.toList
    if mode s = mStandby ∧ linkState s 4 = lsUp ∧ ofBE (sub b 28 4) ≠ (crc32c (b.take 28)).toNat then askResync s else s)

/-! ### Planned swap (R318, R319) -/

/-- A swap ends with a result: ingress is released. -/
def endSwap (result : Nat) (s : State) : State :=
  setF fSwapResult result (setF fSwapping 0 (thaw (modPair (fun p => { p with swap := .idle }) s)))

/-- A SWAP cell. -/
def sendSwap (code e : Nat) (s : State) : State := sendCtl 4 ([0x22, BitVec.ofNat 8 code] ++ bytesBE 4 e) s

/-- A swap ends ABORTED; where it had been offered, the standby is told. -/
def abortSwap (s : State) : State :=
  let s := when (s.pair.swap != .idle) (sendSwap 5 (epoch s)) s
  raise 111 (1 + 4 * 256) (bump R.PAIR_SWAP_ABORTS (endSwap 4 s))

/-- An event of the last row of Table 13-8: a swap under way is aborted before its commit point. Once SWAP_COMMIT has gone the standby
takes the role before it could learn of anything else, and the event changes no role. DESIGN CHOICE, log entry 68. -/
def swapInterrupted (s : State) : State :=
  if s.pair.swap = .idle ∨ s.pair.swap = .committing then s else abortSwap s

/-- PAIR_OFFER (R318, R298). DESIGN CHOICE, log entry 68. -/
def pairOffer (s : State) : State :=
  if s.pair.swap ≠ .idle then cmdRefused s
  else if mode s ≠ mActive then setF fSwapResult 2 s
  else if epoch s = 2 ^ 32 - 1 then raise 110 3 (abortSwap s)
  else sendSwap 1 (epoch s) (setF fSwapping 1 (modPair (fun p => { p with swap := .offered }) s))

/-- PAIR_OFFER (R318). -/
def execPairOffer (s : State) : Res := hub s pairOffer

/-- SWAP_OFFER_RECEIVED (R318). -/
def execSwapOfferReceived (s : State) : Res :=
  hub s (fun s =>
    if scarfIsUp s then
      if mode s = mStandby ∧ getF s fSync = syncSynced ∧ bit s ⟨R.PAIR_CTRL, 0, 1⟩ then sendSwap 2 (epoch s) s
      else sendSwap 3 (epoch s) s
    else s)

/-- SWAP_ACCEPT_RECEIVED (R318): ingress freezes and the drain begins. -/
def execSwapAcceptReceived (s : State) : Res :=
  hub s (fun s =>
    if s.pair.swap = .offered then modPair (fun p => { p with swap := .draining, frozen := true }) s else s)

/-- SWAP_REFUSE_RECEIVED (R318). -/
def execSwapRefuseReceived (s : State) : Res := hub s (fun s => if s.pair.swap = .offered then endSwap 1 s else s)

/-- Every reliable origin reads OUTSTANDING 0, every queue and staging chunk is empty, and no adapter is within a frame. -/
def drained (s : State) : Bool :=
  ((validEntries s).all (fun i => !reliableOrigin s i || outstanding s i == 0))
    && s.inq.all (fun e => !e.2.head?.any (fun f => f.rest.isSome))
    && s.loft.all (fun e => e.2.onchip.isEmpty && e.2.chunks.isEmpty && e.2.staging.isEmpty)

/-- SWAP_DRAIN_DONE (R318): step 5, whose records the standby must acknowledge before step 6. -/
def execSwapDrainDone (s : State) : Res :=
  hub s (fun s =>
    if s.pair.swap = .draining && drained s then
      swapCommit (forAll (validEntries s) journalCkpt (modPair (fun p => { p with swap := .checkpointed }) s))
    else s)

/-- SWAP_DRAIN_TIMEOUT (R318). -/
def execSwapDrainTimeout (s : State) : Res := hub s (fun s => if s.pair.swap = .draining then endSwap 3 s else s)

/-- SWAP_COMMIT_ACK_RECEIVED (R318, step 8): the old active mirrors the new one. -/
def execSwapCommitAckReceived (s : State) : Res :=
  hub s (fun s =>
    if s.pair.swap = .committing then
      let last := (s.pair.nextJ + 2 ^ 32 - 1) % 2 ^ 32
      let s := becomeStandby (preempt s)
      let s := modPair (fun p => { p with resyncDue := false, applied := last, sinceJack := 0 }) s
      bump R.PAIR_SWAPS (endSwap 0 (setF fSync syncSynced s))
    else s)

/-- SWAP_ABORT_RECEIVED (R319). -/
def execSwapAbortReceived (s : State) : Res := hub s swapInterrupted

/-! ### Relinquishing (R308, R310, R323) -/

/-- Steps 1 and 2 of R308: cable links go DOWN with reason 0xB, and PAIR-STANDBY is entered NOT-SYNCED. Tunnels HALTED in ISLAND
resume with the change of mode. DESIGN CHOICE, log entry 101. -/
def relinquish (s : State) : State :=
  let e := epoch s
  let s := if s.pair.swap = .idle then s else endSwap (getF s fSwapResult) s
  let s := forAll [0, 1, 2, 3] (fun n s => linkDown n 0xB s) s
  let s := setF fSync syncLost (becomeStandby (preempt s))
  raise 108 (3 * 16384 + e % 16384) (bump R.PAIR_RELINQUISHES s)

/-- FENCE_IN_RISE (R308): the pin's level is there for a hub die that is off, too. -/
def execFenceInRise (s : State) : Res :=
  power s (fun s =>
    let s := modPair (fun p => { p with fenced := true }) s
    if hubRuns s then
      let s := setF fFenceIn 1 s
      if mode s = mActive ∨ mode s = mIsland then relinquish s else s
    else s)

/-- FENCE_IN_FALL (R308): a fenced member's cable transmitters may leave electrical idle. -/
def execFenceInFall (s : State) : Res :=
  power s (fun s =>
    let s := modPair (fun p => { p with fenced := false }) s
    if hubRuns s then forAll [0, 1, 2, 3] linkStart (setF fFenceIn 0 s) else s)

/-- FENCE_RELEASE (R309): both heartbeats have been present for 10 ms. -/
def execFenceRelease (s : State) : Res :=
  hub s (fun s =>
    if bit s fScarfHb && bit s fSbHb && getF s fPeerMode == mStandby && getF s fSync == syncSynced then setF fFenceOut 0 s
    else s)

/-- SWAP_ACK_TIMEOUT (R319): the Scarf link is lost and 100 µs have passed without COMMIT_ACK. -/
def execSwapAckTimeout (s : State) : Res :=
  hub s (fun s =>
    if s.pair.swap = .idle ∨ scarfIsUp s then s
    else if getF s fPeerMode = mActive then relinquish s else abortSwap s)

/-! ### Takeover (R298, R311, R315, R219, R246, R321, R322) -/

/-- What the Loft holds of an origin's cells goes, since OUTSTANDING is to read 0 (R315): counted in DROPS, the frame open at the egress
closed, the rest of one that is arriving awaited no more. DESIGN CHOICE, log entry 69. -/
def dropQueued (i : Nat) (s : State) : State :=
  let k := (qGet s i).cells
  let t := tGet s i
  let s := tSet i { t with rx := none, old := none, awaitSof := t.awaitSof || t.rx.isSome } (closeEgress i s)
  addCnt (entCnt R.TUN_ENT_DROPS i) k (discardCells i s).2

/-- Sequence at takeover of one entry; `planned` continues exactly, at a failover the rules of R315 apply.
DESIGN CHOICE, log entry 69. -/
def takeEntry (planned : Bool) (i : Nat) (s : State) : State :=
  let e := entry s i
  let c := smGet dCkpt s.pair.ckpt i
  let hidSet := bit s (bitIn (R.PAIR_DOCK_HIDS 0) e.orgHid)
  if !planned && e.terminus && e.reliable && !hidSet then raise 110 (4 + i * 256) (teardown i s).2
  else
    let s := when (!planned && e.origin) (dropQueued i) s
    let t := tGet s i
    let t := if e.origin then
        { t with nextSeq := if planned then c.next else (c.next + 511) % 1024, retained := [], resend := [], expiries := 0 } else t
    let t := if e.terminus then
        if !planned && decide (e.inMort ≤ 3) then { t with adopt := true, rx := none, awaitSof := true } else { t with e := some c.e, p := c.e }
      else t
    let s := tSet i t s
    if !planned && e.origin then addCnt64 R.PAIR_FO_UNACKED_CELLS ((c.next + 1024 - c.base) % 1024) s else s

/-- Each connected USB port reports disconnect and connect again (R246): a local port is left disabled, a physical SuperSpeed link
trained; a translated port is connected again by its dock's next PORT_STATUS. PRESUMED, log entry 57. -/
def reconnectUsb (s : State) : State :=
  let s := forAll [1, 2, 3, 4, 5, 6, 7] (fun p s =>
    if getF s (fPortMode p) = 1 ∧ 2 ≤ getF s (fPort p) then change2 p 0 (setF (fPort p) psDisabled s) else s) s
  let s := if 2 ≤ s.usb.port8 then change2 8 0 (setPort8 psDisabled s) else s
  let s := forAll (List.range 8) (fun k s =>
    if 2 ≤ getF s (fTp k) then change2 (9 + k) 0 (setF (fTp k) psDisconnected s) else s) s
  forAll [1, 2, 3, 4, 5, 6] (fun p s =>
    if bit s (fVirtual3 p) then vportDown (p - 1) s
    else if bit s (fConn3 p) then change3 p 0 (setF (fPls3 p) plsU0 s) else s) s

/-- Across a failover every VDP and USB port that was connected reports its going, and returns (R219, R246). -/
def reconnectAdapters (s : State) : State :=
  let s := forAll [0, 1, 2, 3, 4] (fun v s => if bit s (fVdp v) then surpriseDown v s else s) s
  adaptersFollow (reconnectUsb s)

/-- The role is taken with an epoch; `kind` as source 108 gives it. The journal goes on from the last record applied, and with the peer
not SYNCED there is none (R304); with SRC_SEL FREE the frequency is the mirrored one. DEDUCED, log entry 50. DESIGN CHOICE, log entry 69. -/
def takeRole (e kind : Nat) (s : State) : State :=
  let planned := kind == 1
  let s := modPair (fun p => { p with ring := [], nextJ := p.applied + 1, resyncDue := false, groupOpen := false,
                                      groupEnd := none, group := [], taking := none }) s
  let s := setF fJfill 0 (setF fSync (if planned then syncSynced else syncNone) s)
  let s := changeModeAndTime mActive (setEpoch e (preempt s))
  let s := match timeSrc s, s.pair.freq with | .none, some f => setFreq (sext 32 f.toNat) s | _, _ => s
  let s := forAll (validEntries s) (takeEntry planned) s
  let s := modDisp (fun d => { d with stale := true, blank := true }) (if planned then s else reconnectAdapters s)
  let w (a : Nat) (v : Nat) (s : State) : State := setReg (R.PAIR_FO_TIME_NS a) (BitVec.ofNat 32 v) s
  let s := w 2 (s.plumb.sec / 2 ^ 32) (w 1 s.plumb.sec (w 0 s.plumb.ns s))
  let s := setReg R.PAIR_FO_STATUS (BitVec.ofNat 32 (1 + kind * 2)) s
  raise 108 (kind * 16384 + e % 16384) s

/-- JOURNAL_SWAP_COMMIT (R318, step 7): COMMIT_ACK is sent, and the role is taken. -/
def execJournalSwapCommit (h : JHdr) (e : Word) (s : State) : Res :=
  hub s (applyRecord h false (fun s => takeRole e.toNat 1 (sendSwap 4 e.toNat s)))

/-- Step 1 of Table 13-5 has passed: the peer is fenced. -/
def fencePeer (forced : Bool) (s : State) : State :=
  setF fFenceOut 1 (modPair (fun p => { p with taking := some forced }) s)

/-- A takeover is refused: kind 2 unsynchronised, kind 3 the epoch would pass its limit. -/
def takeoverRefused (kind : Nat) (s : State) : State := raise 110 kind (bump R.PAIR_TAKEOVERS_REFUSED s)

/-- The peer's epoch is the last there is (R298). -/
def epochExhausted (s : State) : Bool := (reg s R.PAIR_PEER_EPOCH).toNat == 2 ^ 32 - 1

/-- Table 13-5, steps 1 and 2. -/
def considerTakeover (s : State) : State :=
  let synced := getF s fSync = syncSynced
  if ¬ synced ∧ ¬ bit s ⟨R.PAIR_CTRL, 1, 1⟩ then takeoverRefused 2 s
  else if epochExhausted s then takeoverRefused 3 s
  else fencePeer (!decide synced) s

/-- HEARTBEAT_LOSS (R306, R307, R311): the Scarf or the sideband heartbeat has been absent for HB_TIMEOUT. -/
def execHeartbeatLoss (scarf : Bool) (s : State) : Res :=
  hub s (fun s =>
    let f := if scarf then fScarfHb else fSbHb
    let other := if scarf then fSbHb else fScarfHb
    if bit s f then
      let s := setF f 0 s
      if bit s other then raise 109 (if scarf then 1 else 2) (bump R.PAIR_PARTIAL_LOSSES s)
      else if mode s = mStandby then considerTakeover s
      else s
    else s)

/-- PAIR_TAKEOVER (R311): `PAIR.CMD` TAKEOVER. -/
def pairTakeover (s : State) : State :=
  if mode s = mStandby ∧ !bit s fScarfHb ∧ !bit s fSbHb then
    if epochExhausted s then takeoverRefused 3 s else fencePeer true s
  else cmdRefused s

/-- PAIR_TAKEOVER (R311). -/
def execPairTakeover (s : State) : Res := hub s pairTakeover

/-- TAKEOVER_ASSUME (R311): step 4, 10 µs after the fence. -/
def execTakeoverAssume (s : State) : Res :=
  hub s (fun s =>
    match s.pair.taking with
    | some forced =>
      if mode s = mStandby then
        bump R.PAIR_FAILOVERS (takeRole ((reg s R.PAIR_PEER_EPOCH).toNat + 1) (if forced then 2 else 0) s)
      else modPair (fun p => { p with taking := none }) s
    | none => s)

/-- PAIR_RESYNC (R305): `PAIR.CMD` RESYNC. DESIGN CHOICE, log entry 69. -/
def pairResync (s : State) : State :=
  if scarfIsUp s && holdsRole s then sendSnapshot s
  else if scarfIsUp s && mode s == mStandby then askResync s
  else cmdRefused s

/-- PAIR_RESYNC (R305). -/
def execPairResync (s : State) : Res := hub s pairResync

/-! ### Heartbeat (R306, R310) -/

/-- A frame is valid: its sync and its odd parity hold. -/
def heartbeatOk (f : BitVec 24) : Bool := bits f.toNat 20 4 == 13 && popcount 24 f.toNat % 2 == 1

/-- The peer of an active is no standby: SYNC reads NONE, and no record is kept for it (R303, R304). -/
def peerLeft (s : State) : State :=
  setF fJfill 0 (setF fSync syncNone (modPair (fun p => { p with ring := [], group := [], groupEnd := none, resyncDue := false }) s))

/-- HEARTBEAT_FRAME (R306): a frame of the peer; both members active leaves one of them so (R310). -/
def execHeartbeatFrame (f : BitVec 24) (s : State) : Res :=
  hub s (fun s =>
    if bit s fPaired && heartbeatOk f then
      let m := bits f.toNat 16 3
      let s := setF fPeerMode m (setF fSbHb 1 s)
      let s := when (holdsRole s && m != mStandby && s.pair.swap == .idle) peerLeft s
      let s := modPair (fun p => { p with peerHid := if f.getLsbD 8 then some (bits f.toNat 2 6) else none }) s
      if (mode s = mActive ∨ mode s = mIsland) ∧ (m = mActive ∨ m = mIsland) then
        let d := (bits f.toNat 9 7 + 128 - epoch s % 128) % 128
        let lower := (decide (1 ≤ d) && decide (d ≤ 63)) || ((d == 0 || d == 64) && bit s fMember)
        let s := raise 111 3 s
        if lower then relinquish s else s
      else s
    else s)

/-! ### Docks (R312) -/

/-- A write of `PAIR.DOCK_CTRL`: with EN, or with other ports, the dock has yet to choose the port it follows. -/
def dockCtrlWrite (v : Word) (s : State) : State :=
  let same := bits v.toNat 2 2 == bits v.toNat 4 2
  let was := bits (reg s R.PAIR_DOCK_CTRL).toNat 0 6
  let s := setReg R.PAIR_DOCK_CTRL (v &&& (if same then 0x3F3C else 0x3F3D)) s
  if bit s fDockEn && was != bits (reg s R.PAIR_DOCK_CTRL).toNat 0 6 then
    dockEvaluate (setF fFollow 0 (modPair (fun p => { p with following := false }) s))
  else s

/-- DOCK_ENABLE (R312). -/
def execDockEnable (v : Word) (s : State) : Res := hub s (dockCtrlWrite v)

end Sys2Proof.Machine
end

