-- ==== Sys2Proof/Machine/Speed.lean ====
section
/-!
DEFINITION. Performance levels, the speed gauge and the pace guard (02_speed_contract.md R31–R43;
16_power_states_reset_and_wipe.md R361–R365), and the end of S1 Doze (R369).
-/
namespace Sys2Proof.Machine

abbrev fLevel : Fld := ⟨R.PM_STATUS, 0, 2⟩
abbrev fTargetLevel : Fld := ⟨R.PM_STATUS, 2, 2⟩
abbrev fDeniedAdm : Fld := ⟨R.PM_STATUS, 5, 1⟩
abbrev fDeniedRim : Fld := ⟨R.PM_STATUS, 6, 1⟩
abbrev fDeniedBusy : Fld := ⟨R.PM_STATUS, 7, 1⟩
abbrev fVrdyFail : Fld := ⟨R.PM_STATUS, 8, 1⟩
abbrev fDoze : Fld := ⟨R.PM_STATUS, 9, 1⟩
abbrev fEntering : Fld := ⟨R.PM_STATUS, 10, 1⟩
abbrev fSleepResult : Fld := ⟨R.PM_STATUS, 12, 3⟩
abbrev fPstate : Fld := ⟨R.AO_STATUS, 0, 2⟩
abbrev fAoEntering : Fld := ⟨R.AO_STATUS, 2, 1⟩
abbrev fWaking : Fld := ⟨R.AO_STATUS, 3, 1⟩
abbrev fVready : Fld := ⟨R.AO_STATUS, 5, 1⟩
abbrev fVregEn : Fld := ⟨R.AO_STATUS, 6, 1⟩
abbrev fClkOk : Fld := ⟨R.AO_STATUS, 7, 1⟩
abbrev fS1Auto : Fld := ⟨R.PM_SLEEP_CTRL, 9, 1⟩
abbrev fSlow : Fld := ⟨R.SPD_STATUS, 0, 1⟩
abbrev fPacing : Fld := ⟨R.SPD_STATUS, 1, 1⟩
abbrev fPaced : Fld := ⟨R.SPD_STATUS, 2, 3⟩
abbrev fCmpLevel : Fld := ⟨R.SPD_STATUS, 6, 2⟩
abbrev fPaceEn : Fld := ⟨R.SPD_PACE_GUARD, 0, 1⟩

def modPwr (f : Pwr → Pwr) (s : State) : State := { s with pwr := f s.pwr }

/-! ### S1 Doze ends (R369) -/

/-- S1 ends; with S1_AUTO it is entered again once idle (R369). -/
def endDoze (s : State) : State :=
  if bit s fDoze then
    modMem (fun m => { m with selfRefresh := false })
      (modPwr (fun p => { p with again := true })
        (bump R.PM_S1_EXITS (setF fPstate 0 (setF fDoze 0 s))))
  else s

/-! ### Level changes -/

/-- The contract cycle limit of a level in ps (Table 2-1). -/
def cycleLimit : Nat → Nat
  | 0 => 18204 | 1 => 9102 | 2 => 5851 | _ => 4096

/-- Gauge comparisons use the level of R37. -/
def compareLevel (s : State) : State :=
  setF fCmpLevel (checkLevel s) (setReg R.SPD_LIMIT_PS (BitVec.ofNat 32 (cycleLimit (checkLevel s))) s)

/-- A physical PCIe link runs above the maximum rate of a level. -/
def pcieAbove (s : State) (lvl : Nat) : Bool :=
  [0, 1].any (fun k => bit s (fDlUp k) && decide (pcieMax lvl < getF s (fPcieSpeed k)))

/-- A level change is accepted: CHANGING and TARGET, and the first step of Table 16-2. The order crosses to the rim clock
generators (Table 14-1). -/
def startChange (t : Nat) (s : State) : State :=
  let up := decide (level s < t)
  let s := compareLevel (setF fTargetLevel t (setF fChanging 1 s))
  let s := pulse 61 ⟨0, t⟩ s
  if up then driveCode (modPwr (fun p => { p with level := .raiseVolt }) s)
  else startRims (modPwr (fun p => { p with level := .lowerRim }) s)

/-- A write of `PM.LEVEL_REQ` (R35, R365). DESIGN CHOICE, log entry 31. -/
def levelRequest (t : Nat) (s : State) : State :=
  let s := endDoze s
  let s := setF fDeniedBusy 0 (setF fDeniedRim 0 (setF fDeniedAdm 0 s))
  if bit s fChanging || decide (2 ≤ s.pwr.entry) then setF fDeniedBusy 1 s
  else if t = level s then s
  else if t < level s then
    let adm := decide (admissionLimit t < admissionSum s 14 (actReg s))
    let rim := pcieAbove s t
    if adm || rim then
      raise 53 (0x8000 + t) (when rim (setF fDeniedRim 1) (when adm (setF fDeniedAdm 1) s))
    else startChange t s
  else startChange t s

/-- LEVEL_REQUEST (R35). -/
def execLevelRequest (target : BitVec 2) (s : State) : Res := hub s (levelRequest target.toNat)

/-- A level change is over with `l` in force. -/
def endChange (l : Nat) (s : State) : State :=
  compareLevel (setF fChanging 0 (setF fTargetLevel l (setF fLevel l (modPwr (fun p => { p with level := .idle }) s))))

/-- A level change completes (Raise 3, Lower 3). -/
def completeChange (s : State) : State :=
  setF fVrdyFail 0 (bump R.PM_LEVEL_CHANGES (endChange (getF s fTargetLevel) s))

/-- LEVEL_VREADY (R363, R364). -/
def execLevelVready (s : State) : Res :=
  hub s (fun s =>
    let up (s : State) : State := setF fVready 1 s
    match s.pwr.level with
    | .raiseVolt => startRims (modPwr (fun p => { p with level := .raiseRim }) (up s))
    | .lowerVolt => completeChange (up s)
    | .restoreRaise => endChange (level s) (up s)
    | .restoreLower => startRims (modPwr (fun p => { p with level := .restoreRim }) (up s))
    | .wipeVolt => endChange (level s) (setF fVrdyFail 0 (up s))
    | .wipeRestore => endChange (level s) (up s)
    | _ => up s)

/-- LEVEL_RIM_CHANGE_DONE (R363): the rim clocks have changed, and the SDRAM rate with them. -/
def execLevelRimChangeDone (s : State) : Res :=
  hub s (fun s =>
    match s.pwr.level with
    | .raiseRim => completeChange (rateChange s)
    | .lowerRim =>
      let s := rateChange s
      driveCode (modPwr (fun p => { p with level := .lowerVolt }) s)
    | .restoreRim => endChange (level s) (rateChange s)
    | .wipeRim => driveCode (modPwr (fun p => { p with level := .wipeVolt }) (rateChange s))
    | _ => s)

/-- LEVEL_VREADY_TIMEOUT (R364): the starting level is restored; a second expiry leaves the lower level in force. In the return
from an external wipe the code it started from is driven again. DESIGN CHOICE, log entries 31, 106. -/
def execLevelVreadyTimeout (s : State) : Res :=
  hub s (fun s =>
    let t := getF s fTargetLevel
    let failed (d : Nat) (s : State) : State := raise 120 (t + d) (bump R.PM_VRDY_FAILS (setF fVrdyFail 1 s))
    match s.pwr.level with
    | .raiseVolt => driveCode (modPwr (fun p => { p with level := .restoreRaise }) (failed 0x100 s))
    | .lowerVolt => driveCode (modPwr (fun p => { p with level := .restoreLower }) (failed 0x100 s))
    | .restoreRaise => endChange (level s) (failed 0x300 s)
    | .restoreLower => endChange t (failed 0x300 s)
    | .wipeVolt => driveCode (modPwr (fun p => { p with level := .wipeRestore }) (failed 0x100 s))
    | .wipeRestore => endChange (level s) (failed 0x300 s)
    | _ => s)

/-! ### The gauge and the pace guard -/

/-- One step of the pace guard (R42). -/
def paceStep (s : State) : State :=
  let p := getF s fPaced
  let set (n : Nat) (s : State) : State :=
    bump R.SPD_PACE_STEPS (setF fPacing (if n = 0 then 0 else 1) (setF fPaced n (accrueAll s)))
  if bit s fSlow && decide (p < 4) then set (p + 1) s
  else if !bit s fSlow && decide (0 < p) then set (p - 1) s
  else s

/-- PACE_GUARD_STEP (R42). -/
def execPaceGuardStep (s : State) : Res := hub s (fun s => if bit s fPaceEn then paceStep s else s)

/-- A write of `SPD.PACE_GUARD`; EN 0 restores every paced class at once (R43). -/
def paceGuardWrite (v : Word) (s : State) : State :=
  let s := setReg R.SPD_PACE_GUARD (v &&& 0xFF07) (accrueAll s)
  if bit s fPaceEn then s else setF fPacing 0 (setF fPaced 0 s)

/-- PACE_GUARD_DISABLE (R43). -/
def execPaceGuardDisable (s : State) : Res :=
  hub s (fun s => paceGuardWrite (reg s R.SPD_PACE_GUARD &&& ~~~1) s)

/-- The core is within the recovery margin (R41). -/
def recovered (s : State) (cycle : Nat) : Bool :=
  decide (cycle * 100 ≤ (reg s R.SPD_LIMIT_PS).toNat * (100 - getF s ⟨R.SPD_CTRL, 0, 4⟩))

/-- SPEED_GAUGE_SAMPLE (R39–R42): a sample of `cycle` ps. -/
def execSpeedGaugeSample (cycle : BitVec 16) (s : State) : Res :=
  hub s (fun s =>
    let c := cycle.toNat
    let seq := getF s ⟨R.SPD_CYCLE_PS, 16, 16⟩ + 1
    let s := setReg R.SPD_CYCLE_PS (BitVec.ofNat 32 (c + seq % 65536 * 65536)) s
    let s := setF ⟨R.SPD_STATUS, 5, 1⟩ 1 (bump64 R.SPD_SAMPLES s)
    let s := setReg R.SPD_CYCLE_MAX (BitVec.ofNat 32 (max c (reg s R.SPD_CYCLE_MAX).toNat)) s
    let s := setReg R.SPD_CYCLE_MIN (BitVec.ofNat 32 (min c (reg s R.SPD_CYCLE_MIN).toNat)) s
    let above := decide ((reg s R.SPD_LIMIT_PS).toNat < c)
    let s := when above (bump64 R.SPD_SLOW_SAMPLES) s
    if bit s fSlow then
      if recovered s c then
        let n := s.spd.good + 1
        if max 1 (getF s ⟨R.SPD_CTRL, 8, 8⟩) ≤ n then setF fSlow 0 { s with spd := { good := 0 } }
        else { s with spd := { good := n } }
      else { s with spd := { good := 0 } }
    else if above then
      let s := raiseN 47 (bump R.SPD_SLOW_ENTRIES (setF fSlow 1 { s with spd := { good := 0 } }))
      if bit s fPaceEn then paceStep s else s
    else s)

/-- A read of `SPD.CYCLE_MAX` or `SPD.CYCLE_MIN`: the extreme, which then starts afresh (R40). -/
def extremeRead (max : Bool) (s : State) : Word × State :=
  if max then (reg s R.SPD_CYCLE_MAX, setReg R.SPD_CYCLE_MAX 0 s)
  else (reg s R.SPD_CYCLE_MIN, setReg R.SPD_CYCLE_MIN 0xFFFF s)

/-- SPD_EXTREME_READ (R40). -/
def execSpdExtremeRead (max : Bool) (s : State) : Res :=
  hub s (fun s => let (v, s) := extremeRead max s; emit (.readData v) s)

end Sys2Proof.Machine
end

