-- ==== Sys2Proof/Machine/Reset.lean ====
section
/-!
DEFINITION. Resets, the wake sequence, the wipe and retention (16_power_states_reset_and_wipe.md R361, R370, R371, R374–R380,
R456; 17_lifecycle_and_keys.md R381, R384, R386, R387; 15_faults_and_event_history.md R349, R352).
-/
namespace Sys2Proof.Machine

abbrev fWakeFail : Fld := ⟨R.AO_STATUS, 4, 1⟩
abbrev fAttempt : Fld := ⟨R.AO_STATUS, 9, 3⟩
abbrev fFirstValid : Fld := ⟨R.FLT_STATUS, 6, 1⟩

/-- A register of the power die: TC, PP and AO pages (Table 18-7). -/
def powerKey (k : Nat) : Bool :=
  let p := k % 0x1000000 / 0x1000
  (0x40 ≤ p && p ≤ 0x43) || p == 0x48 || p == 0xFF

/-- Straps as `RST.STRAPS` and the PAIR page show them. -/
def showStraps (s : State) : State :=
  let p := s.pwr.straps
  setF fPaired (p % 2) (setF fMember (p / 2 % 2) (setReg R.RST_STRAPS (BitVec.ofNat 32 p) s))

/-- The hub die as a reset with a cause code leaves it (Table 16-8, R379): registers at reset, on-chip memories wiped. The
power die, the antifuse and the SDRAM keep what they hold, pins their levels. HALT_CAUSE and the first capture survive all
but causes 1 and 2 (R349). DEDUCED, log entries 73, 74. -/
def hubReset (cause : Nat) (s : State) : State :=
  let veser := [0, 1, 2, 3].filter (fun n => (lGet s n).veser)
  let t : State := {
    pending := s.pending, out := s.out, ticks := s.ticks, freeIdx := s.freeIdx, fuse := s.fuse, dram := s.dram,
    regs := s.regs.filter (fun e => powerKey e.1), act := s.act.filter (fun e => powerKey e.1),
    pair := { fenced := s.pair.fenced },
    time := { evt := s.time.evt.map (fun e => (e.1, { level := e.2.level, stable := e.2.stable })) },
    disp := { altHpd := s.disp.altHpd, lastTick := s.ticks }, brg := { req := s.brg.req },
    mem := { fi := s.mem.fi }, tc := s.tc, pp := s.pp, spi := s.spi, sense := s.sense,
    pwr := { s.pwr with step := .idle, cause := cause, entry := 0, target := 0, l2 := [], words := [], level := .idle, again := false,
                        boot := [], nap := if cause = 5 then s.pwr.nap else none } }
  let t := forAll veser (fun n t => lSet n { lGet t n with veser := true } t) t
  let t := setF fFenceIn (if s.pair.fenced then 1 else 0) (showStraps t)
  let t := setF fAoEntering 0 t
  if cause = 1 ∨ cause = 2 then t
  else
    let keep (k : Nat) (t : State) : State := setReg k (reg s k) t
    setF fFirstValid (getF s fFirstValid) (forAll (R.FLT_HALT_CAUSE :: (List.range 4).map R.FLT_FIRST) keep t)

/-- The antifuse is read (R381): LC, CPS_SEALED and the floor. -/
def readFuse (s : State) : State :=
  setF fFloor s.fuse.floor (setF fCpsSealed (if s.fuse.cps.isSome then 1 else 0) (setF fLc s.fuse.lc s))

/-- What a life-cycle change does beyond the reset: the external wipe is due, and no bank stays signed (Table 16-8). -/
def lcEffects (s : State) : State :=
  setF fExtWipe 1 (forAll (List.range 8) (fun b => setReg (R.AO_RB_SIG b) 0) s)

/-- Before the state is read a word whose programming was cut off is completed (R386). -/
def startHub (s : State) : State :=
  match s.fuse.begun with
  | some t =>
    let old := s.fuse.lc
    let s := { s with fuse := { s.fuse with lc := max t old, begun := none } }
    readFuse (lcEffects (modPwr (fun p => { p with oldLc := some (old, true), nap := none, cause := 7 }) s))
  | none => readFuse s

/-- At a start both sides of every crossing leave reset together: each one resynchronises once, empty, and carries at once
(R339, Table 14-3). DEDUCED, log entry 70. -/
def crossingsStart (s : State) : State :=
  forAll ((List.range 62).filter (fun x => (xType x).isSome)) (fun x s => raise 94 x (bump R.CDC_RESYNCS s)) s

/-- `RST.CAUSE`, and the marker that is the first record after a reset (R352, Table 16-7 step 5); the crossings start. -/
def announceCause (afterFail : Bool) (s : State) : State :=
  let v := s.pwr.cause + (if afterFail then 16 else 0)
  crossingsStart (marker 2 v (setReg R.RST_CAUSE (BitVec.ofNat 32 v) s))

/-- A reset of a warm kind: the supply stays, the fabric answers at once in COLD, and the wipe runs (R378, R379). -/
def warmReset (cause : Nat) (s : State) : State :=
  let s := startHub (hubReset cause s)
  announceCause false (setF fPstate 0 (modPwr (fun p => { p with step := .wipe }) s))

/-- A write of `RST.CTRL` with WARM and the key. -/
def warmByHost (s : State) : State := warmReset 3 (bump R.AO_WARM_RESETS s)

/-- WARM_RESET (R378): acts only with KEY 0xA5. DEDUCED, log entry 73. -/
def execWarmReset (key : Byte) (s : State) : Res := hub s (fun s => if key = 0xA5 then warmByHost s else s)

/-- LC_PROGRAM_DONE (R384): the state word is programmed, and the life-cycle reset follows. -/
def execLcProgramDone (s : State) : Res :=
  hub s (fun s =>
    match s.fuse.begun with
    | some t =>
      let old := s.fuse.lc
      let s := { s with fuse := { s.fuse with lc := max t old, begun := none } }
      warmReset 7 (lcEffects (modPwr (fun p => { p with oldLc := some (old, false) }) s))
    | none => s)

/-! ### The wake sequence (Table 16-7, R374–R377) -/

/-- An attempt begins: step 1. -/
def beginAttempt (n : Nat) (s : State) : State :=
  let s := setF fClkOk 0 (setF fVready 0 (setF fVregEn 1 s))
  setF fAttempt (min 7 n) (modPwr (fun p => { p with step := .vready, attempt := n }) s)

/-- The sequence starts for a cause. -/
def startWake (cause : Nat) (s : State) : State :=
  beginAttempt 1 (setF fWaking 1 (modPwr (fun p => { p with cause := cause }) s))

/-- The supply of the hub die goes. -/
def dropSupply (s : State) : State := setF fClkOk 0 (setF fVready 0 (setF fVregEn 0 s))

/-- The cause of a wake from S2 or S3. -/
def wakeCode (s : State) : Nat := if s.pwr.nap.isSome then 5 else if s.pwr.cause = 8 ∨ s.pwr.cause ≤ 2 then s.pwr.cause else 6

/-- WAKE_VREADY (R374): step 2. -/
def execWakeVready (s : State) : Res :=
  power s (fun s =>
    if s.pwr.step = .vready then setF fVready 1 (modPwr (fun p => { p with step := .clock }) s) else s)

/-- WAKE_CLOCK_DETECTED (R374): step 3, the wipe runs. -/
def execWakeClockDetected (s : State) : Res :=
  power s (fun s =>
    if s.pwr.step = .clock then startHub (setF fClkOk 1 (modPwr (fun p => { p with step := .wipe }) s)) else s)

/-- An attempt fails (R375, R376). -/
def attemptFails (src : Nat) (s : State) : State :=
  let n := s.pwr.attempt
  let s := setF ⟨R.AO_FAIL, 16, 4⟩ (min 15 n) (setF ⟨R.AO_FAIL, 8, 8⟩ src s)
  let s := dropSupply (modPwr (fun p => { p with failed := true }) s)
  if n ≤ getF s ⟨R.AO_WAKE_RETRY, 0, 4⟩ then modPwr (fun p => { p with step := .backoff }) s
  else
    let s := setF fWakeFail 1 (setF ⟨R.AO_FAIL, 0, 1⟩ 1 (setF fPstate 3 (setF fWaking 0 s)))
    bump R.AO_WAKE_FAILS (modPwr (fun p => { p with step := .idle }) s)

/-- WAKE_VREADY_TIMEOUT (R375). -/
def execWakeVreadyTimeout (s : State) : Res :=
  power s (fun s => if s.pwr.step = .vready then attemptFails 120 s else s)

/-- WAKE_CLOCK_TIMEOUT (R375). -/
def execWakeClockTimeout (s : State) : Res :=
  power s (fun s => if s.pwr.step = .clock then attemptFails 121 s else s)

/-- WAKE_BACKOFF_EXPIRY (R375). -/
def execWakeBackoffExpiry (s : State) : Res :=
  power s (fun s =>
    if s.pwr.step = .backoff then beginAttempt (s.pwr.attempt + 1) (bump R.AO_WAKE_RETRIES s) else s)

/-- A write of 1 to WAKE_FAIL: both pins are released. -/
def wakeFailClear (s : State) : State := setF fWakeFail 0 (setF ⟨R.AO_FAIL, 0, 1⟩ 0 s)

/-- WAKE_FAIL_CLEAR (R376). -/
def execWakeFailClear (s : State) : Res := power s wakeFailClear

/-! ### Retention (R370, R371, Table 16-5) -/

/-- The 65,536 bytes of RB7 (R370). -/
def wordsBytes (words : SMap Word) : List Byte :=
  (List.range 16384).flatMap (fun a => bytesLE 4 (smGet (fun _ => (0 : Word)) words a).toNat)

/-- The bank that holds a register (Table 16-5), if one does. -/
def bankOf (key : Nat) : Option Nat :=
  let page := key % 0x1000000 / 0x1000
  let off := key % 0x1000
  if page = 0x50 then (if 0xC00 ≤ off ∨ (0x400 ≤ off ∧ off < 0x500) then some 1 else some 0)
  else if 0x60 ≤ page ∧ page ≤ 0x6D then some 1
  else if 0x10 ≤ page ∧ page ≤ 0x14 ∧ (off = 0x120 ∨ off = 0x124) then some 1
  else if page = 0x7D ∧ 0x420 ≤ off ∧ off < 0x800 then some 2
  else if page = 3 then (if 0x800 ≤ off ∧ off < 0xC00 then some 4 else none)
  else if (page = 0x88 ∨ page = 0x89) ∧ 0x110 ≤ off ∧ off < 0x130 then some 5
  else if page = 0x8A ∧ off = 0x104 then some 5
  else if page = 1 ∨ page = 2 ∨ page = 4 ∨ page = 5 ∨ powerKey key then none
  else some 0

/-- The bits that RW and RWL give a register, and whether RWS does. -/
def keepMask (key : Nat) : Nat × Bool :=
  let off := key % 0x1000
  match pageKindOf (key % 0x1000000 / 0x1000) with
  | none => (0, false)
  | some k =>
    if off = 0x008 then (1, false)
    else if off = 0x014 ∨ off = 0x044 then (0xFFFFFFFF, false)
    else if off = 0x040 then (if (pageInfo k).fi then 0xFFFFFF0E else 0, false)
    else match findRow k off with
      | none => (0, false)
      | some r => (r.rw ||| r.rwl, r.rws != 0)

/-- The value that bank `b` gives back to a register: whole where the bank is kept for status or counters, else the committed
value of its RWS bits and the RW and RWL bits; every other bit stays as the start has it (`now`). -/
def bankValue (n : Nap) (b key : Nat) (now : Word) : Word :=
  let old := smGet regReset n.regs key
  let (m, rws) := keepMask key
  if b = 4 ∨ b = 5 ∨ (b = 1 ∧ 0x10 ≤ key % 0x1000000 / 0x1000 ∧ key % 0x1000000 / 0x1000 ≤ 0x14) then old
  else if rws then smGet regReset n.act key
  else (old &&& BitVec.ofNat 32 m) ||| (now &&& ~~~(BitVec.ofNat 32 m))

/-- The registers of bank `b` take their values back. -/
def restoreRegs (n : Nap) (b : Nat) (s : State) : State :=
  let keys := (n.regs.map (fun e => e.1) ++ n.act.map (fun e => e.1)).filter (fun k => bankOf k == some b)
  forAll keys (fun k s =>
    let s := setReg k (bankValue n b k (reg s k)) s
    if (keepMask k).2 then commitReg k s else s) s

/-- What the restored registers set going again: links learn the epoch, MACs and hubs their modes, gates their schedules;
a page whose ENABLE is 0 stays gated, and the display engine runs on if it ran. DESIGN CHOICE, log entry 75. -/
def resumeBlocks (s : State) : State :=
  let s := setEpoch (reg s R.PAIR_EPOCH).toNat s
  let s := forAll [0, 1, 2, 3] (fun k s => if bit s (fMacEn k) then macCtrlWrite k (reg s (R.MAC_CTRL k)) (setF (fMacEn k) 0 s) else s) s
  let s := forAll [0, 1, 2, 3, 4, 8, 9, 10, 11] (fun g => gSet g { run := schedOf (actReg s) g }) s
  let v2 := reg s R.USB2_CTRL
  let v3 := reg s R.USB3_CTRL
  let s := setF ⟨R.USB3_CTRL, 0, 1⟩ 0 (setF ⟨R.USB2_CTRL, 0, 1⟩ 0 s)
  let s := usbCtrlWrite true v3 (usbCtrlWrite false v2 s)
  let s := forAll (List.range 256) (fun p s =>
    if (match pageKindOf p with | some k => (pageInfo k).gate | none => false) then
      setF ⟨p * 0x1000 + 0x00C, 0, 1⟩ (getF s ⟨p * 0x1000 + 0x008, 0, 1⟩) s
    else s) s
  if dispOn s then teFollow none false (rasterStart s) else s

/-- Banks of a mask are restored (Table 16-5). -/
def restoreBanks (n : Nap) (mask : Nat) (s : State) : State :=
  let on (b : Nat) (f : State → State) (s : State) : State := when (mask.testBit b) f s
  let s := forAll (List.range 6) (fun b => on b (restoreRegs n b)) s
  let s := on 0 (setF fHidCommitted 1) s
  let s := on 1 (fun s => { s with tun := n.tun }) s
  let s := on 2 (fun s => { s with fwd := n.fwd }) s
  let s := on 3 (modDisp (fun d => { d with img := n.img })) s
  let s := on 4 (fun s => { s with flt := { s.flt with history := n.history, seq := n.seq } }) s
  let s := on 5 (fun s => { s with usb := { s.usb with alt1 := n.alt1 } }) s
  let s := on 7 (modPwr (fun p => { p with words := n.words })) s
  let s := on 5 (setPort8 n.port8) (on 0 resumeBlocks s)
  on 1 (forAll [0, 1, 2, 3] (fun k s => if (boundTo s k).isEmpty then s else suspendBound k s)) s

/-- Bank `b` is kept (R371): its content and canary have not changed in S2 (`held`), the CRC-32C over it is the signature that the power
die holds, and its canary the power die's copy. -/
def bankKept (n : Nap) (held b : Nat) (s : State) : Bool :=
  let sig := if b = 7 then crc32c (wordsBytes n.words) else smGet (fun _ => 0) n.sigs b
  held.testBit b && sig == reg s (R.AO_RB_SIG b) && smGet (fun _ => (0 : Word)) n.canary b == smGet (fun _ => (0 : Word)) n.copies b

/-- The retention check (R371): `held` says of each bank whether its content and canary have stayed as they were. Answers the mask of
lost banks. DESIGN CHOICE, log entry 75. -/
def retention (held : Nat) (s : State) : Nat × State :=
  match s.pwr.nap with
  | none => (0, s)
  | some n =>
    let valid := getF s ⟨R.AO_RB_VALID, 0, 8⟩
    let ok := ((List.range 8).filter (fun b => valid.testBit b && bankKept n held b s)).foldl (fun m b => m ||| 2 ^ b) 0
    let ok := if valid.testBit 0 && !ok.testBit 0 then ok &&& 0xF9 else ok
    let lost := valid ^^^ ok
    let s := restoreBanks n ok (modPwr (fun p => { p with nap := none }) s)
    (lost, setF ⟨R.RST_STATUS, 16, 8⟩ ok (setF ⟨R.RST_STATUS, 8, 8⟩ lost (setF ⟨R.RST_STATUS, 1, 1⟩ 1 s)))

/-! ### The end of the wipe -/

/-- A raise of a start joins those that wait for their turn. DEDUCED, log entry 10. -/
def bootRaise (src detail : Nat) (s : State) : State :=
  modPwr (fun p => { p with boot := p.boot ++ [⟨src, detail % 65536⟩] }) s

/-- The PUF is regenerated, in up to three tries (R387). -/
def pufDone (fails : Nat) (s : State) : State :=
  let s := addCnt R.SEC_PUF_RETRIES (min 2 fails) s
  if 3 ≤ fails then bootRaise 116 3 (setF fRootOk 0 s) else setF fRootOk 1 s

/-- An antifuse read error; the region's number is open (Table 17-4). -/
def fuseError (s : State) : State :=
  bootRaise 119 ((free s).toNat % (16 : Nat)) (nextFree (bump R.SEC_AF_ERRORS (setF fAfErr 1 s)))

/-- The first start in a new life-cycle state (R384, R386). -/
def lcAnnounce (s : State) : State :=
  match s.pwr.oldLc with
  | some (old, cut) =>
    bootRaise 118 (s.fuse.lc + old * 16 + (if cut then 256 else 0))
      (bump R.SEC_LC_TRANSITIONS (modPwr (fun p => { p with oldLc := none }) s))
  | none => s

/-- Steps 4 and 5 of the wake sequence: retention, COLD, RUN, the marker, and the raises that follow it. -/
def wakeArrives (held : Nat) (s : State) : State :=
  let failed := s.pwr.failed
  let s := setF fPstate 0 (setF fWaking 0 (modPwr (fun p => { p with failed := false }) (bump R.AO_WAKES s)))
  let (lost, s) := retention held s
  let s := announceCause failed s
  let s := forAll ((List.range 8).filter lost.testBit) (bootRaise 122) s
  if failed then bootRaise (getF s ⟨R.AO_FAIL, 8, 8⟩) (getF s ⟨R.AO_FAIL, 16, 4⟩) s else s

/-- WAKE_RESET_DONE (R379, R371, R387): the wipe completes. `held` is the mask of retention banks that kept their content,
`puf` the failed regenerations, `fuseBad` an antifuse read error. DEDUCED, log entry 73. -/
def execWakeResetDone (held : BitVec 8) (puf : Fin 4) (fuseBad : Bool) (s : State) : Res :=
  power s (fun s =>
    if s.pwr.step = .wipe then
      let s := setF fWipeDone 1 (modPwr (fun p => { p with step := .idle }) s)
      let s := if bit s fWaking then wakeArrives held.toNat s else s
      let s := when fuseBad fuseError (pufDone puf.val (lcAnnounce s))
      forAll [0, 1, 2, 3, 4] linkStart (pumpBoot (pumpBoot s))
    else s)

/-! ### Pins and supplies -/

/-- The straps are sampled; `STRAP_WIPE_EXT` makes the external wipe due (R380). -/
def sampleStraps (straps : Nat) (s : State) : State :=
  let s := showStraps (modPwr (fun p => { p with straps := straps }) s)
  if straps.testBit 2 then setF fExtWipe 1 s else s

/-- RESET_N_ASSERT (R374): `RESET_N` has been low for 1 µs. DEDUCED, log entry 74. -/
def execResetNAssert (s : State) : Res :=
  power s (fun s =>
    if s.pwr.resetLow then s
    else
      let s := hubReset 2 s
      dropSupply (setF fWaking 0 (bump R.AO_PIN_RESETS (modPwr (fun p => { p with resetLow := true }) s))))

/-- RESET_N_RELEASE (R374): the first one after power-on still serves the power-on reset. DEDUCED, log entry 73. -/
def execResetNRelease (straps : BitVec 3) (s : State) : Res :=
  power s (fun s =>
    if s.pwr.resetLow then
      let cause := if s.pwr.cause = 1 then 1 else 2
      let s := modPwr (fun p => { p with resetLow := false }) (wakeFailClear s)
      startWake cause (sampleStraps straps.toNat s)
    else s)

/-- POWER_ON_RESET (R436, R8): the power die starts; with `RESET_N` high the wake sequence follows.
DESIGN CHOICE, log entry 7. -/
def execPowerOnReset (straps : BitVec 3) (resetHigh : Bool) (s : State) : Res :=
  let t : State := { ticks := s.ticks, freeIdx := s.freeIdx, fuse := s.fuse, disp := { lastTick := s.ticks },
                     pwr := { resetLow := !resetHigh } }
  let t := sampleStraps straps.toNat t
  .next (kept s (if resetHigh then startWake 1 t else t))

/-- VDD_AO_POWER_LOSS (R436): everything but the antifuse is lost. -/
def execVddAoPowerLoss (s : State) : Res :=
  .next (kept s { ticks := s.ticks, freeIdx := s.freeIdx, fuse := s.fuse, disp := { lastTick := s.ticks }, pwr := { on := false } })

/-- CORE_SUPPLY_LOSS (R456): `VREADY` has been low for longer than VRDY_TIMEOUT in RUN or S1. DEDUCED, log entry 74. -/
def execCoreSupplyLoss (s : State) : Res :=
  power s (fun s =>
    if hubRuns s && !bit s fChanging && s.pwr.entry == 0 then startWake 8 (dropSupply (hubReset 8 s)) else s)

end Sys2Proof.Machine
end

