-- ==== Sys2Proof/Machine/Sleep.lean ====
section
/-!
DEFINITION. Sleep entry, S1 Doze, wake sources, link and soft resets, RB7 (16_power_states_reset_and_wipe.md R365–R373, R378).
-/
namespace Sys2Proof.Machine

/-! ### Requests and entries -/

/-- The mode is listed for a target in Table 16-3. -/
def sleepMode (s : State) (t : Nat) : Bool :=
  if t = 1 then mode s != mService
  else mode s == mCold || mode s == mSolo || (mode s == mIsland && getF s fPrev == mSolo)

/-- An entry begins at a step of Table 16-4 (S1: the wait of R369). -/
def beginEntry (t step : Nat) (s : State) : State :=
  setF fAoEntering 1 (setF fEntering 1 (setF fSleepResult 0 (modPwr (fun p => { p with entry := step, target := t }) s)))

/-- A write of `PM.SLEEP_REQ` (R366). -/
def sleepRequest (t : Nat) (s : State) : State :=
  let s := endDoze s
  if bit s fChanging || s.pwr.entry != 0 then setF fSleepResult 1 s
  else if t = 0 then setF fSleepResult 5 s
  else if !sleepMode s t then setF fSleepResult 2 s
  else if t = 1 then beginEntry 1 1 s
  else beginEntry t 2 { s with pair := { s.pair with frozen := true } }

/-- SLEEP_REQUEST (R366): step 1 of Table 16-4 freezes ingress. -/
def execSleepRequest (target : BitVec 2) (s : State) : Res := hub s (sleepRequest target.toNat)

/-- An entry under way is over without sleep: ingress is released, the result shown. -/
def endEntry (result : Nat) (s : State) : State :=
  setF fAoEntering 0 (setF fEntering 0 (setF fSleepResult result (modPwr (fun p => { p with entry := 0, target := 0 }) (thaw s))))

/-- Every egress queue is empty. -/
def queuesEmpty (s : State) : Bool :=
  s.loft.all (fun e => e.2.onchip.isEmpty && e.2.chunks.isEmpty && e.2.staging.isEmpty)

/-- The crossings of every rim that S1 Doze gates, and the stream crossings of all the others, are empty (R337, R369). -/
def streamsEmpty (s : State) : Bool :=
  (List.range 62).all (fun x =>
    if xType x = some 2 then (bobWords s x).isEmpty
    else !dozeGates s x || ((xGet s x).inFlight.isNone && (xGet s x).pending.isNone))

/-- S1_ENTRY (R337, R369): S1_IDLE of idleness has passed after a request, or again under S1_AUTO. -/
def execS1Entry (s : State) : Res :=
  hub s (fun s =>
    let asked := s.pwr.entry == 1
    if (asked || (s.pwr.again && bit s fS1Auto && s.pwr.entry == 0)) && queuesEmpty s && streamsEmpty s && !bit s fChanging
        && !bit s fDoze && mode s != mService then
      let s := if asked then endEntry 0 s else s
      let s := setF fDoze 1 (setF fPstate 1 (bump R.PM_S1_ENTRIES (modPwr (fun p => { p with again := false }) s)))
      let s := forAll [0, 1, 2, 3] askLowpower s
      if bit s ⟨R.PM_SLEEP_CTRL, 8, 1⟩ && !dispOn s then modMem (fun m => { m with selfRefresh := true }) s else s
    else s)

/-- S1_EXIT (R369): activity of the list ends S1. -/
def execS1Exit (s : State) : Res := hub s endDoze

/-- A physical PCIe link goes to L2: its tick of leaving L0 and L1 is kept, and its VDPs follow (R218). -/
def pcieL2 (k : Nat) (s : State) : State := adaptersFollow (when (bit s (fDlUp k)) (pcieLeave k) s)

/-- SLEEP_DRAIN_DONE (R367): step 3 of Table 16-4. -/
def execSleepDrainDone (s : State) : Res :=
  hub s (fun s =>
    if s.pwr.entry == 2 && drained s then
      let s := modPwr (fun p => { p with entry := 3 }) s
      let s := forAll [0, 1, 2, 3, 4] (fun n => linkDown n 7) s
      let s := modPwr (fun p => { p with l2 := [0, 1].filter (fun k => bit s (fDlUp k)) }) s
      let s := pcieL2 1 (pcieL2 0 s)
      let s := when (bit s ⟨R.USB2_STATUS, 0, 1⟩) (fun s => setF ⟨R.USBD_STATUS, 2, 1⟩ 1 (setF ⟨R.USB2_STATUS, 3, 1⟩ 1 s)) s
      let s := when (physical3 s 0 && decide (getF s (fLink3 0) ≤ plsU2)) (setF (fLink3 0) plsU3) s
      let s := outputsFollow s
      if s.pwr.target = 2 then modMem (fun m => { m with selfRefresh := true }) s else s
    else s)

/-- The detail of source 123 for an entry that ends at its present step. -/
def entryStep (s : State) : Nat := if s.pwr.target = 1 then 0 else s.pwr.entry

/-- SLEEP_DRAIN_TIMEOUT (R367, R368, R369). DESIGN CHOICE, log entry 72. -/
def execSleepDrainTimeout (s : State) : Res :=
  hub s (fun s =>
    if s.pwr.entry = 1 ∨ s.pwr.entry = 2 then
      raise 123 (8 + entryStep s) (bump R.PM_ENTRY_ABORTS (endEntry 3 s))
    else s)

/-- A physical PCIe link that an entry took to L2 is in L0 again. -/
def pcieBack (k : Nat) (s : State) : State := islandFollow (adaptersFollow (linkUse k (setF (fDlUp k) 1 s)))

/-- The entry under way is given up: ingress is released, and the step in progress is undone; links retrain under R68. -/
def undoEntry (s : State) : State :=
  let step := s.pwr.entry
  let l2 := s.pwr.l2
  let s := modPwr (fun p => { p with l2 := [] }) (endEntry 4 s)
  if step = 3 then
    let s := outputsFollow (busResumed (modMem (fun m => { m with selfRefresh := false }) s))
    let s := when (physical3 s 0 && decide (getF s (fLink3 0) = plsU3)) (setF (fLink3 0) plsU0) s
    forAll [0, 1, 2, 3, 4] linkStart (forAll l2 pcieBack s)
  else s

/-- A wake cause before step 5 aborts the entry (R368). Steps 1 and 2 pass without a command between them, and so do steps 3 and 4 of an
entry to S2: which of the two the cause has met is open. DESIGN CHOICE, log entry 72. -/
def abortEntry (s : State) : State :=
  let f := (free s).toNat % (2 : Nat)
  let step := if s.pwr.entry = 2 then 1 + f else if s.pwr.target = 2 then 3 + f else 3
  raise 123 step (bump R.PM_ENTRY_ABORTS (undoEntry (nextFree s)))

/-- A reset of a link or a block abandons a sleep entry (R378). DEDUCED, log entry 76. -/
def abandonEntry (s : State) : State := if s.pwr.entry = 0 then s else undoEntry s

/-- The 65,536 bytes of RB7 (R370). -/
def rb7Bytes (s : State) : List Byte := wordsBytes s.pwr.words

/-- Bank `b` receives its signature, which is open for a bank with an internal layout, and a random canary word, which the power die
copies (R370). -/
def signBank (b : Nat) (s : State) : State :=
  let s := if b = 7 then setReg (R.AO_RB_SIG 7) (crc32c (rb7Bytes s)) s
    else setReg (R.AO_RB_SIG b) (BitVec.ofNat 32 (free s).toNat) (nextFree s)
  let c := BitVec.ofNat 32 (free s).toNat
  let n := s.pwr.nap.getD {}
  let z : Nat → Word := fun _ => 0
  nextFree (modPwr (fun p => { p with nap := some { n with sigs := smSet z n.sigs b (reg s (R.AO_RB_SIG b)), canary := smSet z n.canary b c,
                                                           copies := smSet z n.copies b c } }) s)

/-- Step 4: the banks of RET_MASK are signed (R370). DESIGN CHOICE, log entry 75. -/
def signBanks (s : State) : State :=
  let mask := getF s ⟨R.PM_SLEEP_CTRL, 0, 8⟩
  let s := forAll ((List.range 8).filter mask.testBit) signBank (modPwr (fun p => { p with nap := none }) s)
  let signed := s.pwr.nap.getD {}
  let nap : Nap := { regs := s.regs, act := s.act, tun := s.tun, fwd := s.fwd, img := s.disp.img, history := s.flt.history,
                     seq := s.flt.seq, alt1 := s.usb.alt1, port8 := s.usb.port8, words := s.pwr.words,
                     sigs := signed.sigs, canary := signed.canary, copies := signed.copies }
  modPwr (fun p => { p with nap := some nap }) (setReg R.AO_RB_VALID (BitVec.ofNat 32 mask) s)

/-- Bits of Table 16-6 that act as level wakes. -/
def levelBits (s : State) : Nat := 0x7C + getF s ⟨R.AO_WAKE_CFG, 0, 2⟩

/-- The causes enabled in `AO.WAKE_EN`. -/
def wakeEnabled (s : State) : Nat := getF s ⟨R.AO_WAKE_EN, 0, 9⟩

/-- SLEEP_ENTRY_COMPLETE (R367, R370, R373): steps 4 and 5. `edges` arrived during step 5 and are missed; `levels` are present
at its end. DESIGN CHOICE, log entries 7, 72, 75. -/
def execSleepEntryComplete (edges levels : BitVec 9) (s : State) : Res :=
  hub s (fun s =>
    if s.pwr.entry = 3 then
      let t := s.pwr.target
      let s := if t = 2 then signBanks (bump R.PM_S2_ENTRIES s)
        else setReg R.AO_RB_VALID 0 (bump R.PM_S3_ENTRIES { s with dram := [], mem := { s.mem with fi := [] } })
      let s := setF fPstate t (dropSupply (hubReset (if t = 2 then 5 else 6) s))
      let missed := edges.toNat &&& wakeEnabled s &&& (0x1FF ^^^ levelBits s)
      let s := setF ⟨R.AO_WAKE_STATUS, 16, 9⟩ (getF s ⟨R.AO_WAKE_STATUS, 16, 9⟩ ||| missed) s
      let s := addCnt R.AO_EDGES_MISSED (popcount 9 missed) s
      let now := levels.toNat &&& wakeEnabled s &&& levelBits s
      if now = 0 then s else startWake (wakeCode s) (setF ⟨R.AO_WAKE_STATUS, 0, 9⟩ now s)
    else s)

/-! ### Wake sources (R372, R376) -/

/-- Cause `b` of Table 16-6 arrives. DESIGN CHOICE, log entry 72. -/
def wakeCause (b : Nat) (s : State) : State :=
  if !(wakeEnabled s).testBit b || s.pwr.resetLow then s
  else
    let note (s : State) : State := setF ⟨R.AO_WAKE_STATUS, 0, 9⟩ (2 ^ b) s
    if bit s fWakeFail then setF ⟨R.AO_WAKE_STATUS, b, 1⟩ 1 s
    else if bit s fWaking then s
    else if 2 ≤ s.pwr.entry then abortEntry s
    else if bit s fDoze then note (endDoze s)
    else if 2 ≤ getF s fPstate then startWake (wakeCode s) (note s)
    else s

/-- WAKE_CAUSE (R372). -/
def execWakeCause (b : Fin 9) (s : State) : Res := power s (wakeCause b.val)

/-- AO_WAKE_CMD (R376): a write of `AO.CMD.WAKE`. -/
def execAoWakeCmd (s : State) : Res := power s (wakeCause 8)

/-- AO_TIMER_EXPIRY (R372): the timer counts in S2 and S3. -/
def execAoTimerExpiry (s : State) : Res :=
  power s (fun s =>
    if 2 ≤ getF s fPstate ∧ getF s ⟨R.AO_TIMER, 0, 24⟩ ≠ 0 ∧ ¬ bit s fWaking then wakeCause 7 (setReg R.AO_TIMER 0 s) else s)

/-! ### Link and soft resets (R378) -/

/-- Link `n` and its lanes are reset; its crossings resynchronise, and what lay in them is counted (R339, R340). -/
def linkReset (n : Nat) (s : State) : State :=
  let s := linkDown n 7 (forAll [n, 16 + n, 51 + n] resyncOwn (abandonEntry s))
  let s := forAll (linkLanes n) (fun k => setReg (R.LANE_STATUS (lanePage n k)) 0) s
  lSet n { lGet s n with replay := [], forming := [], ctlOut := [], closeOut := [] } s

/-- LINK_RESET (R378): `RST.CTRL.LINK`. -/
def execLinkReset (mask : BitVec 5) (s : State) : Res :=
  hub s (forAll ((List.range 5).filter mask.toNat.testBit) linkReset)

/-- A write of `RST.CTRL`. -/
def rstCtrlWrite (v : Word) (s : State) : State :=
  let s := forAll ((List.range 5).filter (fun n => v.toNat.testBit (16 + n))) linkReset s
  if v.toNat.testBit 0 && bits v.toNat 8 8 == 0xA5 then warmByHost s else s

abbrev fSoftReset (page : Nat) : Fld := ⟨page * 0x1000 + 0x008, 1, 1⟩
abbrev fResetting (page : Nat) : Fld := ⟨page * 0x1000 + 0x00C, 1, 1⟩

/-- SOFT_RESET acts on a page (R378). -/
def softPage (page : Nat) : Bool := match pageKindOf page with | some k => (pageInfo k).soft | none => false

/-- Status and counters of a page return to reset; RW, RWS and RWL values stay. -/
def softRegs (page : Nat) (s : State) : State :=
  let keys := (s.regs.map (fun e => e.1)).filter (fun k => k % 0x1000000 / 0x1000 == page && 0x100 ≤ k % 0x1000)
  forAll keys (fun k s =>
    match pageKindOf page with
    | none => s
    | some kd =>
      match findRow kd (k % 0x1000) with
      | none => s
      | some r =>
        let m := BitVec.ofNat 32 (r.rw ||| r.rws ||| r.rwl)
        setReg k ((reg s k &&& m) ||| (regReset k &&& ~~~m)) s) s

/-- State machines, queues and buffers of a block. -/
def softBlock (page : Nat) (s : State) : State :=
  match pageKindOf page with
  | some .mac => let k := page - 0x79; macSet k { mode := (macGet s k).mode } (macNoLink k s)
  | some .pcieu => { s with pcie := { s.pcie with open_ := [] } }
  | some .usb2 =>
    { s with usb := { s.usb with pullup := false, change := [], tt := [], hubWake := false, halt2 := false, driving := none, port8 := 0,
                                 toggle := s.usb.toggle.filter (fun e => decide (e.1 < 9)) } }
  | some .usb3 =>
    { s with usb := { s.usb with change3 := [], u1 := [], u2 := [], far := [], rxDetect := false, addr3 := 0, depth := 0, seq3 := 0,
                                 halt3 := false } }
  | some .usbd =>
    let u := toggleReset s.usb
    { s with usb := { u with held := none, zlpSent := false, applied := false, alt1 := false, ep2 := [], ep1Last := [], devWake := false } }
  | some .disp =>
    let keep (d : Disp) : Disp := { altHpd := d.altHpd, lastTick := s.ticks, outputs := d.outputs, training := d.training.filter (· < 4) }
    setF fPending 0 (modDisp keep s)
  | some .doutDp | some .doutDsi =>
    setF ⟨page * 0x1000 + 0x024, 0, 1⟩ 0 (modDisp (fun d => { d with outputs := d.outputs.filter (fun o => o.1 != page - 0x71),
                                                                     training := d.training.filter (· != page - 0x71) }) s)
  | some .brg => { s with brg := { req := s.brg.req } }
  | _ => s

/-- What a block does again after its reset with the settings it kept. -/
def softRestart (page : Nat) (s : State) : State :=
  match pageKindOf page with
  | some .usb2 => adaptersFollow (if bit s fEn2 then portsOn (portsOff s) else s)
  | some .usb3 | some .pcieu | some .pcied => adaptersFollow s
  | some .disp => if dispOn s then dispCtrlSet (reg s R.DISP_CTRL) (setF fDispEn 0 s) else s
  | some .doutDp | some .doutDsi => outputsFollow s
  | _ => s

/-- The indexed crossings of a block (Table 14-1). DEDUCED, log entry 76. -/
def blockCrossings (page : Nat) : List Nat :=
  match pageKindOf page with
  | some .pcieu => [5, 21, 41]
  | some .pcied => [6, 22, 41]
  | some .usb2 | some .usb3 | some .usbd => [8, 24, 42]
  | some .mac => [7, 23, 40, 56]
  | some .doutDp | some .doutDsi => [39]
  | some .lane =>
    let p := page - 0x20
    if p ≤ 16 then let n := p / 4; [n, 16 + n, 51 + n]
    else if p ≤ 20 then [7, 23, 56] else if p = 21 then [5, 21] else if p = 22 then [6, 22] else if p ≤ 24 then [39] else [8, 24]
  | some .disp => [39, 48, 49, 57]
  | some .brg => [13, 29, 43]
  | _ => []

/-- A write that sets SOFT_RESET. DEDUCED, log entry 76. -/
def softReset (page : Nat) (s : State) : State :=
  if softPage page then
    let s := abandonEntry s
    let s := if page = 0x80 ∨ page = 0x81 then pcieDown (page - 0x80) s else s
    let s := softBlock page (softRegs page s)
    setF (fResetting page) 1 (setF (fSoftReset page) 1 s)
  else s

/-- SOFT_RESET (R378). -/
def execSoftReset (page : BitVec 12) (s : State) : Res := hub s (softReset page.toNat)

/-- SOFT_RESET_DONE (R378): the block leaves reset, and its crossings resynchronise (R339). DEDUCED, log entry 76. -/
def execSoftResetDone (page : BitVec 12) (s : State) : Res :=
  hub s (fun s =>
    let p := page.toNat
    if bit s (fResetting p) then
      forAll (blockCrossings p) resyncOwn (softRestart p (setF (fResetting p) 0 (setF (fSoftReset p) 0 s)))
    else s)

/-! ### RB7 -/

/-- An access of `PM.RB7_DATA`: the word read, and the address advanced (R370). -/
def rb7Access (write : Option Word) (s : State) : Word × State :=
  let a := getF s ⟨R.PM_RB7_ADDR, 0, 14⟩
  let v := smGet (fun _ => (0 : Word)) s.pwr.words a
  let s := match write with
    | some w => modPwr (fun p => { p with words := smSet (fun _ => (0 : Word)) p.words a w }) s
    | none => s
  (v, setReg R.PM_RB7_ADDR (BitVec.ofNat 32 ((a + 1) % 16384)) s)

/-- RB7_DATA_ACCESS (R370): a read, or a write of a word. -/
def execRb7DataAccess (write : Option Word) (s : State) : Res :=
  hub s (fun s =>
    let (v, s) := rb7Access write s
    if write.isNone then emit (.readData v) s else s)

end Sys2Proof.Machine
end

