-- ==== Sys2Proof/Machine/Faults.lean ====
section
/-!
DEFINITION. The fault collector: severities, actions, escalation, captures and fault injection
(15_faults_and_event_history.md R343–R360).
-/
namespace Sys2Proof.Machine

abbrev fShed : Fld := ⟨R.FLT_STATUS, 2, 3⟩
abbrev fVector (src : Nat) : Fld := ⟨R.FLT_SRC src, 8, 5⟩
abbrev fEscCount (src : Nat) : Fld := ⟨R.FLT_SRC src, 16, 8⟩
abbrev fPend (src : Nat) : Fld := bitIn (R.FLT_PEND 0) src

def modFlt (f : Flt → Flt) (s : State) : State := { s with flt := f s.flt }

/-! ### Pins (R355, R376) -/

/-- Any pending bit is set. -/
def anyPending (s : State) : Bool :=
  (List.range 4).any (fun k => reg s (R.FLT_PEND k) != 0) || getF s ⟨R.FLT_PEND4, 0, 8⟩ != 0

/-- The power die drives `FAULT_N` and `INT_N` low: WAKE_FAIL is latched, until it is cleared or `RESET_N` rises (R374, R376). -/
def wakeFailDriven (s : State) : Bool := bit s ⟨R.AO_FAIL, 0, 1⟩

/-- `INT_N` is driven low, by the collector or by the power die (R355, R376). -/
def intDriven (s : State) : Bool := (bit s ⟨R.FLT_CTRL, 0, 1⟩ && anyPending s) || wakeFailDriven s

/-- `FAULT_N` is driven low, by the collector or by the power die (R355, R376). -/
def faultDriven (s : State) : Bool :=
  (List.range 128).any (fun n => bit s (fPend n) && decide (4 ≤ natGet s.flt.sev n)) || bit s ⟨R.FLT_HALT_CAUSE, 15, 1⟩
    || wakeFailDriven s

/-! ### Actions -/

/-- The four words of a record, byte `4w` in [31:24] of word `w` (R353). -/
def recordWords (r : Record) : List Nat := (List.range 4).map (fun w => ofBE (sub (recordBytes r) (4 * w) 4))

/-- A record of a raise enters the first-event capture where that is empty (R354). -/
def capture (r : Record) (s : State) : State :=
  if bit s fFirstValid then s
  else
    setF fFirstValid 1 (forAll (recordWords r).zipIdx (fun p => setReg (R.FLT_FIRST p.2) (BitVec.ofNat 32 p.1)) s)

/-- LOG: an event record with the severity applied (R351). -/
def logRaise (src detail v : Nat) (s : State) : State :=
  let p := s.plumb
  capture { sec := p.sec, ns := p.ns, source := src, kindEdge := v * 32, seq := s.flt.seq % 65536, detail := detail % 65536 }
    (record p src (v * 32) detail s)

/-- NOTIFY: the pending bit, and one message where it rises (R354, R356). -/
def notify (src : Nat) (s : State) : State :=
  let was := bit s (fPend src)
  let s := islandFaultBack src (setF (fPend src) 1 s)
  if was then s else sendMsix (getF s (fVector src)) s

/-- The bridge is contained: EN clears, the bus is released, pending outbound writes are discarded. -/
def brgContain (s : State) : State :=
  let skipped := (((allJobs s).filter LbJob.isWrite).map (fun j => j.cycles.length)).sum
  let s := journalReg R.BRG_CTRL (reg s R.BRG_CTRL &&& ~~~1) (setF ⟨R.BRG_CTRL, 0, 1⟩ 0 (addCnt R.BRG_PERR_SKIPPED skipped s))
  brgEnFollow (brgSync { s with brg := { s.brg with jobs := s.brg.jobs.filter (fun j => !j.isWrite),
                                                    held := s.brg.held.filter (fun j => !j.isWrite) } })

/-- Every authentication ends (Table 15-5, R393). -/
def closeGates (s : State) : State :=
  { s with sec := { s.sec with path := s.sec.path.map (fun e => (e.1, { e.2 with authed := false })) } }

/-- The action of Table 15-5. DESIGN CHOICE, log entry 71. -/
def contain (src detail : Nat) (s : State) : State :=
  if src < 25 then linkCtrlWrite (src / 5) (reg s (R.LINK_CTRL (src / 5)) ||| 2) s
  else if 64 ≤ src ∧ src ≤ 67 then macCtrlWrite (src - 64) (reg s (R.MAC_CTRL (src - 64)) &&& ~~~1) s
  else if src = 68 then macCtrlWrite (detail % 4) (reg s (R.MAC_CTRL (detail % 4)) &&& ~~~1) s
  else if src = 81 then
    let p := detail % 32
    if 256 ≤ detail % 512 then
      (if 1 ≤ p ∧ p ≤ 6 then setF (fPls3 p) plsDisabled (setF (fConn3 p) 0 (setF (fVirtual3 p) 0 s)) else s)
    else if 1 ≤ p ∧ p ≤ 7 then (if 2 ≤ getF s (fPort p) then setF (fPort p) psDisabled s else s)
    else s
  else if 88 ≤ src ∧ src ≤ 91 then brgContain s
  else if 112 ≤ src ∧ src ≤ 119 then closeGates s
  else s

/-- One shedding step: the lowest-priority class not yet shed (R347). -/
def shedStep (s : State) : State :=
  let n := getF s fShed
  if n < 4 then setF fShed (n + 1) (bump R.FLT_SHEDS (accrueAll s)) else s

/-- DEGRADE (R347); where its action is that of CONTAIN, that has been taken. -/
def degrade (src : Nat) (s : State) : State :=
  if islandArmed s then declareIsland 3 (modModes (fun m => { m with source := some src }) s)
  else if mode s = mSolo ∨ mode s = mActive ∨ mode s = mIsland then
    shedStep (modFlt (fun f => { f with shedSrc := some src }) s)
  else s

/-- FAILOVER (R348, R323). -/
def failover (src : Nat) (s : State) : State :=
  if holdsRole s then relinquish (swapInterrupted s)
  else if mode s = mSolo ∨ mode s = mIsland then degrade src s
  else s

/-- HALT (R349): the source is kept, the outputs are safe as a reset leaves them, and a warm reset follows. -/
def halt (src : Nat) (s : State) : State :=
  warmReset 4 (bump R.AO_WARM_RESETS (setReg R.FLT_HALT_CAUSE (BitVec.ofNat 32 (src + 0x8000)) s))

/-! ### A raise at the collector (R345, R350) -/

/-- The escalation count rises; the raise that completes it sets the ESC bit. -/
def escalate (src : Nat) (s : State) : State :=
  let limit := getF s (fEscCount src)
  if limit = 0 ∨ bit s (fEsc src) then s
  else
    let n := natGet s.flt.esc src + 1
    let s := modFlt (fun f => { f with esc := natSet f.esc src n }) s
    if limit ≤ n then bump R.FLT_ESCALATIONS (setF (fEsc src) 1 s) else s

/-- A raise that has reached the collector is handled. DESIGN CHOICE, log entry 71. -/
def handle (p : Pulse) (s : State) : State :=
  let src := p.code
  let s := escalate src s
  let v := severityOf src s
  let s := modFlt (fun f => { f with sev := natSet f.sev src v }) s
  let s := when (decide (3 ≤ v)) endDoze s
  let s := when (decide (1 ≤ v)) (bump (R.FLT_SRCCNT src)) s
  let s := when (decide (2 ≤ v)) (logRaise src p.detail v) s
  let s := when (decide (3 ≤ v)) (notify src) s
  let s := when (decide (4 ≤ v)) (contain src p.detail) s
  if v = 5 then degrade src s else if v = 6 then failover src s else if v = 7 then halt src s else s

/-- FAULT_RAISE (R345): the pulse in flight at a fault group's crossing arrives, or the next raise of the CDC block.
DEDUCED, log entry 11. -/
def execFaultRaise (via : FaultVia) (s : State) : Res :=
  hub s (fun s =>
    match via with
    | .group g =>
      let x := 32 + g.val
      let c := xGet s x
      match c.inFlight with
      | some p => if c.delivered ∨ c.resyncing then s else handle p (xSet x { c with delivered := true } s)
      | none => s
    | .direct =>
      match s.flt.direct with
      | p :: rest => handle p (modFlt (fun f => { f with direct := rest }) s)
      | [] => s)

/-- SHED_STEP_TIMER (R347): the pending bit of the source of the last DEGRADE step is still set. -/
def execShedStepTimer (s : State) : Res :=
  hub s (fun s =>
    match s.flt.shedSrc with
    | some src => if bit s (fPend src) then shedStep s else s
    | none => s)

/-- ESCALATION_WINDOW_END (R350): ESC_WINDOW has passed since the first raise that the count holds. -/
def execEscalationWindowEnd (src : BitVec 7) (s : State) : Res :=
  hub s (modFlt (fun f => { f with esc := natSet f.esc src.toNat 0 }))

/-- A write of 1 to an ESC bit. -/
def escClear (src : Nat) (s : State) : State :=
  setF (fEsc src) 0 (modFlt (fun f => { f with esc := natSet f.esc src 0 }) s)

/-- ESC_CLEAR (R350). -/
def execEscClear (src : BitVec 7) (s : State) : Res := hub s (escClear src.toNat)

/-- The vector of a source's or a pin's pending bit. -/
def vectorOf (s : State) (n : Nat) : Nat := if n < 128 then getF s (fVector n) else getF s ⟨R.FLT_CTRL, 8, 5⟩

/-- A message of vector `v` that still waits has lost its cause: nothing is pending under it any longer, and its PBA bit clears
(R356). PRESUMED, log entry 96. -/
def pbaFollow (v : Nat) (s : State) : State :=
  let stands := (List.range 136).any (fun n => bit s (fPend n) && vectorOf s n == v)
    || (!s.flt.rxq.isEmpty && getF s ⟨R.FLT_CTRL, 16, 5⟩ == v)
  if stands || !bit s ⟨0x3F00, v, 1⟩ then s else setF ⟨0x3F00, v, 1⟩ 0 s

/-- A write of 1 to a pending bit: an ISLAND that its source caused has lost its cause, the shedding steps of its source end (R347),
and so does its message that is still masked. -/
def pendClear (src : Nat) (s : State) : State :=
  let s := if s.flt.shedSrc = some src then modFlt (fun f => { f with shedSrc := none }) s else s
  let v := vectorOf s src
  pbaFollow v (islandFaultGone src (setF (fPend src) 0 s))

/-! ### Commands of the FLT page -/

/-- `FLT.CMD.UNSHED` (R347): the classes return all at once; the steps of a source that stays pending go on. -/
def fltUnshed (s : State) : State := setF fShed 0 (accrueAll s)

/-- FLT_UNSHED (R347). -/
def execFltUnshed (s : State) : Res := hub s fltUnshed

/-- `FLT.CMD.FIRST_CLR` (R354). -/
def fltFirstClr (s : State) : State :=
  setF fFirstValid 0 (forAll (List.range 4) (fun w => setReg (R.FLT_FIRST w) 0) s)

/-- FLT_FIRST_CLR (R354). -/
def execFltFirstClr (s : State) : Res := hub s fltFirstClr

/-- `FLT.CMD.HIST_SNAP` (R353): HIST0 is the newest record. -/
def fltHistSnap (s : State) : State :=
  forAll (List.range 16) (fun i s =>
    let ws := match s.flt.history[i]? with | some r => recordWords r | none => [0, 0, 0, 0]
    forAll ws.zipIdx (fun p => setReg (R.FLT_HIST (4 * i + p.2)) (BitVec.ofNat 32 p.1)) s) s

/-- FLT_HIST_SNAP (R353). -/
def execFltHistSnap (s : State) : Res := hub s fltHistSnap

/-- A write of `FLT.CMD`. -/
def fltCmdWrite (v : Word) (s : State) : State :=
  let s := when (v.toNat.testBit 0) fltUnshed s
  let s := when (v.toNat.testBit 1) fltFirstClr s
  when (v.toNat.testBit 2) fltHistSnap s

/-- A read of `FLT.RX_HDR` (R357): the oldest entry is popped into RX_W0 to W3. -/
def rxHdrRead (s : State) : Word × State :=
  match s.flt.rxq with
  | (hid, r) :: rest =>
    let s := modFlt (fun f => { f with rxq := rest }) s
    let s := forAll (recordWords r).zipIdx (fun p => setReg (R.FLT_RX_W p.2) (BitVec.ofNat 32 p.1)) s
    (BitVec.ofNat 32 (1 + hid % 64 * 256 + rest.length % 1024 * 65536), pbaFollow (getF s ⟨R.FLT_CTRL, 16, 5⟩) s)
  | [] => (0, setF ⟨R.FLT_STATUS, 5, 1⟩ 0 s)

/-- FLT_RX_HDR_READ (R357). -/
def execFltRxHdrRead (s : State) : Res :=
  hub s (fun s => let (v, s) := rxHdrRead s; emit (.readData v) s)

/-! ### Fault injection (R359) -/

/-- The checkers of a page (Table 15-8). -/
def checkerThere (page chk : Nat) : Bool :=
  (page == 0x52 && decide (chk < 3)) || ((page == 0x53 || page == 0x7D) && chk == 0)

/-- A write of a page's `FI_CTRL`: ignored outside SERVICE; ARM set with a checker that is there arms N writes. -/
def fiCtrlWrite (page : Nat) (v : Word) (s : State) : State :=
  let key := page * 0x1000 + 0x040
  let fi : Bool := match pageKindOf page with | some k => (pageInfo k).fi | none => false
  if mode s = mService ∧ fi = true then
    let s := setReg key ((v &&& 0xFFFFFF0E) ||| (reg s key &&& 1)) s
    if v.toNat.testBit 0 && checkerThere page (getF s ⟨key, 1, 3⟩) then
      setF ⟨key, 0, 1⟩ 1 { s with fi := natSet s.fi page (max 1 (getF s ⟨key, 16, 16⟩)) }
    else s
  else s

/-- FI_ARM (R359). -/
def execFiArm (page : BitVec 12) (v : Word) (s : State) : Res := hub s (fiCtrlWrite page.toNat v)

end Sys2Proof.Machine
end

