-- ==== Sys2Proof/Machine/TypeC.lean ====
section
/-!
DEFINITION. Type-C and Power Delivery (11_type_c_and_power_delivery.md R258–R276): attach, contracts, the VBUS switch and its
fuse, swaps and hard reset, modes and the mux. All of it runs on the power die; what it does to the link, the display and a
swap of the pair comes about only while the hub die runs. The layouts of source objects, requests and VDOs are those of USB
Power Delivery 3.1, which the spec names and does not repeat (PRESUMED).
-/
namespace Sys2Proof.Machine

/-! ### Fields -/

abbrev fCc (n : Nat) : Fld := ⟨R.TC_STATUS n, 0, 3⟩
abbrev fOrient (n : Nat) : Fld := ⟨R.TC_STATUS n, 3, 1⟩
abbrev fPwrRole (n : Nat) : Fld := ⟨R.TC_STATUS n, 4, 1⟩
abbrev fDataRole (n : Nat) : Fld := ⟨R.TC_STATUS n, 5, 1⟩
abbrev fVconnSrc (n : Nat) : Fld := ⟨R.TC_STATUS n, 6, 1⟩
abbrev fContract (n : Nat) : Fld := ⟨R.TC_STATUS n, 7, 1⟩
abbrev fEpr (n : Nat) : Fld := ⟨R.TC_STATUS n, 8, 1⟩
abbrev fSwitch (n : Nat) : Fld := ⟨R.TC_STATUS n, 9, 1⟩
abbrev fTransition (n : Nat) : Fld := ⟨R.TC_STATUS n, 10, 1⟩
abbrev fDischarging (n : Nat) : Fld := ⟨R.TC_STATUS n, 11, 1⟩
abbrev fMux (n : Nat) : Fld := ⟨R.TC_STATUS n, 12, 3⟩
abbrev fEmarked (n : Nat) : Fld := ⟨R.TC_STATUS n, 15, 1⟩
abbrev fRetryMs (n : Nat) : Fld := ⟨R.TC_STATUS n, 16, 16⟩
abbrev fTcCtrl (n i : Nat) : Fld := ⟨R.TC_CTRL n, i, 1⟩
abbrev fTcBusy (n : Nat) : Fld := ⟨R.TC_CMD_STATUS n, 0, 1⟩
abbrev fTcResult (n : Nat) : Fld := ⟨R.TC_CMD_STATUS n, 1, 3⟩
abbrev fModePol (n i : Nat) : Fld := ⟨R.TC_MODE_POLICY n, i, 1⟩
abbrev fPg : Fld := ⟨R.PP_STATUS, 7, 1⟩

abbrev ccUnattached : Nat := 0
abbrev ccSrc : Nat := 2
abbrev ccSnk : Nat := 3
abbrev ccTry : Nat := 4
abbrev ccHold : Nat := 5
abbrev ccDisabled : Nat := 6

def dTc : Nat → Tc := fun _ => {}
def tcGet (s : State) (n : Nat) : Tc := smGet dTc s.tc n
def tcSet (n : Nat) (v : Tc) (s : State) : State := { s with tc := smSet dTc s.tc n v }
def modTc (n : Nat) (f : Tc → Tc) (s : State) : State := tcSet n (f (tcGet s n)) s

def cc (s : State) (n : Nat) : Nat := getF s (fCc n)
def mux (s : State) (n : Nat) : Nat := getF s (fMux n)
def isAttached (s : State) (n : Nat) : Bool := cc s n == ccSrc || cc s n == ccSnk
def isSource (s : State) (n : Nat) : Bool := isAttached s n && bit s (fPwrRole n)
def isSink (s : State) (n : Nat) : Bool := isAttached s n && !bit s (fPwrRole n)
def isDfp (s : State) (n : Nat) : Bool := isAttached s n && bit s (fDataRole n)
/-- PD is enabled, and no BIST Test Data mode holds its protocol. -/
def pdOn (s : State) (n : Nat) : Bool := bit s (fTcCtrl n 6) && !(tcGet s n).bist

/-- What reaches the hub die, which may be off or in reset. DESIGN CHOICE, log entry 28. -/
def onHub (f : State → State) (s : State) : State := if hubRuns s then f s else s

/-- The port sends a PD message. -/
def pd (n : Nat) (m : PdMsg) (s : State) : State := emit (.pd n m) s

/-! ### Voltage setting and budget (R261, R263) -/

/-- The VSET code of a voltage: round((V − V0) / STEP), clamped to 0–1,023; with STEP 0 a free value, at an exact
half either neighbour.
DESIGN CHOICE, log entry 61. -/
def vsetCode (mv n : Nat) (s : State) : Nat × State :=
  let v0 := getF s ⟨R.TC_VSET_CAL n, 0, 16⟩
  let step := getF s ⟨R.TC_VSET_CAL n, 16, 16⟩
  if step = 0 then ((free s).toNat % 1024, nextFree s)
  else if (mv - v0) * 2000 % (2 * step) = step then
    (min 1023 ((mv - v0) * 1000 / step + (free s).toNat % 2), nextFree s)
  else (min 1023 (((mv - v0) * 2000 + step) / (2 * step)), s)

/-- The code is set for a voltage at once, without slewing. DESIGN CHOICE, log entry 61. -/
def setVset (mv n : Nat) (s : State) : State :=
  let (c, s) := vsetCode mv n s
  modTc n (fun t => { t with target := c }) (setReg (R.TC_VSET_CODE n) (BitVec.ofNat 32 c) s)

/-- Power of a request or contract, in units of 10 µW: mV × 10 mA. -/
def reqPower (r : Option TcReq) : Nat := match r with | some q => q.mv * q.cur | none => 0

/-- What a port in source role counts against the budget: its contract in force. -/
def portPower (s : State) (n : Nat) : Nat := if isSource s n then reqPower (tcGet s n).contract else 0

def othersPower (s : State) (n : Nat) : Nat := (((List.range 4).filter (fun m => m != n)).map (portPower s)).sum

/-- BUDGET in watts. -/
def budget (s : State) : Nat := min 960 (getF s ⟨R.TC_SRC_BUDGET 0, 0, 10⟩)

/-- `TC0.SRC_BUDGET.USED` follows the contracts in force. DESIGN CHOICE, log entry 61. -/
def refreshUsed (s : State) : State :=
  let total := ((List.range 4).map (portPower s)).sum
  let (w, s) := quot total 100000 s
  setF ⟨R.TC_SRC_BUDGET 0, 16, 10⟩ (min 1023 w) s

/-- The contract is void. -/
def voidContract (n : Nat) (s : State) : State :=
  let s := modTc n (fun t => { t with req := none, contract := none, eprAsked := false, capsSent := false }) s
  let s := setReg (R.TC_CONTRACT n) 0 (setF (fContract n) 0 (setF (fEpr n) 0 (setF (fTransition n) 0 s)))
  refreshUsed s

/-- A request becomes the contract in force. -/
def enforce (n : Nat) (q : TcReq) (s : State) : State :=
  let (v, s) := quot q.mv 50 s
  let w := v % 4096 + q.cur % 1024 * 4096 + q.pos % 16 * 2 ^ 22 + (if q.epr then 2 ^ 26 else 0) + (if q.apdo then 2 ^ 27 else 0)
  let s := modTc n (fun t => { t with req := none, contract := some q }) s
  let s := setReg (R.TC_CONTRACT n) (BitVec.ofNat 32 w) (setF (fContract n) 1 (setF (fTransition n) 0 s))
  refreshUsed (bump (R.TC_CONTRACTS n) s)

/-! ### The switch and discharge (R265, R269) -/

def discharge (n : Nat) (s : State) : State :=
  if bit s (fDischarging n) then s else bump (R.TC_DISCHARGES n) (setF (fDischarging n) 1 s)

def openSwitch (n : Nat) (s : State) : State := modTc n (fun t => { t with wantClose := false }) (setF (fSwitch n) 0 s)

/-- VCONN is supplied by the VCONN source while VCONN_EN is set. -/
def vconnFollow (n : Nat) (s : State) : State :=
  setF (fVconnSrc n) (if (tcGet s n).vconn && bit s (fTcCtrl n 7) then 1 else 0) s

/-! ### Source objects (R259, R261) -/

/-- The cable's rating in 10 mA, and whether its VDO marks it EPR-capable. PRESUMED, log entry 60. -/
def cableCur (s : State) (n : Nat) : Nat :=
  if bit s (fEmarked n) && getF s ⟨R.TC_CABLE_VDO n, 5, 2⟩ == 2 then 500 else 300
/-- PRESUMED, log entry 60. -/
def cableEpr (s : State) (n : Nat) : Bool := bit s (fEmarked n) && bit s ⟨R.TC_CABLE_VDO n, 17, 1⟩

/-- The kinds of object. -/
def isFixed (w : Word) : Bool := bits w.toNat 30 2 == 0
def isBattery (w : Word) : Bool := bits w.toNat 30 2 == 1
def isApdo (w : Word) : Bool := bits w.toNat 30 2 == 3
def isPps (w : Word) : Bool := bits w.toNat 28 4 == 12

/-- The highest voltage of an object, in mV, and the lowest. PRESUMED, log entry 60. -/
def objMv (w : Word) : Nat :=
  let v := w.toNat
  if isFixed w then bits v 10 10 * 50
  else if isPps w then bits v 17 8 * 100
  else if isApdo w then bits v 17 9 * 100
  else bits v 20 10 * 50
/-- PRESUMED, log entry 60. -/
def objMin (w : Word) : Nat :=
  let v := w.toNat
  if isFixed w then bits v 10 10 * 50
  else if isApdo w then bits v 8 8 * 100
  else bits v 10 10 * 50

/-- The highest current of an object at a voltage, in 10 mA; an AVS or battery object states a power.
PRESUMED, log entry 60. -/
def objCur (w : Word) (mv : Nat) : Nat :=
  let v := w.toNat
  if isFixed w then bits v 0 10
  else if isPps w then bits v 0 7 * 5
  else if isApdo w then (if mv = 0 then 0 else bits v 0 8 * 100000 / mv)
  else if isBattery w then (if mv = 0 then 0 else bits v 0 10 * 25000 / mv)
  else bits v 0 10

/-- An object with its current clipped to a cable's rating in 10 mA: fixed and variable objects state 10 mA, PPS 50 mA, a battery object the
power in 250 mW of that current at its lowest voltage; an AVS object states the source's power, and its requests are held to the rating.
PRESUMED, log entry 60. -/
def clip (cur : Nat) (w : Word) : Word :=
  let v := w.toNat
  if isPps w then BitVec.ofNat 32 (v - bits v 0 7 + min (cur / 5) (bits v 0 7))
  else if isApdo w then w
  else BitVec.ofNat 32 (v - bits v 0 10 + min (if isBattery w then cur * objMin w / 25000 else cur) (bits v 0 10))

/-- The objects that the port advertises: SRC_PDO1 to the first zero word, and in EPR those of 8 to 11. -/
def advertised (s : State) (n : Nat) : List (Nat × Word) :=
  let spr := ((List.range 7).map (fun i => (i + 1, reg s (R.TC_SRC_PDO1 n + 4 * i)))).takeWhile (fun o => o.2 != 0)
  let epr := if bit s (fEpr n) then
      ((List.range 4).map (fun i => (i + 8, reg s (R.TC_EPR_PDO8 n i)))).filter (fun o => o.2 != 0) else []
  (spr ++ epr).map (fun o => (o.1, clip (cableCur s n) o.2))

/-- Source_Capabilities, or EPR_Source_Capabilities; while the e-marker is being asked they wait for its answer (R259). -/
def advertise (n : Nat) (s : State) : State :=
  if pdOn s n && !(tcGet s n).asking then
    modTc n (fun t => { t with capsSent := true }) (pd n (.sourceCaps (bit s (fEpr n)) (advertised s n)) s)
  else s

/-- The current that a sink's request can carry: an APDO's in 50 mA, a battery object's as a power in 250 mW. PRESUMED, log entry 60. -/
def carried (w : Word) (mv cur : Nat) : Nat :=
  if isApdo w then cur / 5 * 5 else if isBattery w && mv != 0 then mv * cur / 25000 * 25000 / mv else cur

/-- What a request asks of the object at its position. PRESUMED, log entry 60. -/
def readRequest (w rdo : Word) (epr : Bool) : TcReq :=
  let r := rdo.toNat
  if isApdo w then
    ⟨bits r 9 12 * (if isPps w then 20 else 25), bits r 0 7 * 5, bits r 28 4, epr, true⟩
  else
    let mv := objMv w
    ⟨mv, if isBattery w then (if mv = 0 then 0 else (bits r 10 10 * 25000 + mv - 1) / mv) else bits r 10 10, bits r 28 4, epr, false⟩

/-! ### TC.CMD (Table 11-9) -/

/-- A command ends with a RESULT. -/
def tcEnd (n result : Nat) (s : State) : State :=
  if (tcGet s n).op = 0 then s
  else modTc n (fun t => { t with op := 0 }) (setReg (R.TC_CMD_STATUS n) (BitVec.ofNat 32 (result * 2)) s)

/-- A command begins. -/
def tcBegin (n op : Nat) (s : State) : State :=
  modTc n (fun t => { t with op := op }) (setReg (R.TC_CMD_STATUS n) 1 s)

/-- A command begins and ends at once. -/
def tcNow (n result : Nat) (s : State) : State := setReg (R.TC_CMD_STATUS n) (BitVec.ofNat 32 (result * 2)) s

abbrev tcOk : Nat := 0
abbrev tcReject : Nat := 1
abbrev tcWait : Nat := 2
abbrev tcNoResponse : Nat := 3
abbrev tcIllegal : Nat := 4
abbrev tcAborted : Nat := 5

/-! ### Modes and the mux (R268, R271–R273) -/

/-- The mux leaves its setting: DisplayPort loses HPD, and Veserlink mode is no longer entered. -/
def muxNone (n : Nat) (s : State) : State :=
  let m := mux s n
  let s := if m = 3 ∨ m = 4 then
      if hubRuns s then hpdLoss (4 + n) s
      else { s with disp := { s.disp with altHpd := smSet (fun _ => false) s.disp.altHpd (4 + n) false } }
    else s
  let s := if m = 2 then lSet n { lGet s n with veser := false } s else s
  setF (fMux n) 0 s

/-- Every mode is exited; a Veserlink link is lost for a reason. A detach also cancels the retry timer (R68).
DEDUCED, log entry 65. -/
def exitModes (n reason : Nat) (s : State) : State :=
  let s := if mux s n = 2 then onHub (linkDown n reason) s else s
  let s := if reason = 2 then onHub (stopRetry n) s else s
  modTc n (fun t => { t with entry := .idle }) (muxNone n s)

/-- The mux takes the setting of a mode that has been entered. -/
def enterMux (n m : Nat) (s : State) : State :=
  let s := bump (R.TC_MODE_ENTRIES n) (setF (fMux n) m s)
  if m = 2 then
    let s := lSet n { lGet s n with veser := true } s
    onHub (fun s => linkStart n (setF (fRef n) (getF s (fDataRole n)) s)) s
  else s

/-- The first mode of the order of R268 that applies is tried; the partner's capabilities are known. -/
def pickMode (n : Nat) (s : State) : State :=
  let t := tcGet s n
  let m := if bit s (fModePol n 1) && t.veserOk then 2
    else if bit s (fModePol n 2) && t.dpCode != 0 then t.dpCode
    else if bit s (fModePol n 3) && t.usbCap then 1 else 0
  let s := if t.refused ≠ 0 then raise 29 (n + m * 256) s else s
  if m = 2 then modTc n (fun t => { t with entry := .enter 2 }) (pd n (.enterMode 0x6B3A 1) s)
  else if 3 ≤ m then modTc n (fun t => { t with entry := .enter m }) (pd n (.enterMode 0xFF01 1) s)
  else
    let s := setF (fMux n) m (modTc n (fun t => { t with entry := .idle }) s)
    if t.op = 6 then tcEnd n (if m = 0 then t.refused else tcOk) s else s

/-- Discovery goes on: the modes of Veserlink, then those of DisplayPort, then the choice. -/
def discoverNext (n : Nat) (s : State) : State :=
  let t := tcGet s n
  match t.entry with
  | .svids =>
    if bit s (fModePol n 1) && t.veserOk then
      modTc n (fun t => { t with entry := .veserModes }) (pd n (.discoverModes 0x6B3A) s)
    else if bit s (fModePol n 2) && t.dpListed then
      modTc n (fun t => { t with entry := .dpModes }) (pd n (.discoverModes 0xFF01) s)
    else pickMode n s
  | .veserModes =>
    if bit s (fModePol n 2) && t.dpListed then
      modTc n (fun t => { t with entry := .dpModes }) (pd n (.discoverModes 0xFF01) s)
    else pickMode n s
  | _ => pickMode n s

/-- Mode entry starts with Discover Identity. -/
def startModes (n : Nat) (s : State) : State :=
  let s := modTc n (fun t => { t with entry := .identity, refused := 0, usbCap := false, veserOk := false, dpCode := 0,
                                      dpListed := false }) s
  pd n (.discoverIdentity false) s

/-- A discovery or a mode is refused, with the RESULT that this leaves. -/
def refuseMode (n result : Nat) (s : State) : State :=
  let t := tcGet s n
  match t.entry with
  | .idle => s
  | .identity => pickMode n (modTc n (fun t => { t with refused := result }) s)
  | .svids =>
    pickMode n (modTc n (fun t => { t with refused := result }) s)
  | .veserModes => discoverNext n (modTc n (fun t => { t with refused := result, veserOk := false }) s)
  | .dpModes => discoverNext n (modTc n (fun t => { t with refused := result, dpCode := 0 }) s)
  | .enter m =>
    let s := modTc n (fun t => if m = 2 then { t with refused := result, veserOk := false }
      else { t with refused := result, dpCode := 0 }) s
    pickMode n s

/-- MODE_DISCOVERY_RESPONSE (R268). The identity header's bits 31 and 30 say whether the partner is USB-communications
capable. Pin assignment D is taken where the sink offers only D, or offers it and DP_PREF_D is 1. -/
def execModeDiscoveryResponse (n : Fin 4) (r : ModeAnswer) (s : State) : Res :=
  power s (fun s =>
    match (tcGet s n).entry, r with
    | .idle, _ => s
    | _, .nak => refuseMode n tcReject s
    | .identity, .identity hdr =>
      pd n .discoverSvids (modTc n (fun t => { t with entry := .svids, usbCap := decide (bits hdr.toNat 30 2 ≠ 0) }) s)
    | .svids, .svids v d => discoverNext n (modTc n (fun t => { t with veserOk := v, dpListed := d }) s)
    | .veserModes, .veserModes => discoverNext n s
    | .dpModes, .dpModes c d =>
      let code := if d && (!c || bit s (fModePol n 5)) then 4 else if c then 3 else 0
      discoverNext n (modTc n (fun t => { t with dpCode := code }) s)
    | _, _ => s)

/-- MODE_ENTRY_TIMEOUT (R268). -/
def execModeEntryTimeout (n : Fin 4) (s : State) : Res := power s (refuseMode n tcNoResponse)

/-- ENTER_MODE_ACK_RECEIVED (R272). -/
def execEnterModeAckReceived (n : Fin 4) (s : State) : Res :=
  power s (fun s =>
    match (tcGet s n).entry with
    | .enter m =>
      let s := enterMux n m (modTc n (fun t => { t with entry := .idle }) s)
      if (tcGet s n).op = 6 then tcEnd n tcOk s else s
    | _ => s)

/-- A UFP without a mode uses the USB 3.2 setting (R271). DEDUCED, log entry 65. -/
def usbDefault (n : Nat) (s : State) : State :=
  if isAttached s n && !bit s (fDataRole n) && decide (mux s n = 0) then setF (fMux n) 1 s else s

/-- DISCOVER_RECEIVED (R271), and the DFP's Exit Mode (R272). DEDUCED, log entry 65. -/
def execDiscoverReceived (n : Fin 4) (what : DiscoverWhat) (s : State) : Res :=
  power s (fun s =>
    if isAttached s n && !bit s (fDataRole n) && pdOn s n then
      match what with
      | .identity => pd n (.vdmAck [reg s (R.TC_ID_HDR n), reg s (R.TC_ID_PRODUCT n)]) s
      | .svids => pd n (.vdmAck [BitVec.ofNat 32 0x6B3A0000]) s
      | .modes v => if v = 0x6B3A then pd n (.vdmAck [BitVec.ofNat 32 0x31]) s else pd n .vdmNak s
      | .exit v =>
        if v = 0x6B3A ∧ mux s n = 2 then usbDefault n (exitModes n 1 (pd n (.vdmAck []) s)) else pd n .vdmNak s
    else s)

/-- ENTER_MODE_RECEIVED (R271). -/
def execEnterModeReceived (n : Fin 4) (svid : BitVec 16) (position : BitVec 3) (s : State) : Res :=
  power s (fun s =>
    if isAttached s n && !bit s (fDataRole n) && pdOn s n then
      if svid = 0x6B3A ∧ position = 1 ∧ bit s (fModePol n 4) then enterMux n 2 (pd n (.vdmAck []) s)
      else pd n .vdmNak s
    else s)

/-- DISPLAYPORT_ATTENTION (R273): the HPD state of DisplayPort Status or Attention; one that leaves HPD as it
is is no loss and no return. -/
def execDisplayportAttention (n : Fin 4) (hpd : Bool) (s : State) : Res :=
  power s (fun s =>
    if mux s n = 3 ∨ mux s n = 4 then
      if hubRuns s then (if hpd then (if hpdOf s (4 + n) then s else hpdReturn (4 + n) s) else hpdLoss (4 + n) s)
      else { s with disp := { s.disp with altHpd := smSet (fun _ => false) s.disp.altHpd (4 + n.val) hpd } }
    else s)

/-! ### Attach and detach (R258, R274) -/

/-- ROLE and TRY take effect in the Unattached state. -/
def unattach (n : Nat) (s : State) : State :=
  let role := getF s ⟨R.TC_CTRL n, 0, 2⟩
  let s := modTc n (fun t => { t with role := role, tryRole := getF s ⟨R.TC_CTRL n, 2, 2⟩, presentSrc := false }) s
  setF (fCc n) (if role = 3 then ccDisabled else ccUnattached) s

/-- The port leaves an attachment: no role, no cable, no contract, no mode. -/
def endAttach (n : Nat) (s : State) : State :=
  let s := tcEnd n tcAborted (exitModes n 2 (voidContract n s))
  let t := tcGet s n
  let s := tcSet n { role := t.role, tryRole := t.tryRole, target := t.target } s
  let s := setF (fPwrRole n) 0 (setF (fDataRole n) 0 (setF (fOrient n) 0 (setF (fEmarked n) 0 s)))
  vconnFollow n (setReg (R.TC_CABLE_VDO n) 0 s)

/-- A detach (Table 11-4): a source sets its code for 5 V at once; the switch opens, the port side is discharged, the contract
is void and MUX NONE; source 27, where a contract or a transition is ended, carries the target voltage of an abandoned
transition, else a free value. DESIGN CHOICE, log entry 9. DEDUCED, log entry 65. -/
def detach (loud : Bool) (n : Nat) (s : State) : State :=
  let t := tcGet s n
  let src := isSource s n
  let moving := bit s (fTransition n)
  let held := bit s (fContract n)
  let s := if src then setVset 5000 n s else s
  let closed := bit s (fSwitch n)
  let s := when (src || closed) (discharge n) (openSwitch n s)
  let s := bump (R.TC_DETACHES n) (onHub swapInterrupted (endAttach n s))
  let s := if loud && (moving || held) then
      match moving, t.req with
      | true, some q =>
        let (v, s) := quot q.mv 50 s
        raise 27 (n + v % 4096 * 16) s
      | _, _ => raise 27 (n + (free s).toNat % 4096 * 16) (nextFree s)
    else s
  unattach n s

/-- CC_DETACH (R258, R274). -/
def execCcDetach (n : Fin 4) (s : State) : Res :=
  power s (fun s => if isAttached s n then detach true n s else if cc s n = ccTry then unattach n s else s)

/-- VBUS_SINK_DETACH (R258): a sink's VBUS, in mV, falls below 3.67 V; in a transition CC alone decides. -/
def execVbusSinkDetach (n : Fin 4) (mv : Nat) (s : State) : Res :=
  power s (fun s =>
    if isSink s n && bit s (fSwitch n) && !bit s (fTransition n) && decide (mv < 3670) then detach true n s else s)

/-- DRP_TOGGLE (R258): the presentation alternates; in a Try state it gives the tried presentation up.
DEDUCED, log entry 62. -/
def execDrpToggle (n : Fin 4) (s : State) : Res :=
  power s (fun s =>
    if (tcGet s n).role = 2 ∧ (cc s n = ccUnattached ∨ cc s n = ccTry) then
      modTc n (fun t => { t with presentSrc := !t.presentSrc }) s else s)

/-- The port attaches in the role it presents. A source is DFP and VCONN source, and its code is set for 5 V. -/
def attach (src cc2 : Bool) (n : Nat) (s : State) : State :=
  let s := modTc n (fun t => { role := t.role, tryRole := t.tryRole, presentSrc := src, attachSrc := src, vconn := src,
                               wantClose := true, target := t.target }) s
  let b := if src then 1 else 0
  let s := setF (fCc n) (if src then ccSrc else ccSnk) (setF (fOrient n) (if cc2 then 1 else 0) s)
  let s := setF (fPwrRole n) b (setF (fDataRole n) b s)
  bump (R.TC_ATTACHES n) (if src then setVset 5000 n s else s)

/-- CC_ATTACH (R258): a partner is found, debounced, on CC1 or CC2. A dual-role port attaches as it presents itself, after the
Try state that TRY asks for. DEDUCED, log entry 62. -/
def execCcAttach (n : Fin 4) (cc2 : Bool) (s : State) : Res :=
  power s (fun s =>
    let t := tcGet s n
    if cc s n = ccUnattached then
      if t.role = 0 then attach false cc2 n s
      else if t.role = 1 then attach true cc2 n s
      else if (t.tryRole = 1 ∧ ¬ t.presentSrc) ∨ (t.tryRole = 2 ∧ t.presentSrc) then
        setF (fCc n) ccTry (modTc n (fun t => { t with presentSrc := !t.presentSrc }) s)
      else attach t.presentSrc cc2 n s
    else if cc s n = ccTry then attach t.presentSrc cc2 n s
    else s)

/-- A write of TC.CTRL: disabling acts at once as a detach without source 27; in the Unattached state the new ROLE and TRY
hold at once. -/
def tcCtrlSet (n : Nat) (v : Word) (s : State) : State :=
  let s := setReg (R.TC_CTRL n) v s
  let s := if v.toNat % 4 = 3 ∧ cc s n ≠ ccHold then (if isAttached s n then detach false n s else unattach n s)
    else if cc s n = ccUnattached ∨ cc s n = ccDisabled then unattach n s else s
  vconnFollow n s

/-- A write of `TC.CTRL`, and its journal record. -/
def tcCtrlWrite (n : Nat) (v : Word) (s : State) : State :=
  let s := tcCtrlSet n v s
  journalReg (R.TC_CTRL n) (reg s (R.TC_CTRL n)) s

/-! ### Closing the switch (R265) -/

/-- After the switch closed as source: the cable is asked, once, by a VCONN source; then the objects are advertised. -/
def sourceUp (n : Nat) (s : State) : State :=
  let s := vconnFollow n s
  if pdOn s n then
    if bit s (fVconnSrc n) && !(tcGet s n).cableAsked then
      modTc n (fun t => { t with asking := true }) (pd n (.discoverIdentity true) s)
    else advertise n s
  else s

/-- VBUS_SAFE_CLOSE (R265): `port` and `converter` in mV. A source closes at vSafe0V on the port side with 4.75 to 5.50 V
behind and PG asserted; a sink once VBUS exceeds 4.75 V. A closing at the end of a PR_Swap completes it. -/
def execVbusSafeClose (n : Fin 4) (port converter : Nat) (s : State) : Res :=
  power s (fun s =>
    let t := tcGet s n
    if t.wantClose && isSource s n then
      if decide (port ≤ 800) && decide (4750 ≤ converter) && decide (converter ≤ 5500) && bit s fPg then
        let s := setF (fSwitch n) 1 (modTc n (fun t => { t with wantClose := false, prs := .idle }) s)
        let s := if t.prs = .closing then
            let s := bump (R.TC_SWAPS n) (pd n .psRdy s)
            if t.op = 1 then tcEnd n tcOk s else s
          else s
        usbDefault n (sourceUp n s)
      else s
    else if t.wantClose && isSink s n && decide (4750 < port) then
      usbDefault n (setF (fSwitch n) 1 (modTc n (fun t => { t with wantClose := false }) s))
    else s)

/-- EMARKER_RESPONSE (R259): the cable's VDO, or none, as where VCONN has been turned off meanwhile. -/
def execEmarkerResponse (n : Fin 4) (vdo : Option Word) (s : State) : Res :=
  power s (fun s =>
    if isSource s n && bit s (fSwitch n) && (tcGet s n).asking then
      let s := match vdo with
        | some v => setReg (R.TC_CABLE_VDO n) v (setF (fEmarked n) 1 s)
        | none => s
      advertise n (modTc n (fun t => { t with cableAsked := true, asking := false }) s)
    else s)

/-! ### Hard reset (R267, Table 11-3) -/

/-- A hard reset of port `n`, sent or received, or sent because PG fell: attach-time roles, no mode, no contract; VBUS goes
to vSafe0V where the port drives it, or drove it until the swap, and returns under R265. -/
def hardReset (n : Nat) (sent pp : Bool) (s : State) : State :=
  let t := tcGet s n
  let wasSource := isSource s n
  let s := if sent then bump (R.TC_HARD_RESETS_TX n) (pd n .hardReset s) else bump (R.TC_HARD_RESETS_RX n) s
  let s := tcEnd n tcAborted (exitModes n 1 (voidContract n s))
  let s := onHub swapInterrupted s
  let s := openSwitch n s
  let s := if wasSource ∨ t.attachSrc then setVset 5000 n s else s
  let s := when wasSource (discharge n) s
  let b := if t.attachSrc then 1 else 0
  let s := setF (fPwrRole n) b (setF (fDataRole n) b (setF (fCc n) (if t.attachSrc then ccSrc else ccSnk) s))
  let s := modTc n (fun u => { u with wantClose := true, vconn := t.attachSrc, vcsWait := false, prs := .idle,
                                      asking := false, bist := false, discovered := false, entry := .idle,
                                      presentSrc := t.attachSrc }) s
  let s := vconnFollow n s
  raise 25 (n + (if sent then 256 else 0) + (if pp then 512 else 0)) s

/-- PG of the power path deasserts (R275). -/
def pgLoss (s : State) : State :=
  forAll (List.range 4) (fun n s => if isSource s n then hardReset n true true s else s) s

/-- HARD_RESET_RECEIVED (R267). -/
def execHardResetReceived (n : Fin 4) (s : State) : Res :=
  power s (fun s => if isAttached s n then hardReset n false false s else s)

/-! ### Contracts as source (R261, R263) -/

/-- A violation of Table 11-5, with the message type. DESIGN CHOICE, log entry 9. DEDUCED, log entry 65. -/
def pdViolation (n type : Nat) (s : State) : State :=
  raise 31 (n + type % 256 * 256) (bump (R.TC_PD_ERRORS n) s)

/-- PD_REQUEST_RECEIVED (R261, R276): a request, with its message type. DEDUCED, log entry 63. -/
def execPdRequestReceived (n : Fin 4) (type : Byte) (rdo : Word) (s : State) : Res :=
  power s (fun s =>
    let t := tcGet s n
    if isSource s n && bit s (fSwitch n) && t.capsSent && t.req.isNone && pdOn s n then
      match (advertised s n).find? (fun o => o.1 == bits rdo.toNat 28 4) with
      | none => pdViolation n type.toNat (bump (R.TC_REJECTS n) (pd n .reject s))
      | some o =>
        let q := readRequest o.2 rdo (bit s (fEpr n))
        let top := if isApdo o.2 && !isPps o.2 then min (cableCur s n) (objCur o.2 q.mv) else objCur o.2 q.mv
        if q.cur > top ∨ q.mv > objMv o.2 ∨ q.mv < objMin o.2 then
          pdViolation n type.toNat (bump (R.TC_REJECTS n) (pd n .reject s))
        else if reqPower (some q) + othersPower s n > budget s * 100000 then
          raise 28 n (bump (R.TC_REJECTS n) (pd n .reject s))
        else pd n .accept (modTc n (fun t => { t with req := some q }) s)
    else s)

/-- TRANSITION_START (R263): 30 ms after the Accept the code begins to move; after the Accept of a PR_Swap the old source opens
its switch and discharges. DEDUCED, log entry 64. -/
def execTransitionStart (n : Fin 4) (s : State) : Res :=
  power s (fun s =>
    let t := tcGet s n
    if t.prs = .sourceOn then
      discharge n (openSwitch n (modTc n (fun t => { t with prs := .sourceOff }) s))
    else match t.req with
      | some q =>
        if isSource s n && !bit s (fTransition n) then
          let (c, s) := vsetCode q.mv n s
          setF (fTransition n) 1 (modTc n (fun t => { t with target := c }) s)
        else s
      | none => s)

/-- VSET_SLEW_STEP (R263): one step towards the target. -/
def execVsetSlewStep (n : Fin 4) (s : State) : Res :=
  power s (fun s =>
    let c := (reg s (R.TC_VSET_CODE n)).toNat
    let g := (tcGet s n).target
    if bit s (fTransition n) && isSource s n then
      setReg (R.TC_VSET_CODE n) (BitVec.ofNat 32 (if c < g then c + 1 else if g < c then c - 1 else c)) s
    else s)

/-- The first explicit contract lets a DFP with AUTO_ENTER enter a mode (R268). -/
def afterContract (n : Nat) (s : State) : State :=
  let t := tcGet s n
  if isDfp s n && bit s (fModePol n 0) && !t.discovered && decide (t.entry = .idle) then
    startModes n (modTc n (fun t => { t with discovered := true }) s)
  else modTc n (fun t => { t with discovered := true }) s

/-- VBUS_SETTLED (R263): the port-side VBUS, in mV, has held within 5 % for 1 ms. -/
def execVbusSettled (n : Fin 4) (mv : Nat) (s : State) : Res :=
  power s (fun s =>
    let t := tcGet s n
    match t.req with
    | some q =>
      if bit s (fTransition n) && isSource s n && (reg s (R.TC_VSET_CODE n)).toNat == t.target
          && decide (q.mv * 95 ≤ mv * 100) && decide (mv * 100 ≤ q.mv * 105) then
        afterContract n (enforce n q (pd n .psRdy s))
      else s
    | none => s)

/-- TRANSITION_TIMEOUT (R263). -/
def execTransitionTimeout (n : Fin 4) (s : State) : Res :=
  power s (fun s => if isSource s n && (tcGet s n).req.isSome then hardReset n true false s else s)

/-- EPR_MODE_RECEIVED (R259, R262): a sink asks for EPR with its PDP in watts. -/
def execEprModeReceived (n : Fin 4) (_watts : Byte) (s : State) : Res :=
  power s (fun s =>
    if isSource s n && bit s (fContract n) && pdOn s n then
      let s := pd n .eprAck s
      if bit s (fTcCtrl n 8) && cableEpr s n then advertise n (setF (fEpr n) 1 (pd n .eprSucceeded s))
      else pd n .eprFailed s
    else s)

/-- EPR_KEEPALIVE_RECEIVED (R263). -/
def execEprKeepaliveReceived (n : Fin 4) (s : State) : Res :=
  power s (fun s => if isSource s n && bit s (fEpr n) then pd n .eprKeepAliveAck s else s)

/-- EPR_KEEPALIVE_MISSING (R263). -/
def execEprKeepaliveMissing (n : Fin 4) (s : State) : Res :=
  power s (fun s => if isSource s n && bit s (fEpr n) then hardReset n true false s else s)

/-! ### Contracts as sink (R262) -/

/-- VMAX in mV, IMAX in 10 mA and PMIN in 10 µW units. -/
def vmax (s : State) (n : Nat) : Nat := getF s ⟨R.TC_SNK_POLICY n, 0, 10⟩ * 50
def imax (s : State) (n : Nat) : Nat := getF s ⟨R.TC_SNK_POLICY n, 10, 10⟩
def pmin (s : State) (n : Nat) : Nat := getF s ⟨R.TC_SNK_POLICY n, 20, 8⟩ * 100000

/-- The best of a list by a measure, the earlier of equals. DEDUCED, log entry 63. -/
def bestBy {α : Type} (f : α → Nat) : List α → Option α
  | [] => none
  | a :: l => match bestBy f l with
    | none => some a
    | some b => if f a < f b then some b else some a

/-- The object that the sink requests, and whether it mismatches. DEDUCED, log entry 63. -/
def chooseObject (s : State) (n : Nat) (objs : List (Nat × Word)) : Option ((Nat × Word) × Bool) :=
  let within := objs.filter (fun o => decide (objMv o.2 ≤ vmax s n))
  let power (o : Nat × Word) : Nat := objMv o.2 * objCur o.2 (objMv o.2)
  match bestBy (fun o => objMv o.2) (within.filter (fun o => isFixed o.2 && decide (pmin s n ≤ power o))) with
  | some o => some (o, false)
  | none => (bestBy power (if within.isEmpty then objs.take 1 else within)).map (fun o => (o, true))

/-- The request word of a choice: position, mismatch, EPR capability, and the current, the power of a battery object in 250 mW, or the
voltage and current of an APDO. PRESUMED, log entry 60. -/
def requestWord (o : Nat × Word) (mv cur : Nat) (mismatch eprCap : Bool) : Word :=
  let head := o.1 * 2 ^ 28 + (if mismatch then 2 ^ 26 else 0) + 2 ^ 25 + (if eprCap then 2 ^ 22 else 0)
  if isApdo o.2 then BitVec.ofNat 32 (head + mv / (if isPps o.2 then 20 else 25) * 512 + cur / 5)
  else
    let v := if isBattery o.2 then (mv * cur / 25000) % 1024 else cur
    BitVec.ofNat 32 (head + v * 1024 + v)

/-- SOURCE_CAPS_RECEIVED (R262): the objects by position, zero where absent, and the source's answer to the request. -/
def execSourceCapsReceived (n : Fin 4) (epr : Bool) (caps : Vector Word 11) (answer : PdAnswer) (s : State) : Res :=
  power s (fun s =>
    if isAttached s n && pdOn s n then
      let s := forAll (List.range 11) (fun i s => setReg (R.TC_PARTNER_CAP1 n i) (caps.toList.getD i 0) s) s
      let s := if (tcGet s n).op = 9 then tcEnd n tcOk s else s
      if isSink s n then
        let s := if epr then setF (fEpr n) 1 s else s
        let objs := (((List.range 11).map (fun i => (i + 1, caps.toList.getD i 0))).filter (fun o => o.2 != 0)).filter
          (fun o => epr || decide (o.1 ≤ 7))
        match chooseObject s n objs with
        | none => s
        | some (o, mismatch) =>
          let mv := objMv o.2
          let cur := min (objCur o.2 mv) (imax s n)
          let s := pd n (.request (requestWord o mv cur mismatch (bit s (fTcCtrl n 8)))) s
          let s := if mismatch then raise 28 (n + 256) s else s
          match answer with
          | .accept =>
            setF (fTransition n) 1 (modTc n (fun t => { t with req := some ⟨mv, carried o.2 mv cur, o.1, epr, isApdo o.2⟩ }) s)
          | _ => s
      else s
    else s)

/-- A sink's contract comes into force; then EPR is asked for where R262 says. -/
def sinkContract (n : Nat) (q : TcReq) (s : State) : State :=
  let s := enforce n q s
  let first := (reg s (R.TC_PARTNER_CAP1 n 0)).toNat
  if bit s (fTcCtrl n 8) && decide (bits first 23 1 = 1) && decide (vmax s n > 20000) && !bit s (fEpr n) && !(tcGet s n).eprAsked then
    let (w, s) := quot (vmax s n * imax s n) 100000 s
    pd n (.eprEnter w) (modTc n (fun t => { t with eprAsked := true }) (afterContract n s))
  else afterContract n s

/-- EPR_KEEPALIVE_TIMER (R262). -/
def execEprKeepaliveTimer (n : Fin 4) (s : State) : Res :=
  power s (fun s => if isSink s n && bit s (fEpr n) then pd n .eprKeepAlive s else s)

/-- PS_RDY_RECEIVED (R262, R265, R266): of the old source, after which an old sink turns to source; of the new source, after which
the new sink closes its switch; of the new VCONN source; or of a transition. -/
def execPsRdyReceived (n : Fin 4) (s : State) : Res :=
  power s (fun s =>
    let t := tcGet s n
    if t.prs = .awaitOff then
      let s := setF (fCc n) ccSrc (setF (fPwrRole n) 1 (setVset 5000 n s))
      modTc n (fun t => { t with prs := .closing, wantClose := true }) s
    else if t.prs = .awaitSource then
      let s := setF (fSwitch n) 1 (modTc n (fun t => { t with prs := .idle }) s)
      let s := bump (R.TC_SWAPS n) s
      if t.op = 1 then tcEnd n tcOk s else s
    else if t.vcsWait then
      let s := vconnFollow n (modTc n (fun t => { t with vcsWait := false, vconn := false }) s)
      let s := bump (R.TC_SWAPS n) s
      if t.op = 3 then tcEnd n tcOk s else s
    else match t.req with
      | some q => if isSink s n && bit s (fTransition n) then sinkContract n q s else s
      | none => s)

/-- VBUS_DISCHARGED (R269): vSafe0V is reached. An old source then presents Rd and sends PS_RDY (R266).
DEDUCED, log entry 64. -/
def execVbusDischarged (n : Fin 4) (s : State) : Res :=
  power s (fun s =>
    if bit s (fDischarging n) then
      let s := setF (fDischarging n) 0 s
      if (tcGet s n).prs = .sourceOff then
        let s := refreshUsed (setF (fCc n) ccSnk (setF (fPwrRole n) 0 s))
        pd n .psRdy (modTc n (fun t => { t with prs := .awaitSource }) s)
      else s
    else s)

/-! ### Swaps (R266) -/

/-- A PR_Swap has been accepted, by either end: a sink opens its switch; the contract ends with the roles.
DEDUCED, log entry 64. -/
def prsAccepted (n : Nat) (s : State) : State :=
  if isSource s n then modTc n (fun t => { t with prs := .sourceOn }) (voidContract n s)
  else modTc n (fun t => { t with prs := .awaitOff }) (openSwitch n (voidContract n s))

/-- A DR_Swap has been accepted. -/
def drsAccepted (n : Nat) (s : State) : State :=
  usbDefault n (bump (R.TC_SWAPS n) (setF (fDataRole n) (1 - getF s (fDataRole n)) s))

/-- A VCONN_Swap has been accepted: the new source turns on and sends PS_RDY; the old one waits for it. -/
def vcsAccepted (n : Nat) (s : State) : State :=
  if (tcGet s n).vconn then modTc n (fun t => { t with vcsWait := true }) s
  else
    let s := pd n .psRdy (vconnFollow n (modTc n (fun t => { t with vconn := true }) s))
    let s := bump (R.TC_SWAPS n) s
    if (tcGet s n).op = 3 then tcEnd n tcOk s else s

/-- PR_SWAP_RECEIVED (R266). -/
def execPrSwapReceived (n : Fin 4) (s : State) : Res :=
  power s (fun s =>
    if isAttached s n && pdOn s n && decide ((tcGet s n).prs = .idle) then
      if bit s (fTcCtrl n 10) then prsAccepted n (pd n .accept s) else pd n .reject s
    else s)

/-- DR_SWAP_RECEIVED (R266): during an active mode the answer is Hard Reset. -/
def execDrSwapReceived (n : Fin 4) (s : State) : Res :=
  power s (fun s =>
    if isAttached s n && pdOn s n then
      if 2 ≤ mux s n then hardReset n true false s
      else if bit s (fTcCtrl n 9) then drsAccepted n (pd n .accept s)
      else pd n .reject s
    else s)

/-- VCONN_SWAP_RECEIVED (R266). -/
def execVconnSwapReceived (n : Fin 4) (s : State) : Res :=
  power s (fun s =>
    if isAttached s n && pdOn s n then
      if bit s (fTcCtrl n 11) && ((tcGet s n).vconn || bit s (fTcCtrl n 7)) then vcsAccepted n (pd n .accept s)
      else pd n .reject s
    else s)

/-- VCONN_OVERCURRENT (R266): above 300 mA for 1 ms. -/
def execVconnOvercurrent (n : Fin 4) (s : State) : Res :=
  power s (fun s =>
    if bit s (fVconnSrc n) then
      raise 30 n (bump (R.TC_VCONN_TRIPS n) (setF (fVconnSrc n) 0 (modTc n (fun t => { t with vconn := false }) s)))
    else s)

/-! ### The fuse (R264, R270) -/

/-- The slow limit in mA × 100: ILIM_PCT of the contract current; before a contract the Rp current as source (the default Rp
current is a free value), 500 mA as sink. DESIGN CHOICE, log entry 5. -/
def slowLimit (s : State) (n : Nat) : Nat :=
  match (tcGet s n).contract with
  | some q => q.cur * 10 * max 100 (min 200 (getF s ⟨R.TC_FUSE n, 0, 8⟩))
  | none =>
    if isSource s n then (match getF s ⟨R.TC_CTRL n, 4, 2⟩ with | 0 => Config.rpDefault | 1 => 1500 | _ => 3000) * 100 else 50000

/-- Twice FAST. -/
def fastTwice (code : Nat) : Nat := match code with | 0 => 3 | 1 => 4 | 2 => 5 | 3 => 6 | _ => 8

/-- The hold of R270 begins; the over-current state of its USB 2.0 port changes (R238). -/
def startHold (n : Nat) (s : State) : State :=
  let s := onHub (change2 (n + 1) 3) s
  setF (fRetryMs n) (min 60000 (getF s ⟨R.TC_FUSE_RETRY n, 0, 16⟩)) (setF (fCc n) ccHold s)

/-- The fuse trips: in order, the switch opens, the port side is discharged, the contract is void, open CC is presented, source
26 is raised. As source the current is the partner sink's, a violation of Table 11-5 too, without a message type.
DEDUCED, log entry 65. -/
def fuseTrip (fast : Bool) (n : Nat) (s : State) : State :=
  let partner := isSource s n
  let s := discharge n (openSwitch n s)
  let s := startHold n (onHub swapInterrupted (endAttach n s))
  let s := bump (R.TC_FUSE_TRIPS n) (when fast (bump (R.TC_FAST_TRIPS n)) s)
  let s := raise 26 (n + (if fast then 256 else 0)) s
  if partner then pdViolation n (free s).toNat (nextFree s) else s

/-- The current through the sense resistor, from its voltage in µV, exceeds a limit of 1/100 mA. -/
def senseOver (s : State) (n uv limit : Nat) : Bool := decide (uv * 100000 > limit * getF s ⟨R.TC_SENSE n, 0, 16⟩)

/-- VBUS_FUSE_SLOW_TRIP (R264): the fault timer expires with the sense voltage, in µV, above the slow limit. -/
def execVbusFuseSlowTrip (n : Fin 4) (uv : Nat) (s : State) : Res :=
  power s (fun s => if isAttached s n && bit s (fSwitch n) && senseOver s n uv (slowLimit s n) then fuseTrip false n s else s)

/-- VBUS_FAST_TRIP (R264). -/
def execVbusFastTrip (n : Fin 4) (uv : Nat) (s : State) : Res :=
  power s (fun s =>
    if isAttached s n && bit s (fSwitch n) && senseOver s n (uv * 2) (slowLimit s n * fastTwice (getF s ⟨R.TC_FUSE n, 16, 3⟩))
    then fuseTrip true n s else s)

/-- The hold ends: Unattached under ROLE. -/
def endHold (n : Nat) (s : State) : State :=
  if cc s n = ccHold then unattach n (setF (fRetryMs n) 0 (onHub (change2 (n + 1) 3) s)) else s

/-- FUSE_RETRY_EXPIRY (R270): with FUSE_RETRY 0 the hold has no end of its own. -/
def execFuseRetryExpiry (n : Fin 4) (s : State) : Res :=
  power s (fun s => if getF s (fRetryMs n) = 0 then s else endHold n s)

/-- A millisecond of the hold: RETRY_MS counts down to 1, the last being the expiry. DEDUCED, log entry 64. -/
def holdMs (n : Nat) (s : State) : State :=
  if cc s n = ccHold ∧ 1 < getF s (fRetryMs n) then setF (fRetryMs n) (getF s (fRetryMs n) - 1) s else s

/-! ### Violations (R276) -/

/-- Table 11-2 says whether a message is supported, by its form and the type of its header: the control, data and extended messages of the
roles, objects and swaps listed, structured VDMs, and BIST Carrier Mode (5) and Test Data (8). PRESUMED, log entry 60. -/
def pdSupported (type : Nat) : PdForm → Bool
  | .control => decide (1 ≤ type ∧ type ≤ 13 ∧ type ≠ 2 ∧ type ≠ 5) || type == 16
  | .data => [1, 2, 3, 4, 9, 10].contains type
  | .extended chunked => chunked && [16, 17, 18].contains type
  | .vdm structured => structured
  | .sop2 => false
  | .bist m => m == 5 || m == 8

/-- Its own Sink_Capabilities: fixed objects of 5 V and of VMAX at IMAX; the flags of the first are free values. DEDUCED, log entry 105. -/
def sinkObjects (s : State) (n : Nat) : List Word :=
  let cur := imax s n
  BitVec.ofNat 32 ((free s).toNat % 128 * 2 ^ 23 + 100 * 1024 + cur)
    :: (if 5000 < vmax s n then [BitVec.ofNat 32 (vmax s n / 50 * 1024 + cur)] else [])

/-- PD_UNEXPECTED_MESSAGE (R260, R276): a message that no other row brings. A BIST mode is entered where the port is at 5 V, a request for
its sink objects is answered, a Soft_Reset is accepted; what else Table 11-2 supports is unexpected, and the rest not supported.
DEDUCED, log entry 105. -/
def execPdUnexpectedMessage (n : Fin 4) (type : Byte) (form : PdForm) (s : State) : Res :=
  power s (fun s =>
    if isAttached s n && pdOn s n then
      if pdSupported type.toNat form then
        match form with
        | .bist m =>
          if (match (tcGet s n).contract with | some q => q.mv == 5000 | none => true) then
            if m = 5 then pd n .bistCarrier s else modTc n (fun t => { t with bist := true }) s
          else s
        | .control =>
          if type = 8 then pd n (.sinkCaps (sinkObjects s n)) (nextFree s)
          else if type = 13 then when (isSource s n && bit s (fSwitch n)) (advertise n) (pd n .accept s)
          else pdViolation n type.toNat (pd n .softReset s)
        | _ => pdViolation n type.toNat (pd n .softReset s)
      else pdViolation n type.toNat (pd n .notSupported s)
    else s)

/-- GOODCRC_TIMEOUT (R276): the message of a type fails. -/
def execGoodcrcTimeout (n : Fin 4) (type : Byte) (s : State) : Res :=
  power s (fun s =>
    if isAttached s n && pdOn s n then
      let s := if bit s (fContract n) then pd n .softReset s else s
      let t := tcGet s n
      let s := if t.op ≠ 0 then
          tcEnd n tcNoResponse (modTc n (fun t => { t with
            prs := if t.prs = .asked then .idle else t.prs, entry := if t.op = 6 then .idle else t.entry }) s)
        else s
      pdViolation n type.toNat s
    else s)

/-- VBUS_OVERVOLTAGE (R276): as sink, VBUS in mV more than 10 % above the contract voltage for 1 ms. -/
def execVbusOvervoltage (n : Fin 4) (mv : Nat) (s : State) : Res :=
  power s (fun s =>
    match (tcGet s n).contract with
    | some q =>
      if isSink s n && bit s (fSwitch n) && decide (mv * 10 > q.mv * 11) then
        let s := hardReset n true false (openSwitch n s)
        pdViolation n (free s).toNat (nextFree s)
      else s
    | none => s)

/-! ### TC.CMD -/

/-- A write of an operation to TC.CMD, which is ignored while BUSY. DEDUCED, log entry 65. -/
def tcCmd (n op : Nat) (s : State) : State :=
  if bit s (fTcBusy n) then s
  else
    let ready := isAttached s n && pdOn s n
    match op with
    | 1 => if ready && decide ((tcGet s n).prs = .idle) then
        pd n .prSwap (modTc n (fun t => { t with prs := .asked }) (tcBegin n 1 s)) else tcNow n tcIllegal s
    | 2 => if ready && decide (mux s n < 2) then pd n .drSwap (tcBegin n 2 s) else tcNow n tcIllegal s
    | 3 => if ready && ((tcGet s n).vconn || bit s (fTcCtrl n 7)) then pd n .vconnSwap (tcBegin n 3 s) else tcNow n tcIllegal s
    | 4 => if isAttached s n then tcNow n tcOk (hardReset n true false s) else tcNow n tcIllegal s
    | 5 => if ready && isSource s n && bit s (fSwitch n) then tcNow n tcOk (advertise n s) else tcNow n tcIllegal s
    | 6 => if ready && isDfp s n && decide (mux s n < 2) && decide ((tcGet s n).entry = .idle) then
        startModes n (tcBegin n 6 s) else tcNow n tcIllegal s
    | 7 => if ready && isDfp s n then
        if 2 ≤ mux s n then pd n (.exitMode (if mux s n = 2 then 0x6B3A else 0xFF01)) (tcBegin n 7 s)
        else tcNow n tcOk (exitModes n 1 s)
      else tcNow n tcIllegal s
    | 8 => tcNow n tcOk (endHold n s)
    | 9 => if ready then pd n .getSourceCap (tcBegin n 9 s) else tcNow n tcIllegal s
    | _ => s

/-- The partner answers the command under way. DEDUCED, log entry 63. -/
def tcAnswer (n op : Nat) (answer : PdAnswer) (s : State) : State :=
  if (tcGet s n).op ≠ op then s
  else
    let failed (r : Nat) : State :=
      tcEnd n r (modTc n (fun t => { t with prs := if t.prs = .asked then .idle else t.prs }) s)
    match answer with
    | .awaited => s
    | .reject => failed tcReject
    | .wait => failed tcWait
    | .silent => failed tcNoResponse
    | .accept =>
      match op with
      | 1 => if (tcGet s n).prs = .asked then prsAccepted n s else s
      | 2 => tcEnd n tcOk (drsAccepted n s)
      | 3 => if (tcGet s n).vcsWait then s else vcsAccepted n s
      | 7 => tcEnd n tcOk (exitModes n 1 s)
      | _ => s

/-- A TC.CMD row: the operation starts, unless it is the one under way, and the partner answers it. -/
def tcRow (n : Fin 4) (op : Nat) (answer : PdAnswer) (s : State) : Res :=
  power s (fun s => tcAnswer n op answer (tcCmd n op s))

/-- TC_PR_SWAP (R266). -/
def execTcPrSwap (n : Fin 4) (answer : PdAnswer) (s : State) : Res := tcRow n 1 answer s
/-- TC_DR_SWAP (R266). -/
def execTcDrSwap (n : Fin 4) (answer : PdAnswer) (s : State) : Res := tcRow n 2 answer s
/-- TC_VCONN_SWAP (R266). -/
def execTcVconnSwap (n : Fin 4) (answer : PdAnswer) (s : State) : Res := tcRow n 3 answer s
/-- TC_HARD_RESET (R267). -/
def execTcHardReset (n : Fin 4) (s : State) : Res := power s (tcCmd n 4)
/-- TC_SEND_CAPS (R261). -/
def execTcSendCaps (n : Fin 4) (s : State) : Res := power s (tcCmd n 5)
/-- TC_ENTER_MODE (R268). -/
def execTcEnterMode (n : Fin 4) (s : State) : Res := power s (tcCmd n 6)
/-- TC_EXIT_MODE (R272). -/
def execTcExitMode (n : Fin 4) (answer : PdAnswer) (s : State) : Res := tcRow n 7 answer s
/-- TC_CLEAR_FUSE (R270). -/
def execTcClearFuse (n : Fin 4) (s : State) : Res := power s (tcCmd n 8)
/-- TC_GET_SRC_CAPS (R260): the objects come as Source_Capabilities. -/
def execTcGetSrcCaps (n : Fin 4) (answer : PdAnswer) (s : State) : Res := tcRow n 9 answer s

end Sys2Proof.Machine
end

