-- ==== Sys2Proof/Machine/Feed.lean ====
section
/-!
DEFINITION. Feed and fuse control (12_feed_and_fuse_control.md R278–R292): feeds and ideal diodes, hot-swap, current limit,
FET temperature, power-good, retries, the power-fail warning and the hold-up estimate. All of it runs on the power die.
-/
namespace Sys2Proof.Machine

abbrev fOk (x : Nat) : Fld := ⟨R.PP_STATUS, x, 1⟩
abbrev fOr (x : Nat) : Fld := ⟨R.PP_STATUS, 2 + x, 1⟩
abbrev fHs : Fld := ⟨R.PP_STATUS, 4, 3⟩
abbrev fPfw : Fld := ⟨R.PP_STATUS, 8, 1⟩
abbrev fTimerRun : Fld := ⟨R.PP_STATUS, 9, 1⟩
abbrev fLastTrip : Fld := ⟨R.PP_STATUS, 10, 3⟩
abbrev fPinEn : Fld := ⟨R.PP_STATUS, 13, 1⟩
abbrev fDiodeFault : Fld := ⟨R.PP_STATUS, 14, 1⟩
abbrev fCfgClamp : Fld := ⟨R.PP_STATUS, 15, 1⟩
abbrev fPpRetryMs : Fld := ⟨R.PP_STATUS, 16, 16⟩
abbrev fPpEn : Fld := ⟨R.PP_CTRL, 0, 1⟩
abbrev fPinGate : Fld := ⟨R.PP_CTRL, 1, 1⟩
abbrev fOrEn (x : Nat) : Fld := ⟨R.PP_CTRL, 2 + x, 1⟩
abbrev fTempSrc : Fld := ⟨R.PP_CTRL, 4, 1⟩

abbrev hsOff : Nat := 0
abbrev hsWait : Nat := 1
abbrev hsRamp : Nat := 2
abbrev hsOn : Nat := 3
abbrev hsLimit : Nat := 4
abbrev hsHold : Nat := 5
abbrev hsLatched : Nat := 6

abbrev tripSlow : Nat := 1
abbrev tripFast : Nat := 2
abbrev tripThermal : Nat := 3
abbrev tripRamp : Nat := 4

def modPp (f : Pp → Pp) (s : State) : State := { s with pp := f s.pp }
def hs (s : State) : Nat := getF s fHs

/-- The hot-swap is enabled: EN, and `PP_EN` high where PIN_GATE asks for it. -/
def hsEnabled (s : State) : Bool := bit s fPpEn && (!bit s fPinGate || bit s fPinEn)

/-! ### Feeds (R279, R280) -/

/-- Sense voltage of feed `x`, 0 A and 1 B, at the last evaluation. -/
def feedMv (s : State) (x : Nat) : Nat := if x = 0 then s.pp.feedA else s.pp.feedB

def uvMv (s : State) : Nat := getF s ⟨R.PP_FEED_WIN, 0, 10⟩ * 100
def ovMv (s : State) : Nat := getF s ⟨R.PP_FEED_WIN, 16, 10⟩ * 100

/-- A feed outside its window leaves OK; its ideal diode is held off. -/
def feedLeaves (x mv : Nat) (s : State) : State :=
  if bit s (fOk x) && (decide (mv < uvMv s) || decide (mv > ovMv s)) then
    let s := setF (fOr x) 0 (setF (fOk x) 0 s)
    raise (32 + x) (if mv > ovMv s then 1 else 0) (bump (R.PP_FEED_A_LOSSES + 4 * x) s)
  else s

/-- A good, permitted feed more than 50 mV above `COM_S` turns its FET on; one not permitted or not good is held off. -/
def idealDiode (x : Nat) (s : State) : State :=
  if !bit s (fOk x) || !bit s (fOrEn x) then setF (fOr x) 0 s
  else if feedMv s x > s.pp.com + 50 then setF (fOr x) 1 s else s

/-- REVERSE_CURRENT_OFF (R280). -/
def execReverseCurrentOff (x : Fin 2) (s : State) : Res :=
  power s (fun s =>
    if bit s (fOr x) then
      let s := setF (fOr x) 0 s
      idealDiode (1 - x.val) (raise 34 x (bump (R.PP_REV_OFF_A + 4 * x.val) s))
    else s)

/-- FEED_QUALIFIED (R279): the feed, in mV, has stayed within the window narrowed by 2 % for FEED_QUAL. -/
def execFeedQualified (x : Fin 2) (mv : Nat) (s : State) : Res :=
  power s (fun s =>
    if bit s (fOk x) then feedLeaves x mv s
    else if uvMv s * 102 ≤ mv * 100 ∧ mv * 100 ≤ ovMv s * 98 then
      let s := modPp (fun p => if x.val = 0 then { p with feedA := mv } else { p with feedB := mv }) s
      idealDiode x (setF (fOk x) 1 s)
    else s)

/-! ### The limit (R283–R285) -/

/-- The limit voltage ILIM × SENSE in nV, held within 5 to 50 mV. -/
def rawLimit (s : State) : Nat := getF s ⟨R.PP_ILIM, 0, 16⟩ * getF s ⟨R.PP_SENSE, 0, 20⟩
def limitNv (s : State) : Nat := max 5000000 (min 50000000 (rawLimit s))

/-- CFG_CLAMP follows the settings. -/
def clampFollow (s : State) : State := setF fCfgClamp (if rawLimit s = limitNv s then 0 else 1) s

/-- The sense voltage of a current in mA, in nV. -/
def senseNv (s : State) (cur : Int) : Int := cur * (getF s ⟨R.PP_SENSE, 0, 20⟩ : Int)

def overLimit (s : State) (cur : Int) : Bool := decide (senseNv s cur > (limitNv s : Int))
def belowLimit (s : State) (cur : Int) : Bool := decide (senseNv s cur < (limitNv s : Int))

/-- FAULT_TMR in 1/8 µs. -/
def faultTmr (s : State) : Nat := max 1 (min 100 (getF s ⟨R.PP_ILIM, 20, 8⟩)) * 8000

/-! ### Power-good, trips and the retry hold (R282, R287–R289) -/

/-- PG deasserts, and with it every source port loses VBUS (R275). -/
def pgOff (s : State) : State := if bit s fPg then pgLoss (setF fPg 0 s) else s

/-- The gate is to be pulled down at the sixth evaluation from now, or from the event that asked for it first. -/
def gateLater (s : State) : State :=
  modPp (fun p => { p with gateDelay := if p.gate ∧ p.gateDelay = 0 then 6 else p.gateDelay, ramped := false }) s

/-- The gate is pulled down at once. -/
def gateDown (s : State) : State := modPp (fun p => { p with gate := false, gateDelay := 0, ramped := false }) s

/-- LATCHED is entered. -/
def latchHs (s : State) : State := raise 39 256 (setF fPpRetryMs 0 (setF fHs hsLatched s))

/-- A trip starts the retry hold; with RETRY 0 it latches, and one in LATCHED leaves that. DEDUCED, log entry 67. -/
def startRetryHold (kind : Nat) (s : State) : State :=
  let s := setF fLastTrip kind (modPp (fun p => { p with trips := p.trips + 1, onTime := 0, thermal := decide (kind = tripThermal),
                                                         cooling := false }) s)
  let retry := min 60000 (getF s ⟨R.PP_RETRY, 0, 16⟩)
  if hs s = hsLatched then s else if retry = 0 then latchHs s else setF fPpRetryMs retry (setF fHs hsHold s)

/-- The hot-swap trips on its fault timer or on temperature: PG first, the gate five evaluations later. -/
def tripLater (kind counter source : Nat) (s : State) : State :=
  raise source 0 (startRetryHold kind (gateLater (pgOff (bump counter s))))

/-- The hot-swap has its FET driven. -/
def hsActive (s : State) : Bool := hs s == hsRamp || hs s == hsOn || hs s == hsLimit

/-- The hot-swap returns to step 1 of Table 12-2 if it is still enabled. -/
def restart (s : State) : State :=
  let s := setF fPpRetryMs 0 (modPp (fun p => { p with thermal := false, cooling := false }) s)
  if hsEnabled s then setF fHs hsWait (bump R.PP_RETRIES s) else setF fHs hsOff s

/-- After a thermal trip the restart waits until T is below TMAX − HYST. -/
def cooled (s : State) : Bool :=
  decide (s.pp.temp < ((getF s ⟨R.PP_THERM, 0, 8⟩ : Int) - (getF s ⟨R.PP_THERM, 8, 8⟩ : Int)) * 10)

/-- The hold is over, early or not. -/
def restartCooled (s : State) : State :=
  if s.pp.thermal && !cooled s then
    setF fHs hsHold (setF fPpRetryMs 0 (modPp (fun p => { p with cooling := true }) s))
  else restart s

/-- The hold ends: LATCHED where RETRY is 0, or after RETRY_LIMIT trips in a row, else a restart. -/
def endRetryHold (s : State) : State :=
  let lim := getF s ⟨R.PP_RETRY, 16, 8⟩
  if getF s ⟨R.PP_RETRY, 0, 16⟩ = 0 ∨ lim ≠ 0 ∧ lim ≤ s.pp.trips then latchHs s else restartCooled s

/-- RETRY_HOLD_END (R289, R287). -/
def execRetryHoldEnd (s : State) : Res :=
  power s (fun s => if hs s = hsHold ∧ ¬ s.pp.cooling then endRetryHold s else s)

/-- PP.CMD CLEAR. DEDUCED, log entry 67. -/
def ppClear (s : State) : State :=
  if hs s = hsLatched then restartCooled s else if hs s = hsHold ∧ ¬ s.pp.cooling then endRetryHold s else s

/-- PP_CLEAR (R289). -/
def execPpClear (s : State) : Res := power s ppClear

/-- PP_MODEL_RESET (R286). -/
def ppModelReset (s : State) : State := modPp (fun p => { p with deltaT := 0 }) s
def execPpModelReset (s : State) : Res := power s ppModelReset

/-- The trip of the fault timer. -/
def timerExpiry (s : State) : State := tripLater tripSlow R.PP_TRIPS_SLOW 35 s

/-- FAULT_TIMER_EXPIRY (R283): the counted timer has reached FAULT_TMR. -/
def execFaultTimerExpiry (s : State) : Res :=
  power s (fun s => if hsActive s && decide (faultTmr s ≤ s.pp.timer) then timerExpiry s else s)

/-- HOTSWAP_FAST_TRIP (R284, Table 12-3): in any state, for a current in mA above FAST × ILIM. -/
def execHotswapFastTrip (cur : Nat) (s : State) : Res :=
  power s (fun s =>
    if senseNv s (2 * cur) > (limitNv s * fastTwice (getF s ⟨R.PP_ILIM, 16, 3⟩) : Nat) then
      raise 36 0 (startRetryHold tripFast (pgOff (gateDown (bump R.PP_TRIPS_FAST s))))
    else s)

/-! ### Starting and stopping (R281, R282) -/

/-- Step 1 of Table 12-2. -/
def hsStart (s : State) : State := if hs s = hsOff ∧ hsEnabled s then setF fHs hsWait s else s

/-- EN or `PP_EN` is gone: PG deasserts now, the gate follows; a hold or LATCHED stays. DEDUCED, log entry 67. -/
def hsStop (s : State) : State :=
  if hs s = hsOff ∨ hs s = hsHold ∨ hs s = hsLatched then s else setF fHs hsOff (gateLater (pgOff s))

/-- EN or the pin may be gone; a pin that rises starts nothing (Table 12-2). -/
def hsFollow (s : State) : State := if hsEnabled s then s else hsStop s

/-- A write of PP.CTRL: a changed TEMP_SRC, like one written again, clears DIODE_FAULT; feeds not permitted go off; EN written to 1 takes
step 1 of Table 12-2. -/
def ppCtrlSet (v : Word) (s : State) : State :=
  let s := setF fDiodeFault 0 (setReg R.PP_CTRL v s)
  hsStart (hsFollow (idealDiode 0 (idealDiode 1 s)))

/-- A write of `PP.CTRL`, and its journal record. -/
def ppCtrlWrite (v : Word) (s : State) : State :=
  let s := ppCtrlSet v s
  journalReg R.PP_CTRL (reg s R.PP_CTRL) s

/-- HOTSWAP_ENABLE (R281): EN is written to 1. -/
def execHotswapEnable (s : State) : Res :=
  power s (fun s => ppCtrlWrite (reg s R.PP_CTRL ||| 1#32) s)

/-- HOTSWAP_DISABLE (R282): EN is cleared, or `PP_EN` falls. -/
def execHotswapDisable (byPin : Bool) (s : State) : Res :=
  power s (fun s =>
    if byPin then hsFollow (setF fPinEn 0 s)
    else ppCtrlWrite (reg s R.PP_CTRL &&& ~~~1#32) s)

/-- RAMP_START (R281): a pull-down of the gate that Table 12-3 has at its sixth evaluation is made first. DEDUCED, log entry 67. -/
def execRampStart (s : State) : Res :=
  power s (fun s =>
    if hs s = hsWait ∧ s.pp.gateDelay = 0 ∧ (bit s (fOr 0) ∨ bit s (fOr 1)) then
      setF fHs hsRamp (modPp (fun p => { p with gate := true, ramped := false }) s)
    else s)

/-- RAMP_COMPLETE (R281): `HS_G` − `HS_SRC`, in mV, reaches 8 V. -/
def execRampComplete (mv : Nat) (s : State) : Res :=
  power s (fun s =>
    if hsActive s && !s.pp.ramped && decide (8000 ≤ mv) then
      let s := modPp (fun p => { p with ramped := true }) s
      if hs s = hsRamp then setF fHs hsOn s else s
    else s)

/-- RAMP_TIMEOUT (R281). -/
def execRampTimeout (s : State) : Res :=
  power s (fun s =>
    if hsActive s && !s.pp.ramped then
      raise 39 0 (startRetryHold tripRamp (gateDown (bump R.PP_RAMP_TIMEOUTS s)))
    else s)

/-! ### The AO evaluation (R278) -/

/-- HS_STATE reads LIMIT; an episode begins. -/
def enterLimit (s : State) : State := if hs s = hsLimit then s else bump R.PP_LIMIT_ENTRIES (setF fHs hsLimit s)

/-- The limit at one evaluation: LIMIT is entered above ILIM and left otherwise; the fault timer counts up by 1 µs above it
and down by 1/8 µs below. -/
def limitEval (cur : Int) (s : State) : State :=
  let s := if hsActive s then
      if overLimit s cur then enterLimit s
      else if hs s = hsLimit then setF fHs (if s.pp.ramped then hsOn else hsRamp) s else s
    else s
  let t := if overLimit s cur then s.pp.timer + 8 else if belowLimit s cur then s.pp.timer - 1 else s.pp.timer
  let s := setF fTimerRun (if t = 0 then 0 else 1) (modPp (fun p => { p with timer := t }) s)
  if hsActive s && decide (faultTmr s ≤ t) then timerExpiry s else s

/-- CURRENT_LIMIT_ENTRY (R283): the current, in mA, exceeds ILIM; the fault timer counts at the evaluations alone. -/
def execCurrentLimitEntry (cur : Nat) (s : State) : Res :=
  power s (fun s => if hsActive s && overLimit s cur then enterLimit s else s)

/-- A voltage as a 16-bit register holds it; above its range it holds a free value. DESIGN CHOICE, log entry 66. -/
def fit16 (v : Nat) (s : State) : Nat × State := if v < 65536 then (v, s) else ((free s).toNat % 65536, nextFree s)

/-- The measurement registers: the four voltages averaged over 100 µs, and the current. DESIGN CHOICE, log entry 66. -/
def measure (m : PpSense) (s : State) : State :=
  let now := [m.feedA, m.feedB, m.com, m.src]
  let sums := List.zipWith (· + ·) s.pp.sums now
  let s := setReg R.PP_MEAS_I (BitVec.ofInt 32 (m.cur % 65536)) s
  let s := modPp (fun p => { p with
    feedA := m.feedA, feedB := m.feedB, com := m.com, src := m.src, cur := m.cur,
    powers := ((m.com : Int) * m.cur) :: p.powers.take 999,
    loss := p.loss + ((m.com : Int) - m.src) * m.cur, lossCount := p.lossCount + 1 }) s
  if 99 ≤ s.pp.count then
    let s := forAll (List.range 4) (fun i s =>
      let (q, s) := quot (sums.getD i 0) 100 s
      let (v, s) := fit16 q s
      setReg (R.PP_MEAS_FEEDA i) (BitVec.ofNat 32 v) s) s
    modPp (fun p => { p with sums := [0, 0, 0, 0], count := 0 }) s
  else modPp (fun p => { p with sums := sums, count := p.count + 1 }) s

/-- A good, permitted feed above a voltage in mV (R290). -/
def feedAbove (s : State) (mv : Nat) : Bool :=
  [0, 1].any (fun x => bit s (fOrEn x) && bit s (fOk x) && decide (feedMv s x > mv))

def warnMv (s : State) : Nat := getF s ⟨R.PP_PFW, 0, 10⟩ * 100

/-- The hold-up estimate in µs, rounded to the nearest (R291): C_BULK in µF, voltages in mV, LOAD_P in 0.1 W. With LOAD_P 0
the quotient is a free value. DESIGN CHOICE, log entry 66. -/
def holdup (s : State) : Nat × State :=
  let vmin := getF s ⟨R.PP_PFW, 16, 10⟩ * 100
  let d := getF s ⟨R.PP_BULK, 0, 20⟩ * (s.pp.src * s.pp.src - vmin * vmin)
  let p := 200000 * getF s ⟨R.PP_LOAD_P, 0, 16⟩
  if s.pp.src ≤ vmin then (0, s)
  else if p = 0 then ((free s).toNat, nextFree s) else ((2 * d + p) / (2 * p), s)

/-- HOLDUP_EST is written, VALID unless C_BULK is 0. -/
def writeHoldup (us : Nat) (s : State) : State :=
  let valid := getF s ⟨R.PP_BULK, 0, 20⟩ ≠ 0
  setReg R.PP_HOLDUP_EST (BitVec.ofNat 32 (min us (2 ^ 20 - 1) + (if valid then 2 ^ 31 else 0))) s

/-- LOAD_P is latched: the mean of the last 1 ms, which may be negative, plus P_COM, in 0.1 W; a sum that the register cannot hold is a
free value. DESIGN CHOICE, log entry 66. -/
def latchLoad (s : State) : State :=
  let (mean, s) := quotInt (s.pp.powers.foldl (· + ·) 0) (100000 * s.pp.powers.length) s
  let load := mean + (getF s ⟨R.PP_BULK, 20, 12⟩ : Int)
  let (v, s) := if load < 0 then ((free s).toNat % 65536, nextFree s) else fit16 load.toNat s
  setReg R.PP_LOAD_P (BitVec.ofNat 32 v) s

/-- `PFW_N` at one evaluation: asserted when no good permitted feed is above WARN. -/
def pfwEval (s : State) : State :=
  if bit s fPfw || feedAbove s (warnMv s) then s
  else
    let s := latchLoad (bump R.PP_PFW_ASSERTS (setF fPfw 1 s))
    let (us, s) := holdup s
    let (ms, s) := quot us 1000 s
    raise 38 (min 65535 ms) (writeHoldup us s)

/-- PFW_DEASSERT (R290): a good permitted feed has been above WARN + 1.0 V for FEED_QUAL. -/
def execPfwDeassert (s : State) : Res :=
  power s (fun s =>
    if bit s fPfw then
      if feedAbove s (warnMv s + 1000) then setF ⟨R.PP_HOLDUP_EST, 31, 1⟩ 0 (setF fPfw 0 s) else pfwEval s
    else s)

/-- HOLDUP_ESTIMATE (R291). -/
def execHoldupEstimate (s : State) : Res :=
  power s (fun s => if bit s fPfw then let (us, s) := holdup s; writeHoldup us s else s)

/-- PG is asserted when the ramp is complete, the current below ILIM and the fault timer at zero (R288). -/
def pgEval (cur : Int) (s : State) : State :=
  if hs s = hsOn ∧ s.pp.ramped ∧ belowLimit s cur ∧ s.pp.timer = 0 then setF fPg 1 s else s

/-- The delayed pull-down of the gate. -/
def gateEval (s : State) : State :=
  match s.pp.gateDelay with
  | 0 => s
  | 1 => modPp (fun p => { p with gate := false, gateDelay := 0 }) s
  | n + 1 => modPp (fun p => { p with gateDelay := n }) s

/-- 1 s of ON ends a row of trips (R289). -/
def onEval (s : State) : State :=
  if hs s = hsOn then
    modPp (fun p => if 999999 ≤ p.onTime then { p with onTime := 1000000, trips := 0 } else { p with onTime := p.onTime + 1 }) s
  else s

/-- A millisecond of `AO.TIMER` in S2 or S3 (Table 16-13): it counts down to 1, the last being the expiry. -/
def timerMs (s : State) : State :=
  let t := getF s ⟨R.AO_TIMER, 0, 24⟩
  if 2 ≤ getF s ⟨R.AO_STATUS, 0, 2⟩ ∧ 1 < t then setF ⟨R.AO_TIMER, 0, 24⟩ (t - 1) s else s

/-- Every 1,000 evaluations the retry holds and `AO.TIMER` count a millisecond down, to 1; the last ends with its own event. -/
def msEval (s : State) : State :=
  let s := modPp (fun p => { p with micros := p.micros + 1 }) s
  if s.pp.micros % 1000 = 0 then
    let s := if hs s = hsHold ∧ 1 < getF s fPpRetryMs then setF fPpRetryMs (getF s fPpRetryMs - 1) s else s
    timerMs (forAll (List.range 4) holdMs s)
  else s

/-- AO_EVALUATION (R278): delayed gate, measurement, feeds, enable, limit, PG and PFW, in this order. -/
def execAoEvaluation (m : PpSense) (s : State) : Res :=
  power s (fun s =>
    let s := measure m (msEval (gateEval s))
    let s := feedLeaves 1 m.feedB (feedLeaves 0 m.feedA s)
    let s := idealDiode 1 (idealDiode 0 s)
    let s := hsFollow (setF fPinEn (if m.enable then 1 else 0) s)
    let s := limitEval m.cur s
    pfwEval (onEval (pgEval m.cur s)))

/-! ### FET temperature (R286, R287) -/

/-- The model's step: ΔT += (P × RTH − ΔT) × 1 ms / TAU, P the mean of the last ms; without an evaluation in it P is a free
value. DESIGN CHOICE, log entry 66. -/
def modelStep (s : State) : State :=
  let tau := max 1 (getF s ⟨R.PP_MODEL, 16, 16⟩)
  let (p, s) : Int × State :=
    if s.pp.lossCount = 0 then (((free s).toNat : Int), nextFree s) else quotInt s.pp.loss s.pp.lossCount s
  let (d, s) := quotInt (p * (getF s ⟨R.PP_MODEL, 0, 16⟩ : Int) * 10 - s.pp.deltaT) tau s
  modPp (fun q => { q with deltaT := q.deltaT + d, loss := 0, lossCount := 0 }) s

/-- The model's temperature in 0.1 °C: the power die's plus ΔT (R286). DESIGN CHOICE, log entry 66. -/
def modelTemp (die : Int) (s : State) : Int × State :=
  let (d, s) := quotInt s.pp.deltaT 100000000 s
  (die + d, s)

/-- FET_TEMP_SAMPLE (R286): the diode's temperature in 0.1 °C, or none where it is open or shorted, and the power die's. -/
def execFetTempSample (diode : Option Int) (die : Int) (s : State) : Res :=
  power s (fun s =>
    let s := modelStep s
    let (t, s) : Int × State :=
      if bit s fTempSrc || bit s fDiodeFault then modelTemp die s
      else match diode with
        | some d => (d, s)
        | none => modelTemp die (raise 37 256 (setF fDiodeFault 1 s))
    let s := setReg R.PP_MEAS_TEMP (BitVec.ofInt 32 (t % 65536)) (modPp (fun p => { p with temp := t }) s)
    let s := if hsActive s && decide (t > (getF s ⟨R.PP_THERM, 0, 8⟩ : Int) * 10) then
        tripLater tripThermal R.PP_TRIPS_THERMAL 37 s
      else s
    if s.pp.cooling && cooled s then restart s else s)

end Sys2Proof.Machine
end

