-- ==== Sys2Proof/Machine/LinkCells.lean ====
section
/-!
DEFINITION. Link blocks and link-control cells as a receiver takes them (03_veserlink_cable_link.md R54–R58, R66,
Table 3-5) and the tags of the link cipher (17_lifecycle_and_keys.md R405–R407).
-/
namespace Sys2Proof.Machine

/-! ### Credits (R58, Table 3-9 bit 7) -/

/-- `k` credits of class `c` join the transmitter's count, which saturates at 4,095. -/
def grantCredit (n c k : Nat) (s : State) : State :=
  let l := lGet s n
  let v := natGet l.txCredit c + k
  let s := lSet n { l with txCredit := natSet l.txCredit c (min 4095 v) } s
  if 4095 < v then violation n 7 s else s

/-- The credits that a cell's header returns. -/
def headerCredits (n : Nat) (cell : List Byte) (s : State) : State :=
  let h := BitVec.ofNat 64 (ofBE (cell.take 8))
  let k := bits h.toNat 18 12
  if headerCrc h = h.setWidth 8 ∧ k ≠ 0 then grantCredit n (bits h.toNat 30 3) k s else s

/-! ### Blocks (R54) -/

/-- NAK(E) is sent. -/
def sendNak (n : Nat) (s : State) : State :=
  bump (R.LINK_NAK_TX n) (sendCtl n ([0x02] ++ bytesBE 2 (lGet s n).rxE) s)

/-- A bad or missing block: NAK(E) once, and later blocks are discarded until E arrives. -/
def badBlock (n : Nat) (s : State) : State :=
  let l := lGet s n
  if l.awaitGood then s else sendNak n (lSet n { l with awaitGood := true } s)

/-- A cumulative ACK naming the last accepted LSEQ (R55). -/
def sendAck (n : Nat) (s : State) : State :=
  let l := lGet s n
  sendCtl n ([0x01] ++ bytesBE 2 ((l.rxE + 4095) % 4096)) (lSet n { l with rxSinceAck := 0 } s)

/-- Additional data and ciphertext of the segment under way; a completed one waits for its CTAG (R405). -/
def noteSegment (n hi : Nat) (data : List Byte) (s : State) : State :=
  let l := lGet s n
  if bit s (fCipher n) then
    let b := l.rxBlocks
    let aad := l.rxAad ++ bytesBE 4 hi
    let ct := l.rxCt ++ data
    if b % 64 = 63 then
      let tag := gcmTag (genKey l.keyRx (generation b)) (segIv l.saltRx (b / 64)) aad ct
      lSet n { l with rxBlocks := b + 1, rxAad := [], rxCt := [], tagWait := some (b / 64, tag) } s
    else lSet n { l with rxBlocks := b + 1, rxAad := aad, rxCt := ct } s
  else lSet n { l with rxBlocks := l.rxBlocks + 1 } s

/-- A link-control type that Table 3-5 and R195 leave reserved on a link; those of the pair are so on a cable port. -/
def reservedCtl (n type : Nat) : Bool :=
  (decide (0x08 ≤ type) && decide (type ≤ 0x0F)) || (decide (0x12 ≤ type) && decide (type ≤ 0x1F))
    || decide (0x24 ≤ type) || (decide (0x20 ≤ type) && n != 4)

/-- A cell of an accepted data block goes on; a link-control cell of a reserved type is ignored (Table 3-9, bit 4). -/
def handOn (n : Nat) (cell : List Byte) (s : State) : State :=
  let h := BitVec.ofNat 64 (ofBE (cell.take 8))
  if headerCrc h = h.setWidth 8 ∧ bits h.toNat 56 8 = 1 ∧ reservedCtl n (byteAt cell 8) then violation n 4 s
  else emit (.cell n cell) s

/-- Directions of the configuration to come; a lane that this end now receives on is not locked yet (Table 3-6 step 4). -/
def turnLanes (n : Nat) (s : State) : State :=
  let ref := bit s (fRef n)
  let old := txMask ref (getF s (fSplit n)) 15
  let tx := txMask ref (lGet s n).splitTarget 15
  forAll (linkLanes n) (fun k s =>
    let p := lanePage n k
    let s := setF (fLaneDir p) (if tx.testBit k then 1 else 0) s
    if old.testBit k && !tx.testBit k then setF (fLaneLock p) 0 s else s) s

/-- The transmit set of this end loses a lane in the change under way. -/
def losesLane (s : State) (n : Nat) : Bool :=
  let ref := bit s (fRef n)
  let old := txMask ref (getF s (fSplit n)) 15
  let new := txMask ref (lGet s n).splitTarget 15
  (List.range 4).any (fun k => old.testBit k && !new.testBit k)

/-- An end that loses a lane ends its block, sends TURN and turns its lanes (Table 3-6 step 3), each block once the replay
buffer has room for it (R55). DESIGN CHOICE, log entry 100. -/
def sendTurn (n : Nat) (s : State) : State :=
  if (lGet s n).splitStep = .ending then
    let s := if (lGet s n).forming.isEmpty || !replayRoom s n then s else finishBlock n false s
    if (lGet s n).forming.isEmpty && replayRoom s n then
      turnLanes n (finishBlock n true (lSet n { lGet s n with splitStep := .turning } s))
    else s
  else s

/-- A TURN block arrives (Table 3-6 step 4): the turned lanes reverse at this end too. -/
def turnReceived (n : Nat) (s : State) : State :=
  match (lGet s n).splitStep with
  | .acked => let s := turnLanes n s; lSet n { lGet s n with splitStep := .turning } s
  | .turning => s
  | _ => violation n 6 s

/-- The block with S = E is accepted: E advances, its cells are deciphered and handed on, and an ACK goes after 8. -/
def acceptBlock (n : Nat) (data : List Byte) (trailer : BitVec 64) (s : State) : State :=
  let hi := trailer.toNat / 2 ^ 32
  let btype := bits trailer.toNat 48 3
  let kph := bits trailer.toNat 51 1
  let l := lGet s n
  let keyed := bit s (fCipher n)
  let b := l.rxBlocks
  if keyed ∧ kph ≠ generation b % 2 then linkDown n 0xA (raise 115 n s)
  else
    let plain := if keyed then cryptBlock l.keyRx l.saltRx b data else data
    let s := lSet n { l with rxE := (l.rxE + 1) % 4096, awaitGood := false, rxSinceAck := l.rxSinceAck + 1 } s
    let s := if n = 4 then setF ⟨R.PAIR_STATUS, 4, 1⟩ 1 s else s
    let s := noteSegment n hi data (bump64 (R.LINK_BLOCKS_RX n) s)
    let cells := chunksOf 64 8 plain
    let s := if btype ≤ 2 then forAll cells (headerCredits n) s else s
    let s := match btype with
      | 0 => forAll cells (handOn n) s
      | 1 => turnReceived n s
      | 2 => s
      | _ => violation n 4 s
    if 8 ≤ (lGet s n).rxSinceAck then sendAck n s else s

/-- The failed turn of Table 3-7: RETRAIN into the configuration held before. -/
def turnFails (n : Nat) (s : State) : State :=
  let split := getF s (fSplit n)
  enterRetrain n 5 (takeSplit n split 15 s)

/-- A block arrives with its FEC verdict (R54). -/
def receiveBlock (n : Nat) (fecOk : Bool) (data : List Byte) (trailer : BitVec 64) (s : State) : State :=
  if linkState s n ≠ lsUp then s
  else
    let data := padTo 512 data
    let good := decide (blockCrc data (trailer.toNat / 2 ^ 32) = trailer.setWidth 32)
    if !fecOk then badBlock n s
    else if !good then badBlock n (bump (R.LINK_BCRC_ERR n) s)
    else
      let s := if n = 4 then setF ⟨R.PAIR_STATUS, 4, 1⟩ 1 s else s
      let d := (bits trailer.toNat 52 12 + 4096 - (lGet s n).rxE) % 4096
      if d = 0 then acceptBlock n data trailer s
      else if 4096 - 63 ≤ d then bump (R.LINK_DUP_BLOCKS n) s
      else if d ≤ 2047 then badBlock n s
      else enterRetrain n 9 (violation n 3 (sendNak n (bump (R.LINK_SEQ_REGRESS n) s)))

/-- LINK_BLOCK_RECEIVED (R54): a block with its FEC verdict, its 512 cell bytes and its trailer; `turned` says that it came
on a lane being turned. DEDUCED, log entry 34. -/
def execLinkBlockReceived (n : Port) (fecOk turned : Bool) (data : List Byte) (trailer : BitVec 64) (s : State) : Res :=
  hub s (fun s =>
    if linkState s n = lsUp ∧ turned ∧ (lGet s n).splitStep = .turning then turnFails n (violation n 5 s)
    else receiveBlock n fecOk data trailer s)

/-- TURN_BLOCK_RECEIVED (R54, R60): a link block of BTYPE TURN, which any copy of its LSEQ after the first repeats. -/
def execTurnBlockReceived (b : BlockIn) (s : State) : Res := hub s (receiveBlock b.port b.fecOk b.data b.trailer)

/-! ### NAK, ACK and their timers (R55, R56) -/

/-- NAK_RECEIVED: the transmitter resends from the named block, in steps 3 to 5 of a re-allotment once data resumes; the ninth in
a row of one LSEQ means RETRAIN. DESIGN CHOICE, log entry 100. -/
def execNakReceived (n : Port) (lseq : BitVec 12) (s : State) : Res :=
  hub s (fun s =>
    if linkState s n ≠ lsUp then s
    else
      let l := lGet s n
      let k := if l.nakCount ≠ 0 ∧ l.nakSeq = lseq.toNat then l.nakCount + 1 else 1
      let s := bump (R.LINK_NAK_RX n) (lSet n { l with nakSeq := lseq.toNat, nakCount := k } s)
      if 9 ≤ k then enterRetrain n 4 (raiseN (5 * n + 4) s)
      else if dataStands s n then lSet n { lGet s n with again := some lseq.toNat } s
      else sendAgain n (l.replay.dropWhile (fun b => b.lseq != lseq.toNat)) s)

/-- ACK_RECEIVED: blocks up to the named one leave the replay buffer. -/
def execAckReceived (n : Port) (lseq : BitVec 12) (s : State) : Res :=
  hub s (fun s =>
    let l := lGet s n
    match l.replay.findIdx? (fun b => b.lseq == lseq.toNat) with
    | some k => sendTurn n (lSet n { l with replay := l.replay.drop (k + 1), ackExpiries := 0, nakCount := 0 } s)
    | none => s)

/-- ACK_SEND_TIMER: 500 ns pass while blocks arrive. -/
def execAckSendTimer (n : Port) (s : State) : Res :=
  hub s (fun s => if linkState s n = lsUp ∧ (lGet s n).rxSinceAck ≠ 0 then sendAck n s else s)

/-- ACK_TIMEOUT (R56): every unacknowledged block is replayed; the fourth expiry without an advance means RETRAIN. In steps 3 to
5 of a re-allotment, where no data block goes either way, the timer does not expire. DEDUCED, log entry 33.
DESIGN CHOICE, log entry 100. -/
def execAckTimeout (n : Port) (s : State) : Res :=
  hub s (fun s =>
    let l := lGet s n
    if linkState s n ≠ lsUp ∨ l.replay.isEmpty ∨ dataStands s n then s
    else
      let s := bump (R.LINK_ACK_TIMEOUTS n) (lSet n { l with ackExpiries := l.ackExpiries + 1 } s)
      if 4 ≤ l.ackExpiries + 1 then enterRetrain n 3 (raiseN (5 * n + 4) s) else sendAgain n l.replay s)

/-! ### ROLE, CRD_RESYNC, CTAG -/

/-- ROLE_CELL_RECEIVED (R57, R313): the partner's mode and epoch. -/
def execRoleCellReceived (n : Port) (role : BitVec 8) (epoch : Word) (s : State) : Res :=
  hub s (fun s =>
    if linkState s n ≠ lsUp then s
    else
      let s := setF ⟨R.LINK_PARTNER_ROLE n, 8, 1⟩ 1 (setF ⟨R.LINK_PARTNER_ROLE n, 0, 3⟩ role.toNat s)
      let s := setReg (R.LINK_PARTNER_EPOCH n) epoch s
      let s := if n.val = 4 then setReg R.PAIR_PEER_EPOCH epoch s else s
      dockEvaluate s)

/-- ROLE_CELL_TIMER (R57): every 100 µs. -/
def execRoleCellTimer (n : Port) (s : State) : Res :=
  hub s (fun s => if linkState s n = lsUp ∨ linkState s n = lsLowpower then sendCtl n (roleCell s n) s else s)

/-- CRD_RESYNC_RECEIVED (R58): the transmitter's counts take the values received. -/
def execCrdResyncReceived (n : Port) (counts : Vector (BitVec 16) 8) (s : State) : Res :=
  hub s (fun s =>
    if linkState s n ≠ lsUp then s
    else forAll (List.range 8) (fun c s =>
      let v := (counts.toList.getD c 0).toNat
      let l := lGet s n
      let s := lSet n { l with txCredit := natSet l.txCredit c (min 4095 v) } s
      if 4095 < v then violation n 7 s else s) s)

/-- A segment's tag is wrong or missing (R406, R407). -/
def ctagFails (n seg : Nat) (s : State) : State :=
  if seg % 2 ^ 23 = 0 then linkDown n 0xA (raise 115 n s) else linkDown n 6 (raise (5 * n + 3) 5 s)

/-- CTAG_RECEIVED (R406): the tag of a segment is checked. DEDUCED, log entry 34. -/
def execCtagReceived (n : Port) (seg : BitVec 64) (tag : List Byte) (s : State) : Res :=
  hub s (fun s =>
    let l := lGet s n
    if linkState s n ≠ lsUp ∨ ¬ bit s (fCipher n) then s
    else
      match l.tagWait with
      | some (w, t) =>
        if w = seg.toNat ∧ t = tag then lSet n { l with tagWait := none } s else ctagFails n w s
      | none => ctagFails n seg.toNat s)

/-- CTAG_DEADLINE (R406): block 64s + 65 has been accepted and no CTAG for segment s has come. -/
def execCtagDeadline (n : Port) (s : State) : Res :=
  hub s (fun s =>
    let l := lGet s n
    match l.tagWait with
    | some (w, _) => if linkState s n = lsUp ∧ 64 * w + 66 ≤ l.rxBlocks then ctagFails n w s else s
    | none => s)

end Sys2Proof.Machine
end

