-- ==== Sys2Proof/Machine/Sideband.lean ====
section
/-!
DEFINITION. The sideband (03_veserlink_cable_link.md R63–R65, Table 3-19), AUTH frames (17_lifecycle_and_keys.md R403) and
re-allotment (R60–R62, Tables 3-6 and 3-7).
-/
namespace Sys2Proof.Machine

/-- A good frame shows the partner's presence: DETECT moves to TRAIN (R51). -/
def sbGood (n : Nat) (s : State) : State :=
  if linkState s n = lsDetect then setF (fLinkState n) lsTrain (lSet n { lGet s n with trainBad := 0 } s) else s

/-! ### Re-allotment -/

/-- A request ends with a RESULT; every one but OK and ABORTED counts as a refusal. DEDUCED, log entry 36. -/
def splitRefuse (n result : Nat) (s : State) : State := setF (fSplitResult n) result (satAdd (fSplitRefusals n) 1 s)

/-- A target that Table 3-7 calls illegal. -/
def splitIllegal (s : State) (n target : Nat) : Bool :=
  target == 0 || decide (4 ≤ target) || target == getF s (fSplit n) || getF s (fSplit n) == split11

/-- A write of `SPLIT_REQ` (Table 3-6 step 1); the Scarf link ignores it. DEDUCED, log entry 36. -/
def splitRequest (n target : Nat) (s : State) : State :=
  if n = 4 then s
  else
    let st := linkState s n
    if st ≤ lsAuth then splitRefuse n 6 s
    else if bit s (fSplitting n) ∨ st = lsRetrain then splitRefuse n 1 s
    else if splitIllegal s n target then splitRefuse n 2 s
    else
      let s := endLowpower n true s
      let s := lSet n { lGet s n with splitStep := .requested, splitOwn := true, splitTarget := target } s
      sendSb n 0x08 [BitVec.ofNat 8 target] (setF (fSplitting n) 1 s)

/-- SPLIT_REQUEST (R60). DEDUCED, log entry 35. -/
def execSplitRequest (n : Port) (target : BitVec 3) (s : State) : Res := hub s (splitRequest n target.toNat)

/-- The SPLIT_ACK is complete at both ends (Table 3-6 step 3): data stops, and the losing end ends its block, sends TURN and
turns its lanes. In a RETRAIN that has begun before, the change is aborted (Table 3-7). DEDUCED, log entry 36. -/
def beginTurn (n : Nat) (s : State) : State :=
  if linkState s n = lsRetrain then splitAborts n s
  else if linkState s n ≠ lsUp then s
  else if losesLane s n then sendTurn n (lSet n { lGet s n with splitStep := .ending, splitStart := s.ticks } s)
  else lSet n { lGet s n with splitStep := .acked, splitStart := s.ticks } s

/-- The change is done at this end (Table 3-6 step 6); what a NAK has asked for meanwhile is sent now. DEDUCED, log entry 36. -/
def splitDone (n : Nat) (s : State) : State :=
  let l := lGet s n
  let s := if l.splitOwn then setF (fSplitResult n) 0 s else s
  let s := setF (fSplitHold n) (min 255 ((s.ticks - l.splitStart) * 4 / 1000)) (bump (R.LINK_SPLITS n) s)
  let s := lSet n { l with splitStep := .idle, splitOwn := false, again := none } s
  let s := overbookCheck n (setF (fSplitting n) 0 (takeSplit n l.splitTarget 15 s))
  match l.again with
  | some q => sendAgain n (l.replay.dropWhile (fun b => b.lseq != q)) s
  | none => s

/-- A SPLIT_REQ arrives (Table 3-6 step 2, Table 3-7): of two requests in one round the reference end's proceeds, and equal
ones are one. An end with its own request pending answers SPLIT_ACK whatever its SPLIT_ACCEPT is, as Table 3-7 resolves
coincident requests without it. DESIGN CHOICE, log entry 100. -/
def sbSplitReq (n : Nat) (target : Byte) (s : State) : State :=
  let s := sbGood n s
  let l := lGet s n
  let t := target.toNat
  let nak (r : Nat) (s : State) : State := sendSb n 0x0A [target, BitVec.ofNat 8 r] s
  let ack (own : Bool) (s : State) : State :=
    let s := endLowpower n false s
    let l := lGet s n
    sendSb n 0x09 [target] (setF (fSplitting n) 1
      (lSet n { l with splitStep := .requested, splitOwn := own, splitTarget := t,
                       sbOut := l.sbOut.filter (fun f => f.1 != 0x08) } s))
  if n = 4 ∨ linkState s n ≤ lsDetect then s
  else if l.splitStep = .requested ∧ l.splitOwn then
    if bit s (fRef n) then s
    else if t = l.splitTarget then ack true s
    else ack false (splitRefuse n 4 s)
  else if bit s (fSplitting n) ∨ (linkState s n ≠ lsUp ∧ linkState s n ≠ lsLowpower) then nak 2 s
  else if splitIllegal s n t then nak 3 s
  else if bit s ⟨R.LINK_CTRL n, 3, 1⟩ then ack false s
  else nak 1 s

/-- SB_SPLIT_REQ_RECEIVED (R60). -/
def execSbSplitReqReceived (n : Port) (target : BitVec 8) (s : State) : Res := hub s (sbSplitReq n target)

/-- A SPLIT_ACK arrives (Table 3-6 step 3); without a request it is a violation. -/
def sbSplitAck (n : Nat) (target : Byte) (s : State) : State :=
  let s := sbGood n s
  let l := lGet s n
  if linkState s n ≤ lsDetect then s
  else if l.splitStep = .requested ∧ l.splitOwn ∧ l.splitTarget = target.toNat then beginTurn n s
  else violation n 6 s

/-- SB_SPLIT_ACK_RECEIVED (R60). -/
def execSbSplitAckReceived (n : Port) (target : BitVec 8) (s : State) : Res := hub s (sbSplitAck n target)

/-- A SPLIT_NAK arrives (R62): the request is abandoned. -/
def sbSplitNak (n : Nat) (s : State) : State :=
  let s := sbGood n s
  let l := lGet s n
  if l.splitStep = .requested ∧ l.splitOwn then
    splitRefuse n 3 (setF (fSplitting n) 0 (lSet n { l with splitStep := .idle, splitOwn := false } s))
  else s

/-- SB_SPLIT_NAK_RECEIVED (R62). -/
def execSbSplitNakReceived (n : Port) (_target _reason : BitVec 8) (s : State) : Res := hub s (sbSplitNak n)

/-- TURNED_LANES_LOCKED (Table 3-6 step 5): the end whose receiver has locked sends TURN_DONE on its new lanes and goes on. -/
def execTurnedLanesLocked (n : Port) (s : State) : Res :=
  hub s (fun s =>
    let l := lGet s n
    if linkState s n = lsUp ∧ l.splitStep = .turning ∧ losesLane s n then
      let s := forAll (linkLanes n) (fun k s =>
        if bit s (fLaneDir (lanePage n k)) then s else setF (fLaneLock (lanePage n k)) 1 s) s
      splitDone n (sendCtl n [0x05, BitVec.ofNat 8 l.splitTarget] s)
    else s)

/-- TURN_DONE_RECEIVED (Table 3-6 step 6). -/
def execTurnDoneReceived (n : Port) (split : BitVec 8) (s : State) : Res :=
  hub s (fun s =>
    let l := lGet s n
    if linkState s n = lsUp ∧ l.splitStep = .turning ∧ l.splitTarget = split.toNat then splitDone n s else s)

/-- TURN_LOCK_TIMEOUT (R62): a turned lane does not lock within 100 µs. -/
def execTurnLockTimeout (n : Port) (s : State) : Res :=
  hub s (fun s =>
    let l := lGet s n
    if l.splitStep = .turning ∨ l.splitStep = .acked ∨ l.splitStep = .ending then turnFails n s else s)

/-! ### This end's slot -/

/-- The lanes of a link with a status bit set. -/
def laneMask (s : State) (n lo : Nat) : Nat :=
  ((linkLanes n).map (fun k => if bit s ⟨R.LANE_STATUS (lanePage n k), lo, 1⟩ then 2 ^ k else 0)).sum

/-- What the end of this end's own transmission of a frame causes. -/
def sbSent (n type : Nat) (payload : List Byte) (s : State) : State :=
  if type = 0x09 then beginTurn n s
  else if type = 0x11 then enterLowpower n s
  else if type = 0x42 then
    if byteAt payload 0 = 0 then authCheck n s else if linkState s n = lsAuth then authFail n 6 s else s
  else s

/-- The adaptation of a lane may ask for the partner's taps: in TRAIN, while the partner's transmitters are trained, for a lane
the link has (R49, Table 3-19). -/
def asksTaps (s : State) (n : Nat) (phase : Fin 3) (k : Fin 4) : Bool :=
  linkState s n == lsTrain && (linkLanes n).contains k.val && (phase.val == if bit s (fRef n) then 1 else 0)

/-- SIDEBAND_SLOT (R63): this end's slot opens; it sends what waits, else in TRAIN the FFE_REQ that its adaptation asks for
(`st.ffe`), TRAIN_STATE with its training phase in TRAIN and RETRAIN, WAKE in DETECT
while the partner shows no training, else IDLE. An LP_ACK gives way to LP_NAK where a cell was sent meanwhile (R53).
DESIGN CHOICE, log entry 38. -/
def execSidebandSlot (n : Port) (st : SlotState) (s : State) : Res :=
  hub s (fun s =>
    let l := lGet s n
    let now := linkState s n
    let send (type : Nat) (payload : List Byte) (s : State) : State := emit (.sideband n (sbFrame type payload)) s
    let state (s : State) : State :=
      send 0x01 [BitVec.ofNat 8 (st.phase.val + 1), BitVec.ofNat 8 (laneMask s n 1), BitVec.ofNat 8 (laneMask s n 7)] s
    if ¬ l.veser ∧ n.val ≠ 4 then s
    else
      match l.sbOut with
      | (t, p) :: rest =>
        let t := if t = 0x11 ∧ ¬ lpIdle s n then 0x12 else t
        sbSent n t p (send t p (lSet n { l with sbOut := rest } s))
      | [] =>
        if now = lsTrain ∨ now = lsRetrain then
          match st.ffe with
          | some (k, c) =>
            if asksTaps s n st.phase k then
              send 0x02 [BitVec.ofNat 8 k.val, c.setWidth 8, BitVec.ofNat 8 (c.toNat / 256)] s
            else state s
          | none => state s
        else if now = lsDetect ∧ ¬ l.sawTrain then send 0x18 [] s
        else if now = lsDown then s
        else send 0x00 [] s)

/-! ### Frames received -/

/-- SB_IDLE_RECEIVED (R63). -/
def execSbIdleReceived (n : Port) (s : State) : Res := hub s (sbGood n)

/-- A TRAIN_STATE arrives (R65): phase, locked lanes, stored lanes; a set that names no phase or no such lane is malformed,
and three in a row restart TRAIN (Table 3-9, bit 2). -/
def sbTrainState (n : Nat) (phase locked stored : Byte) (s : State) : State :=
  let s := sbGood n s
  let l := lGet s n
  if linkState s n ≠ lsTrain then lSet n { l with sawTrain := true } s
  else if phase = 0 ∨ 3 < phase.toNat ∨ 15 < locked.toNat ∨ 15 < stored.toNat then
    let s := violation n 2 (bump (R.LINK_TRAIN_BAD n) s)
    if 3 ≤ l.trainBad + 1 then
      let s := forAll (linkLanes n) (fun k s => setF ⟨R.LANE_STATUS (lanePage n k), 6, 2⟩ 0
        (setF (fLaneLock (lanePage n k)) 0 s)) s
      lSet n { lGet s n with trainBad := 0 } s
    else lSet n { l with trainBad := l.trainBad + 1 } s
  else lSet n { l with trainBad := 0, sawTrain := true } s

/-- SB_TRAIN_STATE_RECEIVED (R65). -/
def execSbTrainStateReceived (n : Port) (phase locked stored : Byte) (s : State) : Res :=
  hub s (sbTrainState n phase locked stored)

/-- The five taps of `LANE.FFE`: c−2, c−1, c0, c+1, c+2 (Table 3-18). -/
def tapsOf (v : Nat) : List Int :=
  [sext 6 (bits v 0 6), sext 6 (bits v 6 6), (bits v 12 6 : Nat), sext 6 (bits v 18 6), sext 6 (bits v 24 6)]

/-- The register word of five taps. -/
def tapsWord (t : List Int) : Nat :=
  toField 6 (t.getD 0 0) + toField 6 (t.getD 1 0) * 2 ^ 6 + toField 6 (t.getD 2 0) * 2 ^ 12
    + toField 6 (t.getD 3 0) * 2 ^ 18 + toField 6 (t.getD 4 0) * 2 ^ 24

/-- The taps keep their ranges and the sum bound of Table 3-18. -/
def tapsOk (t : List Int) : Bool :=
  decide ((t.map Int.natAbs).sum ≤ 63) && decide (0 ≤ t.getD 2 0)
    && [0, 1, 3, 4].all (fun i => decide (-32 ≤ t.getD i 0) && decide (t.getD i 0 ≤ 31))

/-- The preset: the reset value of `LANE.FFE`. -/
def tapsPreset : List Int := tapsOf 0x3F000

/-- The taps that an FFE_REQ asks for, from those in force (Table 3-19). -/
def tapsAsked (t : List Int) (codes0 codes1 : Byte) : List Int :=
  let code (i : Nat) : Nat := if i < 4 then bits codes0.toNat (2 * i) 2 else bits codes1.toNat 0 2
  (List.range 5).map (fun i =>
    match code i with | 0 => t.getD i 0 | 1 => t.getD i 0 + 1 | 2 => t.getD i 0 - 1 | _ => tapsPreset.getD i 0)

/-- An FFE_REQ arrives (R49, Table 3-19): this end's transmit taps move as asked, or stay where the sum bound would be
exceeded; FFE_STATUS answers. DESIGN CHOICE, log entry 38. -/
def sbFfeReq (n : Nat) (lane codes0 codes1 : Byte) (s : State) : State :=
  let s := sbGood n s
  let k := lane.toNat
  if linkState s n = lsTrain ∧ (linkLanes n).contains k then
    let p := lanePage n k
    let key := R.LANE_FFE p
    let t := tapsOf (reg s key).toNat
    let frozen := bit s ⟨R.LANE_CTRL p, 0, 1⟩
    let ok := tapsOk (tapsAsked t codes0 codes1)
    let now := if ok && !frozen then tapsAsked t codes0 codes1 else t
    let s := setReg key (BitVec.ofNat 32 (tapsWord now)) s
    sendSb n 0x03 ([lane, if ok then 0 else 1] ++ now.map (fun c => BitVec.ofInt 8 c)) s
  else s

/-- SB_FFE_REQ_RECEIVED (R49). -/
def execSbFfeReqReceived (n : Port) (lane codes0 codes1 : Byte) (s : State) : Res := hub s (sbFfeReq n lane codes0 codes1)

/-- An FFE_STATUS arrives (R65): the taps the partner now has in force. -/
def sbFfeStatus (n : Nat) (payload : List Byte) (s : State) : State :=
  let s := sbGood n s
  lSet n { lGet s n with ffePeer := payload } s

/-- SB_FFE_STATUS_RECEIVED (R65). -/
def execSbFfeStatusReceived (n : Port) (payload : Vector Byte 7) (s : State) : Res := hub s (sbFfeStatus n payload.toList)

/-- An LP_REQ arrives (R53): LP_ACK where this end may agree, else LP_NAK. DEDUCED, log entry 39. -/
def sbLpReq (n : Nat) (s : State) : State :=
  let s := sbGood n s
  if linkState s n ≠ lsUp then s else sendSb n (if lpIdle s n then 0x11 else 0x12) [] s

/-- SB_LP_REQ_RECEIVED (R53). -/
def execSbLpReqReceived (n : Port) (s : State) : Res := hub s (sbLpReq n)

/-- An LP_ACK arrives (R53): the exchange is complete. An end that has sent a cell since it asked drives the exit pattern at
once instead. DEDUCED, log entry 39. -/
def sbLpAck (n : Nat) (s : State) : State :=
  let s := sbGood n s
  if ¬ (lGet s n).lpAsked then s
  else if lpIdle s n then enterLowpower n s
  else emit (.lpExit n) (lSet n { lGet s n with lpAsked := false } s)

/-- SB_LP_ACK_RECEIVED (R53). -/
def execSbLpAckReceived (n : Port) (s : State) : Res := hub s (sbLpAck n)

/-- An LP_NAK arrives (Table 3-19): the link stays UP. -/
def sbLpNak (n : Nat) (s : State) : State := let s := sbGood n s; lSet n { lGet s n with lpAsked := false } s

/-- SB_LP_NAK_RECEIVED (Table 3-19). -/
def execSbLpNakReceived (n : Port) (s : State) : Res := hub s (sbLpNak n)

/-- A WAKE arrives (R65): it ends a retry timer, and the port enters DETECT at once. DEDUCED, log entry 33. -/
def sbWake (n : Nat) (s : State) : State :=
  if linkState s n = lsDown ∧ (lGet s n).retrying then linkStart n (stopRetry n s) else sbGood n s

/-- SB_WAKE_RECEIVED (R65). DEDUCED, log entry 33. -/
def execSbWakeReceived (n : Port) (s : State) : Res := hub s (sbWake n)

/-- A DOWN_REASON arrives (R64): the partner's reason is recorded, and the link goes DOWN with reason 8. -/
def sbDownReason (n : Nat) (reason : Byte) (s : State) : State :=
  let s := setF (fPartnerReason n) reason.toNat s
  if linkState s n = lsDetect then sbGood n s else linkDown n 8 s

/-- SB_DOWN_REASON_RECEIVED (R64). -/
def execSbDownReasonReceived (n : Port) (reason : Byte) (s : State) : Res := hub s (sbDownReason n reason)

/-- An AUTH_HELLO fragment arrives (R403); a body of another length than its fragment has is a bad frame (R65).
DEDUCED, log entry 37. -/
def sbAuthHello (n : Nat) (frag : Byte) (body : List Byte) (s : State) : State :=
  if body.length ≠ (if frag = 2 then 7 else 9) ∨ 2 < frag.toNat then bump (R.LINK_SB_BAD n) s
  else
    let s := sbGood n s
    let l := lGet s n
    if linkState s n ≠ lsAuth ∨ l.peerId.isEmpty ∨ l.helloSeen = 7 then s
    else
      let l := match frag.toNat with
        | 0 => { l with peerId := body.take 8, peerNonce := splice l.peerNonce 0 (body.drop 8) }
        | 1 => { l with peerNonce := splice l.peerNonce 1 body }
        | _ => { l with peerNonce := splice l.peerNonce 10 (body.take 6), peerKeyed := byteAt body 6 % 2 == 1 }
      let seen := l.helloSeen ||| 2 ^ frag.toNat
      let s := lSet n { l with helloSeen := seen } s
      if seen = 7 then helloDone n s else s

/-- SB_AUTH_HELLO_RECEIVED (R403). DEDUCED, log entry 37. -/
def execSbAuthHelloReceived (n : Port) (frag : Byte) (body : List Byte) (s : State) : Res := hub s (sbAuthHello n frag body)

/-- An AUTH_PROOF fragment arrives (R403). DEDUCED, log entry 37. -/
def sbAuthProof (n : Nat) (frag : Byte) (body : List Byte) (s : State) : State :=
  if body.length ≠ 8 ∨ 1 < frag.toNat then bump (R.LINK_SB_BAD n) s
  else
    let s := sbGood n s
    let l := lGet s n
    if linkState s n ≠ lsAuth ∨ l.helloSeen ≠ 7 ∨ l.proofSeen = 3 then s
    else
      let seen := l.proofSeen ||| 2 ^ frag.toNat
      let s := lSet n { l with peerProof := splice l.peerProof (8 * frag.toNat) body, proofSeen := seen } s
      if seen = 3 then proofDone n s else s

/-- SB_AUTH_PROOF_RECEIVED (R403). DEDUCED, log entry 37. -/
def execSbAuthProofReceived (n : Port) (frag : Byte) (body : List Byte) (s : State) : Res := hub s (sbAuthProof n frag body)

/-- An AUTH_DONE arrives (R403): success, or the partner's failure. An end in END fails with kind 6 whatever arrives, once its own
AUTH_DONE has gone (R382). DEDUCED, log entry 37. -/
def sbAuthDone (n : Nat) (kind : Byte) (s : State) : State :=
  let s := sbGood n s
  if linkState s n ≠ lsAuth then s
  else if lc s = lcEnd then authEnd n s
  else if kind = 0 then authCheck n (lSet n { lGet s n with peerDone := true } s)
  else authFail n 4 s

/-- SB_AUTH_DONE_RECEIVED (R403). DEDUCED, log entry 37. -/
def execSbAuthDoneReceived (n : Port) (kind : Byte) (s : State) : Res := hub s (sbAuthDone n kind)

/-! ### Frames as they arrive (R63, R65) -/

/-- The payload lengths of a frame type, none for a reserved one (Table 3-19, Table 17-9). -/
def sbLengths (type : Nat) : List Nat :=
  if type ∈ [0x00, 0x10, 0x11, 0x12, 0x18] then [0]
  else if type ∈ [0x08, 0x09, 0x20, 0x42] then [1]
  else if type = 0x0A then [2]
  else if type ∈ [0x01, 0x02] then [3]
  else if type = 0x03 then [7]
  else if type = 0x40 then [8, 10]
  else if type = 0x41 then [9]
  else []

/-- Type and payload of a frame whose preamble, type, length and CRC-8 are good. -/
def sbParse (frame : List Byte) : Option (Nat × List Byte) :=
  let body := (frame.drop 1).dropLast
  let payload := body.drop 2
  if byteAt frame 0 = 0x57 ∧ 4 ≤ frame.length ∧ byteAt frame 2 = payload.length ∧ payload.length ∈ sbLengths (byteAt frame 1)
      ∧ frame.getLast? = some (crc8 body) then some (byteAt frame 1, payload)
  else none

/-- What a good frame does, by its type. -/
def sbReceive (n type : Nat) (p : List Byte) (s : State) : State :=
  let b (i : Nat) : Byte := p.getD i 0
  match type with
  | 0x01 => sbTrainState n (b 0) (b 1) (b 2) s
  | 0x02 => sbFfeReq n (b 0) (b 1) (b 2) s
  | 0x03 => sbFfeStatus n p s
  | 0x08 => sbSplitReq n (b 0) s
  | 0x09 => sbSplitAck n (b 0) s
  | 0x0A => sbSplitNak n s
  | 0x10 => sbLpReq n s
  | 0x11 => sbLpAck n s
  | 0x12 => sbLpNak n s
  | 0x18 => sbWake n s
  | 0x20 => sbDownReason n (b 0) s
  | 0x40 => sbAuthHello n (b 0) (p.drop 1) s
  | 0x41 => sbAuthProof n (b 0) (p.drop 1) s
  | 0x42 => sbAuthDone n (b 0) s
  | _ => sbGood n s

/-- SB_BAD_FRAME_RECEIVED (R63, R65): the bytes of a frame are judged; a bad one is ignored and counted, a good one acts.
DEDUCED, log entry 92. -/
def execSbBadFrameReceived (frame : SbBytes) (s : State) : Res :=
  hub s (fun s =>
    match sbParse frame.bytes with
    | some (type, payload) => sbReceive frame.port type payload s
    | none => bump (R.LINK_SB_BAD frame.port) s)

end Sys2Proof.Machine
end

