-- ==== Sys2Proof/Machine/Lanes.lean ====
section
/-!
DEFINITION. The lane pages (03_veserlink_cable_link.md R50, R73–R75, Tables 3-17 and 3-18) and the 1 ms rate check of a
link's codewords.
-/
namespace Sys2Proof.Machine

/-- The link and lane of a lane page, for the pages of Veserlink lanes (R73). -/
def linkOfPage (p : Nat) : Option (Nat × Nat) := if p < 16 then some (p / 4, p % 4) else if p = 16 then some (4, 0) else none

/-- Lanes of a lane page (Table 3-17). -/
def pageLanes (p : Nat) : Nat := if 21 ≤ p ∧ p ≤ 24 then 4 else 1

/-- The copy of a lane register: on a multi-lane page the one that LANE.SEL would choose. -/
def laneKey (base p k : Nat) : Nat := regKey base (if pageLanes p = 1 then 0 else k)

/-- A lane carries no traffic (R75): SERVICE, test training in COLD, or outside the active set of a 1+1 link. Test training is
what a Veserlink link of COLD does in TRAIN, which leads it no further than AUTH; a lane of no link has no training of its own,
and is tested in COLD at any time. DESIGN CHOICE, log entry 38. -/
def testPermitted (s : State) (p : Nat) : Bool :=
  mode s == mService ||
    (match linkOfPage p with
     | some (n, k) => (mode s == mCold && linkState s n == lsTrain)
         || (getF s (fSplit n) == split11 && !(getF s (fTxLanes n)).testBit k && !(getF s (fRxLanes n)).testBit k)
     | none => mode s == mCold)

/-- A far-end loop needs the partner of its link in SERVICE, as its last ROLE cell said (R75); a lane of no Veserlink link has
no partner with a mode. DESIGN CHOICE, log entry 38. -/
def loopPermitted (s : State) (p loop : Nat) : Bool :=
  testPermitted s p && (loop != 3 ||
    (match linkOfPage p with
     | some (n, _) => mode s == mService && bit s ⟨R.LINK_PARTNER_ROLE n, 8, 1⟩ && getF s ⟨R.LINK_PARTNER_ROLE n, 0, 3⟩ == mService
     | none => true))

/-- In SERVICE the link of a lane under test goes DOWN with reason 0xC and stays there while the test runs (R75); so does one in
LOWPOWER or RETRAIN, which could pass to UP only without a test (R51). DESIGN CHOICE, log entry 38. -/
def testHolds (p : Nat) (s : State) : State :=
  match linkOfPage p with
  | none => s
  | some (n, _) =>
    let runs := testRuns s n
    let was := (lGet s n).testHold
    if mode s ≠ mService then authCheck n s
    else if runs then
      let s := lSet n { lGet s n with testHold := true } s
      if lsUp ≤ linkState s n then linkDown n 0xC s else s
    else
      let s := lSet n { lGet s n with testHold := false } s
      authCheck n (when was (linkStart n) s)

/-- The coefficients of a lane that adapts now: it is locked and not frozen (R49, R50). -/
def laneAdapts (p k : Nat) (s : State) : State :=
  if bit s ⟨laneKey (R.LANE_STATUS p) p k, 1, 1⟩ && !bit s ⟨laneKey (R.LANE_CTRL p) p k, 0, 1⟩ then
    adaptTaps (laneKey (R.LANE_CTLE p) p k) (fun i => laneKey (R.LANE_DFE p i) p k) s
  else s

/-- A snapshot at the read of the receiver's coefficients: `dfe` says whether of the taps, all of one capture, or of CTLE (R330). -/
def tapsRead (dfe : Bool) (p k : Nat) (s : State) : State :=
  let t := laneAdapts p k s
  let keys := if dfe then [laneKey (R.LANE_CTLE p) p k] else [0, 1, 2].map (fun i => laneKey (R.LANE_DFE p i) p k)
  forAll keys (fun key t => setReg key (reg s key) t) t

/-- FREEZE is written: the coefficients of that instant are held; ADAPTING follows (R50). DESIGN CHOICE, log entry 38. -/
def laneFreeze (p k freeze : Nat) (s : State) : State :=
  let s := when (freeze == 1) (laneAdapts p k) s
  let st := laneKey (R.LANE_STATUS p) p k
  setF ⟨st, 2, 1⟩ (if bit s ⟨st, 1, 1⟩ then 1 - freeze else 0) (setF ⟨laneKey (R.LANE_CTRL p) p k, 0, 1⟩ freeze s)

/-- A write of `LANE.CTRL`: FREEZE and TX_DIS always, LOOP where R75 permits a loop. -/
def laneCtrlWrite (p k : Nat) (v : Nat) (s : State) : State :=
  let key := laneKey (R.LANE_CTRL p) p k
  let loop := bits v 1 2
  let s := setF ⟨key, 3, 1⟩ (bits v 3 1) (laneFreeze p k (bits v 0 1) s)
  if loop = 0 ∨ loopPermitted s p loop then
    testHolds p (setF ⟨laneKey (R.LANE_STATUS p) p k, 4, 2⟩ loop (setF ⟨key, 1, 2⟩ loop s))
  else s

/-- A write of `LANE.PRBS_CTRL`: the enables where R75 permits them; INJ inverts one transmitted bit and clears. -/
def lanePrbsWrite (p k : Nat) (v : Nat) (s : State) : State :=
  let key := laneKey (R.LANE_PRBS_CTRL p) p k
  let enables := bits v 2 1 = 1 ∨ bits v 5 1 = 1
  if enables ∧ ¬ testPermitted s p then s
  else
    let s := setF ⟨key, 0, 6⟩ (bits v 0 6) s
    let s := if bits v 6 1 = 1 then emit (.invertBit p k) s else s
    testHolds p s

/-- A write of a coefficient register: it takes effect while FREEZE is 1 (R50); taps beyond the sum bound of Table 3-18 are
not taken. `i` is 0 for LANE.FFE, 1 for LANE.CTLE, 2 to 4 for LANE.DFE0 to DFE2. -/
def laneCoeffWrite (p k i : Nat) (v : Word) (s : State) : State :=
  if bit s ⟨laneKey (R.LANE_CTRL p) p k, 0, 1⟩ then
    if i = 0 then
      let w := v &&& 0x3FFFFFFF
      if tapsOk (tapsOf w.toNat) then setReg (laneKey (R.LANE_FFE p) p k) w s else s
    else if i = 1 then setReg (laneKey (R.LANE_CTLE p) p k) (v &&& 0xFF) s
    else setReg (laneKey (R.LANE_DFE p (i - 2)) p k) v s
  else s

/-- LANE_FREEZE_WRITE (R50). -/
def execLaneFreezeWrite (p : Fin 28) (k : Fin 4) (freeze : Bool) (s : State) : Res :=
  hub s (fun s =>
    if k.val < pageLanes p then laneFreeze p k (if freeze then 1 else 0) s else s)

/-- LANE_COEFF_WRITE (R50). -/
def execLaneCoeffWrite (p : Fin 28) (k : Fin 4) (i : Fin 5) (v : Word) (s : State) : Res :=
  hub s (fun s => if k.val < pageLanes p then laneCoeffWrite p k i v s else s)

/-- LANE_TEST_ENABLE (R75): a write of LANE.PRBS_CTRL, or of LANE.CTRL for a loop. -/
def execLaneTestEnable (p : Fin 28) (k : Fin 4) (prbs : Bool) (v : Word) (s : State) : Res :=
  hub s (fun s =>
    if k.val < pageLanes p then
      if prbs then lanePrbsWrite p k (v &&& ~~~0x40).toNat s else laneCtrlWrite p k v.toNat s
    else s)

/-- PRBS_INJECT (R75). -/
def execPrbsInject (p : Fin 28) (k : Fin 4) (s : State) : Res :=
  hub s (fun s =>
    if k.val < pageLanes p then
      lanePrbsWrite p k (getF s ⟨laneKey (R.LANE_PRBS_CTRL p) p k, 0, 6⟩ + 64) s
    else s)

/-- MANT and EXP of `num / den` (Table 3-18, R74): MANT is 128 to 255, cut off below. -/
def berOf (num den : Nat) : Nat × Nat :=
  if num = 0 ∨ den = 0 then (0, 0)
  else
    match (List.range 64).find? (fun e => decide (128 ≤ num * 2 ^ e / den)) with
    | some e => (min 255 (num * 2 ^ e / den), e)
    | none => (0, 0)

/-- The PRBS checker of a lane has seen `bits` bits with `errors` errors: PRBS_ERR saturates at 48 bits (R75, Table 3-18). -/
def prbsChecked (p k bits errors : Nat) (lock : Bool) (s : State) : State :=
  let st := laneKey (R.LANE_STATUS p) p k
  if bit s ⟨laneKey (R.LANE_PRBS_CTRL p) p k, 5, 1⟩ then
    let key := laneKey (R.LANE_PRBS_ERR p) p k
    let s := addCnt64 key (min (cnt64 s key + errors) (2 ^ 48 - 1) - cnt64 s key) s
    setF ⟨st, 3, 1⟩ (if lock then 1 else 0) (addCnt64 (laneKey (R.LANE_PRBS_BITS p) p k) bits s)
  else setF ⟨st, 3, 1⟩ 0 s

/-- BER_ESTIMATE_UPDATE (R74): the last 1 ms of a lane with RS FEC brought codewords, corrected symbols and uncorrectable
codewords; with its checker on, checked bits and errors. DESIGN CHOICE, log entry 38. -/
def execBerEstimateUpdate (p : Fin 28) (k : Fin 4) (fec : FecTick) (prbs : PrbsTick) (s : State) : Res :=
  hub s (fun s =>
    if pageLanes p ≤ k.val then s
    else
      let s := prbsChecked p k prbs.bits.toNat prbs.errors.toNat prbs.lock s
      if 17 ≤ p.val then s
      else
        let s := addCnt64 (R.LANE_FEC_CW p) fec.cw.toNat (addCnt64 (R.LANE_FEC_CORR_SYM p) fec.corr.toNat
          (addCnt64 (R.LANE_FEC_UNCORR_CW p) fec.uncorr.toNat s))
        let (m, e) := berOf fec.corr.toNat (fec.cw.toNat * 5440)
        setReg (R.LANE_BER_EST p) (BitVec.ofNat 32 (m + e * 256)) s)

/-- FEC_RATE_INTERVAL (R54, Table 3-13): uncorrectable codewords of the link's lanes since the last 1 ms boundary. -/
def execFecRateInterval (n : Port) (s : State) : Res :=
  hub s (fun s =>
    let now := ((linkLanes n).map (fun k => cnt64 s (R.LANE_FEC_UNCORR_CW (lanePage n k)))).sum
    let l := lGet s n
    let s := lSet n { l with fecSeen := now } s
    if getF s ⟨R.LINK_FEC_THRESH n, 0, 16⟩ < now - l.fecSeen then raiseN (5 * n + 1) s else s)

end Sys2Proof.Machine
end

