-- ==== Sys2Proof/Machine/RegRead.lean ====
section
/-!
DEFINITION. Reads of the register space (18_register_pages.md R411–R421): values computed at the read, reads that take what they
return, the latch of 64-bit counters, and reads of pages that do not answer.
-/
namespace Sys2Proof.Machine

/-- How an access ended at its page (Table 18-9). -/
inductive Access
  | ok | refused | timeout
  deriving DecidableEq, Repr

/-- ENABLE of a page. PRESUMED, log entry 15. -/
abbrev fEnable (page : Nat) : Fld := ⟨page * 0x1000 + 0x008, 0, 1⟩
/-- PRESUMED, log entry 15. -/
abbrev fEnabled (page : Nat) : Fld := ⟨page * 0x1000 + 0x00C, 0, 1⟩
/-- PRESUMED, log entry 15. -/
abbrev fLocked (page : Nat) : Fld := ⟨page * 0x1000 + 0x00C, 2, 1⟩

/-- The copy of a windowed register that the page's selector names; `none` where no such copy exists.
DEDUCED, log entry 81. -/
def selValue (s : State) (page : Nat) : SelKind → Option Nat
  | .none => some 0
  | .tun => some (getF s ⟨R.TUN_IDX, 0, 8⟩)
  | .bq => let b := getF s ⟨R.SWC_BQ_SEL, 0, 5⟩; if b % 16 ≤ 13 then some b else none
  | .q => let q := getF s ⟨R.BUF_QSEL, 0, 9⟩; if q < 270 then some q else none
  | .svc => let v := (reg s (page * 0x1000 + 0x140)).toNat; if 2 ≤ v / 256 then some v else none
  | .gate => if page = 0x67 then some (getF s ⟨0x67180, 0, 2⟩) else if page ≤ 0x64 then some 0 else none
  | .lane => some (if pageLanes (page - 0x20) = 1 then 0 else getF s ⟨page * 0x1000 + 0x100, 0, 2⟩)

/-- `PAGE_ID` (Table 18-2). -/
def pageId (k : PageKind) (page : Nat) : Nat :=
  (pageInfo k).type + (page - typeFirst k) * 256 + 2 ^ 16 + (if (pageInfo k).powerDie then 2 else 1) * 2 ^ 20

/-- `PAGE_CAPS` (Table 18-3). -/
def pageCaps (k : PageKind) (page : Nat) : Nat :=
  let i := pageInfo k
  bitsOf [i.commit, i.lock, i.fi, i.soft, i.gate, mirroredPage page]

/-- ms left of a period that began at a tick. -/
def msLeft (s : State) (period start : Nat) : Nat := period - (s.ticks - start) / 250000

/-- `LINK.HOLD_STATUS` (R70). -/
def holdStatus (s : State) (n : Nat) : Nat :=
  let l := lGet s n
  if l.holding then 1 + bits (reg s (R.LINK_HOLD_STATUS n)).toNat 1 1 * 2
      + msLeft s (getF s ⟨R.LINK_HOLD n, 0, 16⟩) l.holdStart * 65536
  else bits (reg s (R.LINK_HOLD_STATUS n)).toNat 1 1 * 2

/-- `SEC.AUTH_STATUS` as a path sees it: on the management path bit 1 is that of its SRC_HID, elsewhere that of any.
DESIGN CHOICE, log entry 79. -/
def authStatus (s : State) (p : Path) : Nat :=
  let a := apGet s p
  let mgmt : Bool := match p with
    | .mgmt _ => a.authed
    | _ => (List.range 64).any (fun h => authed s (.mgmt (BitVec.ofNat 6 h)))
  bitsOf [authed s .bar0, mgmt, authed s .usb, authed s .spi, authed s .jtag] + min 3 a.fails * 256
    + (if a.lockout then msLeft s 10000 a.lockTick * 65536 else 0)

/-- The management gate of the device function (Table 10-9): 0 closed, 1 open by life cycle, 2 open by authentication, 3
read-only. -/
def usbGate (s : State) : Nat :=
  if lc s ≤ 1 then 1 else if lc s = lcEnd then 3 else if authed s .usb then 2 else 0

/-- `SCH.GATE_STATUS` at the read (R145, R147, R151): the entry and the mask in force while the gate runs, 0 while it is
disabled, and PENDING. DESIGN CHOICE, log entry 80. -/
def gateStatus (s : State) (page : Nat) : Nat :=
  match selValue s page .gate with
  | none => 0
  | some c =>
    let g := if page = 0x67 then 8 + c else page - 0x60
    let pending := bitsOf [false, bit s ⟨gateKey g 0x198, 1, 1⟩]
    if gateEn s g then
      let (i, mask, _) := gateNow s g
      pending + 1 + i % 32 * 4 + mask % 256 * 256
    else pending

/-- `LANE.STATUS` of a lane; DIR of a lane with a fixed direction is that direction, transmit at a display output (R73,
Table 3-17). DESIGN CHOICE, log entry 95. -/
def laneStatus (s : State) (page : Nat) : Nat :=
  let p := page - 0x20
  let k := if pageLanes p = 1 then 0 else getF s ⟨page * 0x1000 + 0x100, 0, 2⟩
  let v := (reg s (laneKey (R.LANE_STATUS p) p k)).toNat
  if p ≤ 16 then v
  else v / 2 * 2 + (if p = 23 ∨ p = 24 ∨ Config.laneTransmits page k then 1 else 0)

/-- A read of CTLE, or of DFE0 with all the taps, of a lane that adapts finds the values of that instant; DFE1 and DFE2 are read
from the capture that DFE0 made (R49, R50, R330). DESIGN CHOICE, log entry 38. -/
def liveTaps (k : PageKind) (page off : Nat) (s : State) : State :=
  if k == .lane && (off == 0x110 || off == 0x114) then
    let p := page - 0x20
    tapsRead (off == 0x114) p (if pageLanes p = 1 then 0 else getF s ⟨page * 0x1000 + 0x100, 0, 2⟩) s
  else s

/-- Registers whose value is taken at the read (R98, R131, R151, R257, R342, R360, R391): `none` for every other.
DESIGN CHOICE, log entry 80. -/
def computedRead (p : Path) (k : PageKind) (page off : Nat) (s : State) : Option Nat :=
  let raw := (reg s (page * 0x1000 + off)).toNat
  match k, off with
  | .dev, 0x300 => some (bitsOf [!s.mbRx.isEmpty, mbBusy s] + (1023 - s.mbTx.length) * 4 * 65536)
  | .time, 0x300 => some (putBits raw 1 1 (if (inqGet s 12).isEmpty then 0 else 1))
  | .flt, 0x104 => some (raw / 4 * 4 + bitsOf [intDriven s, faultDriven s])
  | .sec, 0x104 => some (Config.deviceId.toNat % 2 ^ 32)
  | .sec, 0x108 => some (Config.deviceId.toNat / 2 ^ 32 % 2 ^ 32)
  | .sec, 0x120 => some (ofBE (sub ((apGet s p).chal.getD []) 0 4))
  | .sec, 0x124 => some (ofBE (sub ((apGet s p).chal.getD []) 4 4))
  | .sec, 0x128 => some (ofBE (sub ((apGet s p).chal.getD []) 8 4))
  | .sec, 0x12C => some (ofBE (sub ((apGet s p).chal.getD []) 12 4))
  | .sec, 0x140 => some (authStatus s p)
  | .link, 0x104 => if page = 0x14 then some (putBits raw 4 3 split22) else none
  | .link, 0x118 => some (holdStatus s (page - 0x10))
  | .lane, 0x108 => some (laneStatus s page)
  | .tun, 0x10C =>
    some ((validEntries s).length
      + ((validEntries s).filter (fun i => (tGet s i).susp || (tGet s i).halted)).length * 65536)
  | .tun, 0xC10 => some ((entryWords s (getF s ⟨R.TUN_IDX, 0, 8⟩)).getD 0 0)
  | .tun, 0xC14 => some ((entryWords s (getF s ⟨R.TUN_IDX, 0, 8⟩)).getD 1 0)
  | .tun, 0xC18 => some ((entryWords s (getF s ⟨R.TUN_IDX, 0, 8⟩)).getD 2 0)
  | .tun, 0xC1C => some ((entryWords s (getF s ⟨R.TUN_IDX, 0, 8⟩)).getD 3 0)
  | .buf, 0x104 => some (loftFree s + (s.loft.map (fun e => e.2.reserved)).sum * 2 ^ 17)
  | .buf, 0x108 =>
    some (chunksUsed s + spillCount s * 2 ^ 17 + (if chunkTotal s ≤ chunksUsed s ∧ chunkTotal s ≠ 0 then 2 ^ 24 else 0))
  | .mem, 0x108 => some (bits raw 0 7 + (if s.mem.selfRefresh || bit s fRateChanging then 128 else 0))
  | .sch, 0x104 =>
    let m := page - 0x60
    let dflt (c : Nat) : Bool := getA s ⟨R.SCH_CLASS m c, 8, 6⟩ == 0
    some (raw % 2 + bitsOf [false, dflt 0, dflt 1] + getF s fPaced * 8)
  | .sch, 0x108 => some (pageRate s (page - 0x60))
  | .sch, 0x10C => some (resvSum (actReg s) (page - 0x60))
  | .sch, 0x198 => some (gateStatus s page)
  | .disp, 0x104 => some (bits raw 0 3 + bannerCause s * 8 + bits raw 5 4 * 32 + rasterLine s % 4096 * 65536)
  | .disp, _ =>
    if 0x20C ≤ off ∧ off ≤ 0x2FC ∧ off % 16 = 0xC then some (channelPos s ((off - 0x20C) / 16))
    else if 0x1E0 ≤ off ∧ off ≤ 0x1EC ∧ off % 4 = 0 then some (raw % 256 + altLanesCode s ((off - 0x1E0) / 4) * 256)
    else none
  | .usb2, _ =>
    if 0x130 ≤ off ∧ off < 0x140 ∧ off % 4 = 0 then some (putBits raw 6 1 (if portOc s ((off - 0x12C) / 4) then 1 else 0)) else none
  | .usbd, 0x104 => some (bits raw 0 5 + usbGate s * 32 + raw / 128 * 128)
  | .usbd, 0x110 => some (s.usb.ep2.length + (if s.usb.alt1 then 65536 else 0))
  | .cdc, _ =>
    if 0x110 ≤ off ∧ off < 0x120 then
      some (bitsOf ((List.range 32).map (fun n => (xGet s ((off - 0x110) / 4 * 32 + n)).overrun)))
    else if 0x120 ≤ off ∧ off < 0x130 then
      some (bitsOf ((List.range 32).map (fun n => (xGet s ((off - 0x120) / 4 * 32 + n)).stalled)))
    else none
  | _, _ => none

/-- Reads that take what they return (access type RC, and the data ports): `none` for every other. -/
def takingRead (k : PageKind) (off : Nat) (s : State) : Option (Word × State) :=
  match k, off with
  | .dev, 0x304 => some (match s.mbRx with | [] => (0, s) | w :: ws => (w, { s with mbRx := ws }))
  | .pm, 0x124 => some (rb7Access none s)
  | .flt, 0x300 => some (rxHdrRead s)
  | .time, 0x304 => some (msgRxPop s)
  | .spd, 0x10C => some (extremeRead true s)
  | .spd, 0x110 => some (extremeRead false s)
  | .disp, 0x1A4 => some (imgAccess none s)
  | .disp, 0x300 => some (releaseRead s)
  | .cdc, 0x130 => some (reg s R.CDC_REG_TMO_PAGE, setReg R.CDC_REG_TMO_PAGE 0 s)
  | _, _ => none

/-- The latch of a path at a page (R419). -/
def latchKey (p : Path) (page : Nat) : Nat := pathKey p * 4096 + page
def dLatch : Nat → Option Word := fun _ => none

/-- The value of these registers of a SCH page crosses at each read (R151, Table 14-1). -/
def crosses60 (k : PageKind) (off : Nat) : Bool := k == .sch && (off == 0x104 || off == 0x108 || off == 0x10C || off == 0x198)

/-- The latest sample crosses at each read of `SPD.CYCLE_PS` (R40, Table 14-1). -/
def crosses58 (k : PageKind) (off : Nat) : Bool := k == .spd && off == 0x104

/-- A read of a register of a page's own table as its row says. DEDUCED, log entry 81. -/
def rowRead (p : Path) (k : PageKind) (page off : Nat) (s : State) : Word × State :=
  match findRow k off with
  | none => (0, s)
  | some r =>
    match selValue s page r.sel with
    | none => (0, s)
    | some c =>
      let key := regKey (page * 0x1000 + off) c
      if r.wide then
        if (off - r.off) % 8 = 0 then
          (reg s key, { s with latch := smSet dLatch s.latch (latchKey p page) (some (reg s (key + 4))) })
        else ((smGet dLatch s.latch (latchKey p page)).getD (reg s key), s)
      else (reg s key, s)

/-- A register of a block whose ENABLE is 0 shows only what the host keeps there (R414). DESIGN CHOICE, log entry 17. -/
def gatedRead (k : PageKind) (page off : Nat) (s : State) : Word :=
  match findRow k off with
  | none => 0
  | some r =>
    match selValue s page r.sel with
    | none => 0
    | some c =>
      if k == .lane && off == 0x100 then (if pageLanes (page - 0x20) = 1 then 0 else reg s (page * 0x1000 + 0x100))
      else reg s (regKey (page * 0x1000 + off) c) &&& BitVec.ofNat 32 (r.rw ||| r.rws ||| r.rwl)

/-- A read that reaches a present page whose die runs. PRESUMED, log entry 15. -/
def pageRead (p : Path) (k : PageKind) (page off : Nat) (s : State) : Word × State :=
  let base := page * 0x1000
  if off < 0x100 then
    if off = 0x000 then (BitVec.ofNat 32 (pageId k page), s)
    else if off = 0x004 then (BitVec.ofNat 32 (pageCaps k page), s)
    else if off = 0x00C then
      (reg s (base + 0x00C) ||| (if reg s (base + 0x018) = 0 then 0 else 8), s)
    else if off = 0x010 then (reg s (base + 0x010), setReg (base + 0x010) 0 s)
    else if off ∈ [0x008, 0x014, 0x018, 0x024, 0x044] ∨ (off = 0x040 ∧ (pageInfo k).fi) then (reg s (base + off), s)
    else (0, s)
  else if !bit s (fEnabled page) then (gatedRead k page off s, s)
  else
    match takingRead k off s with
    | some r => r
    | none =>
      match computedRead p k page off s with
      | some v => (BitVec.ofNat 32 v, when (crosses60 k off) (carry 60) s)
      | none => rowRead p k page off (when (crosses58 k off) (carry 58) (liveTaps k page off s))

/-- An access to a page whose crossing does not acknowledge within 2 µs (R338). -/
def accessTimeout (page : Nat) (s : State) : State :=
  raise 93 (0x8000 + page) (bump R.CDC_REG_TIMEOUTS (setReg R.CDC_REG_TMO_PAGE (BitVec.ofNat 32 (2 ^ 31 + page)) s))

/-- The page of a present kind cannot be reached while the hub die is not running: every page but AO, and that
too for JTAG (R421, Table 18-8).
DESIGN CHOICE, log entry 23. -/
def outOfReach (s : State) (p : Path) (page : Nat) : Bool := !hubRuns s && (page != 0xFF || pathNum p == 4)

/-- A read of a register through a path (R412, R421, R338). DESIGN CHOICE, log entry 23. -/
def readReg (p : Path) (addr : Nat) (s : State) : Access × Word × State :=
  let s := if hubRuns s then endDoze s else s
  let page := addr / 0x1000
  match pageKindOf page with
  | none => (.ok, 0, s)
  | some k =>
    if outOfReach s p page then
      if (pageInfo k).powerDie then (.refused, (free s).setWidth 32, nextFree s) else (.refused, 0xFFFFFFFF, s)
    else if s.stopped.contains page then (.timeout, 0xFFFFFFFF, accessTimeout page s)
    else
      let (v, s) := pageRead p k page (addr % 0x1000) s
      (.ok, v, s)

end Sys2Proof.Machine
end

