-- ==== Sys2Proof/Machine/RegWrite.lean ====
section
/-!
DEFINITION. Writes of the register space (18_register_pages.md R411–R423): what each register's access type does (00_scope.md
R7), the registers whose write starts an action, `PAGE_CTRL`, `COMMIT`, and the rules of paths and of the standby.
-/
namespace Sys2Proof.Machine

/-! ### Values held at the nearer limit -/

/-- The bounded fields of a register: lowest bit, width, least and greatest value. DESIGN CHOICE, log entry 16. -/
def limits (k : PageKind) (off : Nat) : List (Nat × Nat × Nat × Nat) :=
  match k, off with
  | .pm, 0x114 => [(0, 14, 100, 10000)]
  | .flt, 0x10C => [(0, 20, 1, 600000)]
  | .flt, 0x110 => [(0, 14, 1, 10000)]
  | .time, 0x118 => [(0, 16, 10, 60000)]
  | .pair, 0x110 => [(0, 14, 50, 10000)]
  | .pair, 0x118 => [(0, 14, 100, 10000)]
  | .tc, 0x128 => [(0, 8, 100, 200), (8, 8, 1, 100)]
  | .pp, 0x118 => [(20, 8, 1, 100)]
  | .pp, 0x11C => [(0, 6, 5, 50), (16, 10, 10, 1000)]
  | .tun, 0x104 => [(0, 16, 10, 10000)]
  | .buf, 0x100 => [(0, 16, 64, 16384)]
  | .mem, 0x13C => [(0, 16, 16, 1000)]
  | .doutDsi, 0x100 => [(16, 12, 80, 2500)]
  | .mac, 0x108 => [(0, 14, 64, 9600)]
  | .pcieu, 0x108 | .pcied, 0x108 => [(0, 5, 24, 31)]
  | .brg, 0x100 => [(4, 12, 16, 1024), (16, 16, 16, 65535)]
  | .cdc, 0x100 => [(0, 20, 1, 1000000)]
  | _, _ => []

/-- A word with its bounded fields held at the nearer limit. DESIGN CHOICE, log entry 16. -/
def held (k : PageKind) (off : Nat) (v : Word) : Word :=
  BitVec.ofNat 32 ((limits k off).foldl (fun x l => putBits x l.1 l.2.1 (clampN l.2.2.1 l.2.2.2 (bits x l.1 l.2.1))) v.toNat)

/-! ### Writes by access type (Table 0-3) -/

/-- The bits of a row that a write sets: RW and RWS, and RWL while the page is not locked. -/
def writable (s : State) (page : Nat) (r : RegRow) : Nat :=
  r.rw ||| r.rws ||| (if bit s (fLocked page) then 0 else r.rwl)

/-- The value of a register after a write by its access types. -/
def typedValue (s : State) (k : PageKind) (page off : Nat) (r : RegRow) (old v : Word) : Word :=
  let m := BitVec.ofNat 32 (writable s page r)
  ((old &&& ~~~m) ||| (held k off v &&& m)) &&& ~~~(v &&& BitVec.ofNat 32 r.w1c)

/-- A write of a register of a page's own table by its access types: an RWS write leaves the page DIRTY, an RW or RWL write is
journalled. DEDUCED, log entry 81. -/
def typedWrite (k : PageKind) (page off : Nat) (v : Word) (s : State) : State :=
  match findRow k off with
  | none => s
  | some r =>
    match selValue s page r.sel with
    | none => s
    | some c =>
      let key := regKey (page * 0x1000 + off) c
      let new := typedValue s k page off r (reg s key) v
      let s := setReg key new s
      let s := when (r.rws != 0) (setF (fDirty page) 1) s
      when (r.rw != 0 || (r.rwl != 0 && !bit s (fLocked page))) (journalReg key (new &&& BitVec.ofNat 32 (r.rw ||| r.rwl))) s

/-! ### Registers whose write acts (each by its page's chapter); `none` leaves the write to its access type -/

/-- The indices below `n` whose bit is set in a word. -/
def setBits (n : Nat) (v : Word) : List Nat := (List.range n).filter (fun i => v.toNat.testBit i)

/-- A write of `DEV.MB_TX`: a word is staged; with the buffer full it is lost (R427). -/
def mbTxWrite (v : Word) (s : State) : State := if s.mbTx.length < 1023 then { s with mbTx := s.mbTx ++ [v] } else s

/-- A write of `DEV.MB_TX_GO` (R427): the staged words go as one frame from M11, with this hub as SRC_HID; a request has TAG bit 15
forced to 0. DESIGN CHOICE, log entry 24. -/
def mbTxGo (len : Nat) (s : State) : State :=
  if mbBusy s ∨ len < 8 ∨ s.mbTx.length * 4 < len then bump R.DEV_MB_TX_REFUSED s
  else
    let b := ((s.mbTx.flatMap (fun w => bytesLE 4 w.toNat)).take len).set 1 (BitVec.ofNat 8 (ownHid s))
    let req : Bool := decide (1 ≤ byteAt b 2 ∧ byteAt b 2 ≤ 3)
    let b := if req then b.set 8 (BitVec.ofNat 8 (byteAt b 8 % 128)) else b
    ingress 11 (offerFrame 11 { tag := 0, data := b, ctl := true, src := 1 } (bump R.DEV_MB_TX_FRAMES { s with mbTx := [] }))

def devWrite (p : Path) (off : Nat) (v : Word) (s : State) : Option State :=
  match off with
  | 0x10C => some (modeRequest p (v.toNat % 8) s)
  | 0x11C => some (hostKick s)
  | 0x308 => some (mbTxWrite v s)
  | 0x30C => some (mbTxGo (v.toNat % 16384) s)
  | _ => none

def pmWrite (off : Nat) (v : Word) (s : State) : Option State :=
  match off with
  | 0x100 => some (levelRequest (v.toNat % 4) s)
  | 0x10C => some (sleepRequest (v.toNat % 4) s)
  | 0x124 => some (rb7Access (some v) s).2
  | _ => none

/-- A write of word `i` of the MSI-X table: a vector that is unmasked with a message pending sends it (R356).
DESIGN CHOICE, log entry 71. -/
def msixWrite (i : Nat) (v : Word) (s : State) : State :=
  msixPending (setReg (R.FLT_MSI_X i) v s)

/-- Sources whose number is reserved: their `FLT.SRC` ignores writes (R344). -/
def reservedSource (src : Nat) : Bool := src == 87 || (95 ≤ src && src ≤ 99) || src == 127

def fltWrite (off : Nat) (v : Word) (s : State) : Option State :=
  if 0x400 ≤ off ∧ off < 0x600 ∧ reservedSource ((off - 0x400) / 4) then some s
  else if off = 0x108 then some (fltCmdWrite v s)
  else if off = 0x114 then some (marker 0 (v.toNat % 2 ^ 14) s)
  else if 0x200 ≤ off ∧ off < 0x210 then some (forAll (setBits 32 v) (fun i => pendClear ((off - 0x200) / 4 * 32 + i)) s)
  else if off = 0x210 then some (forAll (setBits 8 v) (fun i => pendClear (128 + i)) s)
  else if 0x220 ≤ off ∧ off < 0x230 then some (forAll (setBits 32 v) (fun i => escClear ((off - 0x220) / 4 * 32 + i)) s)
  else if 0xD00 ≤ off ∧ off < 0xF00 then some (msixWrite ((off - 0xD00) / 4) v s)
  else none

def secWrite (p : Path) (off : Nat) (v : Word) (s : State) : Option State :=
  if off = 0x110 then some (lcRequest p v.toNat s)
  else if 0x130 ≤ off ∧ off < 0x140 then some (authRespWrite p ((off - 0x130) / 4) v s)
  else if off = 0x144 then some (authCmd p v.toNat s)
  else if 0x150 ≤ off ∧ off < 0x160 then
    let s := bufSet (0x4000 + off) v s
    some (if off = 0x15C then crChallenge s else s)
  else if 0x170 ≤ off ∧ off < 0x190 then some (bufSet (0x4000 + off) v s)
  else if off = 0x190 then some (if v.toNat.testBit 0 then sealCps p s else s)
  else none

def keyWrite (p : Path) (off : Nat) (v : Word) (s : State) : Option State :=
  if off = 0x108 then some (keyCmd p (v.toNat % 8) (bits v.toNat 8 5) s)
  else if (0x120 ≤ off ∧ off < 0x140) ∨ (0xC00 ≤ off ∧ off < 0xC80) then some (bufSet (0x5000 + off) v s)
  else if 0x180 ≤ off ∧ off < 0x1A0 then some (keyEng p ((off - 0x180) / 4) v s)
  else none

def timeWrite (off : Nat) (v : Word) (s : State) : Option State :=
  if off = 0x100 then some (timeCtrlWrite v s)
  else if off = 0x120 then some (freqWrite v s)
  else if off = 0x180 then some (timeSnap s)
  else if off = 0x1A0 then some (timeAdj v.toNat s)
  else if 0x200 ≤ off ∧ off < 0x220 then some (evtCtrlWrite ((off - 0x200) / 4) v s)
  else if off = 0x308 then some (msgTxWrite v s)
  else if off = 0x30C then some (msgTxGo v.toNat s)
  else none

/-- A write of `PAIR.CMD` (R305, R311, R318). -/
def pairCmd (op : Nat) (s : State) : State :=
  match op with
  | 1 => pairOffer s
  | 2 => pairTakeover s
  | 3 => pairResync s
  | _ => s

def pairWrite (off : Nat) (v : Word) (s : State) : Option State :=
  match off with
  | 0x108 => some (if mode s = mCold then setEpoch v.toNat s else s)
  | 0x114 => some (pairCmd (v.toNat % 4) s)
  | 0x120 => some (dockCtrlWrite v s)
  | _ => none

def linkWrite (n off : Nat) (v : Word) (s : State) : Option State :=
  match off with
  | 0x100 => some (linkCtrlWrite n v s)
  | 0x108 => some (splitRequest n (v.toNat % 8) s)
  | _ => none

def laneWrite (p off : Nat) (v : Word) (s : State) : Option State :=
  let k := getF s ⟨R.LANE_SEL p, 0, 2⟩
  match off with
  | 0x100 => some (if pageLanes p = 1 then s else setReg (R.LANE_SEL p) (v &&& 3) s)
  | 0x104 => some (laneCtrlWrite p k v.toNat s)
  | 0x10C => some (laneCoeffWrite p k 0 v s)
  | 0x110 => some (laneCoeffWrite p k 1 v s)
  | 0x114 => some (laneCoeffWrite p k 2 v s)
  | 0x118 => some (laneCoeffWrite p k 3 v s)
  | 0x11C => some (laneCoeffWrite p k 4 v s)
  | 0x120 => some (lanePrbsWrite p k v.toNat s)
  | _ => none

def tcWrite (n off : Nat) (v : Word) (s : State) : Option State :=
  match off with
  | 0x100 => some (tcCtrlWrite n (v &&& 0xFFF) s)
  | 0x1C0 => some (auxStart (4 + n) v s)
  | 0x1E0 => some (tcCmd n (v.toNat % 16) s)
  | 0x1F0 => if n = 0 then none else some s
  | _ => none

def ppWrite (off : Nat) (v : Word) (s : State) : Option State :=
  match off with
  | 0x100 => some (ppCtrlWrite (v &&& 0x1F) s)
  | 0x108 => some (when (v.toNat.testBit 1) ppModelReset (when (v.toNat.testBit 0) ppClear s))
  | 0x118 => some (clampFollow (typedWrite .pp 0x48 0x118 v s))
  | 0x120 => some (clampFollow (typedWrite .pp 0x48 0x120 v s))
  | _ => none

/-- A write of `SWC.BQ_CTRL` of the selected queue, with FLUSH a flush request (R115). DEDUCED, log entry 43. -/
def bqCtrlWrite (v : Word) (s : State) : State :=
  let s := typedWrite .swc 0x51 0x114 v s
  if v.toNat.testBit 8 then bqFlush (getF s ⟨R.SWC_BQ_SEL, 0, 5⟩) s else s

/-- A write of `SCH.CTRL`: the selected gate starts or stops, and credits count from then by what it now does (R138). -/
def gateEnWrite (page : Nat) (v : Word) (s : State) : State :=
  let m := page - 0x60
  let s := typedWrite .sch page 0x100 v (accrue m s)
  match selValue s page .gate with
  | some c => gateFollow (if m = 7 then 8 + c else m) s
  | none => s

/-- A write of `SCH.GSEL`, on SCH7 alone. -/
def gselWrite (page : Nat) (v : Word) (s : State) : State :=
  if page = 0x67 then journalReg 0x67180 (v &&& 3) (setReg 0x67180 (v &&& 3) s) else s

/-- A write of `BUF.CTRL`: with the new FILL_LOW every SPILLING queue is asked anew whether it wants a fill (R105). -/
def fillLowWrite (v : Word) (s : State) : State :=
  let s := typedWrite .buf 0x52 0x100 v s
  forAll ((s.loft.filter (fun e => e.2.spilling)).map Prod.fst) noteFill s

def dispWrite (off : Nat) (v : Word) (s : State) : Option State :=
  match off with
  | 0x100 => some (dispCtrlWrite v s)
  | 0x110 | 0x114 | 0x118 | 0x11C | 0x120 => if dispOn s then some s else none
  | 0x1A4 => some (imgAccess (some v) s).2
  | 0x1BC => some (staleWrite v s)
  | _ => none

/-- A write of a register of tunnel set 63, at the addresses where LOOKUPS and HITS read: its shadow is staged (R190).
PRESUMED, log entry 53. -/
def tset63Write (j : Nat) (v : Word) (s : State) : State :=
  setF (fDirty 0x7D) 1 (setReg (tsetKey 63 j) (if j = 0 then v &&& 0xF else v) s)

/-- DESIGN CHOICE, log entry 22. -/
def fwdWrite (off : Nat) (v : Word) (s : State) : Option State :=
  match off with
  | 0x800 => some (tset63Write 0 v s)
  | 0x804 => some (tset63Write 1 v s)
  | 0x808 => some (tset63Write 2 v s)
  | 0x100 => some (fwdCmd (v.toNat % 8) false s)
  | 0x124 => some (seedWrite v s)
  | _ => none

/-- A write of `PCIE.CTRL` (R215): with RETRAIN a link that is up retrains; with the downstream port's EN cleared its link goes. -/
def pcieCtrlWrite (k : Nat) (v : Word) (s : State) : State :=
  let s := typedWrite (if k = 0 then .pcieu else .pcied) (0x80 + k) 0x100 v s
  let s := when (v.toNat.testBit 2) (askRetrain k) s
  if k = 1 ∧ !bit s ⟨R.PCIE_CTRL 1, 5, 1⟩ then pcieDown 1 s else s

/-- A write of `PSW.CTRL` (R216). -/
def pswCtrlWrite (v : Word) (s : State) : State :=
  let s := typedWrite .psw 0x82 0x100 v s
  drainInbound (adaptersFollow (if bit s ⟨R.PSW_CTRL, 0, 1⟩ then pcieDown 0 s else s))

/-- A write of `BRG.MA_CMD` (R234). -/
def maCmdWrite (v : Word) (s : State) : State :=
  match v.toNat % 4 with
  | 1 => maCmd false (bits v.toNat 4 4) s
  | 2 => maCmd true (bits v.toNat 4 4) s
  | _ => s

/-- A write of `USB2.PORT<p>_CTRL` (Table 10-14): with the hub enabled a new mode takes the port to the state it begins in.
PRESUMED, log entry 57. -/
def portModeWrite (p : Nat) (v : Word) (s : State) : State :=
  let was := getF s (fPortMode p)
  let s := typedWrite .usb2 0x88 (0x10C + 4 * p) v s
  let now := getF s (fPortMode p)
  if bit s fEn2 ∧ was ≠ now then
    let s := when (was == 1 && decide (2 ≤ getF s (fPort p))) (change2 p 0) s
    setF (fPort p) (if now = 1 ∨ now = 2 then psDisconnected else psOff) s
  else s

/-- A write of `USB3.PORT<p>_CTRL`: a port that is disabled drops what is connected. PRESUMED, log entry 57. -/
def port3Write (p : Nat) (v : Word) (s : State) : State :=
  let s := typedWrite .usb3 0x89 (0x10C + 4 * p) v s
  if bit s ⟨R.USB3_PORT_CTRL (p - 1), 0, 1⟩ then adaptersFollow s
  else if bit s (fConn3 p) then vportDown (p - 1) s else s

/-- A write of `USBD.WAKE_STATUS`: WOKE cleared takes WAKE_SRC with it. -/
def wakeStatusWrite (v : Word) (s : State) : State :=
  let s := typedWrite .usbd 0x8A 0x108 v s
  if v.toNat.testBit 0 then setF ⟨R.USBD_WAKE_STATUS, 8, 8⟩ 0 s else s

/-- A write of `USBD.CTRL`: port 8 follows EN. -/
def usbdCtrlWrite (v : Word) (s : State) : State := port8Follow (typedWrite .usbd 0x8A 0x100 v s)

def usb2Write (off : Nat) (v : Word) (s : State) : Option State :=
  if off = 0x100 then some (usbCtrlWrite false v s)
  else if 0x110 ≤ off ∧ off < 0x12C then some (portModeWrite ((off - 0x10C) / 4) v s)
  else none

def usb3Write (off : Nat) (v : Word) (s : State) : Option State :=
  if off = 0x100 then some (usbCtrlWrite true v s)
  else if 0x110 ≤ off ∧ off < 0x128 then some (port3Write ((off - 0x10C) / 4) v s)
  else none

/-- A write of a register that acts by more than its access type; `none` for every other. DESIGN CHOICE, log entry 2. -/
def actingWrite (p : Path) (k : PageKind) (page off : Nat) (v : Word) (s : State) : Option State :=
  match k with
  | .dev => devWrite p off v s
  | .pm => pmWrite off v s
  | .rst => if off = 0x100 then some (rstCtrlWrite v s) else none
  | .flt => fltWrite off v s
  | .sec => secWrite p off v s
  | .key => keyWrite p off v s
  | .time => timeWrite off v s
  | .spd => if off = 0x118 then some (paceGuardWrite v s) else none
  | .pair => pairWrite off v s
  | .link => linkWrite (page - 0x10) off v s
  | .lane => laneWrite (page - 0x20) off v s
  | .tc => tcWrite (page - 0x40) off v s
  | .pp => ppWrite off v s
  | .tun => if off = 0x100 then some (tunIdxWrite v s) else none
  | .swc =>
    if off = 0x110 then some (bqSelWrite v s)
    else if off = 0x114 then some (bqCtrlWrite v s) else none
  | .buf => if off = 0x140 then some (bufQselWrite v s) else if off = 0x100 then some (fillLowWrite v s) else none
  | .mem => if off = 0x104 then some (when (v.toNat.testBit 0) memInit (typedWrite .mem 0x53 0x104 v s)) else none
  | .sch =>
    if off = 0x180 then some (gselWrite page v s)
    else if off = 0x100 then some (gateEnWrite page v s)
    else none
  | .disp => dispWrite off v s
  | .doutDp | .doutDsi => if off = 0x110 then some (auxStart (page - 0x71) v s) else none
  | .eth => none
  | .mac => if off = 0x100 then some (macCtrlWrite (page - 0x79) v s) else none
  | .fwd => fwdWrite off v s
  | .pcieu => if off = 0x100 then some (pcieCtrlWrite 0 v s) else none
  | .pcied => if off = 0x100 then some (pcieCtrlWrite 1 v s) else none
  | .psw => if off = 0x100 then some (pswCtrlWrite v s) else none
  | .usb2 => usb2Write off v s
  | .usb3 => usb3Write off v s
  | .usbd =>
    if off = 0x100 then some (usbdCtrlWrite v s)
    else if off = 0x108 then some (wakeStatusWrite v s) else none
  | .brg =>
    if off = 0x100 then some (brgEnFollow (brgSync (typedWrite .brg 0x90 0x100 v s)))
    else if off = 0x148 then some (maCmdWrite v s) else none
  | .cdc =>
    if off = 0x104 then some (cdcSelWrite v s)
    else if off = 0x10C then some (when (v.toNat.testBit 0) cdcXclear s) else none
  | .ao =>
    if off = 0x118 then some (when (v.toNat.testBit 0) wakeFailClear s)
    else if off = 0x11C then some (when (v.toNat.testBit 0) (wakeCause 8) s) else none

/-! ### `PAGE_CTRL` (R414, R415, R378) -/

/-- The block of a page with GATE is idle (R414). DESIGN CHOICE, log entry 18. -/
def pageIdle (s : State) (k : PageKind) (page : Nat) : Bool :=
  match k with
  | .lane =>
    let p := page - 0x20
    let used : Bool := match linkOfPage p with
      | some (n, j) => linkState s n != lsDown && ((getF s (fTxLanes n)).testBit j || (getF s (fRxLanes n)).testBit j)
      | none => false
    !used && (List.range (pageLanes p)).all (fun j =>
      getF s ⟨laneKey (R.LANE_CTRL p) p j, 1, 2⟩ == 0 && !bit s ⟨laneKey (R.LANE_PRBS_CTRL p) p j, 2, 1⟩
        && !bit s ⟨laneKey (R.LANE_PRBS_CTRL p) p j, 5, 1⟩)
  | .mac => !bit s (fMacEn (page - 0x79))
  | .doutDp | .doutDsi => getA s ⟨page * 0x1000 + 0x100, 0, 1⟩ == 0
  | .pcied => !bit s ⟨R.PCIE_CTRL 1, 5, 1⟩
  | _ => false

/-- A write of ENABLE: only where GATE is 1; 0 takes effect only while the block is idle; 1 restores it, and its crossings
resynchronise. DESIGN CHOICE, log entry 18. -/
def enableWrite (k : PageKind) (page : Nat) (en : Bool) (s : State) : State :=
  if !(pageInfo k).gate || en == bit s (fEnabled page) then s
  else if en then
    let s := setF (fEnabled page) 1 (setF (fEnable page) 1 s)
    journalReg (page * 0x1000 + 0x008) 1 (forAll (blockCrossings page) resyncOwn s)
  else if pageIdle s k page then
    journalReg (page * 0x1000 + 0x008) 0 (setF (fEnabled page) 0 (setF (fEnable page) 0 s))
  else s

/-- LOCK of a page is set (R415). -/
def lockPage (page : Nat) (s : State) : State := setF ⟨page * 0x1000 + 0x008, 2, 1⟩ 1 (setF (fLocked page) 1 s)

/-- A write of `PAGE_CTRL`. -/
def pageCtrlWrite (k : PageKind) (page : Nat) (v : Word) (s : State) : State :=
  let s := enableWrite k page (v.toNat.testBit 0) s
  let s := when (v.toNat.testBit 2) (lockPage page) s
  when (v.toNat.testBit 1) (softReset page) s

/-! ### `COMMIT` (R417) -/

/-- A write of `COMMIT` of a page. DESIGN CHOICE, log entry 22. -/
def commitWrite (k : PageKind) (page : Nat) (s : State) : State :=
  match k with
  | .dev => devCommit s
  | .tun => tunCommit s
  | .mem => memCommit s
  | .sch => schCommit (page - 0x60) s
  | .disp => dispCommit none s
  | .doutDp | .doutDsi => doutCommit (page - 0x71) s
  | .fwd => fwdCommit s
  | .psw => pswBrgCommit false s
  | .brg => pswBrgCommit true s
  | _ => s

/-- The standby commits a page's shadows from a COMMIT record, without the page's checks (R300). DESIGN CHOICE, log entry 68. -/
def commitRecord (k : PageKind) (page : Nat) (s : State) : State :=
  match k with
  | .dev => devApply s
  | .tun => tunApply s
  | .mem => memApply s
  | .sch => schApply (page - 0x60) s
  | .disp => dispApply none s
  | .doutDp | .doutDsi => doutApply (page - 0x71) s
  | .fwd => fwdApply s
  | .psw => windowApply 0x82 pswRegs s
  | .brg => windowApply 0x90 brgRegs s
  | _ => s

/-! ### A write at its page -/

/-- While ENABLE is 0 a write of the block's own enable is ignored (R414): the word with that bit as it stands.
DESIGN CHOICE, log entry 17. -/
def keepEnable (s : State) (k : PageKind) (page off : Nat) (v : Word) : Word :=
  let lo : Option Nat := match k, off with
    | .mac, 0x100 | .doutDp, 0x100 | .doutDsi, 0x100 => some 0
    | .pcied, 0x100 => some 5
    | _, _ => none
  match lo with
  | some i =>
    if bit s (fEnabled page) then v else BitVec.ofNat 32 (putBits v.toNat i 1 (bits (reg s (page * 0x1000 + off)).toNat i 1))
  | none => v

/-- A write applied at a present page. -/
def applyWrite (p : Path) (k : PageKind) (page off : Nat) (v : Word) (s : State) : State :=
  let base := page * 0x1000
  if off < 0x100 then
    if off = 0x008 then pageCtrlWrite k page v s
    else if off = 0x014 then journalReg (base + 0x014) v (setReg (base + 0x014) v s)
    else if off = 0x018 then setReg (base + 0x018) (reg s (base + 0x018) &&& ~~~v) s
    else if off = 0x020 then commitWrite k page s
    else if off = 0x040 then fiCtrlWrite page v s
    else if off = 0x044 then setReg (base + 0x044) v s
    else s
  else
    let v := keepEnable s k page off v
    match actingWrite p k page off v s with
    | some s => s
    | none => typedWrite k page off v s

/-! ### Paths (R422) and the standby (R423) -/

/-- The bits of a register that are RW, RWL or RWS. DEDUCED, log entry 19. -/
def configBits (s : State) (k : PageKind) (page off : Nat) : Nat :=
  if off = 0x008 then 1
  else if off = 0x014 ∨ off = 0x044 ∨ (off = 0x040 ∧ (pageInfo k).fi) then 0xFFFFFFFF
  else match k, off with
    | .disp, 0x1A4 => 0xFFFFFFFF
    | .sch, 0x180 => if page = 0x67 then 3 else 0
    | .time, 0x120 => if getF s fTimeState = 0 then 0xFFFFFFFF else 0
    | .tc, 0x1F0 => if page = 0x40 then 0x3FF else 0
    | .fwd, 0x800 => 0xF
    | .fwd, 0x804 | .fwd, 0x808 => 0xFFFFFFFF
    | _, _ => match findRow k off with | some r => r.rw ||| r.rws ||| r.rwl | none => 0

/-- The bits of a register that are W1C, W1S or WO beside configuration bits. DEDUCED, log entry 19. -/
def actionBits (k : PageKind) (off : Nat) : Nat :=
  if off = 0x008 then 6
  else match findRow k off with | some r => r.w1c ||| r.w1s | none => 0

/-- The copy of a register that the page's selector chooses. -/
def copyKey (s : State) (k : PageKind) (page off : Nat) : Nat :=
  regKey (page * 0x1000 + off) (((findRow k off).bind (fun r => selValue s page r.sel)).getD 0)

/-- A write at the standby of a page that the journal mirrors. DEDUCED, log entry 19. -/
def standbyWrite (p : Path) (k : PageKind) (page off : Nat) (v : Word) (s : State) : Access × State :=
  let m := configBits s k page off
  if m ≠ 0 then
    let s := bump R.DEV_STBY_WR_DROPS s
    let a := BitVec.ofNat 32 (actionBits k off)
    if a = 0 then (.refused, s)
    else
      let kept := reg s (copyKey s k page off) &&& BitVec.ofNat 32 m
      (.refused, applyWrite p k page off (kept ||| (v &&& a)) s)
  else
    let role : Bool := (off == 0x020 && (pageInfo k).commit) || (decide (k = .fwd) && off == 0x100)
    (if role then .refused else .ok, applyWrite p k page off v s)

/-- A write at a page that answers: the path's rights, the standby's, then the write itself.
DESIGN CHOICE, log entry 2. DEDUCED, log entry 20. -/
def pageWrite (p : Path) (k : PageKind) (page off : Nat) (v : Word) (s : State) : Access × State :=
  if !privileged s p && ((decide (k = .rst) && off == 0x100) || (decide (k = .ao) && off == 0x11C)) then
    (.refused, bump R.DEV_PATH_REFUSED s)
  else if !privileged s p && ((decide (k = .sec) && (off == 0x110 || off == 0x190)) || (decide (k = .key) && off == 0x108)) then
    (.refused, applyWrite p k page off v s)
  else if mode s = mStandby ∧ mirroredPage page then standbyWrite p k page off v s
  else (.ok, applyWrite p k page off v s)

def dHeld : Nat → List HeldWrite := fun _ => []

/-- A write to a page that does not acknowledge: up to 8 are held per page (R338). DESIGN CHOICE, log entry 21. -/
def holdWrite (p : Path) (addr : Nat) (v : Word) (s : State) : State :=
  let page := addr / 0x1000
  let l := smGet dHeld s.held page
  if l.length < 8 then { s with held := smSet dHeld s.held page (l ++ [⟨p, addr, v⟩]) } else bump R.CDC_REG_WR_DROPS s

/-- A write of a register through a path (R412, R421–R423, R338). DESIGN CHOICE, log entry 2. -/
def writeReg (p : Path) (addr : Nat) (v : Word) (s : State) : Access × State :=
  let s := if hubRuns s then endDoze s else s
  let page := addr / 0x1000
  match pageKindOf page with
  | none => (.ok, s)
  | some k =>
    if outOfReach s p page then (.refused, s)
    else if s.stopped.contains page then (.timeout, accessTimeout page (holdWrite p addr v s))
    else pageWrite p k page (addr % 0x1000) v s

end Sys2Proof.Machine
end

