-- ==== Sys2Proof/Machine/Access.lean ====
section
/-!
DEFINITION. The commands of the register fabric that no chapter's block owns: plain writes, ENABLE and LOCK, counters, accesses to
a stopped page, journal records at the standby, the mailbox, the SPI slave, and the temperature and supply monitors
(18_register_pages.md, 13_mirrored_pair.md R300, 14_clock_domain_crossings.md R335–R338, 19_electrical_and_package.md
R434–R435).
-/
namespace Sys2Proof.Machine

/-- JTAG is full: in MANUFACTURE and TEST, in PROVISION and RETURN after the debug authentication of the JTAG path (Table 17-1). -/
def jtagFull (s : State) : Bool :=
  let l := if hubRuns s then lc s else s.fuse.lc
  decide (l ≤ 1) || ((l == lcProvision || l == lcReturn) && authed s .jtag)

/-- A path reaches an address: every one but JTAG all of them; JTAG the SEC authentication registers through DBG_AUTH, and the rest where
it is full (Table 18-8). DESIGN CHOICE, log entry 23. -/
def pathReaches (s : State) (p : Path) (addr : Nat) : Bool :=
  pathNum p != 4 || jtagFull s || (decide (0x4120 ≤ addr) && decide (addr ≤ 0x4144))

/-- A path can be used for an address: the SPI slave and JTAG always, every other while the hub die runs (Table 18-8). -/
def pathUp (s : State) (p : Path) (addr : Nat) : Bool :=
  (hubRuns s || pathNum p == 3 || pathNum p == 4) && pathReaches s p addr && addr % 4 == 0

/-- REGISTER_WRITE (R7): a write that its path has let through arrives at its register. -/
def execRegisterWrite (p : Path) (addr : Addr) (v : Word) (s : State) : Res :=
  power s (fun s => if pathUp s p addr.toNat then (writeReg p addr.toNat v s).2 else s)

/-- A write of `PAGE_CTRL` of a present page, by a privileged path. -/
def pageCtrlRow (page : Nat) (v : Word) (s : State) : State :=
  match pageKindOf page with
  | some k => (pageWrite .bar0 k page 0x008 v s).2
  | none => s

/-- PAGE_ENABLE_WRITE (R414). -/
def execPageEnableWrite (page : BitVec 12) (en : Bool) (s : State) : Res :=
  hub s (pageCtrlRow page.toNat (if en then 1 else 0))

/-- PAGE_LOCK (R415): LOCK is set, ENABLE written as it stands. -/
def execPageLock (page : BitVec 12) (s : State) : Res :=
  hub s (fun s => pageCtrlRow page.toNat (BitVec.ofNat 32 (4 + getF s (fEnable page.toNat))) s)

/-- COUNTER_LOW_WORD_READ (R419): a read through a path, which for the low word of a 64-bit counter latches the high one. -/
def execCounterLowWordRead (p : Path) (addr : Addr) (s : State) : Res :=
  power s (fun s =>
    if pathUp s p addr.toNat then
      let (_, v, s) := readReg p addr.toNat s
      emit (.readData v) s
    else s)

/-! ### Stopped clocks (R335, R338) -/

/-- REG_ACCESS_TIMEOUT (R338): a page does not acknowledge; it stays stopped until its clock returns.
DESIGN CHOICE, log entry 21. -/
def execRegAccessTimeout (p : Path) (addr : Addr) (write : Option Word) (s : State) : Res :=
  hub s (fun s =>
    let page := addr.toNat / 0x1000
    if (pageKindOf page).isNone || !pathUp s p addr.toNat then s
    else
      let s := if s.stopped.contains page then s else { s with stopped := s.stopped ++ [page] }
      match write with
      | some v => (writeReg p addr.toNat v s).2
      | none =>
        let (_, v, s) := readReg p addr.toNat s
        emit (.readData v) s)

/-- The writes held for a page are applied in order. DESIGN CHOICE, log entry 21. -/
def applyHeld (page : Nat) (s : State) : State :=
  let l := smGet dHeld s.held page
  forAll l (fun w s =>
    match pageKindOf page with
    | some k => (pageWrite w.path k page (w.addr % 0x1000) w.value s).2
    | none => s) { s with held := smSet dHeld s.held page [] }

/-- CLOCK_RETURN (R335, R338): the crossings of the page's block go on from where they stood. -/
def execClockReturn (page : BitVec 12) (s : State) : Res :=
  hub s (fun s =>
    let s := applyHeld page.toNat { s with stopped := s.stopped.filter (· != page.toNat) }
    forAll ((List.range 62).filter (fun x => (xPages x).contains page.toNat)) crossResume s)

/-! ### Journal records at the standby (R300) -/

/-- JOURNAL_REG (R300): a register of a mirrored page, a word of the switch's configuration space or the BAR4 size in effect (R219)
takes the value it has at the active; FREQ_ADJ, which the standby's own servo drives, is kept for a takeover.
DESIGN CHOICE, log entries 69, 97. -/
def execJournalReg (h : JHdr) (addr : Addr) (v : Word) (s : State) : Res :=
  hub s (applyRecord h false (fun s =>
    let page := addr.toNat / 0x1000
    let off := addr.toNat % 0x1000
    if addr.toNat = bar4Addr then { s with pcie := { s.pcie with bar4 := clampN 24 32 v.toNat } }
    else if addr.toNat = R.TIME_FREQ_ADJ then modPair (fun p => { p with freq := some v }) s
    else if 0xF00 ≤ page ∧ page ≤ 0xF08 then cfgSet (page - 0xF00) (off / 4) v s
    else match pageKindOf page with
    | some k =>
      let m := configBits s k page off
      if mirroredPage page && m != 0 then applyWrite .bar0 k page off (v &&& BitVec.ofNat 32 m) s else s
    | none => s))

/-- JOURNAL_COMMIT (R300). -/
def execJournalCommit (h : JHdr) (page : BitVec 12) (s : State) : Res :=
  hub s (applyRecord h false (fun s =>
    match pageKindOf page.toNat with
    | some k => if mirroredPage page.toNat then commitRecord k page.toNat s else s
    | none => s))

/-! ### The mailbox (R427) -/

/-- MB_TX_GO (R427): a write of `DEV.MB_TX_GO`. -/
def execMbTxGo (len : BitVec 14) (s : State) : Res := hub s (mbTxGo len.toNat)

/-- MB_RX_READ (R427): the next receive word is taken. -/
def execMbRxRead (s : State) : Res :=
  hub s (fun s =>
    match s.mbRx with
    | [] => emit (.readData 0) s
    | w :: ws => emit (.readData w) { s with mbRx := ws })

/-! ### The SPI slave (R428) -/

def modSpi (f : Spi → Spi) (s : State) : State := { s with spi := f s.spi }

/-- ERR is set. -/
def spiErr (s : State) : State := modSpi (fun x => { x with err := true }) s

/-- The address of word `i` of a transaction. -/
def spiAddr (fixed : Bool) (addr i : Nat) : Nat := if fixed then addr else (addr + 4 * i) % 2 ^ 24

/-- One word is read. DESIGN CHOICE, log entry 23. -/
def spiReadWord (addr : Nat) (s : State) : State :=
  let (a, v, s) := readReg .spi addr s
  emit (.readData v) (if a = .ok then s else spiErr s)

/-- One word is written. -/
def spiWriteWord (addr : Nat) (v : Word) (s : State) : State :=
  let (a, s) := writeReg .spi addr v s
  if a = .ok then s else spiErr s

/-- A transaction begins: the bytes of a word that the last one left open are gone. DESIGN CHOICE, log entry 26. -/
def spiBegin (addr : Nat) (f : State → State) (s : State) : State :=
  let s := modSpi (fun x => { x with part := [] }) s
  if addr % 4 = 0 then f s else spiErr s

/-- A READ or READ_FIXED of `n` words. -/
def spiRead (fixed : Bool) (addr n : Nat) (s : State) : State :=
  spiBegin addr (forAll (List.range n) (fun i => spiReadWord (spiAddr fixed addr i))) s

/-- A WRITE or WRITE_FIXED of whole words, and the bytes so far of a further one. -/
def spiWrite (fixed : Bool) (addr : Nat) (words : List Word) (part : List Byte) (s : State) : State :=
  spiBegin addr (fun s =>
    modSpi (fun x => { x with part := part.take 3 })
      (forAll words.zipIdx (fun w => spiWriteWord (spiAddr fixed addr w.2) w.1) s)) s

/-- SPI_READ (R428). -/
def execSpiRead (addr : Addr) (n : BitVec 8) (s : State) : Res := power s (spiRead false addr.toNat n.toNat)

/-- SPI_READ_FIXED (R428). -/
def execSpiReadFixed (addr : Addr) (n : BitVec 8) (s : State) : Res := power s (spiRead true addr.toNat n.toNat)

/-- SPI_WRITE (R428). -/
def execSpiWrite (addr : Addr) (words : List Word) (part : List Byte) (s : State) : Res :=
  power s (spiWrite false addr.toNat words part)

/-- SPI_WRITE_FIXED (R428). -/
def execSpiWriteFixed (addr : Addr) (words : List Word) (part : List Byte) (s : State) : Res :=
  power s (spiWrite true addr.toNat words part)

/-- SPI_STATUS (R428): [0] WR_BUSY, [1] ERR, [2] AO_ONLY, [3] HUB_RUN; the read clears ERR. DESIGN CHOICE, log entry 26. -/
def execSpiStatus (s : State) : Res :=
  power s (fun s =>
    let v := bitsOf [false, s.spi.err, !hubRuns s, hubRuns s]
    emit (.readData (BitVec.ofNat 32 v)) (modSpi (fun _ => {}) s))

/-- SPI_CS_RISE (R428): the transaction ends, the open bytes of a word are discarded; one whose command was unknown sets ERR.
DESIGN CHOICE, log entry 26. -/
def execSpiCsRise (unknown : Bool) (s : State) : Res :=
  power s (fun s => when unknown spiErr (modSpi (fun x => { x with part := [] }) s))

/-! ### Temperature and supplies (R431, R434, R435) -/

def modSense (f : Sense → Sense) (s : State) : State := { s with sense := f s.sense }

/-- DIE_TEMP_SAMPLE (R431, R435): junction temperatures in 0.1 °C. DESIGN CHOICE, log entry 27. -/
def execDieTempSample (hubT powerT : BitVec 16) (s : State) : Res :=
  hub s (fun s =>
    let h := hubT.toInt
    let p := powerT.toInt
    let warn : Int := (getF s ⟨R.DEV_TJ_WARN, 0, 8⟩ : Nat) * 10
    let s := setReg R.DEV_TJ (powerT ++ hubT) s
    let again (was : Bool) (t : Int) : Bool := was && decide (warn - 50 < t)
    let hubOver := decide (warn < h) && !s.sense.warnHub
    let powerOver := decide (warn < p) && !s.sense.warnPower
    let hotNow := (decide (1200 ≤ h) || decide (1200 ≤ p)) && !s.sense.hot
    let s := modSense (fun x => {
      warnHub := hubOver || again x.warnHub h
      warnPower := powerOver || again x.warnPower p
      hot := hotNow || (x.hot && !(decide (h < 1150) && decide (p < 1150))) }) s
    when hotNow (raiseN 125) (when powerOver (raiseN 124) (when hubOver (raiseN 124) s)))

/-- SUPPLY_WINDOW_EXIT (R434). -/
def execSupplyWindowExit (rail : Fin 7) (s : State) : Res :=
  hub s (fun s =>
    if bit s ⟨R.DEV_SUPPLY, rail, 1⟩ then raise 126 rail (setF ⟨R.DEV_SUPPLY, rail, 1⟩ 0 s) else s)

/-- SUPPLY_WINDOW_RETURN (R434). -/
def execSupplyWindowReturn (rail : Fin 7) (s : State) : Res := hub s (setF ⟨R.DEV_SUPPLY, rail, 1⟩ 1)

end Sys2Proof.Machine
end

