-- ==== Sys2Proof/Machine/Paths.lean ====
section
/-!
DEFINITION. The access paths: PCIe BAR0 (09_pcie_and_dowel_bridge.md R220), register-access frames (18_register_pages.md
R424–R427) and the USB device function (10_usb_hub_and_device.md R251–R255).
-/
namespace Sys2Proof.Machine

/-! ### BAR0 -/

/-- A request at BAR0 (R220): an aligned DW with every byte enabled, or refused. -/
def bar0Access (tag off : Nat) (be : BitVec 4) (dws : Nat) (write : Option Word) (s : State) : State :=
  if off % 4 != 0 || be != 15 || dws != 1 then
    let s := barRefused s
    if write.isSome then s else complete cMgmt tag 1 off [] false s
  else
    match write with
    | some v => (writeReg .bar0 off v s).2
    | none =>
      let (_, v, s) := readReg .bar0 off s
      complete cMgmt tag 0 off (bytesLE 4 v.toNat) false s

/-- BAR0_REQUEST (R220, Table 18-8); an L1 link returns to L0. -/
def execBar0Request (tag : Byte) (off : Addr) (be : BitVec 4) (dws : BitVec 10) (write : Option Word) (s : State) : Res :=
  hub s (barArrives (bar0Access tag.toNat off.toNat be dws.toNat write))

/-! ### Register-access frames (Table 18-9) -/

/-- The words done before the first that is refused or times out, its ending, and the words read. -/
structure Done where
  count : Nat
  status : Access
  words : List Word
  deriving DecidableEq, Repr

/-- Reads at each address in turn; a word that times out reads as all ones. DESIGN CHOICE, log entry 21. -/
def readWords (p : Path) : List Nat → State → Done × State
  | [], s => (⟨0, .ok, []⟩, s)
  | a :: as, s =>
    let (r, v, s) := readReg p a s
    if r = .ok then
      let (d, s) := readWords p as s
      ({ d with count := d.count + 1, words := v :: d.words }, s)
    else (⟨0, r, if r = .timeout then [v] else []⟩, s)

/-- Writes of each pair in turn. -/
def writeWords (p : Path) : List (Nat × Word) → State → Done × State
  | [], s => (⟨0, .ok, []⟩, s)
  | w :: ws, s =>
    let (r, s) := writeReg p w.1 w.2 s
    if r = .ok then
      let (d, s) := writeWords p ws s
      ({ d with count := d.count + 1 }, s)
    else (⟨0, r, []⟩, s)

/-- STATUS of a reply. -/
def statusOf : Access → Nat
  | .ok => 0
  | .refused => 2
  | .timeout => 3

/-- The word at byte `i` of a frame. -/
def frameWord (f : List Byte) (i : Nat) : Nat := ofBE (sub f i 4)

/-- The addresses of a READ or WRITE frame. -/
def frameAddrs (f : List Byte) : List Nat :=
  (List.range (byteAt f 11)).map (fun i => if byteAt f 10 % 2 = 1 then frameWord f 12 else frameWord f 12 + 4 * i)

/-- The pairs of a WRITE or WRITE_LIST frame. -/
def framePairs (f : List Byte) : List (Nat × Word) :=
  if byteAt f 2 = 2 then (frameAddrs f).mapIdx (fun i a => (a, BitVec.ofNat 32 (frameWord f (16 + 4 * i))))
  else (List.range (byteAt f 11)).map (fun i => (frameWord f (16 + 8 * i), BitVec.ofNat 32 (frameWord f (20 + 8 * i))))

/-- An address a frame may name. -/
def addrOk (a : Nat) : Bool := decide (a < 2 ^ 24) && a % 4 == 0

/-- The length, COUNT, the zero fields and the addresses are valid. DESIGN CHOICE, log entry 24. -/
def frameOk (f : List Byte) : Bool :=
  let n := byteAt f 11
  let zero := byteAt f 3 == 0 && (sub f 4 4).all (· == 0)
  match byteAt f 2 with
  | 1 => zero && f.length == 16 && decide (1 ≤ n) && decide (n ≤ 64) && decide (byteAt f 10 ≤ 1) && (frameAddrs f).all addrOk
  | 2 => zero && f.length == 16 + 4 * n && decide (1 ≤ n) && decide (n ≤ 64) && decide (byteAt f 10 ≤ 1)
      && (frameAddrs f).all addrOk
  | _ => zero && f.length == 16 + 8 * n && decide (1 ≤ n) && decide (n ≤ 32) && byteAt f 10 == 0 && frameWord f 12 == 0
      && (framePairs f).all (fun p => addrOk p.1)

/-- A reply frame: to SRC_HID, with the request's TAG. -/
def replyFrame (s : State) (f : List Byte) (status count : Nat) (words : List Word) : List Byte :=
  let rd : Bool := byteAt f 2 == 1
  [BitVec.ofNat 8 (byteAt f 1 % 64), BitVec.ofNat 8 (ownHid s), if rd then 0x11 else 0x12, 0, 0, 0, 0, 0]
    ++ padTo 2 (sub f 8 2) ++ [BitVec.ofNat 8 status, BitVec.ofNat 8 count]
    ++ (if rd then bytesBE 4 (frameWord f 12) ++ words.flatMap (fun w => bytesBE 4 w.toNat) else bytesBE 4 0)

/-- A request is executed whole on a path (R418, R424); the answer is its reply. -/
def runFrame (p : Path) (f : List Byte) (s : State) : List Byte × State :=
  if !frameOk f then (replyFrame s f 1 0 [], s)
  else
    let (d, s) := if byteAt f 2 = 1 then readWords p (frameAddrs f) s else writeWords p (framePairs f) s
    (replyFrame s f (statusOf d.status) d.count d.words, s)

def dReply : Nat → Option (Nat × List Byte) := fun _ => none

/-- A request with the TAG of the last one of its SRC_HID is not executed again: the stored reply is the answer (R426).
DESIGN CHOICE, log entry 25. -/
def answerFrame (p : Path) (f : List Byte) (s : State) : Bool × List Byte × State :=
  let hid := byteAt f 1 % 64
  let tag := ofBE (sub f 8 2)
  let fresh (s : State) : Bool × List Byte × State :=
    let (r, s) := runFrame p f s
    (true, r, { s with mgmtLast := smSet dReply s.mgmtLast hid (some (tag, r)) })
  match smGet dReply s.mgmtLast hid with
  | some (t, r) => if t = tag then (false, r, bump R.DEV_MGMT_DUPS s) else fresh s
  | none => fresh s

/-- M11 takes the frame at the head of its queue, if it is of the given type (R425); in SERVICE only from an
SRC_HID that was authenticated when it was entered (Table 18-8). -/
def mgmtHead (type : Nat) (s : State) : State :=
  match s.mgmtQ with
  | [] => s
  | f :: rest =>
    if byteAt f 2 ≠ type then s
    else
      let s := { s with mgmtQ := rest }
      let p := Path.mgmt (BitVec.ofNat 6 (byteAt f 1))
      if mode s = mService ∧ !s.modes.served.contains (byteAt f 1 % 64) then s
      else
        let (run, r, s) := answerFrame p f s
        offerCtl r (when run (bump R.DEV_MGMT_REQS) s)

/-- MGMT_READ (R424). -/
def execMgmtRead (s : State) : Res := hub s (mgmtHead 1)

/-- MGMT_WRITE (R424). -/
def execMgmtWrite (s : State) : Res := hub s (mgmtHead 2)

/-- MGMT_WRITE_LIST (R424). -/
def execMgmtWriteList (s : State) : Res := hub s (mgmtHead 3)

/-! ### The device function (R251–R255) -/

/-- The device function is reachable: the hub has an upstream (R239), and the port it is connected to is enabled. -/
def devOn (s : State) : Bool := decide (s.usb.up2 ≤ 4) && s.usb.port8 == psEnabled
abbrev fUsbConfigured : Fld := ⟨R.USBD_STATUS, 1, 1⟩
abbrev fOutHalt : Fld := ⟨R.USBD_STATUS, 8, 1⟩

/-- A refusal by the gate: counted, and source 86 at most once a second (R254). -/
def gateRefused (s : State) : State := limited (86 * 1024) 250000000 (raiseN 86) (bump R.USBD_GATE_REFUSED s)

/-- The gate as it stands with MGMT_EN: 0 closed, 1 open, 2 read-only. -/
def gateState (s : State) : Nat :=
  if !bit s ⟨R.USBD_CTRL, 3, 1⟩ then 0 else match usbGate s with | 0 => 0 | 3 => 2 | _ => 1

/-- The held REG_WRITE takes effect, once (R255). DEDUCED, log entry 59. -/
def applyRegWrite (s : State) : State :=
  match s.usb.held with
  | some (a, v) => (writeReg .usb a v (modUsb (fun u => { u with held := none, zlpSent := false, applied := true }) s)).2
  | none => s

/-- A SETUP arrives: a REG_WRITE whose status packet has been sent is applied, one before it is abandoned. No status stage repeats any
more. -/
def setupArrives (s : State) : State :=
  modUsb (fun u => { u with applied := false })
    (if s.usb.held.isNone then s else if s.usb.zlpSent then applyRegWrite s else abandonControl s)

/-- A request on EP0 that the device function is there to take. -/
def ep0 (f : State → State) (s : State) : Res := hub s (fun s => if devOn s then f (setupArrives s) else s)

/-- REG_READ_REQUEST (R254). -/
def execRegReadRequest (addr : Addr) (len : BitVec 16) (s : State) : Res :=
  ep0 (fun s =>
    if gateState s = 0 then stall (gateRefused s)
    else if !bit s fUsbConfigured || addr.toNat % 4 != 0 || len != 4 then stall s
    else
      let (_, v, s) := readReg .usb addr.toNat s
      emit (.usb 0x4B (bytesLE 4 v.toNat)) s) s

/-- REG_WRITE_REQUEST (R254): its data is held for the status stage. -/
def execRegWriteRequest (addr : Addr) (len : BitVec 16) (v : Word) (s : State) : Res :=
  ep0 (fun s =>
    if gateState s ≠ 1 then stall (gateRefused s)
    else if !bit s fUsbConfigured || addr.toNat % 4 != 0 || len != 4 then stall s
    else modUsb (fun u => { u with held := some (addr.toNat, v), zlpSent := false }) s) s

/-- REG_WRITE_STATUS_STAGE (R255): a status IN is answered with the zero-length packet, again where it repeats; its ACK, or the next
SETUP, applies the write. A SETUP in the SETUP or data stage abandons the transfer. -/
def execRegWriteStatusStage (event : StatusStage) (s : State) : Res :=
  hub s (fun s =>
    match event with
    | .statusIn =>
      if s.usb.held.isSome then emit (.usb 0x4B []) (modUsb (fun u => { u with zlpSent := true }) s)
      else if s.usb.applied then emit (.usb 0x4B []) s
      else s
    | .ack => if s.usb.zlpSent then applyRegWrite s else s
    | .setup => setupArrives s
    | .setupEarly => if devOn s then abandonControl s else s)

/-- The SEC registers that authentication needs: challenge, response, status, command, and the device's own proof. -/
def challengeAddr (a : Nat) : Bool := decide (0x4120 ≤ a) && decide (a < 0x4170)

/-- A challenge-response frame, which a closed gate lets through. DESIGN CHOICE, log entry 25. -/
def challengeFrame (s : State) (f : List Byte) : Bool :=
  byteAt f 0 % 64 == ownHid s && frameOk f &&
    (if byteAt f 2 = 1 then (frameAddrs f).all challengeAddr else (framePairs f).all (fun p => challengeAddr p.1))

/-- An endpoint of the device function is halted: STALLS counts it (R251). -/
def haltEp (e : Nat) (s : State) : State := if bit s (fHalt e) then s else bump R.USBD_STALLS (setF (fHalt e) 1 s)

/-- EP3 OUT is halted. -/
def haltOut (s : State) : State := stall (bump R.USBD_STALLS (setF fOutHalt 1 s))

/-- A reply goes out on EP3 IN; while that is halted its token is answered with STALL, and the reply is lost.
DESIGN CHOICE, log entry 25. -/
def sendReply (data : List Byte) (s : State) : State := if bit s (fHalt 4) then stall s else sendIn 4 data s

/-- EP3_OUT_FRAME (R254): one register-access frame; a packet repeated with an unchanged toggle is acknowledged and
discarded. DESIGN CHOICE, log entry 25. -/
def execEp3OutFrame (frame : List Byte) (repeated : Bool) (s : State) : Res :=
  hub s (fun s =>
    if !devOn s || !bit s fUsbConfigured then s
    else if bit s fOutHalt then stall s
    else if repeated then emit (.usb pidAck []) s
    else
      let ty := byteAt frame 2
      let request : Bool := ty == 1 || ty == 2 || ty == 3
      if gateState s = 0 && !(request && challengeFrame s frame) then haltOut (gateRefused s)
      else
        let s := bump R.USBD_EP3_FRAMES s
        let s := modUsb (fun u => { u with toggle := smSet (fun _ => false) u.toggle 3 (!toggleGet s 3) }) s
        let s := emit (.usb pidAck []) s
        let f := if request then frame.set 8 (BitVec.ofNat 8 (byteAt frame 8 % 128 + 128)) else frame
        if gateState s = 2 && (ty == 2 || ty == 3) then sendReply (replyFrame s f 2 0 []) (gateRefused s)
        else if byteAt f 0 % 64 ≠ ownHid s then offerCtlAt 8 f s
        else if request then
          let (_, r, s) := answerFrame .usb f s
          sendReply r s
        else bump R.TUN_FORMAT_ERR s)

/-- MGMT_REPLY_DELIVERY (R427): a reply to this hub reaches EP3 IN, or the mailbox where it fits.
DESIGN CHOICE, log entry 24. -/
def execMgmtReplyDelivery (frame : List Byte) (s : State) : Res :=
  hub s (fun s =>
    let ty := byteAt frame 2
    if byteAt frame 0 % 64 ≠ ownHid s ∨ (ty ≠ 0x11 ∧ ty ≠ 0x12) then bump R.TUN_FORMAT_ERR s
    else if 128 ≤ byteAt frame 8 then
      if devOn s && bit s fUsbConfigured && gateState s != 0 then sendReply frame s else s
    else
      let ws := BitVec.ofNat 32 (frame.length % 65536 + byteAt frame 1 % 64 * 65536) :: wordsOf frame
      if 1024 < s.mbRx.length + ws.length then bump R.DEV_MB_RX_DROPS s else { s with mbRx := s.mbRx ++ ws })

/-- EP1's 8 status bytes (Table 10-8). DEDUCED, log entry 59. -/
def ep1Status (s : State) : List Byte :=
  let g := usbGate s
  [BitVec.ofNat 8 (mode s),
   BitVec.ofNat 8 (bitsOf [!s.usb.ep2.isEmpty, g == 1 || g == 2, decide (128 < s.usb.ep2.length)])]
    ++ bytesBE 2 ((s.flt.seq + 65535) % 65536) ++ bytesBE 4 s.plumb.sec

/-- EP1_IN_TOKEN (R252): the status on change, else NAK. -/
def execEp1InToken (s : State) : Res :=
  hub s (fun s =>
    if !devOn s || !bit s fUsbConfigured then s
    else if bit s ⟨R.USBD_STATUS, 7, 1⟩ then stall s
    else if ep1Status s = s.usb.ep1Last then emit (.usb pidNak []) s
    else sendIn 1 (ep1Status s) (modUsb (fun u => { u with ep1Last := ep1Status s }) s))

/-- EP2_IN_TOKEN (R253): up to 64 records, oldest first, or a zero-length packet. DEDUCED, log entry 59. -/
def execEp2InToken (s : State) : Res :=
  hub s (fun s =>
    if !devOn s || !bit s fUsbConfigured || !s.usb.alt1 then s
    else
      let rs := s.usb.ep2.take 64
      let s := emit (.usb 0xC3 (rs.flatMap recordBytes)) (modUsb (fun u => { u with ep2 := u.ep2.drop 64 }) s)
      if rs.isEmpty then bump R.USBD_EP2_ZLP s else addCnt64 R.USBD_EP2_RECORDS rs.length s)

/-- The port states that a bus reset leaves: ports with a device are disabled and report it again. Port power follows its requests alone
(R238). PRESUMED, log entry 58. -/
def portsReset (s : State) : State :=
  let s := forAll [1, 2, 3, 4, 5, 6, 7] (fun p s =>
    if getF s (fPortMode p) = 1 ∧ 2 ≤ getF s (fPort p) then change2 p 0 (setF (fPort p) psDisabled s) else s) s
  let s := forAll (List.range 8) (fun k s => if 2 ≤ getF s (fTp k) then setF (fTp k) psDisabled s else s) s
  if 2 ≤ s.usb.port8 then change2 8 0 (setPort8 psDisabled s) else s

/-- USB_BUS_RESET (R255): `control` says that a control transfer was under way. The EP2 queue is kept. -/
def execUsbBusReset (control : Bool) (s : State) : Res :=
  hub s (fun s =>
    if !bit s fEn2 then s
    else
      let s := modUsb (fun u => { u with toggle := [], hubWake := false, halt2 := false, driving := none }) (deviceReset control s)
      portsReset (setF ⟨R.USB2_STATUS, 2, 21⟩ 0 s))

/-- The halt of EP1 IN (0), EP2 IN (1), EP3 OUT (2) or EP3 IN (3) is cleared, and its toggle is DATA0 (R251). -/
def clearHalt (e : Nat) (s : State) : State :=
  let s := modUsb (fun u => { u with toggle := smSet (fun _ => false) u.toggle (e + 1) false }) s
  if e = 1 then s else setF (fHalt (e + 1)) 0 s

/-- CLEAR_ENDPOINT_HALT (R251). -/
def execClearEndpointHalt (e : Fin 4) (s : State) : Res :=
  ep0 (fun s => if !bit s fUsbConfigured then stall s else clearHalt e.val s) s

/-- SET_CONFIGURATION (R251, R254) of the device function at `addr`: toggles and halts are cleared; configuration 0 closes the
gate. PRESUMED, log entry 58. -/
def execSetConfiguration (addr : BitVec 7) (config : Byte) (s : State) : Res :=
  ep0 (fun s =>
    if 1 < config.toNat then stall s
    else
      let s := modUsb (fun u => { toggleReset u with alt1 := false }) s
      let s := setF ⟨R.USBD_STATUS, 7, 3⟩ 0 (setF ⟨R.USBD_STATUS, 16, 7⟩ addr.toNat (setF ⟨R.USBD_STATUS, 0, 1⟩ 1 s))
      let s := setF fUsbConfigured config.toNat s
      if config = 0 then deauth .usb s else s) s

/-- SET_INTERFACE (R253): alternate setting 1 of interface 1 starts EP2's queueing, 0 stops it. -/
def execSetInterface (intf alt : Byte) (s : State) : Res :=
  ep0 (fun s =>
    if !bit s fUsbConfigured then stall s
    else if intf = 1 ∧ alt.toNat ≤ 1 then modUsb (fun u => { u with alt1 := alt == 1 }) s
    else if intf = 0 ∧ alt = 0 then modUsb toggleReset s
    else stall s) s

end Sys2Proof.Machine
end

