-- ==== Sys2Proof/Machine/Route.lean ====
section
/-!
DEFINITION. The switch rules on what comes from upstream (09_pcie_and_dowel_bridge.md R216, R217, Table 9-2): configuration
requests, the BARs of the management endpoint, and the way to a VDP. The rules are those of the PCI Express Base Specification,
which Table 9-1 names. PRESUMED, log entry 96.
-/
namespace Sys2Proof.Machine

/-! ### Configuration requests -/

/-- A configuration word as it reads: status that follows a link is put in. -/
def cfgRead (s : State) (f dw : Nat) : Word :=
  let v := cfgGet s f dw
  let link (k : Nat) : Nat := (getF s (fPcieSpeed k) + 1) * 2 ^ 16 + 2 ^ getF s (fPcieWidth k) * 2 ^ 20
  let active : Nat := if 2 ≤ f ∧ f < 8 ∧ bit s (fVdp (f - 2)) then 1 else 0
  if dw = 20 then v ||| BitVec.ofNat 32 (active * 2 ^ 29 + (if f = cUp then link 0 else if f = cVdp 4 then link 1 else 0))
  else if dw = 22 then v ||| BitVec.ofNat 32 (active * 2 ^ 22)
  else v

/-- Element, word and byte enables of a configuration request; the data of a write. -/
def cfgWord (tlp : List Byte) : Nat := byteAt tlp 10 % 16 * 64 + byteAt tlp 11 / 4
def cfgMask (tlp : List Byte) : Word :=
  BitVec.ofNat 32 ((List.range 4).map (fun i => if (byteAt tlp 7).testBit i then 0xFF * 2 ^ (8 * i) else 0)).sum

/-- What a write of a configuration word sets off. Link Disable or a secondary bus reset puts the physical downstream link down, Retrain
Link retrains it, and a secondary bus reset returns what lies below in this hub to reset. Across a cable port's tunnel, which carries
neither, they have no effect. DESIGN CHOICE, log entry 98. -/
def cfgEffects (f dw : Nat) (v : Word) (was : Bool × Bool) (s : State) : State :=
  let disabled := !was.1 && cfgBit s f 20 4
  let reset := !was.2 && cfgBit s f 15 22
  let s := when (f == cVdp 4 && dw == 20 && v.toNat.testBit 5) (askRetrain 1) s
  let s := if reset then
      if f = cUp then cfgResetOf (fun g => decide (2 ≤ g)) s else if f = cVdp 5 then cfgResetOf (· == cBridge) s else s
    else s
  when ((reset && (f == cUp || f == cVdp 4)) || (disabled && f == cVdp 4)) (pcieDown 1) s

/-- A configuration request reaches element `f`: a write acts by the word's bits, and each is answered. -/
def cfgAccess (f : Nat) (tlp : List Byte) (s : State) : State :=
  if (byteAt tlp 0).testBit 6 then
    let v := BitVec.ofNat 32 (ofLE ((tlpData tlp).take 4))
    let was := (cfgBit s f 20 4, cfgBit s f 15 22)
    let s := cfgEffects f (cfgWord tlp) (v &&& cfgMask tlp) was (cfgWrite f (cfgWord tlp) (cfgMask tlp) v s)
    complete f (tlpTag tlp) 0 0 [] false (when (f == cMgmt) msixPending s)
  else complete f (tlpTag tlp) 0 0 (bytesLE 4 (cfgRead s f (cfgWord tlp)).toNat) false s

/-- A Type 1 request as Type 0. -/
def cfgType0 (tlp : List Byte) : List Byte := tlp.set 0 (BitVec.ofNat 8 (byteAt tlp 0 - 1))

/-- A configuration request from upstream. Type 0 reaches the upstream port's own functions, and a write tells them their bus;
Type 1 goes by its bus number. -/
def cfgRequest (tlp : List Byte) (s : State) : State :=
  let bus := byteAt tlp 8
  let dev := byteAt tlp 9 / 8
  let fn := byteAt tlp 9 % 8
  if tlpType tlp = 4 then
    if dev = 0 ∧ fn ≤ 1 then
      cfgAccess fn tlp (if (byteAt tlp 0).testBit 6 then { s with pcie := { s.pcie with bus := bus } } else s)
    else refuseTlp cUp tlp s
  else if bus = secBus s cUp ∧ bus ≠ 0 then
    if dev < 6 ∧ fn = 0 then cfgAccess (cVdp dev) tlp s else refuseTlp cUp tlp s
  else if !busBelow s cUp bus then refuseTlp cUp tlp s
  else match vdpOfBus s bus with
    | some v =>
      if v = 5 then (if bus = secBus s (cVdp 5) ∧ dev = 0 ∧ fn = 0 then cfgAccess cBridge tlp s else refuseTlp (cVdp 5) tlp s)
      else if bus = secBus s (cVdp v) then (if dev = 0 then toVdp v (cfgType0 tlp) s else refuseTlp (cVdp v) tlp s)
      else toVdp v tlp s
    | none => refuseTlp cUp tlp s

/-! ### The BARs of the management endpoint (Table 9-3) -/

/-- The send or outbound window that holds a BAR2 offset: `false` for a send window, its number, and the offset within it. -/
def bar2Window (s : State) (x : Nat) : Option (Bool × Nat × Nat) :=
  let hit (base size : Nat) (en : Bool) : Bool := en && decide (base ≤ x) && decide (x < base + size)
  match (List.range 16).find? (fun t => hit (getA s ⟨R.PSW_SW_BASE t, 12, 16⟩ * 4096) (swSize s t) (getA s ⟨R.PSW_SW_CTRL t, 0, 1⟩ == 1)) with
  | some t => some (false, t, x - getA s ⟨R.PSW_SW_BASE t, 12, 16⟩ * 4096)
  | none =>
    match (List.range 8).find? (fun w => hit (getA s ⟨R.BRG_OW_BASE w, 12, 16⟩ * 4096) (outWindow s w).size (outWindow s w).en) with
    | some w => some (true, w, x - getA s ⟨R.BRG_OW_BASE w, 12, 16⟩ * 4096)
    | none => none

/-- A read at BAR2: a send window answers UR (R222), an outbound window reads the bus, anything else is refused. -/
def bar2Read (tag x : Nat) (en : List Bool) (s : State) : State :=
  match bar2Window s x with
  | some (true, w, off) => outboundRead w tag off en s
  | some (false, _, _) => readAnswer tag 1 x en [] s
  | none => readAnswer tag 1 x en [] (barRefused s)

/-- A write at BAR2. In a send window its enabled bytes must be one run, or it is out of order (R222). -/
def bar2Write (x : Nat) (en : List Bool) (data : List Byte) (s : State) : State :=
  match bar2Window s x with
  | some (true, w, off) => outboundWrite w off en data s
  | some (false, t, off) =>
    match enabledRuns 0 en with
    | [(i, n)] => sendWindow t (off + i) ((data.drop i).take n) s
    | [] => s
    | _ => setOpen t [] (bump R.PSW_SW_ORDER s)
  | none => barRefused s

/-- A memory request that hits a BAR. `ecc`: what a read of frame memory finds. -/
def barRequest (bar off : Nat) (ecc : DramEcc) (tlp : List Byte) (s : State) : State :=
  let tag := tlpTag tlp
  let en := tlpEnables tlp
  let data := tlpData tlp
  let write := (byteAt tlp 0).testBit 6
  match bar with
  | 0 => bar0Access tag off (BitVec.ofNat 4 (byteAt tlp 7)) (tlpDws tlp) (if write then some (BitVec.ofNat 32 (ofLE data)) else none) s
  | 2 => if write then bar2Write off en data s else bar2Read tag off en s
  | _ =>
    let n := en.length - firstOn en - firstOn en.reverse
    if !write then bar4Access tag (off + firstOn en) none n ecc s
    else if !bar4May s (off + firstOn en) n then barRefused s
    else forAll (enabledRuns 0 en) (fun r s => bar4Access 0 (off + r.1) (some ((data.drop r.1).take r.2)) 0 ecc s) s

/-! ### What comes from upstream (R216) -/

/-- A message from upstream: broadcast to every VDP whose link is active, by ID, by address, or ended here. -/
def upMessage (tlp : List Byte) (s : State) : State :=
  match tlpType tlp % 8 with
  | 1 => match vdpOfAddr s (tlpAddr tlp) with | some v => toVdp v tlp s | none => s
  | 2 => match vdpOfBus s (byteAt tlp 8) with | some v => toVdp v tlp s | none => s
  | 3 => forAll ((List.range 5).filter (fun v => bit s (fVdp v))) (fun v => toVdp v tlp) s
  | _ => s

/-- A TLP from upstream goes by the switch rules. -/
def fromUpstream (ecc : DramEcc) (tlp : List Byte) (s : State) : State :=
  if malformed s cUp tlp then aerError cUp 18 tlp s
  else match tlpKind tlp with
    | .completion => match vdpOfBus s (tlpBus tlp) with | some v => toVdp v tlp s | none => s
    | _ =>
      if isCfg tlp then cfgRequest tlp s
      else if isMsg tlp then upMessage tlp s
      else match (if isMem tlp then barHit s (tlpAddr tlp) else none) with
        | some (bar, off) => barRequest bar off ecc tlp s
        | none =>
          if tlpType tlp = 2 || !memBelow s cUp (tlpAddr tlp) then refuseTlp cUp tlp s
          else match vdpOfAddr s (tlpAddr tlp) with
            | some v => toVdp v tlp s
            | none => refuseTlp cUp tlp s

/-- TLP_RECEIVED (R216, R217): a TLP at M5 is routed by the switch rules; one on the physical downstream link enters VDP4's tunnel at
M6. `ecc`: what a read of frame memory finds. DEDUCED, log entry 55. -/
def execTlpReceived (src : TlpFrom) (errs : LinkErrs) (ecc : DramEcc) (s : State) : Res :=
  hub s (fun s =>
    match src with
    | .upstream tlp =>
      if bit s (fDlUp 0) && !upIsTunnel s then fromUpstream ecc tlp (upArrives (linkErrors 0 errs.replays.toNat errs.corr.toNat s)) else s
    | .downstream tlp =>
      if bit s (fDlUp 1) then
        let s := bump64 (R.PCIE_RX_TLPS 1) (linkUse 1 (linkErrors 1 errs.replays.toNat errs.corr.toNat s))
        if malformed s (cVdp 4) tlp then aerError (cVdp 4) 18 tlp s else offerFrame 6 { tag := 0, data := tlp } s
      else s
    | .tunnel =>
      match s.pcie.inbox with
      | tlp :: rest => fromUpstream ecc tlp { s with pcie := { s.pcie with inbox := rest } }
      | [] => s)

end Sys2Proof.Machine
end

