-- ==== Sys2Proof/Machine/UsbHub.lean ====
section
/-!
DEFINITION. Requests to the hubs and standard requests to the device function (10_usb_hub_and_device.md R236, R241, R242, R251, R252).
-/
namespace Sys2Proof.Machine

/-! ### Hub requests (R236, R241, R242) -/

/-- wPortStatus of a USB 2.0 port, as GetPortStatus answers it. A port in REMOTE mode is not presented to this hub (R247): it reads as a
port with no device. -/
def portStatusWord (s : State) (n : Nat) : Nat :=
  if 9 ≤ n then wPortStatus (getF s (fTp (n - 9))) (bit s ⟨R.USB2_TP_STATUS (n - 9), 3, 1⟩) false false true
  else if n = 8 then wPortStatus s.usb.port8 false (s.usb.port8 == psEnabled) false true
  else if getF s (fPortMode n) = 2 then wPortStatus psDisconnected false false (portOc s n) (portPowered s n)
  else wPortStatus (getF s (fPort n)) (bit s (fPortLs n)) (bit s (fPortHs n)) (portOc s n) (portPowered s n)

/-- wPortStatus of a USB 3 port (USB 3.2 table 10-13): connection, enable, over-current, link state and power. -/
def portStatusWord3 (s : State) (n : Nat) : Nat :=
  let pls := getF s (fPls3 n)
  bitsOf [bit s (fConn3 n), bit s (fConn3 n) && decide (pls ≤ 3), false, bit s ⟨R.USB3_PORT_STATUS (n - 1), 6, 1⟩] + pls * 32
    + (if portPowered s n then 512 else 0)

/-- The hub descriptor: 16 ports or 6 (R237), power switched and over-current reported port by port, a compound device, no
indicators; port 8 is not removable. What the spec does not give are constants. PRESUMED, log entry 57. -/
def hubDescriptor (ss : Bool) : List Byte :=
  let c (i : Nat) : Byte := Config.hubConstant ss i
  if ss then [12, 0x2A, 6, 0x0D, 0, c 0, c 1, c 2, c 3, c 4, 0, 0]
  else [13, 0x29, 16, 0x0D ||| (c 0 &&& 0x60), 0, c 1, c 2, 0, 1, 0, 0xFF, 0xFF, 0xFF]

/-- An answer of a hub's control endpoint. -/
def hubAnswer (ss : Bool) (data : List Byte) (s : State) : State := if ss then emit (.usb3 0 data) s else emit (.usb 0x4B data) s

/-- The ports with a change, as the status endpoints report them: bit `n` for port `n`. -/
def changeMap (s : State) (ss : Bool) : List Byte :=
  let m := if ss then s.usb.change3 else s.usb.change
  bytesLE (if ss then 1 else 3) (bitsOf ((List.range (if ss then 7 else 17)).map (fun n => decide (1 ≤ n) && natGet m n != 0)))

/-- A poll of a hub's status endpoint (R251): the ports with a change, or NAK; STALL while it is halted. -/
def hubPoll (ss : Bool) (s : State) : State :=
  if if ss then s.usb.halt3 else s.usb.halt2 then stall s
  else if (changeMap s ss).all (· == 0) then emit (.usb pidNak []) s
  else if ss then
    emit (.usb3 0 (BitVec.ofNat 8 s.usb.seq3 :: changeMap s ss)) (modUsb (fun u => { u with seq3 := (u.seq3 + 1) % 32 }) s)
  else sendIn 9 (changeMap s ss) s

/-- A hub's status endpoint is no longer halted, and begins again with DATA0, or with sequence number 0 (R251). -/
def hubToggle (ss : Bool) (s : State) : State :=
  modUsb (fun u => if ss then { u with seq3 := 0, halt3 := false }
    else { u with toggle := smSet (fun _ => false) u.toggle 9 false, halt2 := false }) s

/-- The inactivity timer of a physical SuperSpeed link expires (R242): U1 from U0, or U2 from either. A downstream port has
timers only where the host has set a time. PRESUMED, log entry 57. -/
def linkIdle (u2 : Bool) (n : Nat) (s : State) : State :=
  let pls := getF s (fLink3 n)
  let time := natGet (if u2 then s.usb.u2 else s.usb.u1) n
  let armed := n == 0 || (decide (1 ≤ time) && decide (time < (if u2 then 0xFF else 0x80)))
  if physical3 s n && bit s ⟨R.USB3_CTRL, 4, 1⟩ && armed && (pls == plsU0 || (u2 && pls == plsU1)) then
    if u2 then bump R.USB3_U2_ENTRIES (setF (fLink3 n) plsU2 s) else bump R.USB3_U1_ENTRIES (setF (fLink3 n) plsU1 s)
  else s

/-- A PORT_CMD to the dock of translated port `k`. -/
def portCmd (k cmd : Nat) (s : State) : State :=
  offerFrame 8 { tag := 0x10 + k, data := [3, BitVec.ofNat 8 cmd, 0, 0, 0, 0, 0, 0] } s

/-! ### Standard requests (R236, R251, R252; USB 2.0 chapter 9, USB 3.2 chapter 9) -/

/-- What a request is made to: the device function, the USB 2.0 hub, or the USB 3.2 hub. -/
inductive UsbFn
  | device | hub2 | hub3
  deriving DecidableEq, Repr

/-- A byte of a function's descriptors that the spec does not give. PRESUMED, log entry 57. -/
def UsbFn.const (f : UsbFn) (i : Nat) : Byte :=
  Config.usbConstant (match f with | .device => 0 | .hub2 => 1 | .hub3 => 2) i

/-- The device descriptor; the IDs of the device function are those of `USBD.IDS`. -/
def deviceDescriptor (s : State) (f : UsbFn) : List Byte :=
  let c := f.const
  let ids : List Byte := match f with | .device => bytesLE 4 (reg s R.USBD_IDS).toNat | _ => [c 0, c 1, c 2, c 3]
  let kind : List Byte := match f with
    | .device => [0x01, 0x02, 0, 0, 0, 64]
    | .hub2 => [0x01, 0x02, 9, 0, 2, 64]
    | .hub3 => [0x20, 0x03, 9, 0, 3, 9]
  [18, 1] ++ kind ++ ids ++ [c 4, c 5, 0, 0, 0, 1]

/-- An interface descriptor, and an endpoint descriptor. -/
def interfaceDesc (n alt eps cls proto : Byte) : List Byte := [9, 4, n, alt, eps, cls, 0, proto, 0]
def endpointDesc (addr attr : Byte) (size : Nat) (interval : Byte) : List Byte := [7, 5, addr, attr] ++ bytesLE 2 size ++ [interval]

/-- The configuration descriptor with its interfaces and endpoints (R252, Table 10-8). -/
def configDescriptor (f : UsbFn) : List Byte :=
  let body := match f with
    | .device =>
      interfaceDesc 0 0 3 (f.const 6) (f.const 7) ++ endpointDesc 0x81 3 8 4 ++ endpointDesc 0x03 2 512 0 ++ endpointDesc 0x83 2 512 0
        ++ interfaceDesc 1 0 0 (f.const 8) (f.const 9) ++ interfaceDesc 1 1 1 (f.const 8) (f.const 9) ++ endpointDesc 0x82 1 1024 1
    | .hub2 => interfaceDesc 0 0 1 9 2 ++ endpointDesc 0x81 3 3 12
    | .hub3 => interfaceDesc 0 0 1 9 0 ++ endpointDesc 0x81 0x13 2 8 ++ [6, 0x30, 0, 0, 2, 0]
  [9, 2] ++ bytesLE 2 (9 + body.length) ++ [if f = .device then 2 else 1, 1, 0, 0xE0, f.const 10] ++ body

/-- The BOS descriptor: LPM with BESL, and for the USB 3.2 hub its SuperSpeed, SuperSpeedPlus and container capabilities. -/
def bosDescriptor (f : UsbFn) : List Byte :=
  let c (i n : Nat) : List Byte := (List.range n).map (fun k => f.const (i + k))
  let caps : List (List Byte) := [[7, 16, 2, 6, 0, 0, 0]] ++
    (if f = .hub3 then [[10, 16, 3, 0, 0x0E, 0, 1] ++ c 11 3, [20, 16, 10, 0] ++ c 14 16, [20, 16, 4, 0] ++ c 30 16] else [])
  [5, 15] ++ bytesLE 2 (5 + caps.flatten.length) ++ [BitVec.ofNat 8 caps.length] ++ caps.flatten

/-- A descriptor by its type; those of other types there are none of. -/
def descriptorOf (s : State) (f : UsbFn) (type : Nat) : Option (List Byte) :=
  match type with
  | 1 => some (deviceDescriptor s f)
  | 2 => some (configDescriptor f)
  | 15 => some (bosDescriptor f)
  | 0x29 => if f = .hub2 then some (hubDescriptor false) else none
  | 0x2A => if f = .hub3 then some (hubDescriptor true) else none
  | _ => none

/-- Remote wake is enabled; the halt of an endpoint by its address, where it has one. -/
def wakeOf (s : State) (f : UsbFn) : Bool := if f = .device then s.usb.devWake else s.usb.hubWake
def haltOf (s : State) (f : UsbFn) (ep : Nat) : Option Bool :=
  match f, ep with
  | .device, 0x81 => some (bit s (fHalt 1))
  | .device, 0x03 => some (bit s (fHalt 3))
  | .device, 0x83 => some (bit s (fHalt 4))
  | .device, 0x82 => some false
  | .hub2, 0x81 => some s.usb.halt2
  | .hub3, 0x81 => some s.usb.halt3
  | _, 0 => some false
  | _, _ => none

/-- The halt of an endpoint is set, or cleared with its toggle (R251). -/
def setHalt (f : UsbFn) (ep : Nat) (on : Bool) (s : State) : State :=
  match f, ep, on with
  | .device, 0x81, true => haltEp 1 s
  | .device, 0x03, true => haltEp 3 s
  | .device, 0x83, true => haltEp 4 s
  | .device, 0x81, false => clearHalt 0 s
  | .device, 0x82, false => clearHalt 1 s
  | .device, 0x03, false => clearHalt 2 s
  | .device, 0x83, false => clearHalt 3 s
  | .hub2, 0x81, true => modUsb (fun u => { u with halt2 := true }) s
  | .hub3, 0x81, true => modUsb (fun u => { u with halt3 := true }) s
  | .hub2, 0x81, false => hubToggle false s
  | .hub3, 0x81, false => hubToggle true s
  | _, _, _ => s

/-- Bit 0 is what a function has been configured with. -/
def fConfigured (f : UsbFn) : Fld :=
  match f with | .device => fUsbConfigured | .hub2 => ⟨R.USB2_STATUS, 2, 1⟩ | .hub3 => ⟨R.USB3_STATUS, 5, 1⟩

/-- An address that SET_ADDRESS gives a function. -/
def setAddress (f : UsbFn) (a : BitVec 7) (s : State) : State :=
  match f with
  | .device => setF ⟨R.USBD_STATUS, 16, 7⟩ a.toNat (setF ⟨R.USBD_STATUS, 0, 1⟩ (if a = 0 then 0 else 1) s)
  | .hub2 => setF ⟨R.USB2_STATUS, 16, 7⟩ a.toNat s
  | .hub3 => modUsb (fun u => { u with addr3 := a.toNat }) s

/-- A feature of a function is set or cleared: remote wake, a test mode, which changes no state, or the halt of an endpoint. -/
def setFeature (f : UsbFn) (on : Bool) (recipient selector index : Nat) (s : State) : State :=
  let wake := modUsb (fun u => if f = .device then { u with devWake := on } else { u with hubWake := on }) s
  match recipient, selector with
  | 0, 1 => wake
  | 0, 2 => if on ∧ f ≠ .hub3 then s else stall s
  | 1, 0 => if f = .hub3 ∧ index = 0 then wake else stall s
  | 2, 0 => if (haltOf s f index).isSome then setHalt f index on s else stall s
  | _, _ => stall s

/-- A standard request; one that a function does not know is answered with STALL. PRESUMED, log entry 57. -/
def stdRequest (f : UsbFn) (r : StdRequest) (s : State) : State :=
  let answer (data : List Byte) (s : State) : State := hubAnswer (f == .hub3) data s
  match r with
  | .getDescriptor type index len =>
    match descriptorOf s f type.toNat with
    | some d => if index = 0 then answer (d.take len.toNat) s else stall s
    | none => stall s
  | .getStatus who index =>
    match who.val with
    | 0 => answer [if wakeOf s f then 3 else 1, 0] s
    | 1 => if index.toNat ≤ (if f = .device then 1 else 0) then answer [0, 0] s else stall s
    | _ => match haltOf s f index.toNat with | some h => answer [if h then 1 else 0, 0] s | none => stall s
  | .feature on who selector index => setFeature f on who.val selector.toNat index.toNat s
  | .getConfiguration => answer [if bit s (fConfigured f) then 1 else 0] s
  | .getInterface i =>
    if i = 0 then answer [0] s else if i = 1 ∧ f = .device then answer [if s.usb.alt1 then 1 else 0] s else stall s
  | .setAddress a => setAddress f a s

/-! ### Requests to the translators (R236; USB 2.0 clause 11.24) -/

/-- A request to the translator of port `n`: a buffer is cleared, the translator stops, tells its state, which the standard leaves to it,
or starts afresh. The translators of ports 1 to 8 hold nothing that this model keeps. PRESUMED, log entry 57. -/
def ttRequest (n : Nat) (r : TtRequest) (s : State) : State :=
  if n = 0 ∨ 16 < n then stall s
  else if n < 9 then s
  else
    let k := n - 9
    let t := ttGet s k
    match r with
    | .clearBuffer dev ep isIn => ttSet k { t with np := t.np.filter (fun x => !x.is dev.toNat ep.toNat isIn) } s
    | .reset => ttSet k { nextHandle := t.nextHandle, wStatus := t.wStatus } s
    | .getState len =>
      if t.stopped then
        emit (.usb 0x4B ((List.range len.toNat).map (fun i => (Config.freeWord (s.freeIdx + i)).setWidth 8)))
          { s with freeIdx := s.freeIdx + len.toNat }
      else stall s
    | .stop => ttSet k { t with stopped := true } s

/-! ### HUB_PORT_FEATURE_REQUEST -/

/-- A SuperSpeed port is reset: one that had been taken to disabled, or whose link had failed, detects a partner again (R346). -/
def reset3 (n : Nat) (s : State) : State :=
  let pls := getF s (fPls3 n)
  let off := pls == plsDisabled || pls == 6
  let s := change3 n 5 (bump R.USB3_WARM_RESETS (when off (setF (fPls3 n) plsRxDetect) s))
  if bit s (fVirtual3 n) then sendLinkState (n - 1) 0x10 s else when (off && decide (n ≤ 4)) (vportRefresh (n - 1)) s

/-- HUB_PORT_FEATURE_REQUEST (R236, R241, R242, R251, R252): a request to a hub other than PORT_POWER, the end of a port's reset, a
standard request, a poll of a hub's status endpoint, or the expiry of a SuperSpeed link's inactivity timer. PRESUMED, log entry 57. -/
def execHubPortFeatureRequest (p : BitVec 5) (f : PortFeature) (s : State) : Res :=
  hub s (fun s =>
    let n := p.toNat
    let loc := decide (1 ≤ n) && decide (n ≤ 7) && getF s (fPortMode n) == 1
    let tp := decide (9 ≤ n) && decide (n ≤ 16) && bit s ⟨R.USB2_TP_CTRL (n - 9), 0, 1⟩ && decide (2 ≤ getF s (fTp (n - 9)))
    let st := getF s (fPort n)
    let ss := decide (1 ≤ n) && decide (n ≤ 6)
    match f with
    | .reset =>
      if loc && decide (2 ≤ st) then setF (fPort n) psResetting s
      else if n = 8 ∧ 2 ≤ s.usb.port8 then setPort8 psResetting (deviceReset false s)
      else if tp then portCmd (n - 9) 1 (setF (fTp (n - 9)) psResetting s) else s
    | .resetDone hs =>
      if decide (1 ≤ n) && decide (n ≤ 7) && st == psResetting then
        let s := setF (fPort n) psEnabled s
        if loc then change2 n 4 (setF (fPortHs n) (if hs then 1 else 0) s) else s
      else if n = 8 ∧ s.usb.port8 = psResetting then change2 8 4 (setPort8 psEnabled s)
      else s
    | .suspend =>
      if loc && st == psEnabled then setF (fPort n) psSuspended s
      else if n = 8 ∧ s.usb.port8 = psEnabled then setF ⟨R.USBD_STATUS, 2, 1⟩ 1 (setPort8 psSuspended s)
      else if tp then portCmd (n - 9) 2 s else s
    | .resume =>
      if loc && (st == psSuspended || st == psL1) then
        change2 n (if st = psL1 then 5 else 2) (setF (fPort n) psEnabled s)
      else if n = 8 ∧ s.usb.port8 = psSuspended then change2 8 2 (setF ⟨R.USBD_STATUS, 2, 1⟩ 0 (setPort8 psEnabled s))
      else if tp then portCmd (n - 9) 3 s else s
    | .disable =>
      if loc && decide (2 ≤ st) then setF (fPort n) psDisabled s
      else if n = 8 ∧ 2 ≤ s.usb.port8 then setPort8 psDisabled s
      else if tp then portCmd (n - 9) 4 s else s
    | .l1 =>
      if decide (8 ≤ n) && decide (n ≤ 16) then emit (.usb pidStall []) s
      else if loc && st == psEnabled && bit s ⟨R.USB2_CTRL, 5, 1⟩ then setF (fPort n) psL1 (bump R.USB2_L1_ENTRIES s) else s
    | .clearChange b =>
      { s with usb := { s.usb with change := natSet s.usb.change n (putBits (natGet s.usb.change n) b.toNat 1 0) } }
    | .clearChange3 b =>
      { s with usb := { s.usb with change3 := natSet s.usb.change3 n (putBits (natGet s.usb.change3 n) b.toNat 1 0) } }
    | .u1Timeout t => if ss then { s with usb := { s.usb with u1 := natSet s.usb.u1 n t.toNat } } else s
    | .u2Timeout t => if ss then { s with usb := { s.usb with u2 := natSet s.usb.u2 n t.toNat } } else s
    | .warmReset =>
      if ss && (bit s (fConn3 n) || (portPowered s n && (getF s (fPls3 n) == plsDisabled || getF s (fPls3 n) == 6))) then reset3 n s
      else s
    | .enterU3 =>
      if ss && bit s (fConn3 n) then
        let s := setF (fPls3 n) plsU3 s
        if bit s (fVirtual3 n) then sendLinkState (n - 1) 0x03 s else s
      else s
    | .enterU0 =>
      if ss && bit s (fConn3 n) then
        let s := change3 n 6 (setF (fPls3 n) plsU0 s)
        if bit s (fVirtual3 n) then sendLinkState (n - 1) 0x00 s else s
      else if n = 0 && physical3 s 0 then setF (fLink3 0) plsU0 s
      else if n = 0 && bit s ⟨R.USB3_STATUS, 4, 1⟩ && getF s (fLink3 0) == plsU3 then sendLinkState 8 0 (setF (fLink3 0) plsU0 s)
      else s
    | .idleTimer u2 => linkIdle u2 n s
    | .getStatus true =>
      if n = 0 && bit s fEn3 then hubAnswer true [0, 0, 0, 0] s
      else if ss && bit s fEn3 then hubAnswer true (bytesLE 2 (portStatusWord3 s n) ++ bytesLE 2 (natGet s.usb.change3 n)) s else stall s
    | .getStatus false =>
      if n = 0 && bit s fEn2 then hubAnswer false [0, 0, 0, 0] s
      else if decide (1 ≤ n) && decide (n ≤ 16) && bit s fEn2 then
        hubAnswer false (bytesLE 2 (portStatusWord s n) ++ bytesLE 2 (natGet s.usb.change n)) s
      else stall s
    | .getDescriptor ss3 => hubAnswer ss3 (hubDescriptor ss3) s
    | .setAddress ss3 a => setAddress (if ss3 then .hub3 else .hub2) a s
    | .setConfiguration ss3 c => hubToggle ss3 (setF (fConfigured (if ss3 then .hub3 else .hub2)) (if c = 0 then 0 else 1) s)
    | .setDepth d => modUsb (fun u => { u with depth := d.toNat }) s
    | .clearHalt ss3 => hubToggle ss3 s
    | .statusPoll ss3 => hubPoll ss3 s
    | .ofHub ss3 r => if bit s (if ss3 then fEn3 else fEn2) then stdRequest (if ss3 then .hub3 else .hub2) r s else s
    | .ofDevice r => if devOn s then stdRequest .device r (setupArrives s) else s
    | .tt r => if bit s fEn2 then ttRequest n r s else s)

end Sys2Proof.Machine
end

