-- ==== Sys2Proof/Machine/Dispatch.lean ====
section
/-!
DEFINITION. Dispatch: one arm per command, each a call of that command's own meaning.
-/
namespace Sys2Proof.Machine

/-- The effect of a command on everything but the queue of waiting commands. -/
def exec (i : Instr) (s : State) : Host.Outcome State Fault Refusal :=
  match i with
  | .registerWrite p addr v => Sys2Proof.Machine.execRegisterWrite p addr v s
  | .modeRequest p target => Sys2Proof.Machine.execModeRequest p target s
  | .modeTransitionComplete => Sys2Proof.Machine.execModeTransitionComplete s
  | .islandGraceExpiry => Sys2Proof.Machine.execIslandGraceExpiry s
  | .hostWatchdogExpiry => Sys2Proof.Machine.execHostWatchdogExpiry s
  | .hostKick => Sys2Proof.Machine.execHostKick s
  | .devCommit => Sys2Proof.Machine.execDevCommit s
  | .levelRequest target => Sys2Proof.Machine.execLevelRequest target s
  | .levelVready => Sys2Proof.Machine.execLevelVready s
  | .levelRimChangeDone => Sys2Proof.Machine.execLevelRimChangeDone s
  | .levelVreadyTimeout => Sys2Proof.Machine.execLevelVreadyTimeout s
  | .speedGaugeSample cycle => Sys2Proof.Machine.execSpeedGaugeSample cycle s
  | .paceGuardStep => Sys2Proof.Machine.execPaceGuardStep s
  | .paceGuardDisable => Sys2Proof.Machine.execPaceGuardDisable s
  | .spdExtremeRead max => Sys2Proof.Machine.execSpdExtremeRead max s
  | .enterModeAckReceived n => Sys2Proof.Machine.execEnterModeAckReceived n s
  | .detectTimeout n => Sys2Proof.Machine.execDetectTimeout n s
  | .trainLanesLocked n mask => Sys2Proof.Machine.execTrainLanesLocked n mask s
  | .trainTimeout n => Sys2Proof.Machine.execTrainTimeout n s
  | .storedCoeffLockTimeout n k => Sys2Proof.Machine.execStoredCoeffLockTimeout n k s
  | .authFrameMissing n => Sys2Proof.Machine.execAuthFrameMissing n s
  | .linkLoss n => Sys2Proof.Machine.execLinkLoss n s
  | .sidebandLoss n => Sys2Proof.Machine.execSidebandLoss n s
  | .linkForceDown n => Sys2Proof.Machine.execLinkForceDown n s
  | .retrainSuccess n mask => Sys2Proof.Machine.execRetrainSuccess n mask s
  | .retrainTimeout n => Sys2Proof.Machine.execRetrainTimeout n s
  | .lpIdleTimer n => Sys2Proof.Machine.execLpIdleTimer n s
  | .lowpowerExit e => Sys2Proof.Machine.execLowpowerExit e s
  | .linkBlockReceived n fecOk turned data trailer => Sys2Proof.Machine.execLinkBlockReceived n fecOk turned data trailer s
  | .nakReceived n lseq => Sys2Proof.Machine.execNakReceived n lseq s
  | .ackReceived n lseq => Sys2Proof.Machine.execAckReceived n lseq s
  | .ackSendTimer n => Sys2Proof.Machine.execAckSendTimer n s
  | .ackTimeout n => Sys2Proof.Machine.execAckTimeout n s
  | .roleCellReceived n role epoch => Sys2Proof.Machine.execRoleCellReceived n role epoch s
  | .roleCellTimer n => Sys2Proof.Machine.execRoleCellTimer n s
  | .crdResyncReceived n counts => Sys2Proof.Machine.execCrdResyncReceived n counts s
  | .ctagReceived n seg tag => Sys2Proof.Machine.execCtagReceived n seg tag s
  | .ctagDeadline n => Sys2Proof.Machine.execCtagDeadline n s
  | .splitRequest n target => Sys2Proof.Machine.execSplitRequest n target s
  | .sidebandSlot n st => Sys2Proof.Machine.execSidebandSlot n st s
  | .sbIdleReceived n => Sys2Proof.Machine.execSbIdleReceived n s
  | .sbTrainStateReceived n phase locked stored => Sys2Proof.Machine.execSbTrainStateReceived n phase locked stored s
  | .sbFfeReqReceived n lane codes0 codes1 => Sys2Proof.Machine.execSbFfeReqReceived n lane codes0 codes1 s
  | .sbFfeStatusReceived n payload => Sys2Proof.Machine.execSbFfeStatusReceived n payload s
  | .sbSplitReqReceived n target => Sys2Proof.Machine.execSbSplitReqReceived n target s
  | .sbSplitAckReceived n target => Sys2Proof.Machine.execSbSplitAckReceived n target s
  | .sbSplitNakReceived n target reason => Sys2Proof.Machine.execSbSplitNakReceived n target reason s
  | .sbLpReqReceived n => Sys2Proof.Machine.execSbLpReqReceived n s
  | .sbLpAckReceived n => Sys2Proof.Machine.execSbLpAckReceived n s
  | .sbLpNakReceived n => Sys2Proof.Machine.execSbLpNakReceived n s
  | .sbWakeReceived n => Sys2Proof.Machine.execSbWakeReceived n s
  | .sbDownReasonReceived n reason => Sys2Proof.Machine.execSbDownReasonReceived n reason s
  | .sbAuthHelloReceived n frag body => Sys2Proof.Machine.execSbAuthHelloReceived n frag body s
  | .sbAuthProofReceived n frag body => Sys2Proof.Machine.execSbAuthProofReceived n frag body s
  | .sbAuthDoneReceived n kind => Sys2Proof.Machine.execSbAuthDoneReceived n kind s
  | .turnBlockReceived b => Sys2Proof.Machine.execTurnBlockReceived b s
  | .turnedLanesLocked n => Sys2Proof.Machine.execTurnedLanesLocked n s
  | .turnDoneReceived n split => Sys2Proof.Machine.execTurnDoneReceived n split s
  | .turnLockTimeout n => Sys2Proof.Machine.execTurnLockTimeout n s
  | .holdExpiry n => Sys2Proof.Machine.execHoldExpiry n s
  | .retryExpiry n => Sys2Proof.Machine.execRetryExpiry n s
  | .fecRateInterval n => Sys2Proof.Machine.execFecRateInterval n s
  | .laneFreezeWrite p k freeze => Sys2Proof.Machine.execLaneFreezeWrite p k freeze s
  | .laneCoeffWrite p k idx v => Sys2Proof.Machine.execLaneCoeffWrite p k idx v s
  | .laneTestEnable p k prbs v => Sys2Proof.Machine.execLaneTestEnable p k prbs v s
  | .prbsInject p k => Sys2Proof.Machine.execPrbsInject p k s
  | .berEstimateUpdate p k fec prbs => Sys2Proof.Machine.execBerEstimateUpdate p k fec prbs s
  | .originCellIngress m offer => Sys2Proof.Machine.execOriginCellIngress m offer s
  | .tunnelCellArrival n header cell => Sys2Proof.Machine.execTunnelCellArrival n header cell s
  | .e2eAckTimer idx => Sys2Proof.Machine.execE2eAckTimer idx s
  | .e2eGapRepeatTimer idx => Sys2Proof.Machine.execE2eGapRepeatTimer idx s
  | .e2eAckReceived idx e => Sys2Proof.Machine.execE2eAckReceived idx e s
  | .e2eGapReceived idx e => Sys2Proof.Machine.execE2eGapReceived idx e s
  | .resumeReceived idx => Sys2Proof.Machine.execResumeReceived idx s
  | .e2eTimerExpiry idx => Sys2Proof.Machine.execE2eTimerExpiry idx s
  | .tid0FrameArrival n frame => Sys2Proof.Machine.execTid0FrameArrival n frame s
  | .eventCellArrival n frame => Sys2Proof.Machine.execEventCellArrival n frame s
  | .tunCommit => Sys2Proof.Machine.execTunCommit s
  | .tunIdxWrite v => Sys2Proof.Machine.execTunIdxWrite v s
  | .waitingCellRetry m => Sys2Proof.Machine.execWaitingCellRetry m s
  | .overflowFill q ecc => Sys2Proof.Machine.execOverflowFill q ecc s
  | .egressGrant m blockEnd ecc => Sys2Proof.Machine.execEgressGrant m blockEnd ecc s
  | .cutThroughUnderrun idx => Sys2Proof.Machine.execCutThroughUnderrun idx s
  | .bqFlushRequest m egress ct => Sys2Proof.Machine.execBqFlushRequest m egress ct s
  | .bqFlushEffect b => Sys2Proof.Machine.execBqFlushEffect b s
  | .queuePointerMismatch q => Sys2Proof.Machine.execQueuePointerMismatch q s
  | .queueSweepDone q => Sys2Proof.Machine.execQueueSweepDone q s
  | .swcBqSelWrite v => Sys2Proof.Machine.execSwcBqSelWrite v s
  | .bufQselWrite v => Sys2Proof.Machine.execBufQselWrite v s
  | .memInit => Sys2Proof.Machine.execMemInit s
  | .memInitComplete ok => Sys2Proof.Machine.execMemInitComplete ok s
  | .sdramRateChange => Sys2Proof.Machine.execSdramRateChange s
  | .memCommit => Sys2Proof.Machine.execMemCommit s
  | .eccSecondInterval => Sys2Proof.Machine.execEccSecondInterval s
  | .patrolScrubSlot forced ecc => Sys2Proof.Machine.execPatrolScrubSlot forced ecc s
  | .scrubBehindHour => Sys2Proof.Machine.execScrubBehindHour s
  | .refreshDue urgent => Sys2Proof.Machine.execRefreshDue urgent s
  | .zqShortDue urgent => Sys2Proof.Machine.execZqShortDue urgent s
  | .zqForceExpiry => Sys2Proof.Machine.execZqForceExpiry s
  | .schCommit m => Sys2Proof.Machine.execSchCommit m s
  | .gateWindowBoundary g => Sys2Proof.Machine.execGateWindowBoundary g s
  | .gateScheduleSwitch g => Sys2Proof.Machine.execGateScheduleSwitch g s
  | .dispEnableWrite v => Sys2Proof.Machine.execDispEnableWrite v s
  | .dispDisableWrite v => Sys2Proof.Machine.execDispDisableWrite v s
  | .positionFrame tag => Sys2Proof.Machine.execPositionFrame tag s
  | .lineFrame tag => Sys2Proof.Machine.execLineFrame tag s
  | .dispCommit miss => Sys2Proof.Machine.execDispCommit miss s
  | .latchPoint ground apq ecc => Sys2Proof.Machine.execLatchPoint ground apq ecc s
  | .lineUnderrun line => Sys2Proof.Machine.execLineUnderrun line s
  | .bufferRelease layer => Sys2Proof.Machine.execBufferRelease layer s
  | .bufReleaseRead => Sys2Proof.Machine.execBufReleaseRead s
  | .fencedWriteProceed tag => Sys2Proof.Machine.execFencedWriteProceed tag s
  | .teEdge k falling => Sys2Proof.Machine.execTeEdge k falling s
  | .teMissing => Sys2Proof.Machine.execTeMissing s
  | .hpdLoss o => Sys2Proof.Machine.execHpdLoss o s
  | .hpdReturn o => Sys2Proof.Machine.execHpdReturn o s
  | .staleTimeoutExpiry => Sys2Proof.Machine.execStaleTimeoutExpiry s
  | .imgDataAccess write => Sys2Proof.Machine.execImgDataAccess write s
  | .doutCommit k => Sys2Proof.Machine.execDoutCommit k s
  | .auxTransactionStart k v => Sys2Proof.Machine.execAuxTransactionStart k v s
  | .auxTransactionDone k reply report data => Sys2Proof.Machine.execAuxTransactionDone k reply report data s
  | .macEnable k md => Sys2Proof.Machine.execMacEnable k md s
  | .macLinkLoss k remote => Sys2Proof.Machine.execMacLinkLoss k remote s
  | .macFrameReceived k frame parity => Sys2Proof.Machine.execMacFrameReceived k frame parity s
  | .macFrameTransmit tag stamp frame => Sys2Proof.Machine.execMacFrameTransmit tag stamp frame s
  | .fcsSecondInterval k => Sys2Proof.Machine.execFcsSecondInterval k s
  | .fwdInsert => Sys2Proof.Machine.execFwdInsert s
  | .fwdDelete => Sys2Proof.Machine.execFwdDelete s
  | .fwdLookup parity => Sys2Proof.Machine.execFwdLookup parity s
  | .fwdFlushAll => Sys2Proof.Machine.execFwdFlushAll s
  | .fwdCommit => Sys2Proof.Machine.execFwdCommit s
  | .timeTick => Sys2Proof.Machine.execTimeTick s
  | .timeSnap => Sys2Proof.Machine.execTimeSnap s
  | .timeAdjSet => Sys2Proof.Machine.execTimeAdjSet s
  | .timeAdjStep => Sys2Proof.Machine.execTimeAdjStep s
  | .dreqTimer n => Sys2Proof.Machine.execDreqTimer n s
  | .dreqReceived n seq => Sys2Proof.Machine.execDreqReceived n seq s
  | .drespReceived n seq t2 t3 state depth => Sys2Proof.Machine.execDrespReceived n seq t2 t3 state depth s
  | .timeSourceLoss => Sys2Proof.Machine.execTimeSourceLoss s
  | .pdelayReqTimer k => Sys2Proof.Machine.execPdelayReqTimer k s
  | .pdelayReqReceived k req turnaround => Sys2Proof.Machine.execPdelayReqReceived k req turnaround s
  | .pdelayRespReceived k seq turnaround => Sys2Proof.Machine.execPdelayRespReceived k seq turnaround s
  | .twoStepEntryExpiry k egress => Sys2Proof.Machine.execTwoStepEntryExpiry k egress s
  | .msgPortDelivery tag stamp data => Sys2Proof.Machine.execMsgPortDelivery tag stamp data s
  | .msgRxRead => Sys2Proof.Machine.execMsgRxRead s
  | .msgTxGo tag len => Sys2Proof.Machine.execMsgTxGo tag len s
  | .ppsOutEdge => Sys2Proof.Machine.execPpsOutEdge s
  | .ppsInEdge falling => Sys2Proof.Machine.execPpsInEdge falling s
  | .ppsInMissing => Sys2Proof.Machine.execPpsInMissing s
  | .evtPinEdge k level => Sys2Proof.Machine.execEvtPinEdge k level s
  | .evtDebounceExpiry k => Sys2Proof.Machine.execEvtDebounceExpiry k s
  | .pcieRetrain k speed width ok => Sys2Proof.Machine.execPcieRetrain k speed width ok s
  | .upstreamHotReset => Sys2Proof.Machine.execUpstreamHotReset s
  | .tlpReceived src errs ecc => Sys2Proof.Machine.execTlpReceived src errs ecc s
  | .bar0Request tag off be dws write => Sys2Proof.Machine.execBar0Request tag off be dws write s
  | .bar4Request tag off write len ecc => Sys2Proof.Machine.execBar4Request tag off write len ecc s
  | .sendWindowWrite t off data => Sys2Proof.Machine.execSendWindowWrite t off data s
  | .outboundRead w tag off enables => Sys2Proof.Machine.execOutboundRead w tag off enables s
  | .outboundWrite w off enables data => Sys2Proof.Machine.execOutboundWrite w off enables data s
  | .prefetchExpiry w => Sys2Proof.Machine.execPrefetchExpiry w s
  | .postedWriteFailure timeout => Sys2Proof.Machine.execPostedWriteFailure timeout s
  | .lbBeatTimeout => Sys2Proof.Machine.execLbBeatTimeout s
  | .perrCaptureRelease => Sys2Proof.Machine.execPerrCaptureRelease s
  | .lbRequest => Sys2Proof.Machine.execLbRequest s
  | .lbRequestRelease => Sys2Proof.Machine.execLbRequestRelease s
  | .lbGrantMaxExpiry => Sys2Proof.Machine.execLbGrantMaxExpiry s
  | .lbIntLow low => Sys2Proof.Machine.execLbIntLow low s
  | .inboundCycle addr write be lanes => Sys2Proof.Machine.execInboundCycle addr write be lanes s
  | .inboundReadDefer => Sys2Proof.Machine.execInboundReadDefer s
  | .dtCompletionArrival slot status data => Sys2Proof.Machine.execDtCompletionArrival slot status data s
  | .dtSlotExpiry slot => Sys2Proof.Machine.execDtSlotExpiry slot s
  | .bridgeFramePerform frame => Sys2Proof.Machine.execBridgeFramePerform frame s
  | .maRead be => Sys2Proof.Machine.execMaRead be s
  | .maWrite be => Sys2Proof.Machine.execMaWrite be s
  | .maCycleDone result lanes => Sys2Proof.Machine.execMaCycleDone result lanes s
  | .pswBrgCommit brg => Sys2Proof.Machine.execPswBrgCommit brg s
  | .usbHubEnable usb3 v => Sys2Proof.Machine.execUsbHubEnable usb3 v s
  | .usbUpVbusDetect => Sys2Proof.Machine.execUsbUpVbusDetect s
  | .localPortOvercurrent oc => Sys2Proof.Machine.execLocalPortOvercurrent oc s
  | .setPortPower p on ocHigh => Sys2Proof.Machine.execSetPortPower p on ocHigh s
  | .portErrorDisable p ss => Sys2Proof.Machine.execPortErrorDisable p ss s
  | .usb3PacketFrame tag frame aborted => Sys2Proof.Machine.execUsb3PacketFrame tag frame aborted s
  | .usb3LinkStateFrame tag frame => Sys2Proof.Machine.execUsb3LinkStateFrame tag frame s
  | .ttSplitReqFrame p frame pid data => Sys2Proof.Machine.execTtSplitReqFrame p frame pid data s
  | .ttSplitResultFrame k frame late => Sys2Proof.Machine.execTtSplitResultFrame k frame late s
  | .ttPortCmdFrame p frame chirp => Sys2Proof.Machine.execTtPortCmdFrame p frame chirp s
  | .ttPortStatusFrame k frame => Sys2Proof.Machine.execTtPortStatusFrame k frame s
  | .portStatusTimer p => Sys2Proof.Machine.execPortStatusTimer p s
  | .portStatusTimeout k => Sys2Proof.Machine.execPortStatusTimeout k s
  | .startSplit k pid isIn dev ls ep kind frameNo uframe dataPid data => Sys2Proof.Machine.execStartSplit k pid isIn dev ls ep kind frameNo uframe dataPid data s
  | .completeSplit k dev ep isIn => Sys2Proof.Machine.execCompleteSplit k dev ep isIn s
  | .ttTimeoutExpiry k handle => Sys2Proof.Machine.execTtTimeoutExpiry k handle s
  | .ep1InToken => Sys2Proof.Machine.execEp1InToken s
  | .ep2InToken => Sys2Proof.Machine.execEp2InToken s
  | .regReadRequest addr len => Sys2Proof.Machine.execRegReadRequest addr len s
  | .regWriteRequest addr len v => Sys2Proof.Machine.execRegWriteRequest addr len v s
  | .regWriteStatusStage event => Sys2Proof.Machine.execRegWriteStatusStage event s
  | .ep3OutFrame frame repeated => Sys2Proof.Machine.execEp3OutFrame frame repeated s
  | .usbBusReset control => Sys2Proof.Machine.execUsbBusReset control s
  | .clearEndpointHalt e => Sys2Proof.Machine.execClearEndpointHalt e s
  | .setConfiguration addr config => Sys2Proof.Machine.execSetConfiguration addr config s
  | .remoteWake src kSeen => Sys2Proof.Machine.execRemoteWake src kSeen s
  | .remoteWakeEnd => Sys2Proof.Machine.execRemoteWakeEnd s
  | .ccAttach n cc2 => Sys2Proof.Machine.execCcAttach n cc2 s
  | .ccDetach n => Sys2Proof.Machine.execCcDetach n s
  | .vbusSinkDetach n mv => Sys2Proof.Machine.execVbusSinkDetach n mv s
  | .drpToggle n => Sys2Proof.Machine.execDrpToggle n s
  | .emarkerResponse n vdo => Sys2Proof.Machine.execEmarkerResponse n vdo s
  | .pdRequestReceived n type rdo => Sys2Proof.Machine.execPdRequestReceived n type rdo s
  | .sourceCapsReceived n epr caps answer => Sys2Proof.Machine.execSourceCapsReceived n epr caps answer s
  | .transitionStart n => Sys2Proof.Machine.execTransitionStart n s
  | .vsetSlewStep n => Sys2Proof.Machine.execVsetSlewStep n s
  | .vbusSettled n mv => Sys2Proof.Machine.execVbusSettled n mv s
  | .transitionTimeout n => Sys2Proof.Machine.execTransitionTimeout n s
  | .eprKeepaliveTimer n => Sys2Proof.Machine.execEprKeepaliveTimer n s
  | .eprKeepaliveMissing n => Sys2Proof.Machine.execEprKeepaliveMissing n s
  | .vbusFuseSlowTrip n uv => Sys2Proof.Machine.execVbusFuseSlowTrip n uv s
  | .vbusFastTrip n uv => Sys2Proof.Machine.execVbusFastTrip n uv s
  | .fuseRetryExpiry n => Sys2Proof.Machine.execFuseRetryExpiry n s
  | .vbusSafeClose n port converter => Sys2Proof.Machine.execVbusSafeClose n port converter s
  | .psRdyReceived n => Sys2Proof.Machine.execPsRdyReceived n s
  | .tcPrSwap n answer => Sys2Proof.Machine.execTcPrSwap n answer s
  | .tcDrSwap n answer => Sys2Proof.Machine.execTcDrSwap n answer s
  | .tcVconnSwap n answer => Sys2Proof.Machine.execTcVconnSwap n answer s
  | .tcHardReset n => Sys2Proof.Machine.execTcHardReset n s
  | .tcSendCaps n => Sys2Proof.Machine.execTcSendCaps n s
  | .tcEnterMode n => Sys2Proof.Machine.execTcEnterMode n s
  | .tcExitMode n answer => Sys2Proof.Machine.execTcExitMode n answer s
  | .tcClearFuse n => Sys2Proof.Machine.execTcClearFuse n s
  | .tcGetSrcCaps n answer => Sys2Proof.Machine.execTcGetSrcCaps n answer s
  | .prSwapReceived n => Sys2Proof.Machine.execPrSwapReceived n s
  | .drSwapReceived n => Sys2Proof.Machine.execDrSwapReceived n s
  | .vconnSwapReceived n => Sys2Proof.Machine.execVconnSwapReceived n s
  | .hardResetReceived n => Sys2Proof.Machine.execHardResetReceived n s
  | .modeDiscoveryResponse n r => Sys2Proof.Machine.execModeDiscoveryResponse n r s
  | .modeEntryTimeout n => Sys2Proof.Machine.execModeEntryTimeout n s
  | .discoverReceived n what => Sys2Proof.Machine.execDiscoverReceived n what s
  | .enterModeReceived n svid position => Sys2Proof.Machine.execEnterModeReceived n svid position s
  | .displayportAttention n hpd => Sys2Proof.Machine.execDisplayportAttention n hpd s
  | .vconnOvercurrent n => Sys2Proof.Machine.execVconnOvercurrent n s
  | .pdUnexpectedMessage n type form => Sys2Proof.Machine.execPdUnexpectedMessage n type form s
  | .goodcrcTimeout n type => Sys2Proof.Machine.execGoodcrcTimeout n type s
  | .vbusOvervoltage n mv => Sys2Proof.Machine.execVbusOvervoltage n mv s
  | .aoEvaluation m => Sys2Proof.Machine.execAoEvaluation m s
  | .feedQualified x mv => Sys2Proof.Machine.execFeedQualified x mv s
  | .pfwDeassert => Sys2Proof.Machine.execPfwDeassert s
  | .reverseCurrentOff x => Sys2Proof.Machine.execReverseCurrentOff x s
  | .hotswapEnable => Sys2Proof.Machine.execHotswapEnable s
  | .hotswapDisable byPin => Sys2Proof.Machine.execHotswapDisable byPin s
  | .rampStart => Sys2Proof.Machine.execRampStart s
  | .rampComplete mv => Sys2Proof.Machine.execRampComplete mv s
  | .rampTimeout => Sys2Proof.Machine.execRampTimeout s
  | .currentLimitEntry cur => Sys2Proof.Machine.execCurrentLimitEntry cur s
  | .faultTimerExpiry => Sys2Proof.Machine.execFaultTimerExpiry s
  | .hotswapFastTrip cur => Sys2Proof.Machine.execHotswapFastTrip cur s
  | .fetTempSample diode die => Sys2Proof.Machine.execFetTempSample diode die s
  | .retryHoldEnd => Sys2Proof.Machine.execRetryHoldEnd s
  | .ppClear => Sys2Proof.Machine.execPpClear s
  | .ppModelReset => Sys2Proof.Machine.execPpModelReset s
  | .holdupEstimate => Sys2Proof.Machine.execHoldupEstimate s
  | .journalReg h addr v => Sys2Proof.Machine.execJournalReg h addr v s
  | .journalCommit h page => Sys2Proof.Machine.execJournalCommit h page s
  | .journalCkpt h idx next base e tstate => Sys2Proof.Machine.execJournalCkpt h idx next base e tstate s
  | .journalServo h body => Sys2Proof.Machine.execJournalServo h body s
  | .journalEvent h record => Sys2Proof.Machine.execJournalEvent h record s
  | .journalFwd h op vid da tset => Sys2Proof.Machine.execJournalFwd h op vid da tset s
  | .journalMode h m cause => Sys2Proof.Machine.execJournalMode h m cause s
  | .journalSwapCommit h e => Sys2Proof.Machine.execJournalSwapCommit h e s
  | .journalSnap h group => Sys2Proof.Machine.execJournalSnap h group s
  | .jackReceived jseq => Sys2Proof.Machine.execJackReceived jseq s
  | .checkpointTimer => Sys2Proof.Machine.execCheckpointTimer s
  | .servoJournalTimer => Sys2Proof.Machine.execServoJournalTimer s
  | .resyncStart => Sys2Proof.Machine.execResyncStart s
  | .resyncComplete => Sys2Proof.Machine.execResyncComplete s
  | .resyncReqReceived => Sys2Proof.Machine.execResyncReqReceived s
  | .heartbeatFrame f => Sys2Proof.Machine.execHeartbeatFrame f s
  | .heartbeatLoss scarf => Sys2Proof.Machine.execHeartbeatLoss scarf s
  | .takeoverAssume => Sys2Proof.Machine.execTakeoverAssume s
  | .fenceInRise => Sys2Proof.Machine.execFenceInRise s
  | .fenceRelease => Sys2Proof.Machine.execFenceRelease s
  | .pairOffer => Sys2Proof.Machine.execPairOffer s
  | .pairTakeover => Sys2Proof.Machine.execPairTakeover s
  | .pairResync => Sys2Proof.Machine.execPairResync s
  | .swapOfferReceived => Sys2Proof.Machine.execSwapOfferReceived s
  | .swapAcceptReceived => Sys2Proof.Machine.execSwapAcceptReceived s
  | .swapRefuseReceived => Sys2Proof.Machine.execSwapRefuseReceived s
  | .swapDrainDone => Sys2Proof.Machine.execSwapDrainDone s
  | .swapDrainTimeout => Sys2Proof.Machine.execSwapDrainTimeout s
  | .swapCommitAckReceived => Sys2Proof.Machine.execSwapCommitAckReceived s
  | .swapAbortReceived => Sys2Proof.Machine.execSwapAbortReceived s
  | .swapAckTimeout => Sys2Proof.Machine.execSwapAckTimeout s
  | .dockEnable v => Sys2Proof.Machine.execDockEnable v s
  | .crossingPulse x k detail => Sys2Proof.Machine.execCrossingPulse x k detail s
  | .crossingAck x => Sys2Proof.Machine.execCrossingAck x s
  | .crossingStall x => Sys2Proof.Machine.execCrossingStall x s
  | .regAccessTimeout p addr write => Sys2Proof.Machine.execRegAccessTimeout p addr write s
  | .clockReturn page => Sys2Proof.Machine.execClockReturn page s
  | .crossingResync x words => Sys2Proof.Machine.execCrossingResync x words s
  | .cdcSelWrite v => Sys2Proof.Machine.execCdcSelWrite v s
  | .cdcXclear => Sys2Proof.Machine.execCdcXclear s
  | .faultRaise via => Sys2Proof.Machine.execFaultRaise via s
  | .shedStepTimer => Sys2Proof.Machine.execShedStepTimer s
  | .escalationWindowEnd src => Sys2Proof.Machine.execEscalationWindowEnd src s
  | .escClear src => Sys2Proof.Machine.execEscClear src s
  | .fltUnshed => Sys2Proof.Machine.execFltUnshed s
  | .fltFirstClr => Sys2Proof.Machine.execFltFirstClr s
  | .fltHistSnap => Sys2Proof.Machine.execFltHistSnap s
  | .fltMark detail => Sys2Proof.Machine.execFltMark detail s
  | .eventCellTimer => Sys2Proof.Machine.execEventCellTimer s
  | .fltRxHdrRead => Sys2Proof.Machine.execFltRxHdrRead s
  | .fiArm page v => Sys2Proof.Machine.execFiArm page v s
  | .sleepRequest target => Sys2Proof.Machine.execSleepRequest target s
  | .s1Entry => Sys2Proof.Machine.execS1Entry s
  | .s1Exit => Sys2Proof.Machine.execS1Exit s
  | .sleepDrainDone => Sys2Proof.Machine.execSleepDrainDone s
  | .sleepDrainTimeout => Sys2Proof.Machine.execSleepDrainTimeout s
  | .sleepEntryComplete edges levels => Sys2Proof.Machine.execSleepEntryComplete edges levels s
  | .wakeCause b => Sys2Proof.Machine.execWakeCause b s
  | .wakeVready => Sys2Proof.Machine.execWakeVready s
  | .wakeClockDetected => Sys2Proof.Machine.execWakeClockDetected s
  | .wakeResetDone held puf fuseBad => Sys2Proof.Machine.execWakeResetDone held puf fuseBad s
  | .wakeVreadyTimeout => Sys2Proof.Machine.execWakeVreadyTimeout s
  | .wakeClockTimeout => Sys2Proof.Machine.execWakeClockTimeout s
  | .wakeBackoffExpiry => Sys2Proof.Machine.execWakeBackoffExpiry s
  | .wakeFailClear => Sys2Proof.Machine.execWakeFailClear s
  | .aoWakeCmd => Sys2Proof.Machine.execAoWakeCmd s
  | .aoTimerExpiry => Sys2Proof.Machine.execAoTimerExpiry s
  | .resetNAssert => Sys2Proof.Machine.execResetNAssert s
  | .resetNRelease straps => Sys2Proof.Machine.execResetNRelease straps s
  | .powerOnReset straps resetHigh => Sys2Proof.Machine.execPowerOnReset straps resetHigh s
  | .warmReset key => Sys2Proof.Machine.execWarmReset key s
  | .linkReset mask => Sys2Proof.Machine.execLinkReset mask s
  | .softReset page => Sys2Proof.Machine.execSoftReset page s
  | .softResetDone page => Sys2Proof.Machine.execSoftResetDone page s
  | .coreSupplyLoss => Sys2Proof.Machine.execCoreSupplyLoss s
  | .externalWipeDone => Sys2Proof.Machine.execExternalWipeDone s
  | .rb7DataAccess write => Sys2Proof.Machine.execRb7DataAccess write s
  | .lcRequest p target confirm => Sys2Proof.Machine.execLcRequest p target confirm s
  | .lcProgramDone => Sys2Proof.Machine.execLcProgramDone s
  | .authNewChallenge p => Sys2Proof.Machine.execAuthNewChallenge p s
  | .authUnlockChallenge p => Sys2Proof.Machine.execAuthUnlockChallenge p s
  | .authDeauth p => Sys2Proof.Machine.execAuthDeauth p s
  | .authResponse p resp => Sys2Proof.Machine.execAuthResponse p resp s
  | .authChallengeExpiry p => Sys2Proof.Machine.execAuthChallengeExpiry p s
  | .authLockoutEnd p => Sys2Proof.Machine.execAuthLockoutEnd p s
  | .releaseOkExpiry => Sys2Proof.Machine.execReleaseOkExpiry s
  | .crChallenge chal => Sys2Proof.Machine.execCrChallenge chal s
  | .sealCps p => Sys2Proof.Machine.execSealCps p s
  | .keySubmit p => Sys2Proof.Machine.execKeySubmit p s
  | .keyLoadClr p slot => Sys2Proof.Machine.execKeyLoadClr p slot s
  | .keyErase p slot => Sys2Proof.Machine.execKeyErase p slot s
  | .keyEngineSelect p e v => Sys2Proof.Machine.execKeyEngineSelect p e v s
  | .pageEnableWrite page en => Sys2Proof.Machine.execPageEnableWrite page en s
  | .pageLock page => Sys2Proof.Machine.execPageLock page s
  | .counterLowWordRead p addr => Sys2Proof.Machine.execCounterLowWordRead p addr s
  | .mgmtRead => Sys2Proof.Machine.execMgmtRead s
  | .mgmtWrite => Sys2Proof.Machine.execMgmtWrite s
  | .mgmtWriteList => Sys2Proof.Machine.execMgmtWriteList s
  | .mgmtReplyDelivery frame => Sys2Proof.Machine.execMgmtReplyDelivery frame s
  | .mbTxGo len => Sys2Proof.Machine.execMbTxGo len s
  | .mbRxRead => Sys2Proof.Machine.execMbRxRead s
  | .spiRead addr n => Sys2Proof.Machine.execSpiRead addr n s
  | .spiReadFixed addr n => Sys2Proof.Machine.execSpiReadFixed addr n s
  | .spiWrite addr words part => Sys2Proof.Machine.execSpiWrite addr words part s
  | .spiWriteFixed addr words part => Sys2Proof.Machine.execSpiWriteFixed addr words part s
  | .spiStatus => Sys2Proof.Machine.execSpiStatus s
  | .spiCsRise unknown => Sys2Proof.Machine.execSpiCsRise unknown s
  | .dieTempSample hubT powerT => Sys2Proof.Machine.execDieTempSample hubT powerT s
  | .supplyWindowExit rail => Sys2Proof.Machine.execSupplyWindowExit rail s
  | .macLinkUp k phy => Sys2Proof.Machine.execMacLinkUp k phy s
  | .pcieLinkDown k => Sys2Proof.Machine.execPcieLinkDown k s
  | .pcieLinkUp k speed width => Sys2Proof.Machine.execPcieLinkUp k speed width s
  | .pcieCompletionTimeout => Sys2Proof.Machine.execPcieCompletionTimeout s
  | .localBusCycleEnd err lanes => Sys2Proof.Machine.execLocalBusCycleEnd err lanes s
  | .dpLinkTrainingDone o ok => Sys2Proof.Machine.execDpLinkTrainingDone o ok s
  | .dpIrqHpd k => Sys2Proof.Machine.execDpIrqHpd k s
  | .usbUpLinkLoss ss => Sys2Proof.Machine.execUsbUpLinkLoss ss s
  | .usbBusSuspend l1 wake => Sys2Proof.Machine.execUsbBusSuspend l1 wake s
  | .usbHostResume => Sys2Proof.Machine.execUsbHostResume s
  | .usbPortConnectChange p ss attached ls => Sys2Proof.Machine.execUsbPortConnectChange p ss attached ls s
  | .hubPortFeatureRequest p f => Sys2Proof.Machine.execHubPortFeatureRequest p f s
  | .setInterface intf alt => Sys2Proof.Machine.execSetInterface intf alt s
  | .eprModeReceived n watts => Sys2Proof.Machine.execEprModeReceived n watts s
  | .eprKeepaliveReceived n => Sys2Proof.Machine.execEprKeepaliveReceived n s
  | .vbusDischarged n => Sys2Proof.Machine.execVbusDischarged n s
  | .fenceInFall => Sys2Proof.Machine.execFenceInFall s
  | .jackSendTimer => Sys2Proof.Machine.execJackSendTimer s
  | .journalCrcError record => Sys2Proof.Machine.execJournalCrcError record s
  | .vddAoPowerLoss => Sys2Proof.Machine.execVddAoPowerLoss s
  | .supplyWindowReturn rail => Sys2Proof.Machine.execSupplyWindowReturn rail s
  | .sbBadFrameReceived frame => Sys2Proof.Machine.execSbBadFrameReceived frame s

end Sys2Proof.Machine
end

