-- ==== Sys2Proof/Safety.lean ====
section
/-!
DEFINITION. The terms in which claims about the block are stated: what it is for a command to complete, when the dies run, and what
a step leaves as it was.
-/
namespace Sys2Proof.Machine

/-- The command answers a next state, and `P` holds of it. -/
def Answers (c : Instr) (s : State) (P : State → Prop) : Prop := ∃ t, exec c s = .next t ∧ P t

/-- The hub die runs (Table 18-8, R374). -/
def Runs (s : State) : Prop := hubRuns s = true

/-- The hub die runs, and S1 Doze is not in force, so that an access of a register ends nothing (R369). -/
def Awake (s : State) : Prop := hubRuns s = true ∧ bit s fDoze = false

/-- The power die is supplied (R13, R436). -/
def Powered (s : State) : Prop := s.pwr.on = true

/-- Nothing is to be journalled: the hub is not the active of a pair whose peer is being kept in step (R299). -/
def Unpaired (s : State) : Prop := holdsRole s = false

/-- Every register but those listed reads as before. -/
def RegsBut (ks : List Nat) (s t : State) : Prop := ∀ k, k ∉ ks → reg t k = reg s k

/-- Nothing but registers and outputs has changed. -/
def OnlyRegs (s t : State) : Prop := t = { s with regs := t.regs, out := t.out }

/-- Nothing has changed but the outputs, which are these. -/
def OnlyOut (o : List Output) (s t : State) : Prop := t = { s with out := o }

/-- Every byte of the SDRAM outside `n` bytes from `a` reads as before. -/
def DramBut (a n : Nat) (s t : State) : Prop :=
  ∀ i, i < a ∨ a + n ≤ i → smGet dByte t.dram i = smGet dByte s.dram i

/-- The SDRAM holds these bytes from `a`. -/
def DramHas (a : Nat) (data : List Byte) (t : State) : Prop :=
  ∀ i, i < data.length → smGet dByte t.dram (a + i) = data.getD i 0

/-- Every access path but this one has the authentication it had. -/
def PathsBut (p : Path) (s t : State) : Prop := ∀ q, pathKey q ≠ pathKey p → apGet t q = apGet s q

/-- The commands that the power die takes, whatever the hub die does (R13, Table 18-8), and the edges of FENCE_IN, a pin whose level
outlasts the hub die (R308); every other command needs the hub die. -/
def ofPowerDie (c : Instr) : Bool :=
  match c with
  | .registerWrite .. | .enterModeAckReceived .. | .auxTransactionStart .. | .auxTransactionDone .. | .ccAttach ..
  | .ccDetach .. | .vbusSinkDetach .. | .drpToggle .. | .emarkerResponse .. | .pdRequestReceived ..
  | .sourceCapsReceived .. | .transitionStart .. | .vsetSlewStep .. | .vbusSettled .. | .transitionTimeout ..
  | .eprKeepaliveTimer .. | .eprKeepaliveMissing .. | .vbusFuseSlowTrip .. | .vbusFastTrip .. | .fuseRetryExpiry ..
  | .vbusSafeClose .. | .psRdyReceived .. | .tcPrSwap .. | .tcDrSwap .. | .tcVconnSwap .. | .tcHardReset ..
  | .tcSendCaps .. | .tcEnterMode .. | .tcExitMode .. | .tcClearFuse .. | .tcGetSrcCaps .. | .prSwapReceived ..
  | .drSwapReceived .. | .vconnSwapReceived .. | .hardResetReceived .. | .modeDiscoveryResponse .. | .modeEntryTimeout ..
  | .discoverReceived .. | .enterModeReceived .. | .displayportAttention .. | .vconnOvercurrent ..
  | .pdUnexpectedMessage .. | .goodcrcTimeout .. | .vbusOvervoltage .. | .aoEvaluation .. | .feedQualified ..
  | .pfwDeassert .. | .reverseCurrentOff .. | .hotswapEnable .. | .hotswapDisable .. | .rampStart .. | .rampComplete ..
  | .rampTimeout .. | .currentLimitEntry .. | .faultTimerExpiry .. | .hotswapFastTrip .. | .fetTempSample ..
  | .retryHoldEnd .. | .ppClear .. | .ppModelReset .. | .holdupEstimate .. | .wakeCause .. | .wakeVready ..
  | .wakeClockDetected .. | .wakeResetDone .. | .wakeVreadyTimeout .. | .wakeClockTimeout .. | .wakeBackoffExpiry ..
  | .wakeFailClear .. | .aoWakeCmd .. | .aoTimerExpiry .. | .resetNAssert .. | .resetNRelease .. | .powerOnReset ..
  | .coreSupplyLoss .. | .counterLowWordRead .. | .spiRead .. | .spiReadFixed .. | .spiWrite .. | .spiWriteFixed ..
  | .spiStatus .. | .spiCsRise .. | .eprModeReceived .. | .eprKeepaliveReceived .. | .vbusDischarged ..
  | .vddAoPowerLoss .. | .fenceInRise .. | .fenceInFall .. => true
  | _ => false

/-- What a raise of a source with a detail leaves in the crossings and the fault block, and nothing else but registers, has
changed; nothing is sent. -/
def OnlyRaised (src detail : Nat) (s t : State) : Prop :=
  t = { s with regs := t.regs, cdc := (raise src detail s).cdc, flt := (raise src detail s).flt, out := [] }

/-- The antifuse words of `b` are those of `a` or further programmed ones (R386, R389, R401). -/
def fuseLe (a b : Fuse) : Prop :=
  a.lc ≤ b.lc ∧ a.floor ≤ b.floor ∧ (∀ c, a.cps = some c → b.cps = some c)

/-- The SDRAM's bytes in canonical form: addresses strictly rising, no entry equal to what an unlisted address reads as.
DESIGN CHOICE, log entry 7. -/
abbrev Memory.wf (m : SMap Byte) : Prop := smWf dByte m

end Sys2Proof.Machine
end

