-- ==== Sys2Proof/Certificates/Slice0/Obligations.lean ====
section
/-!
DEFINITION. The statements for the provers: what each command of the opcode table does, and what every step keeps.
-/
open Sys2Proof Sys2Proof.Machine

/-- Requests, transitions, island causes and the watchdog kick take effect, under the conditions written out. The model's
own readings: log entries 29, 30. After: R21, R22, R25, R26, R430, R457. -/
def Obligations.ModeCommandsComplete : Prop :=
  -- MODE_REQUEST
  (∀ (p : Path) (target : BitVec 3) (s : State), Runs s → bit s fReqBusy = false → bit s fSwapping = false →
    bit s ⟨R.SEC_LC_STATUS, 0, 1⟩ = false → requestable s target.toNat = true →
    Answers (.modeRequest p target) s (fun t =>
      bit t fReqBusy = true ∧ mode t = mode s ∧ t.modes.req = some ⟨target.toNat, p⟩ ∧ RegsBut [R.DEV_MODE] s t ∧
      t = { s with regs := t.regs, modes := t.modes, out := [] })) ∧
  -- MODE_TRANSITION_COMPLETE
  (∀ (p : Path) (s : State), Runs s → s.modes.req = some ⟨mSolo, p⟩ → mode s = mCold →
    requestCheck s ⟨mSolo, p⟩ = 0 →
    Answers (.modeTransitionComplete) s (fun t =>
      t = kept s (changeModeAndTime mSolo (setF fReqResult 0 (setF fReqBusy 0 { s with out := [], modes := { s.modes with req := none } }))))) ∧
  -- ISLAND_GRACE_EXPIRY
  (∀ (s : State), Runs s → islandArmed s = true → (getA s fUpstream ≤ 3 ∨ getA s fUpstream = 5) →
    upstreamThere s (getA s fUpstream) = false → graceStart s (getA s fUpstream) + graceTicks s ≤ s.ticks →
    Answers (.islandGraceExpiry) s (fun t =>
      t = kept s (enterIsland 1 (clearOut s)))) ∧
  -- HOST_WATCHDOG_EXPIRY
  (∀ (s : State), Runs s → islandArmed s = true → wdogTicks s ≠ 0 → s.modes.wdogTick + wdogTicks s ≤ s.ticks →
    Answers (.hostWatchdogExpiry) s (fun t =>
      t = kept s (enterIsland 2 (clearOut s)))) ∧
  -- HOST_KICK
  (∀ (s : State), Runs s →
    Answers (.hostKick) s (fun t =>
      t.modes.wdogTick = s.ticks ∧ (mode s = mIsland → getF s fIslCause = 2 → bit t fCauseClear = true) ∧
      RegsBut [R.DEV_MODE] s t ∧ t = { s with regs := t.regs, modes := t.modes, out := [] })) ∧
  -- DEV_COMMIT
  (∀ (s : State), Runs s → mode s ≠ mStandby → (mode s = mCold ∨
    getF s ⟨R.DEV_HID, 0, 6⟩ = getA s ⟨R.DEV_HID, 0, 6⟩) →
    Answers (.devCommit) s (fun t =>
      t = kept s (devApply (clearOut s))))

/-- Level changes, the speed gauge and the pace guard, under the conditions written out. The model's own readings: log
entries 31. After: R35, R36, R39, R40, R42, R43, R361, R363, R364. -/
def Obligations.SpeedCommandsComplete : Prop :=
  -- LEVEL_REQUEST
  (∀ (target : BitVec 2) (s : State), Awake s → bit s fChanging = false → s.pwr.entry < 2 →
    level s < target.toNat →
    Answers (.levelRequest target) s (fun t =>
      bit t fChanging = true ∧ getF t fTargetLevel = target.toNat ∧ level t = level s ∧
      reg t R.PM_VCODE = BitVec.ofNat 32 (if s.mem.wiping then 52 else 4 + 16 * target.toNat) ∧
      (reg t R.PM_VCODE ≠ reg s R.PM_VCODE → bit t fVready = false) ∧ t.pwr.level = .raiseVolt ∧
      RegsBut [R.PM_STATUS, R.PM_VCODE, R.AO_STATUS, R.SPD_LIMIT_PS, R.SPD_STATUS, R.CDC_OVERRUN_EVENTS] s t)) ∧
  -- LEVEL_VREADY
  (∀ (s : State), Runs s → s.pwr.level = .lowerVolt →
    Answers (.levelVready) s (fun t =>
      bit t fChanging = false ∧ level t = getF s fTargetLevel ∧ bit t fVready = true ∧ bit t fVrdyFail = false ∧
      reg t R.PM_LEVEL_CHANGES = reg s R.PM_LEVEL_CHANGES + 1 ∧
      RegsBut [R.PM_STATUS, R.AO_STATUS, R.PM_LEVEL_CHANGES, R.SPD_LIMIT_PS, R.SPD_STATUS] s t ∧
      t = { s with regs := t.regs, pwr := { s.pwr with level := .idle }, out := [] })) ∧
  -- LEVEL_RIM_CHANGE_DONE
  (∀ (s : State), Runs s → s.disp.bar4 = [] → s.disp.held = [] → s.pwr.level = .lowerRim →
    Answers (.levelRimChangeDone) s (fun t =>
      t.pwr.level = .lowerVolt ∧ (reg t R.PM_VCODE ≠ reg s R.PM_VCODE → bit t fVready = false) ∧
      reg t R.PM_VCODE = BitVec.ofNat 32 (if s.mem.wiping then 52 else 4 + 16 * getF s fTargetLevel) ∧
      bit t fRateChanging = false ∧ RegsBut [R.PM_VCODE, R.AO_STATUS, R.MEM_STATUS, R.MEM_RATE_CHANGES] s t ∧
      t = { s with regs := t.regs, pwr := { s.pwr with level := .lowerVolt }, out := [] })) ∧
  -- LEVEL_VREADY_TIMEOUT
  (∀ (s : State), Runs s → s.pwr.level = .raiseVolt →
    Answers (.levelVreadyTimeout) s (fun t =>
      bit t fVrdyFail = true ∧ reg t R.PM_VRDY_FAILS = reg s R.PM_VRDY_FAILS + 1 ∧
      reg t R.PM_VCODE = BitVec.ofNat 32 (if s.mem.wiping then 52 else 4 + 16 * level s) ∧ level t = level s ∧
      (reg t R.PM_VCODE ≠ reg s R.PM_VCODE → bit t fVready = false) ∧ t.pwr.level = .restoreRaise)) ∧
  -- LEVEL_RIM_CHANGE_DONE
  (∀ (s : State), Runs s → s.disp.bar4 = [] → s.disp.held = [] → s.pwr.level = .wipeRim →
    Answers (.levelRimChangeDone) s (fun t =>
      t.pwr.level = .wipeVolt ∧ (reg t R.PM_VCODE ≠ reg s R.PM_VCODE → bit t fVready = false) ∧
      reg t R.PM_VCODE = BitVec.ofNat 32 (if s.mem.wiping then 52 else 4 + 16 * level s) ∧
      bit t fRateChanging = false ∧ RegsBut [R.PM_VCODE, R.AO_STATUS, R.MEM_STATUS, R.MEM_RATE_CHANGES] s t)) ∧
  -- LEVEL_VREADY
  (∀ (s : State), Runs s → s.pwr.level = .wipeVolt →
    Answers (.levelVready) s (fun t =>
      bit t fChanging = false ∧ level t = level s ∧ bit t fVready = true ∧ bit t fVrdyFail = false ∧
      t.pwr = { s.pwr with level := .idle })) ∧
  -- LEVEL_VREADY_TIMEOUT
  (∀ (s : State), Runs s → s.pwr.level = .wipeVolt →
    Answers (.levelVreadyTimeout) s (fun t =>
      bit t fVrdyFail = true ∧ reg t R.PM_VRDY_FAILS = reg s R.PM_VRDY_FAILS + 1 ∧ level t = level s ∧
      t.pwr = { s.pwr with level := .wipeRestore })) ∧
  -- SPEED_GAUGE_SAMPLE
  (∀ (cycle : BitVec 16) (s : State), Runs s → bit s fSlow = false → cycle.toNat ≤ (reg s R.SPD_LIMIT_PS).toNat →
    Answers (.speedGaugeSample cycle) s (fun t =>
      getF t ⟨R.SPD_CYCLE_PS, 0, 16⟩ = cycle.toNat ∧
      getF t ⟨R.SPD_CYCLE_PS, 16, 16⟩ = (getF s ⟨R.SPD_CYCLE_PS, 16, 16⟩ + 1) % 65536 ∧
      reg t R.SPD_CYCLE_MAX = BitVec.ofNat 32 (max cycle.toNat (reg s R.SPD_CYCLE_MAX).toNat) ∧
      reg t R.SPD_CYCLE_MIN = BitVec.ofNat 32 (min cycle.toNat (reg s R.SPD_CYCLE_MIN).toNat) ∧
      bit t ⟨R.SPD_STATUS, 5, 1⟩ = true ∧ bit t fSlow = false ∧
      RegsBut [R.SPD_CYCLE_PS, R.SPD_SAMPLES, R.SPD_SAMPLES + 4, R.SPD_STATUS, R.SPD_CYCLE_MAX, R.SPD_CYCLE_MIN] s t ∧
      OnlyRegs s t)) ∧
  -- PACE_GUARD_STEP
  (∀ (s : State), Runs s → bit s fPaceEn = true → bit s fSlow = true → getF s fPaced < 4 →
    Answers (.paceGuardStep) s (fun t =>
      getF t fPaced = getF s fPaced + 1 ∧ bit t fPacing = true ∧
      reg t R.SPD_PACE_STEPS = reg s R.SPD_PACE_STEPS + 1 ∧ RegsBut [R.SPD_STATUS, R.SPD_PACE_STEPS] s t)) ∧
  -- PACE_GUARD_DISABLE
  (∀ (s : State), Runs s →
    Answers (.paceGuardDisable) s (fun t =>
      bit t fPaceEn = false ∧ getF t fPaced = 0 ∧ bit t fPacing = false ∧ RegsBut [R.SPD_STATUS, R.SPD_PACE_GUARD] s t)) ∧
  -- SPD_EXTREME_READ
  (∀ (max : Bool) (s : State), Runs s →
    Answers (.spdExtremeRead max) s (fun t =>
      t.out = [.readData (reg s (if max then R.SPD_CYCLE_MAX else R.SPD_CYCLE_MIN))] ∧ (max = true →
      reg t R.SPD_CYCLE_MAX = 0) ∧ (max = false → reg t R.SPD_CYCLE_MIN = 0xFFFF) ∧
      RegsBut [if max then R.SPD_CYCLE_MAX else R.SPD_CYCLE_MIN] s t ∧ OnlyRegs s t))

/-- A failed attempt, a loss or FORCE_DOWN takes the link DOWN with its reason, under the conditions written out. The
model's own readings: log entries 33, 35. After: R51, R63, R67, R403, 03_veserlink_cable_link.md Table 3-12. -/
def Obligations.LinkLossCommandsComplete : Prop :=
  -- DETECT_TIMEOUT
  (∀ (n : Port) (s : State), Runs s → linkState s n = lsDetect →
    Answers (.detectTimeout n) s (fun t =>
      linkState t n = lsDown ∧ getF t (fLastReason n) = 1 ∧
      reg t (R.LINK_DOWN_EVENTS n) = reg s (R.LINK_DOWN_EVENTS n) + 1)) ∧
  -- TRAIN_TIMEOUT
  (∀ (n : Port) (s : State), Runs s → linkState s n = lsTrain →
    Answers (.trainTimeout n) s (fun t =>
      linkState t n = lsDown ∧ getF t (fLastReason n) = 5 ∧
      reg t (R.LINK_DOWN_EVENTS n) = reg s (R.LINK_DOWN_EVENTS n) + 1)) ∧
  -- LINK_LOSS
  (∀ (n : Port) (s : State), Runs s → linkState s n ≠ lsDown → linkState s n ≠ lsDetect →
    Answers (.linkLoss n) s (fun t =>
      linkState t n = lsDown ∧ getF t (fLastReason n) = 1 ∧
      reg t (R.LINK_DOWN_EVENTS n) = reg s (R.LINK_DOWN_EVENTS n) + 1)) ∧
  -- SIDEBAND_LOSS
  (∀ (n : Port) (s : State), Runs s → (linkState s n = lsUp ∨ linkState s n = lsLowpower) →
    Answers (.sidebandLoss n) s (fun t =>
      linkState t n = lsDown ∧ getF t (fLastReason n) = 1 ∧
      reg t (R.LINK_DOWN_EVENTS n) = reg s (R.LINK_DOWN_EVENTS n) + 1)) ∧
  -- RETRAIN_TIMEOUT
  (∀ (n : Port) (s : State), Runs s → linkState s n = lsRetrain →
    Answers (.retrainTimeout n) s (fun t =>
      linkState t n = lsDown ∧ getF t (fLastReason n) = 5 ∧
      reg t (R.LINK_DOWN_EVENTS n) = reg s (R.LINK_DOWN_EVENTS n) + 1)) ∧
  -- AUTH_FRAME_MISSING
  (∀ (n : Port) (s : State), Runs s → linkState s n = lsAuth → ¬ ((lGet s n).authOk ∧ (lGet s n).peerDone) →
    Answers (.authFrameMissing n) s (fun t =>
      linkState t n = lsDown ∧ getF t (fLastReason n) = 6 ∧
      reg t (R.LINK_DOWN_EVENTS n) = reg s (R.LINK_DOWN_EVENTS n) + 1)) ∧
  -- LINK_FORCE_DOWN
  (∀ (n : Port) (s : State), Runs s → linkState s n ≠ lsDown →
    Answers (.linkForceDown n) s (fun t =>
      linkState t n = lsDown ∧ getF t (fLastReason n) = 7 ∧
      reg t (R.LINK_DOWN_EVENTS n) = reg s (R.LINK_DOWN_EVENTS n) + 1))

/-- Training, retraining, low power, hold and retry commands complete under the conditions written out. The model's own
readings: log entries 33, 37, 39. After: R47, R48, R51, R52, R53, R54, R57, R68, R70. -/
def Obligations.LinkStateCommandsComplete : Prop :=
  -- TRAIN_LANES_LOCKED
  (∀ (n : Port) (mask : BitVec 4) (s : State), Runs s → linkState s n = lsTrain → ((n.val = 4 ∧
    mask.toNat % 2 = 1) ∨ (n.val ≠ 4 ∧ 2 ≤ popcount 4 mask.toNat)) →
    Answers (.trainLanesLocked n mask) s (fun t =>
      linkState t n = lsAuth ∧
      t = kept s (overbookCheck n (enterAuth n (trainedSplit n mask.toNat 0 (lanesLocked n mask.toNat (clearOut s))))))) ∧
  -- STORED_COEFF_LOCK_TIMEOUT
  (∀ (n : Port) (k : Fin 4) (s : State), Runs s → linkState s n = lsRetrain →
    (linkLanes n).contains k.val = true →
    Answers (.storedCoeffLockTimeout n k) s (fun t =>
      bit t (fLaneLock (lanePage n k)) = false ∧ getF t ⟨R.LANE_STATUS (lanePage n k), 6, 2⟩ = 0 ∧
      RegsBut [R.LANE_STATUS (lanePage n k)] s t ∧ t = { s with regs := t.regs, out := [] })) ∧
  -- RETRAIN_SUCCESS
  (∀ (n : Port) (mask : BitVec 4) (s : State), Runs s → linkState s n = lsRetrain → ((n.val = 4 ∧
    untested s n mask.toNat % 2 = 1) ∨ (n.val ≠ 4 ∧ 2 ≤ popcount 4 (untested s n mask.toNat))) →
    Answers (.retrainSuccess n mask) s (fun t =>
      linkState t n = lsUp ∧ (lGet t n).awaitGood = false ∧ (lGet t n).replay = (lGet s n).replay ∧
      (lGet t n).ctlOut = (lGet s n).ctlOut ++ [roleCell s n] ∧
      reg t (R.LINK_REPLAYED_BLOCKS n) = reg s (R.LINK_REPLAYED_BLOCKS n) + (if txIdle s n then 0 else BitVec.ofNat 32 (lGet s n).replay.length))) ∧
  -- LP_IDLE_TIMER
  (∀ (n : Port) (s : State), Runs s → lpIdle s n = true → (lGet s n).lpAsked = false →
    Answers (.lpIdleTimer n) s (fun t =>
      t = lSet n { lGet s n with lpAsked := true, sbOut := (lGet s n).sbOut ++ [(0x10, [])] } { s with out := [] })) ∧
  -- LOWPOWER_EXIT
  (∀ (n : Port) (own : Bool) (s : State), Runs s → linkState s n = lsLowpower →
    Answers (.lowpowerExit ⟨n, own⟩) s (fun t =>
      linkState t n = lsUp ∧ (lGet t n).ctlOut = (lGet s n).ctlOut ++ [roleCell s n] ∧ t.out = (if own = true ∧
      txIdle s n = false then [.lpExit n] else []) ∧ RegsBut [R.LINK_STATUS n, R.DEV_MODE] s t ∧
      t = { s with regs := t.regs, link := t.link, out := t.out })) ∧
  -- HOLD_EXPIRY
  (∀ (n : Port) (s : State), Runs s → holdRuns s n = true →
    Answers (.holdExpiry n) s (fun t =>
      t = kept s (holdExpires n (clearOut s)))) ∧
  -- RETRY_EXPIRY
  (∀ (n : Port) (s : State), Runs s → linkState s n = lsDown → (lGet s n).retrying = true →
    ((lGet s n).veser = true ∨ n.val = 4) → (s.pair.fenced = false ∨ n.val = 4) → (lGet s n).testHold = false →
    s.pwr.entry < 3 → bit s ⟨R.LINK_CTRL n, 0, 1⟩ = true → bit s (fForceDown n) = false →
    Answers (.retryExpiry n) s (fun t =>
      linkState t n = lsDetect ∧ (lGet t n).retrying = false ∧ (lGet t n).sawTrain = false ∧
      bit t ⟨R.LINK_HOLD_STATUS n, 1, 1⟩ = false ∧ RegsBut [R.LINK_STATUS n, R.LINK_HOLD_STATUS n] s t ∧
      t = { s with regs := t.regs, link := t.link, out := [] })) ∧
  -- ROLE_CELL_TIMER
  (∀ (n : Port) (s : State), Runs s → (linkState s n = lsUp ∨ linkState s n = lsLowpower) →
    Answers (.roleCellTimer n) s (fun t =>
      t = lSet n { lGet s n with ctlOut := (lGet s n).ctlOut ++ [roleCell s n] } { s with out := [] })) ∧
  -- FEC_RATE_INTERVAL
  (∀ (n : Port) (s : State), Runs s →
    ((linkLanes n).map (fun k => cnt64 s (R.LANE_FEC_UNCORR_CW (lanePage n k)))).sum ≤ (lGet s n).fecSeen + getF s ⟨R.LINK_FEC_THRESH n, 0, 16⟩ →
    Answers (.fecRateInterval n) s (fun t =>
      t = lSet n { lGet s n with fecSeen := ((linkLanes n).map (fun k => cnt64 s (R.LANE_FEC_UNCORR_CW (lanePage n k)))).sum } { s with out := [] })) ∧
  -- FEC_RATE_INTERVAL
  (∀ (n : Port) (s : State), Runs s →
    (lGet s n).fecSeen + getF s ⟨R.LINK_FEC_THRESH n, 0, 16⟩ < ((linkLanes n).map (fun k => cnt64 s (R.LANE_FEC_UNCORR_CW (lanePage n k)))).sum →
    Answers (.fecRateInterval n) s (fun t =>
      (lGet t n).fecSeen = ((linkLanes n).map (fun k => cnt64 s (R.LANE_FEC_UNCORR_CW (lanePage n k)))).sum ∧
      t.link = (lSet n { lGet s n with fecSeen := ((linkLanes n).map (fun k => cnt64 s (R.LANE_FEC_UNCORR_CW (lanePage n k)))).sum } s).link ∧
      OnlyRaised (5 * n + 1) ((free s).toNat % 65536) { s with link := t.link, freeIdx := s.freeIdx + 1 } t ∧
      RegsBut [R.CDC_OVERRUN_EVENTS] s t))

/-- Blocks, acknowledgements and link-control cells that arrive are taken, under the conditions written out. The model's own
readings: log entries 34, 35, 100. After: R54, R55, R56, R57, R58, R406. -/
def Obligations.BlockCommandsComplete : Prop :=
  -- LINK_BLOCK_RECEIVED
  (∀ (n : Port) (turned : Bool) (data : List Byte) (trailer : BitVec 64) (s : State), Runs s →
    linkState s n = lsUp → (turned = false ∨ (lGet s n).splitStep ≠ .turning) →
    Answers (.linkBlockReceived n false turned data trailer) s (fun t =>
      (lGet t n).awaitGood = true ∧ (lGet t n).rxE = (lGet s n).rxE ∧
      (lGet t n).ctlOut = (if (lGet s n).awaitGood then (lGet s n).ctlOut else (lGet s n).ctlOut ++ [[0x02] ++ bytesBE 2 (lGet s n).rxE]) ∧
      reg t (R.LINK_NAK_TX n) = (if (lGet s n).awaitGood then reg s (R.LINK_NAK_TX n) else reg s (R.LINK_NAK_TX n) + 1) ∧
      RegsBut [R.LINK_NAK_TX n] s t ∧ t = { s with regs := t.regs, link := t.link, out := [] })) ∧
  -- LINK_BLOCK_RECEIVED
  (∀ (n : Port) (turned : Bool) (data : List Byte) (trailer : BitVec 64) (s : State), Runs s →
    linkState s n = lsUp → (turned = false ∨ (lGet s n).splitStep ≠ .turning) →
    blockCrc (padTo 512 data) (trailer.toNat / 2 ^ 32) = trailer.setWidth 32 → (lGet s n).rxE < 4096 →
    bits trailer.toNat 52 12 = (lGet s n).rxE → ((bit s (fCipher n) = true →
    bits trailer.toNat 51 1 = generation (lGet s n).rxBlocks % 2)) →
    Answers (.linkBlockReceived n true turned data trailer) s (fun t =>
      linkState t n = lsUp ∧ (lGet t n).rxE = ((lGet s n).rxE + 1) % 4096 ∧ (lGet t n).awaitGood = false ∧
      (lGet t n).rxBlocks = (lGet s n).rxBlocks + 1 ∧
      (lGet t n).rxSinceAck = (if 7 ≤ (lGet s n).rxSinceAck then 0 else (lGet s n).rxSinceAck + 1))) ∧
  -- NAK_RECEIVED
  (∀ (n : Port) (lseq : BitVec 12) (s : State), Runs s → linkState s n = lsUp → dataStands s n = false →
    ((lGet s n).nakCount < 8 ∨ (lGet s n).nakSeq ≠ lseq.toNat) →
    Answers (.nakReceived n lseq) s (fun t =>
      (lGet t n).nakSeq = lseq.toNat ∧ (lGet t n).replay = (lGet s n).replay ∧
      reg t (R.LINK_NAK_RX n) = reg s (R.LINK_NAK_RX n) + 1 ∧
      reg t (R.LINK_REPLAYED_BLOCKS n) = reg s (R.LINK_REPLAYED_BLOCKS n) + (if txIdle s n then 0 else BitVec.ofNat 32 ((lGet s n).replay.dropWhile (fun x => x.lseq != lseq.toNat)).length) ∧
      t.out = (if txIdle s n then [] else (forAll ((lGet s n).replay.dropWhile (fun x => x.lseq != lseq.toNat)) (wire n) (clearOut s)).out) ∧
      RegsBut [R.LINK_NAK_RX n, R.LINK_REPLAYED_BLOCKS n] s t ∧
      t = { s with regs := t.regs, link := t.link, out := t.out })) ∧
  -- ACK_RECEIVED
  (∀ (n : Port) (lseq : BitVec 12) (k : Nat) (s : State), Runs s → (lGet s n).splitStep ≠ .ending →
    (lGet s n).replay.findIdx? (fun x => x.lseq == lseq.toNat) = some k →
    Answers (.ackReceived n lseq) s (fun t =>
      t = lSet n { lGet s n with replay := (lGet s n).replay.drop (k + 1), ackExpiries := 0, nakCount := 0 } { s with out := [] })) ∧
  -- ACK_SEND_TIMER
  (∀ (n : Port) (s : State), Runs s → linkState s n = lsUp → (lGet s n).rxSinceAck ≠ 0 →
    Answers (.ackSendTimer n) s (fun t =>
      t = lSet n { lGet s n with rxSinceAck := 0, ctlOut := (lGet s n).ctlOut ++ [[0x01] ++ bytesBE 2 (((lGet s n).rxE + 4095) % 4096)] } { s with out := [] })) ∧
  -- ACK_TIMEOUT
  (∀ (n : Port) (s : State), Runs s → linkState s n = lsUp → dataStands s n = false → (lGet s n).replay ≠ [] →
    (lGet s n).ackExpiries < 3 →
    Answers (.ackTimeout n) s (fun t =>
      (lGet t n).ackExpiries = (lGet s n).ackExpiries + 1 ∧ (lGet t n).replay = (lGet s n).replay ∧
      reg t (R.LINK_ACK_TIMEOUTS n) = reg s (R.LINK_ACK_TIMEOUTS n) + 1 ∧
      reg t (R.LINK_REPLAYED_BLOCKS n) = reg s (R.LINK_REPLAYED_BLOCKS n) + (if txIdle s n then 0 else BitVec.ofNat 32 (lGet s n).replay.length) ∧
      t.out = (if txIdle s n then [] else (forAll (lGet s n).replay (wire n) (clearOut s)).out) ∧
      RegsBut [R.LINK_ACK_TIMEOUTS n, R.LINK_REPLAYED_BLOCKS n] s t ∧
      t = { s with regs := t.regs, link := t.link, out := t.out })) ∧
  -- ROLE_CELL_RECEIVED
  (∀ (n : Port) (role : BitVec 8) (epoch : Word) (s : State), Runs s → linkState s n = lsUp → n.val ≠ 4 →
    bit s fDockEn = false →
    Answers (.roleCellReceived n role epoch) s (fun t =>
      reg t (R.LINK_PARTNER_EPOCH n) = epoch ∧ getF t ⟨R.LINK_PARTNER_ROLE n, 0, 3⟩ = role.toNat % 8 ∧
      bit t ⟨R.LINK_PARTNER_ROLE n, 8, 1⟩ = true ∧ RegsBut [R.LINK_PARTNER_ROLE n, R.LINK_PARTNER_EPOCH n] s t ∧
      OnlyRegs s t ∧ t.out = [])) ∧
  -- CRD_RESYNC_RECEIVED
  (∀ (n : Port) (counts : Vector (BitVec 16) 8) (s : State), Runs s → linkState s n = lsUp →
    (∀ c ∈ List.range 8, (counts.toList.getD c 0).toNat ≤ 4095) →
    Answers (.crdResyncReceived n counts) s (fun t =>
      (∀ c ∈ List.range 8, natGet (lGet t n).txCredit c = (counts.toList.getD c 0).toNat) ∧
      t = lSet n { lGet s n with txCredit := (lGet t n).txCredit } { s with out := [] })) ∧
  -- CTAG_RECEIVED
  (∀ (n : Port) (seg : BitVec 64) (tag : List Byte) (s : State), Runs s → linkState s n = lsUp →
    bit s (fCipher n) = true → (lGet s n).tagWait = some (seg.toNat, tag) →
    Answers (.ctagReceived n seg tag) s (fun t =>
      t = lSet n { lGet s n with tagWait := none } { s with out := [] })) ∧
  -- CTAG_DEADLINE
  (∀ (n : Port) (w : Nat) (tag : List Byte) (s : State), Runs s → linkState s n = lsUp →
    (lGet s n).tagWait = some (w, tag) → 64 * w + 66 ≤ (lGet s n).rxBlocks → w % 2 ^ 23 ≠ 0 →
    Answers (.ctagDeadline n) s (fun t =>
      linkState t n = lsDown ∧ getF t (fLastReason n) = 6 ∧
      reg t (R.LINK_DOWN_EVENTS n) = reg s (R.LINK_DOWN_EVENTS n) + 1))

/-- A re-allotment is requested, answered, turned and completed, under the conditions written out. The model's own readings:
log entries 36, 100. After: R60, R61, R62, 03_veserlink_cable_link.md Table 3-6, 03_veserlink_cable_link.md Table 3-7. -/
def Obligations.SplitCommandsComplete : Prop :=
  -- SPLIT_REQUEST
  (∀ (n : Port) (target : BitVec 3) (s : State), Runs s → n.val ≠ 4 → linkState s n = lsUp →
    bit s (fSplitting n) = false → splitIllegal s n target.toNat = false →
    Answers (.splitRequest n target) s (fun t =>
      bit t (fSplitting n) = true ∧ (lGet t n).splitStep = .requested ∧ (lGet t n).splitOwn = true ∧
      (lGet t n).splitTarget = target.toNat ∧
      (lGet t n).sbOut = (lGet s n).sbOut ++ [(0x08, [BitVec.ofNat 8 target.toNat])] ∧
      RegsBut [R.LINK_STATUS n] s t ∧ t = { s with regs := t.regs, link := t.link, out := [] })) ∧
  -- SB_SPLIT_REQ_RECEIVED
  (∀ (n : Port) (target : BitVec 8) (s : State), Runs s → n.val ≠ 4 → linkState s n = lsUp →
    (lGet s n).splitStep = .idle → bit s (fSplitting n) = false → splitIllegal s n target.toNat = false →
    bit s ⟨R.LINK_CTRL n, 3, 1⟩ = true →
    Answers (.sbSplitReqReceived n target) s (fun t =>
      bit t (fSplitting n) = true ∧ (lGet t n).splitStep = .requested ∧ (lGet t n).splitOwn = false ∧
      (lGet t n).splitTarget = target.toNat ∧
      (lGet t n).sbOut = (lGet s n).sbOut.filter (fun f => f.1 != 0x08) ++ [(0x09, [target])] ∧
      RegsBut [R.LINK_STATUS n] s t ∧ t = { s with regs := t.regs, link := t.link, out := [] })) ∧
  -- SB_SPLIT_ACK_RECEIVED
  (∀ (n : Port) (target : BitVec 8) (s : State), Runs s → linkState s n = lsUp →
    (lGet s n).splitStep = .requested → (lGet s n).splitOwn = true → (lGet s n).splitTarget = target.toNat →
    losesLane s n = false →
    Answers (.sbSplitAckReceived n target) s (fun t =>
      t = lSet n { lGet s n with splitStep := .acked, splitStart := s.ticks } { s with out := [] })) ∧
  -- SB_SPLIT_NAK_RECEIVED
  (∀ (n : Port) (target reason : BitVec 8) (s : State), Runs s → (lGet s n).splitStep = .requested →
    (lGet s n).splitOwn = true →
    Answers (.sbSplitNakReceived n target reason) s (fun t =>
      (lGet t n).splitStep = .idle ∧ (lGet t n).splitOwn = false ∧ bit t (fSplitting n) = false ∧
      getF t (fSplitResult n) = 3 ∧ RegsBut [R.LINK_STATUS n, R.LINK_SPLIT_STATUS n] s t ∧
      t = { s with regs := t.regs, link := t.link, out := [] })) ∧
  -- TURN_BLOCK_RECEIVED
  (∀ (n : Port) (data : List Byte) (trailer : BitVec 64) (s : State), Runs s → linkState s n = lsUp →
    (lGet s n).splitStep = .acked → blockCrc (padTo 512 data) (trailer.toNat / 2 ^ 32) = trailer.setWidth 32 →
    (lGet s n).rxE < 4096 → bits trailer.toNat 52 12 = (lGet s n).rxE → bits trailer.toNat 48 3 = 1 →
    ((bit s (fCipher n) = true → bits trailer.toNat 51 1 = generation (lGet s n).rxBlocks % 2)) →
    Answers (.turnBlockReceived ⟨n, true, data, trailer⟩) s (fun t =>
      linkState t n = lsUp ∧ (lGet t n).splitStep = .turning ∧ (lGet t n).splitTarget = (lGet s n).splitTarget ∧
      (lGet t n).rxE = ((lGet s n).rxE + 1) % 4096)) ∧
  -- TURNED_LANES_LOCKED
  (∀ (n : Port) (s : State), Runs s → linkState s n = lsUp → (lGet s n).splitStep = .turning →
    losesLane s n = true →
    Answers (.turnedLanesLocked n) s (fun t =>
      (lGet t n).splitStep = .idle ∧
      (lGet t n).ctlOut = (lGet s n).ctlOut ++ [[0x05, BitVec.ofNat 8 (lGet s n).splitTarget]] ∧
      bit t (fSplitting n) = false)) ∧
  -- TURN_DONE_RECEIVED
  (∀ (n : Port) (split : BitVec 8) (s : State), Runs s → linkState s n = lsUp → (lGet s n).splitStep = .turning →
    (lGet s n).splitTarget = split.toNat →
    Answers (.turnDoneReceived n split) s (fun t =>
      (lGet t n).splitStep = .idle ∧ (lGet t n).splitOwn = false ∧ t = kept s (splitDone n (clearOut s)))) ∧
  -- TURN_LOCK_TIMEOUT
  (∀ (n : Port) (s : State), Runs s → linkState s n = lsUp → ((lGet s n).splitStep = .turning ∨
    (lGet s n).splitStep = .acked ∨ (lGet s n).splitStep = .ending) →
    Answers (.turnLockTimeout n) s (fun t =>
      linkState t n = lsRetrain ∧ getF t (fLastReason n) = 5 ∧ (lGet t n).splitStep = .idle ∧
      (lGet t n).splitOwn = false ∧ reg t (R.LINK_RETRAINS n) = reg s (R.LINK_RETRAINS n) + 1 ∧
      bit t (fSplitting n) = false))

/-- Sideband frames are sent in their slot and taken, under the conditions written out. The model's own readings: log
entries 33, 37, 39. After: R49, R53, R63, R64, R65, R403, 03_veserlink_cable_link.md Table 3-19. -/
def Obligations.SidebandCommandsComplete : Prop :=
  -- SIDEBAND_SLOT
  (∀ (n : Port) (phase : Fin 3) (ffe : Option (Fin 4 × BitVec 10)) (type : Nat) (p : List Byte) (rest : List (Nat × List Byte)) (s : State), Runs s →
    ((lGet s n).veser = true ∨ n.val = 4) → (lGet s n).sbOut = (type, p) :: rest → type ≠ 0x09 → type ≠ 0x11 →
    type ≠ 0x42 →
    Answers (.sidebandSlot n ⟨phase, ffe⟩) s (fun t =>
      t = lSet n { lGet s n with sbOut := rest } { s with out := [.sideband n (sbFrame type p)] })) ∧
  -- SB_IDLE_RECEIVED
  (∀ (n : Port) (s : State), Runs s → linkState s n = lsDetect →
    Answers (.sbIdleReceived n) s (fun t =>
      linkState t n = lsTrain ∧ (lGet t n).trainBad = 0 ∧ RegsBut [R.LINK_STATUS n] s t ∧
      t = { s with regs := t.regs, link := t.link, out := [] })) ∧
  -- SB_TRAIN_STATE_RECEIVED
  (∀ (n : Port) (phase locked stored : Byte) (s : State), Runs s → linkState s n = lsTrain → phase ≠ 0 →
    phase.toNat ≤ 3 → locked.toNat ≤ 15 → stored.toNat ≤ 15 →
    Answers (.sbTrainStateReceived n phase locked stored) s (fun t =>
      t = lSet n { lGet s n with trainBad := 0, sawTrain := true } { s with out := [] })) ∧
  -- SB_FFE_REQ_RECEIVED
  (∀ (n : Port) (lane codes0 codes1 : Byte) (s : State), Runs s → linkState s n = lsTrain →
    (linkLanes n).contains lane.toNat = true →
    tapsOk (tapsAsked (tapsOf (reg s (R.LANE_FFE (lanePage n lane.toNat))).toNat) codes0 codes1) = true →
    bit s ⟨R.LANE_CTRL (lanePage n lane.toNat), 0, 1⟩ = false →
    Answers (.sbFfeReqReceived n lane codes0 codes1) s (fun t =>
      reg t (R.LANE_FFE (lanePage n lane.toNat)) = BitVec.ofNat 32 (tapsWord (tapsAsked (tapsOf (reg s (R.LANE_FFE (lanePage n lane.toNat))).toNat) codes0 codes1)) ∧
      (lGet t n).sbOut = (lGet s n).sbOut ++ [(0x03, [lane, 0] ++ (tapsAsked (tapsOf (reg s (R.LANE_FFE (lanePage n lane.toNat))).toNat) codes0 codes1).map (fun c => BitVec.ofInt 8 c))] ∧
      RegsBut [R.LANE_FFE (lanePage n lane.toNat)] s t ∧ t = { s with regs := t.regs, link := t.link, out := [] })) ∧
  -- SB_FFE_REQ_RECEIVED
  (∀ (n : Port) (lane codes0 codes1 : Byte) (s : State), Runs s → linkState s n = lsTrain →
    (linkLanes n).contains lane.toNat = true →
    (tapsOk (tapsAsked (tapsOf (reg s (R.LANE_FFE (lanePage n lane.toNat))).toNat) codes0 codes1) = false ∨
    bit s ⟨R.LANE_CTRL (lanePage n lane.toNat), 0, 1⟩ = true) →
    Answers (.sbFfeReqReceived n lane codes0 codes1) s (fun t =>
      reg t (R.LANE_FFE (lanePage n lane.toNat)) = BitVec.ofNat 32 (tapsWord (tapsOf (reg s (R.LANE_FFE (lanePage n lane.toNat))).toNat)) ∧
      (lGet t n).sbOut = (lGet s n).sbOut ++ [(0x03, [lane, if tapsOk (tapsAsked (tapsOf (reg s (R.LANE_FFE (lanePage n lane.toNat))).toNat) codes0 codes1) then 0 else 1] ++ (tapsOf (reg s (R.LANE_FFE (lanePage n lane.toNat))).toNat).map (fun c => BitVec.ofInt 8 c))] ∧
      RegsBut [R.LANE_FFE (lanePage n lane.toNat)] s t ∧ t = { s with regs := t.regs, link := t.link, out := [] })) ∧
  -- SB_FFE_STATUS_RECEIVED
  (∀ (n : Port) (payload : Vector Byte 7) (s : State), Runs s → linkState s n ≠ lsDetect →
    Answers (.sbFfeStatusReceived n payload) s (fun t =>
      t = lSet n { lGet s n with ffePeer := payload.toList } { s with out := [] })) ∧
  -- SB_LP_REQ_RECEIVED
  (∀ (n : Port) (s : State), Runs s → linkState s n = lsUp →
    Answers (.sbLpReqReceived n) s (fun t =>
      t = lSet n { lGet s n with sbOut := (lGet s n).sbOut ++ [(if lpIdle s n then 0x11 else 0x12, [])] } { s with out := [] })) ∧
  -- SB_LP_ACK_RECEIVED
  (∀ (n : Port) (s : State), Runs s → lpIdle s n = true → (lGet s n).lpAsked = true →
    Answers (.sbLpAckReceived n) s (fun t =>
      linkState t n = lsLowpower ∧ (lGet t n).lpAsked = false ∧
      reg t (R.LINK_LP_ENTRIES n) = reg s (R.LINK_LP_ENTRIES n) + 1 ∧
      RegsBut [R.LINK_STATUS n, R.LINK_LP_ENTRIES n, R.DEV_MODE] s t ∧
      t = { s with regs := t.regs, link := t.link, out := [] })) ∧
  -- SB_LP_NAK_RECEIVED
  (∀ (n : Port) (s : State), Runs s →
    Answers (.sbLpNakReceived n) s (fun t =>
      t = lSet n { lGet s n with lpAsked := false } { s with out := [] })) ∧
  -- SB_WAKE_RECEIVED
  (∀ (n : Port) (s : State), Runs s → linkState s n = lsDetect →
    Answers (.sbWakeReceived n) s (fun t =>
      linkState t n = lsTrain ∧ RegsBut [R.LINK_STATUS n] s t ∧
      t = { s with regs := t.regs, link := t.link, out := [] })) ∧
  -- SB_WAKE_RECEIVED
  (∀ (n : Port) (s : State), Runs s → linkState s n = lsDown → (lGet s n).retrying = true →
    ((lGet s n).veser = true ∨ n.val = 4) → (s.pair.fenced = false ∨ n.val = 4) → (lGet s n).testHold = false →
    s.pwr.entry < 3 → bit s ⟨R.LINK_CTRL n, 0, 1⟩ = true → bit s (fForceDown n) = false →
    Answers (.sbWakeReceived n) s (fun t =>
      linkState t n = lsDetect ∧ (lGet t n).retrying = false ∧ (lGet t n).sawTrain = false ∧
      bit t ⟨R.LINK_HOLD_STATUS n, 1, 1⟩ = false ∧ RegsBut [R.LINK_STATUS n, R.LINK_HOLD_STATUS n] s t ∧
      t = { s with regs := t.regs, link := t.link, out := [] })) ∧
  -- SB_DOWN_REASON_RECEIVED
  (∀ (n : Port) (reason : Byte) (s : State), Runs s → linkState s n ≠ lsDown → linkState s n ≠ lsDetect →
    Answers (.sbDownReasonReceived n reason) s (fun t =>
      linkState t n = lsDown ∧ getF t (fLastReason n) = 8 ∧
      reg t (R.LINK_DOWN_EVENTS n) = reg s (R.LINK_DOWN_EVENTS n) + 1)) ∧
  -- SB_BAD_FRAME_RECEIVED
  (∀ (n : Port) (frame : List Byte) (s : State), Runs s → sbParse frame = none →
    Answers (.sbBadFrameReceived ⟨n, frame⟩) s (fun t =>
      reg t (R.LINK_SB_BAD n) = reg s (R.LINK_SB_BAD n) + 1 ∧ RegsBut [R.LINK_SB_BAD n] s t ∧ OnlyRegs s t ∧
      t.out = [])) ∧
  -- SB_BAD_FRAME_RECEIVED
  (∀ (n : Port) (frame p : List Byte) (type : Nat) (s : State), Runs s → sbParse frame = some (type, p) →
    Answers (.sbBadFrameReceived ⟨n, frame⟩) s (fun t =>
      t = kept s (sbReceive n type p (clearOut s))))

/-- AUTH frames are gathered, and lane pages freeze, take coefficients, test and count, under the conditions written out.
The model's own readings: log entries 37, 38. After: R50, R74, R75, R403, 17_lifecycle_and_keys.md Table 17-9. -/
def Obligations.AuthAndLaneCommandsComplete : Prop :=
  -- SB_AUTH_HELLO_RECEIVED
  (∀ (n : Port) (body : List Byte) (s : State), Runs s → linkState s n = lsAuth → body.length = 9 →
    (lGet s n).peerId ≠ [] → (lGet s n).helloSeen = 0 →
    Answers (.sbAuthHelloReceived n 0 body) s (fun t =>
      (lGet t n).peerId = body.take 8 ∧ (lGet t n).peerNonce = splice (lGet s n).peerNonce 0 (body.drop 8) ∧
      (lGet t n).helloSeen = 1 ∧ t = { s with link := t.link, out := [] })) ∧
  -- SB_AUTH_PROOF_RECEIVED
  (∀ (n : Port) (body : List Byte) (s : State), Runs s → linkState s n = lsAuth → body.length = 8 →
    (lGet s n).helloSeen = 7 → (lGet s n).proofSeen = 0 →
    Answers (.sbAuthProofReceived n 1 body) s (fun t =>
      t = lSet n { lGet s n with peerProof := splice (lGet s n).peerProof 8 body, proofSeen := 2 } { s with out := [] })) ∧
  -- SB_AUTH_DONE_RECEIVED
  (∀ (n : Port) (s : State), Runs s → linkState s n = lsAuth → mode s = mCold →
    Answers (.sbAuthDoneReceived n 0) s (fun t =>
      t = lSet n { lGet s n with peerDone := true } { s with out := [] })) ∧
  -- SB_AUTH_DONE_RECEIVED
  (∀ (n : Port) (s : State), Runs s → linkState s n = lsAuth → (lGet s n).authOk = true →
    (lGet s n).sbOut.any (fun f => f.1 == 0x42) = false → mode s ≠ mCold → bit s (fForceDown n) = false →
    testBars s n = false →
    Answers (.sbAuthDoneReceived n 0) s (fun t =>
      linkState t n = lsUp ∧ t = kept s (goUp n (lSet n { lGet s n with peerDone := true } (clearOut s))))) ∧
  -- SB_AUTH_DONE_RECEIVED
  (∀ (n : Port) (kind : Byte) (s : State), Runs s → linkState s n = lsAuth → kind ≠ 0 →
    Answers (.sbAuthDoneReceived n kind) s (fun t =>
      linkState t n = lsDown ∧ getF t (fLastReason n) = 6 ∧
      reg t (R.LINK_DOWN_EVENTS n) = reg s (R.LINK_DOWN_EVENTS n) + 1)) ∧
  -- LANE_FREEZE_WRITE
  (∀ (p : Fin 28) (k : Fin 4) (freeze : Bool) (s : State), Runs s → k.val < pageLanes p →
    Answers (.laneFreezeWrite p k freeze) s (fun t =>
      bit t ⟨laneKey (R.LANE_CTRL p) p k, 0, 1⟩ = freeze ∧ RegsBut [laneKey (R.LANE_CTRL p) p k] s t ∧ OnlyRegs s t ∧
      t.out = [])) ∧
  -- LANE_COEFF_WRITE
  (∀ (p : Fin 28) (k : Fin 4) (v : Word) (s : State), Runs s → k.val < pageLanes p →
    bit s ⟨laneKey (R.LANE_CTRL p) p k, 0, 1⟩ = true → tapsOk (tapsOf (v &&& 0x3FFFFFFF).toNat) = true →
    Answers (.laneCoeffWrite p k 0 v) s (fun t =>
      reg t (laneKey (R.LANE_FFE p) p k) = v &&& 0x3FFFFFFF ∧ RegsBut [laneKey (R.LANE_FFE p) p k] s t ∧
      OnlyRegs s t ∧ t.out = [])) ∧
  -- LANE_COEFF_WRITE
  (∀ (p : Fin 28) (k : Fin 4) (v : Word) (s : State), Runs s → k.val < pageLanes p →
    bit s ⟨laneKey (R.LANE_CTRL p) p k, 0, 1⟩ = true →
    Answers (.laneCoeffWrite p k 1 v) s (fun t =>
      reg t (laneKey (R.LANE_CTLE p) p k) = v &&& 0xFF ∧ RegsBut [laneKey (R.LANE_CTLE p) p k] s t ∧ OnlyRegs s t ∧
      t.out = [])) ∧
  -- LANE_COEFF_WRITE
  (∀ (p : Fin 28) (k : Fin 4) (i : Fin 5) (v : Word) (s : State), Runs s → k.val < pageLanes p → 2 ≤ i.val →
    bit s ⟨laneKey (R.LANE_CTRL p) p k, 0, 1⟩ = true →
    Answers (.laneCoeffWrite p k i v) s (fun t =>
      reg t (laneKey (R.LANE_DFE p (i.val - 2)) p k) = v ∧ RegsBut [laneKey (R.LANE_DFE p (i.val - 2)) p k] s t ∧
      OnlyRegs s t ∧ t.out = [])) ∧
  -- LANE_TEST_ENABLE
  (∀ (p : Fin 28) (k : Fin 4) (v : Word) (s : State), Runs s → k.val < pageLanes p → mode s = mCold →
    testPermitted s p = true →
    Answers (.laneTestEnable p k true v) s (fun t =>
      getF t ⟨laneKey (R.LANE_PRBS_CTRL p) p k, 0, 6⟩ = v.toNat % 64 ∧
      RegsBut [laneKey (R.LANE_PRBS_CTRL p) p k] s t ∧ OnlyRegs s t ∧ t.out = [])) ∧
  -- PRBS_INJECT
  (∀ (p : Fin 28) (k : Fin 4) (s : State), Runs s → k.val < pageLanes p → mode s = mCold →
    testPermitted s p = true →
    Answers (.prbsInject p k) s (fun t =>
      t.out = [.invertBit p k] ∧ RegsBut [laneKey (R.LANE_PRBS_CTRL p) p k] s t ∧
      getF t ⟨laneKey (R.LANE_PRBS_CTRL p) p k, 0, 6⟩ = getF s ⟨laneKey (R.LANE_PRBS_CTRL p) p k, 0, 6⟩ ∧ OnlyRegs s t)) ∧
  -- BER_ESTIMATE_UPDATE
  (∀ (p : Fin 28) (k : Fin 4) (cw corr uncorr : BitVec 32) (n errors : BitVec 64) (lock : Bool) (s : State), Runs s →
    p.val < 17 → k.val < pageLanes p →
    Answers (.berEstimateUpdate p k ⟨cw, corr, uncorr⟩ ⟨n, errors, lock⟩) s (fun t =>
      reg t (R.LANE_BER_EST p) = BitVec.ofNat 32 ((berOf corr.toNat (cw.toNat * 5440)).1 + (berOf corr.toNat (cw.toNat * 5440)).2 * 256) ∧
      bit t ⟨laneKey (R.LANE_STATUS p) p k, 3, 1⟩ = (lock && bit s ⟨laneKey (R.LANE_PRBS_CTRL p) p k, 5, 1⟩) ∧
      OnlyRegs s t ∧ t.out = [])) ∧
  -- BER_ESTIMATE_UPDATE
  (∀ (p : Fin 28) (k : Fin 4) (cw corr uncorr : BitVec 32) (n errors : BitVec 64) (lock : Bool) (s : State), Runs s →
    17 ≤ p.val → k.val < pageLanes p → bit s ⟨laneKey (R.LANE_PRBS_CTRL p) p k, 5, 1⟩ = true →
    Answers (.berEstimateUpdate p k ⟨cw, corr, uncorr⟩ ⟨n, errors, lock⟩) s (fun t =>
      cnt64 t (laneKey (R.LANE_PRBS_BITS p) p k) = (cnt64 s (laneKey (R.LANE_PRBS_BITS p) p k) + n.toNat) % 2 ^ 64 ∧
      bit t ⟨laneKey (R.LANE_STATUS p) p k, 3, 1⟩ = lock ∧ OnlyRegs s t ∧ t.out = []))

/-- Arriving cells and frames join the Truss, wait, fill and are swept, under the conditions written out. The model's own
readings: log entries 40, 41, 102. After: R77, R84, R90, R91, R98, R102, R105, R115, R117. -/
def Obligations.CellCommandsComplete : Prop :=
  -- TUNNEL_CELL_ARRIVAL
  (∀ (n : Port) (h : BitVec 64) (payload : List Byte) (m i : Nat) (e : Entry) (u : State) (s : State), Runs s →
    carries s n = true → linkState s n = lsUp → 3 ≤ bits h.toNat 56 8 →
    natGet (lGet s n).rxCredit (bits h.toNat 43 3) ≠ 0 → headerCrc h = h.setWidth 8 → formatOk h = true →
    arrivalMort s n = some m → lookup s m (bits h.toNat 56 8) (h.getLsbD 42) = some (i, e) →
    (tGet s i).halted = false → forwards s i = true → (bqGet s n).words = [] → (bqGet s n).flush = false →
    s.pair.frozen = false →
    u = packetIn n (returnCredit n (bits h.toNat 43 3) (bqSet n { words := [], left := (bqGet s n).left - 1 } (pushCell n h payload (clearOut s)))) →
    Answers (.tunnelCellArrival n h ⟨payload, false⟩) s (fun t =>
      t = kept s (takeCell i e n 0 (cellOf h (padTo 56 payload)) u).2)) ∧
  -- TUNNEL_CELL_ARRIVAL
  (∀ (n : Port) (h : BitVec 64) (payload : List Byte) (s : State), Runs s → rimRuns s n = true →
    linkState s n = lsUp → 3 ≤ bits h.toNat 56 8 → natGet (lGet s n).rxCredit (bits h.toNat 43 3) ≠ 0 →
    (bqGet s n).words.length < 32 →
    Answers (.tunnelCellArrival n h ⟨payload, true⟩) s (fun t =>
      (bqGet t n).words = (bqGet s n).words ++ [cellWord h payload] ∧
      natGet (lGet t n).rxCredit (bits h.toNat 43 3) = natGet (lGet s n).rxCredit (bits h.toNat 43 3) - 1 ∧
      (lGet t n).crdRet = (lGet s n).crdRet ∧ t = { s with link := t.link, bobbin := t.bobbin, out := [] })) ∧
  -- ORIGIN_CELL_INGRESS
  (∀ (m : Mort) (tag : Byte) (data : List Byte) (i : Nat) (e : Entry) (bytes : List Byte) (r : Bool × State) (s : State), Runs s →
    carries s m = true → isOrigin m = true → inqGet s m = [] → (bqGet s m).flush = false →
    usb3Packet m tag.toNat data = false → lookup s m tag.toNat true = some (i, e) → (tGet s i).halted = false →
    forwards s i = true → s.pair.frozen = false → (e.reliable && decide (1023 ≤ outstanding s i)) = false →
    data.length ≤ 16380 → bytes = frameBytes (if e.tspAdd then some (rimPlumb s 50) else none) data →
    r = takeCell i e m 0 { seq := (tGet s i).nextSeq, sof := true, eof := decide (bytes.length ≤ 56), tsp := e.tspAdd, data := bytes.take 56 } (tSet i { tGet s i with nextSeq := ((tGet s i).nextSeq + 1) % 1024 } (offerFrame m { tag := tag.toNat, data := data } (clearOut s))) →
    r.1 = false →
    Answers (.originCellIngress m (some (tag, data))) s (fun t =>
      t = kept s (let u := xfer m { r.2 with waiting := r.2.waiting.filter (· != m.val) }; if bytes.length ≤ 56 then inqSet m [] (packetIn m u) else inqSet m [{ tag := tag.toNat, data := data, rest := some (bytes.drop 56) }] u))) ∧
  -- WAITING_CELL_RETRY
  (∀ (m : Mort) (s : State), Runs s → s.waiting.contains m.val = true →
    Answers (.waitingCellRetry m) s (fun t =>
      t = kept s (ingress m (clearOut s)))) ∧
  -- TID0_FRAME_ARRIVAL
  (∀ (n : Port) (frame : List Byte) (s : State), Runs s → rimRuns s n = true → linkState s n = lsUp →
    Answers (.tid0FrameArrival n frame) s (fun t =>
      t = kept s (controlArrives n 0 frame (clearOut s)))) ∧
  -- TID0_FRAME_ARRIVAL
  (∀ (n : Port) (frame : List Byte) (m : Nat) (s : State), Runs s → carries s n = true → linkState s n = lsUp →
    12 ≤ frame.length → frame.length ≤ 56 → crc32Upd 0xFFFFFFFF frame = crcResidue →
    routeTid0 s (byteAt frame 0 % 64) = some m → (bqGet s n).words = [] → (bqGet s n).flush = false →
    s.pair.frozen = false →
    Answers (.tid0FrameArrival n frame) s (fun t =>
      t = kept s (placeControl n m 0 frame (packetIn n (returnCredit n 3 (bqSet n { words := [], left := (bqGet s n).left - 1 } (pushCell n (mkHeader 0 0 3 true true false false frame.length 0 0) frame (clearOut s)))))))) ∧
  -- EVENT_CELL_ARRIVAL
  (∀ (n : Port) (frame : List Byte) (s : State), Runs s → rimRuns s n = true → linkState s n = lsUp →
    Answers (.eventCellArrival n frame) s (fun t =>
      t = kept s (controlArrives n 2 frame (clearOut s)))) ∧
  -- EVENT_CELL_ARRIVAL
  (∀ (n : Port) (frame : List Byte) (m : Nat) (s : State), Runs s → carries s n = true → linkState s n = lsUp →
    1 ≤ frame.length → frame.length ≤ 56 → crc32Upd 0xFFFFFFFF frame = crcResidue → evtRoute s = some m → m ≤ 4 →
    (bqGet s n).words = [] → (bqGet s n).flush = false → s.pair.frozen = false →
    Answers (.eventCellArrival n frame) s (fun t =>
      t = kept s (placeControl n m 2 frame (packetIn n (returnCredit n 3 (bqSet n { words := [], left := (bqGet s n).left - 1 } (pushCell n (mkHeader 2 0 3 true true false false frame.length 0 0) frame (clearOut s)))))))) ∧
  -- OVERFLOW_FILL
  (∀ (q : Fin 272) (c : List QCell) (cs : List (List QCell)) (s : State), Runs s → fillDue s q = true →
    (qGet s q).chunks = c :: cs → (qGet s q).staging.length < 64 → (∀ x ∈ c, x.fiDram = (0, 0)) →
    Answers (.overflowFill q .ok) s (fun t =>
      (qGet t q).onchip.map (fun x => { x with fiLoft := (0, 0), fiTag := false }) = ((qGet s q).onchip ++ c).map (fun x => { x with fiLoft := (0, 0), fiTag := false }) ∧
      (qGet t q).chunks = cs ∧ (qGet t q).staging = (qGet s q).staging ∧
      cnt64 t R.BUF_FILL_CELLS = (cnt64 s R.BUF_FILL_CELLS + c.length) % 2 ^ 64 ∧
      RegsBut [R.BUF_FILL_CELLS, R.BUF_FILL_CELLS + 4, 0x52040, R.FLT_FI_INJECTIONS] s t ∧
      t = { s with regs := t.regs, loft := t.loft, fillq := t.fillq, fi := t.fi, out := [] })) ∧
  -- OVERFLOW_FILL
  (∀ (q : Fin 272) (ecc : DramEcc) (c : List QCell) (cs : List (List QCell)) (s : State), Runs s →
    fillDue s q = true → (qGet s q).chunks = c :: cs → (qGet s q).staging.length < 64 →
    Answers (.overflowFill q ecc) s (fun t =>
      (qGet t q).onchip.map (fun x => { x with fiLoft := (0, 0), fiTag := false }) = ((qGet s q).onchip ++ fillData ecc c).map (fun x => { x with fiLoft := (0, 0), fiTag := false }) ∧
      (qGet t q).chunks = cs)) ∧
  -- QUEUE_POINTER_MISMATCH
  (∀ (q : Fin 272) (s : State), Runs s →
    Answers (.queuePointerMismatch q) s (fun t =>
      (qGet t q).sweeping = true ∧ (qGet t q).cells = 0 ∧ reg t R.BUF_QRESETS = reg s R.BUF_QRESETS + 1)) ∧
  -- QUEUE_SWEEP_DONE
  (∀ (q : Fin 272) (s : State), Runs s →
    Answers (.queueSweepDone q) s (fun t =>
      (qGet t q).sweeping = false ∧ t = qSet q { qGet s q with sweeping := false } { s with out := [] })) ∧
  -- BQ_FLUSH_REQUEST
  (∀ (m : Mort) (egress : Bool) (ct : BitVec 6) (q : Nat) (s : State), Runs s → Unpaired s → m.val ≤ 13 →
    q = m.val + (if egress then 16 else 0) → (bqGet s q).flush = false →
    Answers (.bqFlushRequest m egress ct) s (fun t =>
      bqGet t q = { bqGet s q with flush := true, left := flushExtent s q } ∧ bit t (fFlush q) = true ∧
      getF t (fCtWords q) = ct.toNat ∧ RegsBut [(fFlush q).key] s t ∧
      t = { s with regs := t.regs, bobbin := t.bobbin, out := [] })) ∧
  -- BQ_FLUSH_EFFECT
  (∀ (b_ : BitVec 5) (n : Port) (s : State), Runs s → (bqGet s b_.toNat).flush = true → b_.toNat = n.val →
    Answers (.bqFlushEffect b_) s (fun t =>
      bqGet t n = { words := (bqGet s n).words.drop (bqGet s n).left, flush := false, left := 0 } ∧
      bit t (fFlush n) = false ∧
      reg t (regKey R.SWC_BQ_FLUSH_WORDS n) = reg s (regKey R.SWC_BQ_FLUSH_WORDS n) + BitVec.ofNat 32 ((bqGet s n).words.take (bqGet s n).left).length ∧
      RegsBut [(fFlush n).key, regKey R.SWC_BQ_FLUSH_WORDS n] s t ∧
      t = { s with regs := t.regs, bobbin := t.bobbin, link := t.link, out := [] })) ∧
  -- BQ_FLUSH_EFFECT
  (∀ (b_ : BitVec 5) (s : State), Runs s → (bqGet s b_.toNat).flush = true → 4 < b_.toNat → b_.toNat < 16 →
    ((inqGet s b_.toNat).head?.any (fun f => f.rest.isSome)) = false →
    Answers (.bqFlushEffect b_) s (fun t =>
      (bqGet t b_.toNat).flush = false ∧ inqGet t b_.toNat = (inqGet s b_.toNat).drop (bqGet s b_.toNat).left ∧
      t.waiting = s.waiting.filter (· != b_.toNat) ∧ bit t (fFlush b_.toNat) = false ∧
      RegsBut [(fFlush b_.toNat).key, regKey R.SWC_BQ_FLUSH_WORDS b_.toNat] s t)) ∧
  -- BQ_FLUSH_EFFECT
  (∀ (b_ : BitVec 5) (s : State), Runs s → (bqGet s b_.toNat).flush = true → 16 ≤ b_.toNat → b_.toNat % 16 ≤ 4 →
    Answers (.bqFlushEffect b_) s (fun t =>
      t = kept s (flushForming (b_.toNat % 16) (clearOut s)) ∧ (bqGet t b_.toNat).flush = false ∧
      bit t (fFlush b_.toNat) = false)) ∧
  -- BQ_FLUSH_EFFECT
  (∀ (b_ : BitVec 5) (s : State), Runs s → (bqGet s b_.toNat).flush = true → 20 < b_.toNat →
    s.loft.all (fun e => !(e.2.adOpen && e.2.last.eg == b_.toNat % 16)) = true →
    Answers (.bqFlushEffect b_) s (fun t =>
      (bqGet t b_.toNat).flush = false ∧ bit t (fFlush b_.toNat) = false ∧
      reg t (regKey R.SWC_BQ_FLUSH_WORDS b_.toNat) = reg s (regKey R.SWC_BQ_FLUSH_WORDS b_.toNat) ∧
      RegsBut [(fFlush b_.toNat).key] s t ∧ t = { s with regs := t.regs, bobbin := t.bobbin, out := [] }))

/-- End-to-end control frees, resends and times the outstanding cells of a reliable tunnel, under the conditions written
out. The model's own readings: log entries 40, 85, 103. After: R87, R88, R89. -/
def Obligations.EndToEndCommandsComplete : Prop :=
  -- E2E_ACK_TIMER
  (∀ (i : BitVec 8) (s : State), Runs s → valid s i.toNat = true → (entry s i.toNat).terminus = true →
    (entry s i.toNat).reliable = true → 0 < (tGet s i.toNat).unacked →
    Answers (.e2eAckTimer i) s (fun t =>
      (tGet t i.toNat).unacked = 0 ∧
      t = kept s (sendE2e 0x20 i.toNat ((tGet s i.toNat).e.getD 0) (tSet i.toNat { tGet s i.toNat with unacked := 0 } (clearOut s))))) ∧
  -- E2E_GAP_REPEAT_TIMER
  (∀ (i : BitVec 8) (e : Nat) (s : State), Runs s → (tGet s i.toNat).gap = some e → valid s i.toNat = true →
    Answers (.e2eGapRepeatTimer i) s (fun t =>
      t = kept s (sendE2e 0x21 i.toNat e (clearOut s)))) ∧
  -- E2E_ACK_RECEIVED
  (∀ (i : BitVec 8) (e : BitVec 10) (c : QCell) (k : Nat) (s : State), Runs s → reliableOrigin s i.toNat = true →
    (tGet s i.toNat).retained.head? = some c → k = (e.toNat + 1024 - c.seq) % 1024 → k ≠ 0 →
    k ≤ (tGet s i.toNat).retained.length → (tGet s i.toNat).broken = false →
    Answers (.e2eAckReceived i e) s (fun t =>
      (tGet t i.toNat).retained = (tGet s i.toNat).retained.drop k ∧ (tGet t i.toNat).expiries = 0 ∧
      bit t (bitIn (R.TUN_STALLED 0) i.toNat) = false ∧ RegsBut [(bitIn (R.TUN_STALLED 0) i.toNat).key] s t ∧
      t = { s with regs := t.regs, tun := t.tun, out := [] })) ∧
  -- E2E_GAP_RECEIVED
  (∀ (i : BitVec 8) (e : BitVec 10) (s : State), Runs s → reliableOrigin s i.toNat = true →
    (tGet s i.toNat).retained.any (fun c => c.seq == e.toNat) = true →
    Answers (.e2eGapReceived i e) s (fun t =>
      (tGet t i.toNat).resend = (tGet s i.toNat).retained.dropWhile (fun c => c.seq != e.toNat) ∧
      (tGet t i.toNat).retained = (tGet s i.toNat).retained ∧
      reg t (entCnt R.TUN_ENT_RETX_CELLS i.toNat) = reg s (entCnt R.TUN_ENT_RETX_CELLS i.toNat) + BitVec.ofNat 32 (tGet t i.toNat).resend.length ∧
      RegsBut [entCnt R.TUN_ENT_RETX_CELLS i.toNat] s t)) ∧
  -- RESUME_RECEIVED
  (∀ (i : BitVec 8) (s : State), Runs s → reliableOrigin s i.toNat = true →
    Answers (.resumeReceived i) s (fun t =>
      (tGet t i.toNat).resend = (tGet s i.toNat).retained ∧ (tGet t i.toNat).retained = (tGet s i.toNat).retained ∧
      reg t (entCnt R.TUN_ENT_RETX_CELLS i.toNat) = reg s (entCnt R.TUN_ENT_RETX_CELLS i.toNat) + BitVec.ofNat 32 (tGet s i.toNat).retained.length ∧
      RegsBut [entCnt R.TUN_ENT_RETX_CELLS i.toNat] s t ∧ t = { s with regs := t.regs, tun := t.tun, out := [] })) ∧
  -- E2E_TIMER_EXPIRY
  (∀ (i : BitVec 8) (s : State), Runs s → reliableOrigin s i.toNat = true → 0 < outstanding s i.toNat →
    (tGet s i.toNat).expiries + 1 < e2eLimit s →
    Answers (.e2eTimerExpiry i) s (fun t =>
      (tGet t i.toNat).resend = (tGet s i.toNat).retained ∧
      (tGet t i.toNat).expiries = (tGet s i.toNat).expiries + 1 ∧
      reg t R.TUN_E2E_EXPIRIES = reg s R.TUN_E2E_EXPIRIES + 1 ∧
      RegsBut [R.TUN_E2E_EXPIRIES, entCnt R.TUN_ENT_RETX_CELLS i.toNat] s t ∧
      t = { s with regs := t.regs, tun := t.tun, out := [] }))

/-- TUN and SCH commits, the selector writes, the grant of a link-control cell, the underrun and the gates, under the
conditions written out. The model's own readings: log entries 32, 42, 43, 86, 87. After: R94, R95, R98, R109, R131, R133,
R145, R147, R150. -/
def Obligations.SwitchCommandsComplete : Prop :=
  -- TUN_COMMIT
  (∀ (s : State), Runs s → tunCheck s = none →
    Answers (.tunCommit) s (fun t =>
      t = kept s (tunApply (clearOut s)))) ∧
  -- TUN_IDX_WRITE
  (∀ (v : Word) (s : State), Runs s →
    Answers (.tunIdxWrite v) s (fun t =>
      reg t R.TUN_IDX = BitVec.ofNat 32 (v.toNat % 256) ∧
      reg t R.TUN_QCELLS = BitVec.ofNat 32 (qcells s (v.toNat % 256)) ∧
      getF t ⟨R.TUN_TSTATE, 0, 2⟩ = (if valid s (v.toNat % 256) then (if (tGet s (v.toNat % 256)).halted then 3 else if (tGet s (v.toNat % 256)).susp then 2 else 1) else 0))) ∧
  -- SWC_BQ_SEL_WRITE
  (∀ (v : Word) (s : State), Runs s → Unpaired s →
    Answers (.swcBqSelWrite v) s (fun t =>
      reg t R.SWC_BQ_SEL = BitVec.ofNat 32 (v.toNat % 32) ∧
      reg t R.SWC_BQ_STATUS = BitVec.ofNat 32 (bqStatus s (v.toNat % 32)) ∧
      RegsBut [R.SWC_BQ_SEL, R.SWC_BQ_STATUS] s t ∧ t = { s with regs := t.regs, cdc := t.cdc, out := [] })) ∧
  -- BUF_QSEL_WRITE
  (∀ (v : Word) (s : State), Runs s → Unpaired s →
    Answers (.bufQselWrite v) s (fun t =>
      reg t R.BUF_QSEL = BitVec.ofNat 32 (v.toNat % 512) ∧
      reg t R.BUF_QOVF = BitVec.ofNat 32 (qGet s (v.toNat % 512)).overflow ∧
      getF t ⟨R.BUF_QSTATUS, 0, 17⟩ = (qGet s (v.toNat % 512)).onchip.length % 2 ^ 17 ∧
      RegsBut [R.BUF_QSEL, R.BUF_QOVF, R.BUF_QSTATUS] s t ∧ t = { s with regs := t.regs, cdc := t.cdc, out := [] })) ∧
  -- EGRESS_GRANT
  (∀ (m : Mort) (c : List Byte) (cs : List (List Byte)) (phase : Fin 8) (s : State), Runs s → m.val ≤ 4 →
    carries s (16 + m) = true → canSend s m = true → (lGet s m).ctlOut = c :: cs → byteAt c 0 ≠ 0x10 →
    byteAt c 0 ≠ 0x11 → (lGet s m).forming.length < 7 →
    Answers (.egressGrant m ⟨false, phase⟩ .ok) s (fun t =>
      (lGet t m).ctlOut = cs ∧
      (lGet t m).forming = (lGet s m).forming ++ [(ctlCell c (nextReturn (lGet s m)).1 (nextReturn (lGet s m)).2, false)] ∧
      t = { s with link := t.link, out := [] })) ∧
  -- CUT_THROUGH_UNDERRUN
  (∀ (i : BitVec 8) (s : State), Runs s → valid s i.toNat = true → (qGet s i.toNat).last.eg = 7 ∨
    ((qGet s i.toNat).last.eg = 8 ∧ (qGet s i.toNat).last.tid < 0x10) → (qGet s i.toNat).txOpen = true →
    (qGet s i.toNat).adOpen = true → (qGet s i.toNat).begun = true → (qGet s i.toNat).onchip = [] →
    (entry s i.toNat).reliable = false →
    Answers (.cutThroughUnderrun i) s (fun t =>
      t.out = [.deliver (qGet s i.toNat).last.eg (qGet s i.toNat).last.tid (qGet s i.toNat).asm true] ∧
      qGet t i.toNat = { qGet s i.toNat with adOpen := false, begun := false, asm := [] } ∧
      reg t R.SWC_CT_UNDERRUN = reg s R.SWC_CT_UNDERRUN + 1 ∧ RegsBut [R.SWC_CT_UNDERRUN] s t ∧
      t = { s with regs := t.regs, loft := t.loft, out := t.out })) ∧
  -- CUT_THROUGH_UNDERRUN
  (∀ (i : BitVec 8) (s : State), Runs s → valid s i.toNat = true → (qGet s i.toNat).last.eg = 8 ∧
    (qGet s i.toNat).last.tid < 0x10 → (qGet s i.toNat).txOpen = true → (qGet s i.toNat).begun = true →
    (qGet s i.toNat).onchip = [] → (entry s i.toNat).reliable = true →
    Answers (.cutThroughUnderrun i) s (fun t =>
      t = kept s (gapSign i.toNat (abortAdapter i.toNat (bump R.SWC_CT_UNDERRUN (clearOut s)))))) ∧
  -- SCH_COMMIT
  (∀ (m : Mort) (s : State), Runs s → m.val < 14 → mode s ≠ mStandby → firstTwice (attached s m) = none →
    (gatesOf m).find? (fun g => gateBad (schedOf (reg s) g)) = none →
    admissionSum s m (reg s) ≤ admissionLimit (checkLevel s) →
    Answers (.schCommit m) s (fun t =>
      t = kept s (schApply m (clearOut s)))) ∧
  -- GATE_WINDOW_BOUNDARY
  (∀ (g : Fin 12) (s : State), Runs s → (g.val ≤ 4 ∨ 8 ≤ g.val) →
    Answers (.gateWindowBoundary g) s (fun t =>
      getF t ⟨gateKey g 0x198, 8, 8⟩ = (gateNow s g).2.1 % 256 ∧
      getF t ⟨gateKey g 0x198, 2, 5⟩ = (gateNow s g).1 % 32 ∧ bit t ⟨gateKey g 0x198, 0, 1⟩ = gateEn s g ∧
      RegsBut [gateKey g 0x198] s t ∧ OnlyRegs s t ∧ t.out = [])) ∧
  -- GATE_SCHEDULE_SWITCH
  (∀ (g : Fin 12) (sch : GateSched) (at_ : Nat) (s : State), Runs s → (gGet s g).next = some (sch, at_) →
    at_ ≤ plumbNs s →
    Answers (.gateScheduleSwitch g) s (fun t =>
      (gGet t g).run = sch ∧ (gGet t g).next = none ∧ bit t ⟨gateKey g 0x198, 1, 1⟩ = false ∧
      RegsBut [gateKey g 0x198, R.SCH_GATE_SWITCHES (gateMort g)] s t ∧
      t = { s with regs := t.regs, gate := t.gate, sched := t.sched, out := [] }))

/-- The SDRAM controller initialises, commits its regions, scrubs, refreshes and calibrates, under the conditions written
out. The model's own readings: log entries 7, 44, 106. After: R124, R125, R126, R127, R129, R130, R380. -/
def Obligations.MemoryCommandsComplete : Prop :=
  -- MEM_INIT
  (∀ (s : State), Runs s →
    Answers (.memInit) s (fun t =>
      bit t fMemReady = false ∧ bit t fInitFail = false ∧
      t.mem = { s.mem with initing := true, wiping := false, cfg := (reg s R.MEM_CFG).toNat } ∧
      (if s.mem.wiping then RegsBut [R.MEM_STATUS, R.PM_VCODE, R.AO_STATUS] s t else RegsBut [R.MEM_STATUS] s t) ∧
      t = { s with regs := t.regs, mem := t.mem, out := [] })) ∧
  -- MEM_INIT_COMPLETE
  (∀ (s : State), Runs s → s.mem.initing = true → bits s.mem.cfg 0 2 ≠ 3 → bits s.mem.cfg 3 2 ≠ 3 →
    bit s fExtWipe = false →
    Answers (.memInitComplete true) s (fun t =>
      bit t fMemReady = true ∧ getF t fMemRate = memRate (rimLevel s) ∧ t.mem = { s.mem with initing := false } ∧
      RegsBut [R.MEM_STATUS] s t ∧ t = { s with regs := t.regs, mem := t.mem, out := [] })) ∧
  -- SDRAM_RATE_CHANGE
  (∀ (s : State), Runs s → s.disp.bar4 = [] → s.disp.held = [] → bit s fMemReady = true →
    getF s fMemRate ≠ memRate (rimLevel s) →
    Answers (.sdramRateChange) s (fun t =>
      getF t fMemRate = memRate (rimLevel s) ∧ bit t fRateChanging = false ∧
      reg t R.MEM_RATE_CHANGES = reg s R.MEM_RATE_CHANGES + 1 ∧ RegsBut [R.MEM_STATUS, R.MEM_RATE_CHANGES] s t ∧
      OnlyRegs s t ∧ t.out = [])) ∧
  -- MEM_COMMIT
  (∀ (s : State), Runs s → memCheck s = 0 → Unpaired s →
    Answers (.memCommit) s (fun t =>
      (∀ k ∈ memKeys, actReg t k = reg s k) ∧ getF t ⟨0x53024, 1, 3⟩ = 0 ∧ bit t (fDirty 0x53) = false ∧
      RegsBut [0x53024, 0x5300C] s t ∧ t = { s with regs := t.regs, act := t.act, out := [] })) ∧
  -- ECC_SECOND_INTERVAL
  (∀ (s : State), Runs s → cnt64 s R.MEM_ECC_CORR ≤ s.mem.eccSeen + getF s ⟨R.MEM_ECC_THRESH, 0, 16⟩ →
    Answers (.eccSecondInterval) s (fun t =>
      t = { s with mem := { s.mem with eccSeen := cnt64 s R.MEM_ECC_CORR }, out := [] })) ∧
  -- ECC_SECOND_INTERVAL
  (∀ (s : State), Runs s → s.mem.eccSeen + getF s ⟨R.MEM_ECC_THRESH, 0, 16⟩ < cnt64 s R.MEM_ECC_CORR →
    Answers (.eccSecondInterval) s (fun t =>
      t.mem = { s.mem with eccSeen := cnt64 s R.MEM_ECC_CORR } ∧
      OnlyRaised 48 ((free s).toNat % 65536) { s with mem := t.mem, freeIdx := s.freeIdx + 1 } t ∧
      RegsBut [R.CDC_OVERRUN_EVENTS] s t)) ∧
  -- PATROL_SCRUB_SLOT
  (∀ (s : State), Runs s → bit s fMemReady = true → bit s ⟨R.MEM_CTRL, 1, 1⟩ = true →
    (reg s R.MEM_SCRUB_POS).toNat + 64 < installed s * 0x1000000 → (reg s R.MEM_SCRUB_POS).toNat + 64 < 2 ^ 32 →
    Answers (.patrolScrubSlot false .ok) s (fun t =>
      (reg t R.MEM_SCRUB_POS).toNat = (reg s R.MEM_SCRUB_POS).toNat + 64 ∧ bit t fScrubBehind = false ∧
      t.mem.behind = false ∧ RegsBut [R.MEM_SCRUB_POS, R.MEM_STATUS] s t ∧
      t = { s with regs := t.regs, mem := t.mem, out := [] })) ∧
  -- SCRUB_BEHIND_HOUR
  (∀ (s : State), Runs s → s.mem.behind = true →
    Answers (.scrubBehindHour) s (fun t =>
      bit t fScrubBehind = true ∧ t.mem = s.mem)) ∧
  -- REFRESH_DUE
  (∀ (urgent : Bool) (s : State), Runs s → bit (setUrgent urgent s) fUrgent = false →
    Answers (.refreshDue urgent) s (fun t =>
      t.mem.postponed = 0 ∧ t = kept s (modMem (fun m => { m with postponed := 0 }) (setUrgent urgent (clearOut s))))) ∧
  -- REFRESH_DUE
  (∀ (urgent : Bool) (s : State), Runs s → bit (setUrgent urgent s) fUrgent = true → s.mem.postponed < 4 →
    Answers (.refreshDue urgent) s (fun t =>
      t.mem.postponed = s.mem.postponed + 1 ∧ reg t R.MEM_REF_POSTPONED = reg s R.MEM_REF_POSTPONED + 1 ∧
      RegsBut [fUrgent.key, R.MEM_REF_POSTPONED] s t)) ∧
  -- ZQ_SHORT_DUE
  (∀ (urgent : Bool) (s : State), Runs s → bit (setUrgent urgent s) fUrgent = true →
    Answers (.zqShortDue urgent) s (fun t =>
      t.mem.zqDue = true ∧ bit t fZqDeferred = true)) ∧
  -- ZQ_SHORT_DUE
  (∀ (urgent : Bool) (s : State), Runs s → bit (setUrgent urgent s) fUrgent = false →
    Answers (.zqShortDue urgent) s (fun t =>
      t = kept s (setUrgent urgent (clearOut s)) ∧ (urgent = false → t.mem.zqDue = false) ∧
      RegsBut [fUrgent.key, R.MEM_STATUS] s t)) ∧
  -- ZQ_FORCE_EXPIRY
  (∀ (s : State), Runs s → s.mem.zqDue = true →
    Answers (.zqForceExpiry) s (fun t =>
      t.mem.zqDue = false ∧ bit t fZqDeferred = false ∧ reg t R.MEM_ZQ_FORCED = reg s R.MEM_ZQ_FORCED + 1 ∧
      RegsBut [R.MEM_STATUS, R.MEM_ZQ_FORCED] s t ∧ t = { s with regs := t.regs, mem := t.mem, out := [] })) ∧
  -- EXTERNAL_WIPE_DONE
  (∀ (s : State), Runs s → s.mem.wiping = true → s.pwr.level = .idle → level s = 3 →
    Answers (.externalWipeDone) s (fun t =>
      t.dram = [] ∧ t.mem = { s.mem with wiping := false, fi := [] } ∧ bit t fExtWipe = false ∧
      bit t fMemReady = true ∧ RegsBut [R.AO_STATUS, R.MEM_STATUS] s t ∧
      t = { s with regs := t.regs, mem := t.mem, dram := [], out := [] })) ∧
  -- EXTERNAL_WIPE_DONE
  (∀ (s : State), Runs s → s.mem.wiping = true → s.pwr.level = .idle → level s < 3 →
    Answers (.externalWipeDone) s (fun t =>
      t.dram = [] ∧ t.mem = { s.mem with wiping := false, fi := [] } ∧ bit t fExtWipe = false ∧
      bit t fMemReady = true ∧ bit t fChanging = true ∧ getF t fTargetLevel = level s ∧ level t = level s ∧
      (getF s fMemRate ≠ memRate (level s) → bit t fRateChanging = true) ∧ t.pwr = { s.pwr with level := .wipeRim } ∧
      RegsBut [R.AO_STATUS, R.MEM_STATUS, R.PM_STATUS] s t ∧
      t = { s with regs := t.regs, mem := t.mem, pwr := t.pwr, dram := [], out := [] }))

/-- Outputs commit, lose and regain their panel, follow TE, and carry AUX and DCS transactions, under the conditions written
out. The model's own readings: log entries 46, 104. After: R160, R161, R162, R163, R164, R166, R171, R172,
07_panel_display_engine.md Table 7-13. -/
def Obligations.DisplayOutputCommandsComplete : Prop :=
  -- DOUT_COMMIT
  (∀ (k : Fin 4) (s : State), Runs s → Unpaired s → mode s ≠ mStandby →
    bit s ⟨(0x71 + k) * 0x1000 + 0x024, 0, 1⟩ = false → overBandwidth s k = false →
    ((bit s ⟨doutCtrl k, 1, 1⟩ = true → timingOdd s = false)) →
    Answers (.doutCommit k) s (fun t =>
      t.disp.outputs = s.disp.outputs.filter (fun j => j.1 != k.val) ++ [(k.val, reg s (doutCtrl k))] ∧
      bit t ⟨(0x71 + k) * 0x1000 + 0x024, 0, 1⟩ = true ∧ getF t ⟨(0x71 + k) * 0x1000 + 0x024, 1, 2⟩ = 0 ∧
      bit t (fDirty (0x71 + k)) = false ∧ RegsBut [(0x71 + k) * 0x1000 + 0x024, (fDirty (0x71 + k)).key] s t ∧
      t = { s with regs := t.regs, disp := t.disp, out := [] })) ∧
  -- AUX_TRANSACTION_START
  (∀ (k : Fin 8) (v : Word) (s : State), Powered s → ((k.val < 4 → Runs s)) → bit s ⟨auxStatus k, 0, 1⟩ = false →
    Answers (.auxTransactionStart k v) s (fun t =>
      t.out = [.aux k v ((List.range (auxWords k)).flatMap (fun i => bytesLE 4 (reg s (auxWord k i)).toNat))] ∧
      reg t (auxStatus k) = 1 ∧ RegsBut [auxStatus k] s t ∧ OnlyRegs s t)) ∧
  -- AUX_TRANSACTION_DONE
  (∀ (k : Fin 8) (reply : BitVec 2) (report : BitVec 16) (data : List Byte) (s : State), Powered s →
    ((k.val < 4 → Runs s)) → bit s ⟨auxStatus k, 0, 1⟩ = true → auxIsDp k = true →
    Answers (.auxTransactionDone k reply report data) s (fun t =>
      reg t (auxStatus k) = BitVec.ofNat 32 (reply.toNat * 2 + min 15 data.length * 16) ∧
      RegsBut ([auxStatus k, R.DOUT_AUX_TIMEOUTS k] ++ (List.range 4).map (auxWord k)) s t ∧ OnlyRegs s t ∧ t.out = [])) ∧
  -- AUX_TRANSACTION_DONE
  (∀ (k : Fin 8) (reply : BitVec 2) (report : BitVec 16) (data : List Byte) (s : State), Runs s →
    bit s ⟨auxStatus k, 0, 1⟩ = true → auxIsDp k = false → reply.getLsbD 1 = false → report ≠ 0 →
    Answers (.auxTransactionDone k reply report data) s (fun t =>
      reg t (auxStatus k) = BitVec.ofNat 32 (reply.toNat * 2 + data.length % 256 * 256 + report.toNat * 65536) ∧
      reg t (R.DOUT_ERR_REPORTS k) = reg s (R.DOUT_ERR_REPORTS k) + 1 ∧ bit t ⟨R.DOUT_STATUS k, 2, 1⟩ = true ∧
      OnlyRaised 61 k s t)) ∧
  -- HPD_LOSS
  (∀ (o : Fin 6) (s : State), Runs s → hpdOf s (dpOut o) = true →
    Answers (.hpdLoss o) s (fun t =>
      hpdOf t (dpOut o) = false ∧ t.disp.training.contains (dpOut o) = false ∧ (dpOut o < 2 →
      reg t (R.DOUT_HPD_LOSSES (dpOut o)) = reg s (R.DOUT_HPD_LOSSES (dpOut o)) + 1) ∧
      OnlyRaised 60 (dpOut o) { s with disp := t.disp } t ∧
      RegsBut [R.DOUT_HPD_LOSSES (dpOut o), R.DOUT_STATUS (dpOut o), R.CDC_OVERRUN_EVENTS] s t)) ∧
  -- HPD_RETURN
  (∀ (o : Fin 6) (s : State), Runs s →
    Answers (.hpdReturn o) s (fun t =>
      hpdOf t (dpOut o) = true ∧ (dpEnabled s (dpOut o) = true → (2 ≤ dpOut o ∨
      getA s ⟨doutCtrl (dpOut o), 8, 1⟩ = 1) → t.disp.training.contains (dpOut o) = true) ∧
      RegsBut [R.DOUT_STATUS (dpOut o)] s t ∧ t = { s with regs := t.regs, disp := t.disp, out := [] })) ∧
  -- DP_LINK_TRAINING_DONE
  (∀ (o : Fin 6) (s : State), Runs s → s.disp.training.contains (dpOut o) = true →
    Answers (.dpLinkTrainingDone o true) s (fun t =>
      t.disp.training.contains (dpOut o) = false ∧ (dpOut o < 2 → bit t ⟨R.DOUT_STATUS (dpOut o), 2, 1⟩ = true ∧
      getF t ⟨R.DOUT_STATUS (dpOut o), 4, 2⟩ = getA s ⟨doutCtrl (dpOut o), 4, 2⟩ ∧
      getF t ⟨R.DOUT_STATUS (dpOut o), 6, 2⟩ = getA s ⟨doutCtrl (dpOut o), 6, 2⟩) ∧
      RegsBut [R.DOUT_STATUS (dpOut o)] s t ∧ t = { s with regs := t.regs, disp := t.disp, out := [] })) ∧
  -- DP_IRQ_HPD
  (∀ (k : Fin 2) (s : State), Runs s → hpdOf s k = true →
    Answers (.dpIrqHpd k) s (fun t =>
      reg t (R.DOUT_IRQ_HPD k) = reg s (R.DOUT_IRQ_HPD k) + 1 ∧ RegsBut [R.DOUT_IRQ_HPD k] s t ∧ OnlyRegs s t ∧
      t.out = [])) ∧
  -- TE_EDGE
  (∀ (k : Fin 2) (falling : Bool) (s : State), Runs s → falling = (getA s ⟨doutCtrl (2 + k), 7, 1⟩ == 1) →
    Answers (.teEdge k falling) s (fun t =>
      reg t (R.DOUT_TE_EDGES (2 + k)) = reg s (R.DOUT_TE_EDGES (2 + k)) + 1 ∧
      bit t ⟨R.DOUT_STATUS (2 + k), 1, 1⟩ = true ∧ (teOutput s = some (2 + k.val) → teWaits s = true →
      bit t fTeLocked = true ∧ bit t fTeLost = false ∧ t.disp.latchTick = s.ticks ∧
      t.disp.latchLine = vsyncStart s) ∧ (teOutput s = some (2 + k.val) → atVsync s = false → t.disp.teKept = true) ∧
      RegsBut [R.DOUT_TE_EDGES (2 + k), R.DOUT_STATUS (2 + k), R.DISP_STATUS] s t ∧
      t = { s with regs := t.regs, disp := t.disp, out := [] })) ∧
  -- TE_MISSING
  (∀ (o : Nat) (s : State), Runs s → teOutput s = some o → bit s fTeLost = false →
    s.disp.teTick + 2 * lineTicks s (getF s ⟨R.DISP_V_TIMING, 16, 16⟩) ≤ s.ticks →
    Answers (.teMissing) s (fun t =>
      reg t R.DISP_TE_MISSING = reg s R.DISP_TE_MISSING + 1 ∧ bit t fTeLocked = false ∧ bit t fTeLost = true ∧
      t.disp.tePassed = (s.disp.tePassed || teWaits s) ∧ OnlyRaised 59 o { s with disp := t.disp } t ∧
      RegsBut [R.DISP_TE_MISSING, R.DISP_STATUS, 0x70010, 0x70018, R.CDC_OVERRUN_EVENTS] s t)) ∧
  -- STALE_TIMEOUT_EXPIRY
  (∀ (s : State), Runs s → staleTicks s ≠ 0 → s.disp.lastTick + staleTicks s ≤ s.ticks →
    Answers (.staleTimeoutExpiry) s (fun t =>
      t = { s with disp := { s.disp with stale := true }, out := [] }))

/-- The raster starts and stops, sets are committed and latched, and lines, images and BAR4 requests reach memory, under the
conditions written out. The model's own readings: log entries 45, 47, 49, 50. After: R152, R154, R157, R165, R166, R168,
R169, R170, R174, R220, R458, 07_panel_display_engine.md Table 7-7. -/
def Obligations.DisplayFrameCommandsComplete : Prop :=
  -- DISP_ENABLE_WRITE
  (∀ (v : Word) (s : State), Runs s → Unpaired s → dispOn s = false → bit s fMemReady = true → fbSize s ≠ 0 →
    timingOk s = true →
    Answers (.dispEnableWrite v) s (fun t =>
      reg t R.DISP_CTRL = (v ||| 1) &&& 0x77 ∧ bit t fRunning = true ∧ reg t R.DISP_FRAME_COUNT = 0 ∧
      t.disp.fences = s.disp.fences ++ ((List.range 2).filterMap (fenceOf s)).map (fun f => { f with since := s.disp.epoch + 1 }) ∧
      t.disp.latchTick = s.ticks ∧
      RegsBut ([R.DISP_CTRL, R.DISP_STATUS, R.DISP_FRAME_COUNT] ++ (List.range 4).map R.DOUT_STATUS) s t ∧
      t = { s with regs := t.regs, disp := t.disp, out := [] })) ∧
  -- DISP_DISABLE_WRITE
  (∀ (v : Word) (s : State), Runs s → Unpaired s → dispOn s = true → s.disp.waits = none →
    Answers (.dispDisableWrite v) s (fun t =>
      reg t R.DISP_CTRL = v &&& 0x76 ∧ bit t fRunning = false ∧ bit t fTeLocked = false ∧ bit t fUrgent = false ∧
      t.disp.fences.length = s.disp.fences.length ∧
      t.disp.fences.all (fun f => f.ended && f.releasing.isSome) = true ∧
      RegsBut ([R.DISP_CTRL, R.DISP_STATUS] ++ (List.range 4).map R.DOUT_STATUS) s t ∧
      t = { s with regs := t.regs, disp := t.disp, out := [] })) ∧
  -- DISP_COMMIT
  (∀ (miss : Bool) (s : State), Runs s → carries s 49 = true → Unpaired s → mode s ≠ mStandby → dispCheck s = 0 →
    dispOn s = false →
    Answers (.dispCommit miss) s (fun t =>
      (∀ k ∈ scanoutKeys ++ channelKeys, actReg t k = committing s k) ∧ getF t fDispResult = 0 ∧
      getF t fDispSeq = (getF s fDispSeq + 1) % 256 ∧ bit t (fDirty 0x70) = false ∧
      reg t R.DISP_COMMITS = reg s R.DISP_COMMITS + 1 ∧ t.disp.lastTick = s.ticks ∧
      RegsBut [0x70024, (fDirty 0x70).key, R.DISP_COMMITS, R.DISP_ACT_GND_ADDR, R.DISP_ACT_APQ_ADDR, R.DISP_LAST_UPD_NS 0, R.DISP_LAST_UPD_NS 1, R.DISP_LAST_UPD_NS 2, R.CDC_OVERRUN_EVENTS] s t ∧
      t = { s with regs := t.regs, act := t.act, disp := t.disp, cdc := t.cdc, out := [] })) ∧
  -- DISP_COMMIT
  (∀ (miss : Bool) (s : State), Runs s → mode s ≠ mStandby → dispCheck s = 0 → dispOn s = true →
    commitWindow s = .early →
    Answers (.dispCommit miss) s (fun t =>
      t.disp.waits = some (scanoutKeys.map (fun k => (k, committing s k))) ∧ t.disp.misses = false ∧
      (∀ k ∈ channelKeys, actReg t k = reg s k) ∧ bit t fPending = true ∧ bit t fLate = false ∧
      bit t fSuperseded = s.disp.waits.isSome ∧ getF t fDispResult = 0 ∧
      getF t fDispSeq = (getF s fDispSeq + 1) % 256 ∧ reg t R.DISP_COMMITS = reg s R.DISP_COMMITS + 1 ∧
      t.disp.lastTick = s.ticks)) ∧
  -- DISP_COMMIT
  (∀ (miss : Bool) (s : State), Runs s → mode s ≠ mStandby → dispCheck s = 0 → dispOn s = true →
    commitWindow s = .closing →
    Answers (.dispCommit miss) s (fun t =>
      t.disp.waits = some (scanoutKeys.map (fun k => (k, committing s k))) ∧ t.disp.misses = miss ∧
      (∀ k ∈ channelKeys, actReg t k = reg s k) ∧ bit t fPending = true ∧ bit t fLate = false ∧
      bit t fSuperseded = s.disp.waits.isSome ∧ getF t fDispResult = 0 ∧
      getF t fDispSeq = (getF s fDispSeq + 1) % 256 ∧ reg t R.DISP_COMMITS = reg s R.DISP_COMMITS + 1 ∧
      t.disp.lastTick = s.ticks)) ∧
  -- DISP_COMMIT
  (∀ (miss late : Bool) (s : State), Runs s → mode s ≠ mStandby → dispCheck s = 0 → dispOn s = true →
    commitWindow s = (if late then .atLatch else .onLatch) →
    Answers (.dispCommit miss) s (fun t =>
      t.disp.waits = some (scanoutKeys.map (fun k => (k, committing s k))) ∧ t.disp.misses = late ∧
      (∀ k ∈ channelKeys, actReg t k = reg s k) ∧ bit t fPending = true ∧ bit t fLate = true ∧
      bit t fSuperseded = s.disp.waits.isSome ∧ getF t fDispResult = 0 ∧
      getF t fDispSeq = (getF s fDispSeq + 1) % 256 ∧ reg t R.DISP_COMMITS = reg s R.DISP_COMMITS + 1 ∧
      t.disp.lastTick = s.ticks)) ∧
  -- LATCH_POINT
  (∀ (ground apq : List (Fin 9)) (ecc : DramEcc) (set : List (Nat × Word)) (s : State), Runs s →
    carries s 49 = true → dispOn s = true → teWaits s = false → s.disp.waits = some set → s.disp.misses = false →
    Answers (.latchPoint ground apq ecc) s (fun t =>
      reg t R.DISP_FRAME_COUNT = reg s R.DISP_FRAME_COUNT + 1 ∧
      getF t fApplied = (reg t R.DISP_FRAME_COUNT).toNat % 65536 ∧ bit t fPending = false ∧ t.disp.waits = none ∧
      t.disp.latchTick = s.ticks ∧
      cnt64 t R.DISP_URGENT_LINES = (cnt64 s R.DISP_URGENT_LINES + ((ground.zip apq).filter (fun l => lowLines s (l.1.val, l.2.val))).length) % 2 ^ 64 ∧
      t.disp.latchLine = vact s)) ∧
  -- LINE_UNDERRUN
  (∀ (l : ShortFrame) (s : State), Runs s → dispOn s = true → teWaits s = false → l.line.toNat < vact s →
    (List.range 2).any (fun i => (layerOf (actReg s) i).en) = true →
    Answers (.lineUnderrun l) s (fun t =>
      reg t R.DISP_UNDERRUNS = reg s R.DISP_UNDERRUNS + 1 ∧ reg t R.DISP_FRAME_COUNT = reg s R.DISP_FRAME_COUNT + 1 ∧
      cnt64 t R.DISP_URGENT_LINES = (cnt64 s R.DISP_URGENT_LINES + ((l.ground.zip l.apq).filter (fun h => lowLines s (h.1.val, h.2.val))).length) % 2 ^ 64 ∧
      t.out.contains (.blackLine l.line.toNat) = true ∧ t.disp.latchLine = vsyncStart s ∧
      t.disp.latchTick = s.ticks ∧ t.disp.lineBuf = (0, 0) ∧ bit t ⟨0x70010, 2, 1⟩ = true)) ∧
  -- POSITION_FRAME
  (∀ (tag : Byte) (f : M9Frame) (s : State), Runs s → s.disp.inbox.find? (fun f => f.tag == tag.toNat) = some f →
    tag.toNat < 16 → getA s ⟨R.DISP_CH_BASE tag.toNat, 0, 1⟩ = 1 → f.data.length = 4 →
    smGet (fun _ => none) s.disp.held tag.toNat = none →
    Answers (.positionFrame tag) s (fun t =>
      chGet t tag.toNat = { chGet s tag.toNat with cursor := ofBE f.data, step := none } ∧
      t.disp.inbox = s.disp.inbox.erase f ∧ t = { s with disp := t.disp, out := [] })) ∧
  -- LINE_FRAME
  (∀ (tag : Byte) (f : M9Frame) (off : Nat) (s : State), Runs s →
    s.disp.inbox.find? (fun f => f.tag == tag.toNat) = some f → tag.toNat < 16 →
    getA s ⟨R.DISP_CH_BASE tag.toNat, 0, 1⟩ = 1 → f.data.length ≠ 4 → f.data.length = lineBytes s tag.toNat →
    f.idx % max 1 f.cells = 0 → smGet (fun _ => none) s.disp.held tag.toNat = none →
    off = getA s ⟨R.DISP_CH_BASE tag.toNat, 12, 20⟩ * 4096 + ((chGet s tag.toNat).cursor + f.idx / max 1 f.cells) * getA s ⟨R.DISP_CH_PITCH tag.toNat, 0, 18⟩ →
    bit s fMemReady = true → bit s fRateChanging = false → off + f.data.length ≤ fbSize s →
    fenced s off f.data.length f.epoch = false →
    Answers (.lineFrame tag) s (fun t =>
      DramHas (fbBase s + off) f.data t ∧ DramBut (fbBase s + off) f.data.length s t ∧
      cnt64 t R.DISP_LINES_WRITTEN = (cnt64 s R.DISP_LINES_WRITTEN + 1) % 2 ^ 64 ∧ t.disp.lastTick = s.ticks ∧
      t.disp.inbox = s.disp.inbox.erase f ∧
      RegsBut [R.DISP_LINES_WRITTEN, R.DISP_LINES_WRITTEN + 4, R.DISP_CH_LOST_LINES, R.DISP_LAST_UPD_NS 0, R.DISP_LAST_UPD_NS 1, R.DISP_LAST_UPD_NS 2, 0x53040, R.FLT_FI_INJECTIONS] s t ∧
      t = { s with regs := t.regs, disp := t.disp, dram := t.dram, mem := t.mem, fi := t.fi, cdc := t.cdc, out := [] })) ∧
  -- FENCED_WRITE_PROCEED
  (∀ (tn : Fin 16) (off : Nat) (data : List Byte) (at_ : Nat) (s : State), Runs s → bit s fRateChanging = false →
    smGet (fun _ => none) s.disp.held tn.val = some (off, data, at_) → fenced s off data.length at_ = false →
    Answers (.fencedWriteProceed (some tn)) s (fun t =>
      DramHas (fbBase s + off) data t ∧ DramBut (fbBase s + off) data.length s t ∧
      smGet (fun _ => none) t.disp.held tn.val = none ∧
      cnt64 t R.DISP_LINES_WRITTEN = (cnt64 s R.DISP_LINES_WRITTEN + 1) % 2 ^ 64)) ∧
  -- BUFFER_RELEASE
  (∀ (layer : Fin 2) (f : Fence) (s : State), Runs s →
    s.disp.fences.find? (fun f => f.layer == layer.val && f.releasing.isSome) = some f →
    s.disp.releases.length < 8 →
    Answers (.bufferRelease layer) s (fun t =>
      t.disp.fences = s.disp.fences.erase f ∧
      t.disp.releases = s.disp.releases ++ [(layer.val, f.releasing.getD 0, f.base)] ∧ bit t ⟨0x70010, 1, 1⟩ = true ∧
      RegsBut [0x70010, 0x70018] s t ∧ t = { s with regs := t.regs, disp := t.disp, out := [] })) ∧
  -- BUF_RELEASE_READ
  (∀ (l f a : Nat) (r : List (Nat × Nat × Nat)) (s : State), Runs s → s.disp.releases = (l, f, a) :: r →
    Answers (.bufReleaseRead) s (fun t =>
      t = { s with disp := { s.disp with releases := r }, out := [.readData (BitVec.ofNat 32 (1 + l * 2 + f % 256 * 16 + a / 4096 * 4096))] })) ∧
  -- IMG_DATA_ACCESS
  (∀ (w : Word) (s : State), Runs s → Unpaired s → getF s ⟨R.DISP_IMG_ADDR, 0, 14⟩ ≤ 0x300F →
    Answers (.imgDataAccess (some w)) s (fun t =>
      smGet (fun _ => 0) t.disp.img (getF s ⟨R.DISP_IMG_ADDR, 0, 14⟩) = w ∧
      getF t ⟨R.DISP_IMG_ADDR, 0, 14⟩ = getF s ⟨R.DISP_IMG_ADDR, 0, 14⟩ + 1 ∧ RegsBut [R.DISP_IMG_ADDR] s t ∧
      t = { s with regs := t.regs, disp := t.disp, out := [] })) ∧
  -- BAR4_REQUEST
  (∀ (tag : BitVec 24) (off : BitVec 32) (data : List Byte) (len : BitVec 13) (ecc : DramEcc) (s : State), Runs s →
    upstreamUp s = true → bit s fMemReady = true → bit s fRateChanging = false →
    off.toNat + data.length ≤ fbSize s → s.disp.bar4 = [] → fenced s off.toNat data.length s.disp.epoch = false →
    Answers (.bar4Request tag off (some data) len ecc) s (fun t =>
      DramHas (fbBase s + off.toNat) data t ∧ DramBut (fbBase s + off.toNat) data.length s t ∧ t.disp.bar4 = [] ∧
      t.out = [] ∧ t.disp.lastTick = s.ticks)) ∧
  -- BAR4_REQUEST
  (∀ (tag : BitVec 24) (off : BitVec 32) (len : BitVec 13) (s : State), Runs s → upIsTunnel s = false →
    bit s (fDlUp 0) = true → bit s fMemReady = true → bit s fRateChanging = false → s.mem.fi = [] →
    off.toNat + len.toNat ≤ fbSize s → s.disp.bar4 = [] →
    Answers (.bar4Request tag off none len .ok) s (fun t =>
      t.out = [.completion tag.toNat 0 (fbRead s off.toNat len.toNat) false] ∧
      RegsBut [R.PCIE_RX_TLPS 0, R.PCIE_RX_TLPS 0 + 4, R.PCIE_TX_TLPS 0, R.PCIE_TX_TLPS 0 + 4, R.PCIE_STATUS 0] s t ∧
      t = { s with regs := t.regs, pcie := t.pcie, disp := t.disp, out := t.out } ∧ t.disp = s.disp))

/-- MACs start, gain and lose link, take and send frames, and the forwarding table changes, under the conditions written
out. The model's own readings: log entries 53, 54. After: R178, R179, R182, R187, R188, R189, R190, R203. -/
def Obligations.EthernetCommandsComplete : Prop :=
  -- MAC_ENABLE
  (∀ (k md : Fin 4) (s : State), Runs s → Unpaired s → md.val ≠ 3 →
    bit s ⟨(0x79 + k) * 0x1000 + 0x00C, 0, 1⟩ = true → bit s (fMacEn k) = false → bit s (fOverbooked 7) = false →
    Answers (.macEnable k md) s (fun t =>
      bit t (fMacEn k) = true ∧ (macGet t k).mode = md.val ∧ bit t (fMacLink k) = false ∧ getF t (fMacSpeed k) = 0 ∧
      RegsBut [R.MAC_CTRL k, R.MAC_STATUS k, R.ETH_STATUS, (fOverbooked 7).key, R.SCH_OVERBOOK_ENTRIES 7, R.CDC_OVERRUN_EVENTS] s t)) ∧
  -- MAC_ENABLE
  (∀ (k md : Fin 4) (s : State), Runs s → Unpaired s → md.val = 3 →
    Answers (.macEnable k md) s (fun t =>
      bit t (fMacEn k) = false)) ∧
  -- MAC_ENABLE
  (∀ (k md : Fin 4) (s : State), Runs s → Unpaired s → md.val ≠ 3 →
    bit s ⟨(0x79 + k) * 0x1000 + 0x00C, 0, 1⟩ = false → bit s (fMacEn k) = false → bit s (fOverbooked 7) = false →
    Answers (.macEnable k md) s (fun t =>
      bit t (fMacEn k) = false ∧ getF t ⟨R.MAC_CTRL k, 1, 2⟩ = md.val ∧
      RegsBut [R.MAC_CTRL k, R.MAC_STATUS k, R.ETH_STATUS, (fOverbooked 7).key, R.SCH_OVERBOOK_ENTRIES 7, R.CDC_OVERRUN_EVENTS] s t)) ∧
  -- MAC_LINK_UP
  (∀ (k : Fin 4) (phy : Fin 3) (s : State), Runs s → bit s (fMacEn k) = true →
    Answers (.macLinkUp k phy) s (fun t =>
      bit t (fMacLink k) = true ∧ getF t (fMacSpeed k) = speedOf (macGet s k).mode phy ∧
      bit t ⟨R.ETH_STATUS, k, 1⟩ = true ∧
      RegsBut [R.MAC_STATUS k, R.ETH_STATUS, (fOverbooked 7).key, R.SCH_OVERBOOK_ENTRIES 7, R.CDC_OVERRUN_EVENTS] s t)) ∧
  -- MAC_LINK_LOSS
  (∀ (k : Fin 4) (remote : Bool) (s : State), Runs s → bit s (fMacLink k) = true →
    Answers (.macLinkLoss k remote) s (fun t =>
      bit t (fMacLink k) = false ∧ getF t (fMacSpeed k) = 0 ∧ bit t ⟨R.MAC_STATUS k, 5, 1⟩ = remote ∧
      bit t ⟨R.ETH_STATUS, k, 1⟩ = false ∧
      RegsBut [R.MAC_STATUS k, R.ETH_STATUS, (fOverbooked 7).key, R.SCH_OVERBOOK_ENTRIES 7, R.CDC_OVERRUN_EVENTS] s t)) ∧
  -- MAC_FRAME_RECEIVED
  (∀ (k : Fin 4) (frame : List Byte) (parity : Bool) (phase : Fin 8) (s : State), Runs s →
    bit s (fMacEn k) = true → bit s (fMacLink k) = true →
    frame.drop (frame.length - 4) ≠ bytesLE 4 (fcs32 (frame.take (frame.length - 4))).toNat →
    Answers (.macFrameReceived k ⟨frame, phase⟩ parity) s (fun t =>
      reg t (R.MAC_RX_FCS_ERR k) = reg s (R.MAC_RX_FCS_ERR k) + 1 ∧ RegsBut [R.MAC_RX_FCS_ERR k] s t ∧ OnlyRegs s t ∧
      t.out = [])) ∧
  -- MAC_FRAME_RECEIVED
  (∀ (k : Fin 4) (frame : List Byte) (parity : Bool) (phase : Fin 8) (s : State), Runs s →
    bit s (fMacEn k) = true → bit s (fMacLink k) = true →
    frame.drop (frame.length - 4) = bytesLE 4 (fcs32 (frame.take (frame.length - 4))).toNat → 64 ≤ frame.length →
    frame.length ≤ clampN 64 9600 (getF s ⟨R.MAC_MAX_FRAME k, 0, 14⟩) → etherType frame ≠ 0x8808 →
    ptpAt frame = none → etherRuns s = true →
    Answers (.macFrameReceived k ⟨frame, phase⟩ parity) s (fun t =>
      cnt64 t (R.MAC_RX_FRAMES k) = (cnt64 s (R.MAC_RX_FRAMES k) + 1) % 2 ^ 64 ∧
      cnt64 t R.FWD_LOOKUPS = (cnt64 s R.FWD_LOOKUPS + 1) % 2 ^ 64 ∧
      t = kept s (forwardFrame k (stampAt 56 phase s) frame parity (bump64 (R.MAC_RX_FRAMES k) (clearOut s))))) ∧
  -- MAC_FRAME_TRANSMIT
  (∀ (tag : Byte) (stamp : Option (BitVec 48 × BitVec 32)) (frame : List Byte) (phase : Fin 8) (s : State), Runs s →
    tag.toNat < 4 → bit s (fMacEn tag.toNat) = true → bit s (fMacLink tag.toNat) = true → ptpAt frame = none →
    Answers (.macFrameTransmit tag stamp ⟨frame, phase⟩) s (fun t =>
      t.out = [.macFrame tag.toNat frame] ∧
      cnt64 t (R.MAC_TX_FRAMES tag.toNat) = (cnt64 s (R.MAC_TX_FRAMES tag.toNat) + 1) % 2 ^ 64 ∧
      RegsBut [R.MAC_TX_FRAMES tag.toNat, R.MAC_TX_FRAMES tag.toNat + 4] s t ∧ OnlyRegs s t)) ∧
  -- FCS_SECOND_INTERVAL
  (∀ (k : Fin 4) (s : State), Runs s →
    ((reg s (R.MAC_RX_FCS_ERR k)).toNat + 2 ^ 32 - (macGet s k).fcsSeen) % 2 ^ 32 ≤ getF s ⟨R.MAC_FCS_THRESH k, 0, 16⟩ →
    Answers (.fcsSecondInterval k) s (fun t =>
      t = macSet k { macGet s k with fcsSeen := (reg s (R.MAC_RX_FCS_ERR k)).toNat } { s with out := [] })) ∧
  -- FCS_SECOND_INTERVAL
  (∀ (k : Fin 4) (s : State), Runs s →
    getF s ⟨R.MAC_FCS_THRESH k, 0, 16⟩ < ((reg s (R.MAC_RX_FCS_ERR k)).toNat + 2 ^ 32 - (macGet s k).fcsSeen) % 2 ^ 32 →
    Answers (.fcsSecondInterval k) s (fun t =>
      macGet t k = { macGet s k with fcsSeen := (reg s (R.MAC_RX_FCS_ERR k)).toNat } ∧
      OnlyRaised 68 k { s with mac := t.mac } t ∧ RegsBut [R.CDC_OVERRUN_EVENTS] s t)) ∧
  -- FWD_INSERT
  (∀ (i : Nat) (s : State), Runs s → Unpaired s → mode s ≠ mStandby → fwdFind s (keyVid s) (keyDa s) = none →
    (fwdPlaces s (keyVid s) (keyDa s)).find? (fun i => (fwdGet s i).isNone) = some i →
    Answers (.fwdInsert) s (fun t =>
      t.fwd = smSet dFwd s.fwd i (some { vid := keyVid s, da := keyDa s, tset := getF s ⟨R.FWD_KEY_TSET, 0, 6⟩, fi := spoils s 0x7D 0 1 }) ∧
      getF t fFwdCode = 0 ∧ getF t fFwdIndex = i ∧
      RegsBut [R.FWD_RESULT, R.FWD_STATUS, 0x7D040, R.FLT_FI_INJECTIONS] s t ∧
      t = { s with regs := t.regs, fwd := t.fwd, fi := t.fi, out := [] })) ∧
  -- FWD_DELETE
  (∀ (i : Nat) (s : State), Runs s → Unpaired s → mode s ≠ mStandby → fwdFind s (keyVid s) (keyDa s) = some i →
    Answers (.fwdDelete) s (fun t =>
      t.fwd = smSet dFwd s.fwd i none ∧ getF t fFwdCode = 0 ∧ getF t fFwdIndex = i ∧
      RegsBut [R.FWD_RESULT, R.FWD_STATUS, 0x7D040, R.FLT_FI_INJECTIONS] s t ∧
      t = { s with regs := t.regs, fwd := t.fwd, fi := t.fi, out := [] })) ∧
  -- FWD_LOOKUP
  (∀ (i : Nat) (e : FwdEntry) (s : State), Runs s → mode s ≠ mStandby → fwdFind s (keyVid s) (keyDa s) = some i →
    fwdGet s i = some e → e.fi = false →
    Answers (.fwdLookup false) s (fun t =>
      getF t fFwdCode = 0 ∧ getF t fFwdIndex = i ∧ reg t R.FWD_RES_HITS = BitVec.ofNat 32 e.hits ∧
      reg t R.FWD_RES_SKIPS = BitVec.ofNat 32 e.skips ∧ RegsBut [R.FWD_RESULT, R.FWD_RES_HITS, R.FWD_RES_SKIPS] s t ∧
      OnlyRegs s t ∧ t.out = [])) ∧
  -- FWD_FLUSH_ALL
  (∀ (s : State), Runs s → Unpaired s → mode s ≠ mStandby →
    Answers (.fwdFlushAll) s (fun t =>
      t.fwd = [] ∧ reg t R.FWD_STATUS = 0 ∧ getF t fFwdCode = 0 ∧ RegsBut [R.FWD_RESULT, R.FWD_STATUS] s t ∧
      t = { s with regs := t.regs, fwd := [], out := [] })) ∧
  -- FWD_COMMIT
  (∀ (s : State), Runs s → Unpaired s → mode s ≠ mStandby →
    Answers (.fwdCommit) s (fun t =>
      (∀ k ∈ fwdRegs, actReg t k = reg s k) ∧ bit t ⟨0x7D024, 1, 1⟩ = false ∧ bit t (fDirty 0x7D) = false ∧
      RegsBut [0x7D024, (fDirty 0x7D).key] s t ∧ t = { s with regs := t.regs, act := t.act, out := [] }))

/-- Plumb ticks, is captured and adjusted, and link exchanges measure delay and offset, under the conditions written out.
The model's own readings: log entries 51. After: R191, R192, R193, R195, R196, R198, 08_ethernet_and_plumb_time.md Table
8-15. -/
def Obligations.TimeCommandsComplete : Prop :=
  -- TIME_TICK
  (∀ (s : State), Runs s → s.time.adj = 0 →
    Answers (.timeTick) s (fun t =>
      t.ticks = s.ticks + 1 ∧
      t.plumb = plumbOf ((fineOf s.plumb : Int) + (262144 + (s.time.rem + freqAdj s * 1024) / 1000000000)).toNat ∧
      t.time.rem = (s.time.rem + freqAdj s * 1024) % 1000000000)) ∧
  -- TIME_TICK
  (∀ (s : State), Runs s → s.time.adj = 0 → (s.ticks + 1) % 250 ≠ 0 → dispOn s = false →
    bit s (fDlUp 0) = false → bit s (fDlUp 1) = false → bit s ⟨R.PAIR_STATUS, 1, 1⟩ = false →
    Answers (.timeTick) s (fun t =>
      t = { s with ticks := s.ticks + 1, plumb := plumbOf ((fineOf s.plumb : Int) + (262144 + (s.time.rem + freqAdj s * 1024) / 1000000000)).toNat, time := { s.time with rem := (s.time.rem + freqAdj s * 1024) % 1000000000 }, out := [] })) ∧
  -- TIME_TICK
  (∀ (s : State), Runs s → s.time.adj = 0 → bit s ⟨R.PAIR_STATUS, 1, 1⟩ = true → (s.ticks + 1) % 6000 = 0 →
    dispOn s = false →
    Answers (.timeTick) s (fun t =>
      t.out = [.heartbeat (ownHeartbeat { s with ticks := s.ticks + 1 })])) ∧
  -- TIME_SNAP
  (∀ (s : State), Runs s →
    Answers (.timeSnap) s (fun t =>
      reg t (R.TIME_SNAP_FRAC 0) = BitVec.ofNat 32 s.plumb.frac ∧
      reg t (R.TIME_SNAP_FRAC 1) = BitVec.ofNat 32 s.plumb.ns ∧
      reg t (R.TIME_SNAP_FRAC 2) = BitVec.ofNat 32 s.plumb.sec ∧
      reg t (R.TIME_SNAP_FRAC 3) = BitVec.ofNat 32 (s.plumb.sec / 2 ^ 32) ∧
      RegsBut [R.TIME_SNAP_FRAC 0, R.TIME_SNAP_FRAC 1, R.TIME_SNAP_FRAC 2, R.TIME_SNAP_FRAC 3] s t ∧ OnlyRegs s t ∧
      t.out = [])) ∧
  -- TIME_ADJ_SET
  (∀ (s : State), Runs s →
    Answers (.timeAdjSet) s (fun t =>
      t = { s with time := { s.time with adj := s.time.adj ||| 1 }, out := [] })) ∧
  -- TIME_ADJ_STEP
  (∀ (s : State), Runs s →
    Answers (.timeAdjStep) s (fun t =>
      t = { s with time := { s.time with adj := s.time.adj ||| 2 }, out := [] })) ∧
  -- DREQ_TIMER
  (∀ (n : Port) (s : State), Runs s → (linkState s n = lsUp ∨ linkState s n = lsLowpower) →
    (exGet s n).waiting = false →
    Answers (.dreqTimer n) s (fun t =>
      exGet t n = { seq := ((exGet s n).seq + 1) % 65536, waiting := true, t1 := none, timeouts := 0 } ∧
      (lGet t n).ctlOut = (lGet s n).ctlOut ++ [[0x10] ++ bytesBE 2 (((exGet s n).seq + 1) % 65536)] ∧
      cnt64 t R.TIME_EXCH_TX = (cnt64 s R.TIME_EXCH_TX + 1) % 2 ^ 64 ∧
      RegsBut [R.TIME_EXCH_TX, R.TIME_EXCH_TX + 4] s t ∧
      t = { s with regs := t.regs, link := t.link, time := t.time, out := [] })) ∧
  -- DREQ_TIMER
  (∀ (n : Port) (s : State), Runs s → (linkState s n = lsUp ∨ linkState s n = lsLowpower) →
    (exGet s n).waiting = true → (exGet s n).timeouts + 1 ≠ 10 →
    Answers (.dreqTimer n) s (fun t =>
      (exGet t n).waiting = true ∧ (exGet t n).t1 = none ∧ (exGet t n).seq = ((exGet s n).seq + 1) % 65536 ∧
      (exGet t n).timeouts = ((exGet s n).timeouts + 1) % 10 ∧
      reg t R.TIME_EXCH_TIMEOUT = reg s R.TIME_EXCH_TIMEOUT + 1 ∧ (timeSrc s = .link n →
      bit t fTimeSrcValid = false) ∧
      RegsBut [R.TIME_EXCH_TIMEOUT, R.TIME_EXCH_TX, R.TIME_EXCH_TX + 4, fTimeSrcValid.key] s t ∧
      t = { s with regs := t.regs, link := t.link, time := t.time, out := [] })) ∧
  -- DREQ_RECEIVED
  (∀ (n : Port) (seq : BitVec 16) (phase : Fin 8) (s : State), Runs s → linkState s n = lsUp →
    Answers (.dreqReceived n ⟨seq, phase⟩) s (fun t =>
      t = lSet n { lGet s n with ctlOut := (lGet s n).ctlOut ++ [[0x11] ++ bytesBE 2 seq.toNat ++ stampBytes (stampAt (51 + n) phase s) ++ List.replicate 12 0 ++ [BitVec.ofNat 8 (getF s fTimeState), BitVec.ofNat 8 (getF s fDepth)]] } { s with out := [] })) ∧
  -- DRESP_RECEIVED
  (∀ (n : Port) (seq : BitVec 16) (t2 t3 : BitVec 96) (st depth : Byte) (phase : Fin 8) (t1 : Nat) (p2 p3 : Int) (s : State), Runs s →
    linkState s n = lsUp → (exGet s n).waiting = true → (exGet s n).seq = seq.toNat → (exGet s n).t1 = some t1 →
    timeSrc s ≠ .link n → p2 = (fineOf ⟨bits t2.toNat 48 48, bits t2.toNat 16 32, bits t2.toNat 0 16⟩ : Int) →
    p3 = (fineOf ⟨bits t3.toNat 48 48, bits t3.toNat 16 32, bits t3.toNat 0 16⟩ : Int) →
    Answers (.drespReceived n ⟨seq, phase⟩ t2 t3 st depth) s (fun t =>
      reg t (R.TIME_LINK_DELAY n) = BitVec.ofInt 32 ((((fineOf (stampAt (51 + n) phase s) : Int) - t1) - (p3 - p2)) / 2) ∧
      exGet t n = { exGet s n with waiting := false, timeouts := 0 } ∧
      cnt64 t R.TIME_EXCH_RX = (cnt64 s R.TIME_EXCH_RX + 1) % 2 ^ 64 ∧
      RegsBut [R.TIME_LINK_DELAY n, R.TIME_EXCH_RX, R.TIME_EXCH_RX + 4] s t ∧
      t = { s with regs := t.regs, time := t.time, out := [] })) ∧
  -- DRESP_RECEIVED
  (∀ (n : Port) (seq : BitVec 16) (t2 t3 : BitVec 96) (st depth : Byte) (phase : Fin 8) (t1 : Nat) (p2 p3 : Int) (s : State), Runs s →
    linkState s n = lsUp → (exGet s n).waiting = true → (exGet s n).seq = seq.toNat → (exGet s n).t1 = some t1 →
    timeSrc s = .link n → p2 = (fineOf ⟨bits t2.toNat 48 48, bits t2.toNat 16 32, bits t2.toNat 0 16⟩ : Int) →
    p3 = (fineOf ⟨bits t3.toNat 48 48, bits t3.toNat 16 32, bits t3.toNat 0 16⟩ : Int) →
    Answers (.drespReceived n ⟨seq, phase⟩ t2 t3 st depth) s (fun t =>
      reg t (R.TIME_LINK_DELAY n) = BitVec.ofInt 32 ((((fineOf (stampAt (51 + n) phase s) : Int) - t1) - (p3 - p2)) / 2) ∧
      reg t R.TIME_OFFSET = BitVec.ofInt 32 (clampI (-2147483648) 2147483647 (((t1 - p2) + ((fineOf (stampAt (51 + n) phase s) : Int) - p3)) / 2 - asym s n)) ∧
      bit t fTimeSrcValid = true ∧ getF t fDepth = min 15 (depth.toNat + 1))) ∧
  -- TIME_SOURCE_LOSS
  (∀ (s : State), Runs s → (getF s fTimeState = 1 ∨ getF s fTimeState = 2) →
    Answers (.timeSourceLoss) s (fun t =>
      getF t fTimeState = 3 ∧ bit t fTimeSrcValid = false ∧
      reg t R.TIME_HOLDOVER_ENTRIES = reg s R.TIME_HOLDOVER_ENTRIES + 1 ∧ (s.time.hist = [] →
      OnlyRaised 100 (getF s fSrcSel) s t) ∧
      RegsBut [fTimeState.key, R.TIME_FREQ_ADJ, R.TIME_HOLDOVER_ENTRIES, R.CDC_OVERRUN_EVENTS] s t))

/-- Peer delay, the message port, pulse per second and the event pins, under the conditions written out. The model's own
readings: log entries 52, 54. After: R201, R204, R206, R207, R208, R209. -/
def Obligations.PeerDelayPortAndPinCommandsComplete : Prop :=
  -- PDELAY_REQ_TIMER
  (∀ (k : Fin 4) (phase : Fin 8) (s : State), Runs s → bit s (fMacEn k) = true →
    bit s ⟨R.MAC_CTRL k, 4, 1⟩ = true → bit s (fMacLink k) = true →
    Answers (.pdelayReqTimer ⟨k, phase⟩) s (fun t =>
      t.out = [.pdelayReq k (((macGet s k).pdelaySeq + 1) % 65536) (portIdentity s k)] ∧
      macGet t k = { macGet s k with pdelaySeq := ((macGet s k).pdelaySeq + 1) % 65536, pdelay := some (((macGet s k).pdelaySeq + 1) % 65536, fineOf (stampAt 56 phase s)) } ∧
      reg t (R.MAC_PDELAY_TX k) = reg s (R.MAC_PDELAY_TX k) + 1 ∧ RegsBut [R.MAC_PDELAY_TX k] s t ∧
      t = { s with regs := t.regs, mac := t.mac, out := t.out })) ∧
  -- PDELAY_REQ_RECEIVED
  (∀ (k : Fin 4) (seq : BitVec 16) (turnaround : Word) (port : BitVec 80) (s : State), Runs s →
    bit s (fMacEn k) = true → bit s ⟨R.MAC_CTRL k, 4, 1⟩ = true →
    Answers (.pdelayReqReceived k ⟨seq, port⟩ turnaround) s (fun t =>
      t.out = [.pdelayResp k seq.toNat turnaround.toNat (portIdentity s k) (bytesBE 10 port.toNat)] ∧
      reg t (R.MAC_PDELAY_RX k) = reg s (R.MAC_PDELAY_RX k) + 1 ∧
      reg t (R.MAC_PDELAY_TX k) = reg s (R.MAC_PDELAY_TX k) + 1 ∧
      RegsBut [R.MAC_PDELAY_RX k, R.MAC_PDELAY_TX k] s t ∧ OnlyRegs s t)) ∧
  -- PDELAY_RESP_RECEIVED
  (∀ (k : Fin 4) (seq : BitVec 16) (turnaround : BitVec 48) (phase : Fin 8) (t1 : Nat) (s : State), Runs s →
    bit s ⟨R.MAC_CTRL k, 4, 1⟩ = true → (macGet s k).pdelay = some (seq.toNat, t1) →
    Answers (.pdelayRespReceived k ⟨seq, phase⟩ turnaround) s (fun t =>
      reg t (R.MAC_PDELAY k) = BitVec.ofInt 32 ((((fineOf (stampAt 56 phase s) : Int) - t1) - turnaround.toNat) / 2) ∧
      bit t ⟨R.MAC_STATUS k, 4, 1⟩ = true ∧ (macGet t k).pdelay = none ∧
      reg t (R.MAC_PDELAY_RX k) = reg s (R.MAC_PDELAY_RX k) + 1 ∧
      RegsBut [R.MAC_PDELAY k, R.MAC_STATUS k, R.MAC_PDELAY_RX k] s t ∧
      t = { s with regs := t.regs, mac := t.mac, out := [] })) ∧
  -- TWO_STEP_ENTRY_EXPIRY
  (∀ (k : Fin 4) (egress : Bool) (s : State), Runs s →
    Answers (.twoStepEntryExpiry k egress) s (fun t =>
      (macGet t k).egress = (if egress then (macGet s k).egress.tail else (macGet s k).egress) ∧
      (macGet t k).origin = (if egress then (macGet s k).origin else (macGet s k).origin.tail) ∧
      t = { s with mac := t.mac, out := [] })) ∧
  -- MSG_PORT_DELIVERY
  (∀ (tag : Byte) (data : List Byte) (s : State), Runs s →
    s.time.msgRx.length + 1 + (wordsOf data).length ≤ 1024 →
    Answers (.msgPortDelivery tag none data) s (fun t =>
      t.time.msgRx = s.time.msgRx ++ BitVec.ofNat 32 (data.length % 65536 + tag.toNat * 65536) :: wordsOf data ∧
      bit t ⟨R.TIME_MSG_STATUS, 0, 1⟩ = true ∧ RegsBut [R.TIME_MSG_STATUS] s t ∧
      t = { s with regs := t.regs, time := t.time, out := [] })) ∧
  -- MSG_RX_READ
  (∀ (w : Word) (ws : List Word) (s : State), Runs s → s.time.msgRx = w :: ws →
    Answers (.msgRxRead) s (fun t =>
      t.out = [.readData w] ∧ t.time.msgRx = ws ∧ bit t ⟨R.TIME_MSG_STATUS, 0, 1⟩ = !ws.isEmpty ∧
      RegsBut [R.TIME_MSG_STATUS] s t ∧ t = { s with regs := t.regs, time := t.time, out := t.out })) ∧
  -- MSG_TX_GO
  (∀ (tag : Byte) (len : BitVec 16) (s : State), Runs s →
    Answers (.msgTxGo tag len) s (fun t =>
      inqGet t 12 = inqGet s 12 ++ [{ tag := tag.toNat, data := ((s.time.msgTx.map (fun w => bytesLE 4 w.toNat)).flatten).take len.toNat }] ∧
      t.time.msgTx = [] ∧ getF t ⟨R.TIME_MSG_STATUS, 16, 12⟩ = 4092 ∧ RegsBut [R.TIME_MSG_STATUS] s t ∧
      t = { s with regs := t.regs, inq := t.inq, time := t.time, out := [] })) ∧
  -- PPS_OUT_EDGE
  (∀ (edge : Nat) (s : State), Runs s → ppsRuns s = true → edge = secondOf s (fineOf s.plumb) →
    s.time.ppsSkip ≠ edge → s.time.ppsSent.all (fun r => !decide (r.1 ≤ edge ∧ edge ≤ r.2)) = true →
    Answers (.ppsOutEdge) s (fun t =>
      t = { s with time := { s.time with ppsSent := runsAdd edge s.time.ppsSent }, out := [.ppsOut (clampN 1 500 (getF s ⟨R.TIME_PPS_CTRL, 16, 9⟩))] })) ∧
  -- PPS_IN_EDGE
  (∀ (falling : Bool) (phase : Fin 8) (p : Plumb) (s : State), Runs s → bit s ⟨R.TIME_PPS_CTRL, 2, 1⟩ = true →
    bit s ⟨R.TIME_PPS_CTRL, 3, 1⟩ = falling → timeSrc s ≠ .pps → p = pinStamp phase s →
    Answers (.ppsInEdge ⟨falling, phase⟩) s (fun t =>
      reg t (R.TIME_PPS_IN_FRAC 0) = BitVec.ofNat 32 p.frac ∧ reg t (R.TIME_PPS_IN_FRAC 1) = BitVec.ofNat 32 p.ns ∧
      reg t (R.TIME_PPS_IN_FRAC 2) = BitVec.ofNat 32 p.sec ∧
      reg t (R.TIME_PPS_IN_FRAC 3) = BitVec.ofNat 32 (p.sec / 2 ^ 32) ∧
      RegsBut ((List.range 4).map R.TIME_PPS_IN_FRAC) s t ∧ OnlyRegs s t ∧ t.out = [])) ∧
  -- PPS_IN_MISSING
  (∀ (s : State), Runs s → bit s ⟨R.TIME_PPS_CTRL, 2, 1⟩ = true →
    Answers (.ppsInMissing) s (fun t =>
      reg t R.TIME_PPS_IN_MISSES = reg s R.TIME_PPS_IN_MISSES + 1 ∧
      RegsBut [R.TIME_PPS_IN_MISSES, fTimeSrcValid.key, R.CDC_OVERRUN_EVENTS] s t ∧ (timeSrc s = .pps →
      bit t fTimeSrcValid = false) ∧ OnlyRaised 103 ((free s).toNat % 65536) { s with freeIdx := s.freeIdx + 1 } t)) ∧
  -- EVT_PIN_EDGE
  (∀ (k : Fin 8) (level : Bool) (phase : Fin 8) (s : State), Runs s → (pinGet s k).level ≠ level →
    bit s ⟨R.TIME_EVT_CTRL k, 0, 1⟩ = true → (pinGet s k).stable ≠ level → debounce s k ≠ 0 →
    Answers (.evtPinEdge k ⟨level, phase⟩) s (fun t =>
      t = pinSet k { pinGet s k with level := level, cand := some (pinStamp phase s) } { s with out := [] })) ∧
  -- EVT_DEBOUNCE_EXPIRY
  (∀ (k : Fin 8) (at_ : Plumb) (s : State), Runs s → (pinGet s k).cand = some at_ →
    Answers (.evtDebounceExpiry k) s (fun t =>
      (pinGet t k).stable = (pinGet s k).level ∧ (pinGet t k).cand = none ∧
      bit t ⟨R.TIME_EVT_LEVEL, k, 1⟩ = (pinGet s k).level ∧
      (bit s ⟨R.TIME_EVT_CTRL k, if (pinGet s k).level then 1 else 2, 1⟩ = true →
      reg t R.TIME_EVT_RECORDS = reg s R.TIME_EVT_RECORDS + 1 ∧ (pinGet t k).glitches = 0)))

/-- PCIe links train and go down, TLPs enter their tunnels and send windows build frames, under the conditions written out.
The model's own readings: log entries 55. After: R215, R217, R218, R221, R222, R231. -/
def Obligations.PcieCommandsComplete : Prop :=
  -- PCIE_LINK_UP
  (∀ (k : Fin 2) (speed : Fin 4) (width : Fin 3) (s : State), Runs s → pcieAllowed s k = true →
    Answers (.pcieLinkUp k speed width) s (fun t =>
      bit t (fDlUp k) = true ∧ bit t (fInL1 k) = false ∧
      getF t (fPcieSpeed k) = min (min (min (getF s ⟨R.PCIE_CTRL k, 0, 2⟩) (pcieMax (rimLevel s))) (linkTarget s k)) speed ∧
      getF t (fPcieWidth k) = min (min 2 (getF s ⟨R.PCIE_CTRL k, 3, 2⟩)) width)) ∧
  -- PCIE_LINK_DOWN
  (∀ (k : Fin 2) (s : State), Runs s → bit s (fDlUp k) = true →
    Answers (.pcieLinkDown k) s (fun t =>
      bit t (fDlUp k) = false ∧ bit t (fInL1 k) = false ∧
      reg t (R.PCIE_LINK_DOWNS k) = reg s (R.PCIE_LINK_DOWNS k) + 1 ∧ (k.val = 0 →
      t.pcie.bar4 = clampN 24 32 (getF s ⟨R.PCIE_BAR_CFG 0, 0, 5⟩)) ∧ (k.val = 1 → s.pcie.upTunnel = false →
      t.pcie.bar4 = s.pcie.bar4))) ∧
  -- PCIE_RETRAIN
  (∀ (k : Fin 2) (speed : Fin 4) (width : Fin 3) (s : State), Runs s → bit s (fDlUp k) = true →
    Answers (.pcieRetrain k speed width true) s (fun t =>
      reg t (R.PCIE_RETRAINS k) = reg s (R.PCIE_RETRAINS k) + 1 ∧ bit t (fDlUp k) = true ∧
      getF t (fPcieSpeed k) = min (min (min (getF s ⟨R.PCIE_CTRL k, 0, 2⟩) (pcieMax (rimLevel s))) (linkTarget s k)) speed ∧
      getF t (fPcieWidth k) = min (min 2 (getF s ⟨R.PCIE_CTRL k, 3, 2⟩)) width)) ∧
  -- UPSTREAM_HOT_RESET
  (∀ (s : State), Runs s → Unpaired s →
    Answers (.upstreamHotReset) s (fun t =>
      t = { s with pcie := { s.pcie with cfg := s.pcie.cfg.filter (fun p => cfgSticky (p.1 % 1024)), bus := 0, bar4 := clampN 24 32 (getF s ⟨R.PCIE_BAR_CFG 0, 0, 5⟩) }, out := [] })) ∧
  -- TLP_RECEIVED
  (∀ (tlp : List Byte) (replays corr : Byte) (ecc : DramEcc) (s : State), Runs s → bit s (fDlUp 1) = true →
    malformed s (cVdp 4) tlp = false → (corr = 0 ∨ cfgBit s (cVdp 4) 69 0 = true ∨
    errEnabled s (cVdp 4) 0 = false) →
    Answers (.tlpReceived (.downstream tlp) ⟨replays, corr⟩ ecc) s (fun t =>
      inqGet t 6 = inqGet s 6 ++ [{ tag := 0, data := tlp }] ∧
      cnt64 t (R.PCIE_RX_TLPS 1) = (cnt64 s (R.PCIE_RX_TLPS 1) + 1) % 2 ^ 64 ∧
      reg t (R.PCIE_REPLAYS 1) = reg s (R.PCIE_REPLAYS 1) + BitVec.ofNat 32 replays.toNat ∧
      reg t (R.PCIE_CORR_ERR 1) = reg s (R.PCIE_CORR_ERR 1) + BitVec.ofNat 32 corr.toNat ∧ bit t (fInL1 1) = false ∧
      RegsBut [R.PCIE_RX_TLPS 1, R.PCIE_RX_TLPS 1 + 4, R.PCIE_REPLAYS 1, R.PCIE_CORR_ERR 1, R.PCIE_STATUS 1, R.CDC_OVERRUN_EVENTS] s t)) ∧
  -- TLP_RECEIVED
  (∀ (tlp : List Byte) (replays corr : Byte) (ecc : DramEcc) (v : Nat) (s : State), Runs s →
    upIsTunnel s = false → bit s (fDlUp 0) = true → malformed s cUp tlp = false → isMem tlp = true →
    tlpKind tlp = .posted → barHit s (tlpAddr tlp) = none → memBelow s cUp (tlpAddr tlp) = true →
    vdpOfAddr s (tlpAddr tlp) = some v → v < 5 → bit s (fVdp v) = true → corr = 0 →
    Answers (.tlpReceived (.upstream tlp) ⟨replays, corr⟩ ecc) s (fun t =>
      inqGet t 5 = inqGet s 5 ++ [{ tag := 0x20 + v, data := tlp }] ∧
      cnt64 t (R.PCIE_RX_TLPS 0) = (cnt64 s (R.PCIE_RX_TLPS 0) + 1) % 2 ^ 64 ∧
      RegsBut [R.PCIE_RX_TLPS 0, R.PCIE_RX_TLPS 0 + 4, R.PCIE_STATUS 0, R.PCIE_REPLAYS 0, R.PCIE_CORR_ERR 0] s t ∧
      t = { s with regs := t.regs, inq := t.inq, pcie := t.pcie, out := [] })) ∧
  -- TLP_RECEIVED
  (∀ (tlp : List Byte) (replays corr : Byte) (ecc : DramEcc) (s : State), Runs s → upIsTunnel s = false →
    bit s (fDlUp 0) = true → malformed s cUp tlp = false → isCfg tlp = false → isMsg tlp = false →
    isMem tlp = true → tlpKind tlp = .nonPosted → barHit s (tlpAddr tlp) = none →
    memBelow s cUp (tlpAddr tlp) = false → cfgBit s cUp 67 20 = false → (cfgBit s cUp 69 13 = true ∨
    errEnabled s cUp 0 = false) → vdpOfBus s (tlpTag tlp / 65536) = none → corr = 0 →
    Answers (.tlpReceived (.upstream tlp) ⟨replays, corr⟩ ecc) s (fun t =>
      t.out = [.completion (tlpTag tlp) 1 [] false] ∧ t.inq = s.inq ∧
      RegsBut [R.PCIE_RX_TLPS 0, R.PCIE_RX_TLPS 0 + 4, R.PCIE_STATUS 0, R.PCIE_REPLAYS 0, R.PCIE_CORR_ERR 0, R.PCIE_TX_TLPS 0, R.PCIE_TX_TLPS 0 + 4] s t)) ∧
  -- TLP_RECEIVED
  (∀ (tlp : List Byte) (rest : List (List Byte)) (replays corr : Byte) (ecc : DramEcc) (s : State), Runs s →
    s.pcie.inbox = tlp :: rest →
    Answers (.tlpReceived .tunnel ⟨replays, corr⟩ ecc) s (fun t =>
      t = kept s (fromUpstream ecc tlp { clearOut s with pcie := { s.pcie with inbox := rest } }))) ∧
  -- SEND_WINDOW_WRITE
  (∀ (n : Fin 16) (off : BitVec 20) (data : List Byte) (s : State), Runs s → upstreamUp s = true →
    getA s ⟨R.PSW_SW_CTRL n, 0, 1⟩ = 1 → off.toNat + data.length ≤ swSize s n → (lookup s 5 n true).isSome = true →
    data ≠ [] → off.toNat = (openFrame s n).length → (openFrame s n ++ data).length = swFrame s n →
    Answers (.sendWindowWrite n off data) s (fun t =>
      inqGet t 5 = inqGet s 5 ++ [{ tag := n.val, data := openFrame s n ++ data }] ∧ openFrame t n = [] ∧
      cnt64 t R.PSW_SW_FRAMES = (cnt64 s R.PSW_SW_FRAMES + 1) % 2 ^ 64 ∧
      RegsBut [R.PSW_SW_FRAMES, R.PSW_SW_FRAMES + 4, R.PCIE_RX_TLPS 0, R.PCIE_RX_TLPS 0 + 4, R.PCIE_STATUS 0] s t ∧
      t = { s with regs := t.regs, inq := t.inq, pcie := t.pcie, out := [] })) ∧
  -- PCIE_COMPLETION_TIMEOUT
  (∀ (s : State), Runs s → cfgBit s cBridge 26 4 = false → cfgBit s cBridge 66 14 = true →
    Answers (.pcieCompletionTimeout) s (fun t =>
      cfgBit t cBridge 65 14 = true ∧ reg t (R.PCIE_UNCORR_ERR 0) = reg s (R.PCIE_UNCORR_ERR 0) + 1 ∧
      RegsBut [R.PCIE_UNCORR_ERR 0, R.CDC_OVERRUN_EVENTS] s t ∧
      OnlyRaised 76 ((free s).toNat % 65536) { s with freeIdx := s.freeIdx + 1, pcie := t.pcie } t)) ∧
  -- PCIE_COMPLETION_TIMEOUT
  (∀ (s : State), Runs s → cfgBit s cBridge 26 4 = false →
    (errEnabled s cBridge 1 || errEnabled s cBridge 2) = false → cfgBit s cBridge 66 14 = false →
    Answers (.pcieCompletionTimeout) s (fun t =>
      cfgBit t cBridge 65 14 = true ∧ reg t (R.PCIE_UNCORR_ERR 0) = reg s (R.PCIE_UNCORR_ERR 0) + 1 ∧
      RegsBut [R.PCIE_UNCORR_ERR 0, R.CDC_OVERRUN_EVENTS] s t ∧
      t = kept s (raiseN 76 (aerError cBridge 14 [] (clearOut s))))) ∧
  -- PSW_BRG_COMMIT
  (∀ (s : State), Runs s → Unpaired s → pswCheck s = 0 →
    Answers (.pswBrgCommit false) s (fun t =>
      (∀ k ∈ pswRegs, actReg t k = reg s k) ∧ getF t ⟨0x82024, 1, 3⟩ = 0 ∧ bit t (fDirty 0x82) = false ∧
      RegsBut [0x82024, (fDirty 0x82).key] s t ∧ t = { s with regs := t.regs, act := t.act, out := [] })) ∧
  -- PSW_BRG_COMMIT
  (∀ (s : State), Runs s → Unpaired s → brgCheck s = 0 →
    Answers (.pswBrgCommit true) s (fun t =>
      (∀ k ∈ brgRegs, actReg t k = reg s k) ∧ getF t ⟨0x90024, 1, 3⟩ = 0 ∧ bit t (fDirty 0x90) = false ∧
      RegsBut [0x90024, (fDirty 0x90).key] s t ∧ t = { s with regs := t.regs, act := t.act, out := [] }))

/-- Outbound requests become local cycles, and their ends and failures are reported, under the conditions written out. The
model's own readings: log entries 56. After: R224, R225, R227, R228, R229, R233, R234, 09_pcie_and_dowel_bridge.md Table
9-6. -/
def Obligations.BridgeOutboundCommandsComplete : Prop :=
  -- OUTBOUND_READ
  (∀ (w : Fin 8) (tag : BitVec 24) (off : BitVec 26) (enables : List Bool) (cyc : List (List LbBeat)) (s : State), Runs s →
    upstreamUp s = true → (outWindow s w).en = true → off.toNat + enables.length ≤ (outWindow s w).size →
    (outWindow s w).target = false → (outWindow s w).prefetch = false → s.brg.held = [] →
    s.brg.jobs.all (fun j => !j.cycles.isEmpty) = true →
    cyc = bursts (beatBytes (outWindow s w).width) (requestBeats (outWindow s w).width (outWindow s w).swap (outWindow s w).lb off.toNat enables []) →
    cyc ≠ [] →
    Answers (.outboundRead w tag off enables) s (fun t =>
      t.brg.jobs = s.brg.jobs ++ [{ who := .read w tag.toNat, serial := s.brg.nextSerial, start := off.toNat, len := enables.length, enables := enables, cs := (outWindow s w).cs, width := (outWindow s w).width, cycles := cyc }] ∧
      t.brg.nextSerial = s.brg.nextSerial + 1 ∧
      RegsBut [R.BRG_STATUS, R.PCIE_RX_TLPS 0, R.PCIE_RX_TLPS 0 + 4, R.PCIE_STATUS 0] s t ∧
      t = { s with regs := t.regs, brg := t.brg, pcie := t.pcie, out := [] })) ∧
  -- OUTBOUND_READ
  (∀ (w : Fin 8) (tag : BitVec 24) (off : BitVec 26) (enables : List Bool) (s : State), Runs s →
    upIsTunnel s = false → bit s (fDlUp 0) = true → (outWindow s w).en = true →
    off.toNat + enables.length ≤ (outWindow s w).size → (outWindow s w).target = false →
    (outWindow s w).prefetch = false → s.brg.held = [] → s.brg.jobs = [] →
    requestBeats (outWindow s w).width (outWindow s w).swap (outWindow s w).lb off.toNat enables [] = [] →
    Answers (.outboundRead w tag off enables) s (fun t =>
      t.out = [.completion tag.toNat 0 (enabledBytes enables (List.replicate enables.length 0)) false] ∧
      t.brg.jobs = [] ∧
      RegsBut [R.BRG_STATUS, R.PCIE_RX_TLPS 0, R.PCIE_RX_TLPS 0 + 4, R.PCIE_STATUS 0, R.PCIE_TX_TLPS 0, R.PCIE_TX_TLPS 0 + 4] s t)) ∧
  -- OUTBOUND_READ
  (∀ (w : Fin 8) (tag : BitVec 24) (off : BitVec 26) (enables : List Bool) (s : State), Runs s →
    upIsTunnel s = false → bit s (fDlUp 0) = true → (outWindow s w).en = false →
    Answers (.outboundRead w tag off enables) s (fun t =>
      t.out = [.completion tag.toNat 1 [] false] ∧ reg t (R.PCIE_BAR_ERR 0) = reg s (R.PCIE_BAR_ERR 0) + 1 ∧
      t.brg = s.brg)) ∧
  -- OUTBOUND_WRITE
  (∀ (w : Fin 8) (off : BitVec 26) (enables : List Bool) (data : List Byte) (cyc : List (List LbBeat)) (s : State), Runs s →
    upstreamUp s = true → (outWindow s w).en = true → off.toNat + enables.length ≤ (outWindow s w).size →
    (outWindow s w).target = false → (outWindow s w).posted = true → s.brg.held = [] →
    s.brg.jobs.all (fun j => !j.cycles.isEmpty) = true → (wbuf s = 0 ∨ wbuf s + data.length ≤ 2048) →
    cyc = bursts (beatBytes (outWindow s w).width) (requestBeats (outWindow s w).width (outWindow s w).swap (outWindow s w).lb off.toNat enables data) →
    cyc ≠ [] →
    Answers (.outboundWrite w off enables data) s (fun t =>
      t.brg.jobs = (writePrefetch w s).brg.jobs ++ [{ who := .write w, serial := s.brg.nextSerial, start := off.toNat, len := enables.length, enables := enables, size := data.length, base := getA s ⟨R.BRG_OW_BASE w, 12, 16⟩ * 4096, cs := (outWindow s w).cs, width := (outWindow s w).width, cycles := cyc }] ∧
      t.brg.nextSerial = s.brg.nextSerial + 1 ∧
      RegsBut [R.BRG_STATUS, R.PCIE_RX_TLPS 0, R.PCIE_RX_TLPS 0 + 4, R.PCIE_STATUS 0] s t ∧
      t = { s with regs := t.regs, brg := t.brg, pcie := t.pcie, out := [] })) ∧
  -- OUTBOUND_WRITE
  (∀ (w : Fin 8) (off : BitVec 26) (enables : List Bool) (data : List Byte) (s : State), Runs s →
    upstreamUp s = true → (outWindow s w).en = true → off.toNat + enables.length ≤ (outWindow s w).size →
    (outWindow s w).target = true →
    Answers (.outboundWrite w off enables data) s (fun t =>
      inqGet t 5 = inqGet s 5 ++ (enabledRuns 0 enables).map (fun r => { tag := 0x10 + w.val, data := bridgeFrame (outWindow s w) ((outWindow s w).lb + off.toNat + r.1) ((data.drop r.1).take r.2) }) ∧
      t.brg.jobs = (writePrefetch w s).brg.jobs ∧ smGet (fun _ => (0, [])) t.brg.prefetch w = (0, []) ∧
      RegsBut [R.PCIE_RX_TLPS 0, R.PCIE_RX_TLPS 0 + 4, R.PCIE_STATUS 0] s t ∧
      t = { s with regs := t.regs, brg := t.brg, pcie := t.pcie, inq := t.inq, out := [] })) ∧
  -- PREFETCH_EXPIRY
  (∀ (w : Fin 8) (s : State), Runs s →
    Answers (.prefetchExpiry w) s (fun t =>
      smGet (fun _ => (0, [])) t.brg.prefetch w = (0, []) ∧
      t = { s with brg := { s.brg with prefetch := t.brg.prefetch }, out := [] })) ∧
  -- BRIDGE_FRAME_PERFORM
  (∀ (frame data : List Byte) (cyc : List (List LbBeat)) (s : State), Runs s → bit s ⟨R.BRG_CTRL, 1, 1⟩ = true →
    data = (frame.drop 8).take (ofBE (sub frame 5 2)) → s.brg.held = [] →
    s.brg.jobs.all (fun j => !j.cycles.isEmpty) = true → (wbuf s = 0 ∨ wbuf s + data.length ≤ 2048) →
    cyc = bursts (beatBytes (bits (byteAt frame 0) 2 2)) (requestBeats (bits (byteAt frame 0) 2 2) (bits (byteAt frame 0) 4 2) 0 (ofBE (sub frame 1 4) % 2 ^ 26) (List.replicate data.length true) data) →
    cyc ≠ [] →
    Answers (.bridgeFramePerform frame) s (fun t =>
      t.brg.jobs = s.brg.jobs ++ [{ who := .frame, serial := s.brg.nextSerial, start := ofBE (sub frame 1 4) % 2 ^ 26, len := data.length, size := data.length, cs := bits (byteAt frame 0) 0 2, width := bits (byteAt frame 0) 2 2, cycles := cyc }] ∧
      RegsBut [R.BRG_STATUS] s t ∧ t = { s with regs := t.regs, brg := t.brg, out := [] })) ∧
  -- BRIDGE_FRAME_PERFORM
  (∀ (frame : List Byte) (s : State), Runs s → bit s ⟨R.BRG_CTRL, 1, 1⟩ = false →
    Answers (.bridgeFramePerform frame) s (fun t =>
      reg t R.BRG_REMOTE_REFUSED = reg s R.BRG_REMOTE_REFUSED + 1 ∧ RegsBut [R.BRG_REMOTE_REFUSED] s t ∧
      OnlyRegs s t ∧ t.out = [])) ∧
  -- LOCAL_BUS_CYCLE_END
  (∀ (lanes : List (List Byte)) (j : LbJob) (js : List LbJob) (w tag : Nat) (c : List LbBeat) (s : State), Runs s →
    upIsTunnel s = false → bit s (fDlUp 0) = true → cycling s = true → s.brg.jobs = j :: js → j.who = .read w tag →
    j.cycles = [c] → j.keep = false → s.brg.held = [] → js.all (fun j => !j.cycles.isEmpty) = true →
    Answers (.localBusCycleEnd false lanes) s (fun t =>
      t.out = [.completion tag 0 (enabledBytes j.enables ((List.range j.len).map (smGet (fun _ => 0) (takeLanes c lanes j.got)))) false] ∧
      t.brg.jobs = js ∧ cnt64 t R.BRG_OUT_CYCLES = (cnt64 s R.BRG_OUT_CYCLES + 1) % 2 ^ 64 ∧
      RegsBut [R.BRG_STATUS, R.BRG_OUT_CYCLES, R.BRG_OUT_CYCLES + 4, R.PCIE_RX_TLPS 0, R.PCIE_RX_TLPS 0 + 4, R.PCIE_STATUS 0, R.PCIE_TX_TLPS 0, R.PCIE_TX_TLPS 0 + 4] s t)) ∧
  -- POSTED_WRITE_FAILURE
  (∀ (timeout : Bool) (j : LbJob) (js : List LbJob) (w : Nat) (s : State), Runs s → cycling s = true →
    s.brg.jobs = j :: js → j.who = .write w → s.brg.held = [] → js.all (fun j => !j.cycles.isEmpty) = true →
    Answers (.postedWriteFailure timeout) s (fun t =>
      t.brg.jobs = js ∧ getF t ⟨R.BRG_PERR_COUNT, 0, 32⟩ = min (2 ^ 32 - 1) (getF s ⟨R.BRG_PERR_COUNT, 0, 32⟩ + 1) ∧
      reg t R.BRG_PERR_SKIPPED = reg s R.BRG_PERR_SKIPPED + BitVec.ofNat 32 (j.cycles.length - 1) ∧
      (bit s ⟨R.BRG_PERR_WINDOW, 0, 1⟩ = false → getF t ⟨R.BRG_PERR_WINDOW, 4, 4⟩ = w % 16 ∧
      bit t ⟨R.BRG_PERR_WINDOW, 8, 1⟩ = timeout) ∧ bit t ⟨R.BRG_PERR_WINDOW, 0, 1⟩ = true ∧
      OnlyRaised 88 w { s with brg := t.brg } t)) ∧
  -- LB_BEAT_TIMEOUT
  (∀ (j : LbJob) (js : List LbJob) (w tag : Nat) (s : State), Runs s → upIsTunnel s = false →
    bit s (fDlUp 0) = true → cycling s = true → s.brg.jobs = j :: js → j.who = .read w tag → s.brg.held = [] →
    js.all (fun j => !j.cycles.isEmpty) = true →
    Answers (.lbBeatTimeout) s (fun t =>
      t.out = [.completion tag 4 [] false] ∧ t.brg.jobs = js ∧ reg t R.BRG_NP_ERR = reg s R.BRG_NP_ERR + 1 ∧
      RegsBut [R.BRG_STATUS, R.BRG_NP_ERR, R.CDC_OVERRUN_EVENTS, R.PCIE_RX_TLPS 0, R.PCIE_RX_TLPS 0 + 4, R.PCIE_STATUS 0, R.PCIE_TX_TLPS 0, R.PCIE_TX_TLPS 0 + 4] s t)) ∧
  -- PERR_CAPTURE_RELEASE
  (∀ (s : State), Runs s →
    Answers (.perrCaptureRelease) s (fun t =>
      bit t ⟨R.BRG_PERR_WINDOW, 0, 1⟩ = false ∧ RegsBut [R.BRG_PERR_WINDOW] s t ∧ OnlyRegs s t ∧ t.out = []))

/-- The local master's requests, inbound cycles and delayed reads, and the management cycle, under the conditions written
out. The model's own readings: log entries 56. After: R224, R225, R231, R232, R234, R235, 09_pcie_and_dowel_bridge.md Table
9-4. -/
def Obligations.BridgeInboundCommandsComplete : Prop :=
  -- MA_READ
  (∀ (be : BitVec 4) (mine : List LbBeat) (s : State), Runs s → bit s ⟨R.BRG_MA_STATUS, 0, 1⟩ = false →
    mine = (wordBeats (bits (reg s R.BRG_MA_ADDR).toNat 28 2) (bits (reg s R.BRG_MA_ADDR).toNat 30 2) (bits (reg s R.BRG_MA_ADDR).toNat 0 26 / 4 * 4) (fun b => if be.toNat.testBit b then some b else none) (bytesLE 4 (reg s R.BRG_MA_DATA).toNat)).filter (fun x => x.addr == bits (reg s R.BRG_MA_ADDR).toNat 0 26 / beatBytes (bits (reg s R.BRG_MA_ADDR).toNat 28 2) * beatBytes (bits (reg s R.BRG_MA_ADDR).toNat 28 2)) →
    mine ≠ [] → s.brg.held = [] → s.brg.jobs.all (fun j => !j.cycles.isEmpty) = true →
    Answers (.maRead be) s (fun t =>
      bit t ⟨R.BRG_MA_STATUS, 0, 1⟩ = true ∧
      t.brg.jobs = s.brg.jobs ++ [{ who := .mgmt false, serial := s.brg.nextSerial, start := bits (reg s R.BRG_MA_ADDR).toNat 0 26, len := 4, cs := bits (reg s R.BRG_MA_ADDR).toNat 26 2, width := bits (reg s R.BRG_MA_ADDR).toNat 28 2, cycles := [mine] }] ∧
      t.brg.nextSerial = s.brg.nextSerial + 1 ∧ RegsBut [R.BRG_STATUS, R.BRG_MA_STATUS] s t ∧
      t = { s with regs := t.regs, brg := t.brg, out := [] })) ∧
  -- MA_WRITE
  (∀ (be : BitVec 4) (mine : List LbBeat) (s : State), Runs s → bit s ⟨R.BRG_MA_STATUS, 0, 1⟩ = false →
    mine = (wordBeats (bits (reg s R.BRG_MA_ADDR).toNat 28 2) (bits (reg s R.BRG_MA_ADDR).toNat 30 2) (bits (reg s R.BRG_MA_ADDR).toNat 0 26 / 4 * 4) (fun b => if be.toNat.testBit b then some b else none) (bytesLE 4 (reg s R.BRG_MA_DATA).toNat)).filter (fun x => x.addr == bits (reg s R.BRG_MA_ADDR).toNat 0 26 / beatBytes (bits (reg s R.BRG_MA_ADDR).toNat 28 2) * beatBytes (bits (reg s R.BRG_MA_ADDR).toNat 28 2)) →
    mine ≠ [] → s.brg.held = [] → s.brg.jobs.all (fun j => !j.cycles.isEmpty) = true →
    Answers (.maWrite be) s (fun t =>
      bit t ⟨R.BRG_MA_STATUS, 0, 1⟩ = true ∧
      t.brg.jobs = s.brg.jobs ++ [{ who := .mgmt true, serial := s.brg.nextSerial, start := bits (reg s R.BRG_MA_ADDR).toNat 0 26, len := 4, cs := bits (reg s R.BRG_MA_ADDR).toNat 26 2, width := bits (reg s R.BRG_MA_ADDR).toNat 28 2, cycles := [mine] }] ∧
      t.brg.nextSerial = s.brg.nextSerial + 1 ∧ RegsBut [R.BRG_STATUS, R.BRG_MA_STATUS] s t ∧
      t = { s with regs := t.regs, brg := t.brg, out := [] })) ∧
  -- MA_CYCLE_DONE
  (∀ (lanes : List Byte) (j : LbJob) (c : List LbBeat) (s : State), Runs s → cycling s = true →
    s.brg.jobs = [j] → j.who = .mgmt true → j.cycles = [c] → s.brg.held = [] →
    Answers (.maCycleDone 0 lanes) s (fun t =>
      t.brg.jobs = [] ∧ getF t ⟨R.BRG_MA_STATUS, 0, 3⟩ = 0 ∧
      cnt64 t R.BRG_OUT_CYCLES = (cnt64 s R.BRG_OUT_CYCLES + 1) % 2 ^ 64 ∧
      RegsBut [R.BRG_STATUS, R.BRG_MA_STATUS, R.BRG_OUT_CYCLES, R.BRG_OUT_CYCLES + 4] s t ∧
      t = { s with regs := t.regs, brg := t.brg, out := [] })) ∧
  -- LB_REQUEST
  (∀ (s : State), Runs s → brgEn s = true → s.brg.jobs = [] → s.brg.master = false →
    Answers (.lbRequest) s (fun t =>
      t.brg = { s.brg with req := true, master := true } ∧ bit t ⟨R.BRG_STATUS, 0, 1⟩ = true ∧
      RegsBut [R.BRG_STATUS] s t ∧ t = { s with regs := t.regs, brg := t.brg, out := [] })) ∧
  -- LB_REQUEST_RELEASE
  (∀ (s : State), Runs s →
    Answers (.lbRequestRelease) s (fun t =>
      t.brg = { s.brg with req := false, master := false } ∧ bit t ⟨R.BRG_STATUS, 0, 1⟩ = false ∧
      RegsBut [R.BRG_STATUS] s t ∧ t = { s with regs := t.regs, brg := t.brg, out := [] })) ∧
  -- LB_GRANT_MAX_EXPIRY
  (∀ (s : State), Runs s → s.brg.master = true → s.brg.jobs ≠ [] →
    Answers (.lbGrantMaxExpiry) s (fun t =>
      bit t ⟨R.BRG_STATUS, 0, 1⟩ = false ∧ RegsBut [R.BRG_STATUS] s t ∧ OnlyRegs s t ∧ t.out = [])) ∧
  -- LB_INT_LOW
  (∀ (low : Bool) (s : State), Runs s →
    Answers (.lbIntLow low) s (fun t =>
      bit t ⟨R.BRG_STATUS, 1, 1⟩ = low ∧ (low = true →
      OnlyRaised 90 ((free s).toNat % 65536) { s with freeIdx := s.freeIdx + 1 } t) ∧ (low = false → OnlyRegs s t) ∧
      RegsBut [R.BRG_STATUS, R.CDC_OVERRUN_EVENTS] s t)) ∧
  -- INBOUND_CYCLE
  (∀ (addr : BitVec 26) (be : List (BitVec 4)) (lanes : List (List Byte)) (i : Nat) (ws : List (Nat × List Byte)) (s : State), Runs s →
    be.length ≤ 16 → brgEn s = true → s.brg.master = true → inboundWindow s addr.toNat = some i →
    (inWindow s i).target = false → s.brg.inbuf = [] →
    ws = (enabledRuns 0 (beatsToBytes (inWindow s i).swap be lanes).1).map (fun r => (inPcie s i + (addr.toNat / 4 * 4 + r.1 - (inWindow s i).lb), ((beatsToBytes (inWindow s i).swap be lanes).2.drop r.1).take r.2)) →
    (ws.map (fun w => w.2.length)).sum ≤ 1024 →
    Answers (.inboundCycle addr true be lanes) s (fun t =>
      t = kept s (drainInbound (emit (.lbAnswer 0 []) (bump64 R.BRG_IN_CYCLES { clearOut s with brg := { (dropPrefetches s).brg with inbuf := ws } }))))) ∧
  -- INBOUND_CYCLE
  (∀ (addr : BitVec 26) (be : List (BitVec 4)) (lanes : List (List Byte)) (i : Nat) (ws : List (Nat × List Byte)) (s : State), Runs s →
    upstreamUp s = false → be.length ≤ 16 → brgEn s = true → s.brg.master = true →
    inboundWindow s addr.toNat = some i → (inWindow s i).target = false →
    ws = (enabledRuns 0 (beatsToBytes (inWindow s i).swap be lanes).1).map (fun r => (inPcie s i + (addr.toNat / 4 * 4 + r.1 - (inWindow s i).lb), ((beatsToBytes (inWindow s i).swap be lanes).2.drop r.1).take r.2)) →
    (s.brg.inbuf.map (fun w => w.2.length)).sum + (ws.map (fun w => w.2.length)).sum ≤ 1024 →
    Answers (.inboundCycle addr true be lanes) s (fun t =>
      t.brg = { (dropPrefetches s).brg with inbuf := s.brg.inbuf ++ ws } ∧ t.out = [.lbAnswer 0 []] ∧
      cnt64 t R.BRG_IN_CYCLES = (cnt64 s R.BRG_IN_CYCLES + 1) % 2 ^ 64 ∧
      RegsBut [R.BRG_IN_CYCLES, R.BRG_IN_CYCLES + 4] s t)) ∧
  -- INBOUND_CYCLE
  (∀ (addr : BitVec 26) (be : List (BitVec 4)) (lanes : List (List Byte)) (i a : Nat) (s : State), Runs s →
    upIsTunnel s = false → bit s (fDlUp 0) = true → be.length ≤ 16 → brgEn s = true → s.brg.master = true →
    inboundWindow s addr.toNat = some i → (inWindow s i).target = false →
    a = inPcie s i + (addr.toNat / 4 * 4 - (inWindow s i).lb) → bridgeMay s a = true → vdpOfAddr s a = none →
    acsOn s 5 0 = false → s.brg.inbuf = [] → matchSlot s (addr.toNat / 4 * 4) (beKey be) be.length = none →
    (List.range 4).all (fun k => (slotGet s.brg k).isSome) = false →
    Answers (.inboundCycle addr false be lanes) s (fun t =>
      t.out = [.pcieRequest (functionId s cBridge) (nextTag s) false a (4 * be.length) []] ∧
      t.brg = { (dropPrefetches s).brg with asked := s.brg.asked + 1, current := some { addr := addr.toNat / 4 * 4, be := beKey be, beats := be.length, tag := nextTag s } } ∧
      cnt64 t R.BRG_IN_CYCLES = (cnt64 s R.BRG_IN_CYCLES + 1) % 2 ^ 64 ∧
      RegsBut [R.BRG_IN_CYCLES, R.BRG_IN_CYCLES + 4, R.PCIE_TX_TLPS 0, R.PCIE_TX_TLPS 0 + 4, R.PCIE_STATUS 0] s t)) ∧
  -- INBOUND_READ_DEFER
  (∀ (d : LbSlot) (k : Nat) (s : State), Runs s → brgEn s = true → s.brg.current = some d →
    (List.range 4).find? (fun k => (slotGet s.brg k).isNone) = some k →
    Answers (.inboundReadDefer) s (fun t =>
      slotGet t.brg k = some d ∧ t.brg.current = none ∧ t.out = [.lbAnswer 1 []] ∧ RegsBut [R.BRG_STATUS] s t)) ∧
  -- DT_COMPLETION_ARRIVAL
  (∀ (slot status : Fin 5) (data : List Byte) (d : LbSlot) (s : State), Runs s → slot.val < 4 →
    slotGet s.brg slot = some d → d.done = none →
    Answers (.dtCompletionArrival slot status data) s (fun t =>
      t = slotSet slot (some { d with done := some (status.val, data), after := lastSerial s }) { s with out := [] })) ∧
  -- DT_SLOT_EXPIRY
  (∀ (slot : Fin 4) (d : LbSlot) (s : State), Runs s → slotGet s.brg slot = some d → d.done ≠ none →
    Answers (.dtSlotExpiry slot) s (fun t =>
      slotGet t.brg slot = none ∧ reg t R.BRG_DT_EXPIRED = reg s R.BRG_DT_EXPIRED + 1 ∧
      RegsBut [R.BRG_DT_EXPIRED, R.BRG_STATUS] s t ∧ t = { s with regs := t.regs, brg := t.brg, out := [] }))

/-- The hubs are enabled, their ports powered, reset and disabled, and suspend and wake act, under the conditions written
out. The model's own readings: log entries 57, 58. After: R238, R239, R240, R241, R244, R245, R256, 10_usb_hub_and_device.md
Table 10-4. -/
def Obligations.UsbHubCommandsComplete : Prop :=
  -- USB_HUB_ENABLE
  (∀ (v : Word) (s : State), Runs s → Unpaired s → bit s fEn2 = false → v.toNat % 2 = 1 →
    upBad (bits v.toNat 1 3) (getF s fUp3) = false →
    Answers (.usbHubEnable false v) s (fun t =>
      bit t fEn2 = true ∧ t.usb.up2 = (if bits v.toNat 1 3 = 5 then 7 else bits v.toNat 1 3) ∧
      (∀ p ∈ ([5, 6, 7] : List Nat), smGet (fun _ => false) t.usb.power p = true) ∧
      (∀ p ∈ ([1, 2, 3, 4, 5, 6, 7] : List Nat), getF t (fPort p) = if getF s (fPortMode p) = 1 ∨
      getF s (fPortMode p) = 2 then psDisconnected else psOff) ∧
      RegsBut ([R.USB2_CTRL, R.USB3_CTRL, R.USB3_PORT_STATUS 4, R.USB3_PORT_STATUS 5] ++ (List.range 8).map R.USB2_TP_STATUS ++ (List.range 7).map R.USB2_PORT_STATUS) s t)) ∧
  -- USB_UP_VBUS_DETECT
  (∀ (s : State), Runs s → bit s fEn2 = true → upServes s s.usb.up2 = true →
    (bit s fEn3 && upServes s s.usb.up3) = false → mode s ≠ mStandby →
    Answers (.usbUpVbusDetect) s (fun t =>
      t.usb = { s.usb with pullup := true } ∧ getF t ⟨R.USB2_STATUS, 0, 2⟩ = 3 ∧ RegsBut [R.USB2_STATUS] s t ∧
      t = { s with regs := t.regs, usb := t.usb, out := [] })) ∧
  -- USB_UP_VBUS_DETECT
  (∀ (s : State), Runs s → (bit s fEn2 && upServes s s.usb.up2) = false → bit s fEn3 = true →
    upServes s s.usb.up3 = true → mode s ≠ mStandby →
    Answers (.usbUpVbusDetect) s (fun t =>
      t.usb = { s.usb with rxDetect := true } ∧ (getF t ⟨R.USB3_STATUS, 0, 4⟩ = plsU0 ∨
      getF t ⟨R.USB3_STATUS, 0, 4⟩ = plsRxDetect) ∧ RegsBut [R.USB3_STATUS] s t ∧
      t = { s with regs := t.regs, usb := t.usb, freeIdx := t.freeIdx, out := [] })) ∧
  -- USB_UP_LINK_LOSS
  (∀ (ss : Bool) (s : State), Runs s →
    Answers (.usbUpLinkLoss ss) s (fun t =>
      (ss = false → t.usb = { s.usb with pullup := false } ∧ getF t ⟨R.USB2_STATUS, 0, 5⟩ = 0 ∧
      getF t ⟨R.USB2_STATUS, 16, 7⟩ = 0) ∧ (ss = true → t.usb = s.usb ∧ getF t ⟨R.USB3_STATUS, 0, 4⟩ = plsRxDetect ∧
      bit t ⟨R.USB3_STATUS, 5, 1⟩ = false) ∧ OnlyRaised 80 (if ss then 1 else 0) { s with usb := t.usb } t ∧
      RegsBut [R.USB2_STATUS, R.USB3_STATUS, R.CDC_OVERRUN_EVENTS] s t)) ∧
  -- LOCAL_PORT_OVERCURRENT
  (∀ (p : Fin 3) (s : State), Runs s →
    Answers (.localPortOvercurrent ⟨p, true⟩) s (fun t =>
      getF t (fPort (5 + p)) = psOff ∧ bit t (fPortOc (5 + p)) = true ∧
      smGet (fun _ => false) t.usb.power (5 + p) = false ∧ (natGet t.usb.change (5 + p)).testBit 3 = true ∧
      OnlyRaised 81 (5 + p.val + 0x200) { s with usb := t.usb } t ∧
      RegsBut [R.USB2_PORT_STATUS (4 + p), R.USB3_PORT_STATUS (4 + p), R.CDC_OVERRUN_EVENTS] s t)) ∧
  -- LOCAL_PORT_OVERCURRENT
  (∀ (p : Fin 3) (s : State), Runs s → bit s (fPortOc (5 + p)) = true →
    Answers (.localPortOvercurrent ⟨p, false⟩) s (fun t =>
      getF t (fPort (5 + p)) = getF s (fPort (5 + p)) ∧ bit t (fPortOc (5 + p)) = false ∧
      (natGet t.usb.change (5 + p)).testBit 3 = true ∧
      RegsBut [R.USB2_PORT_STATUS (4 + p), R.USB3_PORT_STATUS (4 + p)] s t ∧
      t = { s with regs := t.regs, usb := t.usb, out := [] })) ∧
  -- SET_PORT_POWER
  (∀ (p : BitVec 5) (s : State), Runs s → 5 ≤ p.toNat → p.toNat ≤ 7 → bit s fEn2 = true →
    getF s (fPort p.toNat) = psOff →
    Answers (.setPortPower p true true) s (fun t =>
      getF t (fPort p.toNat) = psDisconnected ∧ bit t (fPortOc p.toNat) = false ∧
      smGet (fun _ => false) t.usb.power p.toNat = true ∧ (p.toNat ≤ 6 → getF t (fPls3 p.toNat) = plsRxDetect) ∧
      RegsBut [R.USB2_PORT_STATUS (p.toNat - 1), R.USB3_PORT_STATUS (p.toNat - 1)] s t ∧
      t = { s with regs := t.regs, usb := t.usb, out := [] })) ∧
  -- SET_PORT_POWER
  (∀ (p : BitVec 5) (s : State), Runs s → 5 ≤ p.toNat → p.toNat ≤ 7 → bit s fEn2 = true →
    Answers (.setPortPower p false false) s (fun t =>
      getF t (fPort p.toNat) = psOff ∧ smGet (fun _ => false) t.usb.power p.toNat = false ∧
      RegsBut [R.USB2_PORT_STATUS (p.toNat - 1), R.USB3_PORT_STATUS (p.toNat - 1)] s t ∧
      t = { s with regs := t.regs, usb := t.usb, out := [] })) ∧
  -- PORT_ERROR_DISABLE
  (∀ (p : BitVec 3) (s : State), Runs s → p ≠ 0 → 2 ≤ getF s (fPort p.toNat) →
    Answers (.portErrorDisable p false) s (fun t =>
      getF t (fPort p.toNat) = psDisabled ∧ (natGet t.usb.change p.toNat).testBit 1 = true ∧
      reg t R.USB2_PORT_ERRORS = reg s R.USB2_PORT_ERRORS + 1 ∧ OnlyRaised 81 p.toNat { s with usb := t.usb } t ∧
      RegsBut [R.USB2_PORT_STATUS (p.toNat - 1), R.USB2_PORT_ERRORS, R.CDC_OVERRUN_EVENTS] s t)) ∧
  -- USB_PORT_CONNECT_CHANGE
  (∀ (p : BitVec 3) (att ls : Bool) (s : State), Runs s → p ≠ 0 → getF s (fPort p.toNat) ≠ psOff →
    Answers (.usbPortConnectChange p false att ls) s (fun t =>
      getF t (fPort p.toNat) = (if att then psDisabled else psDisconnected) ∧ bit t (fPortLs p.toNat) = (att && ls) ∧
      bit t (fPortHs p.toNat) = false ∧ (getF s (fPortMode p.toNat) = 1 →
      (natGet t.usb.change p.toNat).testBit 0 = true) ∧ RegsBut [R.USB2_PORT_STATUS (p.toNat - 1)] s t ∧
      t = { s with regs := t.regs, usb := t.usb, out := [] })) ∧
  -- HUB_PORT_FEATURE_REQUEST
  (∀ (p : BitVec 5) (s : State), Runs s → 1 ≤ p.toNat → p.toNat ≤ 7 → getF s (fPortMode p.toNat) = 1 →
    2 ≤ getF s (fPort p.toNat) →
    Answers (.hubPortFeatureRequest p .reset) s (fun t =>
      getF t (fPort p.toNat) = psResetting ∧ RegsBut [R.USB2_PORT_STATUS (p.toNat - 1)] s t ∧ OnlyRegs s t ∧
      t.out = [])) ∧
  -- HUB_PORT_FEATURE_REQUEST
  (∀ (p : BitVec 5) (hs : Bool) (s : State), Runs s → 1 ≤ p.toNat → p.toNat ≤ 7 →
    getF s (fPortMode p.toNat) = 1 → getF s (fPort p.toNat) = psResetting →
    Answers (.hubPortFeatureRequest p (.resetDone hs)) s (fun t =>
      getF t (fPort p.toNat) = psEnabled ∧ bit t (fPortHs p.toNat) = hs ∧
      (natGet t.usb.change p.toNat).testBit 4 = true ∧ RegsBut [R.USB2_PORT_STATUS (p.toNat - 1)] s t ∧
      t = { s with regs := t.regs, usb := t.usb, out := [] })) ∧
  -- HUB_PORT_FEATURE_REQUEST
  (∀ (p : BitVec 5) (s : State), Runs s → p = 8 → 2 ≤ s.usb.port8 →
    Answers (.hubPortFeatureRequest p .reset) s (fun t =>
      t.usb.port8 = psResetting)) ∧
  -- HUB_PORT_FEATURE_REQUEST
  (∀ (p : BitVec 5) (hs : Bool) (s : State), Runs s → p = 8 → s.usb.port8 = psResetting →
    Answers (.hubPortFeatureRequest p (.resetDone hs)) s (fun t =>
      t.usb.port8 = psEnabled ∧ (natGet t.usb.change 8).testBit 4 = true)) ∧
  -- HUB_PORT_FEATURE_REQUEST
  (∀ (p : BitVec 5) (r : StdRequest) (s : State), Runs s → bit s fEn2 = true →
    Answers (.hubPortFeatureRequest p (.ofHub false r)) s (fun t =>
      t = kept s (stdRequest .hub2 r (clearOut s)))) ∧
  -- HUB_PORT_FEATURE_REQUEST
  (∀ (p : BitVec 5) (r : StdRequest) (s : State), Runs s → devOn s = true →
    Answers (.hubPortFeatureRequest p (.ofDevice r)) s (fun t =>
      t = kept s (stdRequest .device r (setupArrives (clearOut s))))) ∧
  -- HUB_PORT_FEATURE_REQUEST
  (∀ (p : BitVec 5) (r : TtRequest) (s : State), Runs s → bit s fEn2 = true →
    Answers (.hubPortFeatureRequest p (.tt r)) s (fun t =>
      t = kept s (ttRequest p.toNat r (clearOut s)))) ∧
  -- HUB_PORT_FEATURE_REQUEST
  (∀ (p : BitVec 5) (s : State), Runs s → 9 ≤ p.toNat → p.toNat ≤ 16 →
    bit s ⟨R.USB2_TP_CTRL (p.toNat - 9), 0, 1⟩ = true → 2 ≤ getF s (fTp (p.toNat - 9)) →
    Answers (.hubPortFeatureRequest p .suspend) s (fun t =>
      inqGet t 8 = inqGet s 8 ++ [{ tag := 0x10 + (p.toNat - 9), data := [3, 2, 0, 0, 0, 0, 0, 0] }] ∧
      RegsBut [] s t ∧ t = { s with regs := t.regs, inq := t.inq, out := [] })) ∧
  -- HUB_PORT_FEATURE_REQUEST
  (∀ (p : BitVec 5) (s : State), Runs s → p = 8 → s.usb.port8 = psEnabled →
    Answers (.hubPortFeatureRequest p .suspend) s (fun t =>
      t.usb.port8 = psSuspended ∧ bit t ⟨R.USBD_STATUS, 2, 1⟩ = true)) ∧
  -- HUB_PORT_FEATURE_REQUEST
  (∀ (p : BitVec 5) (s : State), Runs s → 1 ≤ p.toNat → p.toNat ≤ 7 → getF s (fPortMode p.toNat) = 1 →
    getF s (fPort p.toNat) = psEnabled → bit s ⟨R.USB2_CTRL, 5, 1⟩ = true →
    Answers (.hubPortFeatureRequest p .l1) s (fun t =>
      getF t (fPort p.toNat) = psL1 ∧ reg t R.USB2_L1_ENTRIES = reg s R.USB2_L1_ENTRIES + 1 ∧
      RegsBut [R.USB2_PORT_STATUS (p.toNat - 1), R.USB2_L1_ENTRIES] s t ∧ OnlyRegs s t ∧ t.out = [])) ∧
  -- HUB_PORT_FEATURE_REQUEST
  (∀ (p : BitVec 5) (s : State), Runs s → 1 ≤ p.toNat → p.toNat ≤ 16 → bit s fEn2 = true →
    Answers (.hubPortFeatureRequest p (.getStatus false)) s (fun t =>
      t = { s with out := [.usb 0x4B (bytesLE 2 (portStatusWord s p.toNat) ++ bytesLE 2 (natGet s.usb.change p.toNat))] })) ∧
  -- HUB_PORT_FEATURE_REQUEST
  (∀ (p : BitVec 5) (c : Byte) (s : State), Runs s →
    Answers (.hubPortFeatureRequest p (.setConfiguration false c)) s (fun t =>
      bit t ⟨R.USB2_STATUS, 2, 1⟩ = decide (c ≠ 0) ∧ toggleGet t 9 = false ∧ RegsBut [R.USB2_STATUS] s t ∧
      t = { s with regs := t.regs, usb := t.usb, out := [] })) ∧
  -- HUB_PORT_FEATURE_REQUEST
  (∀ (p : BitVec 5) (s : State), Runs s → s.usb.halt2 = false → ((changeMap s false).all (· == 0)) = false →
    Answers (.hubPortFeatureRequest p (.statusPoll false)) s (fun t =>
      t.out = [.usb (if toggleGet s 9 then 0x4B else 0xC3) (changeMap s false)] ∧ toggleGet t 9 = !toggleGet s 9 ∧
      RegsBut [] s t)) ∧
  -- USB3_PACKET_FRAME
  (∀ (tag : Byte) (frame : List Byte) (s : State), Runs s → tag.toNat ≤ 3 → byteAt frame 0 = 1 →
    20 ≤ frame.length → frame.length ≤ 1044 → bit s (fVirtual3 (tag.toNat + 1)) = true →
    Answers (.usb3PacketFrame tag frame false) s (fun t =>
      t.out = [.usb3 (tag.toNat + 1) (frame.drop 4)] ∧ cnt64 t R.USB3_PKT_RX = (cnt64 s R.USB3_PKT_RX + 1) % 2 ^ 64 ∧
      RegsBut [R.USB3_PKT_RX, R.USB3_PKT_RX + 4] s t ∧ OnlyRegs s t)) ∧
  -- USB3_LINK_STATE_FRAME
  (∀ (tag : Byte) (frame : List Byte) (s : State), Runs s → tag.toNat ≤ 3 → frame.length = 4 →
    byteAt frame 0 = 2 → byteAt frame 1 = 3 → bit s (fVirtual3 (tag.toNat + 1)) = true →
    pairUp s 2 8 tag.toNat = true →
    Answers (.usb3LinkStateFrame tag frame) s (fun t =>
      getF t (fPls3 (tag.toNat + 1)) = plsU3 ∧ natGet t.usb.far tag.toNat = 4 ∧
      RegsBut [R.USB3_PORT_STATUS tag.toNat] s t ∧ t = { s with regs := t.regs, usb := t.usb, out := [] })) ∧
  -- USB_BUS_SUSPEND
  (∀ (hubWake devWake : Bool) (s : State), Runs s → bit s ⟨R.USB2_STATUS, 0, 1⟩ = true →
    Answers (.usbBusSuspend false ⟨hubWake, devWake⟩) s (fun t =>
      t.usb = { s.usb with hubWake := s.usb.hubWake || hubWake, devWake := s.usb.devWake || devWake } ∧
      bit t ⟨R.USB2_STATUS, 3, 1⟩ = true ∧ bit t ⟨R.USBD_STATUS, 2, 1⟩ = true ∧
      bit t ⟨R.USBD_STATUS, 4, 1⟩ = (s.usb.hubWake || hubWake || s.usb.devWake || devWake) ∧
      RegsBut [R.USB2_STATUS, R.USBD_STATUS] s t ∧ t = { s with regs := t.regs, usb := t.usb, out := [] })) ∧
  -- USB_BUS_SUSPEND
  (∀ (hubWake devWake : Bool) (s : State), Runs s → bit s ⟨R.USB2_CTRL, 5, 1⟩ = true →
    bit s ⟨R.USB2_STATUS, 0, 1⟩ = true →
    Answers (.usbBusSuspend true ⟨hubWake, devWake⟩) s (fun t =>
      t.out = [.usb pidAck []] ∧ bit t ⟨R.USB2_STATUS, 4, 1⟩ = true ∧ bit t ⟨R.USBD_STATUS, 3, 1⟩ = true ∧
      reg t R.USB2_L1_ENTRIES = reg s R.USB2_L1_ENTRIES + 1 ∧
      RegsBut [R.USB2_STATUS, R.USBD_STATUS, R.USB2_L1_ENTRIES] s t ∧ OnlyRegs s t)) ∧
  -- USB_HOST_RESUME
  (∀ (s : State), Runs s → s.usb.driving = none → s.usb.port8 ≠ psSuspended →
    Answers (.usbHostResume) s (fun t =>
      bit t ⟨R.USB2_STATUS, 3, 1⟩ = false ∧ bit t ⟨R.USB2_STATUS, 4, 1⟩ = false ∧
      bit t ⟨R.USBD_STATUS, 3, 1⟩ = false ∧ bit t ⟨R.USBD_STATUS, 2, 1⟩ = false ∧
      bit t ⟨R.USBD_STATUS, 4, 1⟩ = false ∧ RegsBut [R.USB2_STATUS, R.USBD_STATUS] s t ∧ OnlyRegs s t ∧ t.out = [])) ∧
  -- REMOTE_WAKE
  (∀ (n : BitVec 7) (kSeen : Bool) (s : State), Runs s → bit s ⟨R.USBD_STATUS, 4, 1⟩ = true →
    s.usb.devWake = true → bit s ⟨R.USBD_CTRL, 2, 1⟩ = true → getF s ⟨R.USBD_CTRL, 8, 3⟩ ≤ severityOf n.toNat s →
    s.usb.driving = none →
    Answers (.remoteWake (some n) kSeen) s (fun t =>
      t = { s with usb := { s.usb with driving := some (n.toNat, kSeen) }, out := [] })) ∧
  -- REMOTE_WAKE_END
  (∀ (src : Nat) (k : Bool) (s : State), Runs s → s.usb.driving = some (src, k) →
    Answers (.remoteWakeEnd) s (fun t =>
      t.usb = { s.usb with driving := none } ∧ bit t ⟨R.USBD_WAKE_STATUS, 0, 1⟩ = true ∧
      reg t R.USBD_WAKES = reg s R.USBD_WAKES + 1 ∧ (bit s ⟨R.USBD_WAKE_STATUS, 0, 1⟩ = false →
      getF t ⟨R.USBD_WAKE_STATUS, 8, 8⟩ = src % 256) ∧ bit t ⟨R.USB2_STATUS, 3, 1⟩ = false ∧
      RegsBut [R.USB2_STATUS, R.USBD_STATUS, R.USBD_WAKE_STATUS, R.USBD_WAKES, R.USBD_WAKE_COLLISIONS] s t ∧
      t = { s with regs := t.regs, usb := t.usb, out := [] }))

/-- Remote transaction translators forward splits, take results and follow the dock's ports, under the conditions written
out. The model's own readings: log entries 57. After: R247, R248, R249, R250. -/
def Obligations.TranslatorCommandsComplete : Prop :=
  -- START_SPLIT
  (∀ (k : Fin 8) (pid : Byte) (isIn : Bool) (dev : BitVec 7) (ls : Bool) (ep : BitVec 4) (kind : Fin 4) (frameNo : BitVec 11) (uframe : BitVec 3) (dataPid : Byte) (data : List Byte) (s : State), Runs s →
    bit s (fBound k) = true → bit s ⟨R.USB2_TP_CTRL k, 0, 1⟩ = true → kind.val < 2 → (ttGet s k).np.length < 2 →
    (ttGet s k).stopped = false →
    Answers (.startSplit k pid isIn dev ls ep kind frameNo uframe dataPid data) s (fun t =>
      t.out = [.usb pidAck []] ∧
      (ttGet t k).np = (ttGet s k).np ++ [{ handle := (ttGet s k).nextHandle % 256, dev := dev.toNat, ep := ep.toNat, isIn := isIn, uframe := uframe.toNat }] ∧
      inqGet t 8 = inqGet s 8 ++ [{ tag := 0x10 + k.val, data := [1, BitVec.ofNat 8 ((ttGet s k).nextHandle % 256), pid, BitVec.ofNat 8 (dev.toNat + if ls then 128 else 0), BitVec.ofNat 8 (ep.toNat + kind.val * 16)] ++ bytesBE 2 (frameNo.toNat + uframe.toNat * 2048) ++ [if isIn then 0 else dataPid] ++ bytesBE 2 (data.take 64).length ++ data.take 64 }] ∧
      cnt64 t R.USB2_SPLITS_FWD = (cnt64 s R.USB2_SPLITS_FWD + 1) % 2 ^ 64 ∧
      RegsBut [R.USB2_SPLITS_FWD, R.USB2_SPLITS_FWD + 4, R.USB2_TP_STATUS k] s t)) ∧
  -- COMPLETE_SPLIT
  (∀ (k : Fin 8) (dev : BitVec 7) (ep : BitVec 4) (isIn : Bool) (sp : Split) (pid : Nat) (data : List Byte) (s : State), Runs s →
    (ttGet s k).err.contains (dev.toNat, ep.toNat, isIn) = false →
    ((ttGet s k).np ++ (ttGet s k).per).find? (fun x => x.is dev.toNat ep.toNat isIn) = some sp →
    sp.expired = false → sp.result = some (pid, data) →
    Answers (.completeSplit k dev ep isIn) s (fun t =>
      t.out = [.usb (if pid = 0 then pidErr else pid) data] ∧
      (ttGet t k).np = (ttGet s k).np.filter (fun x => x.handle != sp.handle) ∧
      (ttGet t k).per = (ttGet s k).per.filter (fun x => x.handle != sp.handle) ∧ RegsBut [R.USB2_TP_STATUS k] s t)) ∧
  -- TT_SPLIT_RESULT_FRAME
  (∀ (k : Fin 8) (frame : List Byte) (late : Bool) (s : State), Runs s → byteAt frame 0 = 2 →
    ofBE (sub frame 8 2) ≤ 64 → frame.length = 10 + ofBE (sub frame 8 2) →
    (ttGet s k).np.any (fun x => x.handle == byteAt frame 1) = true →
    Answers (.ttSplitResultFrame k frame late) s (fun t =>
      (ttGet t k).np = (ttGet s k).np.map (fun x => if x.handle = byteAt frame 1 ∧
      !x.expired then { x with result := some (byteAt frame 2, frame.drop 10) } else x) ∧
      (ttGet t k).per = (ttGet s k).per ∧ RegsBut [R.USB2_TP_STATUS k] s t ∧
      t = { s with regs := t.regs, usb := t.usb, out := [] })) ∧
  -- TT_TIMEOUT_EXPIRY
  (∀ (k : Fin 8) (handle : Byte) (s : State), Runs s →
    (ttGet s k).np.any (fun x => x.handle == handle.toNat && x.result.isNone && !x.expired) = true →
    Answers (.ttTimeoutExpiry k handle) s (fun t =>
      (ttGet t k).np = (ttGet s k).np.map (fun x => if x.handle == handle.toNat && x.result.isNone && !x.expired then { x with expired := true } else x) ∧
      reg t R.USB2_REMOTE_TIMEOUTS = reg s R.USB2_REMOTE_TIMEOUTS + 1 ∧
      RegsBut [R.USB2_TP_STATUS k, R.USB2_REMOTE_TIMEOUTS, R.CDC_OVERRUN_EVENTS] s t)) ∧
  -- TT_PORT_STATUS_FRAME
  (∀ (k : Fin 8) (frame : List Byte) (s : State), Runs s → byteAt frame 0 = 4 → frame.length = 8 →
    bit s ⟨R.USB2_TP_CTRL k, 0, 1⟩ = true → pairUp s 3 8 (0x10 + k) = true →
    Answers (.ttPortStatusFrame k frame) s (fun t =>
      getF t (fTp k) = stateOfStatus (ofBE (sub frame 2 2)) ∧ bit t (fBound k) = true ∧
      (ttGet t k).wStatus = ofBE (sub frame 2 2) ∧ RegsBut [R.USB2_TP_STATUS k] s t ∧
      t = { s with regs := t.regs, usb := t.usb, out := [] })) ∧
  -- PORT_STATUS_TIMEOUT
  (∀ (k : Fin 8) (s : State), Runs s → bit s (fBound k) = true →
    Answers (.portStatusTimeout k) s (fun t =>
      getF t (fTp k) = psDisconnected ∧ bit t (fBound k) = false ∧
      (ttGet t k).np = (ttGet s k).np.map (fun x => { x with expired := true }) ∧
      (ttGet t k).per = (ttGet s k).per.map (fun x => { x with expired := true }) ∧
      reg t R.USB2_UNBINDS = reg s R.USB2_UNBINDS + 1 ∧ OnlyRaised 83 k { s with usb := t.usb } t ∧
      RegsBut [R.USB2_TP_STATUS k, R.USB2_UNBINDS, R.CDC_OVERRUN_EVENTS] s t)) ∧
  -- TT_SPLIT_REQ_FRAME
  (∀ (p : BitVec 3) (frame : List Byte) (pid : Byte) (data : List Byte) (s : State), Runs s → p ≠ 0 →
    byteAt frame 0 = 1 → ofBE (sub frame 8 2) ≤ 64 → frame.length = 10 + ofBE (sub frame 8 2) →
    isRemote s p.toNat = true → getF s (fPort p.toNat) = psEnabled → byteAt frame 2 % 16 = 9 →
    Answers (.ttSplitReqFrame p frame pid data) s (fun t =>
      inqGet t 8 = inqGet s 8 ++ [{ tag := 0x18 + p.toNat, data := [2, BitVec.ofNat 8 (byteAt frame 1), pid, 0, 0] ++ sub frame 5 2 ++ [0] ++ bytesBE 2 (data.take 64).length ++ data.take 64 }] ∧
      RegsBut [] s t ∧ t = { s with regs := t.regs, inq := t.inq, out := [] })) ∧
  -- TT_PORT_CMD_FRAME
  (∀ (p : BitVec 3) (frame : List Byte) (chirp : Bool) (s : State), Runs s → p ≠ 0 → byteAt frame 0 = 3 →
    frame.length = 8 → isRemote s p.toNat = true → 2 ≤ getF s (fPort p.toNat) → byteAt frame 1 = 1 →
    Answers (.ttPortCmdFrame p frame chirp) s (fun t =>
      getF t (fPort p.toNat) = psResetting ∧ bit t (fPortChirp p.toNat) = chirp ∧
      RegsBut [R.USB2_PORT_STATUS (p.toNat - 1)] s t ∧ OnlyRegs s t ∧ t.out = [])) ∧
  -- TT_PORT_CMD_FRAME
  (∀ (p : BitVec 3) (frame : List Byte) (chirp : Bool) (s : State), Runs s → p ≠ 0 → byteAt frame 0 = 3 →
    frame.length = 8 → isRemote s p.toNat = true → getF s (fPort p.toNat) = psEnabled → byteAt frame 1 = 2 →
    Answers (.ttPortCmdFrame p frame chirp) s (fun t =>
      getF t (fPort p.toNat) = psSuspended ∧ RegsBut [R.USB2_PORT_STATUS (p.toNat - 1)] s t ∧ OnlyRegs s t ∧
      t.out = [])) ∧
  -- PORT_STATUS_TIMER
  (∀ (p : BitVec 3) (s : State), Runs s → isRemote s p.toNat = true → (6 < p.toNat ∨
    bit s (fConn3 p.toNat) = false ∨ bit s (fVirtual3 p.toNat) = true) →
    Answers (.portStatusTimer p) s (fun t =>
      inqGet t 8 = inqGet s 8 ++ [{ tag := 0x18 + p.toNat, data := [4, 0] ++ bytesBE 2 (wPortStatus (getF s (fPort p.toNat)) (bit s (fPortLs p.toNat)) false (portOc s p.toNat) (portPowered s p.toNat)) ++ [BitVec.ofNat 8 (getF s (fPortChirp p.toNat)), 0, 0, 0] }] ∧
      RegsBut [] s t ∧ t = { s with regs := t.regs, inq := t.inq, out := [] }))

/-- Type-C ports attach, detach, close their switch, are reset hard and trip, under the conditions written out. The model's
own readings: log entries 61, 62, 65. After: R258, R259, R265, R267, R269, R270, R274, 11_type_c_and_power_delivery.md Table
11-3, 11_type_c_and_power_delivery.md Table 11-4. -/
def Obligations.TypeCAttachCommandsComplete : Prop :=
  -- CC_ATTACH
  (∀ (n : Fin 4) (cc2 : Bool) (s : State), Powered s → cc s n = ccUnattached → (tcGet s n).role = 0 →
    Answers (.ccAttach n cc2) s (fun t =>
      cc t n = ccSnk ∧ bit t (fOrient n) = cc2 ∧ bit t (fPwrRole n) = false ∧ bit t (fDataRole n) = false ∧
      (tcGet t n).wantClose = true ∧ (tcGet t n).vconn = false ∧
      reg t (R.TC_ATTACHES n) = reg s (R.TC_ATTACHES n) + 1 ∧ RegsBut [R.TC_STATUS n, R.TC_ATTACHES n] s t ∧
      t = { s with regs := t.regs, tc := t.tc, out := [] })) ∧
  -- CC_ATTACH
  (∀ (n : Fin 4) (cc2 : Bool) (s : State), Powered s → cc s n = ccUnattached → (tcGet s n).role = 1 →
    Answers (.ccAttach n cc2) s (fun t =>
      cc t n = ccSrc ∧ bit t (fOrient n) = cc2 ∧ bit t (fPwrRole n) = true ∧ bit t (fDataRole n) = true ∧
      (tcGet t n).wantClose = true ∧ (tcGet t n).vconn = true ∧ (getF s ⟨R.TC_VSET_CAL n, 16, 16⟩ ≠ 0 →
      (reg t (R.TC_VSET_CODE n)).toNat = min 1023 (((5000 - getF s ⟨R.TC_VSET_CAL n, 0, 16⟩) * 1000 + getF s ⟨R.TC_VSET_CAL n, 16, 16⟩ / 2) / getF s ⟨R.TC_VSET_CAL n, 16, 16⟩)) ∧
      reg t (R.TC_ATTACHES n) = reg s (R.TC_ATTACHES n) + 1 ∧
      RegsBut [R.TC_STATUS n, R.TC_ATTACHES n, R.TC_VSET_CODE n] s t)) ∧
  -- CC_ATTACH
  (∀ (n : Fin 4) (cc2 : Bool) (s : State), Powered s → cc s n = ccUnattached → (tcGet s n).role = 2 →
    ((tcGet s n).tryRole = 1 ∧ (tcGet s n).presentSrc = false ∨ (tcGet s n).tryRole = 2 ∧
    (tcGet s n).presentSrc = true) →
    Answers (.ccAttach n cc2) s (fun t =>
      cc t n = ccTry ∧ (tcGet t n).presentSrc = !(tcGet s n).presentSrc ∧ RegsBut [R.TC_STATUS n] s t ∧
      t = { s with regs := t.regs, tc := t.tc, out := [] })) ∧
  -- CC_ATTACH
  (∀ (n : Fin 4) (cc2 : Bool) (s : State), Powered s → cc s n = ccTry →
    Answers (.ccAttach n cc2) s (fun t =>
      cc t n = (if (tcGet s n).presentSrc then ccSrc else ccSnk) ∧ bit t (fPwrRole n) = (tcGet s n).presentSrc ∧
      bit t (fOrient n) = cc2 ∧ reg t (R.TC_ATTACHES n) = reg s (R.TC_ATTACHES n) + 1)) ∧
  -- CC_DETACH
  (∀ (n : Fin 4) (s : State), Powered s → isAttached s n = true →
    Answers (.ccDetach n) s (fun t =>
      cc t n = (if getF s ⟨R.TC_CTRL n, 0, 2⟩ = 3 then ccDisabled else ccUnattached) ∧ bit t (fSwitch n) = false ∧
      bit t (fContract n) = false ∧ bit t (fPwrRole n) = false ∧ bit t (fDataRole n) = false ∧
      bit t (fVconnSrc n) = false ∧ bit t (fEmarked n) = false ∧ mux t n = 0 ∧ (tcGet t n).contract = none ∧
      (tcGet t n).req = none ∧ (tcGet t n).entry = .idle ∧ reg t (R.TC_CABLE_VDO n) = 0 ∧
      reg t (R.TC_CONTRACT n) = 0 ∧ reg t (R.TC_DETACHES n) = reg s (R.TC_DETACHES n) + 1)) ∧
  -- VBUS_SINK_DETACH
  (∀ (n : Fin 4) (mv : Nat) (s : State), Powered s → isSink s n = true → bit s (fSwitch n) = true →
    bit s (fTransition n) = false → mv < 3670 →
    Answers (.vbusSinkDetach n mv) s (fun t =>
      cc t n = (if getF s ⟨R.TC_CTRL n, 0, 2⟩ = 3 then ccDisabled else ccUnattached) ∧ bit t (fSwitch n) = false ∧
      bit t (fContract n) = false ∧ bit t (fPwrRole n) = false ∧ bit t (fDataRole n) = false ∧
      bit t (fVconnSrc n) = false ∧ bit t (fEmarked n) = false ∧ mux t n = 0 ∧ (tcGet t n).contract = none ∧
      (tcGet t n).req = none ∧ (tcGet t n).entry = .idle ∧ reg t (R.TC_CABLE_VDO n) = 0 ∧
      reg t (R.TC_CONTRACT n) = 0 ∧ reg t (R.TC_DETACHES n) = reg s (R.TC_DETACHES n) + 1 ∧
      bit t (fDischarging n) = true)) ∧
  -- DRP_TOGGLE
  (∀ (n : Fin 4) (s : State), Powered s → (tcGet s n).role = 2 → (cc s n = ccUnattached ∨ cc s n = ccTry) →
    Answers (.drpToggle n) s (fun t =>
      t = tcSet n { tcGet s n with presentSrc := !(tcGet s n).presentSrc } { s with out := [] })) ∧
  -- VBUS_SAFE_CLOSE
  (∀ (n : Fin 4) (port converter : Nat) (s : State), Powered s → isSource s n = true →
    (tcGet s n).wantClose = true → port ≤ 800 → 4750 ≤ converter → converter ≤ 5500 → bit s fPg = true →
    Answers (.vbusSafeClose n port converter) s (fun t =>
      bit t (fSwitch n) = true ∧ (tcGet t n).wantClose = false ∧ (tcGet t n).prs = .idle ∧
      ((tcGet s n).prs = .closing → reg t (R.TC_SWAPS n) = reg s (R.TC_SWAPS n) + 1 ∧
      t.out.head? = some (.pd n .psRdy)) ∧ ((tcGet s n).prs ≠ .closing →
      reg t (R.TC_SWAPS n) = reg s (R.TC_SWAPS n)) ∧ RegsBut [R.TC_STATUS n, R.TC_SWAPS n, R.TC_CMD_STATUS n] s t ∧
      t = { s with regs := t.regs, tc := t.tc, out := t.out })) ∧
  -- VBUS_SAFE_CLOSE
  (∀ (n : Fin 4) (port converter : Nat) (s : State), Powered s → isSink s n = true →
    (tcGet s n).wantClose = true → 4750 < port →
    Answers (.vbusSafeClose n port converter) s (fun t =>
      bit t (fSwitch n) = true ∧ (tcGet t n).wantClose = false ∧ RegsBut [R.TC_STATUS n] s t ∧
      t = { s with regs := t.regs, tc := t.tc, out := [] })) ∧
  -- EMARKER_RESPONSE
  (∀ (n : Fin 4) (v : Word) (s : State), Powered s → isSource s n = true → bit s (fSwitch n) = true →
    (tcGet s n).asking = true →
    Answers (.emarkerResponse n (some v)) s (fun t =>
      reg t (R.TC_CABLE_VDO n) = v ∧ bit t (fEmarked n) = true ∧ (tcGet t n).cableAsked = true ∧
      (tcGet t n).asking = false ∧
      t.out = (if pdOn s n then [.pd n (.sourceCaps (bit s (fEpr n)) (advertised t n))] else []) ∧
      RegsBut [R.TC_CABLE_VDO n, R.TC_STATUS n] s t ∧ t = { s with regs := t.regs, tc := t.tc, out := t.out })) ∧
  -- EMARKER_RESPONSE
  (∀ (n : Fin 4) (s : State), Powered s → isSource s n = true → bit s (fSwitch n) = true →
    (tcGet s n).asking = true →
    Answers (.emarkerResponse n none) s (fun t =>
      reg t (R.TC_CABLE_VDO n) = reg s (R.TC_CABLE_VDO n) ∧ (tcGet t n).cableAsked = true ∧
      (tcGet t n).asking = false ∧
      t.out = (if pdOn s n then [.pd n (.sourceCaps (bit s (fEpr n)) (advertised t n))] else []) ∧ RegsBut [] s t)) ∧
  -- HARD_RESET_RECEIVED
  (∀ (n : Fin 4) (s : State), Powered s → isAttached s n = true →
    Answers (.hardResetReceived n) s (fun t =>
      reg t (R.TC_HARD_RESETS_RX n) = reg s (R.TC_HARD_RESETS_RX n) + 1 ∧ bit t (fSwitch n) = false ∧
      bit t (fContract n) = false ∧ bit t (fTransition n) = false ∧ mux t n = 0 ∧
      bit t (fPwrRole n) = (tcGet s n).attachSrc ∧ bit t (fDataRole n) = (tcGet s n).attachSrc ∧
      cc t n = (if (tcGet s n).attachSrc then ccSrc else ccSnk) ∧ (tcGet t n).wantClose = true ∧
      (tcGet t n).vconn = (tcGet s n).attachSrc ∧ (tcGet t n).contract = none ∧ (tcGet t n).prs = .idle)) ∧
  -- TC_HARD_RESET
  (∀ (n : Fin 4) (s : State), Powered s → bit s (fTcBusy n) = false → isAttached s n = true →
    Answers (.tcHardReset n) s (fun t =>
      reg t (R.TC_HARD_RESETS_TX n) = reg s (R.TC_HARD_RESETS_TX n) + 1 ∧ bit t (fSwitch n) = false ∧
      bit t (fContract n) = false ∧ bit t (fTransition n) = false ∧ mux t n = 0 ∧
      bit t (fPwrRole n) = (tcGet s n).attachSrc ∧ bit t (fDataRole n) = (tcGet s n).attachSrc ∧
      cc t n = (if (tcGet s n).attachSrc then ccSrc else ccSnk) ∧ (tcGet t n).wantClose = true ∧
      (tcGet t n).vconn = (tcGet s n).attachSrc ∧ (tcGet t n).contract = none ∧ (tcGet t n).prs = .idle ∧
      reg t (R.TC_CMD_STATUS n) = 0)) ∧
  -- VBUS_DISCHARGED
  (∀ (n : Fin 4) (s : State), Powered s → bit s (fDischarging n) = true → (tcGet s n).prs ≠ .sourceOff →
    Answers (.vbusDischarged n) s (fun t =>
      bit t (fDischarging n) = false ∧ RegsBut [R.TC_STATUS n] s t ∧ OnlyRegs s t ∧ t.out = [])) ∧
  -- VBUS_FUSE_SLOW_TRIP
  (∀ (n : Fin 4) (uv : Nat) (s : State), Powered s → isAttached s n = true → bit s (fSwitch n) = true →
    senseOver s n uv (slowLimit s n) = true →
    Answers (.vbusFuseSlowTrip n uv) s (fun t =>
      cc t n = ccHold ∧ bit t (fSwitch n) = false ∧ bit t (fDischarging n) = true ∧ bit t (fContract n) = false ∧
      mux t n = 0 ∧ (tcGet t n).contract = none ∧
      getF t (fRetryMs n) = min 60000 (getF s ⟨R.TC_FUSE_RETRY n, 0, 16⟩) ∧
      reg t (R.TC_FUSE_TRIPS n) = reg s (R.TC_FUSE_TRIPS n) + 1 ∧
      reg t (R.TC_FAST_TRIPS n) = reg s (R.TC_FAST_TRIPS n))) ∧
  -- VBUS_FAST_TRIP
  (∀ (n : Fin 4) (uv : Nat) (s : State), Powered s → isAttached s n = true → bit s (fSwitch n) = true →
    senseOver s n (uv * 2) (slowLimit s n * fastTwice (getF s ⟨R.TC_FUSE n, 16, 3⟩)) = true →
    Answers (.vbusFastTrip n uv) s (fun t =>
      cc t n = ccHold ∧ bit t (fSwitch n) = false ∧ bit t (fDischarging n) = true ∧ bit t (fContract n) = false ∧
      mux t n = 0 ∧ (tcGet t n).contract = none ∧
      getF t (fRetryMs n) = min 60000 (getF s ⟨R.TC_FUSE_RETRY n, 0, 16⟩) ∧
      reg t (R.TC_FUSE_TRIPS n) = reg s (R.TC_FUSE_TRIPS n) + 1 ∧
      reg t (R.TC_FAST_TRIPS n) = reg s (R.TC_FAST_TRIPS n) + 1)) ∧
  -- FUSE_RETRY_EXPIRY
  (∀ (n : Fin 4) (s : State), Powered s → cc s n = ccHold → getF s (fRetryMs n) ≠ 0 →
    Answers (.fuseRetryExpiry n) s (fun t =>
      cc t n = (if getF s ⟨R.TC_CTRL n, 0, 2⟩ = 3 then ccDisabled else ccUnattached) ∧ getF t (fRetryMs n) = 0 ∧
      (hubRuns s = true → (natGet t.usb.change (n + 1)).testBit 3 = true) ∧ RegsBut [R.TC_STATUS n] s t ∧
      t = { s with regs := t.regs, tc := t.tc, usb := t.usb, out := [] })) ∧
  -- TC_CLEAR_FUSE
  (∀ (n : Fin 4) (s : State), Powered s → bit s (fTcBusy n) = false → cc s n = ccHold →
    Answers (.tcClearFuse n) s (fun t =>
      cc t n = (if getF s ⟨R.TC_CTRL n, 0, 2⟩ = 3 then ccDisabled else ccUnattached) ∧ getF t (fRetryMs n) = 0 ∧
      (hubRuns s = true → (natGet t.usb.change (n + 1)).testBit 3 = true) ∧ reg t (R.TC_CMD_STATUS n) = 0 ∧
      RegsBut [R.TC_STATUS n, R.TC_CMD_STATUS n] s t ∧
      t = { s with regs := t.regs, tc := t.tc, usb := t.usb, out := [] })) ∧
  -- VCONN_OVERCURRENT
  (∀ (n : Fin 4) (s : State), Powered s → bit s (fVconnSrc n) = true →
    Answers (.vconnOvercurrent n) s (fun t =>
      bit t (fVconnSrc n) = false ∧ (tcGet t n).vconn = false ∧
      reg t (R.TC_VCONN_TRIPS n) = reg s (R.TC_VCONN_TRIPS n) + 1 ∧
      RegsBut [R.TC_STATUS n, R.TC_VCONN_TRIPS n, R.CDC_OVERRUN_EVENTS] s t ∧ OnlyRaised 30 n { s with tc := t.tc } t))

/-- Power contracts are requested, accepted, brought into force and ended, and violations are counted, under the conditions
written out. The model's own readings: log entries 60, 61, 63, 105. After: R261, R262, R263, R276,
11_type_c_and_power_delivery.md Table 11-5. -/
def Obligations.TypeCContractCommandsComplete : Prop :=
  -- PD_REQUEST_RECEIVED
  (∀ (n : Fin 4) (type : Byte) (rdo : Word) (o : Nat × Word) (q : TcReq) (s : State), Powered s →
    isSource s n = true → bit s (fSwitch n) = true → (tcGet s n).capsSent = true → (tcGet s n).req = none →
    pdOn s n = true → (advertised s n).find? (fun o => o.1 == bits rdo.toNat 28 4) = some o →
    q = readRequest o.2 rdo (bit s (fEpr n)) →
    q.cur ≤ (if isApdo o.2 && !isPps o.2 then min (cableCur s n) (objCur o.2 q.mv) else objCur o.2 q.mv) →
    q.mv ≤ objMv o.2 → objMin o.2 ≤ q.mv → q.mv * q.cur + othersPower s n ≤ budget s * 100000 →
    Answers (.pdRequestReceived n type rdo) s (fun t =>
      t = tcSet n { tcGet s n with req := some q } { s with out := [.pd n .accept] })) ∧
  -- PD_REQUEST_RECEIVED
  (∀ (n : Fin 4) (type : Byte) (rdo : Word) (o : Nat × Word) (q : TcReq) (s : State), Powered s →
    isSource s n = true → bit s (fSwitch n) = true → (tcGet s n).capsSent = true → (tcGet s n).req = none →
    pdOn s n = true → (advertised s n).find? (fun o => o.1 == bits rdo.toNat 28 4) = some o →
    q = readRequest o.2 rdo (bit s (fEpr n)) →
    q.cur ≤ (if isApdo o.2 && !isPps o.2 then min (cableCur s n) (objCur o.2 q.mv) else objCur o.2 q.mv) →
    q.mv ≤ objMv o.2 → objMin o.2 ≤ q.mv → budget s * 100000 < q.mv * q.cur + othersPower s n →
    Answers (.pdRequestReceived n type rdo) s (fun t =>
      reg t (R.TC_REJECTS n) = reg s (R.TC_REJECTS n) + 1 ∧ t.out = [.pd n .reject] ∧ t.tc = s.tc ∧
      RegsBut [R.TC_REJECTS n, R.CDC_OVERRUN_EVENTS] s t)) ∧
  -- SOURCE_CAPS_RECEIVED
  (∀ (n : Fin 4) (caps : Vector Word 11) (o : Nat × Word) (cur : Nat) (s : State), Powered s →
    isSink s n = true → pdOn s n = true → (tcGet s n).op ≠ 9 →
    chooseObject s n ((((List.range 11).map (fun i => (i + 1, caps.toList.getD i 0))).filter (fun o => o.2 != 0)).filter (fun o => decide (o.1 ≤ 7))) = some (o, false) →
    cur = min (objCur o.2 (objMv o.2)) (imax s n) →
    Answers (.sourceCapsReceived n false caps .accept) s (fun t =>
      (∀ i ∈ List.range 11, reg t (R.TC_PARTNER_CAP1 n i) = caps.toList.getD i 0) ∧
      t.out = [.pd n (.request (requestWord o (objMv o.2) cur false (bit s (fTcCtrl n 8))))] ∧
      (tcGet t n).req = some ⟨objMv o.2, carried o.2 (objMv o.2) cur, o.1, false, isApdo o.2⟩ ∧
      bit t (fTransition n) = true ∧ RegsBut (R.TC_STATUS n :: (List.range 11).map (R.TC_PARTNER_CAP1 n)) s t ∧
      t = { s with regs := t.regs, tc := t.tc, out := t.out })) ∧
  -- TRANSITION_START
  (∀ (n : Fin 4) (q : TcReq) (s : State), Powered s → isSource s n = true → (tcGet s n).prs ≠ .sourceOn →
    (tcGet s n).req = some q → bit s (fTransition n) = false → getF s ⟨R.TC_VSET_CAL n, 16, 16⟩ ≠ 0 →
    (q.mv - getF s ⟨R.TC_VSET_CAL n, 0, 16⟩) * 2000 % (2 * getF s ⟨R.TC_VSET_CAL n, 16, 16⟩) ≠ getF s ⟨R.TC_VSET_CAL n, 16, 16⟩ →
    Answers (.transitionStart n) s (fun t =>
      bit t (fTransition n) = true ∧
      tcGet t n = { tcGet s n with target := min 1023 (((q.mv - getF s ⟨R.TC_VSET_CAL n, 0, 16⟩) * 2000 + getF s ⟨R.TC_VSET_CAL n, 16, 16⟩) / (2 * getF s ⟨R.TC_VSET_CAL n, 16, 16⟩)) } ∧
      RegsBut [R.TC_STATUS n] s t ∧ t = { s with regs := t.regs, tc := t.tc, out := [] })) ∧
  -- TRANSITION_START
  (∀ (n : Fin 4) (q : TcReq) (s : State), Powered s → isSource s n = true → (tcGet s n).prs ≠ .sourceOn →
    (tcGet s n).req = some q → bit s (fTransition n) = false → getF s ⟨R.TC_VSET_CAL n, 16, 16⟩ ≠ 0 →
    (q.mv - getF s ⟨R.TC_VSET_CAL n, 0, 16⟩) * 2000 % (2 * getF s ⟨R.TC_VSET_CAL n, 16, 16⟩) = getF s ⟨R.TC_VSET_CAL n, 16, 16⟩ →
    Answers (.transitionStart n) s (fun t =>
      bit t (fTransition n) = true ∧
      ((tcGet t n).target = min 1023 ((q.mv - getF s ⟨R.TC_VSET_CAL n, 0, 16⟩) * 1000 / getF s ⟨R.TC_VSET_CAL n, 16, 16⟩) ∨
      (tcGet t n).target = min 1023 ((q.mv - getF s ⟨R.TC_VSET_CAL n, 0, 16⟩) * 1000 / getF s ⟨R.TC_VSET_CAL n, 16, 16⟩ + 1)) ∧
      tcGet t n = { tcGet s n with target := (tcGet t n).target } ∧ RegsBut [R.TC_STATUS n] s t ∧
      t = { s with regs := t.regs, tc := t.tc, freeIdx := t.freeIdx, out := [] })) ∧
  -- TRANSITION_START
  (∀ (n : Fin 4) (s : State), Powered s → (tcGet s n).prs = .sourceOn →
    Answers (.transitionStart n) s (fun t =>
      bit t (fSwitch n) = false ∧ bit t (fDischarging n) = true ∧ (tcGet t n).prs = .sourceOff ∧
      RegsBut [R.TC_STATUS n, R.TC_DISCHARGES n] s t ∧ t = { s with regs := t.regs, tc := t.tc, out := [] })) ∧
  -- VSET_SLEW_STEP
  (∀ (n : Fin 4) (c g : Nat) (s : State), Powered s → isSource s n = true → bit s (fTransition n) = true →
    c = (reg s (R.TC_VSET_CODE n)).toNat → g = (tcGet s n).target →
    Answers (.vsetSlewStep n) s (fun t =>
      reg t (R.TC_VSET_CODE n) = BitVec.ofNat 32 (if c < g then c + 1 else if g < c then c - 1 else c) ∧
      RegsBut [R.TC_VSET_CODE n] s t ∧ OnlyRegs s t ∧ t.out = [])) ∧
  -- VBUS_SETTLED
  (∀ (n : Fin 4) (mv : Nat) (q : TcReq) (s : State), Powered s → isSource s n = true →
    bit s (fTransition n) = true → (tcGet s n).req = some q →
    (reg s (R.TC_VSET_CODE n)).toNat = (tcGet s n).target → q.mv * 95 ≤ mv * 100 → mv * 100 ≤ q.mv * 105 →
    Answers (.vbusSettled n mv) s (fun t =>
      t.out.head? = some (.pd n .psRdy) ∧ (tcGet t n).contract = some q ∧ (tcGet t n).req = none ∧
      (tcGet t n).discovered = true ∧ bit t (fContract n) = true ∧ bit t (fTransition n) = false ∧
      reg t (R.TC_CONTRACTS n) = reg s (R.TC_CONTRACTS n) + 1 ∧
      RegsBut [R.TC_STATUS n, R.TC_CONTRACT n, R.TC_CONTRACTS n, R.TC_SRC_BUDGET 0] s t)) ∧
  -- TRANSITION_TIMEOUT
  (∀ (n : Fin 4) (s : State), Powered s → isSource s n = true → (tcGet s n).req ≠ none →
    Answers (.transitionTimeout n) s (fun t =>
      reg t (R.TC_HARD_RESETS_TX n) = reg s (R.TC_HARD_RESETS_TX n) + 1 ∧ bit t (fSwitch n) = false ∧
      bit t (fContract n) = false ∧ bit t (fTransition n) = false ∧ mux t n = 0 ∧
      bit t (fPwrRole n) = (tcGet s n).attachSrc ∧ bit t (fDataRole n) = (tcGet s n).attachSrc ∧
      cc t n = (if (tcGet s n).attachSrc then ccSrc else ccSnk) ∧ (tcGet t n).wantClose = true ∧
      (tcGet t n).vconn = (tcGet s n).attachSrc ∧ (tcGet t n).contract = none ∧ (tcGet t n).prs = .idle)) ∧
  -- EPR_KEEPALIVE_MISSING
  (∀ (n : Fin 4) (s : State), Powered s → isSource s n = true → bit s (fEpr n) = true →
    Answers (.eprKeepaliveMissing n) s (fun t =>
      reg t (R.TC_HARD_RESETS_TX n) = reg s (R.TC_HARD_RESETS_TX n) + 1 ∧ bit t (fSwitch n) = false ∧
      bit t (fContract n) = false ∧ bit t (fTransition n) = false ∧ mux t n = 0 ∧
      bit t (fPwrRole n) = (tcGet s n).attachSrc ∧ bit t (fDataRole n) = (tcGet s n).attachSrc ∧
      cc t n = (if (tcGet s n).attachSrc then ccSrc else ccSnk) ∧ (tcGet t n).wantClose = true ∧
      (tcGet t n).vconn = (tcGet s n).attachSrc ∧ (tcGet t n).contract = none ∧ (tcGet t n).prs = .idle ∧
      bit t (fEpr n) = false)) ∧
  -- EPR_KEEPALIVE_TIMER
  (∀ (n : Fin 4) (s : State), Powered s → isSink s n = true → bit s (fEpr n) = true →
    Answers (.eprKeepaliveTimer n) s (fun t =>
      OnlyOut [.pd n .eprKeepAlive] s t)) ∧
  -- EPR_KEEPALIVE_RECEIVED
  (∀ (n : Fin 4) (s : State), Powered s → isSource s n = true → bit s (fEpr n) = true →
    Answers (.eprKeepaliveReceived n) s (fun t =>
      OnlyOut [.pd n .eprKeepAliveAck] s t)) ∧
  -- EPR_MODE_RECEIVED
  (∀ (n : Fin 4) (watts : Byte) (s : State), Powered s → isSource s n = true → bit s (fContract n) = true →
    pdOn s n = true → bit s (fTcCtrl n 8) = true → cableEpr s n = true →
    Answers (.eprModeReceived n watts) s (fun t =>
      bit t (fEpr n) = true ∧
      t.out = [.pd n .eprAck, .pd n .eprSucceeded, .pd n (.sourceCaps true (advertised t n))] ∧
      RegsBut [R.TC_STATUS n] s t ∧ t = { s with regs := t.regs, tc := t.tc, out := t.out })) ∧
  -- EPR_MODE_RECEIVED
  (∀ (n : Fin 4) (watts : Byte) (s : State), Powered s → isSource s n = true → bit s (fContract n) = true →
    pdOn s n = true → (bit s (fTcCtrl n 8) = false ∨ cableEpr s n = false) →
    Answers (.eprModeReceived n watts) s (fun t =>
      OnlyOut [.pd n .eprAck, .pd n .eprFailed] s t)) ∧
  -- PD_UNEXPECTED_MESSAGE
  (∀ (n : Fin 4) (type : Byte) (form : PdForm) (s : State), Powered s → isAttached s n = true → pdOn s n = true →
    pdSupported type.toNat form = false →
    Answers (.pdUnexpectedMessage n type form) s (fun t =>
      t.out = [.pd n .notSupported] ∧ reg t (R.TC_PD_ERRORS n) = reg s (R.TC_PD_ERRORS n) + 1 ∧
      RegsBut [R.TC_PD_ERRORS n, R.CDC_OVERRUN_EVENTS] s t ∧
      t = { s with regs := t.regs, cdc := (raise 31 (n + type.toNat * 256) s).cdc, out := t.out })) ∧
  -- PD_UNEXPECTED_MESSAGE
  (∀ (n : Fin 4) (type : Byte) (form : PdForm) (s : State), Powered s → isAttached s n = true → pdOn s n = true →
    pdSupported type.toNat form = true → ((form = .control → type ≠ 8 ∧ type ≠ 13)) → (∀ m, form ≠ .bist m) →
    Answers (.pdUnexpectedMessage n type form) s (fun t =>
      t.out = [.pd n .softReset] ∧ reg t (R.TC_PD_ERRORS n) = reg s (R.TC_PD_ERRORS n) + 1 ∧
      RegsBut [R.TC_PD_ERRORS n, R.CDC_OVERRUN_EVENTS] s t ∧
      t = { s with regs := t.regs, cdc := (raise 31 (n + type.toNat * 256) s).cdc, out := t.out })) ∧
  -- PD_UNEXPECTED_MESSAGE
  (∀ (n : Fin 4) (s : State), Powered s → isAttached s n = true → pdOn s n = true →
    Answers (.pdUnexpectedMessage n 8 .control) s (fun t =>
      t.out = [.pd n (.sinkCaps (sinkObjects s n))] ∧ RegsBut [] s t)) ∧
  -- PD_UNEXPECTED_MESSAGE
  (∀ (n : Fin 4) (s : State), Powered s → isAttached s n = true → pdOn s n = true → isSink s n = true →
    Answers (.pdUnexpectedMessage n 13 .control) s (fun t =>
      OnlyOut [.pd n .accept] s t)) ∧
  -- PD_UNEXPECTED_MESSAGE
  (∀ (n : Fin 4) (type : Byte) (m : Fin 16) (s : State), Powered s → isAttached s n = true → pdOn s n = true →
    pdSupported type.toNat (.bist m) = true → (tcGet s n).contract = none →
    Answers (.pdUnexpectedMessage n type (.bist m)) s (fun t =>
      (m = 5 → OnlyOut [.pd n .bistCarrier] s t) ∧ (m ≠ 5 →
      t = tcSet n { tcGet s n with bist := true } { s with out := [] }))) ∧
  -- GOODCRC_TIMEOUT
  (∀ (n : Fin 4) (type : Byte) (s : State), Powered s → isAttached s n = true → pdOn s n = true →
    (tcGet s n).op = 0 →
    Answers (.goodcrcTimeout n type) s (fun t =>
      t.out = (if bit s (fContract n) then [.pd n .softReset] else []) ∧
      reg t (R.TC_PD_ERRORS n) = reg s (R.TC_PD_ERRORS n) + 1 ∧
      RegsBut [R.TC_PD_ERRORS n, R.CDC_OVERRUN_EVENTS] s t ∧ t.tc = s.tc)) ∧
  -- GOODCRC_TIMEOUT
  (∀ (n : Fin 4) (type : Byte) (s : State), Powered s → isAttached s n = true → pdOn s n = true →
    (tcGet s n).op ≠ 0 →
    Answers (.goodcrcTimeout n type) s (fun t =>
      (tcGet t n).op = 0 ∧ reg t (R.TC_CMD_STATUS n) = 6 ∧ reg t (R.TC_PD_ERRORS n) = reg s (R.TC_PD_ERRORS n) + 1 ∧
      RegsBut [R.TC_PD_ERRORS n, R.TC_CMD_STATUS n, R.CDC_OVERRUN_EVENTS] s t)) ∧
  -- VBUS_OVERVOLTAGE
  (∀ (n : Fin 4) (mv : Nat) (q : TcReq) (s : State), Powered s → isSink s n = true →
    (tcGet s n).contract = some q → bit s (fSwitch n) = true → q.mv * 11 < mv * 10 →
    Answers (.vbusOvervoltage n mv) s (fun t =>
      reg t (R.TC_HARD_RESETS_TX n) = reg s (R.TC_HARD_RESETS_TX n) + 1 ∧ bit t (fSwitch n) = false ∧
      bit t (fContract n) = false ∧ bit t (fTransition n) = false ∧ mux t n = 0 ∧
      bit t (fPwrRole n) = (tcGet s n).attachSrc ∧ bit t (fDataRole n) = (tcGet s n).attachSrc ∧
      cc t n = (if (tcGet s n).attachSrc then ccSrc else ccSnk) ∧ (tcGet t n).wantClose = true ∧
      (tcGet t n).vconn = (tcGet s n).attachSrc ∧ (tcGet t n).contract = none ∧ (tcGet t n).prs = .idle ∧
      reg t (R.TC_PD_ERRORS n) = reg s (R.TC_PD_ERRORS n) + 1))

/-- Role swaps, their PS_RDY messages and the commands of TC.CMD take effect, under the conditions written out. The model's
own readings: log entries 64, 65. After: R260, R261, R262, R266, 11_type_c_and_power_delivery.md Table 11-9. -/
def Obligations.TypeCSwapCommandsComplete : Prop :=
  -- TC_PR_SWAP
  (∀ (n : Fin 4) (s : State), Powered s → isAttached s n = true → pdOn s n = true → bit s (fTcBusy n) = false →
    (tcGet s n).prs = .idle →
    Answers (.tcPrSwap n .awaited) s (fun t =>
      tcGet t n = { tcGet s n with op := 1, prs := .asked } ∧ reg t (R.TC_CMD_STATUS n) = 1 ∧
      t.out = [.pd n .prSwap] ∧ RegsBut [R.TC_CMD_STATUS n] s t ∧
      t = { s with regs := t.regs, tc := t.tc, out := t.out })) ∧
  -- TC_PR_SWAP
  (∀ (n : Fin 4) (s : State), Powered s → isAttached s n = true → pdOn s n = true → bit s (fTcBusy n) = false →
    (tcGet s n).prs = .idle →
    Answers (.tcPrSwap n .accept) s (fun t =>
      (tcGet t n).prs = (if isSource s n then .sourceOn else .awaitOff) ∧ (isSource s n = false →
      bit t (fSwitch n) = false) ∧ (tcGet t n).contract = none ∧ bit t (fContract n) = false ∧
      reg t (R.TC_CMD_STATUS n) = 1 ∧ t.out = [.pd n .prSwap] ∧
      RegsBut [R.TC_CMD_STATUS n, R.TC_STATUS n, R.TC_CONTRACT n, R.TC_SRC_BUDGET 0] s t)) ∧
  -- TC_PR_SWAP
  (∀ (n : Fin 4) (s : State), Powered s → isAttached s n = true → pdOn s n = true → bit s (fTcBusy n) = false →
    (tcGet s n).prs = .idle →
    Answers (.tcPrSwap n .reject) s (fun t =>
      tcGet t n = { tcGet s n with op := 0 } ∧ reg t (R.TC_CMD_STATUS n) = 2 ∧ t.out = [.pd n .prSwap] ∧
      RegsBut [R.TC_CMD_STATUS n] s t ∧ t = { s with regs := t.regs, tc := t.tc, out := t.out })) ∧
  -- TC_DR_SWAP
  (∀ (n : Fin 4) (s : State), Powered s → isAttached s n = true → pdOn s n = true → bit s (fTcBusy n) = false →
    mux s n < 2 →
    Answers (.tcDrSwap n .accept) s (fun t =>
      bit t (fDataRole n) = (!bit s (fDataRole n)) ∧ (tcGet t n).op = 0 ∧ reg t (R.TC_CMD_STATUS n) = 0 ∧
      reg t (R.TC_SWAPS n) = reg s (R.TC_SWAPS n) + 1 ∧ t.out = [.pd n .drSwap] ∧
      RegsBut [R.TC_CMD_STATUS n, R.TC_STATUS n, R.TC_SWAPS n] s t ∧
      t = { s with regs := t.regs, tc := t.tc, out := t.out })) ∧
  -- TC_DR_SWAP
  (∀ (n : Fin 4) (s : State), Powered s → bit s (fTcBusy n) = false →
    (isAttached s n && pdOn s n && decide (mux s n < 2)) = false → (tcGet s n).op = 0 →
    Answers (.tcDrSwap n .awaited) s (fun t =>
      reg t (R.TC_CMD_STATUS n) = 8 ∧ RegsBut [R.TC_CMD_STATUS n] s t ∧ OnlyRegs s t ∧ t.out = [])) ∧
  -- TC_VCONN_SWAP
  (∀ (n : Fin 4) (s : State), Powered s → isAttached s n = true → pdOn s n = true → bit s (fTcBusy n) = false →
    (tcGet s n).vconn = true → (tcGet s n).vcsWait = false →
    Answers (.tcVconnSwap n .accept) s (fun t =>
      tcGet t n = { tcGet s n with op := 3, vcsWait := true } ∧ reg t (R.TC_CMD_STATUS n) = 1 ∧
      t.out = [.pd n .vconnSwap] ∧ RegsBut [R.TC_CMD_STATUS n] s t ∧
      t = { s with regs := t.regs, tc := t.tc, out := t.out })) ∧
  -- TC_VCONN_SWAP
  (∀ (n : Fin 4) (s : State), Powered s → isAttached s n = true → pdOn s n = true → bit s (fTcBusy n) = false →
    (tcGet s n).vconn = false → (tcGet s n).vcsWait = false → bit s (fTcCtrl n 7) = true →
    Answers (.tcVconnSwap n .accept) s (fun t =>
      (tcGet t n).vconn = true ∧ (tcGet t n).op = 0 ∧ bit t (fVconnSrc n) = true ∧ reg t (R.TC_CMD_STATUS n) = 0 ∧
      reg t (R.TC_SWAPS n) = reg s (R.TC_SWAPS n) + 1 ∧ t.out = [.pd n .vconnSwap, .pd n .psRdy] ∧
      RegsBut [R.TC_CMD_STATUS n, R.TC_STATUS n, R.TC_SWAPS n] s t ∧
      t = { s with regs := t.regs, tc := t.tc, out := t.out })) ∧
  -- TC_SEND_CAPS
  (∀ (n : Fin 4) (s : State), Powered s → isSource s n = true → pdOn s n = true → bit s (fTcBusy n) = false →
    (tcGet s n).asking = false → bit s (fSwitch n) = true →
    Answers (.tcSendCaps n) s (fun t =>
      t.out = [.pd n (.sourceCaps (bit s (fEpr n)) (advertised s n))] ∧ (tcGet t n).capsSent = true ∧
      reg t (R.TC_CMD_STATUS n) = 0 ∧ RegsBut [R.TC_CMD_STATUS n] s t ∧
      t = { s with regs := t.regs, tc := t.tc, out := t.out })) ∧
  -- TC_GET_SRC_CAPS
  (∀ (n : Fin 4) (s : State), Powered s → isAttached s n = true → pdOn s n = true → bit s (fTcBusy n) = false →
    Answers (.tcGetSrcCaps n .awaited) s (fun t =>
      tcGet t n = { tcGet s n with op := 9 } ∧ reg t (R.TC_CMD_STATUS n) = 1 ∧ t.out = [.pd n .getSourceCap] ∧
      RegsBut [R.TC_CMD_STATUS n] s t ∧ t = { s with regs := t.regs, tc := t.tc, out := t.out })) ∧
  -- PR_SWAP_RECEIVED
  (∀ (n : Fin 4) (s : State), Powered s → isAttached s n = true → pdOn s n = true → (tcGet s n).prs = .idle →
    bit s (fTcCtrl n 10) = true →
    Answers (.prSwapReceived n) s (fun t =>
      (tcGet t n).prs = (if isSource s n then .sourceOn else .awaitOff) ∧ (isSource s n = false →
      bit t (fSwitch n) = false) ∧ (tcGet t n).contract = none ∧ bit t (fContract n) = false ∧
      t.out = [.pd n .accept] ∧ RegsBut [R.TC_STATUS n, R.TC_CONTRACT n, R.TC_SRC_BUDGET 0] s t)) ∧
  -- PR_SWAP_RECEIVED
  (∀ (n : Fin 4) (s : State), Powered s → isAttached s n = true → pdOn s n = true → (tcGet s n).prs = .idle →
    bit s (fTcCtrl n 10) = false →
    Answers (.prSwapReceived n) s (fun t =>
      OnlyOut [.pd n .reject] s t)) ∧
  -- DR_SWAP_RECEIVED
  (∀ (n : Fin 4) (s : State), Powered s → isAttached s n = true → pdOn s n = true → mux s n < 2 →
    bit s (fTcCtrl n 9) = true →
    Answers (.drSwapReceived n) s (fun t =>
      bit t (fDataRole n) = (!bit s (fDataRole n)) ∧ reg t (R.TC_SWAPS n) = reg s (R.TC_SWAPS n) + 1 ∧
      t.out = [.pd n .accept] ∧ RegsBut [R.TC_STATUS n, R.TC_SWAPS n] s t ∧
      t = { s with regs := t.regs, tc := t.tc, out := t.out })) ∧
  -- DR_SWAP_RECEIVED
  (∀ (n : Fin 4) (s : State), Powered s → isAttached s n = true → pdOn s n = true → 2 ≤ mux s n →
    Answers (.drSwapReceived n) s (fun t =>
      reg t (R.TC_HARD_RESETS_TX n) = reg s (R.TC_HARD_RESETS_TX n) + 1 ∧ bit t (fSwitch n) = false ∧
      bit t (fContract n) = false ∧ bit t (fTransition n) = false ∧ mux t n = 0 ∧
      bit t (fPwrRole n) = (tcGet s n).attachSrc ∧ bit t (fDataRole n) = (tcGet s n).attachSrc ∧
      cc t n = (if (tcGet s n).attachSrc then ccSrc else ccSnk) ∧ (tcGet t n).wantClose = true ∧
      (tcGet t n).vconn = (tcGet s n).attachSrc ∧ (tcGet t n).contract = none ∧ (tcGet t n).prs = .idle)) ∧
  -- VCONN_SWAP_RECEIVED
  (∀ (n : Fin 4) (s : State), Powered s → isAttached s n = true → pdOn s n = true → bit s (fTcCtrl n 11) = true →
    (tcGet s n).vconn = true →
    Answers (.vconnSwapReceived n) s (fun t =>
      t = tcSet n { tcGet s n with vcsWait := true } { s with out := [.pd n .accept] })) ∧
  -- VCONN_SWAP_RECEIVED
  (∀ (n : Fin 4) (s : State), Powered s → isAttached s n = true → pdOn s n = true →
    bit s (fTcCtrl n 11) = false →
    Answers (.vconnSwapReceived n) s (fun t =>
      OnlyOut [.pd n .reject] s t)) ∧
  -- PS_RDY_RECEIVED
  (∀ (n : Fin 4) (s : State), Powered s → (tcGet s n).prs = .awaitOff →
    Answers (.psRdyReceived n) s (fun t =>
      cc t n = ccSrc ∧ bit t (fPwrRole n) = true ∧ (tcGet t n).prs = .closing ∧ (tcGet t n).wantClose = true ∧
      RegsBut [R.TC_STATUS n, R.TC_VSET_CODE n] s t)) ∧
  -- PS_RDY_RECEIVED
  (∀ (n : Fin 4) (s : State), Powered s → (tcGet s n).prs = .awaitSource →
    Answers (.psRdyReceived n) s (fun t =>
      bit t (fSwitch n) = true ∧ (tcGet t n).prs = .idle ∧ reg t (R.TC_SWAPS n) = reg s (R.TC_SWAPS n) + 1 ∧
      ((tcGet s n).op = 1 → reg t (R.TC_CMD_STATUS n) = 0) ∧
      RegsBut [R.TC_STATUS n, R.TC_SWAPS n, R.TC_CMD_STATUS n] s t ∧
      t = { s with regs := t.regs, tc := t.tc, out := [] })) ∧
  -- PS_RDY_RECEIVED
  (∀ (n : Fin 4) (s : State), Powered s → (tcGet s n).prs = .idle → (tcGet s n).vcsWait = true →
    Answers (.psRdyReceived n) s (fun t =>
      (tcGet t n).vconn = false ∧ (tcGet t n).vcsWait = false ∧ bit t (fVconnSrc n) = false ∧
      reg t (R.TC_SWAPS n) = reg s (R.TC_SWAPS n) + 1 ∧
      RegsBut [R.TC_STATUS n, R.TC_SWAPS n, R.TC_CMD_STATUS n] s t ∧
      t = { s with regs := t.regs, tc := t.tc, out := [] })) ∧
  -- PS_RDY_RECEIVED
  (∀ (n : Fin 4) (q : TcReq) (s : State), Powered s → isSink s n = true → (tcGet s n).prs = .idle →
    (tcGet s n).vcsWait = false → (tcGet s n).req = some q → bit s (fTransition n) = true →
    Answers (.psRdyReceived n) s (fun t =>
      (tcGet t n).contract = some q ∧ (tcGet t n).req = none ∧ bit t (fContract n) = true ∧
      bit t (fTransition n) = false ∧ reg t (R.TC_CONTRACTS n) = reg s (R.TC_CONTRACTS n) + 1 ∧
      RegsBut [R.TC_STATUS n, R.TC_CONTRACT n, R.TC_CONTRACTS n, R.TC_SRC_BUDGET 0] s t)) ∧
  -- VBUS_DISCHARGED
  (∀ (n : Fin 4) (s : State), Powered s → bit s (fDischarging n) = true → (tcGet s n).prs = .sourceOff →
    Answers (.vbusDischarged n) s (fun t =>
      bit t (fDischarging n) = false ∧ cc t n = ccSnk ∧ bit t (fPwrRole n) = false ∧ (tcGet t n).prs = .awaitSource ∧
      t.out = [.pd n .psRdy] ∧ RegsBut [R.TC_STATUS n, R.TC_SRC_BUDGET 0] s t))

/-- Alternate modes are discovered, entered and left, and the mux and the DisplayPort HPD follow, under the conditions
written out. The model's own readings: log entries 60, 65. After: R268, R271, R272, R273. -/
def Obligations.TypeCModeCommandsComplete : Prop :=
  -- TC_ENTER_MODE
  (∀ (n : Fin 4) (s : State), Powered s → isAttached s n = true → pdOn s n = true → isDfp s n = true →
    bit s (fTcBusy n) = false → mux s n < 2 → (tcGet s n).entry = .idle →
    Answers (.tcEnterMode n) s (fun t =>
      tcGet t n = { tcGet s n with op := 6, entry := .identity, refused := 0, usbCap := false, veserOk := false, dpCode := 0, dpListed := false } ∧
      reg t (R.TC_CMD_STATUS n) = 1 ∧ t.out = [.pd n (.discoverIdentity false)] ∧ RegsBut [R.TC_CMD_STATUS n] s t ∧
      t = { s with regs := t.regs, tc := t.tc, out := t.out })) ∧
  -- MODE_DISCOVERY_RESPONSE
  (∀ (n : Fin 4) (hdr : Word) (s : State), Powered s → (tcGet s n).entry = .identity →
    Answers (.modeDiscoveryResponse n (.identity hdr)) s (fun t =>
      t = tcSet n { tcGet s n with entry := .svids, usbCap := decide (bits hdr.toNat 30 2 ≠ 0) } { s with out := [.pd n .discoverSvids] })) ∧
  -- MODE_DISCOVERY_RESPONSE
  (∀ (n : Fin 4) (d : Bool) (s : State), Powered s → (tcGet s n).entry = .svids → bit s (fModePol n 1) = true →
    Answers (.modeDiscoveryResponse n (.svids true d)) s (fun t =>
      t = tcSet n { tcGet s n with entry := .veserModes, veserOk := true, dpListed := d } { s with out := [.pd n (.discoverModes 0x6B3A)] })) ∧
  -- MODE_DISCOVERY_RESPONSE
  (∀ (n : Fin 4) (s : State), Powered s → (tcGet s n).entry = .veserModes → bit s (fModePol n 2) = true →
    (tcGet s n).dpListed = true →
    Answers (.modeDiscoveryResponse n .veserModes) s (fun t =>
      t = tcSet n { tcGet s n with entry := .dpModes } { s with out := [.pd n (.discoverModes 0xFF01)] })) ∧
  -- MODE_DISCOVERY_RESPONSE
  (∀ (n : Fin 4) (c d : Bool) (code : Nat) (s : State), Powered s → (tcGet s n).entry = .dpModes →
    (bit s (fModePol n 1) && (tcGet s n).veserOk) = false → bit s (fModePol n 2) = true → (c || d) = true →
    code = (if d && (!c || bit s (fModePol n 5)) then 4 else 3) → (tcGet s n).refused = 0 →
    Answers (.modeDiscoveryResponse n (.dpModes c d)) s (fun t =>
      t = tcSet n { tcGet s n with dpCode := code, entry := .enter code } { s with out := [.pd n (.enterMode 0xFF01 1)] })) ∧
  -- MODE_ENTRY_TIMEOUT
  (∀ (n : Fin 4) (s : State), Powered s → (tcGet s n).entry = .enter 2 → (bit s (fModePol n 2) = false ∨
    (tcGet s n).dpCode = 0) → bit s (fModePol n 3) = false →
    Answers (.modeEntryTimeout n) s (fun t =>
      mux t n = 0 ∧ (tcGet t n).entry = .idle ∧ (tcGet t n).veserOk = false ∧ ((tcGet s n).op = 6 →
      reg t (R.TC_CMD_STATUS n) = 6 ∧ (tcGet t n).op = 0) ∧
      RegsBut [R.TC_STATUS n, R.TC_CMD_STATUS n, R.CDC_OVERRUN_EVENTS] s t ∧ t.out = [])) ∧
  -- ENTER_MODE_ACK_RECEIVED
  (∀ (n : Fin 4) (m : Nat) (s : State), Powered s → (tcGet s n).entry = .enter m → 2 ≤ m → m ≤ 4 →
    Answers (.enterModeAckReceived n) s (fun t =>
      mux t n = m ∧ (tcGet t n).entry = .idle ∧ reg t (R.TC_MODE_ENTRIES n) = reg s (R.TC_MODE_ENTRIES n) + 1 ∧
      ((tcGet s n).op = 6 → reg t (R.TC_CMD_STATUS n) = 0) ∧ (m ≠ 2 →
      RegsBut [R.TC_STATUS n, R.TC_MODE_ENTRIES n, R.TC_CMD_STATUS n] s t ∧ t.link = s.link))) ∧
  -- TC_EXIT_MODE
  (∀ (n : Fin 4) (s : State), Powered s → isAttached s n = true → pdOn s n = true → bit s (fTcBusy n) = false →
    isDfp s n = true → 2 ≤ mux s n →
    Answers (.tcExitMode n .accept) s (fun t =>
      mux t n = 0 ∧ (tcGet t n).entry = .idle ∧ (tcGet t n).op = 0 ∧ reg t (R.TC_CMD_STATUS n) = 0 ∧
      t.out.head? = some (.pd n (.exitMode (if mux s n = 2 then 0x6B3A else 0xFF01))))) ∧
  -- DISCOVER_RECEIVED
  (∀ (n : Fin 4) (s : State), Powered s → isAttached s n = true → pdOn s n = true → bit s (fDataRole n) = false →
    Answers (.discoverReceived n .identity) s (fun t =>
      OnlyOut [.pd n (.vdmAck [reg s (R.TC_ID_HDR n), reg s (R.TC_ID_PRODUCT n)])] s t)) ∧
  -- DISCOVER_RECEIVED
  (∀ (n : Fin 4) (s : State), Powered s → isAttached s n = true → pdOn s n = true → bit s (fDataRole n) = false →
    Answers (.discoverReceived n .svids) s (fun t =>
      OnlyOut [.pd n (.vdmAck [0x6B3A0000])] s t)) ∧
  -- DISCOVER_RECEIVED
  (∀ (n : Fin 4) (v : BitVec 16) (s : State), Powered s → isAttached s n = true → pdOn s n = true →
    bit s (fDataRole n) = false →
    Answers (.discoverReceived n (.modes v)) s (fun t =>
      OnlyOut [.pd n (if v = 0x6B3A then .vdmAck [0x31] else .vdmNak)] s t)) ∧
  -- ENTER_MODE_RECEIVED
  (∀ (n : Fin 4) (s : State), Powered s → isAttached s n = true → pdOn s n = true → bit s (fDataRole n) = false →
    bit s (fModePol n 4) = true →
    Answers (.enterModeReceived n 0x6B3A 1) s (fun t =>
      mux t n = 2 ∧ reg t (R.TC_MODE_ENTRIES n) = reg s (R.TC_MODE_ENTRIES n) + 1 ∧
      t.out.head? = some (.pd n (.vdmAck [])))) ∧
  -- ENTER_MODE_RECEIVED
  (∀ (n : Fin 4) (svid : BitVec 16) (position : BitVec 3) (s : State), Powered s → isAttached s n = true →
    pdOn s n = true → bit s (fDataRole n) = false → (svid ≠ 0x6B3A ∨ position ≠ 1 ∨ bit s (fModePol n 4) = false) →
    Answers (.enterModeReceived n svid position) s (fun t =>
      OnlyOut [.pd n .vdmNak] s t)) ∧
  -- DISPLAYPORT_ATTENTION
  (∀ (n : Fin 4) (hpd : Bool) (s : State), Powered s → (mux s n = 3 ∨ mux s n = 4) →
    Answers (.displayportAttention n hpd) s (fun t =>
      hpdOf t (4 + n) = hpd ∧ RegsBut [R.CDC_OVERRUN_EVENTS] s t))

/-- Feeds, hot-swap, current limit, trips, retries, the power-fail warning and hold-up take effect, under the conditions
written out. The model's own readings: log entries 66, 67. After: R278, R279, R280, R281, R282, R283, R284, R286, R288,
R289, R290, R291. -/
def Obligations.PowerPathCommandsComplete : Prop :=
  -- AO_EVALUATION
  (∀ (m : PpSense) (s : State), Powered s →
    Answers (.aoEvaluation m) s (fun t =>
      t.pp.micros = s.pp.micros + 1 ∧ t.pp.feedA = m.feedA ∧ t.pp.feedB = m.feedB ∧ t.pp.com = m.com ∧
      t.pp.src = m.src ∧ t.pp.cur = m.cur ∧ reg t R.PP_MEAS_I = BitVec.ofInt 32 (m.cur % 65536) ∧
      bit t fPinEn = m.enable ∧
      t.pp.timer = (if overLimit s m.cur then s.pp.timer + 8 else if belowLimit s m.cur then s.pp.timer - 1 else s.pp.timer) ∧
      (m.feedA < uvMv s ∨ ovMv s < m.feedA → bit t (fOk 0) = false) ∧ (m.feedB < uvMv s ∨ ovMv s < m.feedB →
      bit t (fOk 1) = false))) ∧
  -- FEED_QUALIFIED
  (∀ (x : Fin 2) (mv : Nat) (s : State), Powered s → bit s (fOk x) = false → uvMv s * 102 ≤ mv * 100 →
    mv * 100 ≤ ovMv s * 98 →
    Answers (.feedQualified x mv) s (fun t =>
      bit t (fOk x) = true ∧ feedMv t x = mv ∧ bit t (fOk (1 - x.val)) = bit s (fOk (1 - x.val)) ∧ hs t = hs s ∧
      RegsBut [R.PP_STATUS] s t ∧ t = { s with regs := t.regs, pp := t.pp, out := [] })) ∧
  -- REVERSE_CURRENT_OFF
  (∀ (x : Fin 2) (s : State), Powered s → bit s (fOr x) = true →
    Answers (.reverseCurrentOff x) s (fun t =>
      bit t (fOr x) = false ∧ reg t (R.PP_REV_OFF_A + 4 * x.val) = reg s (R.PP_REV_OFF_A + 4 * x.val) + 1 ∧
      bit t (fOk x) = bit s (fOk x) ∧ hs t = hs s ∧
      RegsBut [R.PP_STATUS, R.PP_REV_OFF_A + 4 * x.val, R.CDC_OVERRUN_EVENTS] s t ∧ OnlyRaised 34 x s t)) ∧
  -- HOTSWAP_ENABLE
  (∀ (s : State), Powered s → Unpaired s → hs s = hsOff → ((bit s fPinGate = true → bit s fPinEn = true)) →
    Answers (.hotswapEnable) s (fun t =>
      hs t = hsWait ∧ bit t fPpEn = true ∧ bit t fDiodeFault = false ∧ RegsBut [R.PP_CTRL, R.PP_STATUS] s t ∧
      t = { s with regs := t.regs, out := [] })) ∧
  -- HOTSWAP_DISABLE
  (∀ (s : State), Powered s → Unpaired s →
    Answers (.hotswapDisable false) s (fun t =>
      bit t fPpEn = false ∧ (hs s ≠ hsHold → hs s ≠ hsLatched → hs t = hsOff) ∧ (hs s = hsRamp ∨ hs s = hsOn ∨
      hs s = hsLimit → bit t fPg = false ∧ (s.pp.gate = true →
      t.pp.gateDelay = (if s.pp.gateDelay = 0 then 6 else s.pp.gateDelay))) ∧ (hs s = hsHold ∨ hs s = hsLatched →
      hs t = hs s))) ∧
  -- HOTSWAP_DISABLE
  (∀ (s : State), Powered s → bit s fPinGate = true →
    Answers (.hotswapDisable true) s (fun t =>
      bit t fPinEn = false ∧ (hs s ≠ hsHold → hs s ≠ hsLatched → hs t = hsOff) ∧ (hs s = hsRamp ∨ hs s = hsOn ∨
      hs s = hsLimit → bit t fPg = false))) ∧
  -- RAMP_START
  (∀ (s : State), Powered s → hs s = hsWait → s.pp.gateDelay = 0 → (bit s (fOr 0) = true ∨
    bit s (fOr 1) = true) →
    Answers (.rampStart) s (fun t =>
      hs t = hsRamp ∧ t.pp = { s.pp with gate := true, ramped := false } ∧ RegsBut [R.PP_STATUS] s t ∧
      t = { s with regs := t.regs, pp := t.pp, out := [] })) ∧
  -- RAMP_COMPLETE
  (∀ (mv : Nat) (s : State), Powered s → hs s = hsRamp → s.pp.ramped = false → 8000 ≤ mv →
    Answers (.rampComplete mv) s (fun t =>
      hs t = hsOn ∧ t.pp = { s.pp with ramped := true } ∧ RegsBut [R.PP_STATUS] s t ∧
      t = { s with regs := t.regs, pp := t.pp, out := [] })) ∧
  -- RAMP_TIMEOUT
  (∀ (s : State), Powered s → hsActive s = true → s.pp.ramped = false →
    Answers (.rampTimeout) s (fun t =>
      (hs t = hsHold ∨ hs t = hsLatched) ∧ (hs t = hsLatched ↔ getF s ⟨R.PP_RETRY, 0, 16⟩ = 0) ∧
      getF t fPpRetryMs = min 60000 (getF s ⟨R.PP_RETRY, 0, 16⟩) ∧ t.pp.trips = s.pp.trips + 1 ∧ t.pp.gate = false ∧
      getF t fLastTrip = tripRamp ∧ reg t R.PP_RAMP_TIMEOUTS = reg s R.PP_RAMP_TIMEOUTS + 1 ∧
      RegsBut [R.PP_STATUS, R.PP_RAMP_TIMEOUTS, R.CDC_OVERRUN_EVENTS] s t)) ∧
  -- CURRENT_LIMIT_ENTRY
  (∀ (cur : Nat) (s : State), Powered s → (hs s = hsOn ∨ hs s = hsRamp) → overLimit s cur = true →
    Answers (.currentLimitEntry cur) s (fun t =>
      hs t = hsLimit ∧ bit t fPg = bit s fPg ∧ reg t R.PP_LIMIT_ENTRIES = reg s R.PP_LIMIT_ENTRIES + 1 ∧
      RegsBut [R.PP_STATUS, R.PP_LIMIT_ENTRIES] s t ∧ t = { s with regs := t.regs, out := [] })) ∧
  -- FAULT_TIMER_EXPIRY
  (∀ (s : State), Powered s → hsActive s = true → faultTmr s ≤ s.pp.timer →
    Answers (.faultTimerExpiry) s (fun t =>
      (hs t = hsHold ∨ hs t = hsLatched) ∧ (hs t = hsLatched ↔ getF s ⟨R.PP_RETRY, 0, 16⟩ = 0) ∧
      getF t fPpRetryMs = min 60000 (getF s ⟨R.PP_RETRY, 0, 16⟩) ∧ t.pp.trips = s.pp.trips + 1 ∧ bit t fPg = false ∧
      getF t fLastTrip = tripSlow ∧ reg t R.PP_TRIPS_SLOW = reg s R.PP_TRIPS_SLOW + 1 ∧ (s.pp.gate = true →
      t.pp.gateDelay = (if s.pp.gateDelay = 0 then 6 else s.pp.gateDelay)))) ∧
  -- HOTSWAP_FAST_TRIP
  (∀ (cur : Nat) (s : State), Powered s → hs s ≠ hsLatched →
    ((limitNv s * fastTwice (getF s ⟨R.PP_ILIM, 16, 3⟩) : Nat) : Int) < senseNv s (2 * cur) →
    Answers (.hotswapFastTrip cur) s (fun t =>
      (hs t = hsHold ∨ hs t = hsLatched) ∧ (hs t = hsLatched ↔ getF s ⟨R.PP_RETRY, 0, 16⟩ = 0) ∧
      getF t fPpRetryMs = min 60000 (getF s ⟨R.PP_RETRY, 0, 16⟩) ∧ t.pp.trips = s.pp.trips + 1 ∧ bit t fPg = false ∧
      t.pp.gate = false ∧ getF t fLastTrip = tripFast ∧ reg t R.PP_TRIPS_FAST = reg s R.PP_TRIPS_FAST + 1)) ∧
  -- HOTSWAP_FAST_TRIP
  (∀ (cur : Nat) (s : State), Powered s → hs s = hsLatched →
    ((limitNv s * fastTwice (getF s ⟨R.PP_ILIM, 16, 3⟩) : Nat) : Int) < senseNv s (2 * cur) →
    Answers (.hotswapFastTrip cur) s (fun t =>
      hs t = hsLatched ∧ bit t fPg = false ∧ t.pp.gate = false ∧ getF t fLastTrip = tripFast ∧
      reg t R.PP_TRIPS_FAST = reg s R.PP_TRIPS_FAST + 1)) ∧
  -- FET_TEMP_SAMPLE
  (∀ (d die : Int) (s : State), Powered s → bit s fTempSrc = false → bit s fDiodeFault = false →
    (hsActive s = false ∨ d ≤ (getF s ⟨R.PP_THERM, 0, 8⟩ : Int) * 10) → s.pp.cooling = false →
    Answers (.fetTempSample (some d) die) s (fun t =>
      t.pp.temp = d ∧ reg t R.PP_MEAS_TEMP = BitVec.ofInt 32 (d % 65536) ∧ t.pp.loss = 0 ∧ t.pp.lossCount = 0 ∧
      RegsBut [R.PP_MEAS_TEMP] s t ∧ t = { s with regs := t.regs, pp := t.pp, freeIdx := t.freeIdx, out := [] })) ∧
  -- FET_TEMP_SAMPLE
  (∀ (d die : Int) (s : State), Powered s → bit s fTempSrc = false → bit s fDiodeFault = false →
    hsActive s = true → (getF s ⟨R.PP_THERM, 0, 8⟩ : Int) * 10 < d → s.pp.cooling = false →
    Answers (.fetTempSample (some d) die) s (fun t =>
      t.pp.temp = d ∧ (hs t = hsHold ∨ hs t = hsLatched) ∧ (hs t = hsLatched ↔ getF s ⟨R.PP_RETRY, 0, 16⟩ = 0) ∧
      getF t fPpRetryMs = min 60000 (getF s ⟨R.PP_RETRY, 0, 16⟩) ∧ t.pp.trips = s.pp.trips + 1 ∧ bit t fPg = false ∧
      getF t fLastTrip = tripThermal ∧ reg t R.PP_TRIPS_THERMAL = reg s R.PP_TRIPS_THERMAL + 1 ∧
      reg t R.PP_MEAS_TEMP = BitVec.ofInt 32 (d % 65536))) ∧
  -- RETRY_HOLD_END
  (∀ (s : State), Powered s → hs s = hsHold → getF s ⟨R.PP_RETRY, 0, 16⟩ ≠ 0 → s.pp.cooling = false →
    s.pp.thermal = false → (getF s ⟨R.PP_RETRY, 16, 8⟩ = 0 ∨ s.pp.trips < getF s ⟨R.PP_RETRY, 16, 8⟩) →
    Answers (.retryHoldEnd) s (fun t =>
      hs t = (if hsEnabled s then hsWait else hsOff) ∧ getF t fPpRetryMs = 0 ∧
      reg t R.PP_RETRIES = reg s R.PP_RETRIES + (if hsEnabled s then 1 else 0) ∧
      RegsBut [R.PP_STATUS, R.PP_RETRIES] s t ∧ t = { s with regs := t.regs, pp := t.pp, out := [] })) ∧
  -- RETRY_HOLD_END
  (∀ (s : State), Powered s → hs s = hsHold → s.pp.cooling = false → (getF s ⟨R.PP_RETRY, 0, 16⟩ = 0 ∨
    getF s ⟨R.PP_RETRY, 16, 8⟩ ≠ 0 ∧ getF s ⟨R.PP_RETRY, 16, 8⟩ ≤ s.pp.trips) →
    Answers (.retryHoldEnd) s (fun t =>
      hs t = hsLatched ∧ getF t fPpRetryMs = 0 ∧ reg t R.PP_RETRIES = reg s R.PP_RETRIES ∧
      RegsBut [R.PP_STATUS, R.CDC_OVERRUN_EVENTS] s t ∧ OnlyRaised 39 256 s t)) ∧
  -- PP_CLEAR
  (∀ (s : State), Powered s → hs s = hsLatched → s.pp.thermal = false →
    Answers (.ppClear) s (fun t =>
      hs t = (if hsEnabled s then hsWait else hsOff) ∧ getF t fPpRetryMs = 0 ∧
      reg t R.PP_RETRIES = reg s R.PP_RETRIES + (if hsEnabled s then 1 else 0) ∧
      RegsBut [R.PP_STATUS, R.PP_RETRIES] s t ∧ t = { s with regs := t.regs, pp := t.pp, out := [] })) ∧
  -- PP_MODEL_RESET
  (∀ (s : State), Powered s →
    Answers (.ppModelReset) s (fun t =>
      t = { s with pp := { s.pp with deltaT := 0 }, out := [] })) ∧
  -- PFW_DEASSERT
  (∀ (s : State), Powered s → bit s fPfw = true → feedAbove s (warnMv s + 1000) = true →
    Answers (.pfwDeassert) s (fun t =>
      bit t fPfw = false ∧ bit t ⟨R.PP_HOLDUP_EST, 31, 1⟩ = false ∧ RegsBut [R.PP_STATUS, R.PP_HOLDUP_EST] s t ∧
      t = { s with regs := t.regs, out := [] })) ∧
  -- HOLDUP_ESTIMATE
  (∀ (vmin p : Nat) (s : State), Powered s → bit s fPfw = true → vmin = getF s ⟨R.PP_PFW, 16, 10⟩ * 100 →
    p = 200000 * getF s ⟨R.PP_LOAD_P, 0, 16⟩ → p ≠ 0 → getF s ⟨R.PP_BULK, 0, 20⟩ ≠ 0 →
    Answers (.holdupEstimate) s (fun t =>
      reg t R.PP_HOLDUP_EST = BitVec.ofNat 32 (min (2 ^ 20 - 1) ((2 * (getF s ⟨R.PP_BULK, 0, 20⟩ * (s.pp.src * s.pp.src - vmin * vmin)) + p) / (2 * p)) + 2 ^ 31) ∧
      RegsBut [R.PP_HOLDUP_EST] s t ∧ OnlyRegs s t ∧ t.out = []))

/-- The active journals and drops acknowledged records; the standby applies each record in order, under the conditions
written out. The model's own readings: log entries 68. After: R299, R300, R301, R302, R305, R318, 13_mirrored_pair.md Table
13-3, 13_mirrored_pair.md Table 13-4. -/
def Obligations.JournalCommandsComplete : Prop :=
  -- JOURNAL_REG
  (∀ (h : JHdr) (addr : Addr) (v : Word) (k : PageKind) (s : State), Runs s → mode s = mStandby →
    linkState s 4 = lsUp → h.jseq.toNat = (s.pair.applied + 1) % 2 ^ 32 → h.last = false → s.pair.sinceJack < 7 →
    pageKindOf (addr.toNat / 0x1000) = some k → mirroredPage (addr.toNat / 0x1000) = true →
    addr.toNat % 0x1000 = 0x044 →
    Answers (.journalReg h addr v) s (fun t =>
      reg t addr.toNat = v ∧ t.pair = { s.pair with applied := h.jseq.toNat, sinceJack := s.pair.sinceJack + 1 } ∧
      reg t R.PAIR_PEER_EPOCH = h.epoch ∧ RegsBut [addr.toNat, R.PAIR_PEER_EPOCH] s t ∧
      t = { s with regs := t.regs, pair := t.pair, out := [] })) ∧
  -- JOURNAL_COMMIT
  (∀ (h : JHdr) (s : State), Runs s → mode s = mStandby → linkState s 4 = lsUp →
    h.jseq.toNat = (s.pair.applied + 1) % 2 ^ 32 → h.last = false → s.pair.sinceJack < 7 →
    Answers (.journalCommit h 0x7D) s (fun t =>
      (∀ k ∈ fwdRegs, actReg t k = reg s k) ∧
      t.pair = { s.pair with applied := h.jseq.toNat, sinceJack := s.pair.sinceJack + 1 } ∧
      reg t R.PAIR_PEER_EPOCH = h.epoch ∧ RegsBut [R.PAIR_PEER_EPOCH, 0x7D024, (fDirty 0x7D).key] s t ∧
      t = { s with regs := t.regs, act := t.act, pair := t.pair, out := [] })) ∧
  -- JOURNAL_CKPT
  (∀ (h : JHdr) (i : Byte) (next base e : BitVec 10) (tstate : Byte) (s : State), Runs s → mode s = mStandby →
    linkState s 4 = lsUp → h.jseq.toNat = (s.pair.applied + 1) % 2 ^ 32 → h.last = false → s.pair.sinceJack < 7 →
    Answers (.journalCkpt h i next base e tstate) s (fun t =>
      t.pair = { s.pair with applied := h.jseq.toNat, sinceJack := s.pair.sinceJack + 1, ckpt := smSet dCkpt s.pair.ckpt i.toNat { next := next.toNat, base := base.toNat, e := e.toNat, tstate := tstate.toNat } } ∧
      reg t R.PAIR_PEER_EPOCH = h.epoch ∧ RegsBut [R.PAIR_PEER_EPOCH] s t ∧
      t = { s with regs := t.regs, pair := t.pair, out := [] })) ∧
  -- JOURNAL_SERVO
  (∀ (h : JHdr) (body : Vector Byte 13) (s : State), Runs s → mode s = mStandby → linkState s 4 = lsUp →
    h.jseq.toNat = (s.pair.applied + 1) % 2 ^ 32 → h.last = false → s.pair.sinceJack < 7 →
    Answers (.journalServo h body) s (fun t =>
      t.pair = { s.pair with applied := h.jseq.toNat, sinceJack := s.pair.sinceJack + 1, servo := body.toList, freq := some (BitVec.ofNat 32 (ofBE (sub body.toList 8 4))) } ∧
      reg t R.PAIR_PEER_EPOCH = h.epoch ∧ t.time = { s.time with integ := sext 64 (ofBE (sub body.toList 0 8)) } ∧
      RegsBut [R.PAIR_PEER_EPOCH] s t ∧ t = { s with regs := t.regs, pair := t.pair, time := t.time, out := [] })) ∧
  -- JOURNAL_EVENT
  (∀ (h : JHdr) (record : Vector Byte 16) (s : State), Runs s → mode s = mStandby → linkState s 4 = lsUp →
    h.jseq.toNat = (s.pair.applied + 1) % 2 ^ 32 → h.last = false → s.pair.sinceJack < 7 →
    Answers (.journalEvent h record) s (fun t =>
      t.flt = { s.flt with history := (recordOf record.toList :: s.flt.history).take 16 } ∧
      t.pair = { s.pair with applied := h.jseq.toNat, sinceJack := s.pair.sinceJack + 1 } ∧
      reg t R.PAIR_PEER_EPOCH = h.epoch ∧ RegsBut [R.PAIR_PEER_EPOCH] s t ∧
      t = { s with regs := t.regs, pair := t.pair, flt := t.flt, out := [] })) ∧
  -- JOURNAL_FWD
  (∀ (h : JHdr) (vid : BitVec 12) (da : BitVec 48) (tset : BitVec 6) (i : Nat) (s : State), Runs s →
    mode s = mStandby → linkState s 4 = lsUp → h.jseq.toNat = (s.pair.applied + 1) % 2 ^ 32 → h.last = false →
    s.pair.sinceJack < 7 → fwdFind s vid.toNat da.toNat = none →
    (fwdPlaces s vid.toNat da.toNat).find? (fun i => (fwdGet s i).isNone) = some i →
    Answers (.journalFwd h 1 vid da tset) s (fun t =>
      t.fwd = smSet dFwd s.fwd i (some { vid := vid.toNat, da := da.toNat, tset := tset.toNat, fi := spoils s 0x7D 0 1 }) ∧
      t.pair = { s.pair with applied := h.jseq.toNat, sinceJack := s.pair.sinceJack + 1 } ∧
      reg t R.PAIR_PEER_EPOCH = h.epoch ∧
      RegsBut [R.PAIR_PEER_EPOCH, R.FWD_RESULT, R.FWD_STATUS, 0x7D040, R.FLT_FI_INJECTIONS] s t)) ∧
  -- JOURNAL_MODE
  (∀ (h : JHdr) (m : BitVec 3) (cause : BitVec 2) (s : State), Runs s → mode s = mStandby →
    linkState s 4 = lsUp → h.jseq.toNat = (s.pair.applied + 1) % 2 ^ 32 → h.last = false → s.pair.sinceJack < 7 →
    Answers (.journalMode h m cause) s (fun t =>
      t.pair = { s.pair with applied := h.jseq.toNat, sinceJack := s.pair.sinceJack + 1, activeMode := some (m.toNat, cause.toNat) } ∧
      reg t R.PAIR_PEER_EPOCH = h.epoch ∧ RegsBut [R.PAIR_PEER_EPOCH] s t ∧
      t = { s with regs := t.regs, pair := t.pair, out := [] })) ∧
  -- JOURNAL_SNAP
  (∀ (h : JHdr) (g : BitVec 16) (s : State), Runs s → mode s = mStandby → linkState s 4 = lsUp → h.last = false →
    s.pair.sinceJack < 7 →
    Answers (.journalSnap h g) s (fun t =>
      getF t fSync = syncResync ∧ t.fwd = [] ∧ t.pcie = { s.pcie with cfg := [] } ∧
      t.disp = { s.disp with img := [] } ∧
      t.pair = { s.pair with applied := h.jseq.toNat, sinceJack := s.pair.sinceJack + 1, groupOpen := true, groupEnd := none, ckpt := [] } ∧
      reg t R.PAIR_PEER_EPOCH = h.epoch ∧ RegsBut [R.PAIR_PEER_EPOCH, R.PAIR_STATUS, R.FWD_STATUS] s t)) ∧
  -- JOURNAL_SWAP_COMMIT
  (∀ (h : JHdr) (e : Word) (s : State), Runs s → mode s = mStandby → linkState s 4 = lsUp →
    h.jseq.toNat = (s.pair.applied + 1) % 2 ^ 32 → h.last = false → s.pair.sinceJack < 7 →
    Answers (.journalSwapCommit h e) s (fun t =>
      getF t fSync = syncSynced ∧ reg t R.PAIR_FO_STATUS = 3 ∧ t.pair.taking = none ∧ t.pair.resyncDue = false)) ∧
  -- JOURNAL_CRC_ERROR
  (∀ (record : Vector Byte 32) (s : State), Runs s → mode s = mStandby → linkState s 4 = lsUp →
    ofBE (sub record.toList 28 4) ≠ (crc32c (record.toList.take 28)).toNat →
    Answers (.journalCrcError record) s (fun t =>
      getF t fSync = syncResync ∧ (lGet t 4).ctlOut = (lGet s 4).ctlOut ++ [[0x23] ++ List.replicate 55 0] ∧
      reg t R.PAIR_RESYNCS = reg s R.PAIR_RESYNCS + 1 ∧ RegsBut [R.PAIR_STATUS, R.PAIR_RESYNCS] s t ∧
      t = { s with regs := t.regs, pair := t.pair, link := t.link, out := [] })) ∧
  -- JACK_RECEIVED
  (∀ (jseq : Word) (s : State), Runs s → holdsRole s = true → scarfIsUp s = true →
    reached (reg s R.PAIR_JSEQ_ACK).toNat jseq.toNat = true →
    reached jseq.toNat (s.pair.nextJ + 2 ^ 32 - 1) = true → s.pair.group = [] → s.pair.swap ≠ .checkpointed →
    Answers (.jackReceived jseq) s (fun t =>
      t.pair = { s.pair with ring := s.pair.ring.filter (fun r => !reached r.jseq jseq.toNat), groupAck := if reached s.pair.groupAck jseq.toNat then jseq.toNat else s.pair.groupAck } ∧
      reg t R.PAIR_JSEQ_ACK = jseq ∧ getF t fJfill = t.pair.ring.length % 4096 ∧
      RegsBut [R.PAIR_JSEQ_ACK, R.PAIR_STATUS] s t ∧ t = { s with regs := t.regs, pair := t.pair, out := [] })) ∧
  -- JACK_SEND_TIMER
  (∀ (s : State), Runs s → mode s = mStandby → 0 < s.pair.sinceJack →
    Answers (.jackSendTimer) s (fun t =>
      t.pair = { s.pair with sinceJack := 0 } ∧
      (lGet t 4).ctlOut = (lGet s 4).ctlOut ++ [[0x21] ++ bytesBE 4 s.pair.applied] ∧ RegsBut [] s t ∧
      t = { s with regs := t.regs, pair := t.pair, link := t.link, out := [] })) ∧
  -- CHECKPOINT_TIMER
  (∀ (s : State), Runs s → holdsRole s = true →
    Answers (.checkpointTimer) s (fun t =>
      (∀ i ∈ validEntries s, (smGet dCkpt t.pair.ckpt i).next = (ckptOf s i).next ∧
      (smGet dCkpt t.pair.ckpt i).base = (ckptOf s i).base ∧ (smGet dCkpt t.pair.ckpt i).e = (ckptOf s i).e))) ∧
  -- SERVO_JOURNAL_TIMER
  (∀ (s : State), Runs s → holdsRole s = true → (getF s fSync = 1 ∨ getF s fSync = 2) →
    s.pair.ring.length < 2048 → s.pair.group = [] →
    Answers (.servoJournalTimer) s (fun t =>
      t.pair = { s.pair with nextJ := s.pair.nextJ + 1, ring := s.pair.ring ++ [{ type := 4, last := false, jseq := s.pair.nextJ % 2 ^ 32, epoch := epoch s, body := padTo 16 (servoBody s) }] } ∧
      (lGet t 4).ctlOut = (lGet s 4).ctlOut ++ [jrecCell { type := 4, last := false, jseq := s.pair.nextJ % 2 ^ 32, epoch := epoch s, body := padTo 16 (servoBody s) }] ∧
      reg t R.PAIR_JSEQ_TX = BitVec.ofNat 32 s.pair.nextJ ∧
      cnt64 t R.PAIR_JOURNAL_RECORDS = (cnt64 s R.PAIR_JOURNAL_RECORDS + 1) % 2 ^ 64 ∧
      RegsBut [R.PAIR_JSEQ_TX, R.PAIR_STATUS, R.PAIR_JOURNAL_RECORDS, R.PAIR_JOURNAL_RECORDS + 4] s t ∧
      t = { s with regs := t.regs, pair := t.pair, link := t.link, out := [] })) ∧
  -- SERVO_JOURNAL_TIMER
  (∀ (s : State), Runs s → holdsRole s = true → (getF s fSync = 1 ∨ getF s fSync = 2) →
    s.pair.ring.length < 2048 → s.pair.group ≠ [] →
    Answers (.servoJournalTimer) s (fun t =>
      t.pair = { s.pair with nextJ := s.pair.nextJ + 1, ring := s.pair.ring ++ [{ type := 4, last := false, jseq := s.pair.nextJ % 2 ^ 32, epoch := epoch s, body := padTo 16 (servoBody s) }] } ∧
      t.link = s.link ∧ RegsBut [R.PAIR_STATUS] s t))

/-- Resynchronisation and the planned swap advance through the steps of Table 13-7, under the conditions written out. The
model's own readings: log entries 68, 69. After: R305, R318, R319, 13_mirrored_pair.md Table 13-7, 13_mirrored_pair.md Table
13-8. -/
def Obligations.SwapCommandsComplete : Prop :=
  -- RESYNC_START
  (∀ (s : State), Runs s → scarfIsUp s = true → s.pair.resyncDue = true → holdsRole s = true →
    Answers (.resyncStart) s (fun t =>
      getF t fSync = syncResync ∧ t.pair.ring = s.pair.ring ∧ t.pair.group.length = (snapshot s).length - 16 ∧
      t.pair.groupEnd = some ((s.pair.nextJ + (snapshot s).length - 1) % 2 ^ 32) ∧ t.pair.resyncDue = false ∧
      t.pair.nextJ = s.pair.nextJ + (snapshot s).length ∧ reg t R.PAIR_RESYNCS = reg s R.PAIR_RESYNCS + 1)) ∧
  -- RESYNC_REQ_RECEIVED
  (∀ (s : State), Runs s → scarfIsUp s = true → holdsRole s = true →
    Answers (.resyncReqReceived) s (fun t =>
      getF t fSync = syncResync ∧ t.pair.ring = s.pair.ring ∧ t.pair.group.length = (snapshot s).length - 16 ∧
      t.pair.groupEnd = some ((s.pair.nextJ + (snapshot s).length - 1) % 2 ^ 32) ∧ t.pair.resyncDue = false ∧
      t.pair.nextJ = s.pair.nextJ + (snapshot s).length ∧ reg t R.PAIR_RESYNCS = reg s R.PAIR_RESYNCS + 1)) ∧
  -- RESYNC_REQ_RECEIVED
  (∀ (s : State), Runs s → scarfIsUp s = true → mode s = mStandby →
    Answers (.resyncReqReceived) s (fun t =>
      getF t fSync = syncLost ∧ t.pair = { s.pair with groupOpen := false, groupEnd := none } ∧
      RegsBut [R.PAIR_STATUS] s t ∧ t = { s with regs := t.regs, pair := t.pair, out := [] })) ∧
  -- PAIR_RESYNC
  (∀ (s : State), Runs s → scarfIsUp s = true → holdsRole s = true →
    Answers (.pairResync) s (fun t =>
      getF t fSync = syncResync ∧ t.pair.ring = s.pair.ring ∧ t.pair.group.length = (snapshot s).length - 16 ∧
      t.pair.groupEnd = some ((s.pair.nextJ + (snapshot s).length - 1) % 2 ^ 32) ∧ t.pair.resyncDue = false ∧
      t.pair.nextJ = s.pair.nextJ + (snapshot s).length ∧ reg t R.PAIR_RESYNCS = reg s R.PAIR_RESYNCS + 1)) ∧
  -- RESYNC_COMPLETE
  (∀ (e : Nat) (s : State), Runs s → s.pair.groupEnd = some e → getF s fSync = syncResync → s.pair.group = [] →
    (mode s = mStandby ∨ (holdsRole s = true ∧ reached e (reg s R.PAIR_JSEQ_ACK).toNat = true)) →
    Answers (.resyncComplete) s (fun t =>
      getF t fSync = syncSynced ∧ t.pair = { s.pair with groupEnd := none } ∧ RegsBut [R.PAIR_STATUS] s t ∧
      t = { s with regs := t.regs, pair := t.pair, out := [] })) ∧
  -- PAIR_OFFER
  (∀ (s : State), Runs s → s.pair.swap = .idle → mode s = mActive → epoch s ≠ 2 ^ 32 - 1 →
    Answers (.pairOffer) s (fun t =>
      t.pair = { s.pair with swap := .offered } ∧ bit t fSwapping = true ∧
      (lGet t 4).ctlOut = (lGet s 4).ctlOut ++ [[0x22, 1] ++ bytesBE 4 (epoch s)] ∧ RegsBut [R.PAIR_STATUS] s t ∧
      t = { s with regs := t.regs, pair := t.pair, link := t.link, out := [] })) ∧
  -- SWAP_OFFER_RECEIVED
  (∀ (s : State), Runs s → scarfIsUp s = true →
    Answers (.swapOfferReceived) s (fun t =>
      t = lSet 4 { lGet s 4 with ctlOut := (lGet s 4).ctlOut ++ [[0x22, if mode s = mStandby ∧ getF s fSync = syncSynced ∧ bit s ⟨R.PAIR_CTRL, 0, 1⟩ then 2 else 3] ++ bytesBE 4 (epoch s)] } { s with out := [] })) ∧
  -- SWAP_ACCEPT_RECEIVED
  (∀ (s : State), Runs s → s.pair.swap = .offered →
    Answers (.swapAcceptReceived) s (fun t =>
      t = { s with pair := { s.pair with swap := .draining, frozen := true }, out := [] })) ∧
  -- SWAP_REFUSE_RECEIVED
  (∀ (s : State), Runs s → s.pair.swap = .offered →
    Answers (.swapRefuseReceived) s (fun t =>
      t.pair = { s.pair with swap := .idle, frozen := false } ∧ bit t fSwapping = false ∧ getF t fSwapResult = 1 ∧
      RegsBut [R.PAIR_STATUS] s t ∧ t = { s with regs := t.regs, pair := t.pair, out := [] })) ∧
  -- SWAP_DRAIN_DONE
  (∀ (s : State), Runs s → s.pair.swap = .draining → drained s = true → holdsRole s = true →
    getF s fSync = syncSynced → s.pair.ring = [] → s.pair.group = [] → validEntries s = [] →
    Answers (.swapDrainDone) s (fun t =>
      t.pair.swap = .committing ∧
      t.pair.ring = [{ type := 8, jseq := s.pair.nextJ % 2 ^ 32, epoch := epoch s, body := padTo 16 (bytesBE 4 (epoch s + 1)) }] ∧
      (lGet t 4).ctlOut = (lGet s 4).ctlOut ++ t.pair.ring.map jrecCell)) ∧
  -- SWAP_DRAIN_DONE
  (∀ (s : State), Runs s → s.pair.swap = .draining → drained s = true → holdsRole s = true →
    getF s fSync = syncSynced → s.pair.ring.length + 256 < 2048 → (s.pair.ring ≠ [] ∨ validEntries s ≠ []) →
    Answers (.swapDrainDone) s (fun t =>
      t.pair.swap = .checkpointed ∧ t.pair.ring.length = s.pair.ring.length + (validEntries s).length ∧
      t.pair.ring.take s.pair.ring.length = s.pair.ring ∧ t.pair.frozen = s.pair.frozen)) ∧
  -- JACK_RECEIVED
  (∀ (jseq : Word) (s : State), Runs s → holdsRole s = true → scarfIsUp s = true → getF s fSync = syncSynced →
    s.pair.swap = .checkpointed → reached (reg s R.PAIR_JSEQ_ACK).toNat jseq.toNat = true →
    reached jseq.toNat (s.pair.nextJ + 2 ^ 32 - 1) = true →
    s.pair.ring.all (fun r => reached r.jseq jseq.toNat) = true → s.pair.group = [] →
    Answers (.jackReceived jseq) s (fun t =>
      t.pair.swap = .committing ∧
      t.pair.ring = [{ type := 8, jseq := s.pair.nextJ % 2 ^ 32, epoch := epoch s, body := padTo 16 (bytesBE 4 (epoch s + 1)) }] ∧
      reg t R.PAIR_JSEQ_ACK = jseq)) ∧
  -- SWAP_DRAIN_TIMEOUT
  (∀ (s : State), Runs s → s.pair.swap = .draining →
    Answers (.swapDrainTimeout) s (fun t =>
      t.pair = { s.pair with swap := .idle, frozen := false } ∧ bit t fSwapping = false ∧ getF t fSwapResult = 3 ∧
      RegsBut [R.PAIR_STATUS] s t ∧ t = { s with regs := t.regs, pair := t.pair, out := [] })) ∧
  -- SWAP_COMMIT_ACK_RECEIVED
  (∀ (s : State), Runs s → s.pair.swap = .committing →
    Answers (.swapCommitAckReceived) s (fun t =>
      t.pair.swap = .idle ∧ t.pair.frozen = false ∧ bit t fSwapping = false ∧ getF t fSwapResult = 0 ∧
      getF t fSync = syncSynced ∧ t.pair.applied = (s.pair.nextJ + 2 ^ 32 - 1) % 2 ^ 32)) ∧
  -- SWAP_ABORT_RECEIVED
  (∀ (s : State), Runs s → s.pair.swap ≠ .idle → s.pair.swap ≠ .committing → s.inq = [] →
    Answers (.swapAbortReceived) s (fun t =>
      t.pair = { s.pair with swap := .idle, frozen := false } ∧
      (lGet t 4).ctlOut = (lGet s 4).ctlOut ++ [[0x22, 5] ++ bytesBE 4 (epoch s)] ∧ bit t fSwapping = false ∧
      getF t fSwapResult = 4 ∧ reg t R.PAIR_SWAP_ABORTS = reg s R.PAIR_SWAP_ABORTS + 1 ∧
      OnlyRaised 111 1025 { s with pair := t.pair, link := t.link } t ∧
      RegsBut [R.PAIR_STATUS, R.PAIR_SWAP_ABORTS, R.CDC_OVERRUN_EVENTS] s t)) ∧
  -- SWAP_ABORT_RECEIVED
  (∀ (s : State), Runs s → s.pair.swap = .committing →
    Answers (.swapAbortReceived) s (fun t =>
      t = { s with out := [] })) ∧
  -- SWAP_ACK_TIMEOUT
  (∀ (s : State), Runs s → s.pair.swap ≠ .idle → s.inq = [] → scarfIsUp s = false → getF s fPeerMode ≠ mActive →
    Answers (.swapAckTimeout) s (fun t =>
      t.pair = { s.pair with swap := .idle, frozen := false } ∧ bit t fSwapping = false ∧ getF t fSwapResult = 4 ∧
      OnlyRaised 111 1025 { s with pair := t.pair, link := t.link } t))

/-- Heartbeats, fences, takeovers and the dock's enable take effect, under the conditions written out. The model's own
readings: log entries 69, 101. After: R306, R307, R308, R309, R311, R312, R322, 13_mirrored_pair.md Table 13-5. -/
def Obligations.TakeoverCommandsComplete : Prop :=
  -- HEARTBEAT_FRAME
  (∀ (f : BitVec 24) (s : State), Runs s → bit s fPaired = true → heartbeatOk f = true → (mode s ≠ mActive ∧
    mode s ≠ mIsland) →
    Answers (.heartbeatFrame f) s (fun t =>
      getF t fPeerMode = bits f.toNat 16 3 ∧ bit t fSbHb = true ∧
      t.pair = { s.pair with peerHid := if f.getLsbD 8 then some (bits f.toNat 2 6) else none } ∧
      RegsBut [R.PAIR_STATUS] s t ∧ t = { s with regs := t.regs, pair := t.pair, out := [] })) ∧
  -- HEARTBEAT_FRAME
  (∀ (f : BitVec 24) (s : State), Runs s → bit s fPaired = true → heartbeatOk f = true → (mode s = mActive ∨
    mode s = mIsland) → bits f.toNat 16 3 = mStandby →
    Answers (.heartbeatFrame f) s (fun t =>
      getF t fPeerMode = mStandby ∧ bit t fSbHb = true ∧
      t.pair = { s.pair with peerHid := if f.getLsbD 8 then some (bits f.toNat 2 6) else none } ∧
      RegsBut [R.PAIR_STATUS] s t ∧ t = { s with regs := t.regs, pair := t.pair, out := [] })) ∧
  -- HEARTBEAT_FRAME
  (∀ (f : BitVec 24) (s : State), Runs s → bit s fPaired = true → heartbeatOk f = true → (mode s = mActive ∨
    mode s = mIsland) → bits f.toNat 16 3 ≠ mStandby → bits f.toNat 16 3 ≠ mActive → bits f.toNat 16 3 ≠ mIsland →
    s.pair.swap = .idle →
    Answers (.heartbeatFrame f) s (fun t =>
      getF t fPeerMode = bits f.toNat 16 3 ∧ bit t fSbHb = true ∧ getF t fSync = syncNone ∧ getF t fJfill = 0 ∧
      t.pair = { s.pair with ring := [], group := [], groupEnd := none, resyncDue := false, peerHid := if f.getLsbD 8 then some (bits f.toNat 2 6) else none } ∧
      RegsBut [R.PAIR_STATUS] s t ∧ t = { s with regs := t.regs, pair := t.pair, out := [] })) ∧
  -- HEARTBEAT_FRAME
  (∀ (f : BitVec 24) (d : Nat) (s : State), Runs s → bit s fPaired = true → heartbeatOk f = true →
    (mode s = mActive ∨ mode s = mIsland) → (bits f.toNat 16 3 = mActive ∨ bits f.toNat 16 3 = mIsland) →
    d = (bits f.toNat 9 7 + 128 - epoch s % 128) % 128 → (64 < d ∨ (d = 0 ∨ d = 64) ∧ bit s fMember = false) →
    Answers (.heartbeatFrame f) s (fun t =>
      getF t fPeerMode = bits f.toNat 16 3 ∧ bit t fSbHb = true ∧ mode t = mode s ∧
      reg t R.PAIR_RELINQUISHES = reg s R.PAIR_RELINQUISHES ∧ RegsBut [R.PAIR_STATUS, R.CDC_OVERRUN_EVENTS] s t)) ∧
  -- HEARTBEAT_FRAME
  (∀ (f : BitVec 24) (d : Nat) (s : State), Runs s → bit s fPaired = true → heartbeatOk f = true →
    (mode s = mActive ∨ mode s = mIsland) → (bits f.toNat 16 3 = mActive ∨ bits f.toNat 16 3 = mIsland) →
    d = (bits f.toNat 9 7 + 128 - epoch s % 128) % 128 → (1 ≤ d ∧ d ≤ 63 ∨ (d = 0 ∨ d = 64) ∧
    bit s fMember = true) →
    Answers (.heartbeatFrame f) s (fun t =>
      mode t = mStandby ∧ getF t fSync = syncLost ∧ reg t R.PAIR_RELINQUISHES = reg s R.PAIR_RELINQUISHES + 1 ∧
      reg t R.PAIR_EPOCH = reg s R.PAIR_EPOCH)) ∧
  -- HEARTBEAT_LOSS
  (∀ (scarf : Bool) (s : State), Runs s → bit s fScarfHb = true → bit s fSbHb = true →
    Answers (.heartbeatLoss scarf) s (fun t =>
      bit t (if scarf then fScarfHb else fSbHb) = false ∧ bit t (if scarf then fSbHb else fScarfHb) = true ∧
      reg t R.PAIR_PARTIAL_LOSSES = reg s R.PAIR_PARTIAL_LOSSES + 1 ∧ OnlyRaised 109 (if scarf then 1 else 2) s t ∧
      RegsBut [R.PAIR_STATUS, R.PAIR_PARTIAL_LOSSES, R.CDC_OVERRUN_EVENTS] s t)) ∧
  -- HEARTBEAT_LOSS
  (∀ (scarf : Bool) (s : State), Runs s → mode s = mStandby → bit s (if scarf then fScarfHb else fSbHb) = true →
    bit s (if scarf then fSbHb else fScarfHb) = false → getF s fSync = syncSynced → epochExhausted s = false →
    Answers (.heartbeatLoss scarf) s (fun t =>
      bit t fScarfHb = false ∧ bit t fSbHb = false ∧ bit t fFenceOut = true ∧
      t.pair = { s.pair with taking := some false } ∧ RegsBut [R.PAIR_STATUS] s t ∧
      t = { s with regs := t.regs, pair := t.pair, out := [] })) ∧
  -- PAIR_TAKEOVER
  (∀ (s : State), Runs s → mode s = mStandby → bit s fScarfHb = false → bit s fSbHb = false →
    epochExhausted s = false →
    Answers (.pairTakeover) s (fun t =>
      bit t fFenceOut = true ∧ t.pair = { s.pair with taking := some true } ∧ RegsBut [R.PAIR_STATUS] s t ∧
      t = { s with regs := t.regs, pair := t.pair, out := [] })) ∧
  -- TAKEOVER_ASSUME
  (∀ (forced : Bool) (s : State), Runs s → s.pair.taking = some forced → mode s = mStandby →
    Answers (.takeoverAssume) s (fun t =>
      reg t R.PAIR_FO_STATUS = (if forced then 5 else 1) ∧ getF t fSync = syncNone ∧ t.pair.taking = none ∧
      t.pair.ring = [] ∧ t.disp.stale = true ∧ t.disp.blank = true)) ∧
  -- FENCE_IN_RISE
  (∀ (s : State), Runs s → mode s ≠ mActive → mode s ≠ mIsland →
    Answers (.fenceInRise) s (fun t =>
      bit t fFenceIn = true ∧ t.pair = { s.pair with fenced := true } ∧ RegsBut [R.PAIR_STATUS] s t ∧
      t = { s with regs := t.regs, pair := t.pair, out := [] })) ∧
  -- FENCE_IN_RISE
  (∀ (s : State), Runs s → (mode s = mActive ∨ mode s = mIsland) →
    Answers (.fenceInRise) s (fun t =>
      getF t fSync = syncLost ∧ t.pair.fenced = true ∧ t.pair.resyncDue = true)) ∧
  -- FENCE_IN_RISE
  (∀ (s : State), Powered s → hubRuns s = false →
    Answers (.fenceInRise) s (fun t =>
      t = { s with pair := { s.pair with fenced := true }, out := [] })) ∧
  -- FENCE_IN_FALL
  (∀ (s : State), Runs s →
    Answers (.fenceInFall) s (fun t =>
      bit t fFenceIn = false ∧ t.pair = { s.pair with fenced := false } ∧
      RegsBut ([R.PAIR_STATUS] ++ (List.range 4).flatMap (fun n => [R.LINK_STATUS n, (fRef n).key])) s t)) ∧
  -- FENCE_RELEASE
  (∀ (s : State), Runs s → bit s fScarfHb = true → bit s fSbHb = true → getF s fPeerMode = mStandby →
    getF s fSync = syncSynced →
    Answers (.fenceRelease) s (fun t =>
      bit t fFenceOut = false ∧ RegsBut [R.PAIR_STATUS] s t ∧ OnlyRegs s t ∧ t.out = [])) ∧
  -- DOCK_ENABLE
  (∀ (v : Word) (s : State), Runs s → bits v.toNat 2 2 ≠ bits v.toNat 4 2 → (v.toNat % 2 = 0 ∨
    bits (v &&& 0x3F3D).toNat 0 6 = bits (reg s R.PAIR_DOCK_CTRL).toNat 0 6) →
    Answers (.dockEnable v) s (fun t =>
      reg t R.PAIR_DOCK_CTRL = v &&& 0x3F3D ∧ RegsBut [R.PAIR_DOCK_CTRL] s t ∧ OnlyRegs s t ∧ t.out = [])) ∧
  -- DOCK_ENABLE
  (∀ (v : Word) (s : State), Runs s → bits v.toNat 2 2 = bits v.toNat 4 2 →
    Answers (.dockEnable v) s (fun t =>
      reg t R.PAIR_DOCK_CTRL = v &&& 0x3F3C ∧ RegsBut [R.PAIR_DOCK_CTRL] s t ∧ OnlyRegs s t ∧ t.out = [])) ∧
  -- DOCK_ENABLE
  (∀ (v : Word) (s : State), Runs s → bits v.toNat 2 2 ≠ bits v.toNat 4 2 → v.toNat % 2 = 1 →
    bits (v &&& 0x3F3D).toNat 0 6 ≠ bits (reg s R.PAIR_DOCK_CTRL).toNat 0 6 →
    Answers (.dockEnable v) s (fun t =>
      t = kept s (dockEvaluate (setF fFollow 0 { s with regs := (setReg R.PAIR_DOCK_CTRL (v &&& 0x3F3D) s).regs, pair := { s.pair with following := false }, out := [] }))))

/-- Pulses take the slots of their crossing or are lost, and acknowledges, stalls and resets act on it, under the conditions
written out. The model's own readings: log entries 70. After: R326, R327, R328, R335, R336, R338, R339, R342, R455,
14_clock_domain_crossings.md Table 14-5. -/
def Obligations.CrossingCommandsComplete : Prop :=
  -- CROSSING_PULSE
  (∀ (x : EventX) (k : BitVec 3) (detail : BitVec 16) (s : State), Runs s → (x = .dispCommit ∨ x = .level) →
    (xGet s (xIndex x)).inFlight = none →
    Answers (.crossingPulse x k detail) s (fun t =>
      t = xSet (xIndex x) { (xGet s (xIndex x)) with inFlight := some ⟨0, detail.toNat⟩, delivered := false, xfers := (xGet s (xIndex x)).xfers + 1 } { s with out := [] })) ∧
  -- CROSSING_PULSE
  (∀ (x : EventX) (k : BitVec 3) (detail : BitVec 16) (s : State), Runs s → (x = .dispCommit ∨ x = .level) →
    (xGet s (xIndex x)).inFlight ≠ none → (xGet s (xIndex x)).pending = none →
    Answers (.crossingPulse x k detail) s (fun t =>
      t = xSet (xIndex x) { (xGet s (xIndex x)) with pending := some ⟨0, detail.toNat⟩ } { s with out := [] })) ∧
  -- CROSSING_PULSE
  (∀ (x : EventX) (k : BitVec 3) (detail : BitVec 16) (s : State), Runs s → (x = .dispCommit ∨ x = .level) →
    (xGet s (xIndex x)).inFlight ≠ none → (xGet s (xIndex x)).pending ≠ none →
    Answers (.crossingPulse x k detail) s (fun t =>
      xGet t (xIndex x) = { (xGet s (xIndex x)) with overrun := true, lost := min 255 ((xGet s (xIndex x)).lost + 1) } ∧
      reg t R.CDC_OVERRUN_EVENTS = reg s R.CDC_OVERRUN_EVENTS + 1 ∧
      t.flt.direct = s.flt.direct ++ (if (xGet s (xIndex x)).overrun then [] else [⟨92, xIndex x⟩]) ∧
      RegsBut [R.CDC_OVERRUN_EVENTS] s t ∧ t = { s with regs := t.regs, cdc := t.cdc, flt := t.flt, out := [] })) ∧
  -- CROSSING_PULSE
  (∀ (g : Fin 16) (k : BitVec 3) (detail : BitVec 16) (s : State), Runs s → (8 * g.val + k.toNat < 92 ∨
    99 < 8 * g.val + k.toNat) → (xGet s (32 + g)).inFlight = none →
    Answers (.crossingPulse (.group g) k detail) s (fun t =>
      t = xSet (32 + g) { xGet s (32 + g) with inFlight := some ⟨8 * g.val + k.toNat, detail.toNat⟩, delivered := false, xfers := (xGet s (32 + g)).xfers + 1 } { s with out := [] })) ∧
  -- CROSSING_ACK
  (∀ (x : BitVec 7) (p : Pulse) (s : State), Runs s → xType x.toNat = some 0 →
    (xGet s x.toNat).resyncing = false → (xGet s x.toNat).inFlight = some p → ((x.toNat ≤ 47 →
    (xGet s x.toNat).delivered = true)) → s.pwr.boot = [] →
    Answers (.crossingAck x) s (fun t =>
      t = xSet x.toNat { xGet s x.toNat with inFlight := (xGet s x.toNat).pending, delivered := false, pending := none, stalled := false, xfers := (xGet s x.toNat).xfers + (if (xGet s x.toNat).pending.isSome then 1 else 0) } { s with out := [] })) ∧
  -- CROSSING_STALL
  (∀ (x : BitVec 7) (s : State), Runs s → xType x.toNat ≠ none → (xGet s x.toNat).stalled = false →
    waitsAt s x.toNat = true → ownStop s x.toNat = false →
    Answers (.crossingStall x) s (fun t =>
      xGet t x.toNat = { xGet s x.toNat with stalled := true } ∧
      reg t R.CDC_STALL_EPISODES = reg s R.CDC_STALL_EPISODES + 1 ∧
      t.flt = { s.flt with direct := s.flt.direct ++ [⟨93, x.toNat⟩] } ∧ RegsBut [R.CDC_STALL_EPISODES] s t)) ∧
  -- CROSSING_STALL
  (∀ (x : BitVec 7) (s : State), Runs s → (waitsAt s x.toNat = false ∨ ownStop s x.toNat = true ∨
    (xGet s x.toNat).stalled = true) →
    Answers (.crossingStall x) s (fun t =>
      t = { s with out := [] })) ∧
  -- CROSSING_RESYNC
  (∀ (x : BitVec 7) (words : BitVec 6) (n : Nat) (s : State), Runs s → xType x.toNat = some 0 →
    (xGet s x.toNat).resyncing = false →
    n = (if (xGet s x.toNat).inFlight.isSome then 1 else 0) + (if (xGet s x.toNat).pending.isSome then 1 else 0) →
    Answers (.crossingResync x words) s (fun t =>
      xGet t x.toNat = { xGet s x.toNat with inFlight := none, delivered := false, pending := none, stalled := false, resyncing := true, resyncItems := ((xGet s x.toNat).resyncItems + n) % 2 ^ 32 } ∧
      reg t R.CDC_RESYNCS = reg s R.CDC_RESYNCS + 1 ∧
      cnt64 t R.CDC_RESYNC_ITEMS = (cnt64 s R.CDC_RESYNC_ITEMS + n) % 2 ^ 64 ∧
      t.flt = { s.flt with direct := s.flt.direct ++ [⟨94, x.toNat + n * 256⟩] } ∧
      RegsBut [R.CDC_RESYNCS, R.CDC_RESYNC_ITEMS, R.CDC_RESYNC_ITEMS + 4] s t)) ∧
  -- CDC_SEL_WRITE
  (∀ (v : Word) (s : State), Runs s → Unpaired s →
    Answers (.cdcSelWrite v) s (fun t =>
      reg t R.CDC_SEL = BitVec.ofNat 32 (v.toNat % 128) ∧
      reg t R.CDC_XFERS = BitVec.ofNat 32 (xGet s (v.toNat % 128)).xfers ∧
      reg t R.CDC_X_RESYNC_ITEMS = BitVec.ofNat 32 (xGet s (v.toNat % 128)).resyncItems ∧
      bit t ⟨R.CDC_XSTATUS, 0, 1⟩ = (xType (v.toNat % 128)).isSome ∧
      bit t ⟨R.CDC_XSTATUS, 3, 1⟩ = ((xType (v.toNat % 128)).isSome && (xGet s (v.toNat % 128)).overrun) ∧
      RegsBut [R.CDC_SEL, R.CDC_XSTATUS, R.CDC_XFERS, R.CDC_XFERS + 4, R.CDC_X_RESYNC_ITEMS] s t ∧ OnlyRegs s t ∧
      t.out = [])) ∧
  -- CDC_XCLEAR
  (∀ (s : State), Runs s →
    Answers (.cdcXclear) s (fun t =>
      t = xSet (getF s ⟨R.CDC_SEL, 0, 7⟩) { xGet s (getF s ⟨R.CDC_SEL, 0, 7⟩) with overrun := false, lost := 0 } { s with out := [] })) ∧
  -- REG_ACCESS_TIMEOUT
  (∀ (p : Path) (addr : Addr) (s : State), Awake s → pathReaches s p addr.toNat = true →
    pageKindOf (addr.toNat / 0x1000) ≠ none → addr.toNat % 4 = 0 →
    Answers (.regAccessTimeout p addr none) s (fun t =>
      t.out = [.readData 0xFFFFFFFF] ∧ t.stopped.contains (addr.toNat / 0x1000) = true ∧
      reg t R.CDC_REG_TIMEOUTS = reg s R.CDC_REG_TIMEOUTS + 1 ∧
      reg t R.CDC_REG_TMO_PAGE = BitVec.ofNat 32 (2 ^ 31 + addr.toNat / 0x1000) ∧
      t.flt = { s.flt with direct := s.flt.direct ++ [⟨93, 0x8000 + addr.toNat / 0x1000⟩] } ∧
      RegsBut [R.CDC_REG_TIMEOUTS, R.CDC_REG_TMO_PAGE] s t)) ∧
  -- REG_ACCESS_TIMEOUT
  (∀ (p : Path) (addr : Addr) (v : Word) (s : State), Awake s → pathReaches s p addr.toNat = true →
    pageKindOf (addr.toNat / 0x1000) ≠ none → addr.toNat % 4 = 0 →
    (smGet dHeld s.held (addr.toNat / 0x1000)).length < 8 →
    Answers (.regAccessTimeout p addr (some v)) s (fun t =>
      smGet dHeld t.held (addr.toNat / 0x1000) = smGet dHeld s.held (addr.toNat / 0x1000) ++ [⟨p, addr.toNat, v⟩] ∧
      t.stopped.contains (addr.toNat / 0x1000) = true ∧ RegsBut [R.CDC_REG_TIMEOUTS, R.CDC_REG_TMO_PAGE] s t)) ∧
  -- CLOCK_RETURN
  (∀ (page : BitVec 12) (s : State), Runs s → smGet dHeld s.held page.toNat = [] →
    Answers (.clockReturn page) s (fun t =>
      t.stopped = s.stopped.filter (fun p => p != page.toNat) ∧ smGet dHeld t.held page.toNat = [] ∧
      t = { s with stopped := t.stopped, held := t.held, out := [] }))

/-- Raises are handled at their severity, escalation and shedding advance, and FLT commands act, under the conditions
written out. The model's own readings: log entries 11, 71, 103. After: R343, R345, R347, R349, R350, R352, R353, R354, R357,
R359. -/
def Obligations.FaultCommandsComplete : Prop :=
  -- FAULT_RAISE
  (∀ (g : Fin 16) (p : Pulse) (s : State), Runs s → (xGet s (32 + g)).inFlight = some p →
    (xGet s (32 + g)).delivered = false → (xGet s (32 + g)).resyncing = false → p.code < 128 →
    getF s (fEscCount p.code) = 0 → bit s (fEsc p.code) = false → getF s (fSev p.code) = 1 →
    Answers (.faultRaise (.group g)) s (fun t =>
      t.flt = { s.flt with sev := natSet s.flt.sev p.code 1 } ∧
      (xGet t (32 + g)) = { (xGet s (32 + g)) with delivered := true } ∧
      reg t (R.FLT_SRCCNT p.code) = reg s (R.FLT_SRCCNT p.code) + 1 ∧ RegsBut [R.FLT_SRCCNT p.code] s t ∧
      t = { s with regs := t.regs, cdc := t.cdc, flt := t.flt, out := [] })) ∧
  -- FAULT_RAISE
  (∀ (p : Pulse) (rest : List Pulse) (s : State), Runs s → bit s fDoze = false → s.flt.direct = p :: rest →
    p.code < 128 → getF s (fEscCount p.code) = 0 → bit s (fEsc p.code) = false → getF s (fSev p.code) = 3 →
    Answers (.faultRaise .direct) s (fun t =>
      bit t (fPend p.code) = true ∧
      t.flt.history.any (fun r => r.source == p.code && r.detail == p.detail % 65536) = true ∧
      natGet t.flt.sev p.code = 3 ∧ reg t (R.FLT_SRCCNT p.code) = reg s (R.FLT_SRCCNT p.code) + 1 ∧
      bit t fFirstValid = true)) ∧
  -- FAULT_RAISE
  (∀ (g : Fin 16) (p : Pulse) (s : State), Runs s → (xGet s (32 + g)).inFlight = some p →
    (xGet s (32 + g)).delivered = false → (xGet s (32 + g)).resyncing = false → p.code < 128 →
    getF s (fEscCount p.code) = 0 → bit s (fEsc p.code) = false → getF s (fSev p.code) = 7 →
    Answers (.faultRaise (.group g)) s (fun t =>
      mode t = mCold ∧ reg t R.FLT_HALT_CAUSE = BitVec.ofNat 32 (p.code + 0x8000))) ∧
  -- SHED_STEP_TIMER
  (∀ (src : Nat) (s : State), Runs s → s.flt.shedSrc = some src → bit s (fPend src) = true → getF s fShed < 4 →
    Answers (.shedStepTimer) s (fun t =>
      getF t fShed = getF s fShed + 1 ∧ reg t R.FLT_SHEDS = reg s R.FLT_SHEDS + 1 ∧
      RegsBut [R.FLT_STATUS, R.FLT_SHEDS] s t)) ∧
  -- ESCALATION_WINDOW_END
  (∀ (src : BitVec 7) (s : State), Runs s →
    Answers (.escalationWindowEnd src) s (fun t =>
      t = { s with flt := { s.flt with esc := natSet s.flt.esc src.toNat 0 }, out := [] })) ∧
  -- ESC_CLEAR
  (∀ (src : BitVec 7) (s : State), Runs s →
    Answers (.escClear src) s (fun t =>
      bit t (fEsc src.toNat) = false ∧ t.flt = { s.flt with esc := natSet s.flt.esc src.toNat 0 } ∧
      RegsBut [(fEsc src.toNat).key] s t ∧ t = { s with regs := t.regs, flt := t.flt, out := [] })) ∧
  -- FLT_UNSHED
  (∀ (s : State), Runs s →
    Answers (.fltUnshed) s (fun t =>
      getF t fShed = 0 ∧ t.flt = s.flt ∧ RegsBut [R.FLT_STATUS] s t)) ∧
  -- FLT_FIRST_CLR
  (∀ (s : State), Runs s →
    Answers (.fltFirstClr) s (fun t =>
      bit t fFirstValid = false ∧ (∀ w ∈ List.range 4, reg t (R.FLT_FIRST w) = 0) ∧
      RegsBut (R.FLT_STATUS :: (List.range 4).map R.FLT_FIRST) s t ∧ OnlyRegs s t ∧ t.out = [])) ∧
  -- FLT_HIST_SNAP
  (∀ (r : Record) (rest : List Record) (s : State), Runs s → s.flt.history = r :: rest →
    Answers (.fltHistSnap) s (fun t =>
      (∀ w ∈ List.range 4, reg t (R.FLT_HIST w) = BitVec.ofNat 32 ((recordWords r).getD w 0)) ∧
      RegsBut ((List.range 64).map R.FLT_HIST) s t ∧ OnlyRegs s t ∧ t.out = [])) ∧
  -- FLT_MARK
  (∀ (detail : BitVec 14) (s : State), Runs s → bit s ⟨R.FLT_CTRL, 1, 1⟩ = false → s.flt.lost = 0 →
    s.flt.outq.length < 3 →
    Answers (.fltMark detail) s (fun t =>
      t.flt.history = ({ sec := s.plumb.sec, ns := s.plumb.ns, source := 0, kindEdge := 8, seq := s.flt.seq % 65536, detail := detail.toNat } :: s.flt.history).take 16 ∧
      t.flt.seq = (s.flt.seq + 1) % 65536 ∧ reg t R.FLT_MARKERS = reg s R.FLT_MARKERS + 1 ∧
      cnt64 t R.FLT_RECORDS = (cnt64 s R.FLT_RECORDS + 1) % 2 ^ 64)) ∧
  -- EVENT_CELL_TIMER
  (∀ (m : Nat) (s : State), Runs s → s.flt.outq ≠ [] → s.flt.outq.length ≤ 3 → s.flt.lost = 0 →
    evtRoute s = some m → m ≤ 4 →
    Answers (.eventCellTimer) s (fun t =>
      t.flt.outq = [] ∧ getF t fOutCount = 0 ∧ reg t R.FLT_CELLS_TX = reg s R.FLT_CELLS_TX + 1)) ∧
  -- FLT_RX_HDR_READ
  (∀ (hid : Nat) (r : Record) (rest : List (Nat × Record)) (s : State), Runs s → s.flt.rxq = (hid, r) :: rest →
    Answers (.fltRxHdrRead) s (fun t =>
      t.out = [.readData (BitVec.ofNat 32 (1 + hid % 64 * 256 + rest.length % 1024 * 65536))] ∧
      t.flt = { s.flt with rxq := rest } ∧
      (∀ w ∈ List.range 4, reg t (R.FLT_RX_W w) = BitVec.ofNat 32 ((recordWords r).getD w 0)) ∧
      RegsBut ((List.range 4).map R.FLT_RX_W) s t)) ∧
  -- FI_ARM
  (∀ (v : Word) (s : State), Runs s → mode s = mService → v.toNat % 16 = 1 →
    Answers (.fiArm 0x53 v) s (fun t =>
      bit t ⟨0x53040, 0, 1⟩ = true ∧ natGet t.fi 0x53 = max 1 (v.toNat / 65536) ∧ RegsBut [0x53040] s t ∧
      t = { s with regs := t.regs, fi := t.fi, out := [] }))

/-- Sleep entries, S1, wake causes, link and soft resets and RB7 take effect, under the conditions written out. The model's
own readings: log entries 72, 75. After: R366, R367, R368, R369, R370, R372, R373, R376, R378,
16_power_states_reset_and_wipe.md Table 16-4. -/
def Obligations.SleepCommandsComplete : Prop :=
  -- SLEEP_REQUEST
  (∀ (target : BitVec 2) (s : State), Awake s → bit s fChanging = false → s.pwr.entry = 0 →
    sleepMode s target.toNat = true → 2 ≤ target.toNat →
    Answers (.sleepRequest target) s (fun t =>
      t.pwr = { s.pwr with entry := 2, target := target.toNat } ∧ t.pair = { s.pair with frozen := true } ∧
      bit t fEntering = true ∧ bit t fAoEntering = true ∧ getF t fSleepResult = 0 ∧
      RegsBut [R.AO_STATUS, R.PM_STATUS] s t ∧ t = { s with regs := t.regs, pwr := t.pwr, pair := t.pair, out := [] })) ∧
  -- SLEEP_REQUEST
  (∀ (s : State), Awake s → bit s fChanging = false → s.pwr.entry = 0 → mode s ≠ mService →
    Answers (.sleepRequest 1) s (fun t =>
      t.pwr = { s.pwr with entry := 1, target := 1 } ∧ bit t fEntering = true ∧ bit t fAoEntering = true ∧
      getF t fSleepResult = 0 ∧ RegsBut [R.AO_STATUS, R.PM_STATUS] s t ∧
      t = { s with regs := t.regs, pwr := t.pwr, out := [] })) ∧
  -- S1_ENTRY
  (∀ (s : State), Runs s → s.pwr.entry = 1 → queuesEmpty s = true → streamsEmpty s = true →
    bit s fChanging = false → bit s fDoze = false → mode s ≠ mService →
    Answers (.s1Entry) s (fun t =>
      bit t fDoze = true ∧ getF t fPstate = 1 ∧ t.pwr.entry = 0 ∧ t.pwr.again = false ∧ bit t fEntering = false ∧
      getF t fSleepResult = 0 ∧ reg t R.PM_S1_ENTRIES = reg s R.PM_S1_ENTRIES + 1 ∧
      RegsBut [R.AO_STATUS, R.PM_STATUS, R.PM_S1_ENTRIES] s t)) ∧
  -- S1_EXIT
  (∀ (s : State), Runs s → bit s fDoze = true →
    Answers (.s1Exit) s (fun t =>
      bit t fDoze = false ∧ getF t fPstate = 0 ∧ t.mem = { s.mem with selfRefresh := false } ∧
      t.pwr = { s.pwr with again := bit s fS1Auto } ∧ reg t R.PM_S1_EXITS = reg s R.PM_S1_EXITS + 1 ∧
      RegsBut [R.AO_STATUS, R.PM_STATUS, R.PM_S1_EXITS] s t ∧
      t = { s with regs := t.regs, mem := t.mem, pwr := t.pwr, out := [] })) ∧
  -- SLEEP_DRAIN_DONE
  (∀ (s : State), Runs s → s.pwr.entry = 2 → drained s = true →
    Answers (.sleepDrainDone) s (fun t =>
      t.pwr.entry = 3 ∧ (∀ n ∈ List.range 5, linkState t n = lsDown) ∧ bit t (fDlUp 0) = false ∧
      bit t (fDlUp 1) = false ∧ (∀ k ∈ List.range 4, bit t ⟨R.DOUT_STATUS k, 0, 1⟩ = false))) ∧
  -- SLEEP_DRAIN_TIMEOUT
  (∀ (s : State), Runs s → (s.pwr.entry = 1 ∨ s.pwr.entry = 2) →
    Answers (.sleepDrainTimeout) s (fun t =>
      t.pwr = { s.pwr with entry := 0, target := 0 } ∧ t.pair = { s.pair with frozen := false } ∧
      bit t fEntering = false ∧ bit t fAoEntering = false ∧ getF t fSleepResult = 3 ∧
      reg t R.PM_ENTRY_ABORTS = reg s R.PM_ENTRY_ABORTS + 1 ∧
      RegsBut [R.AO_STATUS, R.PM_STATUS, R.PM_ENTRY_ABORTS, R.CDC_OVERRUN_EVENTS] s t)) ∧
  -- SLEEP_ENTRY_COMPLETE
  (∀ (edges : BitVec 9) (s : State), Runs s → s.pwr.entry = 3 → (s.pwr.target = 2 ∨ s.pwr.target = 3) →
    Answers (.sleepEntryComplete edges 0) s (fun t =>
      getF t fPstate = s.pwr.target ∧ hubRuns t = false ∧ bit t fVregEn = false ∧ t.pwr.entry = 0 ∧
      t.pwr.nap.isSome = decide (s.pwr.target = 2) ∧ (s.pwr.target = 3 → t.dram = [] ∧ reg t R.AO_RB_VALID = 0) ∧
      (s.pwr.target = 2 → t.dram = s.dram ∧ reg t R.AO_RB_VALID = BitVec.ofNat 32 (getF s ⟨R.PM_SLEEP_CTRL, 0, 8⟩)))) ∧
  -- WAKE_CAUSE
  (∀ (c : Fin 9) (s : State), Powered s → s.pwr.resetLow = false → (wakeEnabled s).testBit c = true →
    2 ≤ getF s fPstate → bit s fWakeFail = false → bit s fWaking = false → s.pwr.entry = 0 → bit s fDoze = false →
    Answers (.wakeCause c) s (fun t =>
      bit t fWaking = true ∧ bit t fVregEn = true ∧ getF t fAttempt = 1 ∧ t.pwr.step = .vready ∧
      t.pwr.cause = wakeCode s ∧ getF t ⟨R.AO_WAKE_STATUS, 0, 9⟩ = 2 ^ c.val ∧
      RegsBut [R.AO_STATUS, R.AO_WAKE_STATUS] s t ∧ t = { s with regs := t.regs, pwr := t.pwr, out := [] })) ∧
  -- AO_WAKE_CMD
  (∀ (s : State), Powered s → s.pwr.resetLow = false → (wakeEnabled s).testBit 8 = true → 2 ≤ getF s fPstate →
    bit s fWakeFail = false → bit s fWaking = false → s.pwr.entry = 0 → bit s fDoze = false →
    Answers (.aoWakeCmd) s (fun t =>
      bit t fWaking = true ∧ t.pwr.step = .vready ∧ getF t ⟨R.AO_WAKE_STATUS, 0, 9⟩ = 2 ^ 8 ∧
      RegsBut [R.AO_STATUS, R.AO_WAKE_STATUS] s t ∧ t = { s with regs := t.regs, pwr := t.pwr, out := [] })) ∧
  -- AO_TIMER_EXPIRY
  (∀ (s : State), Powered s → s.pwr.resetLow = false → (wakeEnabled s).testBit 7 = true → 2 ≤ getF s fPstate →
    getF s ⟨R.AO_TIMER, 0, 24⟩ ≠ 0 → bit s fWakeFail = false → bit s fWaking = false → s.pwr.entry = 0 →
    bit s fDoze = false →
    Answers (.aoTimerExpiry) s (fun t =>
      bit t fWaking = true ∧ t.pwr.step = .vready ∧ reg t R.AO_TIMER = 0 ∧ getF t ⟨R.AO_WAKE_STATUS, 0, 9⟩ = 2 ^ 7 ∧
      RegsBut [R.AO_STATUS, R.AO_WAKE_STATUS, R.AO_TIMER] s t ∧ t = { s with regs := t.regs, pwr := t.pwr, out := [] })) ∧
  -- LINK_RESET
  (∀ (mask : BitVec 5) (s : State), Runs s →
    Answers (.linkReset mask) s (fun t =>
      (∀ n ∈ List.range 5, mask.toNat.testBit n = true → linkState t n = lsDown ∧ (lGet t n).replay = [] ∧
      (lGet t n).ctlOut = []))) ∧
  -- SOFT_RESET
  (∀ (page : BitVec 12) (s : State), Runs s → softPage page.toNat = true →
    Answers (.softReset page) s (fun t =>
      bit t (fResetting page.toNat) = true ∧ bit t (fSoftReset page.toNat) = true)) ∧
  -- SOFT_RESET_DONE
  (∀ (page : BitVec 12) (s : State), Runs s → bit s (fResetting page.toNat) = true →
    Answers (.softResetDone page) s (fun t =>
      bit t (fResetting page.toNat) = false ∧ bit t (fSoftReset page.toNat) = false)) ∧
  -- RB7_DATA_ACCESS
  (∀ (w : Word) (a : Nat) (s : State), Runs s → a = getF s ⟨R.PM_RB7_ADDR, 0, 14⟩ →
    Answers (.rb7DataAccess (some w)) s (fun t =>
      t.pwr = { s.pwr with words := smSet (fun _ => 0) s.pwr.words a w } ∧
      reg t R.PM_RB7_ADDR = BitVec.ofNat 32 ((a + 1) % 16384) ∧ RegsBut [R.PM_RB7_ADDR] s t ∧
      t = { s with regs := t.regs, pwr := t.pwr, out := [] })) ∧
  -- RB7_DATA_ACCESS
  (∀ (a : Nat) (s : State), Runs s → a = getF s ⟨R.PM_RB7_ADDR, 0, 14⟩ →
    Answers (.rb7DataAccess none) s (fun t =>
      t.out = [.readData (smGet (fun _ => 0) s.pwr.words a)] ∧
      reg t R.PM_RB7_ADDR = BitVec.ofNat 32 ((a + 1) % 16384) ∧ RegsBut [R.PM_RB7_ADDR] s t ∧ OnlyRegs s t))

/-- The wake sequence advances step by step, and each reset leaves the values written out, under the conditions written out.
The model's own readings: log entries 73, 74, 76. After: R374, R375, R376, R378, R379, R384, R386, R436, R456,
16_power_states_reset_and_wipe.md Table 16-7, 16_power_states_reset_and_wipe.md Table 16-8. -/
def Obligations.ResetCommandsComplete : Prop :=
  -- WARM_RESET
  (∀ (s : State), Runs s → s.fuse.begun = none →
    Answers (.warmReset 0xA5) s (fun t =>
      mode t = mCold ∧ reg t R.RST_CAUSE = 3 ∧ reg t R.AO_WARM_RESETS = reg s R.AO_WARM_RESETS + 1 ∧
      getF t fPstate = 0 ∧ t.pwr.step = .wipe ∧ bit t fWipeDone = false ∧ t.tun = [] ∧ t.fwd = [] ∧ t.dram = s.dram ∧
      t.fuse = s.fuse)) ∧
  -- WARM_RESET
  (∀ (key : Byte) (s : State), Runs s → key ≠ 0xA5 →
    Answers (.warmReset key) s (fun t =>
      t = { s with out := [] })) ∧
  -- LC_PROGRAM_DONE
  (∀ (n : Nat) (s : State), Runs s → s.fuse.begun = some n →
    Answers (.lcProgramDone) s (fun t =>
      t.fuse.lc = max n s.fuse.lc ∧ t.fuse.begun = none ∧ mode t = mCold ∧ reg t R.RST_CAUSE = 7 ∧
      bit t fExtWipe = true ∧ (∀ k ∈ List.range 8, reg t (R.AO_RB_SIG k) = 0) ∧ t.dram = s.dram)) ∧
  -- WAKE_VREADY
  (∀ (s : State), Powered s → s.pwr.step = .vready →
    Answers (.wakeVready) s (fun t =>
      bit t fVready = true ∧ t.pwr = { s.pwr with step := .clock } ∧ RegsBut [R.AO_STATUS] s t ∧
      t = { s with regs := t.regs, pwr := t.pwr, out := [] })) ∧
  -- WAKE_CLOCK_DETECTED
  (∀ (s : State), Powered s → s.pwr.step = .clock → s.fuse.begun = none →
    Answers (.wakeClockDetected) s (fun t =>
      bit t fClkOk = true ∧ t.pwr = { s.pwr with step := .wipe } ∧ getF t fLc = s.fuse.lc % 8 ∧
      bit t fCpsSealed = s.fuse.cps.isSome ∧ RegsBut [R.AO_STATUS, R.SEC_STATUS] s t ∧
      t = { s with regs := t.regs, pwr := t.pwr, out := [] })) ∧
  -- WAKE_VREADY_TIMEOUT
  (∀ (s : State), Powered s → s.pwr.step = .vready → s.pwr.attempt ≤ getF s ⟨R.AO_WAKE_RETRY, 0, 4⟩ →
    Answers (.wakeVreadyTimeout) s (fun t =>
      t.pwr = { s.pwr with step := .backoff, failed := true } ∧ bit t fVregEn = false ∧ bit t fVready = false ∧
      getF t ⟨R.AO_FAIL, 8, 8⟩ = 120 ∧ RegsBut [R.AO_STATUS, R.AO_FAIL] s t ∧
      t = { s with regs := t.regs, pwr := t.pwr, out := [] })) ∧
  -- WAKE_CLOCK_TIMEOUT
  (∀ (s : State), Powered s → s.pwr.step = .clock → getF s ⟨R.AO_WAKE_RETRY, 0, 4⟩ < s.pwr.attempt →
    Answers (.wakeClockTimeout) s (fun t =>
      t.pwr = { s.pwr with step := .idle, failed := true } ∧ bit t fWakeFail = true ∧ bit t fWaking = false ∧
      getF t fPstate = 3 ∧ bit t fVregEn = false ∧ getF t ⟨R.AO_FAIL, 8, 8⟩ = 121 ∧ bit t ⟨R.AO_FAIL, 0, 1⟩ = true ∧
      reg t R.AO_WAKE_FAILS = reg s R.AO_WAKE_FAILS + 1 ∧ RegsBut [R.AO_STATUS, R.AO_FAIL, R.AO_WAKE_FAILS] s t ∧
      t = { s with regs := t.regs, pwr := t.pwr, out := [] })) ∧
  -- WAKE_BACKOFF_EXPIRY
  (∀ (s : State), Powered s → s.pwr.step = .backoff →
    Answers (.wakeBackoffExpiry) s (fun t =>
      t.pwr = { s.pwr with step := .vready, attempt := s.pwr.attempt + 1 } ∧ bit t fVregEn = true ∧
      getF t fAttempt = min 7 (s.pwr.attempt + 1) ∧ reg t R.AO_WAKE_RETRIES = reg s R.AO_WAKE_RETRIES + 1 ∧
      RegsBut [R.AO_STATUS, R.AO_WAKE_RETRIES] s t ∧ t = { s with regs := t.regs, pwr := t.pwr, out := [] })) ∧
  -- WAKE_FAIL_CLEAR
  (∀ (s : State), Powered s →
    Answers (.wakeFailClear) s (fun t =>
      bit t fWakeFail = false ∧ bit t ⟨R.AO_FAIL, 0, 1⟩ = false ∧ RegsBut [R.AO_STATUS, R.AO_FAIL] s t ∧
      OnlyRegs s t ∧ t.out = [])) ∧
  -- WAKE_RESET_DONE
  (∀ (held_ : BitVec 8) (puf : Fin 4) (fuseBad : Bool) (s : State), Powered s → s.pwr.step = .wipe →
    bit s fWaking = true → s.pwr.resetLow = false →
    Answers (.wakeResetDone held_ puf fuseBad) s (fun t =>
      bit t fWipeDone = true ∧ bit t fWaking = false ∧ getF t fPstate = 0 ∧ hubRuns t = true ∧ t.pwr.step = .idle ∧
      t.pwr.failed = false ∧ reg t R.AO_WAKES = reg s R.AO_WAKES + 1)) ∧
  -- RESET_N_ASSERT
  (∀ (s : State), Powered s → s.pwr.resetLow = false →
    Answers (.resetNAssert) s (fun t =>
      t.pwr.resetLow = true ∧ hubRuns t = false ∧ bit t fVregEn = false ∧ bit t fWaking = false ∧ t.pwr.cause = 2 ∧
      reg t R.AO_PIN_RESETS = reg s R.AO_PIN_RESETS + 1 ∧ t.fuse = s.fuse ∧ t.dram = s.dram ∧ t.tc = s.tc ∧
      t.pp = s.pp)) ∧
  -- RESET_N_RELEASE
  (∀ (straps : BitVec 3) (s : State), Powered s → s.pwr.resetLow = true →
    Answers (.resetNRelease straps) s (fun t =>
      t.pwr.resetLow = false ∧ bit t fWaking = true ∧ t.pwr.step = .vready ∧ t.pwr.attempt = 1 ∧
      t.pwr.cause = (if s.pwr.cause = 1 then 1 else 2) ∧ reg t R.RST_STRAPS = BitVec.ofNat 32 straps.toNat ∧
      RegsBut [R.AO_STATUS, R.AO_FAIL, R.RST_STRAPS, R.PAIR_STATUS] s t ∧
      t = { s with regs := t.regs, pwr := t.pwr, out := [] })) ∧
  -- POWER_ON_RESET
  (∀ (straps : BitVec 3) (resetHigh : Bool) (s : State),
    Answers (.powerOnReset straps resetHigh) s (fun t =>
      t.pwr.on = true ∧ t.pwr.resetLow = !resetHigh ∧ bit t fWaking = resetHigh ∧ t.pwr.cause = 1 ∧
      reg t R.RST_STRAPS = BitVec.ofNat 32 straps.toNat ∧ mode t = mCold ∧ t.dram = [] ∧ t.tun = [] ∧
      t.fuse = s.fuse ∧ t.pending = s.pending)) ∧
  -- VDD_AO_POWER_LOSS
  (∀ (s : State),
    Answers (.vddAoPowerLoss) s (fun t =>
      t = { pending := s.pending, ticks := s.ticks, freeIdx := s.freeIdx, fuse := s.fuse, disp := { lastTick := s.ticks }, pwr := { on := false } })) ∧
  -- CORE_SUPPLY_LOSS
  (∀ (s : State), Runs s → bit s fChanging = false → s.pwr.entry = 0 →
    Answers (.coreSupplyLoss) s (fun t =>
      hubRuns t = false ∧ bit t fWaking = true ∧ t.pwr.cause = 8 ∧ t.pwr.step = .vready ∧ mode t = mCold ∧
      t.tun = [] ∧ t.dram = s.dram ∧ t.fuse = s.fuse))

/-- Life-cycle requests, path authentication, the device's own proof and sealing take effect, under the conditions written
out. The model's own readings: log entries 77, 78, 79. After: R383, R385, R389, R391, R392, R393, R394,
17_lifecycle_and_keys.md Table 17-2. -/
def Obligations.SecurityCommandsComplete : Prop :=
  -- LC_REQUEST
  (∀ (p : Path) (target : BitVec 3) (confirm : Byte) (s : State), Runs s →
    lcCheck s p target.toNat confirm.toNat = 0 →
    Answers (.lcRequest p target confirm) s (fun t =>
      bit t fLcBusy = true ∧ getF t fLcResult = 0 ∧ t.fuse = { s.fuse with begun := some target.toNat } ∧
      RegsBut [R.SEC_LC_STATUS] s t ∧ t = { s with regs := t.regs, fuse := t.fuse, out := [] })) ∧
  -- LC_REQUEST
  (∀ (p : Path) (target : BitVec 3) (confirm : Byte) (r : Nat) (s : State), Runs s →
    lcCheck s p target.toNat confirm.toNat = r →
    Answers (.lcRequest p target confirm) s (fun t =>
      getF t fLcResult = r ∧ (r ≠ 0 → bit t fLcBusy = bit s fLcBusy ∧ t.fuse = s.fuse) ∧ RegsBut [R.SEC_LC_STATUS] s t)) ∧
  -- AUTH_NEW_CHALLENGE
  (∀ (p : Path) (s : State), Runs s → (apGet s p).lockout = false →
    Answers (.authNewChallenge p) s (fun t =>
      t = { s with sec := { s.sec with path := smSet dPath s.sec.path (pathKey p) { apGet s p with chal := some (bytesBE 16 (free s ||| (1#128 <<< 127)).toNat), unlock := false } }, freeIdx := s.freeIdx + 1, out := [] })) ∧
  -- AUTH_UNLOCK_CHALLENGE
  (∀ (p : Path) (s : State), Runs s → (apGet s p).lockout = false → bit s fReleaseOk = true →
    Answers (.authUnlockChallenge p) s (fun t =>
      t = { s with sec := { s.sec with path := smSet dPath s.sec.path (pathKey p) { apGet s p with chal := some (bytesBE 16 (free s ||| (1#128 <<< 127)).toNat), unlock := true } }, freeIdx := s.freeIdx + 1, out := [] })) ∧
  -- AUTH_DEAUTH
  (∀ (p : Path) (s : State), Runs s →
    Answers (.authDeauth p) s (fun t =>
      t = { s with sec := { s.sec with path := smSet dPath s.sec.path (pathKey p) { apGet s p with authed := false } }, out := [] })) ∧
  -- AUTH_RESPONSE
  (∀ (p : Path) (resp : Vector Word 4) (c k : List Byte) (s : State), Runs s → (apGet s p).lockout = false →
    (apGet s p).chal = some c → (apGet s p).unlock = false → authKey s = some k →
    (∀ i ∈ List.range 4, resp.toList.getD i 0 = BitVec.ofNat 32 (ofBE (sub (crFormula s k c) (4 * i) 4))) →
    Answers (.authResponse p resp) s (fun t =>
      apGet t p = { apGet s p with authed := true, fails := 0, chal := none, resp := [] } ∧ PathsBut p s t ∧
      t.sec.slots = s.sec.slots ∧ reg t R.SEC_AUTH_OK = reg s R.SEC_AUTH_OK + 1 ∧ RegsBut [R.SEC_AUTH_OK] s t ∧
      t = { s with regs := t.regs, sec := t.sec, out := [] })) ∧
  -- AUTH_RESPONSE
  (∀ (p : Path) (resp : Vector Word 4) (s : State), Runs s → (apGet s p).lockout = false →
    (apGet s p).chal = none → (apGet s p).fails < 2 →
    Answers (.authResponse p resp) s (fun t =>
      apGet t p = { apGet s p with fails := (apGet s p).fails + 1, resp := [], unlock := false, lockTick := s.ticks } ∧
      PathsBut p s t ∧ reg t R.SEC_AUTH_FAIL = reg s R.SEC_AUTH_FAIL + 1 ∧
      RegsBut [R.SEC_AUTH_FAIL, R.CDC_OVERRUN_EVENTS] s t ∧ OnlyRaised 112 (pathNum p) { s with sec := t.sec } t)) ∧
  -- AUTH_RESPONSE
  (∀ (p : Path) (resp : Vector Word 4) (s : State), Runs s → (apGet s p).lockout = false →
    (apGet s p).chal = none → 2 ≤ (apGet s p).fails →
    Answers (.authResponse p resp) s (fun t =>
      (apGet t p).lockout = true ∧ (apGet t p).lockTick = s.ticks ∧ (apGet t p).authed = (apGet s p).authed ∧
      PathsBut p s t ∧ reg t R.SEC_AUTH_FAIL = reg s R.SEC_AUTH_FAIL + 1 ∧
      RegsBut [R.SEC_AUTH_FAIL, R.CDC_OVERRUN_EVENTS] s t)) ∧
  -- AUTH_CHALLENGE_EXPIRY
  (∀ (p : Path) (s : State), Runs s →
    Answers (.authChallengeExpiry p) s (fun t =>
      t = { s with sec := { s.sec with path := smSet dPath s.sec.path (pathKey p) { apGet s p with chal := none, unlock := false } }, out := [] })) ∧
  -- AUTH_LOCKOUT_END
  (∀ (p : Path) (s : State), Runs s → (apGet s p).lockout = true →
    Answers (.authLockoutEnd p) s (fun t =>
      t = { s with sec := { s.sec with path := smSet dPath s.sec.path (pathKey p) { apGet s p with lockout := false, fails := 0 } }, out := [] })) ∧
  -- RELEASE_OK_EXPIRY
  (∀ (s : State), Runs s →
    Answers (.releaseOkExpiry) s (fun t =>
      bit t fReleaseOk = false ∧ bit t fUnlockOk = false ∧ RegsBut [R.SEC_LC_STATUS] s t ∧ OnlyRegs s t ∧ t.out = [])) ∧
  -- CR_CHALLENGE
  (∀ (chal : Vector Word 4) (k : List Byte) (s : State), Runs s → (chal.toList.getD 0 0).toNat < 2 ^ 31 →
    engineKey s 5 = some k →
    Answers (.crChallenge chal) s (fun t =>
      (∀ i ∈ List.range 4, reg t (R.SEC_CR_RESP i) = BitVec.ofNat 32 (ofBE (sub (crFormula s k (chal.toList.flatMap (fun w => bytesBE 4 w.toNat))) (4 * i) 4))) ∧
      getF t fSecResult = 0 ∧ reg t R.SEC_CR_RESPONSES = reg s R.SEC_CR_RESPONSES + 1 ∧
      RegsBut ([R.SEC_CMD_STATUS, R.SEC_CR_RESPONSES] ++ (List.range 4).map R.SEC_CR_RESP) s t ∧
      t = { s with regs := t.regs, buf := t.buf, out := [] })) ∧
  -- CR_CHALLENGE
  (∀ (chal : Vector Word 4) (s : State), Runs s → 2 ^ 31 ≤ (chal.toList.getD 0 0).toNat →
    Answers (.crChallenge chal) s (fun t =>
      getF t fSecResult = 4 ∧ RegsBut [R.SEC_CMD_STATUS] s t ∧ t = { s with regs := t.regs, buf := t.buf, out := [] })) ∧
  -- SEAL_CPS
  (∀ (p : Path) (root : List Byte) (s : State), Runs s → privileged s p = true → lc s = lcProvision →
    bit s fCpsSealed = false → s.fuse.cps = none → rootKey s = some root →
    Answers (.sealCps p) s (fun t =>
      t.fuse = { s.fuse with cps := some (kwWrap (derive root "SEAL") (bufBytes s (R.SEC_CPS 0) 8)) } ∧
      bit t fCpsSealed = true ∧ getF t fSecResult = 0 ∧ (∀ i ∈ List.range 8, bufWord t (R.SEC_CPS 0 + i * 4) = 0) ∧
      RegsBut [R.SEC_STATUS, R.SEC_CMD_STATUS] s t ∧
      t = { s with regs := t.regs, fuse := t.fuse, buf := t.buf, out := [] })) ∧
  -- SEAL_CPS
  (∀ (p : Path) (s : State), Runs s → privileged s p = false →
    Answers (.sealCps p) s (fun t =>
      getF t fSecResult = 3 ∧ RegsBut [R.SEC_CMD_STATUS] s t ∧ OnlyRegs s t ∧ t.out = []))

/-- Update messages, clear loads, erasures and engine selections change the key slots, under the conditions written out. The
model's own readings: log entries 77, 78. After: R386, R395, R397, R398, R400, R401, 17_lifecycle_and_keys.md Table 17-10.
-/
def Obligations.KeyCommandsComplete : Prop :=
  -- KEY_SUBMIT
  (∀ (p : Path) (key : List Byte) (m : List Byte) (slot : Nat) (c : Nat) (s : State), Runs s →
    privileged s p = true → lc s ≠ lcEnd → m = bufBytes s (R.KEY_MSG 0) 32 → msgCheck s m = (0, key) →
    slot = byteAt m 14 % 32 → c = ofBE (sub m 12 2) →
    Answers (.keySubmit p) s (fun t =>
      (byteAt m 3 = 1 →
      slotOf t slot = { valid := true, key := key, dest := byteAt m 16, lcMask := byteAt m 18 % 64, master := ofBE (sub m 20 2), world := ofBE (sub m 22 2) }) ∧
      (byteAt m 3 ≠ 1 → bit t fReleaseOk = true ∧ t.sec = s.sec) ∧ (∀ i ∈ List.range 32, i ≠ slot →
      slotOf t i = slotOf s i) ∧ getF t fFloor = max (getF s fFloor) c ∧ (getF s fFloor < c →
      t.fuse.floor = max s.fuse.floor c) ∧ bit t ⟨R.KEY_MSG_STATUS, 16, 1⟩ = decide (getF s fFloor < c) ∧
      reg t R.KEY_UPDATES_OK = reg s R.KEY_UPDATES_OK + 1 ∧ getF t fKeyResult = 0 ∧
      (∀ i ∈ List.range 32, bufWord t (R.KEY_MSG 0 + i * 4) = 0) ∧
      RegsBut [R.KEY_MSG_STATUS, R.KEY_UPDATES_OK, R.KEY_ADVANCES, R.SEC_STATUS, R.SEC_LC_STATUS, R.KEY_CMD_STATUS, R.CDC_OVERRUN_EVENTS, R.KEY_VALID, R.KEY_ATTR (2 * slot), R.KEY_ATTR (2 * slot + 1)] s t)) ∧
  -- KEY_LOAD_CLR
  (∀ (p : Path) (slot : BitVec 5) (s : State), Runs s → privileged s p = true → lc s ≠ lcEnd →
    bit s fLcBusy = false → 28 ≤ slot.toNat → getF s ⟨R.KEY_CLR_ATTR0, 0, 4⟩ < 6 →
    attrOk (getF s ⟨R.KEY_CLR_ATTR0, 0, 4⟩) (getF s ⟨R.KEY_CLR_ATTR0, 8, 6⟩) = true →
    Answers (.keyLoadClr p slot) s (fun t =>
      slotOf t slot.toNat = { valid := true, key := bufBytes s (R.KEY_CLR_DATA 0) 8, dest := getF s ⟨R.KEY_CLR_ATTR0, 0, 4⟩, lcMask := getF s ⟨R.KEY_CLR_ATTR0, 8, 6⟩, master := getF s ⟨R.KEY_CLR_ATTR1, 0, 16⟩, world := getF s ⟨R.KEY_CLR_ATTR1, 16, 16⟩ } ∧
      (∀ i ∈ List.range 32, i ≠ slot.toNat → slotOf t i = slotOf s i) ∧ bit t ⟨R.KEY_VALID, slot.toNat, 1⟩ = true ∧
      (∀ i ∈ List.range 8, bufWord t (R.KEY_CLR_DATA 0 + i * 4) = 0) ∧ getF t fKeyResult = 0 ∧
      reg t R.KEY_CLR_LOADS = reg s R.KEY_CLR_LOADS + 1 ∧
      RegsBut [R.KEY_CMD_STATUS, R.KEY_CLR_LOADS, R.KEY_VALID, R.KEY_ATTR (2 * slot.toNat), R.KEY_ATTR (2 * slot.toNat + 1)] s t ∧
      t = { s with regs := t.regs, sec := t.sec, buf := t.buf, out := [] })) ∧
  -- KEY_ERASE
  (∀ (p : Path) (slot : BitVec 5) (s : State), Runs s → privileged s p = true → lc s ≠ lcEnd →
    bit s fLcBusy = false →
    Answers (.keyErase p slot) s (fun t =>
      slotOf t slot.toNat = {} ∧ (∀ i ∈ List.range 32, i ≠ slot.toNat → slotOf t i = slotOf s i) ∧
      bit t ⟨R.KEY_VALID, slot.toNat, 1⟩ = false ∧ reg t (R.KEY_ATTR (2 * slot.toNat)) = 0 ∧
      reg t (R.KEY_ATTR (2 * slot.toNat + 1)) = 0 ∧ getF t fKeyResult = 0 ∧
      reg t R.KEY_ERASES = reg s R.KEY_ERASES + 1 ∧
      RegsBut [R.KEY_CMD_STATUS, R.KEY_ERASES, R.KEY_VALID, R.KEY_ATTR (2 * slot.toNat), R.KEY_ATTR (2 * slot.toNat + 1)] s t ∧
      t = { s with regs := t.regs, sec := t.sec, out := [] })) ∧
  -- KEY_ERASE
  (∀ (p : Path) (slot : BitVec 5) (s : State), Runs s → privileged s p = false →
    Answers (.keyErase p slot) s (fun t =>
      getF t fKeyResult = 1 ∧ RegsBut [R.KEY_CMD_STATUS] s t ∧ OnlyRegs s t ∧ t.out = [])) ∧
  -- KEY_ENGINE_SELECT
  (∀ (p : Path) (e : Fin 8) (v : Word) (s : State), Runs s → (v.toNat.testBit 8 = true ∨
    ((slotOf s (bits v.toNat 0 5)).master.testBit (pathNum p) && (slotOf s (bits v.toNat 0 5)).world.testBit (getF s ⟨R.KEY_WORLD, 0, 4⟩)) = true) →
    Answers (.keyEngineSelect p e v) s (fun t =>
      reg t (R.KEY_ENG e) = v &&& 0x11F ∧ RegsBut [R.KEY_ENG e] s t ∧ OnlyRegs s t ∧ t.out = [])) ∧
  -- KEY_ENGINE_SELECT
  (∀ (p : Path) (e : Fin 8) (v : Word) (s : State), Runs s → v.toNat.testBit 8 = false →
    ((slotOf s (bits v.toNat 0 5)).master.testBit (pathNum p) && (slotOf s (bits v.toNat 0 5)).world.testBit (getF s ⟨R.KEY_WORLD, 0, 4⟩)) = false →
    Answers (.keyEngineSelect p e v) s (fun t =>
      reg t R.KEY_ENG_REFUSED = reg s R.KEY_ENG_REFUSED + 1 ∧ RegsBut [R.KEY_ENG_REFUSED] s t ∧ OnlyRegs s t ∧
      t.out = []))

/-- Register writes act by access type, paths and the standby are refused, and PAGE_CTRL gates and locks, under the
conditions written out. The model's own readings: log entries 2, 15, 16, 19, 21. After: R7, R344, R414, R415, R419, R422,
R423, 18_register_pages.md Table 18-9, 00_scope.md Table 0-3. -/
def Obligations.RegisterWritesActByAccessType : Prop :=
  -- REGISTER_WRITE
  (∀ (p : Path) (addr : Addr) (v : Word) (k : PageKind) (s : State), Awake s →
    pathReaches s p addr.toNat = true → (mode s ≠ mStandby ∨ mirroredPage (addr.toNat / 0x1000) = false) →
    addr.toNat % 0x1000 = 0x044 → pageKindOf (addr.toNat / 0x1000) = some k →
    s.stopped.contains (addr.toNat / 0x1000) = false →
    Answers (.registerWrite p addr v) s (fun t =>
      reg t addr.toNat = v ∧ RegsBut [addr.toNat] s t ∧ OnlyRegs s t ∧ t.out = [])) ∧
  -- REGISTER_WRITE
  (∀ (p : Path) (addr : Addr) (v : Word) (k : PageKind) (r : RegRow) (c key : Nat) (s : State), Awake s →
    pathReaches s p addr.toNat = true → Unpaired s → (mode s ≠ mStandby ∨
    mirroredPage (addr.toNat / 0x1000) = false) → pageKindOf (addr.toNat / 0x1000) = some k →
    s.stopped.contains (addr.toNat / 0x1000) = false → addr.toNat % 4 = 0 → 0x100 ≤ addr.toNat % 0x1000 →
    findRow k (addr.toNat % 0x1000) = some r → selValue s (addr.toNat / 0x1000) r.sel = some c →
    key = regKey addr.toNat c → keepEnable s k (addr.toNat / 0x1000) (addr.toNat % 0x1000) v = v →
    actingWrite p k (addr.toNat / 0x1000) (addr.toNat % 0x1000) v (clearOut s) = none →
    Answers (.registerWrite p addr v) s (fun t =>
      reg t key = typedValue s k (addr.toNat / 0x1000) (addr.toNat % 0x1000) r (reg s key) v ∧ (r.rws ≠ 0 →
      bit t (fDirty (addr.toNat / 0x1000)) = true) ∧ RegsBut [key, (fDirty (addr.toNat / 0x1000)).key] s t ∧
      OnlyRegs s t ∧ t.out = [])) ∧
  -- REGISTER_WRITE
  (∀ (p : Path) (addr : Addr) (v : Word) (src : Nat) (s : State), Awake s → s.stopped.contains 0x3 = false →
    (src = 87 ∨ 95 ≤ src ∧ src ≤ 99 ∨ src = 127) → addr.toNat = R.FLT_SRC src →
    Answers (.registerWrite p addr v) s (fun t =>
      t = { s with out := [] })) ∧
  -- REGISTER_WRITE
  (∀ (p : Path) (v : Word) (s : State), Awake s → pathReaches s p 0x002100 = true →
    s.stopped.contains 0x2 = false → privileged s p = false →
    Answers (.registerWrite p 0x002100 v) s (fun t =>
      reg t R.DEV_PATH_REFUSED = reg s R.DEV_PATH_REFUSED + 1 ∧ RegsBut [R.DEV_PATH_REFUSED] s t ∧ OnlyRegs s t ∧
      t.out = [])) ∧
  -- REGISTER_WRITE
  (∀ (p : Path) (addr : Addr) (v : Word) (k : PageKind) (s : State), Awake s →
    pathReaches s p addr.toNat = true → mode s = mStandby → privileged s p = true →
    mirroredPage (addr.toNat / 0x1000) = true → addr.toNat % 4 = 0 → pageKindOf (addr.toNat / 0x1000) = some k →
    s.stopped.contains (addr.toNat / 0x1000) = false →
    configBits s k (addr.toNat / 0x1000) (addr.toNat % 0x1000) ≠ 0 → actionBits k (addr.toNat % 0x1000) = 0 →
    Answers (.registerWrite p addr v) s (fun t =>
      reg t R.DEV_STBY_WR_DROPS = reg s R.DEV_STBY_WR_DROPS + 1 ∧ RegsBut [R.DEV_STBY_WR_DROPS] s t ∧ OnlyRegs s t ∧
      t.out = [])) ∧
  -- COUNTER_LOW_WORD_READ
  (∀ (p : Path) (addr : Addr) (k : PageKind) (r : RegRow) (c key : Nat) (s : State), Awake s →
    pathReaches s p addr.toNat = true → pageKindOf (addr.toNat / 0x1000) = some k →
    s.stopped.contains (addr.toNat / 0x1000) = false → addr.toNat % 4 = 0 → 0x100 ≤ addr.toNat % 0x1000 →
    bit s (fEnabled (addr.toNat / 0x1000)) = true → findRow k (addr.toNat % 0x1000) = some r →
    selValue s (addr.toNat / 0x1000) r.sel = some c → key = regKey addr.toNat c → r.wide = true →
    (addr.toNat % 0x1000 - r.off) % 8 = 0 → takingRead k (addr.toNat % 0x1000) (clearOut s) = none →
    computedRead p k (addr.toNat / 0x1000) (addr.toNat % 0x1000) (clearOut s) = none →
    Answers (.counterLowWordRead p addr) s (fun t =>
      t = { s with latch := smSet dLatch s.latch (latchKey p (addr.toNat / 0x1000)) (some (reg s (key + 4))), out := [.readData (reg s key)] })) ∧
  -- PAGE_ENABLE_WRITE
  (∀ (page : BitVec 12) (k : PageKind) (s : State), Runs s → Unpaired s → (mode s ≠ mStandby ∨
    mirroredPage page.toNat = false) → pageKindOf page.toNat = some k → (pageInfo k).gate = true →
    bit s (fEnabled page.toNat) = true → pageIdle s k page.toNat = true →
    Answers (.pageEnableWrite page false) s (fun t =>
      bit t (fEnable page.toNat) = false ∧ bit t (fEnabled page.toNat) = false ∧
      RegsBut [(fEnable page.toNat).key, (fEnabled page.toNat).key] s t ∧ OnlyRegs s t ∧ t.out = [])) ∧
  -- PAGE_ENABLE_WRITE
  (∀ (page : BitVec 12) (k : PageKind) (s : State), Runs s → Unpaired s → (mode s ≠ mStandby ∨
    mirroredPage page.toNat = false) → pageKindOf page.toNat = some k → (pageInfo k).gate = true →
    bit s (fEnabled page.toNat) = false →
    Answers (.pageEnableWrite page true) s (fun t =>
      bit t (fEnable page.toNat) = true ∧ bit t (fEnabled page.toNat) = true ∧
      (∀ x ∈ blockCrossings page.toNat, (xGet t x).resyncing = true) ∧ t.act = s.act ∧ t.fuse = s.fuse ∧
      t.dram = s.dram ∧ mode t = mode s)) ∧
  -- PAGE_ENABLE_WRITE
  (∀ (page : BitVec 12) (k : PageKind) (s : State), Runs s → Unpaired s → (mode s ≠ mStandby ∨
    mirroredPage page.toNat = false) → pageKindOf page.toNat = some k → (pageInfo k).gate = true →
    bit s (fEnabled page.toNat) = false → blockCrossings page.toNat = [39] → (xGet s 39).resyncing = false →
    Answers (.pageEnableWrite page true) s (fun t =>
      bit t (fEnable page.toNat) = true ∧ bit t (fEnabled page.toNat) = true ∧ (xGet t 39).resyncing = true ∧
      (xGet t 39).inFlight = none ∧ (xGet t 39).pending = none ∧
      RegsBut [(fEnable page.toNat).key, (fEnabled page.toNat).key, R.CDC_RESYNCS, R.CDC_RESYNC_ITEMS, R.CDC_RESYNC_ITEMS + 4, R.CDC_OVERRUN_EVENTS] s t ∧
      t = { s with regs := t.regs, cdc := t.cdc, flt := t.flt, freeIdx := s.freeIdx + 1, out := [] })) ∧
  -- PAGE_LOCK
  (∀ (page : BitVec 12) (k : PageKind) (s : State), Runs s → (mode s ≠ mStandby ∨
    mirroredPage page.toNat = false) → pageKindOf page.toNat = some k →
    bit s (fEnable page.toNat) = bit s (fEnabled page.toNat) →
    Answers (.pageLock page) s (fun t =>
      bit t (fLocked page.toNat) = true ∧ bit t (fEnabled page.toNat) = bit s (fEnabled page.toNat) ∧
      RegsBut [(fEnable page.toNat).key, (fLocked page.toNat).key] s t ∧ OnlyRegs s t ∧ t.out = []))

/-- Register-access frames run once and are answered, repeated TAGs get the stored reply, and the mailbox sends and
receives, under the conditions written out. The model's own readings: log entries 21, 24, 25. After: R424, R425, R426, R427,
18_register_pages.md Table 18-9. -/
def Obligations.RegisterAccessFramesComplete : Prop :=
  -- MGMT_READ
  (∀ (f : List Byte) (rest : List (List Byte)) (p : Path) (tag : Nat) (d : Done) (u : State) (s : State), Awake s →
    s.mgmtQ = f :: rest → byteAt f 2 = 1 → mode s ≠ mService → p = .mgmt (BitVec.ofNat 6 (byteAt f 1)) →
    tag = ofBE (sub f 8 2) → ((smGet dReply s.mgmtLast (byteAt f 1 % 64)).map Prod.fst ≠ some tag) →
    frameOk f = true → readWords p (frameAddrs f) { s with mgmtQ := rest, out := [] } = (d, u) →
    Answers (.mgmtRead) s (fun t =>
      smGet dReply t.mgmtLast (byteAt f 1 % 64) = some (tag, replyFrame u f (statusOf d.status) d.count d.words) ∧
      reg t R.DEV_MGMT_REQS = reg u R.DEV_MGMT_REQS + 1 ∧ reg t R.DEV_MGMT_DUPS = reg u R.DEV_MGMT_DUPS ∧
      t = kept s (offerCtl (replyFrame u f (statusOf d.status) d.count d.words) (bump R.DEV_MGMT_REQS { u with mgmtLast := smSet dReply u.mgmtLast (byteAt f 1 % 64) (some (tag, replyFrame u f (statusOf d.status) d.count d.words)) })))) ∧
  -- MGMT_WRITE
  (∀ (f : List Byte) (rest : List (List Byte)) (p : Path) (tag : Nat) (d : Done) (u : State) (s : State), Awake s →
    s.mgmtQ = f :: rest → byteAt f 2 = 2 → mode s ≠ mService → p = .mgmt (BitVec.ofNat 6 (byteAt f 1)) →
    tag = ofBE (sub f 8 2) → ((smGet dReply s.mgmtLast (byteAt f 1 % 64)).map Prod.fst ≠ some tag) →
    frameOk f = true → writeWords p (framePairs f) { s with mgmtQ := rest, out := [] } = (d, u) →
    Answers (.mgmtWrite) s (fun t =>
      smGet dReply t.mgmtLast (byteAt f 1 % 64) = some (tag, replyFrame u f (statusOf d.status) d.count d.words) ∧
      reg t R.DEV_MGMT_REQS = reg u R.DEV_MGMT_REQS + 1 ∧ reg t R.DEV_MGMT_DUPS = reg u R.DEV_MGMT_DUPS ∧
      t = kept s (offerCtl (replyFrame u f (statusOf d.status) d.count d.words) (bump R.DEV_MGMT_REQS { u with mgmtLast := smSet dReply u.mgmtLast (byteAt f 1 % 64) (some (tag, replyFrame u f (statusOf d.status) d.count d.words)) })))) ∧
  -- MGMT_WRITE_LIST
  (∀ (f : List Byte) (rest : List (List Byte)) (p : Path) (tag : Nat) (d : Done) (u : State) (s : State), Awake s →
    s.mgmtQ = f :: rest → byteAt f 2 = 3 → mode s ≠ mService → p = .mgmt (BitVec.ofNat 6 (byteAt f 1)) →
    tag = ofBE (sub f 8 2) → ((smGet dReply s.mgmtLast (byteAt f 1 % 64)).map Prod.fst ≠ some tag) →
    frameOk f = true → writeWords p (framePairs f) { s with mgmtQ := rest, out := [] } = (d, u) →
    Answers (.mgmtWriteList) s (fun t =>
      smGet dReply t.mgmtLast (byteAt f 1 % 64) = some (tag, replyFrame u f (statusOf d.status) d.count d.words) ∧
      reg t R.DEV_MGMT_REQS = reg u R.DEV_MGMT_REQS + 1 ∧ reg t R.DEV_MGMT_DUPS = reg u R.DEV_MGMT_DUPS ∧
      t = kept s (offerCtl (replyFrame u f (statusOf d.status) d.count d.words) (bump R.DEV_MGMT_REQS { u with mgmtLast := smSet dReply u.mgmtLast (byteAt f 1 % 64) (some (tag, replyFrame u f (statusOf d.status) d.count d.words)) })))) ∧
  -- MGMT_WRITE
  (∀ (f : List Byte) (rest : List (List Byte)) (p : Path) (tag : Nat) (r : List Byte) (s : State), Awake s →
    s.mgmtQ = f :: rest → byteAt f 2 = 2 → mode s ≠ mService → p = .mgmt (BitVec.ofNat 6 (byteAt f 1)) →
    tag = ofBE (sub f 8 2) → smGet dReply s.mgmtLast (byteAt f 1 % 64) = some (tag, r) →
    Answers (.mgmtWrite) s (fun t =>
      reg t R.DEV_MGMT_DUPS = reg s R.DEV_MGMT_DUPS + 1 ∧ reg t R.DEV_MGMT_REQS = reg s R.DEV_MGMT_REQS ∧
      t = kept s (offerCtl r (bump R.DEV_MGMT_DUPS { s with mgmtQ := rest, out := [] })))) ∧
  -- MGMT_READ
  (∀ (f : List Byte) (rest : List (List Byte)) (p : Path) (tag : Nat)  (s : State), Awake s →
    s.mgmtQ = f :: rest → byteAt f 2 = 1 → mode s ≠ mService → p = .mgmt (BitVec.ofNat 6 (byteAt f 1)) →
    tag = ofBE (sub f 8 2) → ((smGet dReply s.mgmtLast (byteAt f 1 % 64)).map Prod.fst ≠ some tag) →
    frameOk f = false →
    Answers (.mgmtRead) s (fun t =>
      smGet dReply t.mgmtLast (byteAt f 1 % 64) = some (tag, replyFrame s f 1 0 []) ∧
      reg t R.DEV_MGMT_REQS = reg s R.DEV_MGMT_REQS + 1 ∧
      t = kept s (offerCtl (replyFrame s f 1 0 []) (bump R.DEV_MGMT_REQS { { s with mgmtQ := rest, out := [] } with mgmtLast := smSet dReply s.mgmtLast (byteAt f 1 % 64) (some (tag, replyFrame s f 1 0 [])) })))) ∧
  -- MB_TX_GO
  (∀ (len : BitVec 14) (f : List Byte) (s : State), Runs s → mbBusy s = false → 8 ≤ len.toNat →
    len.toNat ≤ s.mbTx.length * 4 →
    f = ((s.mbTx.flatMap (fun w => bytesLE 4 w.toNat)).take len.toNat).set 1 (BitVec.ofNat 8 (ownHid s)) →
    (byteAt f 2 = 0 ∨ 3 < byteAt f 2) →
    Answers (.mbTxGo len) s (fun t =>
      t.mbTx = [] ∧ reg t R.DEV_MB_TX_FRAMES = reg s R.DEV_MB_TX_FRAMES + 1 ∧
      t = kept s (ingress 11 (offerFrame 11 { tag := 0, data := f, ctl := true, src := 1 } (bump R.DEV_MB_TX_FRAMES { s with mbTx := [], out := [] }))))) ∧
  -- MB_TX_GO
  (∀ (len : BitVec 14) (s : State), Runs s → (mbBusy s = true ∨ len.toNat < 8 ∨ s.mbTx.length * 4 < len.toNat) →
    Answers (.mbTxGo len) s (fun t =>
      reg t R.DEV_MB_TX_REFUSED = reg s R.DEV_MB_TX_REFUSED + 1 ∧ RegsBut [R.DEV_MB_TX_REFUSED] s t ∧ OnlyRegs s t ∧
      t.out = [])) ∧
  -- MGMT_REPLY_DELIVERY
  (∀ (frame : List Byte) (s : State), Runs s → byteAt frame 0 % 64 = ownHid s → (byteAt frame 2 = 0x11 ∨
    byteAt frame 2 = 0x12) → byteAt frame 8 < 128 → s.mbRx.length + 1 + (wordsOf frame).length ≤ 1024 →
    Answers (.mgmtReplyDelivery frame) s (fun t =>
      t = { s with mbRx := s.mbRx ++ BitVec.ofNat 32 (frame.length % 65536 + byteAt frame 1 % 64 * 65536) :: wordsOf frame, out := [] })) ∧
  -- MGMT_REPLY_DELIVERY
  (∀ (frame : List Byte) (s : State), Runs s → byteAt frame 0 % 64 = ownHid s → (byteAt frame 2 = 0x11 ∨
    byteAt frame 2 = 0x12) → 128 ≤ byteAt frame 8 → devOn s = true → bit s fUsbConfigured = true →
    gateState s ≠ 0 →
    Answers (.mgmtReplyDelivery frame) s (fun t =>
      t = { s with usb := { s.usb with toggle := smSet (fun _ => false) s.usb.toggle 4 (!toggleGet s 4) }, out := [.usb (if toggleGet s 4 then 0x4B else 0xC3) frame] })) ∧
  -- MB_RX_READ
  (∀ (w : Word) (ws : List Word) (s : State), Runs s → s.mbRx = w :: ws →
    Answers (.mbRxRead) s (fun t =>
      t = { s with mbRx := ws, out := [.readData w] })) ∧
  -- MB_RX_READ
  (∀ (s : State), Runs s → s.mbRx = [] →
    Answers (.mbRxRead) s (fun t =>
      t = { s with out := [.readData 0] }))

/-- The SPI slave reads, writes and reports its status; temperature and supply samples reach their registers, under the
conditions written out. The model's own readings: log entries 26, 27. After: R428, R431, R434, R435. -/
def Obligations.SpiAndSensorCommandsComplete : Prop :=
  -- SPI_READ
  (∀ (addr : Addr) (n : BitVec 8) (s : State), Powered s → addr.toNat % 4 = 0 →
    Answers (.spiRead addr n) s (fun t =>
      t = kept s (forAll (List.range n.toNat) (fun i => spiReadWord ((addr.toNat + 4 * i) % 2 ^ 24)) { s with spi := { s.spi with part := [] }, out := [] }))) ∧
  -- SPI_READ
  (∀ (addr : Addr) (k : PageKind) (s : State), Awake s → addr.toNat % 0x1000 = 0x044 →
    pageKindOf (addr.toNat / 0x1000) = some k → s.stopped.contains (addr.toNat / 0x1000) = false →
    Answers (.spiRead addr 1) s (fun t =>
      t = { s with spi := { s.spi with part := [] }, out := [.readData (reg s addr.toNat)] })) ∧
  -- SPI_READ_FIXED
  (∀ (addr : Addr) (n : BitVec 8) (k : PageKind) (s : State), Awake s → addr.toNat % 0x1000 = 0x044 →
    pageKindOf (addr.toNat / 0x1000) = some k → s.stopped.contains (addr.toNat / 0x1000) = false →
    Answers (.spiReadFixed addr n) s (fun t =>
      t = { s with spi := { s.spi with part := [] }, out := List.replicate n.toNat (.readData (reg s addr.toNat)) })) ∧
  -- SPI_READ_FIXED
  (∀ (addr : Addr) (n : BitVec 8) (s : State), Powered s → addr.toNat % 4 = 0 →
    Answers (.spiReadFixed addr n) s (fun t =>
      t = kept s (forAll (List.range n.toNat) (fun _ => spiReadWord addr.toNat) { s with spi := { s.spi with part := [] }, out := [] }))) ∧
  -- SPI_WRITE
  (∀ (addr : Addr) (words : List Word) (part : List Byte) (s : State), Powered s → addr.toNat % 4 = 0 →
    Answers (.spiWrite addr words part) s (fun t =>
      t.spi.part = part.take 3 ∧
      t = kept s (modSpi (fun x => { x with part := part.take 3 }) (forAll words.zipIdx (fun w => spiWriteWord ((addr.toNat + 4 * w.2) % 2 ^ 24) w.1) { s with spi := { s.spi with part := [] }, out := [] })))) ∧
  -- SPI_WRITE
  (∀ (addr : Addr) (w : Word) (k : PageKind) (s : State), Awake s → (mode s ≠ mStandby ∨
    mirroredPage (addr.toNat / 0x1000) = false) → addr.toNat % 0x1000 = 0x044 →
    pageKindOf (addr.toNat / 0x1000) = some k → s.stopped.contains (addr.toNat / 0x1000) = false →
    Answers (.spiWrite addr [w] []) s (fun t =>
      reg t addr.toNat = w ∧ RegsBut [addr.toNat] s t ∧
      t = { s with regs := t.regs, spi := { s.spi with part := [] }, out := [] })) ∧
  -- SPI_WRITE_FIXED
  (∀ (addr : Addr) (words : List Word) (w : Word) (part : List Byte) (k : PageKind) (s : State), Awake s →
    (mode s ≠ mStandby ∨ mirroredPage (addr.toNat / 0x1000) = false) → addr.toNat % 0x1000 = 0x044 →
    pageKindOf (addr.toNat / 0x1000) = some k → s.stopped.contains (addr.toNat / 0x1000) = false →
    Answers (.spiWriteFixed addr (words ++ [w]) part) s (fun t =>
      reg t addr.toNat = w ∧ RegsBut [addr.toNat] s t ∧
      t = { s with regs := t.regs, spi := { s.spi with part := part.take 3 }, out := [] })) ∧
  -- SPI_WRITE_FIXED
  (∀ (addr : Addr) (words : List Word) (part : List Byte) (s : State), Powered s → addr.toNat % 4 ≠ 0 →
    Answers (.spiWriteFixed addr words part) s (fun t =>
      t = { s with spi := { err := true, part := [] }, out := [] })) ∧
  -- SPI_STATUS
  (∀ (s : State), Powered s →
    Answers (.spiStatus) s (fun t =>
      t = { s with spi := {}, out := [.readData (BitVec.ofNat 32 ((if s.spi.err then 2 else 0) + (if hubRuns s then 8 else 4)))] })) ∧
  -- SPI_CS_RISE
  (∀ (s : State), Powered s →
    Answers (.spiCsRise false) s (fun t =>
      t = { s with spi := { s.spi with part := [] }, out := [] })) ∧
  -- SPI_CS_RISE
  (∀ (s : State), Powered s →
    Answers (.spiCsRise true) s (fun t =>
      t = { s with spi := { err := true, part := [] }, out := [] })) ∧
  -- DIE_TEMP_SAMPLE
  (∀ (hubT powerT : BitVec 16) (warn : Int) (s : State), Runs s →
    warn = (getF s ⟨R.DEV_TJ_WARN, 0, 8⟩ : Nat) * 10 → hubT.toInt ≤ warn → powerT.toInt ≤ warn →
    hubT.toInt < 1200 → powerT.toInt < 1200 →
    Answers (.dieTempSample hubT powerT) s (fun t =>
      reg t R.DEV_TJ = powerT ++ hubT ∧ t.sense.warnHub = (s.sense.warnHub && decide (warn - 50 < hubT.toInt)) ∧
      t.sense.warnPower = (s.sense.warnPower && decide (warn - 50 < powerT.toInt)) ∧
      t.sense.hot = (s.sense.hot && !(decide (hubT.toInt < 1150) && decide (powerT.toInt < 1150))) ∧
      RegsBut [R.DEV_TJ] s t ∧ t = { s with regs := t.regs, sense := t.sense, out := [] })) ∧
  -- DIE_TEMP_SAMPLE
  (∀ (hubT powerT : BitVec 16) (warn : Int) (s : State), Runs s →
    warn = (getF s ⟨R.DEV_TJ_WARN, 0, 8⟩ : Nat) * 10 → warn < hubT.toInt → s.sense.warnHub = false →
    powerT.toInt ≤ warn → hubT.toInt < 1200 → powerT.toInt < 1200 →
    Answers (.dieTempSample hubT powerT) s (fun t =>
      reg t R.DEV_TJ = powerT ++ hubT ∧ t.sense.warnHub = true ∧ RegsBut [R.DEV_TJ, R.CDC_OVERRUN_EVENTS] s t ∧
      OnlyRaised 124 ((free s).toNat % 65536) { s with sense := t.sense, freeIdx := s.freeIdx + 1 } t)) ∧
  -- SUPPLY_WINDOW_EXIT
  (∀ (rail : Fin 7) (s : State), Runs s → bit s ⟨R.DEV_SUPPLY, rail, 1⟩ = true →
    Answers (.supplyWindowExit rail) s (fun t =>
      bit t ⟨R.DEV_SUPPLY, rail, 1⟩ = false ∧ RegsBut [R.DEV_SUPPLY, R.CDC_OVERRUN_EVENTS] s t ∧
      OnlyRaised 126 rail s t)) ∧
  -- SUPPLY_WINDOW_RETURN
  (∀ (rail : Fin 7) (s : State), Runs s →
    Answers (.supplyWindowReturn rail) s (fun t =>
      bit t ⟨R.DEV_SUPPLY, rail, 1⟩ = true ∧ RegsBut [R.DEV_SUPPLY] s t ∧ OnlyRegs s t ∧ t.out = []))

/-- BAR0 requests and the USB device function's endpoints reach the registers and answer, under the conditions written out.
The model's own readings: log entries 25, 58, 59. After: R220, R251, R252, R253, R254, R255, 10_usb_hub_and_device.md Table
10-8, 10_usb_hub_and_device.md Table 10-9. -/
def Obligations.HostPathCommandsComplete : Prop :=
  -- BAR0_REQUEST
  (∀ (tag : Byte) (off : Addr) (v : Word) (s : State), Runs s → upstreamUp s = true → off.toNat % 4 = 0 →
    Answers (.bar0Request tag off 15 1 (some v)) s (fun t =>
      t = kept s (writeReg .bar0 off.toNat v (upArrives (clearOut s))).2)) ∧
  -- BAR0_REQUEST
  (∀ (tag : Byte) (addr : Addr) (v : Word) (k : PageKind) (s : State), Awake s → upIsTunnel s = false →
    upstreamUp s = true → (mode s ≠ mStandby ∨ mirroredPage (addr.toNat / 0x1000) = false) →
    addr.toNat % 0x1000 = 0x044 → pageKindOf (addr.toNat / 0x1000) = some k →
    s.stopped.contains (addr.toNat / 0x1000) = false →
    Answers (.bar0Request tag addr 15 1 (some v)) s (fun t =>
      reg t addr.toNat = v ∧ bit t (fInL1 0) = false ∧
      cnt64 t (R.PCIE_RX_TLPS 0) = (cnt64 s (R.PCIE_RX_TLPS 0) + 1) % 2 ^ 64 ∧
      RegsBut [addr.toNat, (fInL1 0).key, R.PCIE_RX_TLPS 0, R.PCIE_RX_TLPS 0 + 4] s t ∧
      t = { s with regs := t.regs, pcie := t.pcie, out := t.out } ∧ t.out = [])) ∧
  -- BAR0_REQUEST
  (∀ (tag : Byte) (addr : Addr) (k : PageKind) (s : State), Awake s → upIsTunnel s = false →
    bit s (fDlUp 0) = true → addr.toNat % 0x1000 = 0x044 → pageKindOf (addr.toNat / 0x1000) = some k →
    s.stopped.contains (addr.toNat / 0x1000) = false →
    Answers (.bar0Request tag addr 15 1 none) s (fun t =>
      t.out = [.completion tag.toNat 0 (bytesLE 4 (reg s addr.toNat).toNat) false] ∧ bit t (fInL1 0) = false ∧
      RegsBut [(fInL1 0).key, R.PCIE_RX_TLPS 0, R.PCIE_RX_TLPS 0 + 4, R.PCIE_TX_TLPS 0, R.PCIE_TX_TLPS 0 + 4] s t ∧
      t = { s with regs := t.regs, pcie := t.pcie, out := t.out })) ∧
  -- BAR0_REQUEST
  (∀ (tag : Byte) (off : Addr) (be : BitVec 4) (dws : BitVec 10) (s : State), Runs s → upIsTunnel s = false →
    bit s (fDlUp 0) = true → (off.toNat % 4 ≠ 0 ∨ be ≠ 15 ∨ dws ≠ 1) →
    Answers (.bar0Request tag off be dws none) s (fun t =>
      t.out = [.completion tag.toNat 1 [] false] ∧ reg t (R.PCIE_BAR_ERR 0) = reg s (R.PCIE_BAR_ERR 0) + 1 ∧
      RegsBut [R.PCIE_BAR_ERR 0, (fInL1 0).key, R.PCIE_RX_TLPS 0, R.PCIE_RX_TLPS 0 + 4, R.PCIE_TX_TLPS 0, R.PCIE_TX_TLPS 0 + 4, R.CDC_OVERRUN_EVENTS] s t)) ∧
  -- REG_READ_REQUEST
  (∀ (addr : Addr) (k : PageKind) (s : State), Awake s → devOn s = true → bit s fUsbConfigured = true →
    s.usb.held = none → gateState s ≠ 0 → addr.toNat % 0x1000 = 0x044 → pageKindOf (addr.toNat / 0x1000) = some k →
    s.stopped.contains (addr.toNat / 0x1000) = false →
    Answers (.regReadRequest addr 4) s (fun t =>
      t = { s with usb := { s.usb with applied := false }, out := [.usb 0x4B (bytesLE 4 (reg s addr.toNat).toNat)] })) ∧
  -- REG_READ_REQUEST
  (∀ (addr : Addr) (a : Access) (v : Word) (u : State) (s : State), Awake s → devOn s = true →
    bit s fUsbConfigured = true → s.usb.held = none → gateState s ≠ 0 → addr.toNat % 4 = 0 →
    readReg .usb addr.toNat { s with usb := { s.usb with applied := false }, out := [] } = (a, v, u) →
    Answers (.regReadRequest addr 4) s (fun t =>
      t = kept s { u with out := u.out ++ [.usb 0x4B (bytesLE 4 v.toNat)] })) ∧
  -- REG_WRITE_REQUEST
  (∀ (addr : Addr) (v : Word) (s : State), Runs s → devOn s = true → bit s fUsbConfigured = true →
    s.usb.held = none → gateState s = 1 → addr.toNat % 4 = 0 →
    Answers (.regWriteRequest addr 4 v) s (fun t =>
      t = { s with usb := { s.usb with held := some (addr.toNat, v), zlpSent := false, applied := false }, out := [] })) ∧
  -- REG_WRITE_STATUS_STAGE
  (∀ (s : State), Runs s → s.usb.held ≠ none →
    Answers (.regWriteStatusStage .statusIn) s (fun t =>
      t = { s with usb := { s.usb with zlpSent := true }, out := [.usb 0x4B []] })) ∧
  -- REG_WRITE_STATUS_STAGE
  (∀ (s : State), Runs s → s.usb.held = none → s.usb.applied = true →
    Answers (.regWriteStatusStage .statusIn) s (fun t =>
      t = { s with out := [.usb 0x4B []] })) ∧
  -- REG_WRITE_STATUS_STAGE
  (∀ (addr : Addr) (v : Word) (k : PageKind) (s : State), Awake s → (mode s ≠ mStandby ∨
    mirroredPage (addr.toNat / 0x1000) = false) → s.usb.zlpSent = true → s.usb.held = some (addr.toNat, v) →
    addr.toNat % 0x1000 = 0x044 → pageKindOf (addr.toNat / 0x1000) = some k →
    s.stopped.contains (addr.toNat / 0x1000) = false →
    Answers (.regWriteStatusStage .ack) s (fun t =>
      reg t addr.toNat = v ∧ RegsBut [addr.toNat] s t ∧
      t = { s with regs := t.regs, usb := { s.usb with held := none, zlpSent := false, applied := true }, out := [] })) ∧
  -- REG_WRITE_STATUS_STAGE
  (∀ (s : State), Runs s → s.usb.held ≠ none → s.usb.zlpSent = false →
    Answers (.regWriteStatusStage .setup) s (fun t =>
      reg t R.USBD_CTRL_ABANDONED = reg s R.USBD_CTRL_ABANDONED + 1 ∧ RegsBut [R.USBD_CTRL_ABANDONED] s t ∧
      t = { s with regs := t.regs, usb := { s.usb with held := none, zlpSent := false, applied := false }, out := [] })) ∧
  -- EP3_OUT_FRAME
  (∀ (frame f : List Byte) (run : Bool) (r : List Byte) (u : State) (s : State), Awake s → devOn s = true →
    bit s fUsbConfigured = true → bit s fOutHalt = false → gateState s = 1 → 1 ≤ byteAt frame 2 →
    byteAt frame 2 ≤ 3 → f = frame.set 8 (BitVec.ofNat 8 (byteAt frame 8 % 128 + 128)) →
    byteAt f 0 % 64 = ownHid s →
    answerFrame .usb f { bump R.USBD_EP3_FRAMES s with usb := { s.usb with toggle := smSet (fun _ => false) s.usb.toggle 3 (!toggleGet s 3) }, out := [.usb 0xD2 []] } = (run, r, u) →
    Answers (.ep3OutFrame frame false) s (fun t =>
      t = kept s (sendIn 4 r u) ∧ t.out = u.out ++ [.usb (if toggleGet u 4 then 0x4B else 0xC3) r])) ∧
  -- EP3_OUT_FRAME
  (∀ (frame : List Byte) (s : State), Runs s → devOn s = true → bit s fUsbConfigured = true →
    bit s fOutHalt = false →
    Answers (.ep3OutFrame frame true) s (fun t =>
      t = { s with out := [.usb 0xD2 []] })) ∧
  -- EP1_IN_TOKEN
  (∀ (s : State), Runs s → devOn s = true → bit s fUsbConfigured = true → bit s ⟨R.USBD_STATUS, 7, 1⟩ = false →
    ep1Status s ≠ s.usb.ep1Last →
    Answers (.ep1InToken) s (fun t =>
      t = { s with usb := { s.usb with ep1Last := ep1Status s, toggle := smSet (fun _ => false) s.usb.toggle 1 (!toggleGet s 1) }, out := [.usb (if toggleGet s 1 then 0x4B else 0xC3) (ep1Status s)] })) ∧
  -- EP1_IN_TOKEN
  (∀ (s : State), Runs s → devOn s = true → bit s fUsbConfigured = true → bit s ⟨R.USBD_STATUS, 7, 1⟩ = false →
    ep1Status s = s.usb.ep1Last →
    Answers (.ep1InToken) s (fun t =>
      t = { s with out := [.usb 0x5A []] })) ∧
  -- EP2_IN_TOKEN
  (∀ (s : State), Runs s → devOn s = true → bit s fUsbConfigured = true → s.usb.alt1 = true → s.usb.ep2 ≠ [] →
    Answers (.ep2InToken) s (fun t =>
      t.out = [.usb 0xC3 ((s.usb.ep2.take 64).flatMap recordBytes)] ∧
      t.usb = { s.usb with ep2 := s.usb.ep2.drop 64 } ∧
      cnt64 t R.USBD_EP2_RECORDS = (cnt64 s R.USBD_EP2_RECORDS + (s.usb.ep2.take 64).length) % 2 ^ 64 ∧
      RegsBut [R.USBD_EP2_RECORDS, R.USBD_EP2_RECORDS + 4] s t ∧
      t = { s with regs := t.regs, usb := t.usb, out := t.out })) ∧
  -- USB_BUS_RESET
  (∀ (s : State), Runs s → bit s fEn2 = true → s.usb.held = none →
    Answers (.usbBusReset false) s (fun t =>
      reg t R.USBD_STATUS = 0 ∧ t.usb.toggle = [] ∧ t.usb.alt1 = false ∧ t.usb.hubWake = false ∧
      t.usb.devWake = false ∧ t.usb.ep2 = s.usb.ep2 ∧ (apGet t .usb).authed = false ∧ PathsBut .usb s t ∧
      reg t R.USBD_BUS_RESETS = reg s R.USBD_BUS_RESETS + 1 ∧
      RegsBut ([R.USBD_STATUS, R.USBD_BUS_RESETS, R.USB2_STATUS] ++ (List.range 7).map R.USB2_PORT_STATUS ++ (List.range 8).map R.USB2_TP_STATUS) s t ∧
      t = { s with regs := t.regs, usb := t.usb, sec := t.sec, out := [] })) ∧
  -- CLEAR_ENDPOINT_HALT
  (∀ (e : Fin 4) (s : State), Runs s → devOn s = true → bit s fUsbConfigured = true → s.usb.held = none →
    Answers (.clearEndpointHalt e) s (fun t =>
      t.usb = { s.usb with toggle := smSet (fun _ => false) s.usb.toggle (e.val + 1) false, applied := false } ∧
      (e.val ≠ 1 → bit t ⟨R.USBD_STATUS, 7 + (if e.val = 0 then 0 else e.val - 1), 1⟩ = false) ∧
      RegsBut [R.USBD_STATUS] s t ∧ t = { s with regs := t.regs, usb := t.usb, out := [] })) ∧
  -- SET_CONFIGURATION
  (∀ (addr : BitVec 7) (config : Byte) (s : State), Runs s → devOn s = true → s.usb.held = none →
    config.toNat ≤ 1 →
    Answers (.setConfiguration addr config) s (fun t =>
      getF t fUsbConfigured = config.toNat ∧ getF t ⟨R.USBD_STATUS, 7, 3⟩ = 0 ∧
      getF t ⟨R.USBD_STATUS, 16, 7⟩ = addr.toNat ∧
      t.usb = { s.usb with toggle := s.usb.toggle.filter (fun e => decide (9 ≤ e.1)), alt1 := false, applied := false } ∧
      (config = 0 → (apGet t .usb).authed = false) ∧ (config = 1 → t.sec = s.sec) ∧ PathsBut .usb s t ∧
      RegsBut [R.USBD_STATUS] s t ∧ t = { s with regs := t.regs, usb := t.usb, sec := t.sec, out := [] })) ∧
  -- SET_INTERFACE
  (∀ (alt : Byte) (s : State), Runs s → devOn s = true → bit s fUsbConfigured = true → s.usb.held = none →
    alt.toNat ≤ 1 →
    Answers (.setInterface 1 alt) s (fun t =>
      t = { s with usb := { s.usb with alt1 := alt == 1, applied := false }, out := [] }))

/-- A completed request shows its mode and OK; an island cause shows ISLAND and its number; each counts one transition. The
model's own readings: log entries 29, 30. After: R22, R25, R26, R457. -/
def Obligations.ModeChangesShowTheirModeAndCause : Prop :=
  -- MODE_TRANSITION_COMPLETE
  (∀ (p : Path) (s : State), Runs s → s.modes.req = some ⟨mSolo, p⟩ → mode s = mCold →
    requestCheck s ⟨mSolo, p⟩ = 0 →
    Answers (.modeTransitionComplete) s (fun t =>
      mode t = mSolo ∧ getF t fReqResult = 0 ∧ bit t fReqBusy = false ∧ t.modes.req = none ∧ getF t fPrev = mode s ∧
      getF t fTransCount = (getF s fTransCount + 1) % 256 ∧ t.modes.wdogTick = s.ticks)) ∧
  -- ISLAND_GRACE_EXPIRY
  (∀ (s : State), Runs s → islandArmed s = true → (getA s fUpstream ≤ 3 ∨ getA s fUpstream = 5) →
    upstreamThere s (getA s fUpstream) = false → graceStart s (getA s fUpstream) + graceTicks s ≤ s.ticks →
    bit s fReqBusy = s.modes.req.isSome →
    Answers (.islandGraceExpiry) s (fun t =>
      mode t = mIsland ∧ getF t fIslCause = 1 ∧ t.modes.upstream = getA s fUpstream ∧ bit t fReqBusy = false ∧
      t.modes.req = none ∧ getF t fPrev = mode s ∧ getF t fTransCount = (getF s fTransCount + 1) % 256 ∧
      t.modes.wdogTick = s.ticks)) ∧
  -- HOST_WATCHDOG_EXPIRY
  (∀ (s : State), Runs s → islandArmed s = true → wdogTicks s ≠ 0 → s.modes.wdogTick + wdogTicks s ≤ s.ticks →
    bit s fReqBusy = s.modes.req.isSome →
    Answers (.hostWatchdogExpiry) s (fun t =>
      mode t = mIsland ∧ getF t fIslCause = 2 ∧ t.modes.upstream = getA s fUpstream ∧ bit t fReqBusy = false ∧
      t.modes.req = none ∧ getF t fPrev = mode s ∧ getF t fTransCount = (getF s fTransCount + 1) % 256 ∧
      t.modes.wdogTick = s.ticks))

/-- An accepted commit of DEV, TUN or SCH makes every register of its set act as it is written, and shows OK. The model's
own readings: log entries 40. After: R94, R95, R150, R430. -/
def Obligations.CommitsMakeTheStagedSetAct : Prop :=
  -- DEV_COMMIT
  (∀ (k : Nat) (s : State), Runs s → mode s ≠ mStandby → (mode s = mCold ∨
    getF s ⟨R.DEV_HID, 0, 6⟩ = getA s ⟨R.DEV_HID, 0, 6⟩) → k ∈ devKeys → k ≠ R.DEV_ISLAND_CTRL →
    Answers (.devCommit) s (fun t =>
      actReg t k = reg s k ∧ reg t k = reg s k ∧ getF t fDevResult = 0)) ∧
  -- TUN_COMMIT
  (∀ (k : Nat) (s : State), Runs s → tunCheck s = none → k ∈ tunRegs →
    Answers (.tunCommit) s (fun t =>
      actReg t k = reg s k ∧ reg t k = reg s k ∧ reg t R.TUN_COMMITS = reg s R.TUN_COMMITS + 1)) ∧
  -- SCH_COMMIT
  (∀ (m : Mort) (k : Nat) (s : State), Runs s → m.val < 14 → mode s ≠ mStandby →
    firstTwice (attached s m) = none → (gatesOf m).find? (fun g => gateBad (schedOf (reg s) g)) = none →
    admissionSum s m (reg s) ≤ admissionLimit (checkLevel s) → k ∈ schRegs m →
    Answers (.schCommit m) s (fun t =>
      actReg t k = reg s k ∧ reg t k = reg s k))

/-- HOLD_EXPIRY tears the suspended tunnels of the port down and counts the cells they held. The model's own readings: log
entries 35. After: R67, R68. -/
def Obligations.HoldExpiryTearsDownAndCounts : Prop :=
  -- HOLD_EXPIRY
  (∀ (n : Port) (k : Nat) (u : State) (s : State), Runs s → holdRuns s n = true →
    teardownHeld n (stopHold n (clearOut s)) = (k, u) →
    Answers (.holdExpiry n) s (fun t =>
      holdRuns t n = false ∧ reg t (R.LINK_HOLD_EXPIRIES n) = reg u (R.LINK_HOLD_EXPIRIES n) + 1 ∧
      cnt64 t (R.LINK_HOLD_LOSS_CELLS n) = (cnt64 u (R.LINK_HOLD_LOSS_CELLS n) + k) % 2 ^ 64 ∧
      t = kept s (holdExpires n (clearOut s))))

/-- For every command c, list of commands rest and state s, step on s with the queue c :: rest is exec c on s with the queue
rest. After: 18_register_pages.md R418. -/
def Obligations.StepRunsTheFrontCommand : Prop :=
  ∀ (c : Instr) (rest : List Instr) (s : State),
    step { s with pending := c :: rest } = exec c { s with pending := rest }

/-- On an empty queue step answers the same state. The spec gives no tick as a command; idling is the model's choice, log
entry 1. After: 18_register_pages.md R418. -/
def Obligations.IdleStepChangesNothing : Prop :=
  ∀ s : State, s.pending = [] → step s = .next s

/-- State.reset has no waiting command, a supplied power die, a hub die that does not run, mode COLD, an SDRAM and a tunnel
table with nothing listed, every link DOWN, PSTATE 3, DEV.ID 0x17760, and every register, written and acting, at regReset of
its address. The values regReset gives where the spec states none are the model's choice, log entry 8; that nothing is
listed in the SDRAM is log entry 7. After: R8, R436, 16_power_states_reset_and_wipe.md Table 16-8, 18_register_pages.md
Table 18-8. -/
def Obligations.ResetLeavesTheHubOff : Prop :=
  State.reset.pending = [] ∧ Powered State.reset ∧ hubRuns State.reset = false ∧ mode State.reset = mCold ∧
  State.reset.dram = [] ∧ State.reset.tun = [] ∧ (∀ n, linkState State.reset n = lsDown) ∧
  reg State.reset R.DEV_ID = 0x17760 ∧ getF State.reset fPstate = 3 ∧ (∀ k, reg State.reset k = regReset k) ∧
  (∀ k, actReg State.reset k = regReset k)

/-- For every command outside the list ofPowerDie and every state in which the hub die does not run, exec answers the same
state with no output. After: R13, R374, 18_register_pages.md Table 18-8. -/
def Obligations.WithoutTheHubDieNothingHappens : Prop :=
  ∀ (c : Instr) (s : State), ofPowerDie c = false → hubRuns s = false → exec c s = .next { s with out := [] }

/-- For every command but POWER_ON_RESET and VDD_AO_POWER_LOSS and every state without VDD_AO, exec answers the same state
with no output. After: R13, R436. -/
def Obligations.WithoutVddAoNothingHappens : Prop :=
  ∀ (c : Instr) (s : State), (∀ straps high, c ≠ .powerOnReset straps high) → c ≠ .vddAoPowerLoss → s.pwr.on = false →
    exec c s = .next { s with out := [] }

/-- For every command and every state exec answers a next state (never a fault or a refusal) whose queue of waiting commands
is that of the state before. After: R418, opcode_table.json. -/
def Obligations.EveryCommandAnswersAndLeavesTheQueue : Prop :=
  ∀ (c : Instr) (s : State), ∃ t, exec c s = .next t ∧ t.pending = s.pending

/-- For every state s, if step on s answers t, then whatever the antifuse array of s had been programmed with the array of t
still has: the life-cycle word count and the update floor do not fall and a sealed CPS stays. Stated from any lower bound f
of the array of s. After: R386, R389, R401, 17_lifecycle_and_keys.md Table 17-4. -/
def Obligations.AntifuseOnlyMovesForward : Prop :=
  ∀ (f : Fuse) (s t : State), fuseLe f s.fuse → step s = .next t → fuseLe f t.fuse

/-- State.reset's antifuse array is blank, and the bound of AntifuseOnlyMovesForward holds of it. The spec gives an antifuse
array no reset; blank at State.reset is the model's choice, log entry 6. After: R386, 17_lifecycle_and_keys.md Table 17-4.
-/
def Obligations.ResetAntifuseIsBlank : Prop :=
  State.reset.fuse = {} ∧ fuseLe {} State.reset.fuse

/-- For every state, as many steps of the core as commands wait answer a next state whose queue is empty. That nothing joins
the queue but commands from outside is the model's form, log entry 14. After: R418, opcode_table.json. -/
def Obligations.EveryQueueDrains : Prop :=
  ∀ s : State, ∃ t, core.run s.pending.length s = .next t ∧ t.pending = []

/-- While the hub die runs and IN_EN is 1, PPS_IN_EDGE of the polarity IN_POL selects writes the fraction, nanoseconds and
seconds of Plumb into TIME.PPS_IN_FRAC, NS, S_LO and S_HI; with IN_EN 0 or the other polarity the edge changes nothing. No
hypothesis is on the source. Rule: R208. -/
def Obligations.PpsInEdgesAreStamped : Prop :=
  -- PPS_IN_EDGE
  (∀ (falling : Bool) (phase : Fin 8) (p : Plumb) (s : State), Runs s → bit s ⟨R.TIME_PPS_CTRL, 2, 1⟩ = true →
    bit s ⟨R.TIME_PPS_CTRL, 3, 1⟩ = falling → p = pinStamp phase s →
    Answers (.ppsInEdge ⟨falling, phase⟩) s (fun t =>
      reg t (R.TIME_PPS_IN_FRAC 0) = BitVec.ofNat 32 p.frac ∧ reg t (R.TIME_PPS_IN_FRAC 1) = BitVec.ofNat 32 p.ns ∧
      reg t (R.TIME_PPS_IN_FRAC 2) = BitVec.ofNat 32 p.sec ∧
      reg t (R.TIME_PPS_IN_FRAC 3) = BitVec.ofNat 32 (p.sec / 2 ^ 32))) ∧
  -- PPS_IN_EDGE
  (∀ (falling : Bool) (phase : Fin 8) (s : State), Runs s → (bit s ⟨R.TIME_PPS_CTRL, 2, 1⟩ = false ∨
    bit s ⟨R.TIME_PPS_CTRL, 3, 1⟩ ≠ falling) →
    Answers (.ppsInEdge ⟨falling, phase⟩) s (fun t =>
      t = { s with out := [] }))

/-- A write of KEY.ENG<e> with AUTO 0 that names a slot whose MASTER bit of the path or WORLD bit of KEY.WORLD is clear
leaves KEY.ENG<e>, adds one to ENG_REFUSED and changes no other register or field; with both set it stores the name and
counts nothing. Rule: R397. -/
def Obligations.EngineNamesNeedMasterAndWorld : Prop :=
  -- KEY_ENGINE_SELECT
  (∀ (p : Path) (e : Fin 8) (v : Word) (w : Slot) (s : State), Runs s → v.toNat.testBit 8 = false →
    w = slotOf s (bits v.toNat 0 5) → (w.master.testBit (pathNum p) = false ∨
    w.world.testBit (getF s ⟨R.KEY_WORLD, 0, 4⟩) = false) →
    Answers (.keyEngineSelect p e v) s (fun t =>
      reg t (R.KEY_ENG e) = reg s (R.KEY_ENG e) ∧ reg t R.KEY_ENG_REFUSED = reg s R.KEY_ENG_REFUSED + 1 ∧
      RegsBut [R.KEY_ENG_REFUSED] s t ∧ OnlyRegs s t)) ∧
  -- KEY_ENGINE_SELECT
  (∀ (p : Path) (e : Fin 8) (v : Word) (w : Slot) (s : State), Runs s → v.toNat.testBit 8 = false →
    w = slotOf s (bits v.toNat 0 5) → w.master.testBit (pathNum p) = true →
    w.world.testBit (getF s ⟨R.KEY_WORLD, 0, 4⟩) = true →
    Answers (.keyEngineSelect p e v) s (fun t =>
      reg t (R.KEY_ENG e) = v &&& 0x11F ∧ reg t R.KEY_ENG_REFUSED = reg s R.KEY_ENG_REFUSED ∧
      RegsBut [R.KEY_ENG e] s t ∧ OnlyRegs s t))

/-- FWD.COMMIT outside PAIR-STANDBY makes every FWD.TSET register act as written and shows OK; in PAIR-STANDBY it leaves
every acting value and register as it was but RESULT, which shows ROLE; and a register write of a FWD.TSET register does not
change what acts. The key of TSET63 is the model's choice, log entry 53. After: R190. -/
def Obligations.TunnelSetsTakeEffectTogether : Prop :=
  -- FWD_COMMIT
  (∀ (k : Nat) (s : State), Runs s → mode s ≠ mStandby → k ∈ fwdRegs →
    Answers (.fwdCommit) s (fun t =>
      actReg t k = reg s k ∧ getF t ⟨0x7D024, 1, 1⟩ = 0)) ∧
  -- FWD_COMMIT
  (∀ (k : Nat) (s : State), Runs s → mode s = mStandby →
    Answers (.fwdCommit) s (fun t =>
      actReg t k = actReg s k ∧ getF t ⟨0x7D024, 1, 1⟩ = 1 ∧ RegsBut [0x7D024] s t)) ∧
  -- REGISTER_WRITE
  (∀ (k : Nat) (v : Word) (p : Path) (addr : Addr) (s : State), Awake s → Unpaired s → mode s ≠ mStandby →
    s.stopped.contains 0x7D = false → addr.toNat ∈ fwdRegs →
    Answers (.registerWrite p addr v) s (fun t =>
      actReg t k = actReg s k))

/-- S1_ENTRY and S1_EXIT keep the mode; the entry into S2 or S3 leaves the mode COLD in the sleep state, and the completed
wake is in S0 with the mode COLD. Rule: R23. -/
def Obligations.DozeKeepsTheModeAndWakesArriveCold : Prop :=
  -- S1_ENTRY
  (∀ (s : State), Runs s → s.pwr.entry = 1 → queuesEmpty s = true → streamsEmpty s = true →
    bit s fChanging = false → bit s fDoze = false → mode s ≠ mService →
    Answers (.s1Entry) s (fun t =>
      bit t fDoze = true ∧ mode t = mode s)) ∧
  -- S1_EXIT
  (∀ (s : State), Runs s → bit s fDoze = true →
    Answers (.s1Exit) s (fun t =>
      bit t fDoze = false ∧ mode t = mode s)) ∧
  -- SLEEP_ENTRY_COMPLETE
  (∀ (edges : BitVec 9) (s : State), Runs s → s.pwr.entry = 3 → (s.pwr.target = 2 ∨ s.pwr.target = 3) →
    Answers (.sleepEntryComplete edges 0) s (fun t =>
      getF t fPstate = s.pwr.target ∧ mode t = mCold)) ∧
  -- WAKE_RESET_DONE
  (∀ (held_ : BitVec 8) (puf : Fin 4) (fuseBad : Bool) (s : State), Powered s → s.pwr.step = .wipe →
    bit s fWaking = true → s.pwr.resetLow = false → mode s = mCold →
    Answers (.wakeResetDone held_ puf fuseBad) s (fun t =>
      getF t fPstate = 0 ∧ mode t = mCold))

/-- For MGMT_READ, MGMT_WRITE and MGMT_WRITE_LIST: a request with another TAG than the last of its SRC_HID is run and leaves
its TAG and the reply stored; one whose TAG equals the stored TAG is not run, the stored reply is sent again, MGMT_DUPS
counts it, and the stored pair stays. Rule: R426. -/
def Obligations.RepeatedTagsAreNotExecutedAgain : Prop :=
  -- MGMT_READ
  (∀ (f : List Byte) (rest : List (List Byte)) (p : Path) (tag : Nat) (r : List Byte) (u : State) (s : State), Runs s →
    s.mgmtQ = f :: rest → byteAt f 2 = 1 → mode s ≠ mService → p = .mgmt (BitVec.ofNat 6 (byteAt f 1)) →
    tag = ofBE (sub f 8 2) → (smGet dReply s.mgmtLast (byteAt f 1 % 64)).map Prod.fst ≠ some tag →
    runFrame p f { s with mgmtQ := rest, out := [] } = (r, u) →
    Answers (.mgmtRead) s (fun t =>
      smGet dReply t.mgmtLast (byteAt f 1 % 64) = some (tag, r) ∧ reg t R.DEV_MGMT_DUPS = reg u R.DEV_MGMT_DUPS)) ∧
  -- MGMT_WRITE
  (∀ (f : List Byte) (rest : List (List Byte)) (p : Path) (tag : Nat) (r : List Byte) (u : State) (s : State), Runs s →
    s.mgmtQ = f :: rest → byteAt f 2 = 2 → mode s ≠ mService → p = .mgmt (BitVec.ofNat 6 (byteAt f 1)) →
    tag = ofBE (sub f 8 2) → (smGet dReply s.mgmtLast (byteAt f 1 % 64)).map Prod.fst ≠ some tag →
    runFrame p f { s with mgmtQ := rest, out := [] } = (r, u) →
    Answers (.mgmtWrite) s (fun t =>
      smGet dReply t.mgmtLast (byteAt f 1 % 64) = some (tag, r) ∧ reg t R.DEV_MGMT_DUPS = reg u R.DEV_MGMT_DUPS)) ∧
  -- MGMT_WRITE_LIST
  (∀ (f : List Byte) (rest : List (List Byte)) (p : Path) (tag : Nat) (r : List Byte) (u : State) (s : State), Runs s →
    s.mgmtQ = f :: rest → byteAt f 2 = 3 → mode s ≠ mService → p = .mgmt (BitVec.ofNat 6 (byteAt f 1)) →
    tag = ofBE (sub f 8 2) → (smGet dReply s.mgmtLast (byteAt f 1 % 64)).map Prod.fst ≠ some tag →
    runFrame p f { s with mgmtQ := rest, out := [] } = (r, u) →
    Answers (.mgmtWriteList) s (fun t =>
      smGet dReply t.mgmtLast (byteAt f 1 % 64) = some (tag, r) ∧ reg t R.DEV_MGMT_DUPS = reg u R.DEV_MGMT_DUPS)) ∧
  -- MGMT_READ
  (∀ (f : List Byte) (rest : List (List Byte)) (p : Path) (tag : Nat) (r : List Byte) (s : State), Runs s →
    s.mgmtQ = f :: rest → byteAt f 2 = 1 → mode s ≠ mService → p = .mgmt (BitVec.ofNat 6 (byteAt f 1)) →
    tag = ofBE (sub f 8 2) → smGet dReply s.mgmtLast (byteAt f 1 % 64) = some (tag, r) →
    Answers (.mgmtRead) s (fun t =>
      t = kept s (offerCtl r (bump R.DEV_MGMT_DUPS { s with mgmtQ := rest, out := [] })) ∧
      reg t R.DEV_MGMT_DUPS = reg s R.DEV_MGMT_DUPS + 1 ∧ smGet dReply t.mgmtLast (byteAt f 1 % 64) = some (tag, r))) ∧
  -- MGMT_WRITE
  (∀ (f : List Byte) (rest : List (List Byte)) (p : Path) (tag : Nat) (r : List Byte) (s : State), Runs s →
    s.mgmtQ = f :: rest → byteAt f 2 = 2 → mode s ≠ mService → p = .mgmt (BitVec.ofNat 6 (byteAt f 1)) →
    tag = ofBE (sub f 8 2) → smGet dReply s.mgmtLast (byteAt f 1 % 64) = some (tag, r) →
    Answers (.mgmtWrite) s (fun t =>
      t = kept s (offerCtl r (bump R.DEV_MGMT_DUPS { s with mgmtQ := rest, out := [] })) ∧
      reg t R.DEV_MGMT_DUPS = reg s R.DEV_MGMT_DUPS + 1 ∧ smGet dReply t.mgmtLast (byteAt f 1 % 64) = some (tag, r))) ∧
  -- MGMT_WRITE_LIST
  (∀ (f : List Byte) (rest : List (List Byte)) (p : Path) (tag : Nat) (r : List Byte) (s : State), Runs s →
    s.mgmtQ = f :: rest → byteAt f 2 = 3 → mode s ≠ mService → p = .mgmt (BitVec.ofNat 6 (byteAt f 1)) →
    tag = ofBE (sub f 8 2) → smGet dReply s.mgmtLast (byteAt f 1 % 64) = some (tag, r) →
    Answers (.mgmtWriteList) s (fun t =>
      t = kept s (offerCtl r (bump R.DEV_MGMT_DUPS { s with mgmtQ := rest, out := [] })) ∧
      reg t R.DEV_MGMT_DUPS = reg s R.DEV_MGMT_DUPS + 1 ∧ smGet dReply t.mgmtLast (byteAt f 1 % 64) = some (tag, r)))
end

