-- ==== Sys2Proof/Laws/Crypto.lean ====
section
/-!
SUPPORT. Lengths of hash values, and words cut from bytes and joined again.
-/
namespace Sys2Proof.Machine

theorem bytesBE_length (n x : Nat) : (bytesBE n x).length = n := by simp [bytesBE]

theorem shaRound_length (v : List (BitVec 32)) (k w : BitVec 32) (h : v.length = 8) : (shaRound v k w).length = 8 := by
  match v, h with
  | [_, _, _, _, _, _, _, _], _ => rfl

theorem shaBlock_length (v : List (BitVec 32)) (blk : List Byte) (h : v.length = 8) : (shaBlock v blk).length = 8 := by
  have key : ∀ (ks : List (BitVec 32)) (p : List (BitVec 32) × List (BitVec 32)), p.1.length = 8 →
      (ks.foldl (fun p k => (shaRound p.1 k (p.2.getD 0 0), shaSched p.2)) p).1.length = 8 := by
    intro ks
    induction ks with
    | nil => exact fun _ hp => hp
    | cons k ks ih => exact fun p hp => ih _ (shaRound_length _ _ _ hp)
  simp only [shaBlock, List.length_zipWith, h]
  rw [key shaK (v, _) h]
  rfl

/-- A SHA-256 value has 32 bytes. -/
theorem sha256_length (m : List Byte) : (sha256 m).length = 32 := by
  have key : ∀ (bs : List (List Byte)) (v : List (BitVec 32)), v.length = 8 → (bs.foldl shaBlock v).length = 8 := by
    intro bs
    induction bs with
    | nil => exact fun _ hv => hv
    | cons b bs ih => exact fun v hv => ih _ (shaBlock_length v b hv)
  have h8 : ∀ v : List (BitVec 32), v.length = 8 → (v.flatMap (fun w => bytesBE 4 w.toNat)).length = 32 := by
    intro v hv
    simp [List.length_flatMap, bytesBE_length, hv]
  exact h8 _ (key _ _ rfl)

/-- An HMAC has 32 bytes. -/
theorem hmac_length (key m : List Byte) : (hmac key m).length = 32 := sha256_length _

/-- Four bytes taken as a word and given back. -/
theorem bytesBE_ofBE (a b c d : Byte) : bytesBE 4 (BitVec.ofNat 32 (ofBE [a, b, c, d])).toNat = [a, b, c, d] := by
  have ha := a.isLt; have hb := b.isLt; have hc := c.isLt; have hd := d.isLt
  have h : (BitVec.ofNat 32 (ofBE [a, b, c, d])).toNat = ((a.toNat * 256 + b.toNat) * 256 + c.toNat) * 256 + d.toNat := by
    simp only [ofBE, List.foldl, BitVec.toNat_ofNat]; omega
  rw [h]
  simp only [bytesBE, show List.range 4 = [0, 1, 2, 3] from rfl, List.map]
  refine List.cons_eq_cons.2 ⟨?_, List.cons_eq_cons.2 ⟨?_, List.cons_eq_cons.2 ⟨?_, List.cons_eq_cons.2 ⟨?_, rfl⟩⟩⟩⟩ <;>
    (apply BitVec.eq_of_toNat_eq; simp only [BitVec.toNat_ofNat]; omega)

/-- Bytes cut into words, most significant byte first, and joined again. -/
theorem words_join (n : Nat) : ∀ m : List Byte, m.length = 4 * n →
    ((List.range n).map (fun i => bytesBE 4 (BitVec.ofNat 32 (ofBE (sub m (4 * i) 4))).toNat)).flatten = m := by
  induction n with
  | zero => intro m h; simp_all
  | succ n ih =>
    intro m h
    match m, h with
    | a :: b :: c :: d :: m, h =>
      rw [List.range_succ_eq_map, List.map_cons, List.flatten_cons, List.map_map]
      have e : ((fun i => bytesBE 4 (BitVec.ofNat 32 (ofBE (sub (a :: b :: c :: d :: m) (4 * i) 4))).toNat) ∘ Nat.succ)
          = fun i => bytesBE 4 (BitVec.ofNat 32 (ofBE (sub m (4 * i) 4))).toNat := by
        funext i
        simp only [Function.comp, sub, show 4 * Nat.succ i = 4 * i + 1 + 1 + 1 + 1 by omega, List.drop_succ_cons]
      rw [e, ih m (by simp at h; omega)]
      simp only [sub, Nat.mul_zero, List.drop_zero, List.take]
      rw [bytesBE_ofBE]
      rfl

end Sys2Proof.Machine
end

