-- ==== Sys2Proof/Laws/SMap.lean ====
section
/-!
SUPPORT. The laws of sparse maps: a read after a write, and the canonical form is kept. Both hold of every list, so
no reader of a state has to carry the canonical form along to use the first.
-/
namespace Sys2Proof.Machine

variable {α : Type} [DecidableEq α] {d : Nat → α}

@[simp] theorem smGet_nil (k : Nat) : smGet d [] k = d k := rfl

theorem smGet_filter_gt (m : SMap α) (k j : Nat) :
    smGet d (m.filter (fun e => k < e.1)) j = if j ≤ k then d j else smGet d m j := by
  induction m with
  | nil => simp [smGet]
  | cons e m ih =>
    obtain ⟨a, v⟩ := e
    by_cases hka : k < a
    · simp only [List.filter_cons, hka, decide_true, if_true, smGet, ih]
      split_ifs <;> first | rfl | omega
    · simp only [List.filter_cons, hka, decide_false, Bool.false_eq_true, if_false, ih, smGet]
      split_ifs <;> first | rfl | omega

/-- A read after a write: the written key reads the value, every other key reads as before. -/
theorem smGet_smSet (m : SMap α) (k : Nat) (v : α) (j : Nat) :
    smGet d (smSet d m k v) j = if j = k then v else smGet d m j := by
  induction m with
  | nil =>
    unfold smSet
    split_ifs with h1 h2 h2 <;> simp_all [smGet]
  | cons e m ih =>
    obtain ⟨a, w⟩ := e
    unfold smSet
    split_ifs with h1 h2 h3 h4 h5 h6 h7 <;>
      simp only [smGet, smGet_filter_gt, ih] <;> split_ifs <;> first | rfl | omega | simp_all | skip
    all_goals subst_vars; simp_all

@[simp] theorem smGet_smSet_same (m : SMap α) (k : Nat) (v : α) : smGet d (smSet d m k v) k = v := by
  simp [smGet_smSet]

theorem smGet_smSet_ne (m : SMap α) {k j : Nat} (v : α) (h : j ≠ k) :
    smGet d (smSet d m k v) j = smGet d m j := by
  simp [smGet_smSet, h]

theorem smSet_mem_key {m : SMap α} {k : Nat} {v : α} {e : Nat × α} (h : e ∈ smSet d m k v) :
    e.1 = k ∨ e ∈ m := by
  induction m with
  | nil => unfold smSet at h; split_ifs at h <;> simp_all
  | cons a m ih =>
    obtain ⟨j, w⟩ := a
    unfold smSet at h
    split_ifs at h <;> simp only [List.mem_cons, List.mem_filter] at h ⊢ <;> grind

theorem smSet_wf {m : SMap α} (h : smWf d m) (k : Nat) (v : α) : smWf d (smSet d m k v) := by
  induction m with
  | nil => unfold smSet; split_ifs <;> simp_all [smWf]
  | cons a m ih =>
    obtain ⟨j, w⟩ := a
    obtain ⟨hp, hn⟩ := h
    rw [List.pairwise_cons] at hp
    have hm : smWf d m := ⟨hp.2, fun e he => hn e (List.mem_cons_of_mem _ he)⟩
    have ih := ih hm
    unfold smSet
    split_ifs with h1 h2 h3 h4
    · exact ⟨List.pairwise_cons.2 hp, hn⟩
    · refine ⟨List.pairwise_cons.2 ⟨?_, List.pairwise_cons.2 hp⟩, ?_⟩
      · intro e he
        rcases List.mem_cons.1 he with rfl | he
        · exact h1
        · exact lt_trans h1 (hp.1 e he)
      · intro e he
        rcases List.mem_cons.1 he with rfl | he
        · exact h2
        · exact hn e he
    · refine ⟨hm.1.filter _, fun e he => hm.2 e (List.mem_filter.1 he).1⟩
    · subst h3
      refine ⟨List.pairwise_cons.2 ⟨fun e he => hp.1 e he, hp.2⟩, ?_⟩
      intro e he
      rcases List.mem_cons.1 he with rfl | he
      · exact h4
      · exact hm.2 e he
    · refine ⟨List.pairwise_cons.2 ⟨?_, ih.1⟩, ?_⟩
      · intro e he
        rcases smSet_mem_key he with hk | he
        · show j < e.1; omega
        · exact hp.1 e he
      · intro e he
        rcases List.mem_cons.1 he with rfl | he
        · exact hn _ (List.mem_cons_self)
        · exact ih.2 e he

theorem smSetAll_wf {m : SMap α} (h : smWf d m) (ks : List Nat) (f : Nat → α) : smWf d (smSetAll d m ks f) := by
  induction ks generalizing m with
  | nil => exact h
  | cons k ks ih => exact ih (smSet_wf h k (f k))

end Sys2Proof.Machine
end

