-- ==== Sys2Proof/Laws/State.lean ====
section
/-!
SUPPORT. One lemma per field for each update of the state, so that no proof unfolds a record update.
-/
namespace Sys2Proof.Machine

variable (s : State)

@[simp] theorem setReg_pending (k : Nat) (v : Word) : (setReg k v s).pending = s.pending := rfl
@[simp] theorem setReg_out (k : Nat) (v : Word) : (setReg k v s).out = s.out := rfl
@[simp] theorem setReg_ticks (k : Nat) (v : Word) : (setReg k v s).ticks = s.ticks := rfl
@[simp] theorem setReg_freeIdx (k : Nat) (v : Word) : (setReg k v s).freeIdx = s.freeIdx := rfl
theorem setReg_regs (k : Nat) (v : Word) : (setReg k v s).regs = smSet regReset s.regs k v := rfl
@[simp] theorem setReg_act (k : Nat) (v : Word) : (setReg k v s).act = s.act := rfl
@[simp] theorem setReg_loft (k : Nat) (v : Word) : (setReg k v s).loft = s.loft := rfl
@[simp] theorem setReg_tun (k : Nat) (v : Word) : (setReg k v s).tun = s.tun := rfl
@[simp] theorem setReg_inq (k : Nat) (v : Word) : (setReg k v s).inq = s.inq := rfl
@[simp] theorem setReg_fillq (k : Nat) (v : Word) : (setReg k v s).fillq = s.fillq := rfl
@[simp] theorem setReg_waiting (k : Nat) (v : Word) : (setReg k v s).waiting = s.waiting := rfl
@[simp] theorem setReg_bobbin (k : Nat) (v : Word) : (setReg k v s).bobbin = s.bobbin := rfl
@[simp] theorem setReg_link (k : Nat) (v : Word) : (setReg k v s).link = s.link := rfl
@[simp] theorem setReg_cdc (k : Nat) (v : Word) : (setReg k v s).cdc = s.cdc := rfl
@[simp] theorem setReg_flt (k : Nat) (v : Word) : (setReg k v s).flt = s.flt := rfl
@[simp] theorem setReg_pair (k : Nat) (v : Word) : (setReg k v s).pair = s.pair := rfl
@[simp] theorem setReg_sched (k : Nat) (v : Word) : (setReg k v s).sched = s.sched := rfl
@[simp] theorem setReg_gate (k : Nat) (v : Word) : (setReg k v s).gate = s.gate := rfl
@[simp] theorem setReg_mgmtQ (k : Nat) (v : Word) : (setReg k v s).mgmtQ = s.mgmtQ := rfl
@[simp] theorem setReg_limit (k : Nat) (v : Word) : (setReg k v s).limit = s.limit := rfl
@[simp] theorem setReg_plumb (k : Nat) (v : Word) : (setReg k v s).plumb = s.plumb := rfl
@[simp] theorem setReg_pcie (k : Nat) (v : Word) : (setReg k v s).pcie = s.pcie := rfl
@[simp] theorem setReg_brg (k : Nat) (v : Word) : (setReg k v s).brg = s.brg := rfl
@[simp] theorem setReg_usb (k : Nat) (v : Word) : (setReg k v s).usb = s.usb := rfl
@[simp] theorem setReg_sec (k : Nat) (v : Word) : (setReg k v s).sec = s.sec := rfl
@[simp] theorem setReg_fuse (k : Nat) (v : Word) : (setReg k v s).fuse = s.fuse := rfl
@[simp] theorem setReg_buf (k : Nat) (v : Word) : (setReg k v s).buf = s.buf := rfl
@[simp] theorem setReg_mac (k : Nat) (v : Word) : (setReg k v s).mac = s.mac := rfl
@[simp] theorem setReg_fwd (k : Nat) (v : Word) : (setReg k v s).fwd = s.fwd := rfl
@[simp] theorem setReg_time (k : Nat) (v : Word) : (setReg k v s).time = s.time := rfl
@[simp] theorem setReg_disp (k : Nat) (v : Word) : (setReg k v s).disp = s.disp := rfl
@[simp] theorem setReg_dram (k : Nat) (v : Word) : (setReg k v s).dram = s.dram := rfl
@[simp] theorem setReg_mem (k : Nat) (v : Word) : (setReg k v s).mem = s.mem := rfl
@[simp] theorem setReg_modes (k : Nat) (v : Word) : (setReg k v s).modes = s.modes := rfl
@[simp] theorem setReg_pwr (k : Nat) (v : Word) : (setReg k v s).pwr = s.pwr := rfl
@[simp] theorem setReg_spd (k : Nat) (v : Word) : (setReg k v s).spd = s.spd := rfl
@[simp] theorem setReg_tc (k : Nat) (v : Word) : (setReg k v s).tc = s.tc := rfl
@[simp] theorem setReg_pp (k : Nat) (v : Word) : (setReg k v s).pp = s.pp := rfl
@[simp] theorem setReg_latch (k : Nat) (v : Word) : (setReg k v s).latch = s.latch := rfl
@[simp] theorem setReg_mgmtLast (k : Nat) (v : Word) : (setReg k v s).mgmtLast = s.mgmtLast := rfl
@[simp] theorem setReg_mbTx (k : Nat) (v : Word) : (setReg k v s).mbTx = s.mbTx := rfl
@[simp] theorem setReg_mbRx (k : Nat) (v : Word) : (setReg k v s).mbRx = s.mbRx := rfl
@[simp] theorem setReg_spi (k : Nat) (v : Word) : (setReg k v s).spi = s.spi := rfl
@[simp] theorem setReg_sense (k : Nat) (v : Word) : (setReg k v s).sense = s.sense := rfl
@[simp] theorem setReg_stopped (k : Nat) (v : Word) : (setReg k v s).stopped = s.stopped := rfl
@[simp] theorem setReg_held (k : Nat) (v : Word) : (setReg k v s).held = s.held := rfl
@[simp] theorem setReg_fi (k : Nat) (v : Word) : (setReg k v s).fi = s.fi := rfl

@[simp] theorem setAct_pending (k : Nat) (v : Word) : (setAct k v s).pending = s.pending := rfl
@[simp] theorem setAct_out (k : Nat) (v : Word) : (setAct k v s).out = s.out := rfl
@[simp] theorem setAct_ticks (k : Nat) (v : Word) : (setAct k v s).ticks = s.ticks := rfl
@[simp] theorem setAct_freeIdx (k : Nat) (v : Word) : (setAct k v s).freeIdx = s.freeIdx := rfl
@[simp] theorem setAct_regs (k : Nat) (v : Word) : (setAct k v s).regs = s.regs := rfl
theorem setAct_act (k : Nat) (v : Word) : (setAct k v s).act = smSet regReset s.act k v := rfl
@[simp] theorem setAct_loft (k : Nat) (v : Word) : (setAct k v s).loft = s.loft := rfl
@[simp] theorem setAct_tun (k : Nat) (v : Word) : (setAct k v s).tun = s.tun := rfl
@[simp] theorem setAct_inq (k : Nat) (v : Word) : (setAct k v s).inq = s.inq := rfl
@[simp] theorem setAct_fillq (k : Nat) (v : Word) : (setAct k v s).fillq = s.fillq := rfl
@[simp] theorem setAct_waiting (k : Nat) (v : Word) : (setAct k v s).waiting = s.waiting := rfl
@[simp] theorem setAct_bobbin (k : Nat) (v : Word) : (setAct k v s).bobbin = s.bobbin := rfl
@[simp] theorem setAct_link (k : Nat) (v : Word) : (setAct k v s).link = s.link := rfl
@[simp] theorem setAct_cdc (k : Nat) (v : Word) : (setAct k v s).cdc = s.cdc := rfl
@[simp] theorem setAct_flt (k : Nat) (v : Word) : (setAct k v s).flt = s.flt := rfl
@[simp] theorem setAct_pair (k : Nat) (v : Word) : (setAct k v s).pair = s.pair := rfl
@[simp] theorem setAct_sched (k : Nat) (v : Word) : (setAct k v s).sched = s.sched := rfl
@[simp] theorem setAct_gate (k : Nat) (v : Word) : (setAct k v s).gate = s.gate := rfl
@[simp] theorem setAct_mgmtQ (k : Nat) (v : Word) : (setAct k v s).mgmtQ = s.mgmtQ := rfl
@[simp] theorem setAct_limit (k : Nat) (v : Word) : (setAct k v s).limit = s.limit := rfl
@[simp] theorem setAct_plumb (k : Nat) (v : Word) : (setAct k v s).plumb = s.plumb := rfl
@[simp] theorem setAct_pcie (k : Nat) (v : Word) : (setAct k v s).pcie = s.pcie := rfl
@[simp] theorem setAct_brg (k : Nat) (v : Word) : (setAct k v s).brg = s.brg := rfl
@[simp] theorem setAct_usb (k : Nat) (v : Word) : (setAct k v s).usb = s.usb := rfl
@[simp] theorem setAct_sec (k : Nat) (v : Word) : (setAct k v s).sec = s.sec := rfl
@[simp] theorem setAct_fuse (k : Nat) (v : Word) : (setAct k v s).fuse = s.fuse := rfl
@[simp] theorem setAct_buf (k : Nat) (v : Word) : (setAct k v s).buf = s.buf := rfl
@[simp] theorem setAct_mac (k : Nat) (v : Word) : (setAct k v s).mac = s.mac := rfl
@[simp] theorem setAct_fwd (k : Nat) (v : Word) : (setAct k v s).fwd = s.fwd := rfl
@[simp] theorem setAct_time (k : Nat) (v : Word) : (setAct k v s).time = s.time := rfl
@[simp] theorem setAct_disp (k : Nat) (v : Word) : (setAct k v s).disp = s.disp := rfl
@[simp] theorem setAct_dram (k : Nat) (v : Word) : (setAct k v s).dram = s.dram := rfl
@[simp] theorem setAct_mem (k : Nat) (v : Word) : (setAct k v s).mem = s.mem := rfl
@[simp] theorem setAct_modes (k : Nat) (v : Word) : (setAct k v s).modes = s.modes := rfl
@[simp] theorem setAct_pwr (k : Nat) (v : Word) : (setAct k v s).pwr = s.pwr := rfl
@[simp] theorem setAct_spd (k : Nat) (v : Word) : (setAct k v s).spd = s.spd := rfl
@[simp] theorem setAct_tc (k : Nat) (v : Word) : (setAct k v s).tc = s.tc := rfl
@[simp] theorem setAct_pp (k : Nat) (v : Word) : (setAct k v s).pp = s.pp := rfl
@[simp] theorem setAct_latch (k : Nat) (v : Word) : (setAct k v s).latch = s.latch := rfl
@[simp] theorem setAct_mgmtLast (k : Nat) (v : Word) : (setAct k v s).mgmtLast = s.mgmtLast := rfl
@[simp] theorem setAct_mbTx (k : Nat) (v : Word) : (setAct k v s).mbTx = s.mbTx := rfl
@[simp] theorem setAct_mbRx (k : Nat) (v : Word) : (setAct k v s).mbRx = s.mbRx := rfl
@[simp] theorem setAct_spi (k : Nat) (v : Word) : (setAct k v s).spi = s.spi := rfl
@[simp] theorem setAct_sense (k : Nat) (v : Word) : (setAct k v s).sense = s.sense := rfl
@[simp] theorem setAct_stopped (k : Nat) (v : Word) : (setAct k v s).stopped = s.stopped := rfl
@[simp] theorem setAct_held (k : Nat) (v : Word) : (setAct k v s).held = s.held := rfl
@[simp] theorem setAct_fi (k : Nat) (v : Word) : (setAct k v s).fi = s.fi := rfl

@[simp] theorem setF_pending (f : Fld) (v : Nat) : (setF f v s).pending = s.pending := rfl
@[simp] theorem setF_out (f : Fld) (v : Nat) : (setF f v s).out = s.out := rfl
@[simp] theorem setF_ticks (f : Fld) (v : Nat) : (setF f v s).ticks = s.ticks := rfl
@[simp] theorem setF_freeIdx (f : Fld) (v : Nat) : (setF f v s).freeIdx = s.freeIdx := rfl
@[simp] theorem setF_act (f : Fld) (v : Nat) : (setF f v s).act = s.act := rfl
@[simp] theorem setF_loft (f : Fld) (v : Nat) : (setF f v s).loft = s.loft := rfl
@[simp] theorem setF_tun (f : Fld) (v : Nat) : (setF f v s).tun = s.tun := rfl
@[simp] theorem setF_inq (f : Fld) (v : Nat) : (setF f v s).inq = s.inq := rfl
@[simp] theorem setF_fillq (f : Fld) (v : Nat) : (setF f v s).fillq = s.fillq := rfl
@[simp] theorem setF_waiting (f : Fld) (v : Nat) : (setF f v s).waiting = s.waiting := rfl
@[simp] theorem setF_bobbin (f : Fld) (v : Nat) : (setF f v s).bobbin = s.bobbin := rfl
@[simp] theorem setF_link (f : Fld) (v : Nat) : (setF f v s).link = s.link := rfl
@[simp] theorem setF_cdc (f : Fld) (v : Nat) : (setF f v s).cdc = s.cdc := rfl
@[simp] theorem setF_flt (f : Fld) (v : Nat) : (setF f v s).flt = s.flt := rfl
@[simp] theorem setF_pair (f : Fld) (v : Nat) : (setF f v s).pair = s.pair := rfl
@[simp] theorem setF_sched (f : Fld) (v : Nat) : (setF f v s).sched = s.sched := rfl
@[simp] theorem setF_gate (f : Fld) (v : Nat) : (setF f v s).gate = s.gate := rfl
@[simp] theorem setF_mgmtQ (f : Fld) (v : Nat) : (setF f v s).mgmtQ = s.mgmtQ := rfl
@[simp] theorem setF_limit (f : Fld) (v : Nat) : (setF f v s).limit = s.limit := rfl
@[simp] theorem setF_plumb (f : Fld) (v : Nat) : (setF f v s).plumb = s.plumb := rfl
@[simp] theorem setF_pcie (f : Fld) (v : Nat) : (setF f v s).pcie = s.pcie := rfl
@[simp] theorem setF_brg (f : Fld) (v : Nat) : (setF f v s).brg = s.brg := rfl
@[simp] theorem setF_usb (f : Fld) (v : Nat) : (setF f v s).usb = s.usb := rfl
@[simp] theorem setF_sec (f : Fld) (v : Nat) : (setF f v s).sec = s.sec := rfl
@[simp] theorem setF_fuse (f : Fld) (v : Nat) : (setF f v s).fuse = s.fuse := rfl
@[simp] theorem setF_buf (f : Fld) (v : Nat) : (setF f v s).buf = s.buf := rfl
@[simp] theorem setF_mac (f : Fld) (v : Nat) : (setF f v s).mac = s.mac := rfl
@[simp] theorem setF_fwd (f : Fld) (v : Nat) : (setF f v s).fwd = s.fwd := rfl
@[simp] theorem setF_time (f : Fld) (v : Nat) : (setF f v s).time = s.time := rfl
@[simp] theorem setF_disp (f : Fld) (v : Nat) : (setF f v s).disp = s.disp := rfl
@[simp] theorem setF_dram (f : Fld) (v : Nat) : (setF f v s).dram = s.dram := rfl
@[simp] theorem setF_mem (f : Fld) (v : Nat) : (setF f v s).mem = s.mem := rfl
@[simp] theorem setF_modes (f : Fld) (v : Nat) : (setF f v s).modes = s.modes := rfl
@[simp] theorem setF_pwr (f : Fld) (v : Nat) : (setF f v s).pwr = s.pwr := rfl
@[simp] theorem setF_spd (f : Fld) (v : Nat) : (setF f v s).spd = s.spd := rfl
@[simp] theorem setF_tc (f : Fld) (v : Nat) : (setF f v s).tc = s.tc := rfl
@[simp] theorem setF_pp (f : Fld) (v : Nat) : (setF f v s).pp = s.pp := rfl
@[simp] theorem setF_latch (f : Fld) (v : Nat) : (setF f v s).latch = s.latch := rfl
@[simp] theorem setF_mgmtLast (f : Fld) (v : Nat) : (setF f v s).mgmtLast = s.mgmtLast := rfl
@[simp] theorem setF_mbTx (f : Fld) (v : Nat) : (setF f v s).mbTx = s.mbTx := rfl
@[simp] theorem setF_mbRx (f : Fld) (v : Nat) : (setF f v s).mbRx = s.mbRx := rfl
@[simp] theorem setF_spi (f : Fld) (v : Nat) : (setF f v s).spi = s.spi := rfl
@[simp] theorem setF_sense (f : Fld) (v : Nat) : (setF f v s).sense = s.sense := rfl
@[simp] theorem setF_stopped (f : Fld) (v : Nat) : (setF f v s).stopped = s.stopped := rfl
@[simp] theorem setF_held (f : Fld) (v : Nat) : (setF f v s).held = s.held := rfl
@[simp] theorem setF_fi (f : Fld) (v : Nat) : (setF f v s).fi = s.fi := rfl

@[simp] theorem emit_pending (o : Output) : (emit o s).pending = s.pending := rfl
@[simp] theorem emit_out (o : Output) : (emit o s).out = s.out ++ [o] := rfl
@[simp] theorem emit_ticks (o : Output) : (emit o s).ticks = s.ticks := rfl
@[simp] theorem emit_freeIdx (o : Output) : (emit o s).freeIdx = s.freeIdx := rfl
@[simp] theorem emit_regs (o : Output) : (emit o s).regs = s.regs := rfl
@[simp] theorem emit_act (o : Output) : (emit o s).act = s.act := rfl
@[simp] theorem emit_loft (o : Output) : (emit o s).loft = s.loft := rfl
@[simp] theorem emit_tun (o : Output) : (emit o s).tun = s.tun := rfl
@[simp] theorem emit_inq (o : Output) : (emit o s).inq = s.inq := rfl
@[simp] theorem emit_fillq (o : Output) : (emit o s).fillq = s.fillq := rfl
@[simp] theorem emit_waiting (o : Output) : (emit o s).waiting = s.waiting := rfl
@[simp] theorem emit_bobbin (o : Output) : (emit o s).bobbin = s.bobbin := rfl
@[simp] theorem emit_link (o : Output) : (emit o s).link = s.link := rfl
@[simp] theorem emit_cdc (o : Output) : (emit o s).cdc = s.cdc := rfl
@[simp] theorem emit_flt (o : Output) : (emit o s).flt = s.flt := rfl
@[simp] theorem emit_pair (o : Output) : (emit o s).pair = s.pair := rfl
@[simp] theorem emit_sched (o : Output) : (emit o s).sched = s.sched := rfl
@[simp] theorem emit_gate (o : Output) : (emit o s).gate = s.gate := rfl
@[simp] theorem emit_mgmtQ (o : Output) : (emit o s).mgmtQ = s.mgmtQ := rfl
@[simp] theorem emit_limit (o : Output) : (emit o s).limit = s.limit := rfl
@[simp] theorem emit_plumb (o : Output) : (emit o s).plumb = s.plumb := rfl
@[simp] theorem emit_pcie (o : Output) : (emit o s).pcie = s.pcie := rfl
@[simp] theorem emit_brg (o : Output) : (emit o s).brg = s.brg := rfl
@[simp] theorem emit_usb (o : Output) : (emit o s).usb = s.usb := rfl
@[simp] theorem emit_sec (o : Output) : (emit o s).sec = s.sec := rfl
@[simp] theorem emit_fuse (o : Output) : (emit o s).fuse = s.fuse := rfl
@[simp] theorem emit_buf (o : Output) : (emit o s).buf = s.buf := rfl
@[simp] theorem emit_mac (o : Output) : (emit o s).mac = s.mac := rfl
@[simp] theorem emit_fwd (o : Output) : (emit o s).fwd = s.fwd := rfl
@[simp] theorem emit_time (o : Output) : (emit o s).time = s.time := rfl
@[simp] theorem emit_disp (o : Output) : (emit o s).disp = s.disp := rfl
@[simp] theorem emit_dram (o : Output) : (emit o s).dram = s.dram := rfl
@[simp] theorem emit_mem (o : Output) : (emit o s).mem = s.mem := rfl
@[simp] theorem emit_modes (o : Output) : (emit o s).modes = s.modes := rfl
@[simp] theorem emit_pwr (o : Output) : (emit o s).pwr = s.pwr := rfl
@[simp] theorem emit_spd (o : Output) : (emit o s).spd = s.spd := rfl
@[simp] theorem emit_tc (o : Output) : (emit o s).tc = s.tc := rfl
@[simp] theorem emit_pp (o : Output) : (emit o s).pp = s.pp := rfl
@[simp] theorem emit_latch (o : Output) : (emit o s).latch = s.latch := rfl
@[simp] theorem emit_mgmtLast (o : Output) : (emit o s).mgmtLast = s.mgmtLast := rfl
@[simp] theorem emit_mbTx (o : Output) : (emit o s).mbTx = s.mbTx := rfl
@[simp] theorem emit_mbRx (o : Output) : (emit o s).mbRx = s.mbRx := rfl
@[simp] theorem emit_spi (o : Output) : (emit o s).spi = s.spi := rfl
@[simp] theorem emit_sense (o : Output) : (emit o s).sense = s.sense := rfl
@[simp] theorem emit_stopped (o : Output) : (emit o s).stopped = s.stopped := rfl
@[simp] theorem emit_held (o : Output) : (emit o s).held = s.held := rfl
@[simp] theorem emit_fi (o : Output) : (emit o s).fi = s.fi := rfl

@[simp] theorem clearOut_pending : (clearOut s).pending = s.pending := rfl
@[simp] theorem clearOut_out : (clearOut s).out = [] := rfl
@[simp] theorem clearOut_ticks : (clearOut s).ticks = s.ticks := rfl
@[simp] theorem clearOut_freeIdx : (clearOut s).freeIdx = s.freeIdx := rfl
@[simp] theorem clearOut_regs : (clearOut s).regs = s.regs := rfl
@[simp] theorem clearOut_act : (clearOut s).act = s.act := rfl
@[simp] theorem clearOut_loft : (clearOut s).loft = s.loft := rfl
@[simp] theorem clearOut_tun : (clearOut s).tun = s.tun := rfl
@[simp] theorem clearOut_inq : (clearOut s).inq = s.inq := rfl
@[simp] theorem clearOut_fillq : (clearOut s).fillq = s.fillq := rfl
@[simp] theorem clearOut_waiting : (clearOut s).waiting = s.waiting := rfl
@[simp] theorem clearOut_bobbin : (clearOut s).bobbin = s.bobbin := rfl
@[simp] theorem clearOut_link : (clearOut s).link = s.link := rfl
@[simp] theorem clearOut_cdc : (clearOut s).cdc = s.cdc := rfl
@[simp] theorem clearOut_flt : (clearOut s).flt = s.flt := rfl
@[simp] theorem clearOut_pair : (clearOut s).pair = s.pair := rfl
@[simp] theorem clearOut_sched : (clearOut s).sched = s.sched := rfl
@[simp] theorem clearOut_gate : (clearOut s).gate = s.gate := rfl
@[simp] theorem clearOut_mgmtQ : (clearOut s).mgmtQ = s.mgmtQ := rfl
@[simp] theorem clearOut_limit : (clearOut s).limit = s.limit := rfl
@[simp] theorem clearOut_plumb : (clearOut s).plumb = s.plumb := rfl
@[simp] theorem clearOut_pcie : (clearOut s).pcie = s.pcie := rfl
@[simp] theorem clearOut_brg : (clearOut s).brg = s.brg := rfl
@[simp] theorem clearOut_usb : (clearOut s).usb = s.usb := rfl
@[simp] theorem clearOut_sec : (clearOut s).sec = s.sec := rfl
@[simp] theorem clearOut_fuse : (clearOut s).fuse = s.fuse := rfl
@[simp] theorem clearOut_buf : (clearOut s).buf = s.buf := rfl
@[simp] theorem clearOut_mac : (clearOut s).mac = s.mac := rfl
@[simp] theorem clearOut_fwd : (clearOut s).fwd = s.fwd := rfl
@[simp] theorem clearOut_time : (clearOut s).time = s.time := rfl
@[simp] theorem clearOut_disp : (clearOut s).disp = s.disp := rfl
@[simp] theorem clearOut_dram : (clearOut s).dram = s.dram := rfl
@[simp] theorem clearOut_mem : (clearOut s).mem = s.mem := rfl
@[simp] theorem clearOut_modes : (clearOut s).modes = s.modes := rfl
@[simp] theorem clearOut_pwr : (clearOut s).pwr = s.pwr := rfl
@[simp] theorem clearOut_spd : (clearOut s).spd = s.spd := rfl
@[simp] theorem clearOut_tc : (clearOut s).tc = s.tc := rfl
@[simp] theorem clearOut_pp : (clearOut s).pp = s.pp := rfl
@[simp] theorem clearOut_latch : (clearOut s).latch = s.latch := rfl
@[simp] theorem clearOut_mgmtLast : (clearOut s).mgmtLast = s.mgmtLast := rfl
@[simp] theorem clearOut_mbTx : (clearOut s).mbTx = s.mbTx := rfl
@[simp] theorem clearOut_mbRx : (clearOut s).mbRx = s.mbRx := rfl
@[simp] theorem clearOut_spi : (clearOut s).spi = s.spi := rfl
@[simp] theorem clearOut_sense : (clearOut s).sense = s.sense := rfl
@[simp] theorem clearOut_stopped : (clearOut s).stopped = s.stopped := rfl
@[simp] theorem clearOut_held : (clearOut s).held = s.held := rfl
@[simp] theorem clearOut_fi : (clearOut s).fi = s.fi := rfl

@[simp] theorem nextFree_pending : (nextFree s).pending = s.pending := rfl
@[simp] theorem nextFree_out : (nextFree s).out = s.out := rfl
@[simp] theorem nextFree_ticks : (nextFree s).ticks = s.ticks := rfl
@[simp] theorem nextFree_freeIdx : (nextFree s).freeIdx = s.freeIdx + 1 := rfl
@[simp] theorem nextFree_regs : (nextFree s).regs = s.regs := rfl
@[simp] theorem nextFree_act : (nextFree s).act = s.act := rfl
@[simp] theorem nextFree_loft : (nextFree s).loft = s.loft := rfl
@[simp] theorem nextFree_tun : (nextFree s).tun = s.tun := rfl
@[simp] theorem nextFree_inq : (nextFree s).inq = s.inq := rfl
@[simp] theorem nextFree_fillq : (nextFree s).fillq = s.fillq := rfl
@[simp] theorem nextFree_waiting : (nextFree s).waiting = s.waiting := rfl
@[simp] theorem nextFree_bobbin : (nextFree s).bobbin = s.bobbin := rfl
@[simp] theorem nextFree_link : (nextFree s).link = s.link := rfl
@[simp] theorem nextFree_cdc : (nextFree s).cdc = s.cdc := rfl
@[simp] theorem nextFree_flt : (nextFree s).flt = s.flt := rfl
@[simp] theorem nextFree_pair : (nextFree s).pair = s.pair := rfl
@[simp] theorem nextFree_sched : (nextFree s).sched = s.sched := rfl
@[simp] theorem nextFree_gate : (nextFree s).gate = s.gate := rfl
@[simp] theorem nextFree_mgmtQ : (nextFree s).mgmtQ = s.mgmtQ := rfl
@[simp] theorem nextFree_limit : (nextFree s).limit = s.limit := rfl
@[simp] theorem nextFree_plumb : (nextFree s).plumb = s.plumb := rfl
@[simp] theorem nextFree_pcie : (nextFree s).pcie = s.pcie := rfl
@[simp] theorem nextFree_brg : (nextFree s).brg = s.brg := rfl
@[simp] theorem nextFree_usb : (nextFree s).usb = s.usb := rfl
@[simp] theorem nextFree_sec : (nextFree s).sec = s.sec := rfl
@[simp] theorem nextFree_fuse : (nextFree s).fuse = s.fuse := rfl
@[simp] theorem nextFree_buf : (nextFree s).buf = s.buf := rfl
@[simp] theorem nextFree_mac : (nextFree s).mac = s.mac := rfl
@[simp] theorem nextFree_fwd : (nextFree s).fwd = s.fwd := rfl
@[simp] theorem nextFree_time : (nextFree s).time = s.time := rfl
@[simp] theorem nextFree_disp : (nextFree s).disp = s.disp := rfl
@[simp] theorem nextFree_dram : (nextFree s).dram = s.dram := rfl
@[simp] theorem nextFree_mem : (nextFree s).mem = s.mem := rfl
@[simp] theorem nextFree_modes : (nextFree s).modes = s.modes := rfl
@[simp] theorem nextFree_pwr : (nextFree s).pwr = s.pwr := rfl
@[simp] theorem nextFree_spd : (nextFree s).spd = s.spd := rfl
@[simp] theorem nextFree_tc : (nextFree s).tc = s.tc := rfl
@[simp] theorem nextFree_pp : (nextFree s).pp = s.pp := rfl
@[simp] theorem nextFree_latch : (nextFree s).latch = s.latch := rfl
@[simp] theorem nextFree_mgmtLast : (nextFree s).mgmtLast = s.mgmtLast := rfl
@[simp] theorem nextFree_mbTx : (nextFree s).mbTx = s.mbTx := rfl
@[simp] theorem nextFree_mbRx : (nextFree s).mbRx = s.mbRx := rfl
@[simp] theorem nextFree_spi : (nextFree s).spi = s.spi := rfl
@[simp] theorem nextFree_sense : (nextFree s).sense = s.sense := rfl
@[simp] theorem nextFree_stopped : (nextFree s).stopped = s.stopped := rfl
@[simp] theorem nextFree_held : (nextFree s).held = s.held := rfl
@[simp] theorem nextFree_fi : (nextFree s).fi = s.fi := rfl

@[simp] theorem qSet_pending (q : Nat) (v : Queue) : (qSet q v s).pending = s.pending := rfl
@[simp] theorem qSet_out (q : Nat) (v : Queue) : (qSet q v s).out = s.out := rfl
@[simp] theorem qSet_ticks (q : Nat) (v : Queue) : (qSet q v s).ticks = s.ticks := rfl
@[simp] theorem qSet_freeIdx (q : Nat) (v : Queue) : (qSet q v s).freeIdx = s.freeIdx := rfl
@[simp] theorem qSet_regs (q : Nat) (v : Queue) : (qSet q v s).regs = s.regs := rfl
@[simp] theorem qSet_act (q : Nat) (v : Queue) : (qSet q v s).act = s.act := rfl
theorem qSet_loft (q : Nat) (v : Queue) : (qSet q v s).loft = smSet dQueue s.loft q v := rfl
@[simp] theorem qSet_tun (q : Nat) (v : Queue) : (qSet q v s).tun = s.tun := rfl
@[simp] theorem qSet_inq (q : Nat) (v : Queue) : (qSet q v s).inq = s.inq := rfl
@[simp] theorem qSet_fillq (q : Nat) (v : Queue) : (qSet q v s).fillq = s.fillq := rfl
@[simp] theorem qSet_waiting (q : Nat) (v : Queue) : (qSet q v s).waiting = s.waiting := rfl
@[simp] theorem qSet_bobbin (q : Nat) (v : Queue) : (qSet q v s).bobbin = s.bobbin := rfl
@[simp] theorem qSet_link (q : Nat) (v : Queue) : (qSet q v s).link = s.link := rfl
@[simp] theorem qSet_cdc (q : Nat) (v : Queue) : (qSet q v s).cdc = s.cdc := rfl
@[simp] theorem qSet_flt (q : Nat) (v : Queue) : (qSet q v s).flt = s.flt := rfl
@[simp] theorem qSet_pair (q : Nat) (v : Queue) : (qSet q v s).pair = s.pair := rfl
@[simp] theorem qSet_sched (q : Nat) (v : Queue) : (qSet q v s).sched = s.sched := rfl
@[simp] theorem qSet_gate (q : Nat) (v : Queue) : (qSet q v s).gate = s.gate := rfl
@[simp] theorem qSet_mgmtQ (q : Nat) (v : Queue) : (qSet q v s).mgmtQ = s.mgmtQ := rfl
@[simp] theorem qSet_limit (q : Nat) (v : Queue) : (qSet q v s).limit = s.limit := rfl
@[simp] theorem qSet_plumb (q : Nat) (v : Queue) : (qSet q v s).plumb = s.plumb := rfl
@[simp] theorem qSet_pcie (q : Nat) (v : Queue) : (qSet q v s).pcie = s.pcie := rfl
@[simp] theorem qSet_brg (q : Nat) (v : Queue) : (qSet q v s).brg = s.brg := rfl
@[simp] theorem qSet_usb (q : Nat) (v : Queue) : (qSet q v s).usb = s.usb := rfl
@[simp] theorem qSet_sec (q : Nat) (v : Queue) : (qSet q v s).sec = s.sec := rfl
@[simp] theorem qSet_fuse (q : Nat) (v : Queue) : (qSet q v s).fuse = s.fuse := rfl
@[simp] theorem qSet_buf (q : Nat) (v : Queue) : (qSet q v s).buf = s.buf := rfl
@[simp] theorem qSet_mac (q : Nat) (v : Queue) : (qSet q v s).mac = s.mac := rfl
@[simp] theorem qSet_fwd (q : Nat) (v : Queue) : (qSet q v s).fwd = s.fwd := rfl
@[simp] theorem qSet_time (q : Nat) (v : Queue) : (qSet q v s).time = s.time := rfl
@[simp] theorem qSet_disp (q : Nat) (v : Queue) : (qSet q v s).disp = s.disp := rfl
@[simp] theorem qSet_dram (q : Nat) (v : Queue) : (qSet q v s).dram = s.dram := rfl
@[simp] theorem qSet_mem (q : Nat) (v : Queue) : (qSet q v s).mem = s.mem := rfl
@[simp] theorem qSet_modes (q : Nat) (v : Queue) : (qSet q v s).modes = s.modes := rfl
@[simp] theorem qSet_pwr (q : Nat) (v : Queue) : (qSet q v s).pwr = s.pwr := rfl
@[simp] theorem qSet_spd (q : Nat) (v : Queue) : (qSet q v s).spd = s.spd := rfl
@[simp] theorem qSet_tc (q : Nat) (v : Queue) : (qSet q v s).tc = s.tc := rfl
@[simp] theorem qSet_pp (q : Nat) (v : Queue) : (qSet q v s).pp = s.pp := rfl
@[simp] theorem qSet_latch (q : Nat) (v : Queue) : (qSet q v s).latch = s.latch := rfl
@[simp] theorem qSet_mgmtLast (q : Nat) (v : Queue) : (qSet q v s).mgmtLast = s.mgmtLast := rfl
@[simp] theorem qSet_mbTx (q : Nat) (v : Queue) : (qSet q v s).mbTx = s.mbTx := rfl
@[simp] theorem qSet_mbRx (q : Nat) (v : Queue) : (qSet q v s).mbRx = s.mbRx := rfl
@[simp] theorem qSet_spi (q : Nat) (v : Queue) : (qSet q v s).spi = s.spi := rfl
@[simp] theorem qSet_sense (q : Nat) (v : Queue) : (qSet q v s).sense = s.sense := rfl
@[simp] theorem qSet_stopped (q : Nat) (v : Queue) : (qSet q v s).stopped = s.stopped := rfl
@[simp] theorem qSet_held (q : Nat) (v : Queue) : (qSet q v s).held = s.held := rfl
@[simp] theorem qSet_fi (q : Nat) (v : Queue) : (qSet q v s).fi = s.fi := rfl

@[simp] theorem tSet_pending (i : Nat) (v : Tunnel) : (tSet i v s).pending = s.pending := rfl
@[simp] theorem tSet_out (i : Nat) (v : Tunnel) : (tSet i v s).out = s.out := rfl
@[simp] theorem tSet_ticks (i : Nat) (v : Tunnel) : (tSet i v s).ticks = s.ticks := rfl
@[simp] theorem tSet_freeIdx (i : Nat) (v : Tunnel) : (tSet i v s).freeIdx = s.freeIdx := rfl
@[simp] theorem tSet_regs (i : Nat) (v : Tunnel) : (tSet i v s).regs = s.regs := rfl
@[simp] theorem tSet_act (i : Nat) (v : Tunnel) : (tSet i v s).act = s.act := rfl
@[simp] theorem tSet_loft (i : Nat) (v : Tunnel) : (tSet i v s).loft = s.loft := rfl
theorem tSet_tun (i : Nat) (v : Tunnel) : (tSet i v s).tun = smSet dTun s.tun i v := rfl
@[simp] theorem tSet_inq (i : Nat) (v : Tunnel) : (tSet i v s).inq = s.inq := rfl
@[simp] theorem tSet_fillq (i : Nat) (v : Tunnel) : (tSet i v s).fillq = s.fillq := rfl
@[simp] theorem tSet_waiting (i : Nat) (v : Tunnel) : (tSet i v s).waiting = s.waiting := rfl
@[simp] theorem tSet_bobbin (i : Nat) (v : Tunnel) : (tSet i v s).bobbin = s.bobbin := rfl
@[simp] theorem tSet_link (i : Nat) (v : Tunnel) : (tSet i v s).link = s.link := rfl
@[simp] theorem tSet_cdc (i : Nat) (v : Tunnel) : (tSet i v s).cdc = s.cdc := rfl
@[simp] theorem tSet_flt (i : Nat) (v : Tunnel) : (tSet i v s).flt = s.flt := rfl
@[simp] theorem tSet_pair (i : Nat) (v : Tunnel) : (tSet i v s).pair = s.pair := rfl
@[simp] theorem tSet_sched (i : Nat) (v : Tunnel) : (tSet i v s).sched = s.sched := rfl
@[simp] theorem tSet_gate (i : Nat) (v : Tunnel) : (tSet i v s).gate = s.gate := rfl
@[simp] theorem tSet_mgmtQ (i : Nat) (v : Tunnel) : (tSet i v s).mgmtQ = s.mgmtQ := rfl
@[simp] theorem tSet_limit (i : Nat) (v : Tunnel) : (tSet i v s).limit = s.limit := rfl
@[simp] theorem tSet_plumb (i : Nat) (v : Tunnel) : (tSet i v s).plumb = s.plumb := rfl
@[simp] theorem tSet_pcie (i : Nat) (v : Tunnel) : (tSet i v s).pcie = s.pcie := rfl
@[simp] theorem tSet_brg (i : Nat) (v : Tunnel) : (tSet i v s).brg = s.brg := rfl
@[simp] theorem tSet_usb (i : Nat) (v : Tunnel) : (tSet i v s).usb = s.usb := rfl
@[simp] theorem tSet_sec (i : Nat) (v : Tunnel) : (tSet i v s).sec = s.sec := rfl
@[simp] theorem tSet_fuse (i : Nat) (v : Tunnel) : (tSet i v s).fuse = s.fuse := rfl
@[simp] theorem tSet_buf (i : Nat) (v : Tunnel) : (tSet i v s).buf = s.buf := rfl
@[simp] theorem tSet_mac (i : Nat) (v : Tunnel) : (tSet i v s).mac = s.mac := rfl
@[simp] theorem tSet_fwd (i : Nat) (v : Tunnel) : (tSet i v s).fwd = s.fwd := rfl
@[simp] theorem tSet_time (i : Nat) (v : Tunnel) : (tSet i v s).time = s.time := rfl
@[simp] theorem tSet_disp (i : Nat) (v : Tunnel) : (tSet i v s).disp = s.disp := rfl
@[simp] theorem tSet_dram (i : Nat) (v : Tunnel) : (tSet i v s).dram = s.dram := rfl
@[simp] theorem tSet_mem (i : Nat) (v : Tunnel) : (tSet i v s).mem = s.mem := rfl
@[simp] theorem tSet_modes (i : Nat) (v : Tunnel) : (tSet i v s).modes = s.modes := rfl
@[simp] theorem tSet_pwr (i : Nat) (v : Tunnel) : (tSet i v s).pwr = s.pwr := rfl
@[simp] theorem tSet_spd (i : Nat) (v : Tunnel) : (tSet i v s).spd = s.spd := rfl
@[simp] theorem tSet_tc (i : Nat) (v : Tunnel) : (tSet i v s).tc = s.tc := rfl
@[simp] theorem tSet_pp (i : Nat) (v : Tunnel) : (tSet i v s).pp = s.pp := rfl
@[simp] theorem tSet_latch (i : Nat) (v : Tunnel) : (tSet i v s).latch = s.latch := rfl
@[simp] theorem tSet_mgmtLast (i : Nat) (v : Tunnel) : (tSet i v s).mgmtLast = s.mgmtLast := rfl
@[simp] theorem tSet_mbTx (i : Nat) (v : Tunnel) : (tSet i v s).mbTx = s.mbTx := rfl
@[simp] theorem tSet_mbRx (i : Nat) (v : Tunnel) : (tSet i v s).mbRx = s.mbRx := rfl
@[simp] theorem tSet_spi (i : Nat) (v : Tunnel) : (tSet i v s).spi = s.spi := rfl
@[simp] theorem tSet_sense (i : Nat) (v : Tunnel) : (tSet i v s).sense = s.sense := rfl
@[simp] theorem tSet_stopped (i : Nat) (v : Tunnel) : (tSet i v s).stopped = s.stopped := rfl
@[simp] theorem tSet_held (i : Nat) (v : Tunnel) : (tSet i v s).held = s.held := rfl
@[simp] theorem tSet_fi (i : Nat) (v : Tunnel) : (tSet i v s).fi = s.fi := rfl

@[simp] theorem lSet_pending (n : Nat) (v : Link) : (lSet n v s).pending = s.pending := rfl
@[simp] theorem lSet_out (n : Nat) (v : Link) : (lSet n v s).out = s.out := rfl
@[simp] theorem lSet_ticks (n : Nat) (v : Link) : (lSet n v s).ticks = s.ticks := rfl
@[simp] theorem lSet_freeIdx (n : Nat) (v : Link) : (lSet n v s).freeIdx = s.freeIdx := rfl
@[simp] theorem lSet_regs (n : Nat) (v : Link) : (lSet n v s).regs = s.regs := rfl
@[simp] theorem lSet_act (n : Nat) (v : Link) : (lSet n v s).act = s.act := rfl
@[simp] theorem lSet_loft (n : Nat) (v : Link) : (lSet n v s).loft = s.loft := rfl
@[simp] theorem lSet_tun (n : Nat) (v : Link) : (lSet n v s).tun = s.tun := rfl
@[simp] theorem lSet_inq (n : Nat) (v : Link) : (lSet n v s).inq = s.inq := rfl
@[simp] theorem lSet_fillq (n : Nat) (v : Link) : (lSet n v s).fillq = s.fillq := rfl
@[simp] theorem lSet_waiting (n : Nat) (v : Link) : (lSet n v s).waiting = s.waiting := rfl
@[simp] theorem lSet_bobbin (n : Nat) (v : Link) : (lSet n v s).bobbin = s.bobbin := rfl
theorem lSet_link (n : Nat) (v : Link) : (lSet n v s).link = smSet dLink s.link n v := rfl
@[simp] theorem lSet_cdc (n : Nat) (v : Link) : (lSet n v s).cdc = s.cdc := rfl
@[simp] theorem lSet_flt (n : Nat) (v : Link) : (lSet n v s).flt = s.flt := rfl
@[simp] theorem lSet_pair (n : Nat) (v : Link) : (lSet n v s).pair = s.pair := rfl
@[simp] theorem lSet_sched (n : Nat) (v : Link) : (lSet n v s).sched = s.sched := rfl
@[simp] theorem lSet_gate (n : Nat) (v : Link) : (lSet n v s).gate = s.gate := rfl
@[simp] theorem lSet_mgmtQ (n : Nat) (v : Link) : (lSet n v s).mgmtQ = s.mgmtQ := rfl
@[simp] theorem lSet_limit (n : Nat) (v : Link) : (lSet n v s).limit = s.limit := rfl
@[simp] theorem lSet_plumb (n : Nat) (v : Link) : (lSet n v s).plumb = s.plumb := rfl
@[simp] theorem lSet_pcie (n : Nat) (v : Link) : (lSet n v s).pcie = s.pcie := rfl
@[simp] theorem lSet_brg (n : Nat) (v : Link) : (lSet n v s).brg = s.brg := rfl
@[simp] theorem lSet_usb (n : Nat) (v : Link) : (lSet n v s).usb = s.usb := rfl
@[simp] theorem lSet_sec (n : Nat) (v : Link) : (lSet n v s).sec = s.sec := rfl
@[simp] theorem lSet_fuse (n : Nat) (v : Link) : (lSet n v s).fuse = s.fuse := rfl
@[simp] theorem lSet_buf (n : Nat) (v : Link) : (lSet n v s).buf = s.buf := rfl
@[simp] theorem lSet_mac (n : Nat) (v : Link) : (lSet n v s).mac = s.mac := rfl
@[simp] theorem lSet_fwd (n : Nat) (v : Link) : (lSet n v s).fwd = s.fwd := rfl
@[simp] theorem lSet_time (n : Nat) (v : Link) : (lSet n v s).time = s.time := rfl
@[simp] theorem lSet_disp (n : Nat) (v : Link) : (lSet n v s).disp = s.disp := rfl
@[simp] theorem lSet_dram (n : Nat) (v : Link) : (lSet n v s).dram = s.dram := rfl
@[simp] theorem lSet_mem (n : Nat) (v : Link) : (lSet n v s).mem = s.mem := rfl
@[simp] theorem lSet_modes (n : Nat) (v : Link) : (lSet n v s).modes = s.modes := rfl
@[simp] theorem lSet_pwr (n : Nat) (v : Link) : (lSet n v s).pwr = s.pwr := rfl
@[simp] theorem lSet_spd (n : Nat) (v : Link) : (lSet n v s).spd = s.spd := rfl
@[simp] theorem lSet_tc (n : Nat) (v : Link) : (lSet n v s).tc = s.tc := rfl
@[simp] theorem lSet_pp (n : Nat) (v : Link) : (lSet n v s).pp = s.pp := rfl
@[simp] theorem lSet_latch (n : Nat) (v : Link) : (lSet n v s).latch = s.latch := rfl
@[simp] theorem lSet_mgmtLast (n : Nat) (v : Link) : (lSet n v s).mgmtLast = s.mgmtLast := rfl
@[simp] theorem lSet_mbTx (n : Nat) (v : Link) : (lSet n v s).mbTx = s.mbTx := rfl
@[simp] theorem lSet_mbRx (n : Nat) (v : Link) : (lSet n v s).mbRx = s.mbRx := rfl
@[simp] theorem lSet_spi (n : Nat) (v : Link) : (lSet n v s).spi = s.spi := rfl
@[simp] theorem lSet_sense (n : Nat) (v : Link) : (lSet n v s).sense = s.sense := rfl
@[simp] theorem lSet_stopped (n : Nat) (v : Link) : (lSet n v s).stopped = s.stopped := rfl
@[simp] theorem lSet_held (n : Nat) (v : Link) : (lSet n v s).held = s.held := rfl
@[simp] theorem lSet_fi (n : Nat) (v : Link) : (lSet n v s).fi = s.fi := rfl

@[simp] theorem xSet_pending (x : Nat) (v : Crossing) : (xSet x v s).pending = s.pending := rfl
@[simp] theorem xSet_out (x : Nat) (v : Crossing) : (xSet x v s).out = s.out := rfl
@[simp] theorem xSet_ticks (x : Nat) (v : Crossing) : (xSet x v s).ticks = s.ticks := rfl
@[simp] theorem xSet_freeIdx (x : Nat) (v : Crossing) : (xSet x v s).freeIdx = s.freeIdx := rfl
@[simp] theorem xSet_regs (x : Nat) (v : Crossing) : (xSet x v s).regs = s.regs := rfl
@[simp] theorem xSet_act (x : Nat) (v : Crossing) : (xSet x v s).act = s.act := rfl
@[simp] theorem xSet_loft (x : Nat) (v : Crossing) : (xSet x v s).loft = s.loft := rfl
@[simp] theorem xSet_tun (x : Nat) (v : Crossing) : (xSet x v s).tun = s.tun := rfl
@[simp] theorem xSet_inq (x : Nat) (v : Crossing) : (xSet x v s).inq = s.inq := rfl
@[simp] theorem xSet_fillq (x : Nat) (v : Crossing) : (xSet x v s).fillq = s.fillq := rfl
@[simp] theorem xSet_waiting (x : Nat) (v : Crossing) : (xSet x v s).waiting = s.waiting := rfl
@[simp] theorem xSet_bobbin (x : Nat) (v : Crossing) : (xSet x v s).bobbin = s.bobbin := rfl
@[simp] theorem xSet_link (x : Nat) (v : Crossing) : (xSet x v s).link = s.link := rfl
theorem xSet_cdc (x : Nat) (v : Crossing) : (xSet x v s).cdc = smSet dCross s.cdc x v := rfl
@[simp] theorem xSet_flt (x : Nat) (v : Crossing) : (xSet x v s).flt = s.flt := rfl
@[simp] theorem xSet_pair (x : Nat) (v : Crossing) : (xSet x v s).pair = s.pair := rfl
@[simp] theorem xSet_sched (x : Nat) (v : Crossing) : (xSet x v s).sched = s.sched := rfl
@[simp] theorem xSet_gate (x : Nat) (v : Crossing) : (xSet x v s).gate = s.gate := rfl
@[simp] theorem xSet_mgmtQ (x : Nat) (v : Crossing) : (xSet x v s).mgmtQ = s.mgmtQ := rfl
@[simp] theorem xSet_limit (x : Nat) (v : Crossing) : (xSet x v s).limit = s.limit := rfl
@[simp] theorem xSet_plumb (x : Nat) (v : Crossing) : (xSet x v s).plumb = s.plumb := rfl
@[simp] theorem xSet_pcie (x : Nat) (v : Crossing) : (xSet x v s).pcie = s.pcie := rfl
@[simp] theorem xSet_brg (x : Nat) (v : Crossing) : (xSet x v s).brg = s.brg := rfl
@[simp] theorem xSet_usb (x : Nat) (v : Crossing) : (xSet x v s).usb = s.usb := rfl
@[simp] theorem xSet_sec (x : Nat) (v : Crossing) : (xSet x v s).sec = s.sec := rfl
@[simp] theorem xSet_fuse (x : Nat) (v : Crossing) : (xSet x v s).fuse = s.fuse := rfl
@[simp] theorem xSet_buf (x : Nat) (v : Crossing) : (xSet x v s).buf = s.buf := rfl
@[simp] theorem xSet_mac (x : Nat) (v : Crossing) : (xSet x v s).mac = s.mac := rfl
@[simp] theorem xSet_fwd (x : Nat) (v : Crossing) : (xSet x v s).fwd = s.fwd := rfl
@[simp] theorem xSet_time (x : Nat) (v : Crossing) : (xSet x v s).time = s.time := rfl
@[simp] theorem xSet_disp (x : Nat) (v : Crossing) : (xSet x v s).disp = s.disp := rfl
@[simp] theorem xSet_dram (x : Nat) (v : Crossing) : (xSet x v s).dram = s.dram := rfl
@[simp] theorem xSet_mem (x : Nat) (v : Crossing) : (xSet x v s).mem = s.mem := rfl
@[simp] theorem xSet_modes (x : Nat) (v : Crossing) : (xSet x v s).modes = s.modes := rfl
@[simp] theorem xSet_pwr (x : Nat) (v : Crossing) : (xSet x v s).pwr = s.pwr := rfl
@[simp] theorem xSet_spd (x : Nat) (v : Crossing) : (xSet x v s).spd = s.spd := rfl
@[simp] theorem xSet_tc (x : Nat) (v : Crossing) : (xSet x v s).tc = s.tc := rfl
@[simp] theorem xSet_pp (x : Nat) (v : Crossing) : (xSet x v s).pp = s.pp := rfl
@[simp] theorem xSet_latch (x : Nat) (v : Crossing) : (xSet x v s).latch = s.latch := rfl
@[simp] theorem xSet_mgmtLast (x : Nat) (v : Crossing) : (xSet x v s).mgmtLast = s.mgmtLast := rfl
@[simp] theorem xSet_mbTx (x : Nat) (v : Crossing) : (xSet x v s).mbTx = s.mbTx := rfl
@[simp] theorem xSet_mbRx (x : Nat) (v : Crossing) : (xSet x v s).mbRx = s.mbRx := rfl
@[simp] theorem xSet_spi (x : Nat) (v : Crossing) : (xSet x v s).spi = s.spi := rfl
@[simp] theorem xSet_sense (x : Nat) (v : Crossing) : (xSet x v s).sense = s.sense := rfl
@[simp] theorem xSet_stopped (x : Nat) (v : Crossing) : (xSet x v s).stopped = s.stopped := rfl
@[simp] theorem xSet_held (x : Nat) (v : Crossing) : (xSet x v s).held = s.held := rfl
@[simp] theorem xSet_fi (x : Nat) (v : Crossing) : (xSet x v s).fi = s.fi := rfl

@[simp] theorem bqSet_pending (b : Nat) (v : Bobbin) : (bqSet b v s).pending = s.pending := rfl
@[simp] theorem bqSet_out (b : Nat) (v : Bobbin) : (bqSet b v s).out = s.out := rfl
@[simp] theorem bqSet_ticks (b : Nat) (v : Bobbin) : (bqSet b v s).ticks = s.ticks := rfl
@[simp] theorem bqSet_freeIdx (b : Nat) (v : Bobbin) : (bqSet b v s).freeIdx = s.freeIdx := rfl
@[simp] theorem bqSet_regs (b : Nat) (v : Bobbin) : (bqSet b v s).regs = s.regs := rfl
@[simp] theorem bqSet_act (b : Nat) (v : Bobbin) : (bqSet b v s).act = s.act := rfl
@[simp] theorem bqSet_loft (b : Nat) (v : Bobbin) : (bqSet b v s).loft = s.loft := rfl
@[simp] theorem bqSet_tun (b : Nat) (v : Bobbin) : (bqSet b v s).tun = s.tun := rfl
@[simp] theorem bqSet_inq (b : Nat) (v : Bobbin) : (bqSet b v s).inq = s.inq := rfl
@[simp] theorem bqSet_fillq (b : Nat) (v : Bobbin) : (bqSet b v s).fillq = s.fillq := rfl
@[simp] theorem bqSet_waiting (b : Nat) (v : Bobbin) : (bqSet b v s).waiting = s.waiting := rfl
theorem bqSet_bobbin (b : Nat) (v : Bobbin) : (bqSet b v s).bobbin = smSet dBobbin s.bobbin b v := rfl
@[simp] theorem bqSet_link (b : Nat) (v : Bobbin) : (bqSet b v s).link = s.link := rfl
@[simp] theorem bqSet_cdc (b : Nat) (v : Bobbin) : (bqSet b v s).cdc = s.cdc := rfl
@[simp] theorem bqSet_flt (b : Nat) (v : Bobbin) : (bqSet b v s).flt = s.flt := rfl
@[simp] theorem bqSet_pair (b : Nat) (v : Bobbin) : (bqSet b v s).pair = s.pair := rfl
@[simp] theorem bqSet_sched (b : Nat) (v : Bobbin) : (bqSet b v s).sched = s.sched := rfl
@[simp] theorem bqSet_gate (b : Nat) (v : Bobbin) : (bqSet b v s).gate = s.gate := rfl
@[simp] theorem bqSet_mgmtQ (b : Nat) (v : Bobbin) : (bqSet b v s).mgmtQ = s.mgmtQ := rfl
@[simp] theorem bqSet_limit (b : Nat) (v : Bobbin) : (bqSet b v s).limit = s.limit := rfl
@[simp] theorem bqSet_plumb (b : Nat) (v : Bobbin) : (bqSet b v s).plumb = s.plumb := rfl
@[simp] theorem bqSet_pcie (b : Nat) (v : Bobbin) : (bqSet b v s).pcie = s.pcie := rfl
@[simp] theorem bqSet_brg (b : Nat) (v : Bobbin) : (bqSet b v s).brg = s.brg := rfl
@[simp] theorem bqSet_usb (b : Nat) (v : Bobbin) : (bqSet b v s).usb = s.usb := rfl
@[simp] theorem bqSet_sec (b : Nat) (v : Bobbin) : (bqSet b v s).sec = s.sec := rfl
@[simp] theorem bqSet_fuse (b : Nat) (v : Bobbin) : (bqSet b v s).fuse = s.fuse := rfl
@[simp] theorem bqSet_buf (b : Nat) (v : Bobbin) : (bqSet b v s).buf = s.buf := rfl
@[simp] theorem bqSet_mac (b : Nat) (v : Bobbin) : (bqSet b v s).mac = s.mac := rfl
@[simp] theorem bqSet_fwd (b : Nat) (v : Bobbin) : (bqSet b v s).fwd = s.fwd := rfl
@[simp] theorem bqSet_time (b : Nat) (v : Bobbin) : (bqSet b v s).time = s.time := rfl
@[simp] theorem bqSet_disp (b : Nat) (v : Bobbin) : (bqSet b v s).disp = s.disp := rfl
@[simp] theorem bqSet_dram (b : Nat) (v : Bobbin) : (bqSet b v s).dram = s.dram := rfl
@[simp] theorem bqSet_mem (b : Nat) (v : Bobbin) : (bqSet b v s).mem = s.mem := rfl
@[simp] theorem bqSet_modes (b : Nat) (v : Bobbin) : (bqSet b v s).modes = s.modes := rfl
@[simp] theorem bqSet_pwr (b : Nat) (v : Bobbin) : (bqSet b v s).pwr = s.pwr := rfl
@[simp] theorem bqSet_spd (b : Nat) (v : Bobbin) : (bqSet b v s).spd = s.spd := rfl
@[simp] theorem bqSet_tc (b : Nat) (v : Bobbin) : (bqSet b v s).tc = s.tc := rfl
@[simp] theorem bqSet_pp (b : Nat) (v : Bobbin) : (bqSet b v s).pp = s.pp := rfl
@[simp] theorem bqSet_latch (b : Nat) (v : Bobbin) : (bqSet b v s).latch = s.latch := rfl
@[simp] theorem bqSet_mgmtLast (b : Nat) (v : Bobbin) : (bqSet b v s).mgmtLast = s.mgmtLast := rfl
@[simp] theorem bqSet_mbTx (b : Nat) (v : Bobbin) : (bqSet b v s).mbTx = s.mbTx := rfl
@[simp] theorem bqSet_mbRx (b : Nat) (v : Bobbin) : (bqSet b v s).mbRx = s.mbRx := rfl
@[simp] theorem bqSet_spi (b : Nat) (v : Bobbin) : (bqSet b v s).spi = s.spi := rfl
@[simp] theorem bqSet_sense (b : Nat) (v : Bobbin) : (bqSet b v s).sense = s.sense := rfl
@[simp] theorem bqSet_stopped (b : Nat) (v : Bobbin) : (bqSet b v s).stopped = s.stopped := rfl
@[simp] theorem bqSet_held (b : Nat) (v : Bobbin) : (bqSet b v s).held = s.held := rfl
@[simp] theorem bqSet_fi (b : Nat) (v : Bobbin) : (bqSet b v s).fi = s.fi := rfl

@[simp] theorem inqSet_pending (m : Nat) (v : List InFrame) : (inqSet m v s).pending = s.pending := rfl
@[simp] theorem inqSet_out (m : Nat) (v : List InFrame) : (inqSet m v s).out = s.out := rfl
@[simp] theorem inqSet_ticks (m : Nat) (v : List InFrame) : (inqSet m v s).ticks = s.ticks := rfl
@[simp] theorem inqSet_freeIdx (m : Nat) (v : List InFrame) : (inqSet m v s).freeIdx = s.freeIdx := rfl
@[simp] theorem inqSet_regs (m : Nat) (v : List InFrame) : (inqSet m v s).regs = s.regs := rfl
@[simp] theorem inqSet_act (m : Nat) (v : List InFrame) : (inqSet m v s).act = s.act := rfl
@[simp] theorem inqSet_loft (m : Nat) (v : List InFrame) : (inqSet m v s).loft = s.loft := rfl
@[simp] theorem inqSet_tun (m : Nat) (v : List InFrame) : (inqSet m v s).tun = s.tun := rfl
theorem inqSet_inq (m : Nat) (v : List InFrame) : (inqSet m v s).inq = smSet (fun _ => []) s.inq m v := rfl
@[simp] theorem inqSet_fillq (m : Nat) (v : List InFrame) : (inqSet m v s).fillq = s.fillq := rfl
@[simp] theorem inqSet_waiting (m : Nat) (v : List InFrame) : (inqSet m v s).waiting = s.waiting := rfl
@[simp] theorem inqSet_bobbin (m : Nat) (v : List InFrame) : (inqSet m v s).bobbin = s.bobbin := rfl
@[simp] theorem inqSet_link (m : Nat) (v : List InFrame) : (inqSet m v s).link = s.link := rfl
@[simp] theorem inqSet_cdc (m : Nat) (v : List InFrame) : (inqSet m v s).cdc = s.cdc := rfl
@[simp] theorem inqSet_flt (m : Nat) (v : List InFrame) : (inqSet m v s).flt = s.flt := rfl
@[simp] theorem inqSet_pair (m : Nat) (v : List InFrame) : (inqSet m v s).pair = s.pair := rfl
@[simp] theorem inqSet_sched (m : Nat) (v : List InFrame) : (inqSet m v s).sched = s.sched := rfl
@[simp] theorem inqSet_gate (m : Nat) (v : List InFrame) : (inqSet m v s).gate = s.gate := rfl
@[simp] theorem inqSet_mgmtQ (m : Nat) (v : List InFrame) : (inqSet m v s).mgmtQ = s.mgmtQ := rfl
@[simp] theorem inqSet_limit (m : Nat) (v : List InFrame) : (inqSet m v s).limit = s.limit := rfl
@[simp] theorem inqSet_plumb (m : Nat) (v : List InFrame) : (inqSet m v s).plumb = s.plumb := rfl
@[simp] theorem inqSet_pcie (m : Nat) (v : List InFrame) : (inqSet m v s).pcie = s.pcie := rfl
@[simp] theorem inqSet_brg (m : Nat) (v : List InFrame) : (inqSet m v s).brg = s.brg := rfl
@[simp] theorem inqSet_usb (m : Nat) (v : List InFrame) : (inqSet m v s).usb = s.usb := rfl
@[simp] theorem inqSet_sec (m : Nat) (v : List InFrame) : (inqSet m v s).sec = s.sec := rfl
@[simp] theorem inqSet_fuse (m : Nat) (v : List InFrame) : (inqSet m v s).fuse = s.fuse := rfl
@[simp] theorem inqSet_buf (m : Nat) (v : List InFrame) : (inqSet m v s).buf = s.buf := rfl
@[simp] theorem inqSet_mac (m : Nat) (v : List InFrame) : (inqSet m v s).mac = s.mac := rfl
@[simp] theorem inqSet_fwd (m : Nat) (v : List InFrame) : (inqSet m v s).fwd = s.fwd := rfl
@[simp] theorem inqSet_time (m : Nat) (v : List InFrame) : (inqSet m v s).time = s.time := rfl
@[simp] theorem inqSet_disp (m : Nat) (v : List InFrame) : (inqSet m v s).disp = s.disp := rfl
@[simp] theorem inqSet_dram (m : Nat) (v : List InFrame) : (inqSet m v s).dram = s.dram := rfl
@[simp] theorem inqSet_mem (m : Nat) (v : List InFrame) : (inqSet m v s).mem = s.mem := rfl
@[simp] theorem inqSet_modes (m : Nat) (v : List InFrame) : (inqSet m v s).modes = s.modes := rfl
@[simp] theorem inqSet_pwr (m : Nat) (v : List InFrame) : (inqSet m v s).pwr = s.pwr := rfl
@[simp] theorem inqSet_spd (m : Nat) (v : List InFrame) : (inqSet m v s).spd = s.spd := rfl
@[simp] theorem inqSet_tc (m : Nat) (v : List InFrame) : (inqSet m v s).tc = s.tc := rfl
@[simp] theorem inqSet_pp (m : Nat) (v : List InFrame) : (inqSet m v s).pp = s.pp := rfl
@[simp] theorem inqSet_latch (m : Nat) (v : List InFrame) : (inqSet m v s).latch = s.latch := rfl
@[simp] theorem inqSet_mgmtLast (m : Nat) (v : List InFrame) : (inqSet m v s).mgmtLast = s.mgmtLast := rfl
@[simp] theorem inqSet_mbTx (m : Nat) (v : List InFrame) : (inqSet m v s).mbTx = s.mbTx := rfl
@[simp] theorem inqSet_mbRx (m : Nat) (v : List InFrame) : (inqSet m v s).mbRx = s.mbRx := rfl
@[simp] theorem inqSet_spi (m : Nat) (v : List InFrame) : (inqSet m v s).spi = s.spi := rfl
@[simp] theorem inqSet_sense (m : Nat) (v : List InFrame) : (inqSet m v s).sense = s.sense := rfl
@[simp] theorem inqSet_stopped (m : Nat) (v : List InFrame) : (inqSet m v s).stopped = s.stopped := rfl
@[simp] theorem inqSet_held (m : Nat) (v : List InFrame) : (inqSet m v s).held = s.held := rfl
@[simp] theorem inqSet_fi (m : Nat) (v : List InFrame) : (inqSet m v s).fi = s.fi := rfl

@[simp] theorem kept_pending (t : State) : (kept s t).pending = s.pending := rfl
@[simp] theorem kept_out (t : State) : (kept s t).out = t.out := rfl
@[simp] theorem kept_ticks (t : State) : (kept s t).ticks = t.ticks := rfl
@[simp] theorem kept_freeIdx (t : State) : (kept s t).freeIdx = t.freeIdx := rfl
@[simp] theorem kept_regs (t : State) : (kept s t).regs = t.regs := rfl
@[simp] theorem kept_act (t : State) : (kept s t).act = t.act := rfl
@[simp] theorem kept_loft (t : State) : (kept s t).loft = t.loft := rfl
@[simp] theorem kept_tun (t : State) : (kept s t).tun = t.tun := rfl
@[simp] theorem kept_inq (t : State) : (kept s t).inq = t.inq := rfl
@[simp] theorem kept_fillq (t : State) : (kept s t).fillq = t.fillq := rfl
@[simp] theorem kept_waiting (t : State) : (kept s t).waiting = t.waiting := rfl
@[simp] theorem kept_bobbin (t : State) : (kept s t).bobbin = t.bobbin := rfl
@[simp] theorem kept_link (t : State) : (kept s t).link = t.link := rfl
@[simp] theorem kept_cdc (t : State) : (kept s t).cdc = t.cdc := rfl
@[simp] theorem kept_flt (t : State) : (kept s t).flt = t.flt := rfl
@[simp] theorem kept_pair (t : State) : (kept s t).pair = t.pair := rfl
@[simp] theorem kept_sched (t : State) : (kept s t).sched = t.sched := rfl
@[simp] theorem kept_gate (t : State) : (kept s t).gate = t.gate := rfl
@[simp] theorem kept_mgmtQ (t : State) : (kept s t).mgmtQ = t.mgmtQ := rfl
@[simp] theorem kept_limit (t : State) : (kept s t).limit = t.limit := rfl
@[simp] theorem kept_plumb (t : State) : (kept s t).plumb = t.plumb := rfl
@[simp] theorem kept_pcie (t : State) : (kept s t).pcie = t.pcie := rfl
@[simp] theorem kept_brg (t : State) : (kept s t).brg = t.brg := rfl
@[simp] theorem kept_usb (t : State) : (kept s t).usb = t.usb := rfl
@[simp] theorem kept_sec (t : State) : (kept s t).sec = t.sec := rfl
@[simp] theorem kept_fuse (t : State) : (kept s t).fuse = fuseJoin s.fuse t.fuse := rfl
@[simp] theorem kept_buf (t : State) : (kept s t).buf = t.buf := rfl
@[simp] theorem kept_mac (t : State) : (kept s t).mac = t.mac := rfl
@[simp] theorem kept_fwd (t : State) : (kept s t).fwd = t.fwd := rfl
@[simp] theorem kept_time (t : State) : (kept s t).time = t.time := rfl
@[simp] theorem kept_disp (t : State) : (kept s t).disp = t.disp := rfl
@[simp] theorem kept_dram (t : State) : (kept s t).dram = t.dram := rfl
@[simp] theorem kept_mem (t : State) : (kept s t).mem = t.mem := rfl
@[simp] theorem kept_modes (t : State) : (kept s t).modes = t.modes := rfl
@[simp] theorem kept_pwr (t : State) : (kept s t).pwr = t.pwr := rfl
@[simp] theorem kept_spd (t : State) : (kept s t).spd = t.spd := rfl
@[simp] theorem kept_tc (t : State) : (kept s t).tc = t.tc := rfl
@[simp] theorem kept_pp (t : State) : (kept s t).pp = t.pp := rfl
@[simp] theorem kept_latch (t : State) : (kept s t).latch = t.latch := rfl
@[simp] theorem kept_mgmtLast (t : State) : (kept s t).mgmtLast = t.mgmtLast := rfl
@[simp] theorem kept_mbTx (t : State) : (kept s t).mbTx = t.mbTx := rfl
@[simp] theorem kept_mbRx (t : State) : (kept s t).mbRx = t.mbRx := rfl
@[simp] theorem kept_spi (t : State) : (kept s t).spi = t.spi := rfl
@[simp] theorem kept_sense (t : State) : (kept s t).sense = t.sense := rfl
@[simp] theorem kept_stopped (t : State) : (kept s t).stopped = t.stopped := rfl
@[simp] theorem kept_held (t : State) : (kept s t).held = t.held := rfl
@[simp] theorem kept_fi (t : State) : (kept s t).fi = t.fi := rfl

end Sys2Proof.Machine
end

