-- ==== Sys2Proof/Laws/Ops.lean ====
section
/-!
SUPPORT. What each shared operation of Machine/Ops.lean does, said once.
-/
namespace Sys2Proof.Machine

variable {s t u : State}

/-! ### Registers -/

/-- A read after a write of the register file. -/
theorem reg_setReg (k : Nat) (v : Word) (s : State) (j : Nat) :
    reg (setReg k v s) j = if j = k then v else reg s j := smGet_smSet _ _ _ _

@[simp] theorem reg_setReg_same (k : Nat) (v : Word) (s : State) : reg (setReg k v s) k = v := by
  simp [reg_setReg]

theorem reg_setReg_ne {k j : Nat} (v : Word) (s : State) (h : j ≠ k) : reg (setReg k v s) j = reg s j := by
  simp [reg_setReg, h]

/-- A read after a write of the committed copies. -/
theorem actReg_setAct (k : Nat) (v : Word) (s : State) (j : Nat) :
    actReg (setAct k v s) j = if j = k then v else actReg s j := smGet_smSet _ _ _ _

@[simp] theorem actReg_setReg (k : Nat) (v : Word) (s : State) (j : Nat) : actReg (setReg k v s) j = actReg s j := rfl
@[simp] theorem reg_setAct (k : Nat) (v : Word) (s : State) (j : Nat) : reg (setAct k v s) j = reg s j := rfl
@[simp] theorem actReg_setF (f : Fld) (v : Nat) (s : State) (j : Nat) : actReg (setF f v s) j = actReg s j := rfl

theorem reg_setF_ne {f : Fld} {j : Nat} (v : Nat) (s : State) (h : j ≠ f.key) : reg (setF f v s) j = reg s j :=
  reg_setReg_ne _ _ h

/-- The register file reads alike wherever it is the same list. -/
theorem reg_congr (h : s.regs = t.regs) (k : Nat) : reg s k = reg t k := by simp [reg, h]
theorem getF_congr (h : s.regs = t.regs) (f : Fld) : getF s f = getF t f := by simp [getF, reg, h]
theorem actReg_congr (h : s.act = t.act) (k : Nat) : actReg s k = actReg t k := by simp [actReg, h]

@[simp] theorem reg_clearOut (s : State) (k : Nat) : reg (clearOut s) k = reg s k := rfl
@[simp] theorem reg_emit (o : Output) (s : State) (k : Nat) : reg (emit o s) k = reg s k := rfl
@[simp] theorem reg_nextFree (s : State) (k : Nat) : reg (nextFree s) k = reg s k := rfl
@[simp] theorem reg_kept (s t : State) (k : Nat) : reg (kept s t) k = reg t k := rfl
@[simp] theorem reg_xSet (x : Nat) (v : Crossing) (s : State) (k : Nat) : reg (xSet x v s) k = reg s k := rfl
@[simp] theorem reg_lSet (x : Nat) (v : Link) (s : State) (k : Nat) : reg (lSet x v s) k = reg s k := rfl
@[simp] theorem reg_tSet (x : Nat) (v : Tunnel) (s : State) (k : Nat) : reg (tSet x v s) k = reg s k := rfl
@[simp] theorem reg_qSet (x : Nat) (v : Queue) (s : State) (k : Nat) : reg (qSet x v s) k = reg s k := rfl
@[simp] theorem getF_clearOut (s : State) (f : Fld) : getF (clearOut s) f = getF s f := rfl
@[simp] theorem getF_emit (o : Output) (s : State) (f : Fld) : getF (emit o s) f = getF s f := rfl
@[simp] theorem getF_nextFree (s : State) (f : Fld) : getF (nextFree s) f = getF s f := rfl
@[simp] theorem getF_kept (s t : State) (f : Fld) : getF (kept s t) f = getF t f := rfl
@[simp] theorem getF_xSet (x : Nat) (v : Crossing) (s : State) (f : Fld) : getF (xSet x v s) f = getF s f := rfl
@[simp] theorem getF_lSet (x : Nat) (v : Link) (s : State) (f : Fld) : getF (lSet x v s) f = getF s f := rfl
@[simp] theorem getF_tSet (x : Nat) (v : Tunnel) (s : State) (f : Fld) : getF (tSet x v s) f = getF s f := rfl
@[simp] theorem getF_qSet (x : Nat) (v : Queue) (s : State) (f : Fld) : getF (qSet x v s) f = getF s f := rfl
@[simp] theorem getF_setAct (k : Nat) (v : Word) (s : State) (f : Fld) : getF (setAct k v s) f = getF s f := rfl
@[simp] theorem bit_clearOut (s : State) (f : Fld) : bit (clearOut s) f = bit s f := rfl
@[simp] theorem actReg_clearOut (s : State) (k : Nat) : actReg (clearOut s) k = actReg s k := rfl
@[simp] theorem actReg_kept (s t : State) (k : Nat) : actReg (kept s t) k = actReg t k := rfl

/-! ### Bit fields -/

theorem putBits_lt {x lo w v : Nat} (hx : x < 2 ^ 32) (h : lo + w ≤ 32) : putBits x lo w v < 2 ^ 32 := by
  have h1 : x % 2 ^ lo < 2 ^ lo := Nat.mod_lt _ (by positivity)
  have h2 : v % 2 ^ w < 2 ^ w := Nat.mod_lt _ (by positivity)
  have h3 : x / 2 ^ (lo + w) < 2 ^ (32 - (lo + w)) := by
    rw [Nat.div_lt_iff_lt_mul (by positivity), ← pow_add]; rwa [show 32 - (lo + w) + (lo + w) = 32 by omega]
  have e1 : 2 ^ lo * 2 ^ w = 2 ^ (lo + w) := (pow_add 2 lo w).symm
  have e2 : 2 ^ (lo + w) * 2 ^ (32 - (lo + w)) = 2 ^ 32 := by rw [← pow_add]; congr 1; omega
  unfold putBits
  nlinarith [Nat.mul_le_mul_left (2 ^ lo) (Nat.succ_le_of_lt h2),
    Nat.mul_le_mul_left (2 ^ (lo + w)) (Nat.succ_le_of_lt h3)]

/-- A field put into a number reads back. -/
theorem bits_putBits (x lo w v : Nat) : bits (putBits x lo w v) lo w = v % 2 ^ w := by
  have h1 : x % 2 ^ lo < 2 ^ lo := Nat.mod_lt _ (by positivity)
  have e1 : 2 ^ (lo + w) = 2 ^ lo * 2 ^ w := pow_add 2 lo w
  unfold bits putBits
  rw [e1, show x % 2 ^ lo + v % 2 ^ w * 2 ^ lo + x / (2 ^ lo * 2 ^ w) * (2 ^ lo * 2 ^ w)
    = x % 2 ^ lo + 2 ^ lo * (v % 2 ^ w + 2 ^ w * (x / (2 ^ lo * 2 ^ w))) by ring]
  rw [Nat.add_mul_div_left _ _ (by positivity), Nat.div_eq_of_lt h1, zero_add, Nat.add_mul_mod_self_left,
    Nat.mod_mod]

/-- A field of a register reads back what was put into it. -/
theorem getF_setF_same (f : Fld) (v : Nat) (s : State) (h : f.lo + f.w ≤ 32) :
    getF (setF f v s) f = v % 2 ^ f.w := by
  have hlt : putBits (reg s f.key).toNat f.lo f.w v < 2 ^ 32 := putBits_lt (reg s f.key).isLt h
  simp only [getF, setF, reg_setReg_same, BitVec.toNat_ofNat]
  rw [Nat.mod_eq_of_lt hlt, bits_putBits]

theorem testBit_putBits (x lo w v i : Nat) :
    (putBits x lo w v).testBit i =
      if i < lo then x.testBit i else if i < lo + w then v.testBit (i - lo) else x.testBit i := by
  have hlo : x % 2 ^ lo < 2 ^ lo := Nat.mod_lt _ (by positivity)
  have hlt : x % 2 ^ lo + v % 2 ^ w * 2 ^ lo < 2 ^ (lo + w) := by
    have : v % 2 ^ w < 2 ^ w := Nat.mod_lt _ (by positivity)
    rw [pow_add]; nlinarith [Nat.mul_le_mul_left (2 ^ lo) (Nat.succ_le_of_lt this)]
  have e : putBits x lo w v =
      2 ^ (lo + w) * (x / 2 ^ (lo + w)) + (2 ^ lo * (v % 2 ^ w) + x % 2 ^ lo) := by unfold putBits; ring
  rw [e, Nat.testBit_two_pow_mul_add _ (by linarith [mul_comm (2 ^ lo) (v % 2 ^ w)]), Nat.testBit_two_pow_mul_add _ hlo]
  simp only [Nat.testBit_mod_two_pow, Nat.testBit_div_two_pow]
  by_cases h1 : i < lo
  · simp [h1, show i < lo + w by omega]
  · by_cases h2 : i < lo + w
    · simp [h1, h2, show i - lo < w by omega]
    · simp only [h1, h2, if_false]; congr 1; omega

theorem testBit_bits (x lo w i : Nat) : (bits x lo w).testBit i = (decide (i < w) && x.testBit (i + lo)) := by
  simp [bits, Nat.testBit_mod_two_pow, Nat.testBit_div_two_pow]

/-- A field put into a number leaves every field beside it. -/
theorem bits_putBits_disj {x lo w v lo' w' : Nat} (h : lo + w ≤ lo' ∨ lo' + w' ≤ lo) :
    bits (putBits x lo w v) lo' w' = bits x lo' w' := by
  apply Nat.eq_of_testBit_eq
  intro i
  simp only [testBit_bits, testBit_putBits]
  by_cases hi : i < w'
  · have : ¬ (lo ≤ i + lo' ∧ i + lo' < lo + w) := by omega
    split_ifs <;> first | omega | simp
  · simp [hi]

/-- A field of a register keeps its value when a field beside it is set. -/
theorem getF_setF_disj {f g : Fld} (v : Nat) (s : State) (h : f.lo + f.w ≤ 32) (hk : g.key = f.key)
    (hd : f.lo + f.w ≤ g.lo ∨ g.lo + g.w ≤ f.lo) : getF (setF f v s) g = getF s g := by
  have hlt : putBits (reg s f.key).toNat f.lo f.w v < 2 ^ 32 := putBits_lt (reg s f.key).isLt h
  simp only [getF, setF, hk, reg_setReg_same, BitVec.toNat_ofNat]
  rw [Nat.mod_eq_of_lt hlt, bits_putBits_disj hd]

theorem getF_setF_ne {f g : Fld} (v : Nat) (s : State) (h : g.key ≠ f.key) : getF (setF f v s) g = getF s g := by
  simp only [getF, reg_setF_ne v s h]

theorem getF_setReg_ne {g : Fld} {k : Nat} (v : Word) (s : State) (h : g.key ≠ k) :
    getF (setReg k v s) g = getF s g := by
  simp only [getF, reg_setReg_ne v s h]

theorem getF_setReg_same (k lo w : Nat) (v : Word) (s : State) :
    getF (setReg k v s) ⟨k, lo, w⟩ = bits v.toNat lo w := by simp [getF]

theorem bit_eq (s : State) (f : Fld) : bit s f = decide (getF s f = 1) := rfl

/-! ### Tables by key -/

theorem tGet_tSet (i : Nat) (v : Tunnel) (s : State) (j : Nat) :
    tGet (tSet i v s) j = if j = i then v else tGet s j := smGet_smSet _ _ _ _
theorem lGet_lSet (i : Nat) (v : Link) (s : State) (j : Nat) :
    lGet (lSet i v s) j = if j = i then v else lGet s j := smGet_smSet _ _ _ _
theorem qGet_qSet (i : Nat) (v : Queue) (s : State) (j : Nat) :
    qGet (qSet i v s) j = if j = i then v else qGet s j := smGet_smSet _ _ _ _
theorem xGet_xSet (i : Nat) (v : Crossing) (s : State) (j : Nat) :
    xGet (xSet i v s) j = if j = i then v else xGet s j := smGet_smSet _ _ _ _
theorem natGet_natSet (m : SMap Nat) (i v j : Nat) : natGet (natSet m i v) j = if j = i then v else natGet m j :=
  smGet_smSet _ _ _ _
@[simp] theorem tGet_clearOut (s : State) (i : Nat) : tGet (clearOut s) i = tGet s i := rfl
@[simp] theorem lGet_clearOut (s : State) (i : Nat) : lGet (clearOut s) i = lGet s i := rfl
@[simp] theorem qGet_clearOut (s : State) (i : Nat) : qGet (clearOut s) i = qGet s i := rfl
@[simp] theorem xGet_clearOut (s : State) (i : Nat) : xGet (clearOut s) i = xGet s i := rfl
@[simp] theorem tGet_kept (s t : State) (i : Nat) : tGet (kept s t) i = tGet t i := rfl
@[simp] theorem lGet_kept (s t : State) (i : Nat) : lGet (kept s t) i = lGet t i := rfl
@[simp] theorem qGet_kept (s t : State) (i : Nat) : qGet (kept s t) i = qGet t i := rfl
@[simp] theorem xGet_kept (s t : State) (i : Nat) : xGet (kept s t) i = xGet t i := rfl

/-! ### The canonical form -/

theorem setReg_regs_wf (k : Nat) (v : Word) (h : smWf regReset s.regs) : smWf regReset (setReg k v s).regs :=
  smSet_wf h k v
theorem setF_regs_wf (f : Fld) (v : Nat) (h : smWf regReset s.regs) : smWf regReset (setF f v s).regs := smSet_wf h _ _
theorem setAct_act_wf (k : Nat) (v : Word) (h : smWf regReset s.act) : smWf regReset (setAct k v s).act := smSet_wf h k v
theorem tSet_tun_wf (i : Nat) (v : Tunnel) (h : smWf dTun s.tun) : smWf dTun (tSet i v s).tun := smSet_wf h i v
theorem lSet_link_wf (i : Nat) (v : Link) (h : smWf dLink s.link) : smWf dLink (lSet i v s).link := smSet_wf h i v
theorem qSet_loft_wf (i : Nat) (v : Queue) (h : smWf dQueue s.loft) : smWf dQueue (qSet i v s).loft := smSet_wf h i v
theorem xSet_cdc_wf (i : Nat) (v : Crossing) (h : smWf dCross s.cdc) : smWf dCross (xSet i v s).cdc := smSet_wf h i v

/-! ### Control -/

@[simp] theorem when_true (f : State → State) (s : State) : when true f s = f s := rfl
@[simp] theorem when_false (f : State → State) (s : State) : when false f s = s := rfl

theorem forAll_nil {α : Type} (f : α → State → State) (s : State) : forAll [] f s = s := rfl
theorem forAll_cons {α : Type} (a : α) (l : List α) (f : α → State → State) (s : State) :
    forAll (a :: l) f s = forAll l f (f a s) := rfl

/-- What holds before and is kept by each element's effect holds after all of them. -/
theorem forAll_keeps {α : Type} {P : State → Prop} (l : List α) (f : α → State → State)
    (h : ∀ a s, P s → P (f a s)) (hs : P s) : P (forAll l f s) := by
  induction l generalizing s with
  | nil => exact hs
  | cons a l ih => exact ih (h a s hs)

/-! ### What no command changes -/

@[simp] theorem fuseJoin_self (f : Fuse) : fuseJoin f f = f := by
  cases f with
  | mk lc begun cps floor => cases cps <;> simp [fuseJoin]

theorem kept_eq (hp : t.pending = s.pending) (hf : t.fuse = s.fuse) : kept s t = t := by
  simp only [kept, hf, fuseJoin_self, ← hp]
  rw [← hf]

/-- Whatever a hub command does, it answers a next state with the queue as it was and the antifuse no less programmed. -/
theorem hub_spec {f : State → State} :
    ∃ t, hub s f = .next t ∧ t.pending = s.pending ∧
      ((hubRuns s = true ∧ t = kept s (f (clearOut s))) ∨ (hubRuns s = false ∧ t = clearOut s)) := by
  unfold hub
  cases h : hubRuns s <;> exact ⟨_, rfl, by simp⟩

theorem hub_of_runs {f : State → State} (h : hubRuns s = true) : hub s f = .next (kept s (f (clearOut s))) := by
  simp [hub, h]
theorem hub_of_not {f : State → State} (h : hubRuns s = false) : hub s f = .next (clearOut s) := by simp [hub, h]

/-- The same of a command of the power die. -/
theorem power_spec {f : State → State} :
    ∃ t, power s f = .next t ∧ t.pending = s.pending ∧
      ((s.pwr.on = true ∧ t = kept s (f (clearOut s))) ∨ (s.pwr.on = false ∧ t = clearOut s)) := by
  unfold power
  cases h : s.pwr.on <;> exact ⟨_, rfl, by simp⟩

theorem power_of_on {f : State → State} (h : s.pwr.on = true) : power s f = .next (kept s (f (clearOut s))) := by
  simp [power, h]
theorem power_of_off {f : State → State} (h : s.pwr.on = false) : power s f = .next (clearOut s) := by simp [power, h]

theorem hubRuns_on (h : hubRuns s = true) : s.pwr.on = true := by simp_all [hubRuns]

@[simp] theorem hubRuns_clearOut (s : State) : hubRuns (clearOut s) = hubRuns s := rfl

/-! ### Crossings and raises -/

/-- A pulse at an idle event crossing is in flight and counted (R326). -/
theorem pulse_idle {x : Nat} {p : Pulse} (h : (xGet s x).inFlight = none) :
    pulse x p s = xSet x { xGet s x with inFlight := some p, delivered := false, xfers := (xGet s x).xfers + 1 } s := by
  simp [pulse, h]

/-- A pulse at a crossing with one in flight takes the pending slot (R326). -/
theorem pulse_pending {x : Nat} {p q : Pulse} (h : (xGet s x).inFlight = some q) (h' : (xGet s x).pending = none) :
    pulse x p s = xSet x { xGet s x with pending := some p } s := by
  simp [pulse, h, h']

/-- A pulse changes crossings, the collector's direct raises and the overrun counter, and nothing else. -/
theorem pulse_frame (x : Nat) (p : Pulse) (s : State) :
    pulse x p s = { s with cdc := (pulse x p s).cdc, regs := (pulse x p s).regs, flt := (pulse x p s).flt } := by
  by_cases h1 : (xGet s x).inFlight.isNone = true
  · simp only [pulse, h1, if_true]; rfl
  · by_cases h2 : (xGet s x).pending.isNone = true
    · simp only [pulse, h1, h2, if_true]; rfl
    · by_cases h3 : (xGet s x).overrun = true <;> simp only [pulse, h1, h2, h3, if_true] <;> rfl

theorem raise_frame (src detail : Nat) (s : State) :
    raise src detail s =
      { s with cdc := (raise src detail s).cdc, regs := (raise src detail s).regs, flt := (raise src detail s).flt } := by
  by_cases h1 : hubRuns s = true
  · by_cases h2 : 92 ≤ src ∧ src ≤ 99
    · simp only [raise, h1, h2, if_true]; rfl
    · simp only [raise, h1, h2, if_true, if_false]; exact pulse_frame _ _ _
  · simp only [raise, h1]; rfl

/-- All that `quot` does: a whole quotient as it is, else one of its two neighbours, and at most the counter of free values
moves. -/
theorem quot_cases (a b : Nat) (s : State) (h : b ≠ 0) :
    (quot a b s = (a / b, s)) ∨
    (a % b ≠ 0 ∧ ((quot a b s).1 = a / b ∨ (quot a b s).1 = a / b + 1) ∧ (quot a b s).2 = nextFree s) := by
  unfold quot
  rw [if_neg h]
  split
  · exact .inl rfl
  · exact .inr ⟨‹_›, by dsimp only; omega, rfl⟩

/-- All that `quotInt` does. -/
theorem quotInt_cases (a : Int) (b : Nat) (s : State) (h : b ≠ 0) :
    (quotInt a b s = (a / (b : Int), s)) ∨
    (a % (b : Int) ≠ 0 ∧ ((quotInt a b s).1 = a / (b : Int) ∨ (quotInt a b s).1 = a / (b : Int) + 1)
      ∧ (quotInt a b s).2 = nextFree s) := by
  unfold quotInt
  rw [if_neg h]
  split
  · exact .inl rfl
  · exact .inr ⟨‹_›, by dsimp only; omega, rfl⟩

end Sys2Proof.Machine
end

