-- ==== Sys2Proof/Laws/Frames.lean ====
section
/-!
SUPPORT. The registers that raises and the journal write, so that a command's own registers can be read past them.
-/
namespace Sys2Proof.Machine

variable {s : State} {k : Nat}

/-- The registers that a raise or a journal record may write: the PAIR page and the count of overrun pulses. -/
abbrev Noise (k : Nat) : Prop := k / 0x1000 = 8 ∨ k = R.CDC_OVERRUN_EVENTS

@[simp] theorem reg_raiseDirect (src d : Nat) (s : State) : reg (raiseDirect src d s) k = reg s k := rfl

theorem reg_pulse (x : Nat) (p : Pulse) (s : State) (h : k ≠ R.CDC_OVERRUN_EVENTS) :
    reg (pulse x p s) k = reg s k := by
  by_cases h1 : (xGet s x).inFlight.isNone = true
  · simp only [pulse, h1, if_true]; rfl
  · by_cases h2 : (xGet s x).pending.isNone = true
    · simp only [pulse, h1, h2, if_true]; rfl
    · by_cases h3 : (xGet s x).overrun = true <;>
        simp only [pulse, h1, h2, h3, if_true, bump, addCnt] <;> exact reg_setReg_ne _ _ h

theorem reg_raise (src d : Nat) (s : State) (h : k ≠ R.CDC_OVERRUN_EVENTS) : reg (raise src d s) k = reg s k := by
  by_cases h1 : hubRuns s = true
  · by_cases h2 : 92 ≤ src ∧ src ≤ 99
    · simp only [raise, h1, h2]; rfl
    · simp only [raise, h1, h2, if_true, if_false]; exact reg_pulse _ _ _ h
  · simp only [raise, h1]; rfl

theorem reg_raiseN (src : Nat) (s : State) (h : k ≠ R.CDC_OVERRUN_EVENTS) : reg (raiseN src s) k = reg s k := by
  simp only [raiseN, reg_raise _ _ _ h, reg_nextFree]

@[simp] theorem reg_sendCtl (n : Nat) (b : List Byte) (s : State) : reg (sendCtl n b s) k = reg s k := rfl

theorem reg_bump (j : Nat) (s : State) (h : k ≠ j) : reg (bump j s) k = reg s k := reg_setReg_ne _ _ h
theorem reg_addCnt (j n : Nat) (s : State) (h : k ≠ j) : reg (addCnt j n s) k = reg s k := reg_setReg_ne _ _ h
@[simp] theorem reg_bump_same (j : Nat) (s : State) : reg (bump j s) j = reg s j + 1 := by simp [bump, addCnt]
theorem reg_addCnt64 (j n : Nat) (s : State) (h : k ≠ j) (h' : k ≠ j + 4) : reg (addCnt64 j n s) k = reg s k := by
  simp only [addCnt64, reg_setReg_ne _ _ h', reg_setReg_ne _ _ h]
theorem reg_bump64 (j : Nat) (s : State) (h : k ≠ j) (h' : k ≠ j + 4) : reg (bump64 j s) k = reg s k :=
  reg_addCnt64 j 1 s h h'

theorem reg_forAll {α : Type} (l : List α) (f : α → State → State) (s : State)
    (h : ∀ a s, reg (f a s) k = reg s k) : reg (forAll l f s) k = reg s k := by
  induction l generalizing s with
  | nil => rfl
  | cons a l ih => rw [forAll_cons, ih, h]

theorem reg_sendResyncReq (s : State) : reg (sendResyncReq s) k = reg s k := rfl

theorem reg_journalOverflow (s : State) (h : ¬ Noise k) : reg (journalOverflow s) k = reg s k := by
  have hk : ∀ j, j / 0x1000 = 8 → k ≠ j := fun j e e' => h (.inl (e' ▸ e))
  unfold journalOverflow
  dsimp only
  rw [reg_raise _ _ _ (fun e => h (.inr e)), reg_bump _ _ (hk _ (by decide)), reg_setF_ne _ _ (hk _ (by decide)),
    reg_setF_ne _ _ (hk _ (by decide))]
  unfold when
  split <;> rfl

theorem reg_sendRecord (r : JRec) (s : State) (h : ¬ Noise k) : reg (sendRecord r s) k = reg s k := by
  have hk : ∀ j, j / 0x1000 = 8 → k ≠ j := fun j e e' => h (.inl (e' ▸ e))
  unfold sendRecord
  rw [reg_sendCtl, reg_bump64 _ _ (hk _ (by decide)) (hk _ (by decide)), reg_setReg_ne _ _ (hk _ (by decide))]

theorem reg_journal (type : Nat) (body : List Byte) (last : Bool) (s : State) (h : ¬ Noise k) :
    reg (journal type body last s) k = reg s k := by
  have hk : ∀ j, j / 0x1000 = 8 → k ≠ j := fun j e e' => h (.inl (e' ▸ e))
  unfold journal
  split
  · split
    · exact reg_journalOverflow s h
    · dsimp only
      split
      · rw [reg_sendRecord _ _ h, reg_setF_ne _ _ (hk _ (by decide))]; rfl
      · rw [reg_setF_ne _ _ (hk _ (by decide))]; rfl
  · rfl

theorem reg_journalReg (key : Nat) (v : Word) (s : State) (h : ¬ Noise k) :
    reg (journalReg key v s) k = reg s k := by
  unfold journalReg
  dsimp only
  split
  · split
    · exact reg_journal _ _ _ _ h
    · split <;> simp only [journalWord, reg_journal _ _ _ _ h]
  · rfl

theorem reg_journalCommit (page : Nat) (ch : List (Nat × Word)) (s : State) (h : ¬ Noise k) :
    reg (journalCommit page ch s) k = reg s k := by
  unfold journalCommit
  split
  · rw [reg_journal _ _ _ _ h]
    induction ch generalizing s with
    | nil => rfl
    | cons a l ih => rw [forAll_cons, ih, reg_journalReg _ _ _ h]
  · rfl

/-! ### The same of fields -/

/-- A field reads alike where its register does. -/
theorem getF_of_reg {s t : State} {f : Fld} (h : reg t f.key = reg s f.key) : getF t f = getF s f := by simp [getF, h]

variable {f : Fld}

theorem getF_pulse (x : Nat) (p : Pulse) (s : State) (h : f.key ≠ R.CDC_OVERRUN_EVENTS) :
    getF (pulse x p s) f = getF s f := getF_of_reg (reg_pulse _ _ _ h)
theorem getF_raise (src d : Nat) (s : State) (h : f.key ≠ R.CDC_OVERRUN_EVENTS) :
    getF (raise src d s) f = getF s f := getF_of_reg (reg_raise _ _ _ h)
theorem getF_raiseN (src : Nat) (s : State) (h : f.key ≠ R.CDC_OVERRUN_EVENTS) :
    getF (raiseN src s) f = getF s f := getF_of_reg (reg_raiseN _ _ h)
theorem getF_bump (j : Nat) (s : State) (h : f.key ≠ j) : getF (bump j s) f = getF s f := getF_of_reg (reg_bump _ _ h)
theorem getF_addCnt (j n : Nat) (s : State) (h : f.key ≠ j) : getF (addCnt j n s) f = getF s f :=
  getF_of_reg (reg_addCnt _ _ _ h)
theorem getF_addCnt64 (j n : Nat) (s : State) (h : f.key ≠ j) (h' : f.key ≠ j + 4) :
    getF (addCnt64 j n s) f = getF s f := getF_of_reg (reg_addCnt64 _ _ _ h h')
theorem getF_bump64 (j : Nat) (s : State) (h : f.key ≠ j) (h' : f.key ≠ j + 4) : getF (bump64 j s) f = getF s f :=
  getF_of_reg (reg_bump64 _ _ h h')
theorem getF_journalReg (key : Nat) (v : Word) (s : State) (h : ¬ Noise f.key) :
    getF (journalReg key v s) f = getF s f := getF_of_reg (reg_journalReg _ _ _ h)
theorem getF_journal (type : Nat) (body : List Byte) (last : Bool) (s : State) (h : ¬ Noise f.key) :
    getF (journal type body last s) f = getF s f := getF_of_reg (reg_journal _ _ _ _ h)
theorem getF_journalCommit (page : Nat) (ch : List (Nat × Word)) (s : State) (h : ¬ Noise f.key) :
    getF (journalCommit page ch s) f = getF s f := getF_of_reg (reg_journalCommit _ _ _ h)

end Sys2Proof.Machine
end

