-- ==== Sys2Proof/Laws/Links.lean ====
section
/-!
SUPPORT. What takes a link DOWN, followed through everything a loss does to tunnels, docks and islands: the link's state and
reason stand at the end as they were set.
-/
namespace Sys2Proof.Machine

variable {s : State} {k : Nat}

/-- `LINK.STATUS` and `LINK.DOWN_EVENTS` of the five links. -/
abbrev StatusKey (k : Nat) : Prop := 0x10000 ≤ k ∧ k < 0x15000 ∧ (k % 0x1000 = 0x104 ∨ k % 0x1000 = 0x82C)

theorem reg_limited (key period : Nat) (f : State → State) (s : State) (h : ∀ s, reg (f s) k = reg s k) :
    reg (limited key period f s) k = reg s k := by
  unfold limited
  dsimp only
  split
  · rw [h]; rfl
  · rfl

theorem reg_abortAdapter (i : Nat) (s : State) : reg (abortAdapter i s) k = reg s k := by
  unfold abortAdapter
  dsimp only
  split
  · split <;> split <;> rfl
  · rfl

theorem reg_closeEgress (i : Nat) (s : State) : reg (closeEgress i s) k = reg s k := by
  unfold closeEgress
  dsimp only
  split
  · split
    · rfl
    · exact reg_abortAdapter i _
  · rfl

theorem reg_noteFill (q : Nat) (s : State) : reg (noteFill q s) k = reg s k := by
  unfold noteFill
  split
  · split <;> rfl
  · rfl

theorem reg_dropCandidate (i : Nat) (s : State) : reg (dropCandidate i s) k = reg s k := by
  unfold dropCandidate unhold
  rw [reg_forAll, reg_forAll]
  all_goals
    intro a s
    dsimp only
    split <;> rfl

theorem reg_dropTags (i : Nat) (s : State) : reg (dropTags i s) k = reg s k := by
  unfold dropTags
  rw [reg_forAll, reg_dropCandidate]
  intro a s
  dsimp only
  split <;> rfl

theorem reg_discardCells (i : Nat) (s : State) : reg (discardCells i s).2 k = reg s k := by
  unfold discardCells
  dsimp only
  rw [reg_noteFill, reg_dropCandidate, reg_tSet, reg_qSet]

theorem reg_closeBehind (i : Nat) (s : State) : reg (closeBehind i s) k = reg s k := by
  unfold closeBehind
  dsimp only
  split
  · exact reg_closeEgress i s
  · exact reg_qSet _ _ _ _

theorem reg_removeLast (i j : Nat) (s : State) : reg (removeLast i j s) k = reg s k := by
  unfold removeLast
  dsimp only
  rw [reg_noteFill]
  split <;> split <;> simp only [reg_dropCandidate, reg_qSet, reg_tSet]

theorem reg_when (c : Bool) (f : State → State) (s : State) (h : ∀ s, reg (f s) k = reg s k) :
    reg (when c f s) k = reg s k := by cases c <;> simp [h]

variable (hk : StatusKey k)
include hk

theorem statusKey_raise (src d : Nat) (s : State) : reg (raise src d s) k = reg s k :=
  reg_raise _ _ _ (by unfold R.CDC_OVERRUN_EVENTS; omega)

theorem statusKey_setF (f : Fld) (v : Nat) (s : State) (h : f.key < 0x10000 ∨ 0x15000 ≤ f.key) :
    reg (setF f v s) k = reg s k := reg_setF_ne _ _ (by omega)

theorem statusKey_forget (i : Nat) (s : State) : reg (forget i s) k = reg s k := by
  unfold forget
  rw [reg_qSet, reg_tSet, reg_dropTags]
  exact statusKey_setF hk _ _ _ (.inr (by unfold bitIn R.TUN_STALLED; dsimp only; omega))

theorem statusKey_countCtAbort (eg : Nat) (s : State) : reg (countCtAbort eg s) k = reg s k := by
  unfold countCtAbort
  rw [reg_limited _ _ _ _ fun s => statusKey_raise hk _ _ s, reg_bump _ _ (by unfold R.SWC_CT_ABORTS; omega)]

theorem statusKey_removeTunnel (i : Nat) (s : State) : reg (removeTunnel i s).2 k = reg s k := by
  unfold removeTunnel
  dsimp only
  rw [statusKey_forget hk, reg_addCnt _ _ _ (by unfold entCnt regKey R.TUN_ENT_DROPS; omega), reg_discardCells, reg_closeEgress]
  split
  · split
    · exact statusKey_countCtAbort hk _ _
    · rfl
  · rfl

theorem statusKey_clearEntry (i : Nat) (s : State) : reg (clearEntry i s) k = reg s k := by
  refine reg_forAll _ _ _ fun w s => ?_
  rw [reg_setAct, reg_setReg_ne _ _ (by unfold entKey regKey R.TUN_ENTRY0; omega)]

theorem statusKey_teardown (i : Nat) (s : State) : reg (teardown i s).2 k = reg s k := by
  unfold teardown
  dsimp only
  rw [reg_addCnt64 _ _ _ (by unfold R.TUN_TEARDOWN_CELLS; omega) (by unfold R.TUN_TEARDOWN_CELLS; omega),
    reg_bump _ _ (by unfold R.TUN_TEARDOWNS; omega),
    statusKey_setF hk _ _ _ (.inr (by unfold bitIn R.TUN_TORN; dsimp only; omega)), statusKey_clearEntry hk,
    statusKey_removeTunnel hk]

theorem statusKey_linkUse (n : Nat) (s : State) : reg (linkUse n s) k = reg s k := by
  unfold linkUse
  rw [statusKey_setF hk _ _ _ (.inr (by unfold fInL1 R.PCIE_STATUS; dsimp only; omega))]
  rfl

theorem statusKey_complete (f tag status lower : Nat) (data : List Byte) (ep : Bool) (s : State) :
    reg (complete f tag status lower data ep s) k = reg s k := by
  unfold complete
  dsimp only
  split
  · exact reg_forAll _ _ _ fun _ _ => rfl
  · split
    · rw [reg_emit, reg_addCnt64 _ _ _ (by unfold R.PCIE_TX_TLPS; omega) (by unfold R.PCIE_TX_TLPS; omega),
        statusKey_linkUse hk]
    · rfl

theorem statusKey_answerRead (swap status : Nat) (data : List Byte) (s : State) :
    reg (answerRead swap status data s) k = reg s k := by
  unfold answerRead
  split
  · rfl
  · rw [statusKey_raise hk, reg_bump _ _ (by unfold R.BRG_NP_ERR; omega)]
    rfl

theorem statusKey_bridgeCompletion (tag status : Nat) (data : List Byte) (s : State) :
    reg (bridgeCompletion tag status data s) k = reg s k := by
  unfold bridgeCompletion
  dsimp only
  split
  · cases h : s.brg.current with
    | none => rfl
    | some d =>
      simp only [Option.elim, completeCurrent]
      split
      · split
        · rw [statusKey_answerRead hk]; rfl
        · rfl
      · rfl
  · split <;> rfl

theorem statusKey_answerId (f tag status : Nat) (s : State) : reg (answerId f tag status s) k = reg s k := by
  unfold answerId
  split
  · split
    · rfl
    · exact statusKey_bridgeCompletion hk _ _ _ s
  · exact statusKey_complete hk _ _ _ _ _ _ s

theorem statusKey_sendErr (f kind : Nat) (s : State) : reg (sendErr f kind s) k = reg s k := by
  unfold sendErr sendUp
  split
  · dsimp only
    split
    · rfl
    · split
      · rw [reg_emit, reg_bump64 _ _ (by unfold R.PCIE_TX_TLPS; omega) (by unfold R.PCIE_TX_TLPS; omega),
          statusKey_linkUse hk]
      · rfl
  · rfl

omit hk in
theorem reg_logError (f i st : Nat) (tlp : List Byte) (s : State) : reg (logError f i st tlp s) k = reg s k := by
  have h : reg (firstError f i tlp s) k = reg s k := by
    unfold firstError
    split
    · rfl
    · exact (reg_forAll _ _ _ fun a s => (rfl : reg (cfgSet f (71 + a) _ s) k = reg s k)).trans rfl
  exact h

theorem statusKey_aerError (f i : Nat) (tlp : List Byte) (s : State) : reg (aerError f i tlp s) k = reg s k := by
  unfold aerError
  have h : ∀ s, reg (bump (R.PCIE_UNCORR_ERR (errPage f)) s) k = reg s k := fun s =>
    reg_bump _ _ (by unfold R.PCIE_UNCORR_ERR; omega)
  dsimp only
  split <;> split
  all_goals
    first
      | rw [h, reg_logError]
      | rw [statusKey_raise hk, statusKey_sendErr hk, h, reg_logError]

theorem statusKey_setVdp (v n : Nat) (s : State) : reg (setF (fVdp v) n s) k = reg s k :=
  statusKey_setF hk _ _ _ (.inr (by unfold fVdp R.PSW_VDP_STATUS; dsimp only; omega))

theorem statusKey_linkGoes (v : Nat) (s : State) : reg (linkGoes v s) k = reg s k := by
  unfold linkGoes
  dsimp only
  rw [reg_forAll _ _ _ (fun t s => statusKey_answerId hk _ t 1 s), reg_addCnt _ _ _ (by unfold R.PSW_UR_SYNTH; omega)]
  exact statusKey_setVdp hk _ _ _

theorem statusKey_surpriseDown (v : Nat) (s : State) : reg (surpriseDown v s) k = reg s k := by
  unfold surpriseDown
  rw [statusKey_raise hk, reg_bump _ _ (by unfold R.PSW_SURPRISE_DOWNS; omega), statusKey_linkGoes hk, statusKey_aerError hk]

theorem statusKey_vdpRefresh (v : Nat) (s : State) : reg (vdpRefresh v s) k = reg s k := by
  unfold vdpRefresh
  dsimp only
  split
  · split
    · exact statusKey_linkGoes hk v s
    · exact statusKey_surpriseDown hk v s
  · split
    · exact statusKey_setVdp hk _ _ _
    · rfl

theorem statusKey_usb3 (p lo w v : Nat) (s : State) :
    reg (setF ⟨R.USB3_PORT_STATUS p, lo, w⟩ v s) k = reg s k :=
  statusKey_setF hk _ _ _ (.inr (by unfold R.USB3_PORT_STATUS; dsimp only; omega))

theorem statusKey_vportDown (v : Nat) (s : State) : reg (vportDown v s) k = reg s k := by
  unfold vportDown
  dsimp only
  show reg (setF _ _ _) k = _
  rw [statusKey_usb3 hk, statusKey_usb3 hk, statusKey_usb3 hk]

theorem statusKey_vportRefresh (v : Nat) (s : State) : reg (vportRefresh v s) k = reg s k := by
  unfold vportRefresh
  dsimp only
  split
  · split
    · rw [reg_bump _ _ (by unfold R.USB3_VPORT_DOWNS; omega), statusKey_vportDown hk]
    · split
      · exact statusKey_vportDown hk v s
      · rfl
  · split
    · show reg (setF _ _ _) k = _
      rw [statusKey_usb3 hk, statusKey_usb3 hk, statusKey_usb3 hk]
    · rfl

theorem statusKey_upTunnelRefresh (s : State) : reg (upTunnelRefresh s) k = reg s k := by
  have h (a : Nat) (v : Word) (s : State) : reg (journalWord a v s) k = reg s k :=
    reg_journal _ _ _ _ (by unfold Noise R.CDC_OVERRUN_EVENTS; omega)
  unfold upTunnelRefresh upstreamReset cfgResetOf setBar4
  dsimp only
  split
  · rw [reg_forAll _ _ _ fun _ s => h _ _ s]
    exact h _ _ _
  · rfl

theorem statusKey_upVirtual (s : State) : reg (upVirtual s) k = reg s k := by
  have h (v : Nat) (s : State) : reg (setF ⟨R.USB3_STATUS, 4, 1⟩ v s) k = reg s k :=
    statusKey_setF hk _ _ _ (.inr (by unfold R.USB3_STATUS; dsimp only; omega))
  unfold upVirtual
  dsimp only
  split
  · exact h _ s
  · split <;> exact h _ s

/-- The adapters' following leaves the links alone. -/
theorem statusKey_adaptersFollow (s : State) : reg (adaptersFollow s) k = reg s k := by
  unfold adaptersFollow
  rw [statusKey_upVirtual hk, reg_forAll _ _ _ fun v s => statusKey_vportRefresh hk v s, statusKey_upTunnelRefresh hk,
    reg_forAll _ _ _ fun v s => statusKey_vdpRefresh hk v s]

theorem statusKey_teardownAll (is : List Nat) (s : State) : reg (teardownAll is s).2 k = reg s k := by
  unfold teardownAll
  dsimp only
  rw [statusKey_adaptersFollow hk]
  suffices h : ∀ (a : Nat × State),
      reg (is.foldl (fun (a : Nat × State) i => let (n, s) := teardown i a.2; (a.1 + n, s)) a).2 k = reg a.2 k from h _
  induction is with
  | nil => intro a; rfl
  | cons i is ih => intro a; rw [List.foldl_cons, ih]; exact statusKey_teardown hk i a.2

theorem statusKey_holdExpires (n : Nat) (s : State) : reg (holdExpires n s) k = reg s k := by
  unfold holdExpires raiseLink
  dsimp only
  rw [statusKey_raise hk, reg_bump _ _ (by unfold R.LINK_HOLD_EXPIRIES; omega),
    reg_addCnt64 _ _ _ (by unfold R.LINK_HOLD_LOSS_CELLS; omega) (by unfold R.LINK_HOLD_LOSS_CELLS; omega)]
  unfold teardownHeld
  rw [statusKey_teardownAll hk]
  exact reg_forAll _ _ _ fun _ _ => rfl

theorem statusKey_suspendBound (n : Nat) (s : State) : reg (suspendBound n s) k = reg s k := by
  unfold suspendBound
  dsimp only
  have e : reg (forAll (boundTo s n) (fun i s => tSet i { tGet s i with susp := true } s) s) k = reg s k :=
    reg_forAll _ _ _ fun _ _ => rfl
  split <;> split <;> first
    | rfl
    | (split
       · exact e
       · split
         · rw [statusKey_holdExpires hk, e]
         · rw [reg_lSet, e])

theorem statusKey_scarfLost (s : State) : reg (scarfLost s) k = reg s k := by
  unfold scarfLost
  split
  · exact statusKey_setF hk _ _ _ (.inl (by unfold fSync R.PAIR_STATUS; dsimp only; omega))
  · rfl

theorem statusKey_startRetry (n : Nat) (s : State) : reg (startRetry n s) k = reg s k := by
  unfold startRetry
  rw [reg_lSet, reg_setF_ne _ _ (by unfold R.LINK_HOLD_STATUS; dsimp only; omega)]

theorem statusKey_overbookCheck (n : Nat) (s : State) : reg (overbookCheck n s) k = reg s k := by
  unfold overbookCheck
  dsimp only
  split
  · rw [statusKey_raise hk, reg_bump _ _ (by unfold R.SCH_OVERBOOK_ENTRIES; omega),
      statusKey_setF hk _ _ _ (.inr (by unfold fOverbooked R.SCH_STATUS; dsimp only; omega))]
  · exact statusKey_setF hk _ _ _ (.inr (by unfold fOverbooked R.SCH_STATUS; dsimp only; omega))

theorem statusKey_closeArriving (i : Nat) (s : State) : reg (closeArriving i s) k = reg s k := by
  unfold closeArriving
  dsimp only
  split
  · rfl
  · split
    · rw [statusKey_countCtAbort hk, reg_closeBehind, reg_tSet]
    · rw [reg_removeLast, reg_tSet]

theorem statusKey_resendAll (i : Nat) (s : State) : reg (resendAll i s) k = reg s k := by
  unfold resendAll
  dsimp only
  rw [reg_addCnt _ _ _ (by unfold entCnt regKey R.TUN_ENT_RETX_CELLS; omega), reg_tSet]

theorem statusKey_dockAdopt (s : State) : reg (dockAdopt s) k = reg s k := by
  unfold dockAdopt
  dsimp only
  rw [reg_forAll _ _ _ fun i s => statusKey_resendAll hk i s,
    reg_forAll _ _ _ fun i s => by rw [reg_bump _ _ (by unfold R.PAIR_ADOPTIONS; omega), reg_tSet],
    reg_forAll _ _ _ fun i s => statusKey_closeArriving hk i s]

theorem statusKey_timeSourceMoves (s : State) : reg (timeSourceMoves s) k = reg s k := by
  unfold timeSourceMoves
  split
  · exact statusKey_setF hk _ _ _ (.inl (by unfold fTimeState R.TIME_STATUS; dsimp only; omega))
  · rfl

theorem statusKey_dockTo (n : Nat) (s : State) : reg (dockTo n s) k = reg s k := by
  have h2 (v : Word) (s : State) : reg (setReg R.PAIR_DOCK_EPOCH v s) k = reg s k :=
    reg_setReg_ne _ _ (by unfold R.PAIR_DOCK_EPOCH; omega)
  have h3 (v : Nat) (s : State) : reg (setF fFollow v s) k = reg s k :=
    statusKey_setF hk _ _ _ (.inl (by unfold fFollow R.PAIR_DOCK_STATUS; dsimp only; omega))
  have h4 (s : State) : reg (bump R.PAIR_DOCK_SWITCHES s) k = reg s k :=
    reg_bump _ _ (by unfold R.PAIR_DOCK_SWITCHES; omega)
  unfold dockTo
  dsimp only
  rw [reg_when _ _ _ fun s => ?_, h2]
  · rfl
  · rw [reg_when _ _ _ fun s => statusKey_dockAdopt hk s, statusKey_timeSourceMoves hk, h4, h3]

theorem statusKey_dockEvaluate (s : State) : reg (dockEvaluate s) k = reg s k := by
  have h1 (c : Bool) (v : Nat) (s : State) :
      reg (when c (raise 111 2) (setF ⟨R.PAIR_DOCK_STATUS, 1, 1⟩ v s)) k = reg s k := by
    rw [reg_when _ _ _ fun s => statusKey_raise hk _ _ s,
      statusKey_setF hk _ _ _ (.inl (by unfold R.PAIR_DOCK_STATUS; dsimp only; omega))]
  by_cases he : bit s fDockEn = true
  · rw [dockEvaluate, if_pos he]
    dsimp only
    split
    · exact h1 _ _ _
    · rw [statusKey_dockTo hk, h1]
  · rw [dockEvaluate, if_neg he]

theorem statusKey_islandFollow (s : State) : reg (islandFollow s) k = reg s k := by
  unfold islandFollow
  split
  · exact statusKey_setF hk _ _ _ (.inl (by decide))
  · rfl

/-- What follows once a link's status has been set leaves it and the count of events alone. -/
theorem statusKey_lossTail (n reason kind : Nat) (lost : Bool) (cells : Nat) (s : State) :
    reg (islandFollow (dockEvaluate (overbookCheck n
      (when (decide (reason ≠ 2)) (startRetry n) (when (decide (n = 4)) scarfLost
        (when lost (fun s => raiseLink n kind (suspendBound n (addCnt64 (R.LINK_RETRAIN_LOSS_CELLS n) cells s))) s)))))) k =
      reg s k := by
  rw [statusKey_islandFollow hk, statusKey_dockEvaluate hk, statusKey_overbookCheck hk,
    reg_when _ _ _ fun s => statusKey_startRetry hk n s, reg_when _ _ _ fun s => statusKey_scarfLost hk s,
    reg_when _ _ _ fun s => ?_]
  rw [raiseLink, statusKey_raise hk, statusKey_suspendBound hk,
    reg_addCnt64 _ _ _ (by unfold R.LINK_RETRAIN_LOSS_CELLS; omega) (by unfold R.LINK_RETRAIN_LOSS_CELLS; omega)]

omit hk in
/-- A link that is taken DOWN is DOWN, names the reason, and has counted the event (R64, R67, Table 3-12). -/
theorem linkDown_status (n reason : Nat) (s : State) (hn : n ≤ 4) (h : linkState s n ≠ lsDown) :
    linkState (linkDown n reason s) n = lsDown ∧ getF (linkDown n reason s) (fLastReason n) = reason % 16 ∧
      reg (linkDown n reason s) (R.LINK_DOWN_EVENTS n) = reg s (R.LINK_DOWN_EVENTS n) + 1 := by
  have hs : StatusKey (R.LINK_STATUS n) := by unfold R.LINK_STATUS; omega
  have he : StatusKey (R.LINK_DOWN_EVENTS n) := by unfold R.LINK_DOWN_EVENTS; omega
  have hne : R.LINK_DOWN_EVENTS n ≠ R.LINK_STATUS n := by unfold R.LINK_DOWN_EVENTS R.LINK_STATUS; omega
  have hsr (v : Nat) (s : State) : reg (setF (fSplitResult n) v s) (R.LINK_DOWN_EVENTS n) = reg s (R.LINK_DOWN_EVENTS n) :=
    reg_setF_ne _ _ (by unfold fSplitResult R.LINK_SPLIT_STATUS R.LINK_DOWN_EVENTS; dsimp only; omega)
  obtain ⟨a, b, u, e, ha, hu⟩ : ∃ (a b : Nat) (u : State),
      (∀ k, StatusKey k → reg (linkDown n reason s) k = reg (setReg (R.LINK_STATUS n)
        (BitVec.ofNat 32 (a * 8 + b * 2 ^ 28 + reason % 16 * 2 ^ 24)) (bump (R.LINK_DOWN_EVENTS n) u)) k) ∧
      a < 2 ∧ reg u (R.LINK_DOWN_EVENTS n) = reg s (R.LINK_DOWN_EVENTS n) := by
    unfold linkDown
    simp only [if_neg h]
    refine ⟨_, _, _, fun k hk => statusKey_lossTail hk n reason 0 _ _ _, Nat.mod_lt _ (by norm_num), ?_⟩
    rw [reg_lSet, reg_when _ _ _ fun s => hsr _ s, reg_forAll _ _ _ fun _ s => reg_emit _ s _]
  refine ⟨?_, ?_, ?_⟩
  · rw [linkState, getF_of_reg (e _ hs)]
    simp only [getF, reg_setReg_same, BitVec.toNat_ofNat, bits]
    change _ = 0
    omega
  · rw [getF_of_reg (e _ hs)]
    simp only [getF, reg_setReg_same, BitVec.toNat_ofNat, bits]
    omega
  · rw [e _ he, reg_setReg_ne _ _ hne, reg_bump_same, hu]

end Sys2Proof.Machine
end

