-- ==== Sys2Proof/Laws/Memory.lean ====
section
/-!
SUPPORT. The SDRAM keeps its canonical form: at reset, when it is emptied, and at every write of bytes, which are all that
change it.
-/
namespace Sys2Proof.Machine

theorem memory_wf_nil : Memory.wf [] := ⟨List.Pairwise.nil, fun _ h => nomatch h⟩

/-- The machine's memory after reset has the canonical form. -/
theorem memory_wf_reset : Memory.wf State.reset.dram := memory_wf_nil

/-- Bytes written one after another keep the canonical form. -/
theorem memory_wf_bytes (base : Nat) (l : List (Byte × Nat)) (m : SMap Byte) (h : Memory.wf m) :
    Memory.wf (l.foldl (fun m (p : Byte × Nat) => smSet dByte m (base + p.2) p.1) m) := by
  induction l generalizing m with
  | nil => exact h
  | cons p l ih => exact ih _ (smSet_wf h _ _)

@[simp] theorem dram_injected (page chk writes : Nat) (s : State) : (injected page chk writes s).dram = s.dram := by
  unfold injected; dsimp only
  split
  · split <;> rfl
  · rfl

@[simp] theorem dram_storeBeats (b n : Nat) (s : State) : (storeBeats b n s).dram = s.dram := by
  unfold storeBeats; simp

/-- A write into frame memory keeps the canonical form. -/
theorem memory_wf_fbWrite (off : Nat) (data : List Byte) (s : State) (h : Memory.wf s.dram) :
    Memory.wf (fbWrite off data s).dram := by
  unfold fbWrite
  exact memory_wf_bytes _ _ _ (by simpa using h)

end Sys2Proof.Machine
end

