-- ==== Sys2Proof/Laws/Safety.lean ====
section
/-!
SUPPORT. How a command is shown to complete: the effect behind `hub` or `power`, once its die runs.
-/
namespace Sys2Proof.Machine

variable {c : Instr} {s t : State} {f : State → State} {P : State → Prop}

/-- A command of the hub die completes with its effect while the hub die runs. -/
theorem answers_hub (e : exec c s = hub s f) (h : Runs s) (hp : P (kept s (f (clearOut s)))) : Answers c s P :=
  ⟨_, e.trans (hub_of_runs h), hp⟩

/-- A command of the power die completes with its effect while the power die is supplied. -/
theorem answers_power (e : exec c s = power s f) (h : Powered s) (hp : P (kept s (f (clearOut s)))) : Answers c s P :=
  ⟨_, e.trans (power_of_on h), hp⟩

theorem answers_imp {Q : State → Prop} (h : Answers c s P) (hpq : ∀ t, P t → Q t) : Answers c s Q := by
  obtain ⟨t, e, p⟩ := h
  exact ⟨t, e, hpq t p⟩

theorem awake_runs (h : Awake s) : Runs s := h.1
theorem runs_powered (h : Runs s) : Powered s := hubRuns_on h

theorem regsBut_refl (ks : List Nat) (s : State) : RegsBut ks s s := fun _ _ => rfl
theorem regsBut_setReg {ks : List Nat} {k : Nat} (v : Word) (h : RegsBut ks s t) (hk : k ∈ ks) :
    RegsBut ks s (setReg k v t) := fun j hj => by
  rw [reg_setReg_ne v t (by rintro rfl; exact hj hk), h j hj]

theorem fuseLe_refl (a : Fuse) : fuseLe a a := ⟨le_refl _, le_refl _, fun _ h => h⟩
theorem fuseLe_trans {a b d : Fuse} (h : fuseLe a b) (h' : fuseLe b d) : fuseLe a d :=
  ⟨h.1.trans h'.1, h.2.1.trans h'.2.1, fun x hx => h'.2.2 x (h.2.2 x hx)⟩
theorem fuseLe_fuseJoin (a b : Fuse) : fuseLe a (fuseJoin a b) :=
  ⟨le_max_left _ _, le_max_left _ _, fun x hx => by simp [fuseJoin, hx]⟩

end Sys2Proof.Machine
end

