-- ==== Sys2Proof/WellFormed.lean ====
section
/-!
DEFINITION. Which commands are well formed: the lengths of the data that an operand carries, and the alignment of register
addresses that a path has let through (18_register_pages.md R413). A meaning is defined on every command; these are the ones that
the outside world can send.
-/
namespace Sys2Proof

/-- A TLP payload: 1 to 4,096 bytes. -/
def payloadOk (data : List Byte) : Bool := decide (1 ≤ data.length) && decide (data.length ≤ 4096)

/-- A BAR4 request writes a payload, or reads. -/
def writeOk (w : Option (List Byte)) : Bool := match w with | some d => payloadOk d | none => true

/-- An adapter's frame is no longer than the longest frame of a tunnel (Table 4-7). -/
def offerOk (o : Option (Byte × List Byte)) : Bool := match o with | some f => decide (f.2.length ≤ 16384) | none => true

/-- A cell that leaves with a double error carries 56 bytes (R118). -/
def loftOk (e : LoftEcc) : Bool := match e with | .double _ d => d.length == 56 | _ => true

/-- The data of an uncorrectable SDRAM read. -/
def dramOk (e : DramEcc) : Bool := match e with | .uncorrectable _ d => decide (d.length ≤ 4096) | _ => true

/-- A TLP on a link: its header, at most 4,096 bytes of payload and a digest, in whole words. -/
def tlpOk (src : TlpFrom) : Bool :=
  match src with
  | .upstream t | .downstream t => decide (12 ≤ t.length) && decide (t.length ≤ 4116) && t.length % 4 == 0
  | .tunnel => true

/-- The commands that the outside world can send. -/
def wellFormed (i : Instr) : Bool :=
  match i with
  | .registerWrite _ addr _ => addr.toNat % 4 == 0
  | .modeRequest _ _ => true
  | .modeTransitionComplete => true
  | .islandGraceExpiry => true
  | .hostWatchdogExpiry => true
  | .hostKick => true
  | .devCommit => true
  | .levelRequest _ => true
  | .levelVready => true
  | .levelRimChangeDone => true
  | .levelVreadyTimeout => true
  | .speedGaugeSample _ => true
  | .paceGuardStep => true
  | .paceGuardDisable => true
  | .spdExtremeRead _ => true
  | .enterModeAckReceived _ => true
  | .detectTimeout _ => true
  | .trainLanesLocked _ _ => true
  | .trainTimeout _ => true
  | .storedCoeffLockTimeout _ _ => true
  | .authFrameMissing _ => true
  | .linkLoss _ => true
  | .sidebandLoss _ => true
  | .linkForceDown _ => true
  | .retrainSuccess _ _ => true
  | .retrainTimeout _ => true
  | .lpIdleTimer _ => true
  | .lowpowerExit _ => true
  | .linkBlockReceived _ _ _ data _ => data.length == 512
  | .nakReceived _ _ => true
  | .ackReceived _ _ => true
  | .ackSendTimer _ => true
  | .ackTimeout _ => true
  | .roleCellReceived _ _ _ => true
  | .roleCellTimer _ => true
  | .crdResyncReceived _ _ => true
  | .ctagReceived _ _ tag => tag.length == 16
  | .ctagDeadline _ => true
  | .splitRequest _ _ => true
  | .sidebandSlot _ _ => true
  | .sbIdleReceived _ => true
  | .sbTrainStateReceived _ _ _ _ => true
  | .sbFfeReqReceived _ _ _ _ => true
  | .sbFfeStatusReceived _ _ => true
  | .sbSplitReqReceived _ _ => true
  | .sbSplitAckReceived _ _ => true
  | .sbSplitNakReceived _ _ _ => true
  | .sbLpReqReceived _ => true
  | .sbLpAckReceived _ => true
  | .sbLpNakReceived _ => true
  | .sbWakeReceived _ => true
  | .sbDownReasonReceived _ _ => true
  | .sbAuthHelloReceived _ _ body => body.length ≤ 9
  | .sbAuthProofReceived _ _ body => body.length ≤ 9
  | .sbAuthDoneReceived _ _ => true
  | .turnBlockReceived b => b.data.length == 512 && b.trailer.toNat / 2 ^ 48 % 8 == 1
  | .turnedLanesLocked _ => true
  | .turnDoneReceived _ _ => true
  | .turnLockTimeout _ => true
  | .holdExpiry _ => true
  | .retryExpiry _ => true
  | .fecRateInterval _ => true
  | .laneFreezeWrite _ _ _ => true
  | .laneCoeffWrite _ _ _ _ => true
  | .laneTestEnable _ _ _ _ => true
  | .prbsInject _ _ => true
  | .berEstimateUpdate _ _ _ prbs => prbs.errors ≤ prbs.bits
  | .originCellIngress _ offer => offerOk offer
  | .tunnelCellArrival _ _ cell => cell.payload.length == 56
  | .e2eAckTimer _ => true
  | .e2eGapRepeatTimer _ => true
  | .e2eAckReceived _ _ => true
  | .e2eGapReceived _ _ => true
  | .resumeReceived _ => true
  | .e2eTimerExpiry _ => true
  | .tid0FrameArrival _ frame => decide (8 ≤ frame.length) && decide (frame.length ≤ 16380)
  | .eventCellArrival _ frame => decide (frame.length ≤ 56)
  | .tunCommit => true
  | .tunIdxWrite _ => true
  | .waitingCellRetry _ => true
  | .overflowFill _ ecc => dramOk ecc
  | .egressGrant _ _ ecc => loftOk ecc
  | .cutThroughUnderrun _ => true
  | .bqFlushRequest _ _ _ => true
  | .bqFlushEffect _ => true
  | .queuePointerMismatch _ => true
  | .queueSweepDone _ => true
  | .swcBqSelWrite _ => true
  | .bufQselWrite _ => true
  | .memInit => true
  | .memInitComplete _ => true
  | .sdramRateChange => true
  | .memCommit => true
  | .eccSecondInterval => true
  | .patrolScrubSlot _ ecc => dramOk ecc
  | .scrubBehindHour => true
  | .refreshDue _ => true
  | .zqShortDue _ => true
  | .zqForceExpiry => true
  | .schCommit _ => true
  | .gateWindowBoundary _ => true
  | .gateScheduleSwitch _ => true
  | .dispEnableWrite _ => true
  | .dispDisableWrite _ => true
  | .positionFrame _ => true
  | .lineFrame _ => true
  | .dispCommit _ => true
  | .latchPoint ground apq ecc => decide (ground.length ≤ 4096) && ground.length == apq.length && dramOk ecc
  | .lineUnderrun _ => true
  | .bufferRelease _ => true
  | .bufReleaseRead => true
  | .fencedWriteProceed _ => true
  | .teEdge _ _ => true
  | .teMissing => true
  | .hpdLoss _ => true
  | .hpdReturn _ => true
  | .staleTimeoutExpiry => true
  | .imgDataAccess _ => true
  | .doutCommit _ => true
  | .auxTransactionStart _ _ => true
  | .auxTransactionDone _ _ _ _ => true
  | .macEnable _ _ => true
  | .macLinkLoss _ _ => true
  | .macFrameReceived _ _ _ => true
  | .macFrameTransmit _ _ _ => true
  | .fcsSecondInterval _ => true
  | .fwdInsert => true
  | .fwdDelete => true
  | .fwdLookup _ => true
  | .fwdFlushAll => true
  | .fwdCommit => true
  | .timeTick => true
  | .timeSnap => true
  | .timeAdjSet => true
  | .timeAdjStep => true
  | .dreqTimer _ => true
  | .dreqReceived _ _ => true
  | .drespReceived _ _ _ _ _ _ => true
  | .timeSourceLoss => true
  | .pdelayReqTimer _ => true
  | .pdelayReqReceived _ _ _ => true
  | .pdelayRespReceived _ _ _ => true
  | .twoStepEntryExpiry _ _ => true
  | .msgPortDelivery _ _ _ => true
  | .msgRxRead => true
  | .msgTxGo _ _ => true
  | .ppsOutEdge => true
  | .ppsInEdge _ => true
  | .ppsInMissing => true
  | .evtPinEdge _ _ => true
  | .evtDebounceExpiry _ => true
  | .pcieRetrain _ _ _ _ => true
  | .upstreamHotReset => true
  | .tlpReceived src _ ecc => tlpOk src && dramOk ecc
  | .bar0Request _ _ _ _ _ => true
  | .bar4Request _ _ write _ ecc => dramOk ecc && writeOk write
  | .sendWindowWrite _ _ data => payloadOk data
  | .outboundRead _ _ _ enables => decide (1 ≤ enables.length) && decide (enables.length ≤ 4096)
  | .outboundWrite _ _ enables data => payloadOk data && enables.length == data.length
  | .prefetchExpiry _ => true
  | .postedWriteFailure _ => true
  | .lbBeatTimeout => true
  | .perrCaptureRelease => true
  | .lbRequest => true
  | .lbRequestRelease => true
  | .lbGrantMaxExpiry => true
  | .lbIntLow _ => true
  | .inboundCycle _ _ be lanes => be.length == lanes.length && lanes.all (fun l => l.length == 4)
  | .inboundReadDefer => true
  | .dtCompletionArrival _ _ _ => true
  | .dtSlotExpiry _ => true
  | .bridgeFramePerform _ => true
  | .maRead _ => true
  | .maWrite _ => true
  | .maCycleDone _ _ => true
  | .pswBrgCommit _ => true
  | .usbHubEnable _ _ => true
  | .usbUpVbusDetect => true
  | .localPortOvercurrent _ => true
  | .setPortPower _ _ _ => true
  | .portErrorDisable _ _ => true
  | .usb3PacketFrame _ _ _ => true
  | .usb3LinkStateFrame _ _ => true
  | .ttSplitReqFrame _ _ _ _ => true
  | .ttSplitResultFrame _ _ _ => true
  | .ttPortCmdFrame _ _ _ => true
  | .ttPortStatusFrame _ _ => true
  | .portStatusTimer _ => true
  | .portStatusTimeout _ => true
  | .startSplit _ _ _ _ _ _ _ _ _ _ _ => true
  | .completeSplit _ _ _ _ => true
  | .ttTimeoutExpiry _ _ => true
  | .ep1InToken => true
  | .ep2InToken => true
  | .regReadRequest _ _ => true
  | .regWriteRequest _ _ _ => true
  | .regWriteStatusStage _ => true
  | .ep3OutFrame _ _ => true
  | .usbBusReset _ => true
  | .clearEndpointHalt _ => true
  | .setConfiguration _ _ => true
  | .remoteWake _ _ => true
  | .remoteWakeEnd => true
  | .ccAttach _ _ => true
  | .ccDetach _ => true
  | .vbusSinkDetach _ _ => true
  | .drpToggle _ => true
  | .emarkerResponse _ _ => true
  | .pdRequestReceived _ _ _ => true
  | .sourceCapsReceived _ _ _ _ => true
  | .transitionStart _ => true
  | .vsetSlewStep _ => true
  | .vbusSettled _ _ => true
  | .transitionTimeout _ => true
  | .eprKeepaliveTimer _ => true
  | .eprKeepaliveMissing _ => true
  | .vbusFuseSlowTrip _ _ => true
  | .vbusFastTrip _ _ => true
  | .fuseRetryExpiry _ => true
  | .vbusSafeClose _ _ _ => true
  | .psRdyReceived _ => true
  | .tcPrSwap _ _ => true
  | .tcDrSwap _ _ => true
  | .tcVconnSwap _ _ => true
  | .tcHardReset _ => true
  | .tcSendCaps _ => true
  | .tcEnterMode _ => true
  | .tcExitMode _ _ => true
  | .tcClearFuse _ => true
  | .tcGetSrcCaps _ _ => true
  | .prSwapReceived _ => true
  | .drSwapReceived _ => true
  | .vconnSwapReceived _ => true
  | .hardResetReceived _ => true
  | .modeDiscoveryResponse _ _ => true
  | .modeEntryTimeout _ => true
  | .discoverReceived _ _ => true
  | .enterModeReceived _ _ _ => true
  | .displayportAttention _ _ => true
  | .vconnOvercurrent _ => true
  | .pdUnexpectedMessage _ _ _ => true
  | .goodcrcTimeout _ _ => true
  | .vbusOvervoltage _ _ => true
  | .aoEvaluation _ => true
  | .feedQualified _ _ => true
  | .pfwDeassert => true
  | .reverseCurrentOff _ => true
  | .hotswapEnable => true
  | .hotswapDisable _ => true
  | .rampStart => true
  | .rampComplete _ => true
  | .rampTimeout => true
  | .currentLimitEntry _ => true
  | .faultTimerExpiry => true
  | .hotswapFastTrip _ => true
  | .fetTempSample _ _ => true
  | .retryHoldEnd => true
  | .ppClear => true
  | .ppModelReset => true
  | .holdupEstimate => true
  | .journalReg _ addr _ => addr.toNat % 4 == 0
  | .journalCommit _ _ => true
  | .journalCkpt _ _ _ _ _ _ => true
  | .journalServo _ _ => true
  | .journalEvent _ _ => true
  | .journalFwd _ _ _ _ _ => true
  | .journalMode _ _ _ => true
  | .journalSwapCommit _ _ => true
  | .journalSnap _ _ => true
  | .jackReceived _ => true
  | .checkpointTimer => true
  | .servoJournalTimer => true
  | .resyncStart => true
  | .resyncComplete => true
  | .resyncReqReceived => true
  | .heartbeatFrame _ => true
  | .heartbeatLoss _ => true
  | .takeoverAssume => true
  | .fenceInRise => true
  | .fenceRelease => true
  | .pairOffer => true
  | .pairTakeover => true
  | .pairResync => true
  | .swapOfferReceived => true
  | .swapAcceptReceived => true
  | .swapRefuseReceived => true
  | .swapDrainDone => true
  | .swapDrainTimeout => true
  | .swapCommitAckReceived => true
  | .swapAbortReceived => true
  | .swapAckTimeout => true
  | .dockEnable _ => true
  | .crossingPulse _ _ _ => true
  | .crossingAck _ => true
  | .crossingStall _ => true
  | .regAccessTimeout _ addr _ => addr.toNat % 4 == 0
  | .clockReturn _ => true
  | .crossingResync _ _ => true
  | .cdcSelWrite _ => true
  | .cdcXclear => true
  | .faultRaise _ => true
  | .shedStepTimer => true
  | .escalationWindowEnd _ => true
  | .escClear _ => true
  | .fltUnshed => true
  | .fltFirstClr => true
  | .fltHistSnap => true
  | .fltMark _ => true
  | .eventCellTimer => true
  | .fltRxHdrRead => true
  | .fiArm _ _ => true
  | .sleepRequest _ => true
  | .s1Entry => true
  | .s1Exit => true
  | .sleepDrainDone => true
  | .sleepDrainTimeout => true
  | .sleepEntryComplete _ _ => true
  | .wakeCause _ => true
  | .wakeVready => true
  | .wakeClockDetected => true
  | .wakeResetDone _ _ _ => true
  | .wakeVreadyTimeout => true
  | .wakeClockTimeout => true
  | .wakeBackoffExpiry => true
  | .wakeFailClear => true
  | .aoWakeCmd => true
  | .aoTimerExpiry => true
  | .resetNAssert => true
  | .resetNRelease _ => true
  | .powerOnReset _ _ => true
  | .warmReset _ => true
  | .linkReset _ => true
  | .softReset _ => true
  | .softResetDone _ => true
  | .coreSupplyLoss => true
  | .externalWipeDone => true
  | .rb7DataAccess _ => true
  | .lcRequest _ _ _ => true
  | .lcProgramDone => true
  | .authNewChallenge _ => true
  | .authUnlockChallenge _ => true
  | .authDeauth _ => true
  | .authResponse _ _ => true
  | .authChallengeExpiry _ => true
  | .authLockoutEnd _ => true
  | .releaseOkExpiry => true
  | .crChallenge _ => true
  | .sealCps _ => true
  | .keySubmit _ => true
  | .keyLoadClr _ _ => true
  | .keyErase _ _ => true
  | .keyEngineSelect _ _ _ => true
  | .pageEnableWrite _ _ => true
  | .pageLock _ => true
  | .counterLowWordRead _ addr => addr.toNat % 4 == 0
  | .mgmtRead => true
  | .mgmtWrite => true
  | .mgmtWriteList => true
  | .mgmtReplyDelivery _ => true
  | .mbTxGo _ => true
  | .mbRxRead => true
  | .spiRead _ _ => true
  | .spiReadFixed _ _ => true
  | .spiWrite _ _ part => decide (part.length ≤ 3)
  | .spiWriteFixed _ _ part => decide (part.length ≤ 3)
  | .spiStatus => true
  | .spiCsRise _ => true
  | .dieTempSample _ _ => true
  | .supplyWindowExit _ => true
  | .macLinkUp _ _ => true
  | .pcieLinkDown _ => true
  | .pcieLinkUp _ _ _ => true
  | .pcieCompletionTimeout => true
  | .localBusCycleEnd _ _ => true
  | .dpLinkTrainingDone _ _ => true
  | .dpIrqHpd _ => true
  | .usbUpLinkLoss _ => true
  | .usbBusSuspend _ _ => true
  | .usbHostResume => true
  | .usbPortConnectChange _ _ _ _ => true
  | .hubPortFeatureRequest _ _ => true
  | .setInterface _ _ => true
  | .eprModeReceived _ _ => true
  | .eprKeepaliveReceived _ => true
  | .vbusDischarged _ => true
  | .fenceInFall => true
  | .jackSendTimer => true
  | .journalCrcError _ => true
  | .vddAoPowerLoss => true
  | .supplyWindowReturn _ => true
  | .sbBadFrameReceived frame => frame.bytes.length ≤ 14

end Sys2Proof
end

