-- ==== Sys2Proof/Tests/Slice0.lean ====
section
/-!
SUPPORT. The model's own tests: ill-formed commands that the check refuses, single steps on small states with results
taken from the spec, and for every clause of a statement a state and operands that meet its conditions.
-/
namespace Sys2Proof.Tests
open Sys2Proof Sys2Proof.Machine

-- One theorem after another: the evaluations are long, and many at once exceed the limit on memory.
set_option Elab.async false

/-- An entry put into a sparse map at its place. -/
def put (k : Nat) (v : Word) : SMap Word → SMap Word
  | [] => [(k, v)]
  | e :: m => if k < e.1 then (k, v) :: e :: m else if k = e.1 then (k, v) :: m else e :: put k v m

/-- The registers named hold the values given. -/
def up (b : State) (l : List (Nat × Word)) : State := { b with regs := l.foldl (fun m p => put p.1 p.2 m) b.regs }

/-- The hub die runs, in COLD, with `RESET_N` high. -/
def b0 : State := up { State.reset with pwr := { resetLow := false } } [(R.AO_STATUS, 0), (R.DEV_MODE, 0), (R.PM_STATUS, regReset R.PM_STATUS)]

/-- A path that was given a challenge, and the key that judges its answer. -/
def authWit : State :=
  apSet .jtag { chal := some [0x80] } (setSlot 3 { valid := true, key := List.replicate 32 7, dest := 5, lcMask := 8 } (up b0 [(R.SEC_STATUS, 0xB), (R.KEY_ENG 5, 3)]))

/-- Words put into the image buffers. -/
def bufPut (base : Nat) (l : List Word) (s : State) : State :=
  { s with buf := l.zipIdx.foldl (fun m w => smSet (fun _ => 0) m (base + w.2 * 4) w.1) s.buf }

/-- A release message under a MAC key of 32 bytes 7. -/
def msg : List Byte :=
  let head : List Byte := [0x5D, 0x76, 1, 2] ++ idBytes ++ [0, 1, 0, 0, 5, 0, 8] ++ List.replicate 77 0
  head ++ hmac (List.replicate 32 7) head

/-- The message in KEY.MSG0 to 31, and slot 3 with its MAC key named for engine 6. -/
def msgState : State :=
  let s := setSlot 3 { valid := true, key := List.replicate 32 7, dest := 6, lcMask := 8 } (up b0 [(R.SEC_STATUS, 0x1B), (R.KEY_ENG 6, 3)])
  { s with buf := (List.range 32).map (fun i => (R.KEY_MSG 0 + i * 4, BitVec.ofNat 32 (ofBE (sub msg (4 * i) 4)))) }

theorem msg_length : msg.length = 128 := by
  simp only [msg, List.length_append, hmac_length, idBytes, bytesBE_length]; rfl

theorem msg_bytes : bufBytes msgState (R.KEY_MSG 0) 32 = msg := by
  refine Eq.trans ?_ (words_join 32 msg msg_length)
  rfl

theorem msg_mac : sub msg 96 32 = hmac (List.replicate 32 7) (msg.take 96) := by
  have hl : ([0x5D, 0x76, 1, 2] ++ idBytes ++ [0, 1, 0, 0, 5, 0, 8] ++ List.replicate 77 0 : List Byte).length = 96 := by
    simp only [List.length_append, idBytes, bytesBE_length]; rfl
  simp only [msg, sub]
  rw [List.drop_left' hl, List.take_left' hl]
  exact List.take_of_length_le (le_of_eq (hmac_length _ _))

theorem msg_passes : msgCheck msgState msg = (0, []) := by
  have e : engineOr msgState 6 "UV" = List.replicate 32 7 := by decide +kernel
  have i : sub msg 4 8 = idBytes := rfl
  have f : msgFormatOk msg = true := rfl
  have t : byteAt msg 3 = 2 := rfl
  have c : ofBE (sub msg 12 2) = 1 := rfl
  have l : lc msgState = lcField := by decide +kernel
  have g : getF msgState fFloor = 0 := by decide +kernel
  have a : byteAt msg 14 = 0 ∧ attrOk (byteAt msg 16) (byteAt msg 18) = true := ⟨rfl, rfl⟩
  have b : bit msgState fLcBusy = false ∧ bit msgState fRootOk = true ∧ bit msgState fCpsSealed = true := by decide +kernel
  simp [msgCheck, e, i, f, t, c, l, g, a, b, msg_mac]

theorem append_high (a x : BitVec 32) : (a ++ x).toNat / 2 ^ 32 = a.toNat := by
  have := x.isLt
  rw [BitVec.toNat_append, Nat.shiftLeft_eq, Nat.mul_comm, ← Nat.two_pow_add_eq_or_of_lt this]; omega

theorem append_low (a x : BitVec 32) : (a ++ x).setWidth 32 = x := by
  apply BitVec.eq_of_toNat_eq
  have := x.isLt
  rw [BitVec.toNat_setWidth, BitVec.toNat_append, Nat.shiftLeft_eq, Nat.mul_comm, ← Nat.two_pow_add_eq_or_of_lt this]; omega

theorem append_bits (a x : BitVec 32) (lo w : Nat) : bits (a ++ x).toNat (32 + lo) w = bits a.toNat lo w := by
  rw [bits, bits, Nat.pow_add, ← Nat.div_div_eq_div_mul, append_high]

/-- A request frame has come in on EP3 and been acknowledged. -/
def ep3State : State :=
  setAct R.DEV_HID 0 { up b0 [(R.USBD_CTRL, 9), (R.USB2_CTRL, 0x11), (R.USB2_STATUS, 3), (R.USBD_STATUS, 3)]
    with usb := { b0.usb with up2 := 0, port8 := psEnabled } }
def ep3Wit : State :=
  { bump R.USBD_EP3_FRAMES ep3State with usb := { ep3State.usb with toggle := smSet (fun _ => false) ep3State.usb.toggle 3 (!toggleGet ep3State 3) }, out := [.usb 0xD2 []] }

theorem pair_fst {α β γ : Type} {x : α × β × γ} {a : α} (h : x.1 = a) : ∃ r u, x = (a, r, u) := ⟨x.2.1, x.2.2, by rw [← h]⟩

theorem four_words (f : Nat → Word) : ∀ i ∈ List.range 4, (#v[f 0, f 1, f 2, f 3] : Vector Word 4).toList.getD i 0 = f i := by
  intro i hi
  have : i = 0 ∨ i = 1 ∨ i = 2 ∨ i = 3 := by simp at hi; omega
  rcases this with rfl | rfl | rfl | rfl <;> rfl

/-! ### States and operands that meet the conditions of each clause of the statements -/

theorem meets_ModeCommandsComplete :
    -- MODE_REQUEST
    (∃ (p : Path) (target : BitVec 3) (s : State), Runs s ∧ bit s fReqBusy = false ∧ bit s fSwapping = false ∧
     bit s ⟨R.SEC_LC_STATUS, 0, 1⟩ = false ∧ requestable s target.toNat = true) ∧
    -- MODE_TRANSITION_COMPLETE
    (∃ (p : Path) (s : State), Runs s ∧ s.modes.req = some ⟨mSolo, p⟩ ∧ mode s = mCold ∧
     requestCheck s ⟨mSolo, p⟩ = 0) ∧
    -- ISLAND_GRACE_EXPIRY
    (∃ (s : State), Runs s ∧ islandArmed s = true ∧ (getA s fUpstream ≤ 3 ∨ getA s fUpstream = 5) ∧
     upstreamThere s (getA s fUpstream) = false ∧ graceStart s (getA s fUpstream) + graceTicks s ≤ s.ticks) ∧
    -- HOST_WATCHDOG_EXPIRY
    (∃ (s : State), Runs s ∧ islandArmed s = true ∧ wdogTicks s ≠ 0 ∧ s.modes.wdogTick + wdogTicks s ≤ s.ticks) ∧
    -- HOST_KICK
    (∃ (s : State), Runs s) ∧
    -- DEV_COMMIT
    (∃ (s : State), Runs s ∧ mode s ≠ mStandby ∧ (mode s = mCold ∨
     getF s ⟨R.DEV_HID, 0, 6⟩ = getA s ⟨R.DEV_HID, 0, 6⟩)) :=
  ⟨⟨.bar0, 5, up b0 [], by unfold Runs; decide +kernel⟩,
   ⟨.spi, { up b0 [(R.DEV_HID, 0x100), (R.RST_STATUS, 1)] with modes := { req := some ⟨mSolo, .spi⟩ } }, by unfold Runs; decide +kernel⟩,
   ⟨{ setAct R.DEV_ISLAND_CTRL 0x101 (up b0 [(R.DEV_MODE, 1), (R.LINK_STATUS 0, 0)]) with ticks := b0.ticks + 900000000 }, by unfold Runs; decide +kernel⟩,
   ⟨{ setAct R.DEV_ISLAND_WDOG 1 (setAct R.DEV_ISLAND_CTRL 1 (up b0 [(R.DEV_MODE, 1)])) with ticks := 250000 }, by unfold Runs; decide +kernel⟩,
   ⟨up b0 [(R.DEV_MODE, 0x204)], by unfold Runs; decide +kernel⟩,
   ⟨up b0 [(R.DEV_HID, 9)], by unfold Runs; decide +kernel⟩⟩

theorem meets_SpeedCommandsComplete :
    -- LEVEL_REQUEST
    (∃ (target : BitVec 2) (s : State), Awake s ∧ bit s fChanging = false ∧ s.pwr.entry < 2 ∧ level s < target.toNat) ∧
    -- LEVEL_VREADY
    (∃ (s : State), Runs s ∧ s.pwr.level = .lowerVolt) ∧
    -- LEVEL_RIM_CHANGE_DONE
    (∃ (s : State), Runs s ∧ s.disp.bar4 = [] ∧ s.disp.held = [] ∧ s.pwr.level = .lowerRim) ∧
    -- LEVEL_VREADY_TIMEOUT
    (∃ (s : State), Runs s ∧ s.pwr.level = .raiseVolt) ∧
    -- LEVEL_RIM_CHANGE_DONE
    (∃ (s : State), Runs s ∧ s.disp.bar4 = [] ∧ s.disp.held = [] ∧ s.pwr.level = .wipeRim) ∧
    -- LEVEL_VREADY
    (∃ (s : State), Runs s ∧ s.pwr.level = .wipeVolt) ∧
    -- LEVEL_VREADY_TIMEOUT
    (∃ (s : State), Runs s ∧ s.pwr.level = .wipeVolt) ∧
    -- SPEED_GAUGE_SAMPLE
    (∃ (cycle : BitVec 16) (s : State), Runs s ∧ bit s fSlow = false ∧ cycle.toNat ≤ (reg s R.SPD_LIMIT_PS).toNat) ∧
    -- PACE_GUARD_STEP
    (∃ (s : State), Runs s ∧ bit s fPaceEn = true ∧ bit s fSlow = true ∧ getF s fPaced < 4) ∧
    -- PACE_GUARD_DISABLE
    (∃ (s : State), Runs s) ∧
    -- SPD_EXTREME_READ
    (∃ (max : Bool) (s : State), Runs s) :=
  ⟨⟨3, up b0 [], by unfold Awake; decide +kernel⟩,
   ⟨{ up b0 [(R.PM_STATUS, 0x117)] with pwr := { b0.pwr with level := .lowerVolt } }, by unfold Runs; decide +kernel⟩,
   ⟨{ up b0 [(R.PM_STATUS, 0x117), (R.MEM_STATUS, 0x11)] with pwr := { b0.pwr with level := .lowerRim } }, by unfold Runs; decide +kernel⟩,
   ⟨{ up b0 [(R.PM_STATUS, 0x1D)] with pwr := { b0.pwr with level := .raiseVolt } }, by unfold Runs; decide +kernel⟩,
   ⟨{ up b0 [(R.PM_STATUS, 0x15), (R.MEM_STATUS, 0x21), (R.PM_VCODE, 52)] with pwr := { b0.pwr with level := .wipeRim } }, by unfold Runs; decide +kernel⟩,
   ⟨{ up b0 [(R.PM_STATUS, 0x15)] with pwr := { b0.pwr with level := .wipeVolt } }, by unfold Runs; decide +kernel⟩,
   ⟨{ up b0 [(R.PM_STATUS, 0x15)] with pwr := { b0.pwr with level := .wipeVolt } }, by unfold Runs; decide +kernel⟩,
   ⟨18204, up b0 [(R.SPD_CYCLE_PS, 0xFFFF0001)], by unfold Runs; decide +kernel⟩,
   ⟨up b0 [(R.SPD_PACE_GUARD, 1), (R.SPD_STATUS, 0xF)], by unfold Runs; decide +kernel⟩,
   ⟨up b0 [(R.SPD_PACE_GUARD, 1), (R.SPD_STATUS, 0xF)], by unfold Runs; decide +kernel⟩,
   ⟨true, up b0 [(R.SPD_CYCLE_MAX, 77)], by unfold Runs; decide +kernel⟩⟩

theorem meets_LinkLossCommandsComplete :
    -- DETECT_TIMEOUT
    (∃ (n : Port) (s : State), Runs s ∧ linkState s n = lsDetect) ∧
    -- TRAIN_TIMEOUT
    (∃ (n : Port) (s : State), Runs s ∧ linkState s n = lsTrain) ∧
    -- LINK_LOSS
    (∃ (n : Port) (s : State), Runs s ∧ linkState s n ≠ lsDown ∧ linkState s n ≠ lsDetect) ∧
    -- SIDEBAND_LOSS
    (∃ (n : Port) (s : State), Runs s ∧ (linkState s n = lsUp ∨ linkState s n = lsLowpower)) ∧
    -- RETRAIN_TIMEOUT
    (∃ (n : Port) (s : State), Runs s ∧ linkState s n = lsRetrain) ∧
    -- AUTH_FRAME_MISSING
    (∃ (n : Port) (s : State), Runs s ∧ linkState s n = lsAuth ∧ ¬ ((lGet s n).authOk ∧ (lGet s n).peerDone)) ∧
    -- LINK_FORCE_DOWN
    (∃ (n : Port) (s : State), Runs s ∧ linkState s n ≠ lsDown) :=
  ⟨⟨1, up b0 [(R.LINK_STATUS 1, 0x1)], by unfold Runs; decide +kernel⟩,
   ⟨1, up b0 [(R.LINK_STATUS 1, 0x2)], by unfold Runs; decide +kernel⟩,
   ⟨4, up b0 [(R.LINK_STATUS 4, 4)], by unfold Runs; decide +kernel⟩,
   ⟨1, up b0 [(R.LINK_STATUS 1, 0x5)], by unfold Runs; decide +kernel⟩,
   ⟨1, up b0 [(R.LINK_STATUS 1, 0x6)], by unfold Runs; decide +kernel⟩,
   ⟨1, up b0 [(R.LINK_STATUS 1, 0x3)], by unfold Runs; decide +kernel⟩,
   ⟨1, up b0 [(R.LINK_STATUS 1, 0x4)], by unfold Runs; decide +kernel⟩⟩

theorem meets_LinkStateCommandsComplete :
    -- TRAIN_LANES_LOCKED
    (∃ (n : Port) (mask : BitVec 4) (s : State), Runs s ∧ linkState s n = lsTrain ∧ ((n.val = 4 ∧
     mask.toNat % 2 = 1) ∨ (n.val ≠ 4 ∧ 2 ≤ popcount 4 mask.toNat))) ∧
    -- STORED_COEFF_LOCK_TIMEOUT
    (∃ (n : Port) (k : Fin 4) (s : State), Runs s ∧ linkState s n = lsRetrain ∧ (linkLanes n).contains k.val = true) ∧
    -- RETRAIN_SUCCESS
    (∃ (n : Port) (mask : BitVec 4) (s : State), Runs s ∧ linkState s n = lsRetrain ∧ ((n.val = 4 ∧
     untested s n mask.toNat % 2 = 1) ∨ (n.val ≠ 4 ∧ 2 ≤ popcount 4 (untested s n mask.toNat)))) ∧
    -- LP_IDLE_TIMER
    (∃ (n : Port) (s : State), Runs s ∧ lpIdle s n = true ∧ (lGet s n).lpAsked = false) ∧
    -- LOWPOWER_EXIT
    (∃ (n : Port) (own : Bool) (s : State), Runs s ∧ linkState s n = lsLowpower) ∧
    -- HOLD_EXPIRY
    (∃ (n : Port) (s : State), Runs s ∧ holdRuns s n = true) ∧
    -- RETRY_EXPIRY
    (∃ (n : Port) (s : State), Runs s ∧ linkState s n = lsDown ∧ (lGet s n).retrying = true ∧
     ((lGet s n).veser = true ∨ n.val = 4) ∧ (s.pair.fenced = false ∨ n.val = 4) ∧ (lGet s n).testHold = false ∧
     s.pwr.entry < 3 ∧ bit s ⟨R.LINK_CTRL n, 0, 1⟩ = true ∧ bit s (fForceDown n) = false) ∧
    -- ROLE_CELL_TIMER
    (∃ (n : Port) (s : State), Runs s ∧ (linkState s n = lsUp ∨ linkState s n = lsLowpower)) ∧
    -- FEC_RATE_INTERVAL
    (∃ (n : Port) (s : State), Runs s ∧
     ((linkLanes n).map (fun k => cnt64 s (R.LANE_FEC_UNCORR_CW (lanePage n k)))).sum ≤ (lGet s n).fecSeen + getF s ⟨R.LINK_FEC_THRESH n, 0, 16⟩) ∧
    -- FEC_RATE_INTERVAL
    (∃ (n : Port) (s : State), Runs s ∧
     (lGet s n).fecSeen + getF s ⟨R.LINK_FEC_THRESH n, 0, 16⟩ < ((linkLanes n).map (fun k => cnt64 s (R.LANE_FEC_UNCORR_CW (lanePage n k)))).sum) :=
  ⟨⟨1, 15, up b0 [(R.LINK_STATUS 1, 0x2)], by unfold Runs; decide +kernel⟩,
   ⟨1, 3, up b0 [(R.LINK_STATUS 1, 6), (R.LANE_STATUS 7, 0xFF)], by unfold Runs; decide +kernel⟩,
   ⟨1, 6, lSet 1 { lGet b0 1 with awaitGood := true, replay := [⟨4, 0, [], 1⟩, ⟨5, 0, [], 0⟩] } (up b0 [(R.LINK_STATUS 1, 0x3346)]), by unfold Runs; decide +kernel⟩,
   ⟨3, { up b0 [(R.LINK_STATUS 3, 4), (R.LINK_CTRL 3, 0x104)] with ticks := b0.ticks + 250 }, by unfold Runs; decide +kernel⟩,
   ⟨1, true, up b0 [(R.LINK_STATUS 1, 0x5)], by unfold Runs; decide +kernel⟩,
   ⟨1, lSet 1 { lGet b0 1 with holding := true } b0, by unfold Runs; decide +kernel⟩,
   ⟨2, lSet 2 { lGet b0 2 with retrying := true, veser := true } (up b0 [(R.LINK_HOLD_STATUS 2, 2), (R.LINK_STATUS 2, 0), (R.LINK_CTRL 2, 1)]), by unfold Runs; decide +kernel⟩,
   ⟨4, up b0 [(R.LINK_STATUS 4, 4)], by unfold Runs; decide +kernel⟩,
   ⟨0, up b0 [(R.LANE_FEC_UNCORR_CW 3, 4), (R.LINK_FEC_THRESH 0, 4)], by unfold Runs; decide +kernel⟩,
   ⟨1, up b0 [(R.LANE_FEC_UNCORR_CW (lanePage 1 0), 9), (R.LINK_FEC_THRESH 1, 3)], by unfold Runs; decide +kernel⟩⟩

theorem meets_BlockCommandsComplete_2 :
    ∃ (n : Port) (turned : Bool) (data : List Byte) (trailer : BitVec 64) (s : State), Runs s ∧
    linkState s n = lsUp ∧ (turned = false ∨ (lGet s n).splitStep ≠ .turning) ∧
    blockCrc (padTo 512 data) (trailer.toNat / 2 ^ 32) = trailer.setWidth 32 ∧ (lGet s n).rxE < 4096 ∧
    bits trailer.toNat 52 12 = (lGet s n).rxE ∧ (bit s (fCipher n) = true →
    bits trailer.toNat 51 1 = generation (lGet s n).rxBlocks % 2) := by
  refine ⟨1, false, [], 131072#32 ++ blockCrc (padTo 512 []) 131072, up b0 [(R.LINK_STATUS 1, 0x4)], by unfold Runs; decide +kernel,
    by decide +kernel, Or.inl rfl, ?_, by decide +kernel, ?_, ?_⟩
  · rw [append_high, append_low]; rfl
  · rw [append_bits 131072#32 _ 20 12]; decide +kernel
  · intro h; exact absurd h (by decide +kernel)

theorem meets_BlockCommandsComplete :
    -- LINK_BLOCK_RECEIVED
    (∃ (n : Port) (turned : Bool) (data : List Byte) (trailer : BitVec 64) (s : State), Runs s ∧
     linkState s n = lsUp ∧ (turned = false ∨ (lGet s n).splitStep ≠ .turning)) ∧
    -- LINK_BLOCK_RECEIVED
    (∃ (n : Port) (turned : Bool) (data : List Byte) (trailer : BitVec 64) (s : State), Runs s ∧
     linkState s n = lsUp ∧ (turned = false ∨ (lGet s n).splitStep ≠ .turning) ∧
     blockCrc (padTo 512 data) (trailer.toNat / 2 ^ 32) = trailer.setWidth 32 ∧ (lGet s n).rxE < 4096 ∧
     bits trailer.toNat 52 12 = (lGet s n).rxE ∧ (bit s (fCipher n) = true →
     bits trailer.toNat 51 1 = generation (lGet s n).rxBlocks % 2)) ∧
    -- NAK_RECEIVED
    (∃ (n : Port) (lseq : BitVec 12) (s : State), Runs s ∧ linkState s n = lsUp ∧ dataStands s n = false ∧
     ((lGet s n).nakCount < 8 ∨ (lGet s n).nakSeq ≠ lseq.toNat)) ∧
    -- ACK_RECEIVED
    (∃ (n : Port) (lseq : BitVec 12) (k : Nat) (s : State), Runs s ∧ (lGet s n).splitStep ≠ .ending ∧
     (lGet s n).replay.findIdx? (fun x => x.lseq == lseq.toNat) = some k) ∧
    -- ACK_SEND_TIMER
    (∃ (n : Port) (s : State), Runs s ∧ linkState s n = lsUp ∧ (lGet s n).rxSinceAck ≠ 0) ∧
    -- ACK_TIMEOUT
    (∃ (n : Port) (s : State), Runs s ∧ linkState s n = lsUp ∧ dataStands s n = false ∧ (lGet s n).replay ≠ [] ∧
     (lGet s n).ackExpiries < 3) ∧
    -- ROLE_CELL_RECEIVED
    (∃ (n : Port) (role : BitVec 8) (epoch : Word) (s : State), Runs s ∧ linkState s n = lsUp ∧ n.val ≠ 4 ∧
     bit s fDockEn = false) ∧
    -- CRD_RESYNC_RECEIVED
    (∃ (n : Port) (counts : Vector (BitVec 16) 8) (s : State), Runs s ∧ linkState s n = lsUp ∧
     (∀ c ∈ List.range 8, (counts.toList.getD c 0).toNat ≤ 4095)) ∧
    -- CTAG_RECEIVED
    (∃ (n : Port) (seg : BitVec 64) (tag : List Byte) (s : State), Runs s ∧ linkState s n = lsUp ∧
     bit s (fCipher n) = true ∧ (lGet s n).tagWait = some (seg.toNat, tag)) ∧
    -- CTAG_DEADLINE
    (∃ (n : Port) (w : Nat) (tag : List Byte) (s : State), Runs s ∧ linkState s n = lsUp ∧
     (lGet s n).tagWait = some (w, tag) ∧ 64 * w + 66 ≤ (lGet s n).rxBlocks ∧ w % 2 ^ 23 ≠ 0) :=
  ⟨⟨1, false, [], 0, up b0 [(R.LINK_STATUS 1, 0x4)], by unfold Runs; decide +kernel⟩,
   meets_BlockCommandsComplete_2,
   ⟨1, 5, lSet 1 { lGet b0 1 with replay := [⟨4, 0, [], 1⟩, ⟨5, 0, [], 0⟩] } (up b0 [(R.LINK_STATUS 1, 0x3344)]), by unfold Runs; decide +kernel⟩,
   ⟨1, 5, 1, lSet 1 { lGet b0 1 with replay := [⟨4, 0, [], 1⟩, ⟨5, 0, [], 0⟩] } (up b0 [(R.LINK_STATUS 1, 0x4)]), by unfold Runs; decide +kernel⟩,
   ⟨1, lSet 1 { lGet b0 1 with rxSinceAck := 1 } (up b0 [(R.LINK_STATUS 1, 0x4)]), by unfold Runs; decide +kernel⟩,
   ⟨1, lSet 1 { lGet b0 1 with ackExpiries := 2, replay := [⟨4, 0, [], 1⟩, ⟨5, 0, [], 0⟩] } (up b0 [(R.LINK_STATUS 1, 0x3344)]), by unfold Runs; decide +kernel⟩,
   ⟨1, 2, 7, up b0 [(R.LINK_STATUS 1, 0x4)], by unfold Runs; decide +kernel⟩,
   ⟨1, ⟨#[0, 1, 2, 3, 4, 5, 6, 4095], rfl⟩, up b0 [(R.LINK_STATUS 1, 0x4)], by unfold Runs; decide +kernel⟩,
   ⟨1, 3, [1], lSet 1 { lGet b0 1 with tagWait := some (3, [1]) } (up b0 [(R.LINK_STATUS 1, 0x10004)]), by unfold Runs; decide +kernel⟩,
   ⟨1, 3, [1], lSet 1 { lGet b0 1 with tagWait := some (3, [1]), rxBlocks := 258 } (up b0 [(R.LINK_STATUS 1, 0x10004)]), by unfold Runs; decide +kernel⟩⟩

theorem meets_SplitCommandsComplete_5 :
    ∃ (n : Port) (data : List Byte) (trailer : BitVec 64) (s : State), Runs s ∧ linkState s n = lsUp ∧
    (lGet s n).splitStep = .acked ∧ blockCrc (padTo 512 data) (trailer.toNat / 2 ^ 32) = trailer.setWidth 32 ∧
    (lGet s n).rxE < 4096 ∧ bits trailer.toNat 52 12 = (lGet s n).rxE ∧ bits trailer.toNat 48 3 = 1 ∧
    (bit s (fCipher n) = true → bits trailer.toNat 51 1 = generation (lGet s n).rxBlocks % 2) := by
  refine ⟨1, [], 65536#32 ++ blockCrc (padTo 512 []) 65536, lSet 1 { lGet b0 1 with splitStep := .acked, splitTarget := 2 } (up b0 [(R.LINK_STATUS 1, 0x3394)]),
    by unfold Runs; decide +kernel, by decide +kernel, rfl, ?_, by decide +kernel, ?_, ?_, ?_⟩
  · rw [append_high, append_low]; rfl
  · rw [append_bits 65536#32 _ 20 12]; decide +kernel
  · rw [append_bits 65536#32 _ 16 3]; decide +kernel
  · intro h; exact absurd h (by decide +kernel)

theorem meets_SplitCommandsComplete :
    -- SPLIT_REQUEST
    (∃ (n : Port) (target : BitVec 3) (s : State), Runs s ∧ n.val ≠ 4 ∧ linkState s n = lsUp ∧
     bit s (fSplitting n) = false ∧ splitIllegal s n target.toNat = false) ∧
    -- SB_SPLIT_REQ_RECEIVED
    (∃ (n : Port) (target : BitVec 8) (s : State), Runs s ∧ n.val ≠ 4 ∧ linkState s n = lsUp ∧
     (lGet s n).splitStep = .idle ∧ bit s (fSplitting n) = false ∧ splitIllegal s n target.toNat = false ∧
     bit s ⟨R.LINK_CTRL n, 3, 1⟩ = true) ∧
    -- SB_SPLIT_ACK_RECEIVED
    (∃ (n : Port) (target : BitVec 8) (s : State), Runs s ∧ linkState s n = lsUp ∧
     (lGet s n).splitStep = .requested ∧ (lGet s n).splitOwn = true ∧ (lGet s n).splitTarget = target.toNat ∧
     losesLane s n = false) ∧
    -- SB_SPLIT_NAK_RECEIVED
    (∃ (n : Port) (target reason : BitVec 8) (s : State), Runs s ∧ (lGet s n).splitStep = .requested ∧
     (lGet s n).splitOwn = true) ∧
    -- TURN_BLOCK_RECEIVED
    (∃ (n : Port) (data : List Byte) (trailer : BitVec 64) (s : State), Runs s ∧ linkState s n = lsUp ∧
     (lGet s n).splitStep = .acked ∧ blockCrc (padTo 512 data) (trailer.toNat / 2 ^ 32) = trailer.setWidth 32 ∧
     (lGet s n).rxE < 4096 ∧ bits trailer.toNat 52 12 = (lGet s n).rxE ∧ bits trailer.toNat 48 3 = 1 ∧
     (bit s (fCipher n) = true → bits trailer.toNat 51 1 = generation (lGet s n).rxBlocks % 2)) ∧
    -- TURNED_LANES_LOCKED
    (∃ (n : Port) (s : State), Runs s ∧ linkState s n = lsUp ∧ (lGet s n).splitStep = .turning ∧ losesLane s n = true) ∧
    -- TURN_DONE_RECEIVED
    (∃ (n : Port) (split : BitVec 8) (s : State), Runs s ∧ linkState s n = lsUp ∧ (lGet s n).splitStep = .turning ∧
     (lGet s n).splitTarget = split.toNat) ∧
    -- TURN_LOCK_TIMEOUT
    (∃ (n : Port) (s : State), Runs s ∧ linkState s n = lsUp ∧ ((lGet s n).splitStep = .turning ∨
     (lGet s n).splitStep = .acked ∨ (lGet s n).splitStep = .ending)) :=
  ⟨⟨1, 2, up b0 [(R.LINK_STATUS 1, 0x3314)], by unfold Runs; decide +kernel⟩,
   ⟨1, 2, up b0 [(R.LINK_STATUS 1, 0x3314), (R.LINK_CTRL 1, 8)], by unfold Runs; decide +kernel⟩,
   ⟨1, 2, lSet 1 { lGet b0 1 with splitStep := .requested, splitOwn := true, splitTarget := 2 } (up b0 [(R.LINK_STATUS 1, 0x331C)]), by unfold Runs; decide +kernel⟩,
   ⟨1, 2, 1, lSet 1 { lGet b0 1 with splitStep := .requested, splitOwn := true, splitTarget := 2 } (up b0 [(R.LINK_STATUS 1, 0x3394)]), by unfold Runs; decide +kernel⟩,
   meets_SplitCommandsComplete_5,
   ⟨1, lSet 1 { lGet b0 1 with splitStep := .turning, splitTarget := 2 } (up b0 [(R.LINK_STATUS 1, 0x3394)]), by unfold Runs; decide +kernel⟩,
   ⟨1, 2, lSet 1 { lGet b0 1 with splitStep := .turning, splitTarget := 2 } (up b0 [(R.LINK_STATUS 1, 0x3394)]), by unfold Runs; decide +kernel⟩,
   ⟨1, lSet 1 { lGet b0 1 with splitStep := .turning, splitTarget := 2 } (up b0 [(R.LINK_STATUS 1, 0x3394)]), by unfold Runs; decide +kernel⟩⟩

theorem meets_SidebandCommandsComplete :
    -- SIDEBAND_SLOT
    (∃ (n : Port) (phase : Fin 3) (ffe : Option (Fin 4 × BitVec 10)) (type : Nat) (p : List Byte) (rest : List (Nat × List Byte)) (s : State), Runs s ∧
     ((lGet s n).veser = true ∨ n.val = 4) ∧ (lGet s n).sbOut = (type, p) :: rest ∧ type ≠ 0x09 ∧ type ≠ 0x11 ∧
     type ≠ 0x42) ∧
    -- SB_IDLE_RECEIVED
    (∃ (n : Port) (s : State), Runs s ∧ linkState s n = lsDetect) ∧
    -- SB_TRAIN_STATE_RECEIVED
    (∃ (n : Port) (phase locked stored : Byte) (s : State), Runs s ∧ linkState s n = lsTrain ∧ phase ≠ 0 ∧
     phase.toNat ≤ 3 ∧ locked.toNat ≤ 15 ∧ stored.toNat ≤ 15) ∧
    -- SB_FFE_REQ_RECEIVED
    (∃ (n : Port) (lane codes0 codes1 : Byte) (s : State), Runs s ∧ linkState s n = lsTrain ∧
     (linkLanes n).contains lane.toNat = true ∧
     tapsOk (tapsAsked (tapsOf (reg s (R.LANE_FFE (lanePage n lane.toNat))).toNat) codes0 codes1) = true ∧
     bit s ⟨R.LANE_CTRL (lanePage n lane.toNat), 0, 1⟩ = false) ∧
    -- SB_FFE_REQ_RECEIVED
    (∃ (n : Port) (lane codes0 codes1 : Byte) (s : State), Runs s ∧ linkState s n = lsTrain ∧
     (linkLanes n).contains lane.toNat = true ∧
     (tapsOk (tapsAsked (tapsOf (reg s (R.LANE_FFE (lanePage n lane.toNat))).toNat) codes0 codes1) = false ∨
     bit s ⟨R.LANE_CTRL (lanePage n lane.toNat), 0, 1⟩ = true)) ∧
    -- SB_FFE_STATUS_RECEIVED
    (∃ (n : Port) (payload : Vector Byte 7) (s : State), Runs s ∧ linkState s n ≠ lsDetect) ∧
    -- SB_LP_REQ_RECEIVED
    (∃ (n : Port) (s : State), Runs s ∧ linkState s n = lsUp) ∧
    -- SB_LP_ACK_RECEIVED
    (∃ (n : Port) (s : State), Runs s ∧ lpIdle s n = true ∧ (lGet s n).lpAsked = true) ∧
    -- SB_LP_NAK_RECEIVED
    (∃ (n : Port) (s : State), Runs s) ∧
    -- SB_WAKE_RECEIVED
    (∃ (n : Port) (s : State), Runs s ∧ linkState s n = lsDetect) ∧
    -- SB_WAKE_RECEIVED
    (∃ (n : Port) (s : State), Runs s ∧ linkState s n = lsDown ∧ (lGet s n).retrying = true ∧
     ((lGet s n).veser = true ∨ n.val = 4) ∧ (s.pair.fenced = false ∨ n.val = 4) ∧ (lGet s n).testHold = false ∧
     s.pwr.entry < 3 ∧ bit s ⟨R.LINK_CTRL n, 0, 1⟩ = true ∧ bit s (fForceDown n) = false) ∧
    -- SB_DOWN_REASON_RECEIVED
    (∃ (n : Port) (reason : Byte) (s : State), Runs s ∧ linkState s n ≠ lsDown ∧ linkState s n ≠ lsDetect) ∧
    -- SB_BAD_FRAME_RECEIVED
    (∃ (n : Port) (frame : List Byte) (s : State), Runs s ∧ sbParse frame = none) ∧
    -- SB_BAD_FRAME_RECEIVED
    (∃ (n : Port) (frame p : List Byte) (type : Nat) (s : State), Runs s ∧ sbParse frame = some (type, p)) :=
  ⟨⟨1, 2, none, 8, [2], [(1, [])], lSet 1 { lGet b0 1 with veser := true, sbOut := [(8, [2]), (1, [])] } b0, by unfold Runs; decide +kernel⟩,
   ⟨1, up b0 [(R.LINK_STATUS 1, 0x1)], by unfold Runs; decide +kernel⟩,
   ⟨1, 3, 15, 0, lSet 1 { lGet b0 1 with trainBad := 2 } (up b0 [(R.LINK_STATUS 1, 2)]), by unfold Runs; decide +kernel⟩,
   ⟨1, 3, 0x81, 2, up b0 [(R.LINK_STATUS 1, 2), (R.LANE_FFE 7, 0x3A041)], by unfold Runs; decide +kernel⟩,
   ⟨1, 3, 1, 0, up b0 [(R.LINK_STATUS 1, 2), (R.LANE_FFE 7, 0x3F000)], by unfold Runs; decide +kernel⟩,
   ⟨1, ⟨#[1,2,3,4,5,6,7], rfl⟩, up b0 [(R.LINK_STATUS 1, 0x2)], by unfold Runs; decide +kernel⟩,
   ⟨1, up b0 [(R.LINK_STATUS 1, 4), (R.LINK_CTRL 1, 1)], by unfold Runs; decide +kernel⟩,
   ⟨1, lSet 1 { lGet b0 1 with lpAsked := true } { up b0 [(R.LINK_STATUS 1, 4), (R.LINK_CTRL 1, 0x104)] with ticks := b0.ticks + 250 }, by unfold Runs; decide +kernel⟩,
   ⟨1, lSet 1 { lGet b0 1 with lpAsked := true } (up b0 [(R.LINK_STATUS 1, 4)]), by unfold Runs; decide +kernel⟩,
   ⟨1, up b0 [(R.LINK_STATUS 1, 0x1)], by unfold Runs; decide +kernel⟩,
   ⟨2, lSet 2 { lGet b0 2 with retrying := true, veser := true } (up b0 [(R.LINK_HOLD_STATUS 2, 2), (R.LINK_STATUS 2, 0), (R.LINK_CTRL 2, 1)]), by unfold Runs; decide +kernel⟩,
   ⟨1, 7, up b0 [(R.LINK_STATUS 1, 0x4)], by unfold Runs; decide +kernel⟩,
   ⟨1, [0x57, 0, 0, 1], up b0 [(R.LINK_SB_BAD 1, 0xFFFFFFFF)], by unfold Runs; decide +kernel⟩,
   ⟨1, sbFrame 0 [], [], 0, up b0 [(R.LINK_STATUS 1, 0x1)], by unfold Runs; decide +kernel⟩⟩

theorem meets_AuthAndLaneCommandsComplete :
    -- SB_AUTH_HELLO_RECEIVED
    (∃ (n : Port) (body : List Byte) (s : State), Runs s ∧ linkState s n = lsAuth ∧ body.length = 9 ∧
     (lGet s n).peerId ≠ [] ∧ (lGet s n).helloSeen = 0) ∧
    -- SB_AUTH_PROOF_RECEIVED
    (∃ (n : Port) (body : List Byte) (s : State), Runs s ∧ linkState s n = lsAuth ∧ body.length = 8 ∧
     (lGet s n).helloSeen = 7 ∧ (lGet s n).proofSeen = 0) ∧
    -- SB_AUTH_DONE_RECEIVED
    (∃ (n : Port) (s : State), Runs s ∧ linkState s n = lsAuth ∧ mode s = mCold) ∧
    -- SB_AUTH_DONE_RECEIVED
    (∃ (n : Port) (s : State), Runs s ∧ linkState s n = lsAuth ∧ (lGet s n).authOk = true ∧
     (lGet s n).sbOut.any (fun f => f.1 == 0x42) = false ∧ mode s ≠ mCold ∧ bit s (fForceDown n) = false ∧
     testBars s n = false) ∧
    -- SB_AUTH_DONE_RECEIVED
    (∃ (n : Port) (kind : Byte) (s : State), Runs s ∧ linkState s n = lsAuth ∧ kind ≠ 0) ∧
    -- LANE_FREEZE_WRITE
    (∃ (p : Fin 28) (k : Fin 4) (freeze : Bool) (s : State), Runs s ∧ k.val < pageLanes p) ∧
    -- LANE_COEFF_WRITE
    (∃ (p : Fin 28) (k : Fin 4) (v : Word) (s : State), Runs s ∧ k.val < pageLanes p ∧
     bit s ⟨laneKey (R.LANE_CTRL p) p k, 0, 1⟩ = true ∧ tapsOk (tapsOf (v &&& 0x3FFFFFFF).toNat) = true) ∧
    -- LANE_COEFF_WRITE
    (∃ (p : Fin 28) (k : Fin 4) (v : Word) (s : State), Runs s ∧ k.val < pageLanes p ∧
     bit s ⟨laneKey (R.LANE_CTRL p) p k, 0, 1⟩ = true) ∧
    -- LANE_COEFF_WRITE
    (∃ (p : Fin 28) (k : Fin 4) (i : Fin 5) (v : Word) (s : State), Runs s ∧ k.val < pageLanes p ∧ 2 ≤ i.val ∧
     bit s ⟨laneKey (R.LANE_CTRL p) p k, 0, 1⟩ = true) ∧
    -- LANE_TEST_ENABLE
    (∃ (p : Fin 28) (k : Fin 4) (v : Word) (s : State), Runs s ∧ k.val < pageLanes p ∧ mode s = mCold ∧
     testPermitted s p = true) ∧
    -- PRBS_INJECT
    (∃ (p : Fin 28) (k : Fin 4) (s : State), Runs s ∧ k.val < pageLanes p ∧ mode s = mCold ∧ testPermitted s p = true) ∧
    -- BER_ESTIMATE_UPDATE
    (∃ (p : Fin 28) (k : Fin 4) (cw corr uncorr : BitVec 32) (n errors : BitVec 64) (lock : Bool) (s : State), Runs s ∧
     p.val < 17 ∧ k.val < pageLanes p) ∧
    -- BER_ESTIMATE_UPDATE
    (∃ (p : Fin 28) (k : Fin 4) (cw corr uncorr : BitVec 32) (n errors : BitVec 64) (lock : Bool) (s : State), Runs s ∧
     17 ≤ p.val ∧ k.val < pageLanes p ∧ bit s ⟨laneKey (R.LANE_PRBS_CTRL p) p k, 5, 1⟩ = true) :=
  ⟨⟨1, [1,2,3,4,5,6,7,8,9], lSet 1 { lGet b0 1 with peerId := List.replicate 8 0, peerNonce := List.replicate 16 0 } (up b0 [(R.LINK_STATUS 1, 3)]), by unfold Runs; decide +kernel⟩,
   ⟨1, [1,2,3,4,5,6,7,8], lSet 1 { lGet b0 1 with helloSeen := 7 } (up b0 [(R.LINK_STATUS 1, 3)]), by unfold Runs; decide +kernel⟩,
   ⟨1, up b0 [(R.LINK_STATUS 1, 3), (R.DEV_MODE, 0)], by unfold Runs; decide +kernel⟩,
   ⟨1, lSet 1 { lGet b0 1 with authOk := true } (up b0 [(R.LINK_STATUS 1, 3), (R.DEV_MODE, 1)]), by unfold Runs; decide +kernel⟩,
   ⟨1, 1, up b0 [(R.LINK_STATUS 1, 3)], by unfold Runs; decide +kernel⟩,
   ⟨22, 3, true, up b0 [], by unfold Runs; decide +kernel⟩,
   ⟨22, 3, 0xC003F000, up b0 [(laneKey (R.LANE_CTRL 22) 22 3, 1)], by unfold Runs; decide +kernel⟩,
   ⟨22, 3, 0x123, up b0 [(laneKey (R.LANE_CTRL 22) 22 3, 1)], by unfold Runs; decide +kernel⟩,
   ⟨16, 0, 4, 0x87654321, up b0 [(laneKey (R.LANE_CTRL 16) 16 0, 1)], by unfold Runs; decide +kernel⟩,
   ⟨5, 0, 0x77, up b0 [(R.DEV_MODE, 0), (R.LINK_STATUS 1, 2)], by unfold Runs; decide +kernel⟩,
   ⟨5, 0, up b0 [(R.DEV_MODE, 0), (R.LINK_STATUS 1, 2), (R.LANE_PRBS_CTRL 5, 0x25)], by unfold Runs; decide +kernel⟩,
   ⟨16, 0, 1000, 3, 1, 5000, 2, true, up b0 [(R.LANE_FEC_CW 16, 0xFFFFFFFF), (R.LANE_PRBS_CTRL 16, 0x20)], by unfold Runs; decide +kernel⟩,
   ⟨22, 3, 0, 0, 0, 5000, 2, true, up b0 [(laneKey (R.LANE_PRBS_CTRL 22) 22 3, 0x20)], by unfold Runs; decide +kernel⟩⟩

theorem meets_CellCommandsComplete :
    -- TUNNEL_CELL_ARRIVAL
    (∃ (n : Port) (h : BitVec 64) (payload : List Byte) (m i : Nat) (e : Entry) (u : State) (s : State), Runs s ∧
     carries s n = true ∧ linkState s n = lsUp ∧ 3 ≤ bits h.toNat 56 8 ∧
     natGet (lGet s n).rxCredit (bits h.toNat 43 3) ≠ 0 ∧ headerCrc h = h.setWidth 8 ∧ formatOk h = true ∧
     arrivalMort s n = some m ∧ lookup s m (bits h.toNat 56 8) (h.getLsbD 42) = some (i, e) ∧
     (tGet s i).halted = false ∧ forwards s i = true ∧ (bqGet s n).words = [] ∧ (bqGet s n).flush = false ∧
     s.pair.frozen = false ∧
     u = packetIn n (returnCredit n (bits h.toNat 43 3) (bqSet n { words := [], left := (bqGet s n).left - 1 } (pushCell n h payload (clearOut s))))) ∧
    -- TUNNEL_CELL_ARRIVAL
    (∃ (n : Port) (h : BitVec 64) (payload : List Byte) (s : State), Runs s ∧ rimRuns s n = true ∧
     linkState s n = lsUp ∧ 3 ≤ bits h.toNat 56 8 ∧ natGet (lGet s n).rxCredit (bits h.toNat 43 3) ≠ 0 ∧
     (bqGet s n).words.length < 32) ∧
    -- ORIGIN_CELL_INGRESS
    (∃ (m : Mort) (tag : Byte) (data : List Byte) (i : Nat) (e : Entry) (bytes : List Byte) (r : Bool × State) (s : State), Runs s ∧
     carries s m = true ∧ isOrigin m = true ∧ inqGet s m = [] ∧ (bqGet s m).flush = false ∧
     usb3Packet m tag.toNat data = false ∧ lookup s m tag.toNat true = some (i, e) ∧ (tGet s i).halted = false ∧
     forwards s i = true ∧ s.pair.frozen = false ∧ (e.reliable && decide (1023 ≤ outstanding s i)) = false ∧
     data.length ≤ 16380 ∧ bytes = frameBytes (if e.tspAdd then some (rimPlumb s 50) else none) data ∧
     r = takeCell i e m 0 { seq := (tGet s i).nextSeq, sof := true, eof := decide (bytes.length ≤ 56), tsp := e.tspAdd, data := bytes.take 56 } (tSet i { tGet s i with nextSeq := ((tGet s i).nextSeq + 1) % 1024 } (offerFrame m { tag := tag.toNat, data := data } (clearOut s))) ∧
     r.1 = false) ∧
    -- WAITING_CELL_RETRY
    (∃ (m : Mort) (s : State), Runs s ∧ s.waiting.contains m.val = true) ∧
    -- TID0_FRAME_ARRIVAL
    (∃ (n : Port) (frame : List Byte) (s : State), Runs s ∧ rimRuns s n = true ∧ linkState s n = lsUp) ∧
    -- TID0_FRAME_ARRIVAL
    (∃ (n : Port) (frame : List Byte) (m : Nat) (s : State), Runs s ∧ carries s n = true ∧ linkState s n = lsUp ∧
     12 ≤ frame.length ∧ frame.length ≤ 56 ∧ crc32Upd 0xFFFFFFFF frame = crcResidue ∧
     routeTid0 s (byteAt frame 0 % 64) = some m ∧ (bqGet s n).words = [] ∧ (bqGet s n).flush = false ∧
     s.pair.frozen = false) ∧
    -- EVENT_CELL_ARRIVAL
    (∃ (n : Port) (frame : List Byte) (s : State), Runs s ∧ rimRuns s n = true ∧ linkState s n = lsUp) ∧
    -- EVENT_CELL_ARRIVAL
    (∃ (n : Port) (frame : List Byte) (m : Nat) (s : State), Runs s ∧ carries s n = true ∧ linkState s n = lsUp ∧
     1 ≤ frame.length ∧ frame.length ≤ 56 ∧ crc32Upd 0xFFFFFFFF frame = crcResidue ∧ evtRoute s = some m ∧ m ≤ 4 ∧
     (bqGet s n).words = [] ∧ (bqGet s n).flush = false ∧ s.pair.frozen = false) ∧
    -- OVERFLOW_FILL
    (∃ (q : Fin 272) (c : List QCell) (cs : List (List QCell)) (s : State), Runs s ∧ fillDue s q = true ∧
     (qGet s q).chunks = c :: cs ∧ (qGet s q).staging.length < 64 ∧ (∀ x ∈ c, x.fiDram = (0, 0))) ∧
    -- OVERFLOW_FILL
    (∃ (q : Fin 272) (ecc : DramEcc) (c : List QCell) (cs : List (List QCell)) (s : State), Runs s ∧
     fillDue s q = true ∧ (qGet s q).chunks = c :: cs ∧ (qGet s q).staging.length < 64) ∧
    -- QUEUE_POINTER_MISMATCH
    (∃ (q : Fin 272) (s : State), Runs s) ∧
    -- QUEUE_SWEEP_DONE
    (∃ (q : Fin 272) (s : State), Runs s) ∧
    -- BQ_FLUSH_REQUEST
    (∃ (m : Mort) (egress : Bool) (ct : BitVec 6) (q : Nat) (s : State), Runs s ∧ Unpaired s ∧ m.val ≤ 13 ∧
     q = m.val + (if egress then 16 else 0) ∧ (bqGet s q).flush = false) ∧
    -- BQ_FLUSH_EFFECT
    (∃ (b_ : BitVec 5) (n : Port) (s : State), Runs s ∧ (bqGet s b_.toNat).flush = true ∧ b_.toNat = n.val) ∧
    -- BQ_FLUSH_EFFECT
    (∃ (b_ : BitVec 5) (s : State), Runs s ∧ (bqGet s b_.toNat).flush = true ∧ 4 < b_.toNat ∧ b_.toNat < 16 ∧
     ((inqGet s b_.toNat).head?.any (fun f => f.rest.isSome)) = false) ∧
    -- BQ_FLUSH_EFFECT
    (∃ (b_ : BitVec 5) (s : State), Runs s ∧ (bqGet s b_.toNat).flush = true ∧ 16 ≤ b_.toNat ∧ b_.toNat % 16 ≤ 4) ∧
    -- BQ_FLUSH_EFFECT
    (∃ (b_ : BitVec 5) (s : State), Runs s ∧ (bqGet s b_.toNat).flush = true ∧ 20 < b_.toNat ∧
     s.loft.all (fun e => !(e.2.adOpen && e.2.last.eg == b_.toNat % 16)) = true) :=
  ⟨⟨1, mkHeader 9 4 3 true true false false 56 0 0, List.replicate 56 1, 1, 5, entry (setAct (entKey 5 0) 0x02091309 (setAct (entKey 5 1) 9 b0)) 5, packetIn (1 : Port) (returnCredit (1 : Port) (bits (mkHeader 9 4 3 true true false false 56 0 0 : BitVec 64).toNat 43 3) (bqSet (1 : Port) { words := [], left := (bqGet (lSet 1 { lGet b0 1 with rxCredit := [(3, 16)] } (up (setAct (entKey 5 0) 0x02091309 (setAct (entKey 5 1) 9 b0)) [(R.LINK_STATUS 1, 4), (R.DEV_MODE, 1)])) (1 : Port)).left - 1 } (pushCell (1 : Port) (mkHeader 9 4 3 true true false false 56 0 0 : BitVec 64) (List.replicate 56 1 : List Byte) (clearOut (lSet 1 { lGet b0 1 with rxCredit := [(3, 16)] } (up (setAct (entKey 5 0) 0x02091309 (setAct (entKey 5 1) 9 b0)) [(R.LINK_STATUS 1, 4), (R.DEV_MODE, 1)])))))), lSet 1 { lGet b0 1 with rxCredit := [(3, 16)] } (up (setAct (entKey 5 0) 0x02091309 (setAct (entKey 5 1) 9 b0)) [(R.LINK_STATUS 1, 4), (R.DEV_MODE, 1)]), by unfold Runs; decide +kernel⟩,
   ⟨1, mkHeader 9 4 3 true true false false 56 0 0, [7], lSet 1 { lGet b0 1 with rxCredit := [(3, 16)] } (up b0 [(R.LINK_STATUS 1, 4)]), by unfold Runs; decide +kernel⟩,
   ⟨7, 9, [1, 2, 3], 5, entry (up (setAct (entKey 5 0) 0x02097309 (setAct (entKey 5 1) 9 (setAct (entKey 5 2) 1 b0))) [(R.DEV_MODE, 1)]) 5, frameBytes none ([1, 2, 3] : List Byte), let s := up (setAct (entKey 5 0) 0x02097309 (setAct (entKey 5 1) 9 (setAct (entKey 5 2) 1 b0))) [(R.DEV_MODE, 1)]; takeCell (5 : Nat) (entry (up (setAct (entKey 5 0) 0x02097309 (setAct (entKey 5 1) 9 (setAct (entKey 5 2) 1 b0))) [(R.DEV_MODE, 1)]) 5 : Entry) (7 : Mort) 0 { seq := (tGet s (5 : Nat)).nextSeq, sof := true, eof := decide ((frameBytes none ([1, 2, 3] : List Byte) : List Byte).length ≤ 56), tsp := (entry (up (setAct (entKey 5 0) 0x02097309 (setAct (entKey 5 1) 9 (setAct (entKey 5 2) 1 b0))) [(R.DEV_MODE, 1)]) 5 : Entry).tspAdd, data := (frameBytes none ([1, 2, 3] : List Byte) : List Byte).take 56 } (tSet (5 : Nat) { tGet s (5 : Nat) with nextSeq := ((tGet s (5 : Nat)).nextSeq + 1) % 1024 } (offerFrame (7 : Mort) { tag := (9 : Byte).toNat, data := ([1, 2, 3] : List Byte) } (clearOut s))), up (setAct (entKey 5 0) 0x02097309 (setAct (entKey 5 1) 9 (setAct (entKey 5 2) 1 b0))) [(R.DEV_MODE, 1)], by unfold Runs; decide +kernel⟩,
   ⟨7, { b0 with waiting := [7] }, by unfold Runs; decide +kernel⟩,
   ⟨1, List.replicate 8 0 ++ bytesLE 4 (crc32c (List.replicate 8 0)).toNat, setAct R.DEV_HID 0 (up b0 [(R.LINK_STATUS 1, 4)]), by unfold Runs; decide +kernel⟩,
   ⟨1, List.replicate 8 0 ++ bytesLE 4 (crc32c (List.replicate 8 0)).toNat, 11, setAct R.DEV_HID 0 (up b0 [(R.LINK_STATUS 1, 4)]), by unfold Runs; decide +kernel⟩,
   ⟨1, (let d : List Byte := [1, 1, 0, 0] ++ List.replicate 16 7; d ++ bytesLE 4 (crc32c d).toNat), setAct R.TUN_EVT_ROUTE 0x12 (up b0 [(R.LINK_STATUS 1, 4)]), by unfold Runs; decide +kernel⟩,
   ⟨1, (let d : List Byte := [1, 1, 0, 0] ++ List.replicate 16 7; d ++ bytesLE 4 (crc32c d).toNat), 2, setAct R.TUN_EVT_ROUTE 0x12 (up b0 [(R.LINK_STATUS 1, 4)]), by unfold Runs; decide +kernel⟩,
   ⟨4, [{ tid := 7 }], [], { qSet 4 { (({} : Queue)) with spilling := true, chunks := [[{ tid := 7 }]] } (up b0 [(R.MEM_STATUS, 1)]) with fillq := [4] }, by unfold Runs; decide +kernel⟩,
   ⟨4, .uncorrectable 0 [9], [{ tid := 7, data := [1], fiDram := (1, 1) }], [], { qSet 4 { (({} : Queue)) with spilling := true, chunks := [[{ tid := 7, data := [1], fiDram := (1, 1) }]] } (up b0 [(R.MEM_STATUS, 1)]) with fillq := [4] }, by unfold Runs; decide +kernel⟩,
   ⟨4, qSet 4 { (({} : Queue)) with spilling := true, chunks := [[{ tid := 7 }]] } b0, by unfold Runs; decide +kernel⟩,
   ⟨271, qSet 271 { (({} : Queue)) with sweeping := true } b0, by unfold Runs; decide +kernel⟩,
   ⟨13, true, 5, 29, up b0 [], by unfold Runs Unpaired; decide +kernel⟩,
   ⟨3, 3, bqSet 3 { words := [cellWord (mkHeader 9 4 3 true true false false 56 0 0) []], flush := true, left := 1 } b0, by unfold Runs; decide +kernel⟩,
   ⟨7, inqSet 7 [{ tag := 1, data := [1] }, { tag := 2, data := [1] }] (bqSet 7 { flush := true, left := 1 } b0), by unfold Runs; decide +kernel⟩,
   ⟨17, bqSet 17 { flush := true, left := 1 } (lSet 1 { lGet b0 1 with forming := [(List.replicate 64 0, true)] } b0), by unfold Runs; decide +kernel⟩,
   ⟨24, bqSet 24 { flush := true } b0, by unfold Runs; decide +kernel⟩⟩

theorem meets_EndToEndCommandsComplete :
    -- E2E_ACK_TIMER
    (∃ (i : BitVec 8) (s : State), Runs s ∧ valid s i.toNat = true ∧ (entry s i.toNat).terminus = true ∧
     (entry s i.toNat).reliable = true ∧ 0 < (tGet s i.toNat).unacked) ∧
    -- E2E_GAP_REPEAT_TIMER
    (∃ (i : BitVec 8) (e : Nat) (s : State), Runs s ∧ (tGet s i.toNat).gap = some e ∧ valid s i.toNat = true) ∧
    -- E2E_ACK_RECEIVED
    (∃ (i : BitVec 8) (e : BitVec 10) (c : QCell) (k : Nat) (s : State), Runs s ∧ reliableOrigin s i.toNat = true ∧
     (tGet s i.toNat).retained.head? = some c ∧ k = (e.toNat + 1024 - c.seq) % 1024 ∧ k ≠ 0 ∧
     k ≤ (tGet s i.toNat).retained.length ∧ (tGet s i.toNat).broken = false) ∧
    -- E2E_GAP_RECEIVED
    (∃ (i : BitVec 8) (e : BitVec 10) (s : State), Runs s ∧ reliableOrigin s i.toNat = true ∧
     (tGet s i.toNat).retained.any (fun c => c.seq == e.toNat) = true) ∧
    -- RESUME_RECEIVED
    (∃ (i : BitVec 8) (s : State), Runs s ∧ reliableOrigin s i.toNat = true) ∧
    -- E2E_TIMER_EXPIRY
    (∃ (i : BitVec 8) (s : State), Runs s ∧ reliableOrigin s i.toNat = true ∧ 0 < outstanding s i.toNat ∧
     (tGet s i.toNat).expiries + 1 < e2eLimit s) :=
  ⟨⟨5, tSet 5 { ({} : Tunnel) with unacked := 3 } (setAct (entKey 5 0) 0x11 (setAct (entKey 5 2) 2 b0)), by unfold Runs; decide +kernel⟩,
   ⟨5, 7, tSet 5 { ({} : Tunnel) with gap := some 7 } (setAct (entKey 5 0) 1 b0), by unfold Runs; decide +kernel⟩,
   ⟨5, 1, { seq := 1023 }, 2, tSet 5 { ({} : Tunnel) with retained := [{ seq := 1023 }, { seq := 0 }, { seq := 1 }], expiries := 3 } (setAct (entKey 5 0) 0x11 (setAct (entKey 5 2) 1 (up b0 [(R.TUN_STALLED 0, 0x20)]))), by unfold Runs; decide +kernel⟩,
   ⟨5, 0, tSet 5 { ({} : Tunnel) with retained := [{ seq := 1023 }, { seq := 0 }, { seq := 1 }] } (setAct (entKey 5 0) 0x11 (setAct (entKey 5 2) 1 b0)), by unfold Runs; decide +kernel⟩,
   ⟨5, tSet 5 { ({} : Tunnel) with retained := [{ seq := 1023 }, { seq := 0 }, { seq := 1 }] } (setAct (entKey 5 0) 0x11 (setAct (entKey 5 2) 1 b0)), by unfold Runs; decide +kernel⟩,
   ⟨5, tSet 5 { ({} : Tunnel) with retained := [{ seq := 1023 }, { seq := 0 }, { seq := 1 }] } (setAct (entKey 5 0) 0x11 (setAct (entKey 5 2) 1 b0)), by unfold Runs; decide +kernel⟩⟩

theorem meets_SwitchCommandsComplete :
    -- TUN_COMMIT
    (∃ (s : State), Runs s ∧ tunCheck s = none) ∧
    -- TUN_IDX_WRITE
    (∃ (v : Word) (s : State), Runs s) ∧
    -- SWC_BQ_SEL_WRITE
    (∃ (v : Word) (s : State), Runs s ∧ Unpaired s) ∧
    -- BUF_QSEL_WRITE
    (∃ (v : Word) (s : State), Runs s ∧ Unpaired s) ∧
    -- EGRESS_GRANT
    (∃ (m : Mort) (c : List Byte) (cs : List (List Byte)) (phase : Fin 8) (s : State), Runs s ∧ m.val ≤ 4 ∧
     carries s (16 + m) = true ∧ canSend s m = true ∧ (lGet s m).ctlOut = c :: cs ∧ byteAt c 0 ≠ 0x10 ∧
     byteAt c 0 ≠ 0x11 ∧ (lGet s m).forming.length < 7) ∧
    -- CUT_THROUGH_UNDERRUN
    (∃ (i : BitVec 8) (s : State), Runs s ∧ valid s i.toNat = true ∧ (qGet s i.toNat).last.eg = 7 ∨
     ((qGet s i.toNat).last.eg = 8 ∧ (qGet s i.toNat).last.tid < 0x10) ∧ (qGet s i.toNat).txOpen = true ∧
     (qGet s i.toNat).adOpen = true ∧ (qGet s i.toNat).begun = true ∧ (qGet s i.toNat).onchip = [] ∧
     (entry s i.toNat).reliable = false) ∧
    -- CUT_THROUGH_UNDERRUN
    (∃ (i : BitVec 8) (s : State), Runs s ∧ valid s i.toNat = true ∧ (qGet s i.toNat).last.eg = 8 ∧
     (qGet s i.toNat).last.tid < 0x10 ∧ (qGet s i.toNat).txOpen = true ∧ (qGet s i.toNat).begun = true ∧
     (qGet s i.toNat).onchip = [] ∧ (entry s i.toNat).reliable = true) ∧
    -- SCH_COMMIT
    (∃ (m : Mort) (s : State), Runs s ∧ m.val < 14 ∧ mode s ≠ mStandby ∧ firstTwice (attached s m) = none ∧
     (gatesOf m).find? (fun g => gateBad (schedOf (reg s) g)) = none ∧
     admissionSum s m (reg s) ≤ admissionLimit (checkLevel s)) ∧
    -- GATE_WINDOW_BOUNDARY
    (∃ (g : Fin 12) (s : State), Runs s ∧ (g.val ≤ 4 ∨ 8 ≤ g.val)) ∧
    -- GATE_SCHEDULE_SWITCH
    (∃ (g : Fin 12) (sch : GateSched) (at_ : Nat) (s : State), Runs s ∧ (gGet s g).next = some (sch, at_) ∧
     at_ ≤ plumbNs s) :=
  ⟨⟨up b0 [(R.TUN_SUB 0, 0x11)], by unfold Runs; decide +kernel⟩,
   ⟨0x305, tSet 5 { ({} : Tunnel) with susp := true, retained := [{ seq := 1 }] } (setAct (entKey 5 0) 0x11 (setAct (entKey 5 2) 1 b0)), by unfold Runs; decide +kernel⟩,
   ⟨0x23, bqSet 3 { words := [idleItem] } b0, by unfold Runs Unpaired; decide +kernel⟩,
   ⟨0x204, qSet 4 { (({} : Queue)) with spilling := true, chunks := [[{ tid := 7 }]] } b0, by unfold Runs Unpaired; decide +kernel⟩,
   ⟨1, [6, 1], [[2]], 3, lSet 1 { lGet b0 1 with ctlOut := [[6, 1], [2]], crdRet := [(3, 5)] } (up b0 [(R.LINK_STATUS 1, 4)]), by unfold Runs; decide +kernel⟩,
   ⟨5, qSet 5 { (({} : Queue)) with txOpen := true, adOpen := true, begun := true, asm := [1, 2], last := { eg := 7, tid := 2 } } (setAct (entKey 5 0) 0x07000001 (setAct (entKey 5 2) 0 b0)), by unfold Runs; decide +kernel⟩,
   ⟨5, qSet 5 { (({} : Queue)) with txOpen := true, adOpen := true, begun := true, asm := [1, 2], last := { eg := 8, tid := 2 } } (setAct (entKey 5 0) 0x08000011 (setAct (entKey 5 2) 2 b0)), by unfold Runs; decide +kernel⟩,
   ⟨5, up b0 [], by unfold Runs; decide +kernel⟩,
   ⟨8, up b0 [], by unfold Runs; decide +kernel⟩,
   ⟨9, { }, 0, gSet 9 { gGet b0 9 with next := some ({ }, 0) } b0, by unfold Runs; decide +kernel⟩⟩

theorem meets_MemoryCommandsComplete :
    -- MEM_INIT
    (∃ (s : State), Runs s) ∧
    -- MEM_INIT_COMPLETE
    (∃ (s : State), Runs s ∧ s.mem.initing = true ∧ bits s.mem.cfg 0 2 ≠ 3 ∧ bits s.mem.cfg 3 2 ≠ 3 ∧
     bit s fExtWipe = false) ∧
    -- SDRAM_RATE_CHANGE
    (∃ (s : State), Runs s ∧ s.disp.bar4 = [] ∧ s.disp.held = [] ∧ bit s fMemReady = true ∧
     getF s fMemRate ≠ memRate (rimLevel s)) ∧
    -- MEM_COMMIT
    (∃ (s : State), Runs s ∧ memCheck s = 0 ∧ Unpaired s) ∧
    -- ECC_SECOND_INTERVAL
    (∃ (s : State), Runs s ∧ cnt64 s R.MEM_ECC_CORR ≤ s.mem.eccSeen + getF s ⟨R.MEM_ECC_THRESH, 0, 16⟩) ∧
    -- ECC_SECOND_INTERVAL
    (∃ (s : State), Runs s ∧ s.mem.eccSeen + getF s ⟨R.MEM_ECC_THRESH, 0, 16⟩ < cnt64 s R.MEM_ECC_CORR) ∧
    -- PATROL_SCRUB_SLOT
    (∃ (s : State), Runs s ∧ bit s fMemReady = true ∧ bit s ⟨R.MEM_CTRL, 1, 1⟩ = true ∧
     (reg s R.MEM_SCRUB_POS).toNat + 64 < installed s * 0x1000000 ∧ (reg s R.MEM_SCRUB_POS).toNat + 64 < 2 ^ 32) ∧
    -- SCRUB_BEHIND_HOUR
    (∃ (s : State), Runs s ∧ s.mem.behind = true) ∧
    -- REFRESH_DUE
    (∃ (urgent : Bool) (s : State), Runs s ∧ bit (setUrgent urgent s) fUrgent = false) ∧
    -- REFRESH_DUE
    (∃ (urgent : Bool) (s : State), Runs s ∧ bit (setUrgent urgent s) fUrgent = true ∧ s.mem.postponed < 4) ∧
    -- ZQ_SHORT_DUE
    (∃ (urgent : Bool) (s : State), Runs s ∧ bit (setUrgent urgent s) fUrgent = true) ∧
    -- ZQ_SHORT_DUE
    (∃ (urgent : Bool) (s : State), Runs s ∧ bit (setUrgent urgent s) fUrgent = false) ∧
    -- ZQ_FORCE_EXPIRY
    (∃ (s : State), Runs s ∧ s.mem.zqDue = true) ∧
    -- EXTERNAL_WIPE_DONE
    (∃ (s : State), Runs s ∧ s.mem.wiping = true ∧ s.pwr.level = .idle ∧ level s = 3) ∧
    -- EXTERNAL_WIPE_DONE
    (∃ (s : State), Runs s ∧ s.mem.wiping = true ∧ s.pwr.level = .idle ∧ level s < 3) :=
  ⟨⟨up b0 [(R.MEM_STATUS, 3)], by unfold Runs; decide +kernel⟩,
   ⟨{ up b0 [(R.PM_STATUS, 0)] with mem := { b0.mem with initing := true } }, by unfold Runs; decide +kernel⟩,
   ⟨up b0 [(R.PM_STATUS, 2), (R.MEM_STATUS, 0x11)], by unfold Runs; decide +kernel⟩,
   ⟨up b0 [(R.MEM_FB_SIZE, 8), (0x5300C, 0x11)], by unfold Runs Unpaired; decide +kernel⟩,
   ⟨up b0 [(R.MEM_ECC_CORR, 5), (R.MEM_ECC_THRESH, 5)], by unfold Runs; decide +kernel⟩,
   ⟨up b0 [(R.MEM_ECC_CORR, 9), (R.MEM_ECC_THRESH, 3)], by unfold Runs; decide +kernel⟩,
   ⟨{ up b0 [(R.MEM_STATUS, 0x21), (R.MEM_CTRL, 2), (R.MEM_SCRUB_POS, 0xFFFFFF00)] with mem := { b0.mem with cfg := 2 } }, by unfold Runs; decide +kernel⟩,
   ⟨{ b0 with mem := { b0.mem with behind := true } }, by unfold Runs; decide +kernel⟩,
   ⟨false, { b0 with mem := { b0.mem with postponed := 4 } }, by unfold Runs; decide +kernel⟩,
   ⟨true, up b0 [(0x70100, 1)], by unfold Runs; decide +kernel⟩,
   ⟨true, up b0 [(0x70100, 1)], by unfold Runs; decide +kernel⟩,
   ⟨false, { b0 with mem := { b0.mem with zqDue := true } }, by unfold Runs; decide +kernel⟩,
   ⟨{ up b0 [(R.MEM_STATUS, 0x40)] with mem := { b0.mem with zqDue := true } }, by unfold Runs; decide +kernel⟩,
   ⟨{ up b0 [(R.AO_STATUS, 0x100), (R.PM_STATUS, 3)] with mem := { b0.mem with wiping := true }, dram := [(4, 1)], pwr := { b0.pwr with level := .idle } }, by unfold Runs; decide +kernel⟩,
   ⟨{ up b0 [(R.AO_STATUS, 0x100), (R.PM_STATUS, 1), (R.MEM_STATUS, 0x20)] with mem := { b0.mem with wiping := true }, dram := [(4, 1)], pwr := { b0.pwr with level := .idle } }, by unfold Runs; decide +kernel⟩⟩

theorem meets_DisplayOutputCommandsComplete :
    -- DOUT_COMMIT
    (∃ (k : Fin 4) (s : State), Runs s ∧ Unpaired s ∧ mode s ≠ mStandby ∧
     bit s ⟨(0x71 + k) * 0x1000 + 0x024, 0, 1⟩ = false ∧ overBandwidth s k = false ∧
     (bit s ⟨doutCtrl k, 1, 1⟩ = true → timingOdd s = false)) ∧
    -- AUX_TRANSACTION_START
    (∃ (k : Fin 8) (v : Word) (s : State), Powered s ∧ (k.val < 4 → Runs s) ∧ bit s ⟨auxStatus k, 0, 1⟩ = false) ∧
    -- AUX_TRANSACTION_DONE
    (∃ (k : Fin 8) (reply : BitVec 2) (report : BitVec 16) (data : List Byte) (s : State), Powered s ∧ (k.val < 4 →
     Runs s) ∧ bit s ⟨auxStatus k, 0, 1⟩ = true ∧ auxIsDp k = true) ∧
    -- AUX_TRANSACTION_DONE
    (∃ (k : Fin 8) (reply : BitVec 2) (report : BitVec 16) (data : List Byte) (s : State), Runs s ∧
     bit s ⟨auxStatus k, 0, 1⟩ = true ∧ auxIsDp k = false ∧ reply.getLsbD 1 = false ∧ report ≠ 0) ∧
    -- HPD_LOSS
    (∃ (o : Fin 6) (s : State), Runs s ∧ hpdOf s (dpOut o) = true) ∧
    -- HPD_RETURN
    (∃ (o : Fin 6) (s : State), Runs s) ∧
    -- DP_LINK_TRAINING_DONE
    (∃ (o : Fin 6) (s : State), Runs s ∧ s.disp.training.contains (dpOut o) = true) ∧
    -- DP_IRQ_HPD
    (∃ (k : Fin 2) (s : State), Runs s ∧ hpdOf s k = true) ∧
    -- TE_EDGE
    (∃ (k : Fin 2) (falling : Bool) (s : State), Runs s ∧ falling = (getA s ⟨doutCtrl (2 + k), 7, 1⟩ == 1)) ∧
    -- TE_MISSING
    (∃ (o : Nat) (s : State), Runs s ∧ teOutput s = some o ∧ bit s fTeLost = false ∧
     s.disp.teTick + 2 * lineTicks s (getF s ⟨R.DISP_V_TIMING, 16, 16⟩) ≤ s.ticks) ∧
    -- STALE_TIMEOUT_EXPIRY
    (∃ (s : State), Runs s ∧ staleTicks s ≠ 0 ∧ s.disp.lastTick + staleTicks s ≤ s.ticks) :=
  ⟨⟨1, up b0 [(R.DOUT_DP_CTRL 1, 0xE1)], by unfold Runs Unpaired; decide +kernel⟩,
   ⟨5, 0x90000, up b0 [], by unfold Runs Powered; decide +kernel⟩,
   ⟨1, 3, 0, [1, 2, 3], up b0 [(auxStatus 1, 1)], by unfold Runs Powered; decide +kernel⟩,
   ⟨3, 1, 7, [1, 2, 3], up b0 [(auxStatus 3, 1)], by unfold Runs; decide +kernel⟩,
   ⟨1, { up b0 [(R.DOUT_STATUS 1, 6)] with disp := { b0.disp with training := [1] } }, by unfold Runs; decide +kernel⟩,
   ⟨0, setAct (doutCtrl 0) 0x101 b0, by unfold Runs; decide +kernel⟩,
   ⟨1, { setAct (doutCtrl 1) 0x61 (up b0 [(R.DOUT_STATUS 1, 2)]) with disp := { b0.disp with training := [1] } }, by unfold Runs; decide +kernel⟩,
   ⟨1, up b0 [(R.DOUT_STATUS 1, 2)], by unfold Runs; decide +kernel⟩,
   ⟨0, false, setAct (doutCtrl 2) 0x41 (up b0 [(R.DISP_CTRL, 3), (R.DISP_STATUS, 0)]), by unfold Runs; decide +kernel⟩,
   ⟨2, { setAct (doutCtrl 2) 0x41 (up b0 [(R.DISP_CTRL, 3), (R.DISP_STATUS, 0x21)]) with ticks := b0.ticks + 50000000 }, by unfold Runs; decide +kernel⟩,
   ⟨{ up b0 [(R.DISP_STALE_TIMEOUT, 5)] with ticks := b0.ticks + 1250000 }, by unfold Runs; decide +kernel⟩⟩

theorem meets_DisplayFrameCommandsComplete :
    -- DISP_ENABLE_WRITE
    (∃ (v : Word) (s : State), Runs s ∧ Unpaired s ∧ dispOn s = false ∧ bit s fMemReady = true ∧ fbSize s ≠ 0 ∧
     timingOk s = true) ∧
    -- DISP_DISABLE_WRITE
    (∃ (v : Word) (s : State), Runs s ∧ Unpaired s ∧ dispOn s = true ∧ s.disp.waits = none) ∧
    -- DISP_COMMIT
    (∃ (miss : Bool) (s : State), Runs s ∧ carries s 49 = true ∧ Unpaired s ∧ mode s ≠ mStandby ∧ dispCheck s = 0 ∧
     dispOn s = false) ∧
    -- DISP_COMMIT
    (∃ (miss : Bool) (s : State), Runs s ∧ mode s ≠ mStandby ∧ dispCheck s = 0 ∧ dispOn s = true ∧
     commitWindow s = .early) ∧
    -- DISP_COMMIT
    (∃ (miss : Bool) (s : State), Runs s ∧ mode s ≠ mStandby ∧ dispCheck s = 0 ∧ dispOn s = true ∧
     commitWindow s = .closing) ∧
    -- DISP_COMMIT
    (∃ (miss late : Bool) (s : State), Runs s ∧ mode s ≠ mStandby ∧ dispCheck s = 0 ∧ dispOn s = true ∧
     commitWindow s = (if late then .atLatch else .onLatch)) ∧
    -- LATCH_POINT
    (∃ (ground apq : List (Fin 9)) (ecc : DramEcc) (set : List (Nat × Word)) (s : State), Runs s ∧
     carries s 49 = true ∧ dispOn s = true ∧ teWaits s = false ∧ s.disp.waits = some set ∧ s.disp.misses = false) ∧
    -- LINE_UNDERRUN
    (∃ (l : ShortFrame) (s : State), Runs s ∧ dispOn s = true ∧ teWaits s = false ∧ l.line.toNat < vact s ∧
     (List.range 2).any (fun i => (layerOf (actReg s) i).en) = true) ∧
    -- POSITION_FRAME
    (∃ (tag : Byte) (f : M9Frame) (s : State), Runs s ∧ s.disp.inbox.find? (fun f => f.tag == tag.toNat) = some f ∧
     tag.toNat < 16 ∧ getA s ⟨R.DISP_CH_BASE tag.toNat, 0, 1⟩ = 1 ∧ f.data.length = 4 ∧
     smGet (fun _ => none) s.disp.held tag.toNat = none) ∧
    -- LINE_FRAME
    (∃ (tag : Byte) (f : M9Frame) (off : Nat) (s : State), Runs s ∧
     s.disp.inbox.find? (fun f => f.tag == tag.toNat) = some f ∧ tag.toNat < 16 ∧
     getA s ⟨R.DISP_CH_BASE tag.toNat, 0, 1⟩ = 1 ∧ f.data.length ≠ 4 ∧ f.data.length = lineBytes s tag.toNat ∧
     f.idx % max 1 f.cells = 0 ∧ smGet (fun _ => none) s.disp.held tag.toNat = none ∧
     off = getA s ⟨R.DISP_CH_BASE tag.toNat, 12, 20⟩ * 4096 + ((chGet s tag.toNat).cursor + f.idx / max 1 f.cells) * getA s ⟨R.DISP_CH_PITCH tag.toNat, 0, 18⟩ ∧
     bit s fMemReady = true ∧ bit s fRateChanging = false ∧ off + f.data.length ≤ fbSize s ∧
     fenced s off f.data.length f.epoch = false) ∧
    -- FENCED_WRITE_PROCEED
    (∃ (tn : Fin 16) (off : Nat) (data : List Byte) (at_ : Nat) (s : State), Runs s ∧ bit s fRateChanging = false ∧
     smGet (fun _ => none) s.disp.held tn.val = some (off, data, at_) ∧ fenced s off data.length at_ = false) ∧
    -- BUFFER_RELEASE
    (∃ (layer : Fin 2) (f : Fence) (s : State), Runs s ∧
     s.disp.fences.find? (fun f => f.layer == layer.val && f.releasing.isSome) = some f ∧ s.disp.releases.length < 8) ∧
    -- BUF_RELEASE_READ
    (∃ (l f a : Nat) (r : List (Nat × Nat × Nat)) (s : State), Runs s ∧ s.disp.releases = (l, f, a) :: r) ∧
    -- IMG_DATA_ACCESS
    (∃ (w : Word) (s : State), Runs s ∧ Unpaired s ∧ getF s ⟨R.DISP_IMG_ADDR, 0, 14⟩ ≤ 0x300F) ∧
    -- BAR4_REQUEST
    (∃ (tag : BitVec 24) (off : BitVec 32) (data : List Byte) (len : BitVec 13) (ecc : DramEcc) (s : State), Runs s ∧
     upstreamUp s = true ∧ bit s fMemReady = true ∧ bit s fRateChanging = false ∧
     off.toNat + data.length ≤ fbSize s ∧ s.disp.bar4 = [] ∧ fenced s off.toNat data.length s.disp.epoch = false) ∧
    -- BAR4_REQUEST
    (∃ (tag : BitVec 24) (off : BitVec 32) (len : BitVec 13) (s : State), Runs s ∧ upIsTunnel s = false ∧
     bit s (fDlUp 0) = true ∧ bit s fMemReady = true ∧ bit s fRateChanging = false ∧ s.mem.fi = [] ∧
     off.toNat + len.toNat ≤ fbSize s ∧ s.disp.bar4 = []) :=
  ⟨⟨0x10, setAct R.MEM_FB_SIZE 8 (up b0 [(R.MEM_STATUS, 1), (R.DISP_H_TIMING, 2200 * 65536 + 1920), (R.DISP_H_SYNC, 2052 * 65536 + 2008), (R.DISP_V_TIMING, 1125 * 65536 + 1080), (R.DISP_V_SYNC, 1089 * 65536 + 1084), (R.DISP_PCLK_KHZ, 148500)]), by unfold Runs Unpaired; decide +kernel⟩,
   ⟨0x15, { up b0 [(R.DISP_CTRL, 1), (R.DISP_STATUS, 0xA1)] with disp := { b0.disp with fences := [{ layer := 0, base := 0, len := 4096 }] } }, by unfold Runs Unpaired; decide +kernel⟩,
   ⟨true, up b0 [(R.DISP_BG_COLOUR, 0x123), (R.DISP_H_TIMING, 2200 * 65536 + 1920), (R.DISP_V_TIMING, 1125 * 65536 + 1080), (R.DISP_CH_BASE 3, 0x1001)], by unfold Runs Unpaired; decide +kernel⟩,
   ⟨true, { up b0 [(R.DISP_CTRL, 1), (R.DISP_BG_COLOUR, 0x123), (R.DISP_CH_BASE 3, 0x1001)] with disp := { b0.disp with latchTick := b0.ticks } }, by unfold Runs; decide +kernel⟩,
   ⟨true, { up b0 [(R.DISP_CTRL, 1), (R.DISP_H_TIMING, 2200 * 65536 + 1920), (R.DISP_V_TIMING, 1125 * 65536 + 1080), (R.DISP_BG_COLOUR, 0x123), (R.DISP_CH_BASE 3, 0x1001)] with disp := { b0.disp with latchTick := b0.ticks, latchLine := 1079 } }, by unfold Runs; decide +kernel⟩,
   ⟨true, true, { up b0 [(R.DISP_CTRL, 1), (R.DISP_H_TIMING, 2200 * 65536 + 1920), (R.DISP_V_TIMING, 1125 * 65536 + 1080), (R.DISP_PCLK_KHZ, 148500), (R.DISP_BG_COLOUR, 0x123), (R.DISP_CH_BASE 3, 0x1001)] with disp := { b0.disp with latchLine := 1079 }, ticks := 50000000000 }, by unfold Runs; decide +kernel⟩,
   ⟨[0, 3], [0, 1], .corrected, [(R.DISP_BG_COLOUR, 7)], { up b0 [(R.DISP_CTRL, 1), (R.DISP_STATUS, 1), (0x70024, 1)] with disp := { b0.disp with waits := some [(R.DISP_BG_COLOUR, 7)] } }, by unfold Runs; decide +kernel⟩,
   ⟨⟨1079, [1, 0], [3, 2]⟩, setAct (layerReg 0 0) 1 (up b0 [(R.DISP_CTRL, 1), (R.DISP_STATUS, 1), (R.MEM_STATUS, 1)]), by unfold Runs; decide +kernel⟩,
   ⟨3, ⟨3, 0, 1, [0, 0, 0, 9], 0⟩, { setAct (R.DISP_CH_BASE 3) 1 b0 with disp := { b0.disp with inbox := [⟨3, 0, 1, [0, 0, 0, 9], 0⟩] } }, by unfold Runs; decide +kernel⟩,
   ⟨3, ⟨3, 2, 1, [1, 2, 3, 4, 5, 6, 7, 8], 0⟩, 4096 + 3 * 64, { setAct R.MEM_FB_SIZE 1 (setAct (R.DISP_CH_BASE 3) 0x1001 (setAct (R.DISP_CH_PITCH 3) 64 (setAct (R.DISP_CH_LINE 3) 8 (up b0 [(R.MEM_STATUS, 1)])))) with disp := { b0.disp with inbox := [⟨3, 2, 1, [1, 2, 3, 4, 5, 6, 7, 8], 0⟩], ch := [(3, { cursor := 1 })] } }, by unfold Runs; decide +kernel⟩,
   ⟨3, 64, [9, 8], 2, { b0 with disp := { b0.disp with held := [(3, some (64, [9, 8], 2))] } }, by unfold Runs; decide +kernel⟩,
   ⟨1, { layer := 1, base := 4096, len := 64, releasing := some 7 }, { b0 with disp := { b0.disp with fences := [{ layer := 0, base := 0, len := 64 }, { layer := 1, base := 4096, len := 64, releasing := some 7 }] } }, by unfold Runs; decide +kernel⟩,
   ⟨1, 300, 8192, [], { b0 with disp := { b0.disp with releases := [(1, 300, 8192)] } }, by unfold Runs; decide +kernel⟩,
   ⟨77, up b0 [(R.DISP_IMG_ADDR, 0x300F)], by unfold Runs Unpaired; decide +kernel⟩,
   ⟨5, 64, [1, 2], 0, .ok, setAct R.MEM_FB_SIZE 1 (up b0 [(R.MEM_STATUS, 1), (R.PCIE_STATUS 0, 1), (R.PSW_CTRL, 0)]), by unfold Runs; decide +kernel⟩,
   ⟨5, 64, 3, { setAct R.MEM_FB_SIZE 1 (up b0 [(R.MEM_STATUS, 1), (R.PCIE_STATUS 0, 1), (R.PSW_CTRL, 0)]) with dram := [(65, 3)] }, by unfold Runs; decide +kernel⟩⟩

theorem meets_EthernetCommandsComplete :
    -- MAC_ENABLE
    (∃ (k md : Fin 4) (s : State), Runs s ∧ Unpaired s ∧ md.val ≠ 3 ∧
     bit s ⟨(0x79 + k) * 0x1000 + 0x00C, 0, 1⟩ = true ∧ bit s (fMacEn k) = false ∧ bit s (fOverbooked 7) = false) ∧
    -- MAC_ENABLE
    (∃ (k md : Fin 4) (s : State), Runs s ∧ Unpaired s ∧ md.val = 3) ∧
    -- MAC_ENABLE
    (∃ (k md : Fin 4) (s : State), Runs s ∧ Unpaired s ∧ md.val ≠ 3 ∧
     bit s ⟨(0x79 + k) * 0x1000 + 0x00C, 0, 1⟩ = false ∧ bit s (fMacEn k) = false ∧ bit s (fOverbooked 7) = false) ∧
    -- MAC_LINK_UP
    (∃ (k : Fin 4) (phy : Fin 3) (s : State), Runs s ∧ bit s (fMacEn k) = true) ∧
    -- MAC_LINK_LOSS
    (∃ (k : Fin 4) (remote : Bool) (s : State), Runs s ∧ bit s (fMacLink k) = true) ∧
    -- MAC_FRAME_RECEIVED
    (∃ (k : Fin 4) (frame : List Byte) (parity : Bool) (phase : Fin 8) (s : State), Runs s ∧
     bit s (fMacEn k) = true ∧ bit s (fMacLink k) = true ∧
     frame.drop (frame.length - 4) ≠ bytesLE 4 (fcs32 (frame.take (frame.length - 4))).toNat) ∧
    -- MAC_FRAME_RECEIVED
    (∃ (k : Fin 4) (frame : List Byte) (parity : Bool) (phase : Fin 8) (s : State), Runs s ∧
     bit s (fMacEn k) = true ∧ bit s (fMacLink k) = true ∧
     frame.drop (frame.length - 4) = bytesLE 4 (fcs32 (frame.take (frame.length - 4))).toNat ∧ 64 ≤ frame.length ∧
     frame.length ≤ clampN 64 9600 (getF s ⟨R.MAC_MAX_FRAME k, 0, 14⟩) ∧ etherType frame ≠ 0x8808 ∧
     ptpAt frame = none ∧ etherRuns s = true) ∧
    -- MAC_FRAME_TRANSMIT
    (∃ (tag : Byte) (stamp : Option (BitVec 48 × BitVec 32)) (frame : List Byte) (phase : Fin 8) (s : State), Runs s ∧
     tag.toNat < 4 ∧ bit s (fMacEn tag.toNat) = true ∧ bit s (fMacLink tag.toNat) = true ∧ ptpAt frame = none) ∧
    -- FCS_SECOND_INTERVAL
    (∃ (k : Fin 4) (s : State), Runs s ∧
     ((reg s (R.MAC_RX_FCS_ERR k)).toNat + 2 ^ 32 - (macGet s k).fcsSeen) % 2 ^ 32 ≤ getF s ⟨R.MAC_FCS_THRESH k, 0, 16⟩) ∧
    -- FCS_SECOND_INTERVAL
    (∃ (k : Fin 4) (s : State), Runs s ∧
     getF s ⟨R.MAC_FCS_THRESH k, 0, 16⟩ < ((reg s (R.MAC_RX_FCS_ERR k)).toNat + 2 ^ 32 - (macGet s k).fcsSeen) % 2 ^ 32) ∧
    -- FWD_INSERT
    (∃ (i : Nat) (s : State), Runs s ∧ Unpaired s ∧ mode s ≠ mStandby ∧ fwdFind s (keyVid s) (keyDa s) = none ∧
     (fwdPlaces s (keyVid s) (keyDa s)).find? (fun i => (fwdGet s i).isNone) = some i) ∧
    -- FWD_DELETE
    (∃ (i : Nat) (s : State), Runs s ∧ Unpaired s ∧ mode s ≠ mStandby ∧ fwdFind s (keyVid s) (keyDa s) = some i) ∧
    -- FWD_LOOKUP
    (∃ (i : Nat) (e : FwdEntry) (s : State), Runs s ∧ mode s ≠ mStandby ∧ fwdFind s (keyVid s) (keyDa s) = some i ∧
     fwdGet s i = some e ∧ e.fi = false) ∧
    -- FWD_FLUSH_ALL
    (∃ (s : State), Runs s ∧ Unpaired s ∧ mode s ≠ mStandby) ∧
    -- FWD_COMMIT
    (∃ (s : State), Runs s ∧ Unpaired s ∧ mode s ≠ mStandby) :=
  ⟨⟨2, 1, up b0 [(R.MAC_STATUS 2, 0x27)], by unfold Runs Unpaired; decide +kernel⟩,
   ⟨2, 3, up b0 [(R.MAC_CTRL 2, 1)], by unfold Runs Unpaired; decide +kernel⟩,
   ⟨2, 1, up b0 [(0x7B00C, 0)], by unfold Runs Unpaired; decide +kernel⟩,
   ⟨2, 1, macSet 2 { macGet b0 2 with mode := 2 } (up b0 [(R.MAC_CTRL 2, 5)]), by unfold Runs; decide +kernel⟩,
   ⟨2, true, up b0 [(R.MAC_CTRL 2, 1), (R.MAC_STATUS 2, 1)], by unfold Runs; decide +kernel⟩,
   ⟨2, List.replicate 64 1, false, 3, up b0 [(R.MAC_CTRL 2, 1), (R.MAC_STATUS 2, 1)], by unfold Runs; decide +kernel⟩,
   ⟨2, (List.replicate 60 0 ++ bytesLE 4 (fcs32 (List.replicate 60 0)).toNat), false, 5, up b0 [(R.MAC_CTRL 2, 1), (R.MAC_STATUS 2, 1), (R.DEV_MODE, 1), (R.MAC_MAX_FRAME 2, 1522)], by unfold Runs; decide +kernel⟩,
   ⟨2, none, [1, 2, 3], 0, up b0 [(R.MAC_CTRL 2, 1), (R.MAC_STATUS 2, 1)], by unfold Runs; decide +kernel⟩,
   ⟨2, up b0 [(R.MAC_RX_FCS_ERR 2, 5), (R.MAC_FCS_THRESH 2, 5)], by unfold Runs; decide +kernel⟩,
   ⟨2, up b0 [(R.MAC_RX_FCS_ERR 2, 9), (R.MAC_FCS_THRESH 2, 3)], by unfold Runs; decide +kernel⟩,
   ⟨fwdBucket b0 5 0x1234 * 4, up b0 [(R.FWD_KEY_VID, 5), (R.FWD_KEY_DA_LO, 0x1234), (R.FWD_KEY_TSET, 7)], by unfold Runs Unpaired; decide +kernel⟩,
   ⟨fwdBucket b0 5 0x1234 * 4 + 1, { up b0 [(R.FWD_KEY_VID, 5), (R.FWD_KEY_DA_LO, 0x1234), (R.FWD_KEY_TSET, 7)] with fwd := [(fwdBucket b0 5 0x1234 * 4 + 1, some { vid := 5, da := 0x1234, tset := 2, hits := 9, skips := 3 })] }, by unfold Runs Unpaired; decide +kernel⟩,
   ⟨fwdBucket b0 5 0x1234 * 4 + 1, { vid := 5, da := 0x1234, tset := 2, hits := 9, skips := 3 }, { up b0 [(R.FWD_KEY_VID, 5), (R.FWD_KEY_DA_LO, 0x1234), (R.FWD_KEY_TSET, 7)] with fwd := [(fwdBucket b0 5 0x1234 * 4 + 1, some { vid := 5, da := 0x1234, tset := 2, hits := 9, skips := 3 })] }, by unfold Runs; decide +kernel⟩,
   ⟨{ up b0 [(R.FWD_KEY_VID, 5), (R.FWD_KEY_DA_LO, 0x1234), (R.FWD_KEY_TSET, 7)] with fwd := [(fwdBucket b0 5 0x1234 * 4 + 1, some { vid := 5, da := 0x1234, tset := 2, hits := 9, skips := 3 })] }, by unfold Runs Unpaired; decide +kernel⟩,
   ⟨up b0 [(tsetKey 5 0, 3), (tsetKey 63 1, 4)], by unfold Runs Unpaired; decide +kernel⟩⟩

theorem meets_TimeCommandsComplete :
    -- TIME_TICK
    (∃ (s : State), Runs s ∧ s.time.adj = 0) ∧
    -- TIME_TICK
    (∃ (s : State), Runs s ∧ s.time.adj = 0 ∧ (s.ticks + 1) % 250 ≠ 0 ∧ dispOn s = false ∧ bit s (fDlUp 0) = false ∧
     bit s (fDlUp 1) = false ∧ bit s ⟨R.PAIR_STATUS, 1, 1⟩ = false) ∧
    -- TIME_TICK
    (∃ (s : State), Runs s ∧ s.time.adj = 0 ∧ bit s ⟨R.PAIR_STATUS, 1, 1⟩ = true ∧ (s.ticks + 1) % 6000 = 0 ∧
     dispOn s = false) ∧
    -- TIME_SNAP
    (∃ (s : State), Runs s) ∧
    -- TIME_ADJ_SET
    (∃ (s : State), Runs s) ∧
    -- TIME_ADJ_STEP
    (∃ (s : State), Runs s) ∧
    -- DREQ_TIMER
    (∃ (n : Port) (s : State), Runs s ∧ (linkState s n = lsUp ∨ linkState s n = lsLowpower) ∧
     (exGet s n).waiting = false) ∧
    -- DREQ_TIMER
    (∃ (n : Port) (s : State), Runs s ∧ (linkState s n = lsUp ∨ linkState s n = lsLowpower) ∧
     (exGet s n).waiting = true ∧ (exGet s n).timeouts + 1 ≠ 10) ∧
    -- DREQ_RECEIVED
    (∃ (n : Port) (seq : BitVec 16) (phase : Fin 8) (s : State), Runs s ∧ linkState s n = lsUp) ∧
    -- DRESP_RECEIVED
    (∃ (n : Port) (seq : BitVec 16) (t2 t3 : BitVec 96) (st depth : Byte) (phase : Fin 8) (t1 : Nat) (p2 p3 : Int) (s : State), Runs s ∧
     linkState s n = lsUp ∧ (exGet s n).waiting = true ∧ (exGet s n).seq = seq.toNat ∧ (exGet s n).t1 = some t1 ∧
     timeSrc s ≠ .link n ∧ p2 = (fineOf ⟨bits t2.toNat 48 48, bits t2.toNat 16 32, bits t2.toNat 0 16⟩ : Int) ∧
     p3 = (fineOf ⟨bits t3.toNat 48 48, bits t3.toNat 16 32, bits t3.toNat 0 16⟩ : Int)) ∧
    -- DRESP_RECEIVED
    (∃ (n : Port) (seq : BitVec 16) (t2 t3 : BitVec 96) (st depth : Byte) (phase : Fin 8) (t1 : Nat) (p2 p3 : Int) (s : State), Runs s ∧
     linkState s n = lsUp ∧ (exGet s n).waiting = true ∧ (exGet s n).seq = seq.toNat ∧ (exGet s n).t1 = some t1 ∧
     timeSrc s = .link n ∧ p2 = (fineOf ⟨bits t2.toNat 48 48, bits t2.toNat 16 32, bits t2.toNat 0 16⟩ : Int) ∧
     p3 = (fineOf ⟨bits t3.toNat 48 48, bits t3.toNat 16 32, bits t3.toNat 0 16⟩ : Int)) ∧
    -- TIME_SOURCE_LOSS
    (∃ (s : State), Runs s ∧ (getF s fTimeState = 1 ∨ getF s fTimeState = 2)) :=
  ⟨⟨up b0 [(R.TIME_FREQ_ADJ, 0xFFFFFF00)], by unfold Runs; decide +kernel⟩,
   ⟨up b0 [(R.TIME_FREQ_ADJ, 0xFFFFFF00), (R.PAIR_STATUS, 0), (R.PCIE_STATUS 0, 0)], by unfold Runs; decide +kernel⟩,
   ⟨{ up b0 [(R.PAIR_STATUS, 2)] with ticks := 5999 }, by unfold Runs; decide +kernel⟩,
   ⟨{ b0 with plumb := { sec := 2 ^ 40 + 3, ns := 7, frac := 9 } }, by unfold Runs; decide +kernel⟩,
   ⟨up b0 [], by unfold Runs; decide +kernel⟩,
   ⟨up b0 [], by unfold Runs; decide +kernel⟩,
   ⟨1, up b0 [(R.LINK_STATUS 1, 0x4)], by unfold Runs; decide +kernel⟩,
   ⟨1, exSet 1 { seq := 7, waiting := true, timeouts := 2 } (up b0 [(R.LINK_STATUS 1, 0x4)]), by unfold Runs; decide +kernel⟩,
   ⟨1, 7, 2, up b0 [(R.LINK_STATUS 1, 0x4)], by unfold Runs; decide +kernel⟩,
   ⟨1, 7, 0, 0x20000, 0, 3, 4, 0, 0, 2 * 65536, exSet 1 { seq := 7, waiting := true, t1 := some 0 } (up b0 [(R.LINK_STATUS 1, 4), (R.DEV_MODE, 0)]), by unfold Runs; decide +kernel⟩,
   ⟨1, 7, 0, 0x20000, 0, 3, 4, 0, 0, 2 * 65536, exSet 1 { seq := 7, waiting := true, t1 := some 0 } (up b0 [(R.LINK_STATUS 1, 4), (R.DEV_MODE, 1), (R.PAIR_CTRL, 0), (fSrcSel.key, 0x11)]), by unfold Runs; decide +kernel⟩,
   ⟨{ up b0 [(fTimeState.key, 0x102)] with time := { b0.time with hist := [(5, 300), (4, 101)] } }, by unfold Runs; decide +kernel⟩⟩

theorem meets_PeerDelayPortAndPinCommandsComplete :
    -- PDELAY_REQ_TIMER
    (∃ (k : Fin 4) (phase : Fin 8) (s : State), Runs s ∧ bit s (fMacEn k) = true ∧
     bit s ⟨R.MAC_CTRL k, 4, 1⟩ = true ∧ bit s (fMacLink k) = true) ∧
    -- PDELAY_REQ_RECEIVED
    (∃ (k : Fin 4) (seq : BitVec 16) (turnaround : Word) (port : BitVec 80) (s : State), Runs s ∧
     bit s (fMacEn k) = true ∧ bit s ⟨R.MAC_CTRL k, 4, 1⟩ = true) ∧
    -- PDELAY_RESP_RECEIVED
    (∃ (k : Fin 4) (seq : BitVec 16) (turnaround : BitVec 48) (phase : Fin 8) (t1 : Nat) (s : State), Runs s ∧
     bit s ⟨R.MAC_CTRL k, 4, 1⟩ = true ∧ (macGet s k).pdelay = some (seq.toNat, t1)) ∧
    -- TWO_STEP_ENTRY_EXPIRY
    (∃ (k : Fin 4) (egress : Bool) (s : State), Runs s) ∧
    -- MSG_PORT_DELIVERY
    (∃ (tag : Byte) (data : List Byte) (s : State), Runs s ∧ s.time.msgRx.length + 1 + (wordsOf data).length ≤ 1024) ∧
    -- MSG_RX_READ
    (∃ (w : Word) (ws : List Word) (s : State), Runs s ∧ s.time.msgRx = w :: ws) ∧
    -- MSG_TX_GO
    (∃ (tag : Byte) (len : BitVec 16) (s : State), Runs s) ∧
    -- PPS_OUT_EDGE
    (∃ (edge : Nat) (s : State), Runs s ∧ ppsRuns s = true ∧ edge = secondOf s (fineOf s.plumb) ∧
     s.time.ppsSkip ≠ edge ∧ s.time.ppsSent.all (fun r => !decide (r.1 ≤ edge ∧ edge ≤ r.2)) = true) ∧
    -- PPS_IN_EDGE
    (∃ (falling : Bool) (phase : Fin 8) (p : Plumb) (s : State), Runs s ∧ bit s ⟨R.TIME_PPS_CTRL, 2, 1⟩ = true ∧
     bit s ⟨R.TIME_PPS_CTRL, 3, 1⟩ = falling ∧ timeSrc s ≠ .pps ∧ p = pinStamp phase s) ∧
    -- PPS_IN_MISSING
    (∃ (s : State), Runs s ∧ bit s ⟨R.TIME_PPS_CTRL, 2, 1⟩ = true) ∧
    -- EVT_PIN_EDGE
    (∃ (k : Fin 8) (level : Bool) (phase : Fin 8) (s : State), Runs s ∧ (pinGet s k).level ≠ level ∧
     bit s ⟨R.TIME_EVT_CTRL k, 0, 1⟩ = true ∧ (pinGet s k).stable ≠ level ∧ debounce s k ≠ 0) ∧
    -- EVT_DEBOUNCE_EXPIRY
    (∃ (k : Fin 8) (at_ : Plumb) (s : State), Runs s ∧ (pinGet s k).cand = some at_) :=
  ⟨⟨2, 1, up b0 [(R.MAC_CTRL 2, 0x11), (R.MAC_STATUS 2, 1)], by unfold Runs; decide +kernel⟩,
   ⟨2, 7, 9, 0x123, up b0 [(R.MAC_CTRL 2, 0x11), (R.MAC_STATUS 2, 1)], by unfold Runs; decide +kernel⟩,
   ⟨2, 7, 9, 5, 100, macSet 2 { macGet b0 2 with pdelay := some (7, 100) } (up b0 [(R.MAC_CTRL 2, 0x11), (R.MAC_STATUS 2, 1)]), by unfold Runs; decide +kernel⟩,
   ⟨2, true, macSet 2 { macGet b0 2 with egress := [{ key := [1], add := 3 }] } b0, by unfold Runs; decide +kernel⟩,
   ⟨5, [1, 2, 3, 4, 5], up b0 [], by unfold Runs; decide +kernel⟩,
   ⟨7, [], { up b0 [(R.TIME_MSG_STATUS, 1)] with time := { b0.time with msgRx := [7] } }, by unfold Runs; decide +kernel⟩,
   ⟨5, 6, { b0 with time := { b0.time with msgTx := [7, 8] } }, by unfold Runs; decide +kernel⟩,
   ⟨6, { up b0 [(R.TIME_PPS_CTRL, 0x640003)] with plumb := { sec := 5 } }, by unfold Runs; decide +kernel⟩,
   ⟨true, 2, pinStamp 2 { b0 with plumb := { sec := 5, ns := 6, frac := 7 } }, { up b0 [(R.TIME_PPS_CTRL, 0xC)] with plumb := { sec := 5, ns := 6, frac := 7 } }, by unfold Runs; decide +kernel⟩,
   ⟨up b0 [(R.TIME_PPS_CTRL, 4)], by unfold Runs; decide +kernel⟩,
   ⟨5, true, 7, up b0 [(R.TIME_EVT_CTRL 5, 0x701)], by unfold Runs; decide +kernel⟩,
   ⟨5, { sec := 3 }, pinSet 5 { level := true, cand := some { sec := 3 }, glitches := 2 } (up b0 [(R.TIME_EVT_CTRL 5, 0x703)]), by unfold Runs; decide +kernel⟩⟩

theorem meets_PcieCommandsComplete :
    -- PCIE_LINK_UP
    (∃ (k : Fin 2) (speed : Fin 4) (width : Fin 3) (s : State), Runs s ∧ pcieAllowed s k = true) ∧
    -- PCIE_LINK_DOWN
    (∃ (k : Fin 2) (s : State), Runs s ∧ bit s (fDlUp k) = true) ∧
    -- PCIE_RETRAIN
    (∃ (k : Fin 2) (speed : Fin 4) (width : Fin 3) (s : State), Runs s ∧ bit s (fDlUp k) = true) ∧
    -- UPSTREAM_HOT_RESET
    (∃ (s : State), Runs s ∧ Unpaired s) ∧
    -- TLP_RECEIVED
    (∃ (tlp : List Byte) (replays corr : Byte) (ecc : DramEcc) (s : State), Runs s ∧ bit s (fDlUp 1) = true ∧
     malformed s (cVdp 4) tlp = false ∧ (corr = 0 ∨ cfgBit s (cVdp 4) 69 0 = true ∨ errEnabled s (cVdp 4) 0 = false)) ∧
    -- TLP_RECEIVED
    (∃ (tlp : List Byte) (replays corr : Byte) (ecc : DramEcc) (v : Nat) (s : State), Runs s ∧
     upIsTunnel s = false ∧ bit s (fDlUp 0) = true ∧ malformed s cUp tlp = false ∧ isMem tlp = true ∧
     tlpKind tlp = .posted ∧ barHit s (tlpAddr tlp) = none ∧ memBelow s cUp (tlpAddr tlp) = true ∧
     vdpOfAddr s (tlpAddr tlp) = some v ∧ v < 5 ∧ bit s (fVdp v) = true ∧ corr = 0) ∧
    -- TLP_RECEIVED
    (∃ (tlp : List Byte) (replays corr : Byte) (ecc : DramEcc) (s : State), Runs s ∧ upIsTunnel s = false ∧
     bit s (fDlUp 0) = true ∧ malformed s cUp tlp = false ∧ isCfg tlp = false ∧ isMsg tlp = false ∧
     isMem tlp = true ∧ tlpKind tlp = .nonPosted ∧ barHit s (tlpAddr tlp) = none ∧
     memBelow s cUp (tlpAddr tlp) = false ∧ cfgBit s cUp 67 20 = false ∧ (cfgBit s cUp 69 13 = true ∨
     errEnabled s cUp 0 = false) ∧ vdpOfBus s (tlpTag tlp / 65536) = none ∧ corr = 0) ∧
    -- TLP_RECEIVED
    (∃ (tlp : List Byte) (rest : List (List Byte)) (replays corr : Byte) (ecc : DramEcc) (s : State), Runs s ∧
     s.pcie.inbox = tlp :: rest) ∧
    -- SEND_WINDOW_WRITE
    (∃ (n : Fin 16) (off : BitVec 20) (data : List Byte) (s : State), Runs s ∧ upstreamUp s = true ∧
     getA s ⟨R.PSW_SW_CTRL n, 0, 1⟩ = 1 ∧ off.toNat + data.length ≤ swSize s n ∧ (lookup s 5 n true).isSome = true ∧
     data ≠ [] ∧ off.toNat = (openFrame s n).length ∧ (openFrame s n ++ data).length = swFrame s n) ∧
    -- PCIE_COMPLETION_TIMEOUT
    (∃ (s : State), Runs s ∧ cfgBit s cBridge 26 4 = false ∧ cfgBit s cBridge 66 14 = true) ∧
    -- PCIE_COMPLETION_TIMEOUT
    (∃ (s : State), Runs s ∧ cfgBit s cBridge 26 4 = false ∧
     (errEnabled s cBridge 1 || errEnabled s cBridge 2) = false ∧ cfgBit s cBridge 66 14 = false) ∧
    -- PSW_BRG_COMMIT
    (∃ (s : State), Runs s ∧ Unpaired s ∧ pswCheck s = 0) ∧
    -- PSW_BRG_COMMIT
    (∃ (s : State), Runs s ∧ Unpaired s ∧ brgCheck s = 0) :=
  ⟨⟨0, 3, 2, up b0 [(R.DEV_MODE, 1), (R.PCIE_CTRL 0, 0x1B)], by unfold Runs; decide +kernel⟩,
   ⟨0, up b0 [(R.PCIE_STATUS 0, 0x37), (R.PCIE_BAR_CFG 0, 26)], by unfold Runs; decide +kernel⟩,
   ⟨1, 3, 2, up b0 [(R.PCIE_STATUS 1, 0x37), (R.PCIE_CTRL 1, 0x3D)], by unfold Runs; decide +kernel⟩,
   ⟨{ up b0 [(R.PCIE_BAR_CFG 0, 30)] with pcie := { b0.pcie with bus := 3, cfg := [(64, 7), (1025, 6)] } }, by unfold Runs Unpaired; decide +kernel⟩,
   ⟨[0x0A, 0, 0, 0, 0, 0, 0, 0, 0, 0, 0, 0], 2, 3, .ok, up b0 [(R.PCIE_STATUS 1, 0x21)], by unfold Runs; decide +kernel⟩,
   ⟨memTlp 5 9 true 0x200000 4 [1, 2, 3, 4], 0, 0, .ok, 2, cfgSet (cVdp 2) 1 2 (cfgSet (cVdp 2) 8 0x00200020 (cfgSet cUp 1 2 (cfgSet cUp 8 0x00200000 (up b0 [(R.PSW_VDP_STATUS, 4), (R.PCIE_STATUS 0, 1), (R.PSW_CTRL, 0)])))), by unfold Runs; decide +kernel⟩,
   ⟨memTlp 5 9 false 0x200000 4 [], 0, 0, .ok, (up b0 [(R.PCIE_STATUS 0, 1), (R.PSW_CTRL, 0)]), by unfold Runs; decide +kernel⟩,
   ⟨memTlp 5 9 true 0x200000 4 [1, 2, 3, 4], [[1]], 0, 0, .ok, { b0 with pcie := { b0.pcie with inbox := [memTlp 5 9 true 0x200000 4 [1, 2, 3, 4], [1]] } }, by unfold Runs; decide +kernel⟩,
   ⟨3, 2, [3], setOpen 3 [1, 2] (setAct (R.PSW_SW_CTRL 3) 0x30001 (setAct (entKey 5 0) 0x02035309 (setAct (entKey 5 1) 3 (up b0 [(R.PCIE_STATUS 0, 1), (R.PSW_CTRL, 0)])))), by unfold Runs; decide +kernel⟩,
   ⟨cfgSet cBridge 66 0x4000 b0, by unfold Runs; decide +kernel⟩,
   ⟨up b0 [], by unfold Runs; decide +kernel⟩,
   ⟨up b0 [(R.PSW_SW_BASE 1, 0x1000), (R.PSW_SW_CTRL 1, 0x40001), (0x8200C, 0x11)], by unfold Runs Unpaired; decide +kernel⟩,
   ⟨up b0 [(R.BRG_OW_CTRL 1, 1), (0x9000C, 0x11)], by unfold Runs Unpaired; decide +kernel⟩⟩

theorem meets_BridgeOutboundCommandsComplete :
    -- OUTBOUND_READ
    (∃ (w : Fin 8) (tag : BitVec 24) (off : BitVec 26) (enables : List Bool) (cyc : List (List LbBeat)) (s : State), Runs s ∧
     upstreamUp s = true ∧ (outWindow s w).en = true ∧ off.toNat + enables.length ≤ (outWindow s w).size ∧
     (outWindow s w).target = false ∧ (outWindow s w).prefetch = false ∧ s.brg.held = [] ∧
     s.brg.jobs.all (fun j => !j.cycles.isEmpty) = true ∧
     cyc = bursts (beatBytes (outWindow s w).width) (requestBeats (outWindow s w).width (outWindow s w).swap (outWindow s w).lb off.toNat enables []) ∧
     cyc ≠ []) ∧
    -- OUTBOUND_READ
    (∃ (w : Fin 8) (tag : BitVec 24) (off : BitVec 26) (enables : List Bool) (s : State), Runs s ∧
     upIsTunnel s = false ∧ bit s (fDlUp 0) = true ∧ (outWindow s w).en = true ∧
     off.toNat + enables.length ≤ (outWindow s w).size ∧ (outWindow s w).target = false ∧
     (outWindow s w).prefetch = false ∧ s.brg.held = [] ∧ s.brg.jobs = [] ∧
     requestBeats (outWindow s w).width (outWindow s w).swap (outWindow s w).lb off.toNat enables [] = []) ∧
    -- OUTBOUND_READ
    (∃ (w : Fin 8) (tag : BitVec 24) (off : BitVec 26) (enables : List Bool) (s : State), Runs s ∧
     upIsTunnel s = false ∧ bit s (fDlUp 0) = true ∧ (outWindow s w).en = false) ∧
    -- OUTBOUND_WRITE
    (∃ (w : Fin 8) (off : BitVec 26) (enables : List Bool) (data : List Byte) (cyc : List (List LbBeat)) (s : State), Runs s ∧
     upstreamUp s = true ∧ (outWindow s w).en = true ∧ off.toNat + enables.length ≤ (outWindow s w).size ∧
     (outWindow s w).target = false ∧ (outWindow s w).posted = true ∧ s.brg.held = [] ∧
     s.brg.jobs.all (fun j => !j.cycles.isEmpty) = true ∧ (wbuf s = 0 ∨ wbuf s + data.length ≤ 2048) ∧
     cyc = bursts (beatBytes (outWindow s w).width) (requestBeats (outWindow s w).width (outWindow s w).swap (outWindow s w).lb off.toNat enables data) ∧
     cyc ≠ []) ∧
    -- OUTBOUND_WRITE
    (∃ (w : Fin 8) (off : BitVec 26) (enables : List Bool) (data : List Byte) (s : State), Runs s ∧
     upstreamUp s = true ∧ (outWindow s w).en = true ∧ off.toNat + enables.length ≤ (outWindow s w).size ∧
     (outWindow s w).target = true) ∧
    -- PREFETCH_EXPIRY
    (∃ (w : Fin 8) (s : State), Runs s) ∧
    -- BRIDGE_FRAME_PERFORM
    (∃ (frame data : List Byte) (cyc : List (List LbBeat)) (s : State), Runs s ∧ bit s ⟨R.BRG_CTRL, 1, 1⟩ = true ∧
     data = (frame.drop 8).take (ofBE (sub frame 5 2)) ∧ s.brg.held = [] ∧
     s.brg.jobs.all (fun j => !j.cycles.isEmpty) = true ∧ (wbuf s = 0 ∨ wbuf s + data.length ≤ 2048) ∧
     cyc = bursts (beatBytes (bits (byteAt frame 0) 2 2)) (requestBeats (bits (byteAt frame 0) 2 2) (bits (byteAt frame 0) 4 2) 0 (ofBE (sub frame 1 4) % 2 ^ 26) (List.replicate data.length true) data) ∧
     cyc ≠ []) ∧
    -- BRIDGE_FRAME_PERFORM
    (∃ (frame : List Byte) (s : State), Runs s ∧ bit s ⟨R.BRG_CTRL, 1, 1⟩ = false) ∧
    -- LOCAL_BUS_CYCLE_END
    (∃ (lanes : List (List Byte)) (j : LbJob) (js : List LbJob) (w tag : Nat) (c : List LbBeat) (s : State), Runs s ∧
     upIsTunnel s = false ∧ bit s (fDlUp 0) = true ∧ cycling s = true ∧ s.brg.jobs = j :: js ∧ j.who = .read w tag ∧
     j.cycles = [c] ∧ j.keep = false ∧ s.brg.held = [] ∧ js.all (fun j => !j.cycles.isEmpty) = true) ∧
    -- POSTED_WRITE_FAILURE
    (∃ (timeout : Bool) (j : LbJob) (js : List LbJob) (w : Nat) (s : State), Runs s ∧ cycling s = true ∧
     s.brg.jobs = j :: js ∧ j.who = .write w ∧ s.brg.held = [] ∧ js.all (fun j => !j.cycles.isEmpty) = true) ∧
    -- LB_BEAT_TIMEOUT
    (∃ (j : LbJob) (js : List LbJob) (w tag : Nat) (s : State), Runs s ∧ upIsTunnel s = false ∧
     bit s (fDlUp 0) = true ∧ cycling s = true ∧ s.brg.jobs = j :: js ∧ j.who = .read w tag ∧ s.brg.held = [] ∧
     js.all (fun j => !j.cycles.isEmpty) = true) ∧
    -- PERR_CAPTURE_RELEASE
    (∃ (s : State), Runs s) :=
  ⟨⟨2, 7, 8, [true, false, true], let s := (setAct (R.BRG_OW_CTRL 2) 0x9 (setAct (R.BRG_OW_LB 2) 0x1000 (up b0 [(R.PCIE_STATUS 0, 1), (R.PSW_CTRL, 0)]))); bursts (beatBytes (outWindow s (2 : Fin 8)).width) (requestBeats (outWindow s (2 : Fin 8)).width (outWindow s (2 : Fin 8)).swap (outWindow s (2 : Fin 8)).lb (8 : BitVec 26).toNat ([true, false, true] : List Bool) []), (setAct (R.BRG_OW_CTRL 2) 0x9 (setAct (R.BRG_OW_LB 2) 0x1000 (up b0 [(R.PCIE_STATUS 0, 1), (R.PSW_CTRL, 0)]))), by unfold Runs; decide +kernel⟩,
   ⟨2, 7, 8, [false, false], (setAct (R.BRG_OW_CTRL 2) 0x9 (setAct (R.BRG_OW_LB 2) 0x1000 (up b0 [(R.PCIE_STATUS 0, 1), (R.PSW_CTRL, 0)]))), by unfold Runs; decide +kernel⟩,
   ⟨2, 7, 8, [true, false, true], (up b0 [(R.PCIE_STATUS 0, 1), (R.PSW_CTRL, 0)]), by unfold Runs; decide +kernel⟩,
   ⟨2, 8, [true, false, true], [1, 2, 3], let s := (setAct (R.BRG_OW_CTRL 2) 0x51 (setAct (R.BRG_OW_LB 2) 0x1000 (up b0 [(R.PCIE_STATUS 0, 1), (R.PSW_CTRL, 0)]))); bursts (beatBytes (outWindow s (2 : Fin 8)).width) (requestBeats (outWindow s (2 : Fin 8)).width (outWindow s (2 : Fin 8)).swap (outWindow s (2 : Fin 8)).lb (8 : BitVec 26).toNat ([true, false, true] : List Bool) ([1, 2, 3] : List Byte)), (setAct (R.BRG_OW_CTRL 2) 0x51 (setAct (R.BRG_OW_LB 2) 0x1000 (up b0 [(R.PCIE_STATUS 0, 1), (R.PSW_CTRL, 0)]))), by unfold Runs; decide +kernel⟩,
   ⟨2, 8, [true, false, true], [1, 2, 3], (setAct (R.BRG_OW_CTRL 2) 0x209 (setAct (R.BRG_OW_LB 2) 0x1000 (up b0 [(R.PCIE_STATUS 0, 1), (R.PSW_CTRL, 0)]))), by unfold Runs; decide +kernel⟩,
   ⟨2, { b0 with brg := { b0.brg with prefetch := [(2, (64, [1, 2]))] } }, by unfold Runs; decide +kernel⟩,
   ⟨[8, 0, 0, 0, 4, 0, 2, 0, 7, 8], [7, 8], bursts (beatBytes (bits (byteAt ([8, 0, 0, 0, 4, 0, 2, 0, 7, 8] : List Byte) 0) 2 2)) (requestBeats (bits (byteAt ([8, 0, 0, 0, 4, 0, 2, 0, 7, 8] : List Byte) 0) 2 2) (bits (byteAt ([8, 0, 0, 0, 4, 0, 2, 0, 7, 8] : List Byte) 0) 4 2) 0 (ofBE (sub ([8, 0, 0, 0, 4, 0, 2, 0, 7, 8] : List Byte) 1 4) % 2 ^ 26) (List.replicate ([7, 8] : List Byte).length true) ([7, 8] : List Byte)), up b0 [(R.BRG_CTRL, 3)], by unfold Runs; decide +kernel⟩,
   ⟨[8], up b0 [], by unfold Runs; decide +kernel⟩,
   ⟨[[5, 6]], { who := .read 2 7, len := 2, enables := [true, true], cycles := [[⟨0, 3, [0, 0], [0, 1]⟩]] }, [], 2, 7, [⟨0, 3, [0, 0], [0, 1]⟩], { up b0 [(R.BRG_CTRL, 3), (R.PCIE_STATUS 0, 1), (R.PSW_CTRL, 0)] with brg := { b0.brg with jobs := [{ who := .read 2 7, len := 2, enables := [true, true], cycles := [[⟨0, 3, [0, 0], [0, 1]⟩]] }] } }, by unfold Runs; decide +kernel⟩,
   ⟨true, { who := .write 2, len := 2, cycles := [[⟨0, 3, [0, 0], [0, 1]⟩], []] }, [], 2, { up b0 [(R.BRG_CTRL, 3)] with brg := { b0.brg with jobs := [{ who := .write 2, len := 2, cycles := [[⟨0, 3, [0, 0], [0, 1]⟩], []] }] } }, by unfold Runs; decide +kernel⟩,
   ⟨{ who := .read 2 7, len := 2 }, [], 2, 7, { up b0 [(R.BRG_CTRL, 3), (R.PCIE_STATUS 0, 1), (R.PSW_CTRL, 0)] with brg := { b0.brg with jobs := [{ who := .read 2 7, len := 2 }] } }, by unfold Runs; decide +kernel⟩,
   ⟨up b0 [(R.BRG_PERR_WINDOW, 0x21)], by unfold Runs; decide +kernel⟩⟩

theorem meets_BridgeInboundCommandsComplete :
    -- MA_READ
    (∃ (be : BitVec 4) (mine : List LbBeat) (s : State), Runs s ∧ bit s ⟨R.BRG_MA_STATUS, 0, 1⟩ = false ∧
     mine = (wordBeats (bits (reg s R.BRG_MA_ADDR).toNat 28 2) (bits (reg s R.BRG_MA_ADDR).toNat 30 2) (bits (reg s R.BRG_MA_ADDR).toNat 0 26 / 4 * 4) (fun b => if be.toNat.testBit b then some b else none) (bytesLE 4 (reg s R.BRG_MA_DATA).toNat)).filter (fun x => x.addr == bits (reg s R.BRG_MA_ADDR).toNat 0 26 / beatBytes (bits (reg s R.BRG_MA_ADDR).toNat 28 2) * beatBytes (bits (reg s R.BRG_MA_ADDR).toNat 28 2)) ∧
     mine ≠ [] ∧ s.brg.held = [] ∧ s.brg.jobs.all (fun j => !j.cycles.isEmpty) = true) ∧
    -- MA_WRITE
    (∃ (be : BitVec 4) (mine : List LbBeat) (s : State), Runs s ∧ bit s ⟨R.BRG_MA_STATUS, 0, 1⟩ = false ∧
     mine = (wordBeats (bits (reg s R.BRG_MA_ADDR).toNat 28 2) (bits (reg s R.BRG_MA_ADDR).toNat 30 2) (bits (reg s R.BRG_MA_ADDR).toNat 0 26 / 4 * 4) (fun b => if be.toNat.testBit b then some b else none) (bytesLE 4 (reg s R.BRG_MA_DATA).toNat)).filter (fun x => x.addr == bits (reg s R.BRG_MA_ADDR).toNat 0 26 / beatBytes (bits (reg s R.BRG_MA_ADDR).toNat 28 2) * beatBytes (bits (reg s R.BRG_MA_ADDR).toNat 28 2)) ∧
     mine ≠ [] ∧ s.brg.held = [] ∧ s.brg.jobs.all (fun j => !j.cycles.isEmpty) = true) ∧
    -- MA_CYCLE_DONE
    (∃ (lanes : List Byte) (j : LbJob) (c : List LbBeat) (s : State), Runs s ∧ cycling s = true ∧ s.brg.jobs = [j] ∧
     j.who = .mgmt true ∧ j.cycles = [c] ∧ s.brg.held = []) ∧
    -- LB_REQUEST
    (∃ (s : State), Runs s ∧ brgEn s = true ∧ s.brg.jobs = [] ∧ s.brg.master = false) ∧
    -- LB_REQUEST_RELEASE
    (∃ (s : State), Runs s) ∧
    -- LB_GRANT_MAX_EXPIRY
    (∃ (s : State), Runs s ∧ s.brg.master = true ∧ s.brg.jobs ≠ []) ∧
    -- LB_INT_LOW
    (∃ (low : Bool) (s : State), Runs s) ∧
    -- INBOUND_CYCLE
    (∃ (addr : BitVec 26) (be : List (BitVec 4)) (lanes : List (List Byte)) (i : Nat) (ws : List (Nat × List Byte)) (s : State), Runs s ∧
     be.length ≤ 16 ∧ brgEn s = true ∧ s.brg.master = true ∧ inboundWindow s addr.toNat = some i ∧
     (inWindow s i).target = false ∧ s.brg.inbuf = [] ∧
     ws = (enabledRuns 0 (beatsToBytes (inWindow s i).swap be lanes).1).map (fun r => (inPcie s i + (addr.toNat / 4 * 4 + r.1 - (inWindow s i).lb), ((beatsToBytes (inWindow s i).swap be lanes).2.drop r.1).take r.2)) ∧
     (ws.map (fun w => w.2.length)).sum ≤ 1024) ∧
    -- INBOUND_CYCLE
    (∃ (addr : BitVec 26) (be : List (BitVec 4)) (lanes : List (List Byte)) (i : Nat) (ws : List (Nat × List Byte)) (s : State), Runs s ∧
     upstreamUp s = false ∧ be.length ≤ 16 ∧ brgEn s = true ∧ s.brg.master = true ∧
     inboundWindow s addr.toNat = some i ∧ (inWindow s i).target = false ∧
     ws = (enabledRuns 0 (beatsToBytes (inWindow s i).swap be lanes).1).map (fun r => (inPcie s i + (addr.toNat / 4 * 4 + r.1 - (inWindow s i).lb), ((beatsToBytes (inWindow s i).swap be lanes).2.drop r.1).take r.2)) ∧
     (s.brg.inbuf.map (fun w => w.2.length)).sum + (ws.map (fun w => w.2.length)).sum ≤ 1024) ∧
    -- INBOUND_CYCLE
    (∃ (addr : BitVec 26) (be : List (BitVec 4)) (lanes : List (List Byte)) (i a : Nat) (s : State), Runs s ∧
     upIsTunnel s = false ∧ bit s (fDlUp 0) = true ∧ be.length ≤ 16 ∧ brgEn s = true ∧ s.brg.master = true ∧
     inboundWindow s addr.toNat = some i ∧ (inWindow s i).target = false ∧
     a = inPcie s i + (addr.toNat / 4 * 4 - (inWindow s i).lb) ∧ bridgeMay s a = true ∧ vdpOfAddr s a = none ∧
     acsOn s 5 0 = false ∧ s.brg.inbuf = [] ∧ matchSlot s (addr.toNat / 4 * 4) (beKey be) be.length = none ∧
     (List.range 4).all (fun k => (slotGet s.brg k).isSome) = false) ∧
    -- INBOUND_READ_DEFER
    (∃ (d : LbSlot) (k : Nat) (s : State), Runs s ∧ brgEn s = true ∧ s.brg.current = some d ∧
     (List.range 4).find? (fun k => (slotGet s.brg k).isNone) = some k) ∧
    -- DT_COMPLETION_ARRIVAL
    (∃ (slot status : Fin 5) (data : List Byte) (d : LbSlot) (s : State), Runs s ∧ slot.val < 4 ∧
     slotGet s.brg slot = some d ∧ d.done = none) ∧
    -- DT_SLOT_EXPIRY
    (∃ (slot : Fin 4) (d : LbSlot) (s : State), Runs s ∧ slotGet s.brg slot = some d ∧ d.done ≠ none) :=
  ⟨⟨6, [⟨0x102, 1, [9, 0], [2, 0]⟩], up b0 [(R.BRG_MA_ADDR, 0x10000102), (R.BRG_MA_DATA, 0x07090503)], by unfold Runs; decide +kernel⟩,
   ⟨6, [⟨0x102, 1, [9, 0], [2, 0]⟩], up b0 [(R.BRG_MA_ADDR, 0x10000102), (R.BRG_MA_DATA, 0x07090503)], by unfold Runs; decide +kernel⟩,
   ⟨[], { who := .mgmt true, cycles := [[]] }, [], { up b0 [(R.BRG_CTRL, 3), (R.BRG_MA_STATUS, 1)] with brg := { b0.brg with jobs := [{ who := .mgmt true, cycles := [[]] }] } }, by unfold Runs; decide +kernel⟩,
   ⟨up b0 [(R.BRG_CTRL, 3)], by unfold Runs; decide +kernel⟩,
   ⟨{ up b0 [(R.BRG_STATUS, 1)] with brg := { b0.brg with master := true } }, by unfold Runs; decide +kernel⟩,
   ⟨{ up b0 [(R.BRG_STATUS, 1)] with brg := { b0.brg with master := true, jobs := [{ who := .frame }] } }, by unfold Runs; decide +kernel⟩,
   ⟨true, up b0 [], by unfold Runs; decide +kernel⟩,
   ⟨0x4004, [6], [[1, 2, 3, 4]], 1, let s := { (setAct (R.BRG_IW_CTRL 1) 0x1 (setAct (R.BRG_IW_LB 1) 0x4000 (setAct (R.BRG_IW_PCIE_LO 1) 0x100000 (up b0 [(R.BRG_CTRL, 1), (R.PSW_CTRL, 1)])))) with brg := { b0.brg with master := true } }; (enabledRuns 0 (beatsToBytes (inWindow s (1 : Nat)).swap ([6] : List (BitVec 4)) ([[1, 2, 3, 4]] : List (List Byte))).1).map (fun r => (inPcie s (1 : Nat) + ((0x4004 : BitVec 26).toNat / 4 * 4 + r.1 - (inWindow s (1 : Nat)).lb), ((beatsToBytes (inWindow s (1 : Nat)).swap ([6] : List (BitVec 4)) ([[1, 2, 3, 4]] : List (List Byte))).2.drop r.1).take r.2)), { (setAct (R.BRG_IW_CTRL 1) 0x1 (setAct (R.BRG_IW_LB 1) 0x4000 (setAct (R.BRG_IW_PCIE_LO 1) 0x100000 (up b0 [(R.BRG_CTRL, 1), (R.PSW_CTRL, 1)])))) with brg := { b0.brg with master := true } }, by unfold Runs; decide +kernel⟩,
   ⟨0x4004, [6], [[1, 2, 3, 4]], 1, let s := { (setAct (R.BRG_IW_CTRL 1) 0x1 (setAct (R.BRG_IW_LB 1) 0x4000 (setAct (R.BRG_IW_PCIE_LO 1) 0x100000 (up b0 [(R.BRG_CTRL, 1), (R.PSW_CTRL, 0), (R.PCIE_STATUS 0, 0)])))) with brg := { b0.brg with master := true } }; (enabledRuns 0 (beatsToBytes (inWindow s (1 : Nat)).swap ([6] : List (BitVec 4)) ([[1, 2, 3, 4]] : List (List Byte))).1).map (fun r => (inPcie s (1 : Nat) + ((0x4004 : BitVec 26).toNat / 4 * 4 + r.1 - (inWindow s (1 : Nat)).lb), ((beatsToBytes (inWindow s (1 : Nat)).swap ([6] : List (BitVec 4)) ([[1, 2, 3, 4]] : List (List Byte))).2.drop r.1).take r.2)), { (setAct (R.BRG_IW_CTRL 1) 0x1 (setAct (R.BRG_IW_LB 1) 0x4000 (setAct (R.BRG_IW_PCIE_LO 1) 0x100000 (up b0 [(R.BRG_CTRL, 1), (R.PSW_CTRL, 0), (R.PCIE_STATUS 0, 0)])))) with brg := { b0.brg with master := true } }, by unfold Runs; decide +kernel⟩,
   ⟨0x4004, [6], [], 1, 0x100004, let x := (setAct (R.BRG_IW_CTRL 1) 0x1 (setAct (R.BRG_IW_LB 1) 0x4000 (setAct (R.BRG_IW_PCIE_LO 1) 0x100000 (up b0 [(R.BRG_CTRL, 1), (R.PSW_CTRL, 0), (R.PCIE_STATUS 0, 1)])))); cfgSet cBridge 1 4 (cfgSet (cVdp 5) 1 4 (cfgSet cUp 1 4 { x with brg := { b0.brg with master := true } })), by unfold Runs; decide +kernel⟩,
   ⟨{ addr := 4, be := 6, beats := 1 }, 0, { up b0 [(R.BRG_CTRL, 1)] with brg := { b0.brg with current := some { addr := 4, be := 6, beats := 1 } } }, by unfold Runs; decide +kernel⟩,
   ⟨2, 0, [1], { addr := 4, be := 6, beats := 1 }, slotSet 2 (some { addr := 4, be := 6, beats := 1 }) b0, by unfold Runs; decide +kernel⟩,
   ⟨2, { addr := 4, be := 6, beats := 1, done := some (0, []) }, slotSet 2 (some { addr := 4, be := 6, beats := 1, done := some (0, []) }) b0, by unfold Runs; decide +kernel⟩⟩

theorem meets_UsbHubCommandsComplete :
    -- USB_HUB_ENABLE
    (∃ (v : Word) (s : State), Runs s ∧ Unpaired s ∧ bit s fEn2 = false ∧ v.toNat % 2 = 1 ∧
     upBad (bits v.toNat 1 3) (getF s fUp3) = false) ∧
    -- USB_UP_VBUS_DETECT
    (∃ (s : State), Runs s ∧ bit s fEn2 = true ∧ upServes s s.usb.up2 = true ∧
     (bit s fEn3 && upServes s s.usb.up3) = false ∧ mode s ≠ mStandby) ∧
    -- USB_UP_VBUS_DETECT
    (∃ (s : State), Runs s ∧ (bit s fEn2 && upServes s s.usb.up2) = false ∧ bit s fEn3 = true ∧
     upServes s s.usb.up3 = true ∧ mode s ≠ mStandby) ∧
    -- USB_UP_LINK_LOSS
    (∃ (ss : Bool) (s : State), Runs s) ∧
    -- LOCAL_PORT_OVERCURRENT
    (∃ (p : Fin 3) (s : State), Runs s) ∧
    -- LOCAL_PORT_OVERCURRENT
    (∃ (p : Fin 3) (s : State), Runs s ∧ bit s (fPortOc (5 + p)) = true) ∧
    -- SET_PORT_POWER
    (∃ (p : BitVec 5) (s : State), Runs s ∧ 5 ≤ p.toNat ∧ p.toNat ≤ 7 ∧ bit s fEn2 = true ∧
     getF s (fPort p.toNat) = psOff) ∧
    -- SET_PORT_POWER
    (∃ (p : BitVec 5) (s : State), Runs s ∧ 5 ≤ p.toNat ∧ p.toNat ≤ 7 ∧ bit s fEn2 = true) ∧
    -- PORT_ERROR_DISABLE
    (∃ (p : BitVec 3) (s : State), Runs s ∧ p ≠ 0 ∧ 2 ≤ getF s (fPort p.toNat)) ∧
    -- USB_PORT_CONNECT_CHANGE
    (∃ (p : BitVec 3) (att ls : Bool) (s : State), Runs s ∧ p ≠ 0 ∧ getF s (fPort p.toNat) ≠ psOff) ∧
    -- HUB_PORT_FEATURE_REQUEST
    (∃ (p : BitVec 5) (s : State), Runs s ∧ 1 ≤ p.toNat ∧ p.toNat ≤ 7 ∧ getF s (fPortMode p.toNat) = 1 ∧
     2 ≤ getF s (fPort p.toNat)) ∧
    -- HUB_PORT_FEATURE_REQUEST
    (∃ (p : BitVec 5) (hs : Bool) (s : State), Runs s ∧ 1 ≤ p.toNat ∧ p.toNat ≤ 7 ∧ getF s (fPortMode p.toNat) = 1 ∧
     getF s (fPort p.toNat) = psResetting) ∧
    -- HUB_PORT_FEATURE_REQUEST
    (∃ (p : BitVec 5) (s : State), Runs s ∧ p = 8 ∧ 2 ≤ s.usb.port8) ∧
    -- HUB_PORT_FEATURE_REQUEST
    (∃ (p : BitVec 5) (hs : Bool) (s : State), Runs s ∧ p = 8 ∧ s.usb.port8 = psResetting) ∧
    -- HUB_PORT_FEATURE_REQUEST
    (∃ (p : BitVec 5) (r : StdRequest) (s : State), Runs s ∧ bit s fEn2 = true) ∧
    -- HUB_PORT_FEATURE_REQUEST
    (∃ (p : BitVec 5) (r : StdRequest) (s : State), Runs s ∧ devOn s = true) ∧
    -- HUB_PORT_FEATURE_REQUEST
    (∃ (p : BitVec 5) (r : TtRequest) (s : State), Runs s ∧ bit s fEn2 = true) ∧
    -- HUB_PORT_FEATURE_REQUEST
    (∃ (p : BitVec 5) (s : State), Runs s ∧ 9 ≤ p.toNat ∧ p.toNat ≤ 16 ∧
     bit s ⟨R.USB2_TP_CTRL (p.toNat - 9), 0, 1⟩ = true ∧ 2 ≤ getF s (fTp (p.toNat - 9))) ∧
    -- HUB_PORT_FEATURE_REQUEST
    (∃ (p : BitVec 5) (s : State), Runs s ∧ p = 8 ∧ s.usb.port8 = psEnabled) ∧
    -- HUB_PORT_FEATURE_REQUEST
    (∃ (p : BitVec 5) (s : State), Runs s ∧ 1 ≤ p.toNat ∧ p.toNat ≤ 7 ∧ getF s (fPortMode p.toNat) = 1 ∧
     getF s (fPort p.toNat) = psEnabled ∧ bit s ⟨R.USB2_CTRL, 5, 1⟩ = true) ∧
    -- HUB_PORT_FEATURE_REQUEST
    (∃ (p : BitVec 5) (s : State), Runs s ∧ 1 ≤ p.toNat ∧ p.toNat ≤ 16 ∧ bit s fEn2 = true) ∧
    -- HUB_PORT_FEATURE_REQUEST
    (∃ (p : BitVec 5) (c : Byte) (s : State), Runs s) ∧
    -- HUB_PORT_FEATURE_REQUEST
    (∃ (p : BitVec 5) (s : State), Runs s ∧ s.usb.halt2 = false ∧ ((changeMap s false).all (· == 0)) = false) ∧
    -- USB3_PACKET_FRAME
    (∃ (tag : Byte) (frame : List Byte) (s : State), Runs s ∧ tag.toNat ≤ 3 ∧ byteAt frame 0 = 1 ∧
     20 ≤ frame.length ∧ frame.length ≤ 1044 ∧ bit s (fVirtual3 (tag.toNat + 1)) = true) ∧
    -- USB3_LINK_STATE_FRAME
    (∃ (tag : Byte) (frame : List Byte) (s : State), Runs s ∧ tag.toNat ≤ 3 ∧ frame.length = 4 ∧
     byteAt frame 0 = 2 ∧ byteAt frame 1 = 3 ∧ bit s (fVirtual3 (tag.toNat + 1)) = true ∧
     pairUp s 2 8 tag.toNat = true) ∧
    -- USB_BUS_SUSPEND
    (∃ (hubWake devWake : Bool) (s : State), Runs s ∧ bit s ⟨R.USB2_STATUS, 0, 1⟩ = true) ∧
    -- USB_BUS_SUSPEND
    (∃ (hubWake devWake : Bool) (s : State), Runs s ∧ bit s ⟨R.USB2_CTRL, 5, 1⟩ = true ∧
     bit s ⟨R.USB2_STATUS, 0, 1⟩ = true) ∧
    -- USB_HOST_RESUME
    (∃ (s : State), Runs s ∧ s.usb.driving = none ∧ s.usb.port8 ≠ psSuspended) ∧
    -- REMOTE_WAKE
    (∃ (n : BitVec 7) (kSeen : Bool) (s : State), Runs s ∧ bit s ⟨R.USBD_STATUS, 4, 1⟩ = true ∧
     s.usb.devWake = true ∧ bit s ⟨R.USBD_CTRL, 2, 1⟩ = true ∧ getF s ⟨R.USBD_CTRL, 8, 3⟩ ≤ severityOf n.toNat s ∧
     s.usb.driving = none) ∧
    -- REMOTE_WAKE_END
    (∃ (src : Nat) (k : Bool) (s : State), Runs s ∧ s.usb.driving = some (src, k)) :=
  ⟨⟨5, up b0 [(R.USB2_PORT_CTRL 0, 1), (R.USB2_PORT_CTRL 6, 2), (R.USB3_CTRL, 4)], by unfold Runs Unpaired; decide +kernel⟩,
   ⟨{ up b0 [(R.USB2_CTRL, 5), (R.TC_STATUS 1, 0x1002)] with usb := { b0.usb with up2 := 2 } }, by unfold Runs; decide +kernel⟩,
   ⟨{ up b0 [(R.USB3_CTRL, 1)] with usb := { b0.usb with up3 := 0 } }, by unfold Runs; decide +kernel⟩,
   ⟨false, up b0 [(R.USB2_STATUS, 0x55001F)], by unfold Runs; decide +kernel⟩,
   ⟨1, setPower 6 true (up b0 [(R.USB2_PORT_STATUS 5, 4)]), by unfold Runs; decide +kernel⟩,
   ⟨1, up b0 [((fPortOc 6).key, BitVec.ofNat 32 (2 ^ (fPortOc 6).lo))], by unfold Runs; decide +kernel⟩,
   ⟨6, up b0 [(R.USB2_CTRL, 1), (R.USB2_PORT_STATUS 5, 0x40)], by unfold Runs; decide +kernel⟩,
   ⟨6, setPower 6 true (up b0 [(R.USB2_CTRL, 1), (R.USB2_PORT_STATUS 5, 4)]), by unfold Runs; decide +kernel⟩,
   ⟨7, up b0 [(R.USB2_PORT_STATUS 6, 4)], by unfold Runs; decide +kernel⟩,
   ⟨7, true, true, up b0 [(R.USB2_PORT_STATUS 6, 1), (R.USB2_PORT_CTRL 6, 1)], by unfold Runs; decide +kernel⟩,
   ⟨7, up b0 [(R.USB2_PORT_STATUS 6, 2), (R.USB2_PORT_CTRL 6, 1)], by unfold Runs; decide +kernel⟩,
   ⟨7, true, up b0 [(R.USB2_PORT_STATUS 6, 3), (R.USB2_PORT_CTRL 6, 1)], by unfold Runs; decide +kernel⟩,
   ⟨8, { b0 with usb := { b0.usb with port8 := psEnabled } }, by unfold Runs; decide +kernel⟩,
   ⟨8, true, { b0 with usb := { b0.usb with port8 := psResetting } }, by unfold Runs; decide +kernel⟩,
   ⟨0, .getDescriptor 1 0 18, up b0 [(R.USB2_CTRL, 1)], by unfold Runs; decide +kernel⟩,
   ⟨0, .getStatus 0 0, { up b0 [(R.USBD_CTRL, 1), (R.USB2_CTRL, 1), (R.USB2_STATUS, 3)] with usb := { b0.usb with up2 := 2, port8 := psEnabled } }, by unfold Runs; decide +kernel⟩,
   ⟨9, .stop, up b0 [(R.USB2_CTRL, 1)], by unfold Runs; decide +kernel⟩,
   ⟨16, up b0 [(R.USB2_TP_CTRL 7, 1), (R.USB2_TP_STATUS 7, 4)], by unfold Runs; decide +kernel⟩,
   ⟨8, { b0 with usb := { b0.usb with port8 := psEnabled } }, by unfold Runs; decide +kernel⟩,
   ⟨7, up b0 [(R.USB2_PORT_STATUS 6, 4), (R.USB2_PORT_CTRL 6, 1), (R.USB2_CTRL, 0x21)], by unfold Runs; decide +kernel⟩,
   ⟨8, up b0 [(R.USB2_CTRL, 1)], by unfold Runs; decide +kernel⟩,
   ⟨0, 1, up b0 [], by unfold Runs; decide +kernel⟩,
   ⟨0, { b0 with usb := { b0.usb with change := natSet b0.usb.change 9 1 } }, by unfold Runs; decide +kernel⟩,
   ⟨3, [1] ++ List.replicate 19 7, up b0 [(R.USB3_PORT_STATUS 3, 0x30)], by unfold Runs; decide +kernel⟩,
   ⟨3, [2, 3, 0, 0], setAct (entKey 5 0) 0x01038005 (setAct (entKey 6 0) 0x08001005 (setAct (entKey 6 1) 3 (up b0 [(R.USB3_PORT_STATUS 3, 0x30)]))), by unfold Runs; decide +kernel⟩,
   ⟨false, true, up b0 [(R.USB2_STATUS, 1)], by unfold Runs; decide +kernel⟩,
   ⟨false, true, up b0 [(R.USB2_STATUS, 1), (R.USB2_CTRL, 0x21)], by unfold Runs; decide +kernel⟩,
   ⟨up b0 [(R.USB2_STATUS, 9), (R.USBD_STATUS, 0x14)], by unfold Runs; decide +kernel⟩,
   ⟨64, true, { up b0 [(R.USBD_STATUS, 0x14), (R.USBD_CTRL, 4)] with usb := { b0.usb with devWake := true } }, by unfold Runs; decide +kernel⟩,
   ⟨64, true, { up b0 [(R.USB2_STATUS, 9), (R.USBD_STATUS, 0x14)] with usb := { b0.usb with driving := some (64, true) } }, by unfold Runs; decide +kernel⟩⟩

theorem meets_TranslatorCommandsComplete :
    -- START_SPLIT
    (∃ (k : Fin 8) (pid : Byte) (isIn : Bool) (dev : BitVec 7) (ls : Bool) (ep : BitVec 4) (kind : Fin 4) (frameNo : BitVec 11) (uframe : BitVec 3) (dataPid : Byte) (data : List Byte) (s : State), Runs s ∧
     bit s (fBound k) = true ∧ bit s ⟨R.USB2_TP_CTRL k, 0, 1⟩ = true ∧ kind.val < 2 ∧ (ttGet s k).np.length < 2 ∧
     (ttGet s k).stopped = false) ∧
    -- COMPLETE_SPLIT
    (∃ (k : Fin 8) (dev : BitVec 7) (ep : BitVec 4) (isIn : Bool) (sp : Split) (pid : Nat) (data : List Byte) (s : State), Runs s ∧
     (ttGet s k).err.contains (dev.toNat, ep.toNat, isIn) = false ∧
     ((ttGet s k).np ++ (ttGet s k).per).find? (fun x => x.is dev.toNat ep.toNat isIn) = some sp ∧
     sp.expired = false ∧ sp.result = some (pid, data)) ∧
    -- TT_SPLIT_RESULT_FRAME
    (∃ (k : Fin 8) (frame : List Byte) (late : Bool) (s : State), Runs s ∧ byteAt frame 0 = 2 ∧
     ofBE (sub frame 8 2) ≤ 64 ∧ frame.length = 10 + ofBE (sub frame 8 2) ∧
     (ttGet s k).np.any (fun x => x.handle == byteAt frame 1) = true) ∧
    -- TT_TIMEOUT_EXPIRY
    (∃ (k : Fin 8) (handle : Byte) (s : State), Runs s ∧
     (ttGet s k).np.any (fun x => x.handle == handle.toNat && x.result.isNone && !x.expired) = true) ∧
    -- TT_PORT_STATUS_FRAME
    (∃ (k : Fin 8) (frame : List Byte) (s : State), Runs s ∧ byteAt frame 0 = 4 ∧ frame.length = 8 ∧
     bit s ⟨R.USB2_TP_CTRL k, 0, 1⟩ = true ∧ pairUp s 3 8 (0x10 + k) = true) ∧
    -- PORT_STATUS_TIMEOUT
    (∃ (k : Fin 8) (s : State), Runs s ∧ bit s (fBound k) = true) ∧
    -- TT_SPLIT_REQ_FRAME
    (∃ (p : BitVec 3) (frame : List Byte) (pid : Byte) (data : List Byte) (s : State), Runs s ∧ p ≠ 0 ∧
     byteAt frame 0 = 1 ∧ ofBE (sub frame 8 2) ≤ 64 ∧ frame.length = 10 + ofBE (sub frame 8 2) ∧
     isRemote s p.toNat = true ∧ getF s (fPort p.toNat) = psEnabled ∧ byteAt frame 2 % 16 = 9) ∧
    -- TT_PORT_CMD_FRAME
    (∃ (p : BitVec 3) (frame : List Byte) (chirp : Bool) (s : State), Runs s ∧ p ≠ 0 ∧ byteAt frame 0 = 3 ∧
     frame.length = 8 ∧ isRemote s p.toNat = true ∧ 2 ≤ getF s (fPort p.toNat) ∧ byteAt frame 1 = 1) ∧
    -- TT_PORT_CMD_FRAME
    (∃ (p : BitVec 3) (frame : List Byte) (chirp : Bool) (s : State), Runs s ∧ p ≠ 0 ∧ byteAt frame 0 = 3 ∧
     frame.length = 8 ∧ isRemote s p.toNat = true ∧ getF s (fPort p.toNat) = psEnabled ∧ byteAt frame 1 = 2) ∧
    -- PORT_STATUS_TIMER
    (∃ (p : BitVec 3) (s : State), Runs s ∧ isRemote s p.toNat = true ∧ (6 < p.toNat ∨
     bit s (fConn3 p.toNat) = false ∨ bit s (fVirtual3 p.toNat) = true)) :=
  ⟨⟨3, 0xE1, false, 5, true, 1, 1, 77, 4, 0xC3, [1, 2], up b0 [(R.USB2_TP_STATUS 3, 0x80), (R.USB2_TP_CTRL 3, 1)], by unfold Runs; decide +kernel⟩,
   ⟨3, 5, 1, true, { handle := 9, dev := 5, ep := 1, isIn := true, result := some (0xD2, [1]) }, 0xD2, [1], ttSet 3 { ttGet b0 3 with np := [{ handle := 9, dev := 5, ep := 1, isIn := true, result := some (0xD2, [1]) }] } b0, by unfold Runs; decide +kernel⟩,
   ⟨3, [2, 9, 0xD2, 0, 0, 0, 0, 0, 0, 1, 7], true, ttSet 3 { ttGet b0 3 with np := [{ handle := 9, dev := 5, ep := 1, isIn := true }] } b0, by unfold Runs; decide +kernel⟩,
   ⟨3, 9, ttSet 3 { ttGet b0 3 with np := [{ handle := 9, dev := 5, ep := 1, isIn := true }] } b0, by unfold Runs; decide +kernel⟩,
   ⟨3, [4, 0, 1, 3, 0, 0, 0, 0], setAct (entKey 5 0) 0x01138007 (setAct (entKey 6 0) 0x08001007 (setAct (entKey 6 1) 0x13 (up b0 [(R.USB2_TP_CTRL 3, 1)]))), by unfold Runs; decide +kernel⟩,
   ⟨3, ttSet 3 { ttGet b0 3 with np := [{ handle := 9, dev := 5, ep := 1, isIn := true }] } (up b0 [(R.USB2_TP_STATUS 3, 0x84)]), by unfold Runs; decide +kernel⟩,
   ⟨7, [1, 9, 0x69, 5, 1, 0, 0, 0, 0, 0], 0x4B, [1], up b0 [(R.USB2_PORT_STATUS 6, 4), (R.USB2_PORT_CTRL 6, 2)], by unfold Runs; decide +kernel⟩,
   ⟨7, [3, 1, 0, 0, 0, 0, 0, 0], true, up b0 [(R.USB2_PORT_STATUS 6, 2), (R.USB2_PORT_CTRL 6, 2)], by unfold Runs; decide +kernel⟩,
   ⟨7, [3, 2, 0, 0, 0, 0, 0, 0], true, up b0 [(R.USB2_PORT_STATUS 6, 4), (R.USB2_PORT_CTRL 6, 2)], by unfold Runs; decide +kernel⟩,
   ⟨6, up b0 [(R.USB2_PORT_STATUS 5, 4), (R.USB2_PORT_CTRL 5, 2)], by unfold Runs; decide +kernel⟩⟩

theorem meets_TypeCAttachCommandsComplete :
    -- CC_ATTACH
    (∃ (n : Fin 4) (cc2 : Bool) (s : State), Powered s ∧ cc s n = ccUnattached ∧ (tcGet s n).role = 0) ∧
    -- CC_ATTACH
    (∃ (n : Fin 4) (cc2 : Bool) (s : State), Powered s ∧ cc s n = ccUnattached ∧ (tcGet s n).role = 1) ∧
    -- CC_ATTACH
    (∃ (n : Fin 4) (cc2 : Bool) (s : State), Powered s ∧ cc s n = ccUnattached ∧ (tcGet s n).role = 2 ∧
     ((tcGet s n).tryRole = 1 ∧ (tcGet s n).presentSrc = false ∨ (tcGet s n).tryRole = 2 ∧
     (tcGet s n).presentSrc = true)) ∧
    -- CC_ATTACH
    (∃ (n : Fin 4) (cc2 : Bool) (s : State), Powered s ∧ cc s n = ccTry) ∧
    -- CC_DETACH
    (∃ (n : Fin 4) (s : State), Powered s ∧ isAttached s n = true) ∧
    -- VBUS_SINK_DETACH
    (∃ (n : Fin 4) (mv : Nat) (s : State), Powered s ∧ isSink s n = true ∧ bit s (fSwitch n) = true ∧
     bit s (fTransition n) = false ∧ mv < 3670) ∧
    -- DRP_TOGGLE
    (∃ (n : Fin 4) (s : State), Powered s ∧ (tcGet s n).role = 2 ∧ (cc s n = ccUnattached ∨ cc s n = ccTry)) ∧
    -- VBUS_SAFE_CLOSE
    (∃ (n : Fin 4) (port converter : Nat) (s : State), Powered s ∧ isSource s n = true ∧
     (tcGet s n).wantClose = true ∧ port ≤ 800 ∧ 4750 ≤ converter ∧ converter ≤ 5500 ∧ bit s fPg = true) ∧
    -- VBUS_SAFE_CLOSE
    (∃ (n : Fin 4) (port converter : Nat) (s : State), Powered s ∧ isSink s n = true ∧
     (tcGet s n).wantClose = true ∧ 4750 < port) ∧
    -- EMARKER_RESPONSE
    (∃ (n : Fin 4) (v : Word) (s : State), Powered s ∧ isSource s n = true ∧ bit s (fSwitch n) = true ∧
     (tcGet s n).asking = true) ∧
    -- EMARKER_RESPONSE
    (∃ (n : Fin 4) (s : State), Powered s ∧ isSource s n = true ∧ bit s (fSwitch n) = true ∧
     (tcGet s n).asking = true) ∧
    -- HARD_RESET_RECEIVED
    (∃ (n : Fin 4) (s : State), Powered s ∧ isAttached s n = true) ∧
    -- TC_HARD_RESET
    (∃ (n : Fin 4) (s : State), Powered s ∧ bit s (fTcBusy n) = false ∧ isAttached s n = true) ∧
    -- VBUS_DISCHARGED
    (∃ (n : Fin 4) (s : State), Powered s ∧ bit s (fDischarging n) = true ∧ (tcGet s n).prs ≠ .sourceOff) ∧
    -- VBUS_FUSE_SLOW_TRIP
    (∃ (n : Fin 4) (uv : Nat) (s : State), Powered s ∧ isAttached s n = true ∧ bit s (fSwitch n) = true ∧
     senseOver s n uv (slowLimit s n) = true) ∧
    -- VBUS_FAST_TRIP
    (∃ (n : Fin 4) (uv : Nat) (s : State), Powered s ∧ isAttached s n = true ∧ bit s (fSwitch n) = true ∧
     senseOver s n (uv * 2) (slowLimit s n * fastTwice (getF s ⟨R.TC_FUSE n, 16, 3⟩)) = true) ∧
    -- FUSE_RETRY_EXPIRY
    (∃ (n : Fin 4) (s : State), Powered s ∧ cc s n = ccHold ∧ getF s (fRetryMs n) ≠ 0) ∧
    -- TC_CLEAR_FUSE
    (∃ (n : Fin 4) (s : State), Powered s ∧ bit s (fTcBusy n) = false ∧ cc s n = ccHold) ∧
    -- VCONN_OVERCURRENT
    (∃ (n : Fin 4) (s : State), Powered s ∧ bit s (fVconnSrc n) = true) :=
  ⟨⟨1, true, tcSet 1 { role := 0 } (up b0 []), by unfold Powered; decide +kernel⟩,
   ⟨1, false, tcSet 1 { role := 1 } (up b0 [(R.TC_VSET_CAL 1, 3300 + 20000 * 65536)]), by unfold Powered; decide +kernel⟩,
   ⟨1, false, tcSet 1 { tryRole := 1 } (up b0 []), by unfold Powered; decide +kernel⟩,
   ⟨1, false, tcSet 1 { tryRole := 1, presentSrc := true } (up b0 [(R.TC_STATUS 1, 4)]), by unfold Powered; decide +kernel⟩,
   ⟨1, tcSet 1 { role := 1, contract := some ⟨5000, 300, 1, false, false⟩ } (up b0 [(R.TC_STATUS 1, 0x32F2), (R.TC_CTRL 1, 0x41)]), by unfold Powered; decide +kernel⟩,
   ⟨1, 3669, tcSet 1 { role := 0 } (up b0 [(R.TC_STATUS 1, 0x203), (R.TC_CTRL 1, 0x40)]), by unfold Powered; decide +kernel⟩,
   ⟨1, up b0 [], by unfold Powered; decide +kernel⟩,
   ⟨1, 800, 5500, tcSet 1 { wantClose := true, prs := .closing, op := 1 } (up b0 [(R.TC_STATUS 1, 0x32), (R.PP_STATUS, 0x80), (R.TC_CTRL 1, 0x41)]), by unfold Powered; decide +kernel⟩,
   ⟨1, 4751, 0, tcSet 1 { wantClose := true } (up b0 [(R.TC_STATUS 1, 0x3)]), by unfold Powered; decide +kernel⟩,
   ⟨1, 0x20040, tcSet 1 { asking := true } (up b0 [(R.TC_STATUS 1, 0x232), (R.TC_CTRL 1, 0x41), (R.TC_SRC_PDO1 1, 0x1912C)]), by unfold Powered; decide +kernel⟩,
   ⟨1, tcSet 1 { asking := true } (up b0 [(R.TC_STATUS 1, 0x232), (R.TC_CTRL 1, 0x41), (R.TC_SRC_PDO1 1, 0x1912C)]), by unfold Powered; decide +kernel⟩,
   ⟨1, tcSet 1 { attachSrc := true, contract := some ⟨5000, 300, 1, false, false⟩, op := 1 } (up b0 [(R.TC_STATUS 1, 0x3683)]), by unfold Powered; decide +kernel⟩,
   ⟨1, tcSet 1 { attachSrc := true } (up b0 [(R.TC_STATUS 1, 0x36B2)]), by unfold Powered; decide +kernel⟩,
   ⟨1, up b0 [(R.TC_STATUS 1, 0x800)], by unfold Powered; decide +kernel⟩,
   ⟨1, 50000, tcSet 1 { contract := some ⟨5000, 300, 1, false, false⟩ } (up b0 [(R.TC_STATUS 1, 0x32B2), (R.TC_SENSE 1, 5000), (R.TC_FUSE_RETRY 1, 0xFFFF)]), by unfold Powered; decide +kernel⟩,
   ⟨1, 90000, tcSet 1 { contract := some ⟨5000, 300, 1, false, false⟩ } (up b0 [(R.TC_STATUS 1, 0x3283), (R.TC_SENSE 1, 5000), (R.TC_FUSE_RETRY 1, 5)]), by unfold Powered; decide +kernel⟩,
   ⟨1, up b0 [(R.TC_STATUS 1, 0x10005), (R.TC_CTRL 1, 0x3)], by unfold Powered; decide +kernel⟩,
   ⟨1, up b0 [(R.TC_STATUS 1, 0x10005)], by unfold Powered; decide +kernel⟩,
   ⟨1, tcSet 1 { vconn := true } (up b0 [(R.TC_STATUS 1, 0x72)]), by unfold Powered; decide +kernel⟩⟩

theorem meets_TypeCContractCommandsComplete :
    -- PD_REQUEST_RECEIVED
    (∃ (n : Fin 4) (type : Byte) (rdo : Word) (o : Nat × Word) (q : TcReq) (s : State), Powered s ∧
     isSource s n = true ∧ bit s (fSwitch n) = true ∧ (tcGet s n).capsSent = true ∧ (tcGet s n).req = none ∧
     pdOn s n = true ∧ (advertised s n).find? (fun o => o.1 == bits rdo.toNat 28 4) = some o ∧
     q = readRequest o.2 rdo (bit s (fEpr n)) ∧
     q.cur ≤ (if isApdo o.2 && !isPps o.2 then min (cableCur s n) (objCur o.2 q.mv) else objCur o.2 q.mv) ∧
     q.mv ≤ objMv o.2 ∧ objMin o.2 ≤ q.mv ∧ q.mv * q.cur + othersPower s n ≤ budget s * 100000) ∧
    -- PD_REQUEST_RECEIVED
    (∃ (n : Fin 4) (type : Byte) (rdo : Word) (o : Nat × Word) (q : TcReq) (s : State), Powered s ∧
     isSource s n = true ∧ bit s (fSwitch n) = true ∧ (tcGet s n).capsSent = true ∧ (tcGet s n).req = none ∧
     pdOn s n = true ∧ (advertised s n).find? (fun o => o.1 == bits rdo.toNat 28 4) = some o ∧
     q = readRequest o.2 rdo (bit s (fEpr n)) ∧
     q.cur ≤ (if isApdo o.2 && !isPps o.2 then min (cableCur s n) (objCur o.2 q.mv) else objCur o.2 q.mv) ∧
     q.mv ≤ objMv o.2 ∧ objMin o.2 ≤ q.mv ∧ budget s * 100000 < q.mv * q.cur + othersPower s n) ∧
    -- SOURCE_CAPS_RECEIVED
    (∃ (n : Fin 4) (caps : Vector Word 11) (o : Nat × Word) (cur : Nat) (s : State), Powered s ∧ isSink s n = true ∧
     pdOn s n = true ∧ (tcGet s n).op ≠ 9 ∧
     chooseObject s n ((((List.range 11).map (fun i => (i + 1, caps.toList.getD i 0))).filter (fun o => o.2 != 0)).filter (fun o => decide (o.1 ≤ 7))) = some (o, false) ∧
     cur = min (objCur o.2 (objMv o.2)) (imax s n)) ∧
    -- TRANSITION_START
    (∃ (n : Fin 4) (q : TcReq) (s : State), Powered s ∧ isSource s n = true ∧ (tcGet s n).prs ≠ .sourceOn ∧
     (tcGet s n).req = some q ∧ bit s (fTransition n) = false ∧ getF s ⟨R.TC_VSET_CAL n, 16, 16⟩ ≠ 0 ∧
     (q.mv - getF s ⟨R.TC_VSET_CAL n, 0, 16⟩) * 2000 % (2 * getF s ⟨R.TC_VSET_CAL n, 16, 16⟩) ≠ getF s ⟨R.TC_VSET_CAL n, 16, 16⟩) ∧
    -- TRANSITION_START
    (∃ (n : Fin 4) (q : TcReq) (s : State), Powered s ∧ isSource s n = true ∧ (tcGet s n).prs ≠ .sourceOn ∧
     (tcGet s n).req = some q ∧ bit s (fTransition n) = false ∧ getF s ⟨R.TC_VSET_CAL n, 16, 16⟩ ≠ 0 ∧
     (q.mv - getF s ⟨R.TC_VSET_CAL n, 0, 16⟩) * 2000 % (2 * getF s ⟨R.TC_VSET_CAL n, 16, 16⟩) = getF s ⟨R.TC_VSET_CAL n, 16, 16⟩) ∧
    -- TRANSITION_START
    (∃ (n : Fin 4) (s : State), Powered s ∧ (tcGet s n).prs = .sourceOn) ∧
    -- VSET_SLEW_STEP
    (∃ (n : Fin 4) (c g : Nat) (s : State), Powered s ∧ isSource s n = true ∧ bit s (fTransition n) = true ∧
     c = (reg s (R.TC_VSET_CODE n)).toNat ∧ g = (tcGet s n).target) ∧
    -- VBUS_SETTLED
    (∃ (n : Fin 4) (mv : Nat) (q : TcReq) (s : State), Powered s ∧ isSource s n = true ∧
     bit s (fTransition n) = true ∧ (tcGet s n).req = some q ∧
     (reg s (R.TC_VSET_CODE n)).toNat = (tcGet s n).target ∧ q.mv * 95 ≤ mv * 100 ∧ mv * 100 ≤ q.mv * 105) ∧
    -- TRANSITION_TIMEOUT
    (∃ (n : Fin 4) (s : State), Powered s ∧ isSource s n = true ∧ (tcGet s n).req ≠ none) ∧
    -- EPR_KEEPALIVE_MISSING
    (∃ (n : Fin 4) (s : State), Powered s ∧ isSource s n = true ∧ bit s (fEpr n) = true) ∧
    -- EPR_KEEPALIVE_TIMER
    (∃ (n : Fin 4) (s : State), Powered s ∧ isSink s n = true ∧ bit s (fEpr n) = true) ∧
    -- EPR_KEEPALIVE_RECEIVED
    (∃ (n : Fin 4) (s : State), Powered s ∧ isSource s n = true ∧ bit s (fEpr n) = true) ∧
    -- EPR_MODE_RECEIVED
    (∃ (n : Fin 4) (watts : Byte) (s : State), Powered s ∧ isSource s n = true ∧ bit s (fContract n) = true ∧
     pdOn s n = true ∧ bit s (fTcCtrl n 8) = true ∧ cableEpr s n = true) ∧
    -- EPR_MODE_RECEIVED
    (∃ (n : Fin 4) (watts : Byte) (s : State), Powered s ∧ isSource s n = true ∧ bit s (fContract n) = true ∧
     pdOn s n = true ∧ (bit s (fTcCtrl n 8) = false ∨ cableEpr s n = false)) ∧
    -- PD_UNEXPECTED_MESSAGE
    (∃ (n : Fin 4) (type : Byte) (form : PdForm) (s : State), Powered s ∧ isAttached s n = true ∧ pdOn s n = true ∧
     pdSupported type.toNat form = false) ∧
    -- PD_UNEXPECTED_MESSAGE
    (∃ (n : Fin 4) (type : Byte) (form : PdForm) (s : State), Powered s ∧ isAttached s n = true ∧ pdOn s n = true ∧
     pdSupported type.toNat form = true ∧ (form = .control → type ≠ 8 ∧ type ≠ 13) ∧ (∀ m, form ≠ .bist m)) ∧
    -- PD_UNEXPECTED_MESSAGE
    (∃ (n : Fin 4) (s : State), Powered s ∧ isAttached s n = true ∧ pdOn s n = true) ∧
    -- PD_UNEXPECTED_MESSAGE
    (∃ (n : Fin 4) (s : State), Powered s ∧ isAttached s n = true ∧ pdOn s n = true ∧ isSink s n = true) ∧
    -- PD_UNEXPECTED_MESSAGE
    (∃ (n : Fin 4) (type : Byte) (m : Fin 16) (s : State), Powered s ∧ isAttached s n = true ∧ pdOn s n = true ∧
     pdSupported type.toNat (.bist m) = true ∧ (tcGet s n).contract = none) ∧
    -- GOODCRC_TIMEOUT
    (∃ (n : Fin 4) (type : Byte) (s : State), Powered s ∧ isAttached s n = true ∧ pdOn s n = true ∧
     (tcGet s n).op = 0) ∧
    -- GOODCRC_TIMEOUT
    (∃ (n : Fin 4) (type : Byte) (s : State), Powered s ∧ isAttached s n = true ∧ pdOn s n = true ∧
     (tcGet s n).op ≠ 0) ∧
    -- VBUS_OVERVOLTAGE
    (∃ (n : Fin 4) (mv : Nat) (q : TcReq) (s : State), Powered s ∧ isSink s n = true ∧
     (tcGet s n).contract = some q ∧ bit s (fSwitch n) = true ∧ q.mv * 11 < mv * 10) :=
  ⟨⟨1, 2, 0x1004B12C, (1, 0x1912C), ⟨5000, 300, 1, false, false⟩, tcSet 1 { capsSent := true } (up b0 [(R.TC_STATUS 1, 0x232), (R.TC_CTRL 1, 0x41), (R.TC_SRC_PDO1 1, 0x1912C), (R.TC_SRC_BUDGET 0, 15)]), by unfold Powered; decide +kernel⟩,
   ⟨1, 2, 0x1004B12C, (1, 0x1912C), ⟨5000, 300, 1, false, false⟩, tcSet 1 { capsSent := true } (up b0 [(R.TC_STATUS 1, 0x232), (R.TC_CTRL 1, 0x41), (R.TC_SRC_PDO1 1, 0x1912C), (R.TC_SRC_BUDGET 0, 14)]), by unfold Powered; decide +kernel⟩,
   ⟨1, #v[0x1912C, 0x2D12C, 0, 0, 0, 0, 0, 0, 0, 0, 0], (2, 0x2D12C), 200, up b0 [(R.TC_STATUS 1, 0x203), (R.TC_CTRL 1, 0x140), (R.TC_SNK_POLICY 1, 180 + 200 * 1024)], by unfold Powered; decide +kernel⟩,
   ⟨1, ⟨9000, 200, 2, false, false⟩, tcSet 1 { req := some ⟨9000, 200, 2, false, false⟩ } (up b0 [(R.TC_STATUS 1, 0x232), (R.TC_VSET_CAL 1, 3300 + 20000 * 65536)]), by unfold Powered; decide +kernel⟩,
   ⟨1, ⟨9000, 200, 2, false, false⟩, tcSet 1 { req := some ⟨9000, 200, 2, false, false⟩ } (up b0 [(R.TC_STATUS 1, 0x232), (R.TC_VSET_CAL 1, 3290 + 20000 * 65536)]), by unfold Powered; decide +kernel⟩,
   ⟨1, tcSet 1 { prs := .sourceOn } (up b0 [(R.TC_STATUS 1, 0x232)]), by unfold Powered; decide +kernel⟩,
   ⟨1, 8, 7, tcSet 1 { target := 7 } (up b0 [(R.TC_STATUS 1, 0x632), (R.TC_VSET_CODE 1, 8)]), by unfold Powered; decide +kernel⟩,
   ⟨1, 8550, ⟨9000, 200, 2, false, false⟩, tcSet 1 { req := some ⟨9000, 200, 2, false, false⟩ } (up b0 [(R.TC_STATUS 1, 0x632)]), by unfold Powered; decide +kernel⟩,
   ⟨1, tcSet 1 { attachSrc := true, req := some ⟨9000, 200, 2, false, false⟩ } (up b0 [(R.TC_STATUS 1, 0x632)]), by unfold Powered; decide +kernel⟩,
   ⟨1, tcSet 1 { attachSrc := true } (up b0 [(R.TC_STATUS 1, 0x332)]), by unfold Powered; decide +kernel⟩,
   ⟨1, up b0 [(R.TC_STATUS 1, 0x303)], by unfold Powered; decide +kernel⟩,
   ⟨1, up b0 [(R.TC_STATUS 1, 0x332)], by unfold Powered; decide +kernel⟩,
   ⟨1, 140, up b0 [(R.TC_STATUS 1, 0x82B2), (R.TC_CTRL 1, 0x140), (R.TC_CABLE_VDO 1, 0x20040)], by unfold Powered; decide +kernel⟩,
   ⟨1, 140, up b0 [(R.TC_STATUS 1, 0x2B2), (R.TC_CTRL 1, 0x140)], by unfold Powered; decide +kernel⟩,
   ⟨1, 7, .sop2, up b0 [(R.TC_STATUS 1, 0x232), (R.TC_CTRL 1, 0x40)], by unfold Powered; decide +kernel⟩,
   ⟨1, 3, .control, up b0 [(R.TC_STATUS 1, 0x232), (R.TC_CTRL 1, 0x40)], by unfold Powered; decide +kernel⟩,
   ⟨1, up b0 [(R.TC_STATUS 1, 0x203), (R.TC_CTRL 1, 0x40)], by unfold Powered; decide +kernel⟩,
   ⟨1, up b0 [(R.TC_STATUS 1, 0x203), (R.TC_CTRL 1, 0x40)], by unfold Powered; decide +kernel⟩,
   ⟨1, 3, 8, up b0 [(R.TC_STATUS 1, 0x203), (R.TC_CTRL 1, 0x40)], by unfold Powered; decide +kernel⟩,
   ⟨1, 7, up b0 [(R.TC_STATUS 1, 0x2B2), (R.TC_CTRL 1, 0x40)], by unfold Powered; decide +kernel⟩,
   ⟨1, 7, tcSet 1 { op := 1, prs := .asked } (up b0 [(R.TC_STATUS 1, 0x2B2), (R.TC_CTRL 1, 0x40)]), by unfold Powered; decide +kernel⟩,
   ⟨1, 9901, ⟨9000, 200, 2, false, false⟩, tcSet 1 { contract := some ⟨9000, 200, 2, false, false⟩ } (up b0 [(R.TC_STATUS 1, 0x283)]), by unfold Powered; decide +kernel⟩⟩

theorem meets_TypeCSwapCommandsComplete :
    -- TC_PR_SWAP
    (∃ (n : Fin 4) (s : State), Powered s ∧ isAttached s n = true ∧ pdOn s n = true ∧ bit s (fTcBusy n) = false ∧
     (tcGet s n).prs = .idle) ∧
    -- TC_PR_SWAP
    (∃ (n : Fin 4) (s : State), Powered s ∧ isAttached s n = true ∧ pdOn s n = true ∧ bit s (fTcBusy n) = false ∧
     (tcGet s n).prs = .idle) ∧
    -- TC_PR_SWAP
    (∃ (n : Fin 4) (s : State), Powered s ∧ isAttached s n = true ∧ pdOn s n = true ∧ bit s (fTcBusy n) = false ∧
     (tcGet s n).prs = .idle) ∧
    -- TC_DR_SWAP
    (∃ (n : Fin 4) (s : State), Powered s ∧ isAttached s n = true ∧ pdOn s n = true ∧ bit s (fTcBusy n) = false ∧
     mux s n < 2) ∧
    -- TC_DR_SWAP
    (∃ (n : Fin 4) (s : State), Powered s ∧ bit s (fTcBusy n) = false ∧
     (isAttached s n && pdOn s n && decide (mux s n < 2)) = false ∧ (tcGet s n).op = 0) ∧
    -- TC_VCONN_SWAP
    (∃ (n : Fin 4) (s : State), Powered s ∧ isAttached s n = true ∧ pdOn s n = true ∧ bit s (fTcBusy n) = false ∧
     (tcGet s n).vconn = true ∧ (tcGet s n).vcsWait = false) ∧
    -- TC_VCONN_SWAP
    (∃ (n : Fin 4) (s : State), Powered s ∧ isAttached s n = true ∧ pdOn s n = true ∧ bit s (fTcBusy n) = false ∧
     (tcGet s n).vconn = false ∧ (tcGet s n).vcsWait = false ∧ bit s (fTcCtrl n 7) = true) ∧
    -- TC_SEND_CAPS
    (∃ (n : Fin 4) (s : State), Powered s ∧ isSource s n = true ∧ pdOn s n = true ∧ bit s (fTcBusy n) = false ∧
     (tcGet s n).asking = false ∧ bit s (fSwitch n) = true) ∧
    -- TC_GET_SRC_CAPS
    (∃ (n : Fin 4) (s : State), Powered s ∧ isAttached s n = true ∧ pdOn s n = true ∧ bit s (fTcBusy n) = false) ∧
    -- PR_SWAP_RECEIVED
    (∃ (n : Fin 4) (s : State), Powered s ∧ isAttached s n = true ∧ pdOn s n = true ∧ (tcGet s n).prs = .idle ∧
     bit s (fTcCtrl n 10) = true) ∧
    -- PR_SWAP_RECEIVED
    (∃ (n : Fin 4) (s : State), Powered s ∧ isAttached s n = true ∧ pdOn s n = true ∧ (tcGet s n).prs = .idle ∧
     bit s (fTcCtrl n 10) = false) ∧
    -- DR_SWAP_RECEIVED
    (∃ (n : Fin 4) (s : State), Powered s ∧ isAttached s n = true ∧ pdOn s n = true ∧ mux s n < 2 ∧
     bit s (fTcCtrl n 9) = true) ∧
    -- DR_SWAP_RECEIVED
    (∃ (n : Fin 4) (s : State), Powered s ∧ isAttached s n = true ∧ pdOn s n = true ∧ 2 ≤ mux s n) ∧
    -- VCONN_SWAP_RECEIVED
    (∃ (n : Fin 4) (s : State), Powered s ∧ isAttached s n = true ∧ pdOn s n = true ∧ bit s (fTcCtrl n 11) = true ∧
     (tcGet s n).vconn = true) ∧
    -- VCONN_SWAP_RECEIVED
    (∃ (n : Fin 4) (s : State), Powered s ∧ isAttached s n = true ∧ pdOn s n = true ∧ bit s (fTcCtrl n 11) = false) ∧
    -- PS_RDY_RECEIVED
    (∃ (n : Fin 4) (s : State), Powered s ∧ (tcGet s n).prs = .awaitOff) ∧
    -- PS_RDY_RECEIVED
    (∃ (n : Fin 4) (s : State), Powered s ∧ (tcGet s n).prs = .awaitSource) ∧
    -- PS_RDY_RECEIVED
    (∃ (n : Fin 4) (s : State), Powered s ∧ (tcGet s n).prs = .idle ∧ (tcGet s n).vcsWait = true) ∧
    -- PS_RDY_RECEIVED
    (∃ (n : Fin 4) (q : TcReq) (s : State), Powered s ∧ isSink s n = true ∧ (tcGet s n).prs = .idle ∧
     (tcGet s n).vcsWait = false ∧ (tcGet s n).req = some q ∧ bit s (fTransition n) = true) ∧
    -- VBUS_DISCHARGED
    (∃ (n : Fin 4) (s : State), Powered s ∧ bit s (fDischarging n) = true ∧ (tcGet s n).prs = .sourceOff) :=
  ⟨⟨1, up b0 [(R.TC_STATUS 1, 0x232), (R.TC_CTRL 1, 0x40)], by unfold Powered; decide +kernel⟩,
   ⟨1, up b0 [(R.TC_STATUS 1, 0x283), (R.TC_CTRL 1, 0x40)], by unfold Powered; decide +kernel⟩,
   ⟨1, up b0 [(R.TC_STATUS 1, 0x232), (R.TC_CTRL 1, 0x40)], by unfold Powered; decide +kernel⟩,
   ⟨1, up b0 [(R.TC_STATUS 1, 0x232), (R.TC_CTRL 1, 0x40)], by unfold Powered; decide +kernel⟩,
   ⟨1, up b0 [(R.TC_STATUS 1, 0x3232), (R.TC_CTRL 1, 0x40)], by unfold Powered; decide +kernel⟩,
   ⟨1, tcSet 1 { vconn := true } (up b0 [(R.TC_STATUS 1, 0x272), (R.TC_CTRL 1, 0xC0)]), by unfold Powered; decide +kernel⟩,
   ⟨1, up b0 [(R.TC_STATUS 1, 0x232), (R.TC_CTRL 1, 0xC0)], by unfold Powered; decide +kernel⟩,
   ⟨1, up b0 [(R.TC_STATUS 1, 0x232), (R.TC_CTRL 1, 0x40), (R.TC_SRC_PDO1 1, 0x1912C)], by unfold Powered; decide +kernel⟩,
   ⟨1, up b0 [(R.TC_STATUS 1, 0x203), (R.TC_CTRL 1, 0x40)], by unfold Powered; decide +kernel⟩,
   ⟨1, up b0 [(R.TC_STATUS 1, 0x2B2), (R.TC_CTRL 1, 0x440)], by unfold Powered; decide +kernel⟩,
   ⟨1, up b0 [(R.TC_STATUS 1, 0x2B2), (R.TC_CTRL 1, 0x40)], by unfold Powered; decide +kernel⟩,
   ⟨1, up b0 [(R.TC_STATUS 1, 0x232), (R.TC_CTRL 1, 0x240)], by unfold Powered; decide +kernel⟩,
   ⟨1, tcSet 1 { attachSrc := true } (up b0 [(R.TC_STATUS 1, 0x3232), (R.TC_CTRL 1, 0x240)]), by unfold Powered; decide +kernel⟩,
   ⟨1, tcSet 1 { vconn := true } (up b0 [(R.TC_STATUS 1, 0x272), (R.TC_CTRL 1, 0x8C0)]), by unfold Powered; decide +kernel⟩,
   ⟨1, up b0 [(R.TC_STATUS 1, 0x232), (R.TC_CTRL 1, 0xC0)], by unfold Powered; decide +kernel⟩,
   ⟨1, tcSet 1 { prs := .awaitOff } (up b0 [(R.TC_STATUS 1, 0x3)]), by unfold Powered; decide +kernel⟩,
   ⟨1, tcSet 1 { prs := .awaitSource, op := 1 } (up b0 [(R.TC_STATUS 1, 0x3), (R.TC_CMD_STATUS 1, 1)]), by unfold Powered; decide +kernel⟩,
   ⟨1, tcSet 1 { vconn := true, vcsWait := true } (up b0 [(R.TC_STATUS 1, 0x272), (R.TC_CTRL 1, 0xC0)]), by unfold Powered; decide +kernel⟩,
   ⟨1, ⟨9000, 200, 2, false, false⟩, tcSet 1 { req := some ⟨9000, 200, 2, false, false⟩ } (up b0 [(R.TC_STATUS 1, 0x603)]), by unfold Powered; decide +kernel⟩,
   ⟨1, tcSet 1 { prs := .sourceOff } (up b0 [(R.TC_STATUS 1, 0x832)]), by unfold Powered; decide +kernel⟩⟩

theorem meets_TypeCModeCommandsComplete :
    -- TC_ENTER_MODE
    (∃ (n : Fin 4) (s : State), Powered s ∧ isAttached s n = true ∧ pdOn s n = true ∧ isDfp s n = true ∧
     bit s (fTcBusy n) = false ∧ mux s n < 2 ∧ (tcGet s n).entry = .idle) ∧
    -- MODE_DISCOVERY_RESPONSE
    (∃ (n : Fin 4) (hdr : Word) (s : State), Powered s ∧ (tcGet s n).entry = .identity) ∧
    -- MODE_DISCOVERY_RESPONSE
    (∃ (n : Fin 4) (d : Bool) (s : State), Powered s ∧ (tcGet s n).entry = .svids ∧ bit s (fModePol n 1) = true) ∧
    -- MODE_DISCOVERY_RESPONSE
    (∃ (n : Fin 4) (s : State), Powered s ∧ (tcGet s n).entry = .veserModes ∧ bit s (fModePol n 2) = true ∧
     (tcGet s n).dpListed = true) ∧
    -- MODE_DISCOVERY_RESPONSE
    (∃ (n : Fin 4) (c d : Bool) (code : Nat) (s : State), Powered s ∧ (tcGet s n).entry = .dpModes ∧
     (bit s (fModePol n 1) && (tcGet s n).veserOk) = false ∧ bit s (fModePol n 2) = true ∧ (c || d) = true ∧
     code = (if d && (!c || bit s (fModePol n 5)) then 4 else 3) ∧ (tcGet s n).refused = 0) ∧
    -- MODE_ENTRY_TIMEOUT
    (∃ (n : Fin 4) (s : State), Powered s ∧ (tcGet s n).entry = .enter 2 ∧ (bit s (fModePol n 2) = false ∨
     (tcGet s n).dpCode = 0) ∧ bit s (fModePol n 3) = false) ∧
    -- ENTER_MODE_ACK_RECEIVED
    (∃ (n : Fin 4) (m : Nat) (s : State), Powered s ∧ (tcGet s n).entry = .enter m ∧ 2 ≤ m ∧ m ≤ 4) ∧
    -- TC_EXIT_MODE
    (∃ (n : Fin 4) (s : State), Powered s ∧ isAttached s n = true ∧ pdOn s n = true ∧ bit s (fTcBusy n) = false ∧
     isDfp s n = true ∧ 2 ≤ mux s n) ∧
    -- DISCOVER_RECEIVED
    (∃ (n : Fin 4) (s : State), Powered s ∧ isAttached s n = true ∧ pdOn s n = true ∧ bit s (fDataRole n) = false) ∧
    -- DISCOVER_RECEIVED
    (∃ (n : Fin 4) (s : State), Powered s ∧ isAttached s n = true ∧ pdOn s n = true ∧ bit s (fDataRole n) = false) ∧
    -- DISCOVER_RECEIVED
    (∃ (n : Fin 4) (v : BitVec 16) (s : State), Powered s ∧ isAttached s n = true ∧ pdOn s n = true ∧
     bit s (fDataRole n) = false) ∧
    -- ENTER_MODE_RECEIVED
    (∃ (n : Fin 4) (s : State), Powered s ∧ isAttached s n = true ∧ pdOn s n = true ∧ bit s (fDataRole n) = false ∧
     bit s (fModePol n 4) = true) ∧
    -- ENTER_MODE_RECEIVED
    (∃ (n : Fin 4) (svid : BitVec 16) (position : BitVec 3) (s : State), Powered s ∧ isAttached s n = true ∧
     pdOn s n = true ∧ bit s (fDataRole n) = false ∧ (svid ≠ 0x6B3A ∨ position ≠ 1 ∨ bit s (fModePol n 4) = false)) ∧
    -- DISPLAYPORT_ATTENTION
    (∃ (n : Fin 4) (hpd : Bool) (s : State), Powered s ∧ (mux s n = 3 ∨ mux s n = 4)) :=
  ⟨⟨1, tcSet 1 { dpCode := 3 } (up b0 [(R.TC_STATUS 1, 0x232), (R.TC_CTRL 1, 0x40)]), by unfold Powered; decide +kernel⟩,
   ⟨1, 0x40000000, tcSet 1 { entry := .identity } (up b0 []), by unfold Powered; decide +kernel⟩,
   ⟨1, true, tcSet 1 { entry := .svids } (up b0 [(R.TC_MODE_POLICY 1, 7)]), by unfold Powered; decide +kernel⟩,
   ⟨1, tcSet 1 { entry := .veserModes, dpListed := true } (up b0 [(R.TC_MODE_POLICY 1, 7)]), by unfold Powered; decide +kernel⟩,
   ⟨1, true, true, 4, tcSet 1 { entry := .dpModes } (up b0 [(R.TC_MODE_POLICY 1, 0x24)]), by unfold Powered; decide +kernel⟩,
   ⟨1, tcSet 1 { entry := .enter 2, op := 6, veserOk := true } (up b0 [(R.TC_MODE_POLICY 1, 2), (R.TC_STATUS 1, 0x1232)]), by unfold Powered; decide +kernel⟩,
   ⟨1, 2, tcSet 1 { entry := .enter 2, op := 6 } (up b0 [(R.TC_STATUS 1, 0x232)]), by unfold Powered; decide +kernel⟩,
   ⟨1, up b0 [(R.TC_STATUS 1, 0x2232), (R.TC_CTRL 1, 0x40)], by unfold Powered; decide +kernel⟩,
   ⟨1, up b0 [(R.TC_STATUS 1, 0x203), (R.TC_CTRL 1, 0x40), (R.TC_ID_HDR 1, 9)], by unfold Powered; decide +kernel⟩,
   ⟨1, up b0 [(R.TC_STATUS 1, 0x203), (R.TC_CTRL 1, 0x40)], by unfold Powered; decide +kernel⟩,
   ⟨1, 0x6B3B, up b0 [(R.TC_STATUS 1, 0x203), (R.TC_CTRL 1, 0x40)], by unfold Powered; decide +kernel⟩,
   ⟨1, up b0 [(R.TC_STATUS 1, 0x203), (R.TC_CTRL 1, 0x40), (R.TC_MODE_POLICY 1, 0x10)], by unfold Powered; decide +kernel⟩,
   ⟨1, 0x6B3A, 2, up b0 [(R.TC_STATUS 1, 0x203), (R.TC_CTRL 1, 0x40), (R.TC_MODE_POLICY 1, 0x10)], by unfold Powered; decide +kernel⟩,
   ⟨1, true, up b0 [(R.TC_STATUS 1, 0x4232)], by unfold Powered; decide +kernel⟩⟩

theorem meets_PowerPathCommandsComplete :
    -- AO_EVALUATION
    (∃ (m : PpSense) (s : State), Powered s) ∧
    -- FEED_QUALIFIED
    (∃ (x : Fin 2) (mv : Nat) (s : State), Powered s ∧ bit s (fOk x) = false ∧ uvMv s * 102 ≤ mv * 100 ∧
     mv * 100 ≤ ovMv s * 98) ∧
    -- REVERSE_CURRENT_OFF
    (∃ (x : Fin 2) (s : State), Powered s ∧ bit s (fOr x) = true) ∧
    -- HOTSWAP_ENABLE
    (∃ (s : State), Powered s ∧ Unpaired s ∧ hs s = hsOff ∧ (bit s fPinGate = true → bit s fPinEn = true)) ∧
    -- HOTSWAP_DISABLE
    (∃ (s : State), Powered s ∧ Unpaired s) ∧
    -- HOTSWAP_DISABLE
    (∃ (s : State), Powered s ∧ bit s fPinGate = true) ∧
    -- RAMP_START
    (∃ (s : State), Powered s ∧ hs s = hsWait ∧ s.pp.gateDelay = 0 ∧ (bit s (fOr 0) = true ∨ bit s (fOr 1) = true)) ∧
    -- RAMP_COMPLETE
    (∃ (mv : Nat) (s : State), Powered s ∧ hs s = hsRamp ∧ s.pp.ramped = false ∧ 8000 ≤ mv) ∧
    -- RAMP_TIMEOUT
    (∃ (s : State), Powered s ∧ hsActive s = true ∧ s.pp.ramped = false) ∧
    -- CURRENT_LIMIT_ENTRY
    (∃ (cur : Nat) (s : State), Powered s ∧ (hs s = hsOn ∨ hs s = hsRamp) ∧ overLimit s cur = true) ∧
    -- FAULT_TIMER_EXPIRY
    (∃ (s : State), Powered s ∧ hsActive s = true ∧ faultTmr s ≤ s.pp.timer) ∧
    -- HOTSWAP_FAST_TRIP
    (∃ (cur : Nat) (s : State), Powered s ∧ hs s ≠ hsLatched ∧
     ((limitNv s * fastTwice (getF s ⟨R.PP_ILIM, 16, 3⟩) : Nat) : Int) < senseNv s (2 * cur)) ∧
    -- HOTSWAP_FAST_TRIP
    (∃ (cur : Nat) (s : State), Powered s ∧ hs s = hsLatched ∧
     ((limitNv s * fastTwice (getF s ⟨R.PP_ILIM, 16, 3⟩) : Nat) : Int) < senseNv s (2 * cur)) ∧
    -- FET_TEMP_SAMPLE
    (∃ (d die : Int) (s : State), Powered s ∧ bit s fTempSrc = false ∧ bit s fDiodeFault = false ∧
     (hsActive s = false ∨ d ≤ (getF s ⟨R.PP_THERM, 0, 8⟩ : Int) * 10) ∧ s.pp.cooling = false) ∧
    -- FET_TEMP_SAMPLE
    (∃ (d die : Int) (s : State), Powered s ∧ bit s fTempSrc = false ∧ bit s fDiodeFault = false ∧
     hsActive s = true ∧ (getF s ⟨R.PP_THERM, 0, 8⟩ : Int) * 10 < d ∧ s.pp.cooling = false) ∧
    -- RETRY_HOLD_END
    (∃ (s : State), Powered s ∧ hs s = hsHold ∧ getF s ⟨R.PP_RETRY, 0, 16⟩ ≠ 0 ∧ s.pp.cooling = false ∧
     s.pp.thermal = false ∧ (getF s ⟨R.PP_RETRY, 16, 8⟩ = 0 ∨ s.pp.trips < getF s ⟨R.PP_RETRY, 16, 8⟩)) ∧
    -- RETRY_HOLD_END
    (∃ (s : State), Powered s ∧ hs s = hsHold ∧ s.pp.cooling = false ∧ (getF s ⟨R.PP_RETRY, 0, 16⟩ = 0 ∨
     getF s ⟨R.PP_RETRY, 16, 8⟩ ≠ 0 ∧ getF s ⟨R.PP_RETRY, 16, 8⟩ ≤ s.pp.trips)) ∧
    -- PP_CLEAR
    (∃ (s : State), Powered s ∧ hs s = hsLatched ∧ s.pp.thermal = false) ∧
    -- PP_MODEL_RESET
    (∃ (s : State), Powered s) ∧
    -- PFW_DEASSERT
    (∃ (s : State), Powered s ∧ bit s fPfw = true ∧ feedAbove s (warnMv s + 1000) = true) ∧
    -- HOLDUP_ESTIMATE
    (∃ (vmin p : Nat) (s : State), Powered s ∧ bit s fPfw = true ∧ vmin = getF s ⟨R.PP_PFW, 16, 10⟩ * 100 ∧
     p = 200000 * getF s ⟨R.PP_LOAD_P, 0, 16⟩ ∧ p ≠ 0 ∧ getF s ⟨R.PP_BULK, 0, 20⟩ ≠ 0) :=
  ⟨⟨{ feedA := 1000, feedB := 20000, com := 20000, src := 19000, cur := -5, enable := true }, { up b0 [(R.PP_STATUS, 0x33), (R.PP_CTRL, 0xD), (R.PP_SENSE, 2000), (R.PP_ILIM, 5000)] with pp := { b0.pp with timer := 5, gate := true } }, by unfold Powered; decide +kernel⟩,
   ⟨1, 20000, up b0 [(R.PP_FEED_WIN, 160 + 280 * 65536), (R.PP_STATUS, 0)], by unfold Powered; decide +kernel⟩,
   ⟨1, up b0 [(R.PP_STATUS, 0xF), (R.PP_CTRL, 0xC)], by unfold Powered; decide +kernel⟩,
   ⟨up b0 [(R.PP_CTRL, 2), (R.PP_STATUS, 0x6000)], by unfold Powered Unpaired; decide +kernel⟩,
   ⟨{ up b0 [(R.PP_CTRL, 1), (R.PP_STATUS, 0xB0)] with pp := { b0.pp with gate := true } }, by unfold Powered Unpaired; decide +kernel⟩,
   ⟨{ up b0 [(R.PP_CTRL, 3), (R.PP_STATUS, 0x20B0)] with pp := { b0.pp with gate := true } }, by unfold Powered; decide +kernel⟩,
   ⟨up b0 [(R.PP_STATUS, 0x18)], by unfold Powered; decide +kernel⟩,
   ⟨8000, up b0 [(R.PP_STATUS, 0x28)], by unfold Powered; decide +kernel⟩,
   ⟨{ up b0 [(R.PP_STATUS, 0x28), (R.PP_RETRY, 0xFFFF)] with pp := { b0.pp with gate := true } }, by unfold Powered; decide +kernel⟩,
   ⟨9000, up b0 [(R.PP_STATUS, 0x38), (R.PP_SENSE, 2000), (R.PP_ILIM, 5000 + 5 * 1048576)], by unfold Powered; decide +kernel⟩,
   ⟨{ up b0 [(R.PP_STATUS, 0xC8), (R.PP_RETRY, 0)] with pp := { b0.pp with gate := true, trips := 3, timer := 90000 } }, by unfold Powered; decide +kernel⟩,
   ⟨30000, { up b0 [(R.PP_STATUS, 0xB8), (R.PP_RETRY, 70), (R.PP_SENSE, 2000), (R.PP_ILIM, 5000)] with pp := { b0.pp with gate := true, trips := 3 } }, by unfold Powered; decide +kernel⟩,
   ⟨30000, { up b0 [(R.PP_STATUS, 0x68), (R.PP_RETRY, 70), (R.PP_SENSE, 2000), (R.PP_ILIM, 5000)] with pp := { b0.pp with trips := 3 } }, by unfold Powered; decide +kernel⟩,
   ⟨-55, 300, up b0 [(R.PP_CTRL, 0), (R.PP_STATUS, 0x38)], by unfold Powered; decide +kernel⟩,
   ⟨1251, 300, up b0 [(R.PP_CTRL, 1), (R.PP_STATUS, 0xB8), (R.PP_THERM, 0x147D), (R.PP_RETRY, 9)], by unfold Powered; decide +kernel⟩,
   ⟨{ up b0 [(R.PP_STATUS, 0x10058), (R.PP_RETRY, 0x30009), (R.PP_CTRL, 1)] with pp := { b0.pp with trips := 2 } }, by unfold Powered; decide +kernel⟩,
   ⟨{ up b0 [(R.PP_STATUS, 0x10058), (R.PP_RETRY, 0x30009), (R.PP_CTRL, 1)] with pp := { b0.pp with trips := 3 } }, by unfold Powered; decide +kernel⟩,
   ⟨{ up b0 [(R.PP_STATUS, 0x68), (R.PP_CTRL, 1)] with pp := { b0.pp with trips := 3 } }, by unfold Powered; decide +kernel⟩,
   ⟨{ up b0 [] with pp := { b0.pp with deltaT := 9 } }, by unfold Powered; decide +kernel⟩,
   ⟨{ up b0 [(R.PP_STATUS, 0x101), (R.PP_CTRL, 4), (R.PP_PFW, 180), (R.PP_HOLDUP_EST, 0x80000005)] with pp := { b0.pp with feedA := 19001 } }, by unfold Powered; decide +kernel⟩,
   ⟨9000, 20000000, { up b0 [(R.PP_STATUS, 0x101), (R.PP_PFW, 0x5A00B4), (R.PP_BULK, 1000), (R.PP_LOAD_P, 100)] with pp := { b0.pp with src := 20000 } }, by unfold Powered; decide +kernel⟩⟩

theorem meets_JournalCommandsComplete :
    -- JOURNAL_REG
    (∃ (h : JHdr) (addr : Addr) (v : Word) (k : PageKind) (s : State), Runs s ∧ mode s = mStandby ∧
     linkState s 4 = lsUp ∧ h.jseq.toNat = (s.pair.applied + 1) % 2 ^ 32 ∧ h.last = false ∧ s.pair.sinceJack < 7 ∧
     pageKindOf (addr.toNat / 0x1000) = some k ∧ mirroredPage (addr.toNat / 0x1000) = true ∧
     addr.toNat % 0x1000 = 0x044) ∧
    -- JOURNAL_COMMIT
    (∃ (h : JHdr) (s : State), Runs s ∧ mode s = mStandby ∧ linkState s 4 = lsUp ∧
     h.jseq.toNat = (s.pair.applied + 1) % 2 ^ 32 ∧ h.last = false ∧ s.pair.sinceJack < 7) ∧
    -- JOURNAL_CKPT
    (∃ (h : JHdr) (i : Byte) (next base e : BitVec 10) (tstate : Byte) (s : State), Runs s ∧ mode s = mStandby ∧
     linkState s 4 = lsUp ∧ h.jseq.toNat = (s.pair.applied + 1) % 2 ^ 32 ∧ h.last = false ∧ s.pair.sinceJack < 7) ∧
    -- JOURNAL_SERVO
    (∃ (h : JHdr) (body : Vector Byte 13) (s : State), Runs s ∧ mode s = mStandby ∧ linkState s 4 = lsUp ∧
     h.jseq.toNat = (s.pair.applied + 1) % 2 ^ 32 ∧ h.last = false ∧ s.pair.sinceJack < 7) ∧
    -- JOURNAL_EVENT
    (∃ (h : JHdr) (record : Vector Byte 16) (s : State), Runs s ∧ mode s = mStandby ∧ linkState s 4 = lsUp ∧
     h.jseq.toNat = (s.pair.applied + 1) % 2 ^ 32 ∧ h.last = false ∧ s.pair.sinceJack < 7) ∧
    -- JOURNAL_FWD
    (∃ (h : JHdr) (vid : BitVec 12) (da : BitVec 48) (tset : BitVec 6) (i : Nat) (s : State), Runs s ∧
     mode s = mStandby ∧ linkState s 4 = lsUp ∧ h.jseq.toNat = (s.pair.applied + 1) % 2 ^ 32 ∧ h.last = false ∧
     s.pair.sinceJack < 7 ∧ fwdFind s vid.toNat da.toNat = none ∧
     (fwdPlaces s vid.toNat da.toNat).find? (fun i => (fwdGet s i).isNone) = some i) ∧
    -- JOURNAL_MODE
    (∃ (h : JHdr) (m : BitVec 3) (cause : BitVec 2) (s : State), Runs s ∧ mode s = mStandby ∧ linkState s 4 = lsUp ∧
     h.jseq.toNat = (s.pair.applied + 1) % 2 ^ 32 ∧ h.last = false ∧ s.pair.sinceJack < 7) ∧
    -- JOURNAL_SNAP
    (∃ (h : JHdr) (g : BitVec 16) (s : State), Runs s ∧ mode s = mStandby ∧ linkState s 4 = lsUp ∧ h.last = false ∧
     s.pair.sinceJack < 7) ∧
    -- JOURNAL_SWAP_COMMIT
    (∃ (h : JHdr) (e : Word) (s : State), Runs s ∧ mode s = mStandby ∧ linkState s 4 = lsUp ∧
     h.jseq.toNat = (s.pair.applied + 1) % 2 ^ 32 ∧ h.last = false ∧ s.pair.sinceJack < 7) ∧
    -- JOURNAL_CRC_ERROR
    (∃ (record : Vector Byte 32) (s : State), Runs s ∧ mode s = mStandby ∧ linkState s 4 = lsUp ∧
     ofBE (sub record.toList 28 4) ≠ (crc32c (record.toList.take 28)).toNat) ∧
    -- JACK_RECEIVED
    (∃ (jseq : Word) (s : State), Runs s ∧ holdsRole s = true ∧ scarfIsUp s = true ∧
     reached (reg s R.PAIR_JSEQ_ACK).toNat jseq.toNat = true ∧
     reached jseq.toNat (s.pair.nextJ + 2 ^ 32 - 1) = true ∧ s.pair.group = [] ∧ s.pair.swap ≠ .checkpointed) ∧
    -- JACK_SEND_TIMER
    (∃ (s : State), Runs s ∧ mode s = mStandby ∧ 0 < s.pair.sinceJack) ∧
    -- CHECKPOINT_TIMER
    (∃ (s : State), Runs s ∧ holdsRole s = true) ∧
    -- SERVO_JOURNAL_TIMER
    (∃ (s : State), Runs s ∧ holdsRole s = true ∧ (getF s fSync = 1 ∨ getF s fSync = 2) ∧
     s.pair.ring.length < 2048 ∧ s.pair.group = []) ∧
    -- SERVO_JOURNAL_TIMER
    (∃ (s : State), Runs s ∧ holdsRole s = true ∧ (getF s fSync = 1 ∨ getF s fSync = 2) ∧
     s.pair.ring.length < 2048 ∧ s.pair.group ≠ []) :=
  ⟨⟨⟨8, 3, false⟩, 0x51044, 0x1234, .swc, { up b0 [(R.DEV_MODE, 0x23), (R.LINK_STATUS 4, 4)] with pair := { b0.pair with applied := 7 } }, by unfold Runs; decide +kernel⟩,
   ⟨⟨8, 3, false⟩, { up b0 [(R.DEV_MODE, 0x23), (R.LINK_STATUS 4, 4)] with pair := { b0.pair with applied := 7 } }, by unfold Runs; decide +kernel⟩,
   ⟨⟨8, 3, false⟩, 5, 1023, 1000, 3, 1, { up b0 [(R.DEV_MODE, 0x23), (R.LINK_STATUS 4, 4)] with pair := { b0.pair with applied := 7 } }, by unfold Runs; decide +kernel⟩,
   ⟨⟨8, 3, false⟩, ⟨#[1,2,3,4,5,6,7,8,9,10,11,12,13], rfl⟩, { up b0 [(R.DEV_MODE, 0x23), (R.LINK_STATUS 4, 4)] with pair := { b0.pair with applied := 7 } }, by unfold Runs; decide +kernel⟩,
   ⟨⟨8, 3, false⟩, ⟨#[1,2,3,4,5,6,7,8,9,10,11,12,13,14,15,16], rfl⟩, { up b0 [(R.DEV_MODE, 0x23), (R.LINK_STATUS 4, 4)] with pair := { b0.pair with applied := 7 } }, by unfold Runs; decide +kernel⟩,
   ⟨⟨8, 3, false⟩, 5, 0x1234, 7, fwdBucket b0 5 0x1234 * 4, { up b0 [(R.DEV_MODE, 0x23), (R.LINK_STATUS 4, 4)] with pair := { b0.pair with applied := 7 } }, by unfold Runs; decide +kernel⟩,
   ⟨⟨8, 3, false⟩, 4, 1, { up b0 [(R.DEV_MODE, 0x23), (R.LINK_STATUS 4, 4)] with pair := { b0.pair with applied := 7 } }, by unfold Runs; decide +kernel⟩,
   ⟨⟨8, 3, false⟩, 3, up b0 [(R.DEV_MODE, 0x23), (R.LINK_STATUS 4, 4)], by unfold Runs; decide +kernel⟩,
   ⟨⟨8, 3, false⟩, 9, { up b0 [(R.DEV_MODE, 0x23), (R.LINK_STATUS 4, 4)] with pair := { b0.pair with applied := 7 } }, by unfold Runs; decide +kernel⟩,
   ⟨⟨#[1,0,0,0,0,0,0,0,0,0,0,0,0,0,0,0,0,0,0,0,0,0,0,0,0,0,0,0,0,0,0,0], rfl⟩, up b0 [(R.DEV_MODE, 0x23), (R.LINK_STATUS 4, 4)], by unfold Runs; decide +kernel⟩,
   ⟨4, { up b0 [(R.DEV_MODE, 0x12), (R.LINK_STATUS 4, 4), (R.PAIR_STATUS, 8)] with pair := { b0.pair with nextJ := 6, ring := [{ type := 4, jseq := 4 }, { type := 4, jseq := 5 }] } }, by unfold Runs; decide +kernel⟩,
   ⟨{ up b0 [(R.DEV_MODE, 0x23), (R.LINK_STATUS 4, 4)] with pair := { b0.pair with sinceJack := 3, applied := 9 } }, by unfold Runs; decide +kernel⟩,
   ⟨tSet 5 { ({} : Tunnel) with nextSeq := 7 } (setAct (entKey 5 0) 0x11 (up b0 [(R.DEV_MODE, 0x12), (R.LINK_STATUS 4, 4), (R.PAIR_STATUS, 8)])), by unfold Runs; decide +kernel⟩,
   ⟨{ up b0 [(R.DEV_MODE, 0x12), (R.LINK_STATUS 4, 4), (R.PAIR_STATUS, 8)] with pair := { b0.pair with nextJ := 4294967296 } }, by unfold Runs; decide +kernel⟩,
   ⟨{ up b0 [(R.DEV_MODE, 0x12), (R.LINK_STATUS 4, 4), (R.PAIR_STATUS, 4)] with pair := { b0.pair with nextJ := 9, group := [{ type := 1 }] } }, by unfold Runs; decide +kernel⟩⟩

theorem meets_SwapCommandsComplete :
    -- RESYNC_START
    (∃ (s : State), Runs s ∧ scarfIsUp s = true ∧ s.pair.resyncDue = true ∧ holdsRole s = true) ∧
    -- RESYNC_REQ_RECEIVED
    (∃ (s : State), Runs s ∧ scarfIsUp s = true ∧ holdsRole s = true) ∧
    -- RESYNC_REQ_RECEIVED
    (∃ (s : State), Runs s ∧ scarfIsUp s = true ∧ mode s = mStandby) ∧
    -- PAIR_RESYNC
    (∃ (s : State), Runs s ∧ scarfIsUp s = true ∧ holdsRole s = true) ∧
    -- RESYNC_COMPLETE
    (∃ (e : Nat) (s : State), Runs s ∧ s.pair.groupEnd = some e ∧ getF s fSync = syncResync ∧ s.pair.group = [] ∧
     (mode s = mStandby ∨ (holdsRole s = true ∧ reached e (reg s R.PAIR_JSEQ_ACK).toNat = true))) ∧
    -- PAIR_OFFER
    (∃ (s : State), Runs s ∧ s.pair.swap = .idle ∧ mode s = mActive ∧ epoch s ≠ 2 ^ 32 - 1) ∧
    -- SWAP_OFFER_RECEIVED
    (∃ (s : State), Runs s ∧ scarfIsUp s = true) ∧
    -- SWAP_ACCEPT_RECEIVED
    (∃ (s : State), Runs s ∧ s.pair.swap = .offered) ∧
    -- SWAP_REFUSE_RECEIVED
    (∃ (s : State), Runs s ∧ s.pair.swap = .offered) ∧
    -- SWAP_DRAIN_DONE
    (∃ (s : State), Runs s ∧ s.pair.swap = .draining ∧ drained s = true ∧ holdsRole s = true ∧
     getF s fSync = syncSynced ∧ s.pair.ring = [] ∧ s.pair.group = [] ∧ validEntries s = []) ∧
    -- SWAP_DRAIN_DONE
    (∃ (s : State), Runs s ∧ s.pair.swap = .draining ∧ drained s = true ∧ holdsRole s = true ∧
     getF s fSync = syncSynced ∧ s.pair.ring.length + 256 < 2048 ∧ (s.pair.ring ≠ [] ∨ validEntries s ≠ [])) ∧
    -- JACK_RECEIVED
    (∃ (jseq : Word) (s : State), Runs s ∧ holdsRole s = true ∧ scarfIsUp s = true ∧ getF s fSync = syncSynced ∧
     s.pair.swap = .checkpointed ∧ reached (reg s R.PAIR_JSEQ_ACK).toNat jseq.toNat = true ∧
     reached jseq.toNat (s.pair.nextJ + 2 ^ 32 - 1) = true ∧
     s.pair.ring.all (fun r => reached r.jseq jseq.toNat) = true ∧ s.pair.group = []) ∧
    -- SWAP_DRAIN_TIMEOUT
    (∃ (s : State), Runs s ∧ s.pair.swap = .draining) ∧
    -- SWAP_COMMIT_ACK_RECEIVED
    (∃ (s : State), Runs s ∧ s.pair.swap = .committing) ∧
    -- SWAP_ABORT_RECEIVED
    (∃ (s : State), Runs s ∧ s.pair.swap ≠ .idle ∧ s.pair.swap ≠ .committing ∧ s.inq = []) ∧
    -- SWAP_ABORT_RECEIVED
    (∃ (s : State), Runs s ∧ s.pair.swap = .committing) ∧
    -- SWAP_ACK_TIMEOUT
    (∃ (s : State), Runs s ∧ s.pair.swap ≠ .idle ∧ s.inq = [] ∧ scarfIsUp s = false ∧ getF s fPeerMode ≠ mActive) :=
  ⟨⟨{ up b0 [(R.DEV_MODE, 0x12), (R.LINK_STATUS 4, 4), (R.PAIR_STATUS, 0)] with pair := { b0.pair with resyncDue := true } }, by unfold Runs; decide +kernel⟩,
   ⟨up b0 [(R.DEV_MODE, 0x12), (R.LINK_STATUS 4, 4), (R.PAIR_STATUS, 0)], by unfold Runs; decide +kernel⟩,
   ⟨{ up b0 [(R.DEV_MODE, 0x23), (R.LINK_STATUS 4, 4)] with pair := { b0.pair with groupOpen := true } }, by unfold Runs; decide +kernel⟩,
   ⟨up b0 [(R.DEV_MODE, 0x12), (R.LINK_STATUS 4, 4), (R.PAIR_STATUS, 8)], by unfold Runs; decide +kernel⟩,
   ⟨9, { up b0 [(R.DEV_MODE, 0x23), (R.PAIR_STATUS, 4)] with pair := { b0.pair with groupEnd := some 9 } }, by unfold Runs; decide +kernel⟩,
   ⟨up b0 [(R.DEV_MODE, 0x12), (R.LINK_STATUS 4, 4), (R.PAIR_STATUS, 8)], by unfold Runs; decide +kernel⟩,
   ⟨up b0 [(R.DEV_MODE, 0x23), (R.LINK_STATUS 4, 4), (R.PAIR_STATUS, 8), (R.PAIR_CTRL, 1)], by unfold Runs; decide +kernel⟩,
   ⟨{ up b0 [(R.DEV_MODE, 0x12), (R.LINK_STATUS 4, 4), (R.PAIR_STATUS, 0x808)] with pair := { b0.pair with swap := .offered } }, by unfold Runs; decide +kernel⟩,
   ⟨{ up b0 [(R.DEV_MODE, 0x12), (R.LINK_STATUS 4, 4), (R.PAIR_STATUS, 0x808)] with pair := { b0.pair with swap := .offered } }, by unfold Runs; decide +kernel⟩,
   ⟨{ up b0 [(R.DEV_MODE, 0x12), (R.LINK_STATUS 4, 4), (R.PAIR_STATUS, 0x808)] with pair := { b0.pair with swap := .draining } }, by unfold Runs; decide +kernel⟩,
   ⟨setAct (entKey 5 0) 0x05007001 ({ up b0 [(R.DEV_MODE, 0x12), (R.LINK_STATUS 4, 4), (R.PAIR_STATUS, 0x808)] with pair := { b0.pair with swap := .draining } }), by unfold Runs; decide +kernel⟩,
   ⟨5, { up b0 [(R.DEV_MODE, 0x12), (R.LINK_STATUS 4, 4), (R.PAIR_STATUS, 8)] with pair := { b0.pair with nextJ := 6, swap := .checkpointed, ring := [{ type := 3, jseq := 4 }, { type := 3, jseq := 5 }] } }, by unfold Runs; decide +kernel⟩,
   ⟨{ up b0 [(R.DEV_MODE, 0x12), (R.LINK_STATUS 4, 4), (R.PAIR_STATUS, 0x808)] with pair := { b0.pair with swap := .draining, frozen := true } }, by unfold Runs; decide +kernel⟩,
   ⟨{ up b0 [(R.DEV_MODE, 0x12), (R.LINK_STATUS 4, 4), (R.PAIR_STATUS, 0x808)] with pair := { b0.pair with swap := .committing, frozen := true } }, by unfold Runs; decide +kernel⟩,
   ⟨{ up b0 [(R.DEV_MODE, 0x12), (R.LINK_STATUS 4, 4), (R.PAIR_STATUS, 0x808)] with pair := { b0.pair with swap := .draining, frozen := true } }, by unfold Runs; decide +kernel⟩,
   ⟨{ up b0 [(R.DEV_MODE, 0x12), (R.LINK_STATUS 4, 4), (R.PAIR_STATUS, 0x808)] with pair := { b0.pair with swap := .committing, frozen := true } }, by unfold Runs; decide +kernel⟩,
   ⟨{ up b0 [(R.DEV_MODE, 0x12), (R.LINK_STATUS 4, 0), (R.PAIR_STATUS, 0x808)] with pair := { b0.pair with swap := .committing }, inq := [] }, by unfold Runs; decide +kernel⟩⟩

theorem meets_TakeoverCommandsComplete :
    -- HEARTBEAT_FRAME
    (∃ (f : BitVec 24) (s : State), Runs s ∧ bit s fPaired = true ∧ heartbeatOk f = true ∧ (mode s ≠ mActive ∧
     mode s ≠ mIsland)) ∧
    -- HEARTBEAT_FRAME
    (∃ (f : BitVec 24) (s : State), Runs s ∧ bit s fPaired = true ∧ heartbeatOk f = true ∧ (mode s = mActive ∨
     mode s = mIsland) ∧ bits f.toNat 16 3 = mStandby) ∧
    -- HEARTBEAT_FRAME
    (∃ (f : BitVec 24) (s : State), Runs s ∧ bit s fPaired = true ∧ heartbeatOk f = true ∧ (mode s = mActive ∨
     mode s = mIsland) ∧ bits f.toNat 16 3 ≠ mStandby ∧ bits f.toNat 16 3 ≠ mActive ∧ bits f.toNat 16 3 ≠ mIsland ∧
     s.pair.swap = .idle) ∧
    -- HEARTBEAT_FRAME
    (∃ (f : BitVec 24) (d : Nat) (s : State), Runs s ∧ bit s fPaired = true ∧ heartbeatOk f = true ∧
     (mode s = mActive ∨ mode s = mIsland) ∧ (bits f.toNat 16 3 = mActive ∨ bits f.toNat 16 3 = mIsland) ∧
     d = (bits f.toNat 9 7 + 128 - epoch s % 128) % 128 ∧ (64 < d ∨ (d = 0 ∨ d = 64) ∧ bit s fMember = false)) ∧
    -- HEARTBEAT_FRAME
    (∃ (f : BitVec 24) (d : Nat) (s : State), Runs s ∧ bit s fPaired = true ∧ heartbeatOk f = true ∧
     (mode s = mActive ∨ mode s = mIsland) ∧ (bits f.toNat 16 3 = mActive ∨ bits f.toNat 16 3 = mIsland) ∧
     d = (bits f.toNat 9 7 + 128 - epoch s % 128) % 128 ∧ (1 ≤ d ∧ d ≤ 63 ∨ (d = 0 ∨ d = 64) ∧ bit s fMember = true)) ∧
    -- HEARTBEAT_LOSS
    (∃ (scarf : Bool) (s : State), Runs s ∧ bit s fScarfHb = true ∧ bit s fSbHb = true) ∧
    -- HEARTBEAT_LOSS
    (∃ (scarf : Bool) (s : State), Runs s ∧ mode s = mStandby ∧ bit s (if scarf then fScarfHb else fSbHb) = true ∧
     bit s (if scarf then fSbHb else fScarfHb) = false ∧ getF s fSync = syncSynced ∧ epochExhausted s = false) ∧
    -- PAIR_TAKEOVER
    (∃ (s : State), Runs s ∧ mode s = mStandby ∧ bit s fScarfHb = false ∧ bit s fSbHb = false ∧
     epochExhausted s = false) ∧
    -- TAKEOVER_ASSUME
    (∃ (forced : Bool) (s : State), Runs s ∧ s.pair.taking = some forced ∧ mode s = mStandby) ∧
    -- FENCE_IN_RISE
    (∃ (s : State), Runs s ∧ mode s ≠ mActive ∧ mode s ≠ mIsland) ∧
    -- FENCE_IN_RISE
    (∃ (s : State), Runs s ∧ (mode s = mActive ∨ mode s = mIsland)) ∧
    -- FENCE_IN_RISE
    (∃ (s : State), Powered s ∧ hubRuns s = false) ∧
    -- FENCE_IN_FALL
    (∃ (s : State), Runs s) ∧
    -- FENCE_RELEASE
    (∃ (s : State), Runs s ∧ bit s fScarfHb = true ∧ bit s fSbHb = true ∧ getF s fPeerMode = mStandby ∧
     getF s fSync = syncSynced) ∧
    -- DOCK_ENABLE
    (∃ (v : Word) (s : State), Runs s ∧ bits v.toNat 2 2 ≠ bits v.toNat 4 2 ∧ (v.toNat % 2 = 0 ∨
     bits (v &&& 0x3F3D).toNat 0 6 = bits (reg s R.PAIR_DOCK_CTRL).toNat 0 6)) ∧
    -- DOCK_ENABLE
    (∃ (v : Word) (s : State), Runs s ∧ bits v.toNat 2 2 = bits v.toNat 4 2) ∧
    -- DOCK_ENABLE
    (∃ (v : Word) (s : State), Runs s ∧ bits v.toNat 2 2 ≠ bits v.toNat 4 2 ∧ v.toNat % 2 = 1 ∧
     bits (v &&& 0x3F3D).toNat 0 6 ≠ bits (reg s R.PAIR_DOCK_CTRL).toNat 0 6) :=
  ⟨⟨0xD2010C, up b0 [(R.DEV_MODE, 0x23), (R.PAIR_STATUS, 2)], by unfold Runs; decide +kernel⟩,
   ⟨0xD30108, up b0 [(R.DEV_MODE, 0x12), (R.PAIR_STATUS, 0xA)], by unfold Runs; decide +kernel⟩,
   ⟨0xD00108, up b0 [(R.DEV_MODE, 0x12), (R.PAIR_STATUS, 0xA)], by unfold Runs; decide +kernel⟩,
   ⟨0xD2010C, (bits (0xD2010C : BitVec 24).toNat 9 7 + 128 - epoch (up b0 [(R.PAIR_EPOCH, 0x11)]) % 128) % 128, up b0 [(R.DEV_MODE, 0x12), (R.PAIR_STATUS, 0xA), (R.PAIR_EPOCH, 0x11)], by unfold Runs; decide +kernel⟩,
   ⟨0xD2010C, (bits (0xD2010C : BitVec 24).toNat 9 7 + 128 - epoch (up b0 [(R.PAIR_EPOCH, 0x70)]) % 128) % 128, up b0 [(R.DEV_MODE, 0x12), (R.PAIR_STATUS, 0xA), (R.PAIR_EPOCH, 0x70)], by unfold Runs; decide +kernel⟩,
   ⟨true, up b0 [(R.PAIR_STATUS, 0x32)], by unfold Runs; decide +kernel⟩,
   ⟨false, up b0 [(R.DEV_MODE, 0x23), (R.PAIR_STATUS, 0x2A)], by unfold Runs; decide +kernel⟩,
   ⟨up b0 [(R.DEV_MODE, 0x23), (R.PAIR_STATUS, 2)], by unfold Runs; decide +kernel⟩,
   ⟨true, { up b0 [(R.DEV_MODE, 0x23), (R.PAIR_STATUS, 0x42)] with pair := { b0.pair with taking := some true } }, by unfold Runs; decide +kernel⟩,
   ⟨up b0 [(R.DEV_MODE, 0x23)], by unfold Runs; decide +kernel⟩,
   ⟨up b0 [(R.DEV_MODE, 0x12), (R.LINK_STATUS 4, 4), (R.PAIR_STATUS, 8)], by unfold Runs; decide +kernel⟩,
   ⟨{ b0 with pwr := { b0.pwr with resetLow := true } }, by unfold Powered; decide +kernel⟩,
   ⟨{ up b0 [(R.PAIR_STATUS, 0x80)] with pair := { b0.pair with fenced := true } }, by unfold Runs; decide +kernel⟩,
   ⟨up b0 [(R.PAIR_STATUS, 0x37A)], by unfold Runs; decide +kernel⟩,
   ⟨0x11, up b0 [(fDockEn.key, 0x11)], by unfold Runs; decide +kernel⟩,
   ⟨0x15, up b0 [], by unfold Runs; decide +kernel⟩,
   ⟨0x11, up b0 [], by unfold Runs; decide +kernel⟩⟩

theorem meets_CrossingCommandsComplete :
    -- CROSSING_PULSE
    (∃ (x : EventX) (k : BitVec 3) (detail : BitVec 16) (s : State), Runs s ∧ (x = .dispCommit ∨ x = .level) ∧
     (xGet s (xIndex x)).inFlight = none) ∧
    -- CROSSING_PULSE
    (∃ (x : EventX) (k : BitVec 3) (detail : BitVec 16) (s : State), Runs s ∧ (x = .dispCommit ∨ x = .level) ∧
     (xGet s (xIndex x)).inFlight ≠ none ∧ (xGet s (xIndex x)).pending = none) ∧
    -- CROSSING_PULSE
    (∃ (x : EventX) (k : BitVec 3) (detail : BitVec 16) (s : State), Runs s ∧ (x = .dispCommit ∨ x = .level) ∧
     (xGet s (xIndex x)).inFlight ≠ none ∧ (xGet s (xIndex x)).pending ≠ none) ∧
    -- CROSSING_PULSE
    (∃ (g : Fin 16) (k : BitVec 3) (detail : BitVec 16) (s : State), Runs s ∧ (8 * g.val + k.toNat < 92 ∨
     99 < 8 * g.val + k.toNat) ∧ (xGet s (32 + g)).inFlight = none) ∧
    -- CROSSING_ACK
    (∃ (x : BitVec 7) (p : Pulse) (s : State), Runs s ∧ xType x.toNat = some 0 ∧
     (xGet s x.toNat).resyncing = false ∧ (xGet s x.toNat).inFlight = some p ∧ (x.toNat ≤ 47 →
     (xGet s x.toNat).delivered = true) ∧ s.pwr.boot = []) ∧
    -- CROSSING_STALL
    (∃ (x : BitVec 7) (s : State), Runs s ∧ xType x.toNat ≠ none ∧ (xGet s x.toNat).stalled = false ∧
     waitsAt s x.toNat = true ∧ ownStop s x.toNat = false) ∧
    -- CROSSING_STALL
    (∃ (x : BitVec 7) (s : State), Runs s ∧ (waitsAt s x.toNat = false ∨ ownStop s x.toNat = true ∨
     (xGet s x.toNat).stalled = true)) ∧
    -- CROSSING_RESYNC
    (∃ (x : BitVec 7) (words : BitVec 6) (n : Nat) (s : State), Runs s ∧ xType x.toNat = some 0 ∧
     (xGet s x.toNat).resyncing = false ∧
     n = (if (xGet s x.toNat).inFlight.isSome then 1 else 0) + (if (xGet s x.toNat).pending.isSome then 1 else 0)) ∧
    -- CDC_SEL_WRITE
    (∃ (v : Word) (s : State), Runs s ∧ Unpaired s) ∧
    -- CDC_XCLEAR
    (∃ (s : State), Runs s) ∧
    -- REG_ACCESS_TIMEOUT
    (∃ (p : Path) (addr : Addr) (s : State), Awake s ∧ pathReaches s p addr.toNat = true ∧
     pageKindOf (addr.toNat / 0x1000) ≠ none ∧ addr.toNat % 4 = 0) ∧
    -- REG_ACCESS_TIMEOUT
    (∃ (p : Path) (addr : Addr) (v : Word) (s : State), Awake s ∧ pathReaches s p addr.toNat = true ∧
     pageKindOf (addr.toNat / 0x1000) ≠ none ∧ addr.toNat % 4 = 0 ∧
     (smGet dHeld s.held (addr.toNat / 0x1000)).length < 8) ∧
    -- CLOCK_RETURN
    (∃ (page : BitVec 12) (s : State), Runs s ∧ smGet dHeld s.held page.toNat = []) :=
  ⟨⟨.level, 0, 7, up b0 [], by unfold Runs; decide +kernel⟩,
   ⟨.dispCommit, 0, 7, xSet 48 { inFlight := some ⟨0, 3⟩ } b0, by unfold Runs; decide +kernel⟩,
   ⟨.dispCommit, 0, 7, xSet 48 { inFlight := some ⟨0, 3⟩, pending := some ⟨0, 4⟩ } b0, by unfold Runs; decide +kernel⟩,
   ⟨12, 4, 7, up b0 [], by unfold Runs; decide +kernel⟩,
   ⟨40, ⟨66, 1⟩, xSet 40 { inFlight := some ⟨66, 1⟩, delivered := true, pending := some ⟨67, 2⟩, xfers := 9 } b0, by unfold Runs; decide +kernel⟩,
   ⟨13, inqSet 13 [{ tag := 1, data := [1] }] b0, by unfold Runs; decide +kernel⟩,
   ⟨13, up b0 [], by unfold Runs; decide +kernel⟩,
   ⟨61, 0, 2, xSet 61 { inFlight := some ⟨66, 1⟩, pending := some ⟨67, 2⟩ } b0, by unfold Runs; decide +kernel⟩,
   ⟨0xB0, xSet 48 { inFlight := some ⟨66, 1⟩, overrun := true, lost := 300, xfers := 9 } b0, by unfold Runs Unpaired; decide +kernel⟩,
   ⟨xSet 48 { overrun := true, lost := 3 } (up b0 [(R.CDC_SEL, 48)]), by unfold Runs; decide +kernel⟩,
   ⟨.spi, 0x51100, up b0 [], by unfold Awake; decide +kernel⟩,
   ⟨.spi, 0x51100, 9, up b0 [], by unfold Awake; decide +kernel⟩,
   ⟨0x51, { b0 with stopped := [0x51] }, by unfold Runs; decide +kernel⟩⟩

theorem meets_FaultCommandsComplete :
    -- FAULT_RAISE
    (∃ (g : Fin 16) (p : Pulse) (s : State), Runs s ∧ (xGet s (32 + g)).inFlight = some p ∧
     (xGet s (32 + g)).delivered = false ∧ (xGet s (32 + g)).resyncing = false ∧ p.code < 128 ∧
     getF s (fEscCount p.code) = 0 ∧ bit s (fEsc p.code) = false ∧ getF s (fSev p.code) = 1) ∧
    -- FAULT_RAISE
    (∃ (p : Pulse) (rest : List Pulse) (s : State), Runs s ∧ bit s fDoze = false ∧ s.flt.direct = p :: rest ∧
     p.code < 128 ∧ getF s (fEscCount p.code) = 0 ∧ bit s (fEsc p.code) = false ∧ getF s (fSev p.code) = 3) ∧
    -- FAULT_RAISE
    (∃ (g : Fin 16) (p : Pulse) (s : State), Runs s ∧ (xGet s (32 + g)).inFlight = some p ∧
     (xGet s (32 + g)).delivered = false ∧ (xGet s (32 + g)).resyncing = false ∧ p.code < 128 ∧
     getF s (fEscCount p.code) = 0 ∧ bit s (fEsc p.code) = false ∧ getF s (fSev p.code) = 7) ∧
    -- SHED_STEP_TIMER
    (∃ (src : Nat) (s : State), Runs s ∧ s.flt.shedSrc = some src ∧ bit s (fPend src) = true ∧ getF s fShed < 4) ∧
    -- ESCALATION_WINDOW_END
    (∃ (src : BitVec 7) (s : State), Runs s) ∧
    -- ESC_CLEAR
    (∃ (src : BitVec 7) (s : State), Runs s) ∧
    -- FLT_UNSHED
    (∃ (s : State), Runs s) ∧
    -- FLT_FIRST_CLR
    (∃ (s : State), Runs s) ∧
    -- FLT_HIST_SNAP
    (∃ (r : Record) (rest : List Record) (s : State), Runs s ∧ s.flt.history = r :: rest) ∧
    -- FLT_MARK
    (∃ (detail : BitVec 14) (s : State), Runs s ∧ bit s ⟨R.FLT_CTRL, 1, 1⟩ = false ∧ s.flt.lost = 0 ∧
     s.flt.outq.length < 3) ∧
    -- EVENT_CELL_TIMER
    (∃ (m : Nat) (s : State), Runs s ∧ s.flt.outq ≠ [] ∧ s.flt.outq.length ≤ 3 ∧ s.flt.lost = 0 ∧
     evtRoute s = some m ∧ m ≤ 4) ∧
    -- FLT_RX_HDR_READ
    (∃ (hid : Nat) (r : Record) (rest : List (Nat × Record)) (s : State), Runs s ∧ s.flt.rxq = (hid, r) :: rest) ∧
    -- FI_ARM
    (∃ (v : Word) (s : State), Runs s ∧ mode s = mService ∧ v.toNat % 16 = 1) :=
  ⟨⟨8, ⟨66, 5⟩, xSet 40 { inFlight := some ⟨66, 5⟩ } (up b0 [(R.FLT_SRC 66, 1)]), by unfold Runs; decide +kernel⟩,
   ⟨⟨93, 5⟩, [], { up b0 [(R.FLT_SRC 93, 3)] with flt := { b0.flt with direct := [⟨93, 5⟩] } }, by unfold Runs; decide +kernel⟩,
   ⟨15, ⟨125, 5⟩, xSet 47 { inFlight := some ⟨125, 5⟩ } (up b0 [(R.FLT_SRC 125, 7)]), by unfold Runs; decide +kernel⟩,
   ⟨66, { up b0 [(R.FLT_STATUS, 0x4C), (R.FLT_PEND 2, 4)] with flt := { b0.flt with shedSrc := some 66 } }, by unfold Runs; decide +kernel⟩,
   ⟨66, { b0 with flt := { b0.flt with esc := [(66, 2)] } }, by unfold Runs; decide +kernel⟩,
   ⟨66, { up b0 [(R.FLT_ESC 2, 0xFFFFFFFF)] with flt := { b0.flt with esc := [(66, 2)] } }, by unfold Runs; decide +kernel⟩,
   ⟨{ up b0 [(R.FLT_STATUS, 0x4C)] with flt := { b0.flt with shedSrc := some 66 } }, by unfold Runs; decide +kernel⟩,
   ⟨up b0 [(R.FLT_STATUS, 0x40), (R.FLT_FIRST 0, 3)], by unfold Runs; decide +kernel⟩,
   ⟨{ sec := 1, ns := 2, source := 3, kindEdge := 4, seq := 5, detail := 6 }, [], { b0 with flt := { b0.flt with history := [{ sec := 1, ns := 2, source := 3, kindEdge := 4, seq := 5, detail := 6 }] } }, by unfold Runs; decide +kernel⟩,
   ⟨77, up b0 [(R.FLT_CTRL, 1)], by unfold Runs; decide +kernel⟩,
   ⟨2, { setAct R.TUN_EVT_ROUTE 0x12 b0 with flt := { b0.flt with outq := [{ sec := 1, ns := 2, source := 3, kindEdge := 4, seq := 5, detail := 6 }] } }, by unfold Runs; decide +kernel⟩,
   ⟨7, { sec := 1, ns := 2, source := 3, kindEdge := 4, seq := 5, detail := 6 }, [], { b0 with flt := { b0.flt with rxq := [(7, { sec := 1, ns := 2, source := 3, kindEdge := 4, seq := 5, detail := 6 })] } }, by unfold Runs; decide +kernel⟩,
   ⟨0x30001, up b0 [(R.DEV_MODE, 5)], by unfold Runs; decide +kernel⟩⟩

theorem meets_SleepCommandsComplete :
    -- SLEEP_REQUEST
    (∃ (target : BitVec 2) (s : State), Awake s ∧ bit s fChanging = false ∧ s.pwr.entry = 0 ∧
     sleepMode s target.toNat = true ∧ 2 ≤ target.toNat) ∧
    -- SLEEP_REQUEST
    (∃ (s : State), Awake s ∧ bit s fChanging = false ∧ s.pwr.entry = 0 ∧ mode s ≠ mService) ∧
    -- S1_ENTRY
    (∃ (s : State), Runs s ∧ s.pwr.entry = 1 ∧ queuesEmpty s = true ∧ streamsEmpty s = true ∧
     bit s fChanging = false ∧ bit s fDoze = false ∧ mode s ≠ mService) ∧
    -- S1_EXIT
    (∃ (s : State), Runs s ∧ bit s fDoze = true) ∧
    -- SLEEP_DRAIN_DONE
    (∃ (s : State), Runs s ∧ s.pwr.entry = 2 ∧ drained s = true) ∧
    -- SLEEP_DRAIN_TIMEOUT
    (∃ (s : State), Runs s ∧ (s.pwr.entry = 1 ∨ s.pwr.entry = 2)) ∧
    -- SLEEP_ENTRY_COMPLETE
    (∃ (edges : BitVec 9) (s : State), Runs s ∧ s.pwr.entry = 3 ∧ (s.pwr.target = 2 ∨ s.pwr.target = 3)) ∧
    -- WAKE_CAUSE
    (∃ (c : Fin 9) (s : State), Powered s ∧ s.pwr.resetLow = false ∧ (wakeEnabled s).testBit c = true ∧
     2 ≤ getF s fPstate ∧ bit s fWakeFail = false ∧ bit s fWaking = false ∧ s.pwr.entry = 0 ∧ bit s fDoze = false) ∧
    -- AO_WAKE_CMD
    (∃ (s : State), Powered s ∧ s.pwr.resetLow = false ∧ (wakeEnabled s).testBit 8 = true ∧ 2 ≤ getF s fPstate ∧
     bit s fWakeFail = false ∧ bit s fWaking = false ∧ s.pwr.entry = 0 ∧ bit s fDoze = false) ∧
    -- AO_TIMER_EXPIRY
    (∃ (s : State), Powered s ∧ s.pwr.resetLow = false ∧ (wakeEnabled s).testBit 7 = true ∧ 2 ≤ getF s fPstate ∧
     getF s ⟨R.AO_TIMER, 0, 24⟩ ≠ 0 ∧ bit s fWakeFail = false ∧ bit s fWaking = false ∧ s.pwr.entry = 0 ∧
     bit s fDoze = false) ∧
    -- LINK_RESET
    (∃ (mask : BitVec 5) (s : State), Runs s) ∧
    -- SOFT_RESET
    (∃ (page : BitVec 12) (s : State), Runs s ∧ softPage page.toNat = true) ∧
    -- SOFT_RESET_DONE
    (∃ (page : BitVec 12) (s : State), Runs s ∧ bit s (fResetting page.toNat) = true) ∧
    -- RB7_DATA_ACCESS
    (∃ (w : Word) (a : Nat) (s : State), Runs s ∧ a = getF s ⟨R.PM_RB7_ADDR, 0, 14⟩) ∧
    -- RB7_DATA_ACCESS
    (∃ (a : Nat) (s : State), Runs s ∧ a = getF s ⟨R.PM_RB7_ADDR, 0, 14⟩) :=
  ⟨⟨2, up b0 [(R.DEV_MODE, 1)], by unfold Awake; decide +kernel⟩,
   ⟨up b0 [(R.DEV_MODE, 1)], by unfold Awake; decide +kernel⟩,
   ⟨{ up b0 [(R.DEV_MODE, 1), (R.PM_STATUS, 0x400)] with pwr := { b0.pwr with entry := 1, target := 1 } }, by unfold Runs; decide +kernel⟩,
   ⟨up b0 [(R.AO_STATUS, 1), (R.PM_STATUS, 0x200), (R.PM_SLEEP_CTRL, 0x200)], by unfold Runs; decide +kernel⟩,
   ⟨{ up b0 [(R.LINK_STATUS 1, 4), (R.LINK_STATUS 4, 4), (R.PCIE_STATUS 0, 1)] with pwr := { b0.pwr with entry := 2, target := 2 } }, by unfold Runs; decide +kernel⟩,
   ⟨{ b0 with pwr := { b0.pwr with entry := 2, target := 3 } }, by unfold Runs; decide +kernel⟩,
   ⟨3, { up b0 [(R.PM_SLEEP_CTRL, 3), (R.DEV_MODE, 1)] with pwr := { b0.pwr with entry := 3, target := 2 } }, by unfold Runs; decide +kernel⟩,
   ⟨3, { up b0 [(R.AO_STATUS, 2), (R.AO_WAKE_EN, 0x108)] with pwr := { b0.pwr with resetLow := false } }, by unfold Powered; decide +kernel⟩,
   ⟨{ up b0 [(R.AO_STATUS, 2), (R.AO_WAKE_EN, 0x108)] with pwr := { b0.pwr with resetLow := false } }, by unfold Powered; decide +kernel⟩,
   ⟨{ up b0 [(R.AO_STATUS, 2), (R.AO_WAKE_EN, 0x80), (R.AO_TIMER, 9)] with pwr := { b0.pwr with resetLow := false } }, by unfold Powered; decide +kernel⟩,
   ⟨0x12, lSet 1 { lGet b0 1 with ctlOut := [[1]] } (up b0 [(R.LINK_STATUS 1, 4), (R.LINK_STATUS 4, 4)]), by unfold Runs; decide +kernel⟩,
   ⟨0x79, up b0 [(R.MAC_CTRL 0, 1)], by unfold Runs; decide +kernel⟩,
   ⟨0x79, up b0 [(0x79008, 3), (0x7900C, 3)], by unfold Runs; decide +kernel⟩,
   ⟨7, 16383, up b0 [(R.PM_RB7_ADDR, 16383)], by unfold Runs; decide +kernel⟩,
   ⟨5, { up b0 [(R.PM_RB7_ADDR, 5)] with pwr := { b0.pwr with words := [(5, 9)] } }, by unfold Runs; decide +kernel⟩⟩

theorem meets_ResetCommandsComplete :
    -- WARM_RESET
    (∃ (s : State), Runs s ∧ s.fuse.begun = none) ∧
    -- WARM_RESET
    (∃ (key : Byte) (s : State), Runs s ∧ key ≠ 0xA5) ∧
    -- LC_PROGRAM_DONE
    (∃ (n : Nat) (s : State), Runs s ∧ s.fuse.begun = some n) ∧
    -- WAKE_VREADY
    (∃ (s : State), Powered s ∧ s.pwr.step = .vready) ∧
    -- WAKE_CLOCK_DETECTED
    (∃ (s : State), Powered s ∧ s.pwr.step = .clock ∧ s.fuse.begun = none) ∧
    -- WAKE_VREADY_TIMEOUT
    (∃ (s : State), Powered s ∧ s.pwr.step = .vready ∧ s.pwr.attempt ≤ getF s ⟨R.AO_WAKE_RETRY, 0, 4⟩) ∧
    -- WAKE_CLOCK_TIMEOUT
    (∃ (s : State), Powered s ∧ s.pwr.step = .clock ∧ getF s ⟨R.AO_WAKE_RETRY, 0, 4⟩ < s.pwr.attempt) ∧
    -- WAKE_BACKOFF_EXPIRY
    (∃ (s : State), Powered s ∧ s.pwr.step = .backoff) ∧
    -- WAKE_FAIL_CLEAR
    (∃ (s : State), Powered s) ∧
    -- WAKE_RESET_DONE
    (∃ (held_ : BitVec 8) (puf : Fin 4) (fuseBad : Bool) (s : State), Powered s ∧ s.pwr.step = .wipe ∧
     bit s fWaking = true ∧ s.pwr.resetLow = false) ∧
    -- RESET_N_ASSERT
    (∃ (s : State), Powered s ∧ s.pwr.resetLow = false) ∧
    -- RESET_N_RELEASE
    (∃ (straps : BitVec 3) (s : State), Powered s ∧ s.pwr.resetLow = true) ∧
    -- CORE_SUPPLY_LOSS
    (∃ (s : State), Runs s ∧ bit s fChanging = false ∧ s.pwr.entry = 0) :=
  ⟨⟨{ up b0 [(R.DEV_MODE, 1), (R.RST_STATUS, 1)] with dram := [(4, 1)], fwd := [(5, none)] }, by unfold Runs; decide +kernel⟩,
   ⟨0xA4, up b0 [], by unfold Runs; decide +kernel⟩,
   ⟨2, { up b0 [(R.AO_RB_SIG 3, 9)] with fuse := { b0.fuse with lc := 1, begun := some 2 } }, by unfold Runs; decide +kernel⟩,
   ⟨{ up b0 [(R.AO_STATUS, 0x4B)] with pwr := { b0.pwr with step := .vready } }, by unfold Powered; decide +kernel⟩,
   ⟨{ { up b0 [(R.AO_STATUS, 0x6B)] with pwr := { b0.pwr with step := .clock } } with fuse := { lc := 2 } }, by unfold Powered; decide +kernel⟩,
   ⟨{ up b0 [(R.AO_STATUS, 0x4B), (R.AO_WAKE_RETRY, 3)] with pwr := { b0.pwr with step := .vready, attempt := 1 } }, by unfold Powered; decide +kernel⟩,
   ⟨{ up b0 [(R.AO_STATUS, 0x6B), (R.AO_WAKE_RETRY, 3)] with pwr := { b0.pwr with step := .clock, attempt := 4 } }, by unfold Powered; decide +kernel⟩,
   ⟨{ up b0 [(R.AO_STATUS, 0x0B)] with pwr := { b0.pwr with step := .backoff, attempt := 7 } }, by unfold Powered; decide +kernel⟩,
   ⟨up b0 [(R.AO_STATUS, 0x13), (R.AO_FAIL, 0x17801)], by unfold Powered; decide +kernel⟩,
   ⟨0, 1, true, { up b0 [(R.AO_STATUS, 0xEB)] with pwr := { b0.pwr with step := .wipe, failed := true, resetLow := false } }, by unfold Powered; decide +kernel⟩,
   ⟨up b0 [], by unfold Powered; decide +kernel⟩,
   ⟨5, { b0 with pwr := { b0.pwr with resetLow := true } }, by unfold Powered; decide +kernel⟩,
   ⟨{ b0 with dram := [(4, 1)] }, by unfold Runs; decide +kernel⟩⟩

theorem meets_SecurityCommandsComplete_6 :
    ∃ (p : Path) (resp : Vector Word 4) (c k : List Byte) (s : State), Runs s ∧ (apGet s p).lockout = false ∧
    (apGet s p).chal = some c ∧ (apGet s p).unlock = false ∧ authKey s = some k ∧
    (∀ i ∈ List.range 4, resp.toList.getD i 0 = BitVec.ofNat 32 (ofBE (sub (crFormula s k c) (4 * i) 4))) := by
  exact ⟨.jtag, _, [0x80], List.replicate 32 7, authWit, by unfold Runs; decide +kernel, by decide +kernel, by decide +kernel,
    by decide +kernel, by decide +kernel,
    four_words (fun i => BitVec.ofNat 32 (ofBE (sub (crFormula authWit (List.replicate 32 7) [0x80]) (4 * i) 4)))⟩

theorem meets_SecurityCommandsComplete_14 :
    ∃ (p : Path) (root : List Byte) (s : State), Runs s ∧ privileged s p = true ∧ lc s = lcProvision ∧
    bit s fCpsSealed = false ∧ s.fuse.cps = none ∧ rootKey s = some root := by
  refine ⟨.spi, derive secretBytes "ROOT_CUST", { up b0 [(R.SEC_STATUS, 0xA)] with buf := [(R.SEC_CPS 0, 5)] },
    by unfold Runs; decide +kernel, by decide +kernel, by decide +kernel, by decide +kernel, by decide +kernel, rfl⟩

theorem meets_SecurityCommandsComplete :
    -- LC_REQUEST
    (∃ (p : Path) (target : BitVec 3) (confirm : Byte) (s : State), Runs s ∧
     lcCheck s p target.toNat confirm.toNat = 0) ∧
    -- LC_REQUEST
    (∃ (p : Path) (target : BitVec 3) (confirm : Byte) (r : Nat) (s : State), Runs s ∧
     lcCheck s p target.toNat confirm.toNat = r) ∧
    -- AUTH_NEW_CHALLENGE
    (∃ (p : Path) (s : State), Runs s ∧ (apGet s p).lockout = false) ∧
    -- AUTH_UNLOCK_CHALLENGE
    (∃ (p : Path) (s : State), Runs s ∧ (apGet s p).lockout = false ∧ bit s fReleaseOk = true) ∧
    -- AUTH_DEAUTH
    (∃ (p : Path) (s : State), Runs s) ∧
    -- AUTH_RESPONSE
    (∃ (p : Path) (resp : Vector Word 4) (c k : List Byte) (s : State), Runs s ∧ (apGet s p).lockout = false ∧
     (apGet s p).chal = some c ∧ (apGet s p).unlock = false ∧ authKey s = some k ∧
     (∀ i ∈ List.range 4, resp.toList.getD i 0 = BitVec.ofNat 32 (ofBE (sub (crFormula s k c) (4 * i) 4)))) ∧
    -- AUTH_RESPONSE
    (∃ (p : Path) (resp : Vector Word 4) (s : State), Runs s ∧ (apGet s p).lockout = false ∧
     (apGet s p).chal = none ∧ (apGet s p).fails < 2) ∧
    -- AUTH_RESPONSE
    (∃ (p : Path) (resp : Vector Word 4) (s : State), Runs s ∧ (apGet s p).lockout = false ∧
     (apGet s p).chal = none ∧ 2 ≤ (apGet s p).fails) ∧
    -- AUTH_CHALLENGE_EXPIRY
    (∃ (p : Path) (s : State), Runs s) ∧
    -- AUTH_LOCKOUT_END
    (∃ (p : Path) (s : State), Runs s ∧ (apGet s p).lockout = true) ∧
    -- RELEASE_OK_EXPIRY
    (∃ (s : State), Runs s) ∧
    -- CR_CHALLENGE
    (∃ (chal : Vector Word 4) (k : List Byte) (s : State), Runs s ∧ (chal.toList.getD 0 0).toNat < 2 ^ 31 ∧
     engineKey s 5 = some k) ∧
    -- CR_CHALLENGE
    (∃ (chal : Vector Word 4) (s : State), Runs s ∧ 2 ^ 31 ≤ (chal.toList.getD 0 0).toNat) ∧
    -- SEAL_CPS
    (∃ (p : Path) (root : List Byte) (s : State), Runs s ∧ privileged s p = true ∧ lc s = lcProvision ∧
     bit s fCpsSealed = false ∧ s.fuse.cps = none ∧ rootKey s = some root) ∧
    -- SEAL_CPS
    (∃ (p : Path) (s : State), Runs s ∧ privileged s p = false) :=
  ⟨⟨.spi, 1, 0x3C, up b0 [], by unfold Runs; decide +kernel⟩,
   ⟨.usb, 1, 0x3D, 4, up b0 [], by unfold Runs; decide +kernel⟩,
   ⟨.mgmt 7, up b0 [], by unfold Runs; decide +kernel⟩,
   ⟨.jtag, up b0 [(R.SEC_LC_STATUS, 0x10)], by unfold Runs; decide +kernel⟩,
   ⟨.usb, apSet .usb { authed := true } b0, by unfold Runs; decide +kernel⟩,
   meets_SecurityCommandsComplete_6,
   ⟨.usb, Vector.replicate 4 1, up b0 [], by unfold Runs; decide +kernel⟩,
   ⟨.usb, Vector.replicate 4 1, apSet .usb { fails := 2 } b0, by unfold Runs; decide +kernel⟩,
   ⟨.usb, apSet .usb { chal := some [1] } b0, by unfold Runs; decide +kernel⟩,
   ⟨.usb, apSet .usb { lockout := true, fails := 3 } b0, by unfold Runs; decide +kernel⟩,
   ⟨up b0 [(R.SEC_LC_STATUS, 0x3E)], by unfold Runs; decide +kernel⟩,
   ⟨Vector.replicate 4 0x7FFFFFFF, List.replicate 32 7, authWit, by unfold Runs; decide +kernel⟩,
   ⟨Vector.replicate 4 0x80000000, up b0 [], by unfold Runs; decide +kernel⟩,
   meets_SecurityCommandsComplete_14,
   ⟨.usb, up b0 [(R.SEC_STATUS, 0xA)], by unfold Runs; decide +kernel⟩⟩

theorem meets_KeyCommandsComplete_1 :
    ∃ (p : Path) (key : List Byte) (m : List Byte) (slot : Nat) (c : Nat) (s : State), Runs s ∧
    privileged s p = true ∧ lc s ≠ lcEnd ∧ m = bufBytes s (R.KEY_MSG 0) 32 ∧ msgCheck s m = (0, key) ∧
    slot = byteAt m 14 % 32 ∧ c = ofBE (sub m 12 2) := by
  exact ⟨.spi, [], msg, 0, 1, msgState, by unfold Runs; decide +kernel, by decide +kernel, by decide +kernel, msg_bytes.symm,
    msg_passes, rfl, rfl⟩

theorem meets_KeyCommandsComplete :
    -- KEY_SUBMIT
    (∃ (p : Path) (key : List Byte) (m : List Byte) (slot : Nat) (c : Nat) (s : State), Runs s ∧
     privileged s p = true ∧ lc s ≠ lcEnd ∧ m = bufBytes s (R.KEY_MSG 0) 32 ∧ msgCheck s m = (0, key) ∧
     slot = byteAt m 14 % 32 ∧ c = ofBE (sub m 12 2)) ∧
    -- KEY_LOAD_CLR
    (∃ (p : Path) (slot : BitVec 5) (s : State), Runs s ∧ privileged s p = true ∧ lc s ≠ lcEnd ∧
     bit s fLcBusy = false ∧ 28 ≤ slot.toNat ∧ getF s ⟨R.KEY_CLR_ATTR0, 0, 4⟩ < 6 ∧
     attrOk (getF s ⟨R.KEY_CLR_ATTR0, 0, 4⟩) (getF s ⟨R.KEY_CLR_ATTR0, 8, 6⟩) = true) ∧
    -- KEY_ERASE
    (∃ (p : Path) (slot : BitVec 5) (s : State), Runs s ∧ privileged s p = true ∧ lc s ≠ lcEnd ∧
     bit s fLcBusy = false) ∧
    -- KEY_ERASE
    (∃ (p : Path) (slot : BitVec 5) (s : State), Runs s ∧ privileged s p = false) ∧
    -- KEY_ENGINE_SELECT
    (∃ (p : Path) (e : Fin 8) (v : Word) (s : State), Runs s ∧ (v.toNat.testBit 8 = true ∨
     ((slotOf s (bits v.toNat 0 5)).master.testBit (pathNum p) && (slotOf s (bits v.toNat 0 5)).world.testBit (getF s ⟨R.KEY_WORLD, 0, 4⟩)) = true)) ∧
    -- KEY_ENGINE_SELECT
    (∃ (p : Path) (e : Fin 8) (v : Word) (s : State), Runs s ∧ v.toNat.testBit 8 = false ∧
     ((slotOf s (bits v.toNat 0 5)).master.testBit (pathNum p) && (slotOf s (bits v.toNat 0 5)).world.testBit (getF s ⟨R.KEY_WORLD, 0, 4⟩)) = false) :=
  ⟨meets_KeyCommandsComplete_1,
   ⟨.bar0, 31, { up b0 [(R.SEC_STATUS, 0xB), (R.KEY_CLR_ATTR0, 0x805), (R.KEY_CLR_ATTR1, 0x10002)] with buf := [(R.KEY_CLR_DATA 3, 5)] }, by unfold Runs; decide +kernel⟩,
   ⟨.spi, 0, setSlot 0 { valid := true, key := [1], dest := 2, lcMask := 8 } b0, by unfold Runs; decide +kernel⟩,
   ⟨.jtag, 0, up b0 [(R.SEC_STATUS, 0xB)], by unfold Runs; decide +kernel⟩,
   ⟨.spi, 7, 0xFF3, setSlot 19 { valid := true, key := [1], dest := 7, lcMask := 8, master := 8, world := 1 } b0, by unfold Runs; decide +kernel⟩,
   ⟨.usb, 0, 3, up b0 [], by unfold Runs; decide +kernel⟩⟩

theorem meets_RegisterWritesActByAccessType :
    -- REGISTER_WRITE
    (∃ (p : Path) (addr : Addr) (v : Word) (k : PageKind) (s : State), Awake s ∧ pathReaches s p addr.toNat = true ∧
     (mode s ≠ mStandby ∨ mirroredPage (addr.toNat / 0x1000) = false) ∧ addr.toNat % 0x1000 = 0x044 ∧
     pageKindOf (addr.toNat / 0x1000) = some k ∧ s.stopped.contains (addr.toNat / 0x1000) = false) ∧
    -- REGISTER_WRITE
    (∃ (p : Path) (addr : Addr) (v : Word) (k : PageKind) (r : RegRow) (c key : Nat) (s : State), Awake s ∧
     pathReaches s p addr.toNat = true ∧ Unpaired s ∧ (mode s ≠ mStandby ∨
     mirroredPage (addr.toNat / 0x1000) = false) ∧ pageKindOf (addr.toNat / 0x1000) = some k ∧
     s.stopped.contains (addr.toNat / 0x1000) = false ∧ addr.toNat % 4 = 0 ∧ 0x100 ≤ addr.toNat % 0x1000 ∧
     findRow k (addr.toNat % 0x1000) = some r ∧ selValue s (addr.toNat / 0x1000) r.sel = some c ∧
     key = regKey addr.toNat c ∧ keepEnable s k (addr.toNat / 0x1000) (addr.toNat % 0x1000) v = v ∧
     actingWrite p k (addr.toNat / 0x1000) (addr.toNat % 0x1000) v (clearOut s) = none) ∧
    -- REGISTER_WRITE
    (∃ (p : Path) (addr : Addr) (v : Word) (src : Nat) (s : State), Awake s ∧ s.stopped.contains 0x3 = false ∧
     (src = 87 ∨ 95 ≤ src ∧ src ≤ 99 ∨ src = 127) ∧ addr.toNat = R.FLT_SRC src) ∧
    -- REGISTER_WRITE
    (∃ (p : Path) (v : Word) (s : State), Awake s ∧ pathReaches s p 0x002100 = true ∧
     s.stopped.contains 0x2 = false ∧ privileged s p = false) ∧
    -- REGISTER_WRITE
    (∃ (p : Path) (addr : Addr) (v : Word) (k : PageKind) (s : State), Awake s ∧ pathReaches s p addr.toNat = true ∧
     mode s = mStandby ∧ privileged s p = true ∧ mirroredPage (addr.toNat / 0x1000) = true ∧ addr.toNat % 4 = 0 ∧
     pageKindOf (addr.toNat / 0x1000) = some k ∧ s.stopped.contains (addr.toNat / 0x1000) = false ∧
     configBits s k (addr.toNat / 0x1000) (addr.toNat % 0x1000) ≠ 0 ∧ actionBits k (addr.toNat % 0x1000) = 0) ∧
    -- COUNTER_LOW_WORD_READ
    (∃ (p : Path) (addr : Addr) (k : PageKind) (r : RegRow) (c key : Nat) (s : State), Awake s ∧
     pathReaches s p addr.toNat = true ∧ pageKindOf (addr.toNat / 0x1000) = some k ∧
     s.stopped.contains (addr.toNat / 0x1000) = false ∧ addr.toNat % 4 = 0 ∧ 0x100 ≤ addr.toNat % 0x1000 ∧
     bit s (fEnabled (addr.toNat / 0x1000)) = true ∧ findRow k (addr.toNat % 0x1000) = some r ∧
     selValue s (addr.toNat / 0x1000) r.sel = some c ∧ key = regKey addr.toNat c ∧ r.wide = true ∧
     (addr.toNat % 0x1000 - r.off) % 8 = 0 ∧ takingRead k (addr.toNat % 0x1000) (clearOut s) = none ∧
     computedRead p k (addr.toNat / 0x1000) (addr.toNat % 0x1000) (clearOut s) = none) ∧
    -- PAGE_ENABLE_WRITE
    (∃ (page : BitVec 12) (k : PageKind) (s : State), Runs s ∧ Unpaired s ∧ (mode s ≠ mStandby ∨
     mirroredPage page.toNat = false) ∧ pageKindOf page.toNat = some k ∧ (pageInfo k).gate = true ∧
     bit s (fEnabled page.toNat) = true ∧ pageIdle s k page.toNat = true) ∧
    -- PAGE_ENABLE_WRITE
    (∃ (page : BitVec 12) (k : PageKind) (s : State), Runs s ∧ Unpaired s ∧ (mode s ≠ mStandby ∨
     mirroredPage page.toNat = false) ∧ pageKindOf page.toNat = some k ∧ (pageInfo k).gate = true ∧
     bit s (fEnabled page.toNat) = false) ∧
    -- PAGE_ENABLE_WRITE
    (∃ (page : BitVec 12) (k : PageKind) (s : State), Runs s ∧ Unpaired s ∧ (mode s ≠ mStandby ∨
     mirroredPage page.toNat = false) ∧ pageKindOf page.toNat = some k ∧ (pageInfo k).gate = true ∧
     bit s (fEnabled page.toNat) = false ∧ blockCrossings page.toNat = [39] ∧ (xGet s 39).resyncing = false) ∧
    -- PAGE_LOCK
    (∃ (page : BitVec 12) (k : PageKind) (s : State), Runs s ∧ (mode s ≠ mStandby ∨
     mirroredPage page.toNat = false) ∧ pageKindOf page.toNat = some k ∧
     bit s (fEnable page.toNat) = bit s (fEnabled page.toNat)) :=
  ⟨⟨.usb, 0x90044, 77, .brg, up b0 [], by unfold Awake; decide +kernel⟩,
   ⟨.spi, 0x60140, 0x1234, .sch, (findRow .sch 0x140).getD { off := 0 }, 0, 0x60140, up b0 [], by unfold Awake Unpaired; decide +kernel⟩,
   ⟨.bar0, 0x3580, 0xFF, 96, up b0 [], by unfold Awake; decide +kernel⟩,
   ⟨.usb, 0xA5, up b0 [(R.SEC_STATUS, 3)], by unfold Awake; decide +kernel⟩,
   ⟨.spi, 0x60140, 7, .sch, up b0 [(R.DEV_MODE, 3)], by unfold Awake; decide +kernel⟩,
   ⟨.mgmt 9, R.FLT_RECORDS, .flt, (findRow .flt 0xA00).getD { off := 0 }, 0, R.FLT_RECORDS, up b0 [(R.FLT_RECORDS, 5), (R.FLT_RECORDS + 4, 6), (0x0300C, 1)], by unfold Awake; decide +kernel⟩,
   ⟨0x79, .mac, up b0 [], by unfold Runs Unpaired; decide +kernel⟩,
   ⟨0x7A, .mac, up b0 [(0x7A008, 0), (0x7A00C, 0)], by unfold Runs Unpaired; decide +kernel⟩,
   ⟨0x71, .doutDp, up b0 [(0x71008, 0), (0x7100C, 0)], by unfold Runs Unpaired; decide +kernel⟩,
   ⟨0x4, .sec, up b0 [], by unfold Runs; decide +kernel⟩⟩

theorem meets_RegisterAccessFramesComplete :
    -- MGMT_READ
    (∃ (f : List Byte) (rest : List (List Byte)) (p : Path) (tag : Nat) (d : Done) (u : State) (s : State), Awake s ∧
     s.mgmtQ = f :: rest ∧ byteAt f 2 = 1 ∧ mode s ≠ mService ∧ p = .mgmt (BitVec.ofNat 6 (byteAt f 1)) ∧
     tag = ofBE (sub f 8 2) ∧ ((smGet dReply s.mgmtLast (byteAt f 1 % 64)).map Prod.fst ≠ some tag) ∧
     frameOk f = true ∧ readWords p (frameAddrs f) { s with mgmtQ := rest, out := [] } = (d, u)) ∧
    -- MGMT_WRITE
    (∃ (f : List Byte) (rest : List (List Byte)) (p : Path) (tag : Nat) (d : Done) (u : State) (s : State), Awake s ∧
     s.mgmtQ = f :: rest ∧ byteAt f 2 = 2 ∧ mode s ≠ mService ∧ p = .mgmt (BitVec.ofNat 6 (byteAt f 1)) ∧
     tag = ofBE (sub f 8 2) ∧ ((smGet dReply s.mgmtLast (byteAt f 1 % 64)).map Prod.fst ≠ some tag) ∧
     frameOk f = true ∧ writeWords p (framePairs f) { s with mgmtQ := rest, out := [] } = (d, u)) ∧
    -- MGMT_WRITE_LIST
    (∃ (f : List Byte) (rest : List (List Byte)) (p : Path) (tag : Nat) (d : Done) (u : State) (s : State), Awake s ∧
     s.mgmtQ = f :: rest ∧ byteAt f 2 = 3 ∧ mode s ≠ mService ∧ p = .mgmt (BitVec.ofNat 6 (byteAt f 1)) ∧
     tag = ofBE (sub f 8 2) ∧ ((smGet dReply s.mgmtLast (byteAt f 1 % 64)).map Prod.fst ≠ some tag) ∧
     frameOk f = true ∧ writeWords p (framePairs f) { s with mgmtQ := rest, out := [] } = (d, u)) ∧
    -- MGMT_WRITE
    (∃ (f : List Byte) (rest : List (List Byte)) (p : Path) (tag : Nat) (r : List Byte) (s : State), Awake s ∧
     s.mgmtQ = f :: rest ∧ byteAt f 2 = 2 ∧ mode s ≠ mService ∧ p = .mgmt (BitVec.ofNat 6 (byteAt f 1)) ∧
     tag = ofBE (sub f 8 2) ∧ smGet dReply s.mgmtLast (byteAt f 1 % 64) = some (tag, r)) ∧
    -- MGMT_READ
    (∃ (f : List Byte) (rest : List (List Byte)) (p : Path) (tag : Nat)  (s : State), Awake s ∧
     s.mgmtQ = f :: rest ∧ byteAt f 2 = 1 ∧ mode s ≠ mService ∧ p = .mgmt (BitVec.ofNat 6 (byteAt f 1)) ∧
     tag = ofBE (sub f 8 2) ∧ ((smGet dReply s.mgmtLast (byteAt f 1 % 64)).map Prod.fst ≠ some tag) ∧
     frameOk f = false) ∧
    -- MB_TX_GO
    (∃ (len : BitVec 14) (f : List Byte) (s : State), Runs s ∧ mbBusy s = false ∧ 8 ≤ len.toNat ∧
     len.toNat ≤ s.mbTx.length * 4 ∧
     f = ((s.mbTx.flatMap (fun w => bytesLE 4 w.toNat)).take len.toNat).set 1 (BitVec.ofNat 8 (ownHid s)) ∧
     (byteAt f 2 = 0 ∨ 3 < byteAt f 2)) ∧
    -- MB_TX_GO
    (∃ (len : BitVec 14) (s : State), Runs s ∧ (mbBusy s = true ∨ len.toNat < 8 ∨ s.mbTx.length * 4 < len.toNat)) ∧
    -- MGMT_REPLY_DELIVERY
    (∃ (frame : List Byte) (s : State), Runs s ∧ byteAt frame 0 % 64 = ownHid s ∧ (byteAt frame 2 = 0x11 ∨
     byteAt frame 2 = 0x12) ∧ byteAt frame 8 < 128 ∧ s.mbRx.length + 1 + (wordsOf frame).length ≤ 1024) ∧
    -- MGMT_REPLY_DELIVERY
    (∃ (frame : List Byte) (s : State), Runs s ∧ byteAt frame 0 % 64 = ownHid s ∧ (byteAt frame 2 = 0x11 ∨
     byteAt frame 2 = 0x12) ∧ 128 ≤ byteAt frame 8 ∧ devOn s = true ∧ bit s fUsbConfigured = true ∧ gateState s ≠ 0) ∧
    -- MB_RX_READ
    (∃ (w : Word) (ws : List Word) (s : State), Runs s ∧ s.mbRx = w :: ws) ∧
    -- MB_RX_READ
    (∃ (s : State), Runs s ∧ s.mbRx = []) :=
  ⟨⟨[0, 5, 1, 0, 0, 0, 0, 0, 0, 1, 0, 2, 0, 0, 0, 0x44], [[1]], .mgmt 5, 1, (readWords (.mgmt 5) [0x44, 0x48] { b0 with mgmtQ := [[1]], out := [] }).1, (readWords (.mgmt 5) [0x44, 0x48] { b0 with mgmtQ := [[1]], out := [] }).2, { b0 with mgmtQ := [[0, 5, 1, 0, 0, 0, 0, 0, 0, 1, 0, 2, 0, 0, 0, 0x44], [1]] }, by unfold Awake; decide +kernel⟩,
   ⟨[0, 5, 2, 0, 0, 0, 0, 0, 0, 1, 1, 2, 0, 0, 0, 0x44, 0, 0, 0, 9, 0, 0, 0, 7], [[1]], .mgmt 5, 1, (writeWords (.mgmt 5) [(0x44, 9), (0x44, 7)] { b0 with mgmtQ := [[1]], out := [] }).1, (writeWords (.mgmt 5) [(0x44, 9), (0x44, 7)] { b0 with mgmtQ := [[1]], out := [] }).2, { b0 with mgmtQ := [[0, 5, 2, 0, 0, 0, 0, 0, 0, 1, 1, 2, 0, 0, 0, 0x44, 0, 0, 0, 9, 0, 0, 0, 7], [1]] }, by unfold Awake; decide +kernel⟩,
   ⟨[0, 5, 3, 0, 0, 0, 0, 0, 0, 1, 0, 2, 0, 0, 0, 0, 0, 0, 0, 0x44, 0, 0, 0, 9, 0, 6, 0, 0x44, 0, 0, 0, 7], [[1]], .mgmt 5, 1, (writeWords (.mgmt 5) [(0x44, 9), (0x60044, 7)] { b0 with mgmtQ := [[1]], out := [] }).1, (writeWords (.mgmt 5) [(0x44, 9), (0x60044, 7)] { b0 with mgmtQ := [[1]], out := [] }).2, { b0 with mgmtQ := [[0, 5, 3, 0, 0, 0, 0, 0, 0, 1, 0, 2, 0, 0, 0, 0, 0, 0, 0, 0x44, 0, 0, 0, 9, 0, 6, 0, 0x44, 0, 0, 0, 7], [1]] }, by unfold Awake; decide +kernel⟩,
   ⟨[0, 5, 2, 0, 0, 0, 0, 0, 0, 1, 1, 2, 0, 0, 0, 0x44, 0, 0, 0, 9, 0, 0, 0, 7], [[1]], .mgmt 5, 1, [0, 0, 0x12], { b0 with mgmtQ := [[0, 5, 2, 0, 0, 0, 0, 0, 0, 1, 1, 2, 0, 0, 0, 0x44, 0, 0, 0, 9, 0, 0, 0, 7], [1]], mgmtLast := [(5, some (1, [0, 0, 0x12]))] }, by unfold Awake; decide +kernel⟩,
   ⟨[0, 5, 1, 0, 0, 0, 0, 0, 0, 1, 0, 0, 0, 0, 0, 0x44], [[1]], .mgmt 5, 1, { b0 with mgmtQ := [[0, 5, 1, 0, 0, 0, 0, 0, 0, 1, 0, 0, 0, 0, 0, 0x44], [1]] }, by unfold Awake; decide +kernel⟩,
   ⟨8, [2, 9, 0x11, 0, 0, 0, 0, 0], { setAct R.DEV_HID 9 (setAct (R.TUN_HROUTE 2) 0x13 b0) with mbTx := [0x00110002, 0] }, by unfold Runs; decide +kernel⟩,
   ⟨7, { b0 with mbTx := [1, 2, 3] }, by unfold Runs; decide +kernel⟩,
   ⟨[0, 5, 0x12, 0, 0, 0, 0, 0, 0, 1, 0, 1], { setAct R.DEV_HID 0 b0 with mbRx := [7] }, by unfold Runs; decide +kernel⟩,
   ⟨[0, 5, 0x12, 0, 0, 0, 0, 0, 128, 1, 0, 1], { setAct R.DEV_HID 0 (up b0 [(R.USBD_CTRL, 9), (R.USB2_CTRL, 0x11), (R.USB2_STATUS, 3), (R.USBD_STATUS, 3)]) with usb := { b0.usb with up2 := 0, port8 := psEnabled } }, by unfold Runs; decide +kernel⟩,
   ⟨7, [8], { b0 with mbRx := [7, 8] }, by unfold Runs; decide +kernel⟩,
   ⟨up b0 [], by unfold Runs; decide +kernel⟩⟩

theorem meets_SpiAndSensorCommandsComplete :
    -- SPI_READ
    (∃ (addr : Addr) (n : BitVec 8) (s : State), Powered s ∧ addr.toNat % 4 = 0) ∧
    -- SPI_READ
    (∃ (addr : Addr) (k : PageKind) (s : State), Awake s ∧ addr.toNat % 0x1000 = 0x044 ∧
     pageKindOf (addr.toNat / 0x1000) = some k ∧ s.stopped.contains (addr.toNat / 0x1000) = false) ∧
    -- SPI_READ_FIXED
    (∃ (addr : Addr) (n : BitVec 8) (k : PageKind) (s : State), Awake s ∧ addr.toNat % 0x1000 = 0x044 ∧
     pageKindOf (addr.toNat / 0x1000) = some k ∧ s.stopped.contains (addr.toNat / 0x1000) = false) ∧
    -- SPI_READ_FIXED
    (∃ (addr : Addr) (n : BitVec 8) (s : State), Powered s ∧ addr.toNat % 4 = 0) ∧
    -- SPI_WRITE
    (∃ (addr : Addr) (words : List Word) (part : List Byte) (s : State), Powered s ∧ addr.toNat % 4 = 0) ∧
    -- SPI_WRITE
    (∃ (addr : Addr) (w : Word) (k : PageKind) (s : State), Awake s ∧ (mode s ≠ mStandby ∨
     mirroredPage (addr.toNat / 0x1000) = false) ∧ addr.toNat % 0x1000 = 0x044 ∧
     pageKindOf (addr.toNat / 0x1000) = some k ∧ s.stopped.contains (addr.toNat / 0x1000) = false) ∧
    -- SPI_WRITE_FIXED
    (∃ (addr : Addr) (words : List Word) (w : Word) (part : List Byte) (k : PageKind) (s : State), Awake s ∧
     (mode s ≠ mStandby ∨ mirroredPage (addr.toNat / 0x1000) = false) ∧ addr.toNat % 0x1000 = 0x044 ∧
     pageKindOf (addr.toNat / 0x1000) = some k ∧ s.stopped.contains (addr.toNat / 0x1000) = false) ∧
    -- SPI_WRITE_FIXED
    (∃ (addr : Addr) (words : List Word) (part : List Byte) (s : State), Powered s ∧ addr.toNat % 4 ≠ 0) ∧
    -- SPI_STATUS
    (∃ (s : State), Powered s) ∧
    -- SPI_CS_RISE
    (∃ (s : State), Powered s) ∧
    -- SPI_CS_RISE
    (∃ (s : State), Powered s) ∧
    -- DIE_TEMP_SAMPLE
    (∃ (hubT powerT : BitVec 16) (warn : Int) (s : State), Runs s ∧
     warn = (getF s ⟨R.DEV_TJ_WARN, 0, 8⟩ : Nat) * 10 ∧ hubT.toInt ≤ warn ∧ powerT.toInt ≤ warn ∧
     hubT.toInt < 1200 ∧ powerT.toInt < 1200) ∧
    -- DIE_TEMP_SAMPLE
    (∃ (hubT powerT : BitVec 16) (warn : Int) (s : State), Runs s ∧
     warn = (getF s ⟨R.DEV_TJ_WARN, 0, 8⟩ : Nat) * 10 ∧ warn < hubT.toInt ∧ s.sense.warnHub = false ∧
     powerT.toInt ≤ warn ∧ hubT.toInt < 1200 ∧ powerT.toInt < 1200) ∧
    -- SUPPLY_WINDOW_EXIT
    (∃ (rail : Fin 7) (s : State), Runs s ∧ bit s ⟨R.DEV_SUPPLY, rail, 1⟩ = true) ∧
    -- SUPPLY_WINDOW_RETURN
    (∃ (rail : Fin 7) (s : State), Runs s) :=
  ⟨⟨0x044, 3, up b0 [], by unfold Powered; decide +kernel⟩,
   ⟨0x60044, .sch, up b0 [(0x60044, 9)], by unfold Awake; decide +kernel⟩,
   ⟨0x60044, 3, .sch, up b0 [(0x60044, 9)], by unfold Awake; decide +kernel⟩,
   ⟨0x044, 255, up b0 [], by unfold Powered; decide +kernel⟩,
   ⟨0xFFFFFC, [1, 2], [3], up b0 [], by unfold Powered; decide +kernel⟩,
   ⟨0x60044, 9, .sch, up b0 [], by unfold Awake; decide +kernel⟩,
   ⟨0x60044, [9], 8, [1, 2, 3, 4], .sch, up b0 [], by unfold Awake; decide +kernel⟩,
   ⟨0x45, [9], [], up b0 [], by unfold Powered; decide +kernel⟩,
   ⟨{ b0 with spi := { err := true } }, by unfold Powered; decide +kernel⟩,
   ⟨{ b0 with spi := { part := [1] } }, by unfold Powered; decide +kernel⟩,
   ⟨{ b0 with spi := { part := [1] } }, by unfold Powered; decide +kernel⟩,
   ⟨0xFF00, 700, 800, { up b0 [(R.DEV_TJ_WARN, 80)] with sense := { warnHub := true, warnPower := true } }, by unfold Runs; decide +kernel⟩,
   ⟨801, 700, 800, up b0 [(R.DEV_TJ_WARN, 80)], by unfold Runs; decide +kernel⟩,
   ⟨6, up b0 [], by unfold Runs; decide +kernel⟩,
   ⟨6, up b0 [(R.DEV_SUPPLY, 0)], by unfold Runs; decide +kernel⟩⟩

theorem meets_HostPathCommandsComplete_12 :
    ∃ (frame f : List Byte) (run : Bool) (r : List Byte) (u : State) (s : State), Awake s ∧ devOn s = true ∧
    bit s fUsbConfigured = true ∧ bit s fOutHalt = false ∧ gateState s = 1 ∧ 1 ≤ byteAt frame 2 ∧
    byteAt frame 2 ≤ 3 ∧ f = frame.set 8 (BitVec.ofNat 8 (byteAt frame 8 % 128 + 128)) ∧
    byteAt f 0 % 64 = ownHid s ∧
    answerFrame .usb f { bump R.USBD_EP3_FRAMES s with usb := { s.usb with toggle := smSet (fun _ => false) s.usb.toggle 3 (!toggleGet s 3) }, out := [.usb 0xD2 []] } = (run, r, u) := by
  obtain ⟨r, u, h⟩ : ∃ r u, answerFrame .usb [0, 5, 1, 0, 0, 0, 0, 0, 128, 1, 0, 2, 0, 0, 0, 0x44] ep3Wit = (true, r, u) :=
    pair_fst (by decide +kernel)
  exact ⟨[0, 5, 1, 0, 0, 0, 0, 0, 0, 1, 0, 2, 0, 0, 0, 0x44], _, true, r, u,
    ep3State, by unfold Awake; decide +kernel, by decide +kernel, by decide +kernel, by decide +kernel, by decide +kernel,
    by decide, by decide, rfl, by decide +kernel, h⟩

theorem meets_HostPathCommandsComplete :
    -- BAR0_REQUEST
    (∃ (tag : Byte) (off : Addr) (v : Word) (s : State), Runs s ∧ upstreamUp s = true ∧ off.toNat % 4 = 0) ∧
    -- BAR0_REQUEST
    (∃ (tag : Byte) (addr : Addr) (v : Word) (k : PageKind) (s : State), Awake s ∧ upIsTunnel s = false ∧
     upstreamUp s = true ∧ (mode s ≠ mStandby ∨ mirroredPage (addr.toNat / 0x1000) = false) ∧
     addr.toNat % 0x1000 = 0x044 ∧ pageKindOf (addr.toNat / 0x1000) = some k ∧
     s.stopped.contains (addr.toNat / 0x1000) = false) ∧
    -- BAR0_REQUEST
    (∃ (tag : Byte) (addr : Addr) (k : PageKind) (s : State), Awake s ∧ upIsTunnel s = false ∧
     bit s (fDlUp 0) = true ∧ addr.toNat % 0x1000 = 0x044 ∧ pageKindOf (addr.toNat / 0x1000) = some k ∧
     s.stopped.contains (addr.toNat / 0x1000) = false) ∧
    -- BAR0_REQUEST
    (∃ (tag : Byte) (off : Addr) (be : BitVec 4) (dws : BitVec 10) (s : State), Runs s ∧ upIsTunnel s = false ∧
     bit s (fDlUp 0) = true ∧ (off.toNat % 4 ≠ 0 ∨ be ≠ 15 ∨ dws ≠ 1)) ∧
    -- REG_READ_REQUEST
    (∃ (addr : Addr) (k : PageKind) (s : State), Awake s ∧ devOn s = true ∧ bit s fUsbConfigured = true ∧
     s.usb.held = none ∧ gateState s ≠ 0 ∧ addr.toNat % 0x1000 = 0x044 ∧ pageKindOf (addr.toNat / 0x1000) = some k ∧
     s.stopped.contains (addr.toNat / 0x1000) = false) ∧
    -- REG_READ_REQUEST
    (∃ (addr : Addr) (a : Access) (v : Word) (u : State) (s : State), Awake s ∧ devOn s = true ∧
     bit s fUsbConfigured = true ∧ s.usb.held = none ∧ gateState s ≠ 0 ∧ addr.toNat % 4 = 0 ∧
     readReg .usb addr.toNat { s with usb := { s.usb with applied := false }, out := [] } = (a, v, u)) ∧
    -- REG_WRITE_REQUEST
    (∃ (addr : Addr) (v : Word) (s : State), Runs s ∧ devOn s = true ∧ bit s fUsbConfigured = true ∧
     s.usb.held = none ∧ gateState s = 1 ∧ addr.toNat % 4 = 0) ∧
    -- REG_WRITE_STATUS_STAGE
    (∃ (s : State), Runs s ∧ s.usb.held ≠ none) ∧
    -- REG_WRITE_STATUS_STAGE
    (∃ (s : State), Runs s ∧ s.usb.held = none ∧ s.usb.applied = true) ∧
    -- REG_WRITE_STATUS_STAGE
    (∃ (addr : Addr) (v : Word) (k : PageKind) (s : State), Awake s ∧ (mode s ≠ mStandby ∨
     mirroredPage (addr.toNat / 0x1000) = false) ∧ s.usb.zlpSent = true ∧ s.usb.held = some (addr.toNat, v) ∧
     addr.toNat % 0x1000 = 0x044 ∧ pageKindOf (addr.toNat / 0x1000) = some k ∧
     s.stopped.contains (addr.toNat / 0x1000) = false) ∧
    -- REG_WRITE_STATUS_STAGE
    (∃ (s : State), Runs s ∧ s.usb.held ≠ none ∧ s.usb.zlpSent = false) ∧
    -- EP3_OUT_FRAME
    (∃ (frame f : List Byte) (run : Bool) (r : List Byte) (u : State) (s : State), Awake s ∧ devOn s = true ∧
     bit s fUsbConfigured = true ∧ bit s fOutHalt = false ∧ gateState s = 1 ∧ 1 ≤ byteAt frame 2 ∧
     byteAt frame 2 ≤ 3 ∧ f = frame.set 8 (BitVec.ofNat 8 (byteAt frame 8 % 128 + 128)) ∧
     byteAt f 0 % 64 = ownHid s ∧
     answerFrame .usb f { bump R.USBD_EP3_FRAMES s with usb := { s.usb with toggle := smSet (fun _ => false) s.usb.toggle 3 (!toggleGet s 3) }, out := [.usb 0xD2 []] } = (run, r, u)) ∧
    -- EP3_OUT_FRAME
    (∃ (frame : List Byte) (s : State), Runs s ∧ devOn s = true ∧ bit s fUsbConfigured = true ∧
     bit s fOutHalt = false) ∧
    -- EP1_IN_TOKEN
    (∃ (s : State), Runs s ∧ devOn s = true ∧ bit s fUsbConfigured = true ∧ bit s ⟨R.USBD_STATUS, 7, 1⟩ = false ∧
     ep1Status s ≠ s.usb.ep1Last) ∧
    -- EP1_IN_TOKEN
    (∃ (s : State), Runs s ∧ devOn s = true ∧ bit s fUsbConfigured = true ∧ bit s ⟨R.USBD_STATUS, 7, 1⟩ = false ∧
     ep1Status s = s.usb.ep1Last) ∧
    -- EP2_IN_TOKEN
    (∃ (s : State), Runs s ∧ devOn s = true ∧ bit s fUsbConfigured = true ∧ s.usb.alt1 = true ∧ s.usb.ep2 ≠ []) ∧
    -- USB_BUS_RESET
    (∃ (s : State), Runs s ∧ bit s fEn2 = true ∧ s.usb.held = none) ∧
    -- CLEAR_ENDPOINT_HALT
    (∃ (e : Fin 4) (s : State), Runs s ∧ devOn s = true ∧ bit s fUsbConfigured = true ∧ s.usb.held = none) ∧
    -- SET_CONFIGURATION
    (∃ (addr : BitVec 7) (config : Byte) (s : State), Runs s ∧ devOn s = true ∧ s.usb.held = none ∧ config.toNat ≤ 1) ∧
    -- SET_INTERFACE
    (∃ (alt : Byte) (s : State), Runs s ∧ devOn s = true ∧ bit s fUsbConfigured = true ∧ s.usb.held = none ∧
     alt.toNat ≤ 1) :=
  ⟨⟨5, 0x60140, 9, up b0 [(R.PCIE_STATUS 0, 1), (R.PSW_CTRL, 0)], by unfold Runs; decide +kernel⟩,
   ⟨5, 0x60044, 9, .sch, up b0 [(R.PCIE_STATUS 0, 0x3FF), (R.PSW_CTRL, 0)], by unfold Awake; decide +kernel⟩,
   ⟨5, 0x60044, .sch, up b0 [(R.PCIE_STATUS 0, 0x3FF), (R.PSW_CTRL, 0), (0x60044, 9)], by unfold Awake; decide +kernel⟩,
   ⟨5, 0x60140, 14, 1, up b0 [(R.PCIE_STATUS 0, 1), (R.PSW_CTRL, 0)], by unfold Runs; decide +kernel⟩,
   ⟨0x60044, .sch, { up b0 [(R.USBD_CTRL, 9), (R.USB2_CTRL, 0x11), (R.USB2_STATUS, 3), (R.USBD_STATUS, 3), (0x60044, 9)] with usb := { b0.usb with up2 := 0, port8 := psEnabled } }, by unfold Awake; decide +kernel⟩,
   ⟨0x60144, (readReg .usb 0x60144 { { { up b0 [(R.USBD_CTRL, 9), (R.USB2_CTRL, 0x11), (R.USB2_STATUS, 3), (R.USBD_STATUS, 3)] with usb := { b0.usb with up2 := 0, port8 := psEnabled } } with usb := { { up b0 [(R.USBD_CTRL, 9), (R.USB2_CTRL, 0x11), (R.USB2_STATUS, 3), (R.USBD_STATUS, 3)] with usb := { b0.usb with up2 := 0, port8 := psEnabled } }.usb with applied := false } } with out := [] }).1, (readReg .usb 0x60144 { { { up b0 [(R.USBD_CTRL, 9), (R.USB2_CTRL, 0x11), (R.USB2_STATUS, 3), (R.USBD_STATUS, 3)] with usb := { b0.usb with up2 := 0, port8 := psEnabled } } with usb := { { up b0 [(R.USBD_CTRL, 9), (R.USB2_CTRL, 0x11), (R.USB2_STATUS, 3), (R.USBD_STATUS, 3)] with usb := { b0.usb with up2 := 0, port8 := psEnabled } }.usb with applied := false } } with out := [] }).2.1, (readReg .usb 0x60144 { { { up b0 [(R.USBD_CTRL, 9), (R.USB2_CTRL, 0x11), (R.USB2_STATUS, 3), (R.USBD_STATUS, 3)] with usb := { b0.usb with up2 := 0, port8 := psEnabled } } with usb := { { up b0 [(R.USBD_CTRL, 9), (R.USB2_CTRL, 0x11), (R.USB2_STATUS, 3), (R.USBD_STATUS, 3)] with usb := { b0.usb with up2 := 0, port8 := psEnabled } }.usb with applied := false } } with out := [] }).2.2, { up b0 [(R.USBD_CTRL, 9), (R.USB2_CTRL, 0x11), (R.USB2_STATUS, 3), (R.USBD_STATUS, 3)] with usb := { b0.usb with up2 := 0, port8 := psEnabled } }, by unfold Awake; decide +kernel⟩,
   ⟨0x60044, 9, { up b0 [(R.USBD_CTRL, 9), (R.USB2_CTRL, 0x11), (R.USB2_STATUS, 3), (R.USBD_STATUS, 3)] with usb := { b0.usb with up2 := 0, port8 := psEnabled } }, by unfold Runs; decide +kernel⟩,
   ⟨{ b0 with usb := { held := some (0x60044, 9) } }, by unfold Runs; decide +kernel⟩,
   ⟨{ b0 with usb := { applied := true } }, by unfold Runs; decide +kernel⟩,
   ⟨0x60044, 9, .sch, { b0 with usb := { held := some (0x60044, 9), zlpSent := true } }, by unfold Awake; decide +kernel⟩,
   ⟨{ b0 with usb := { held := some (0x60044, 9) } }, by unfold Runs; decide +kernel⟩,
   meets_HostPathCommandsComplete_12,
   ⟨[1], { up b0 [(R.USBD_CTRL, 9), (R.USB2_CTRL, 0x11), (R.USB2_STATUS, 3), (R.USBD_STATUS, 3)] with usb := { b0.usb with up2 := 0, port8 := psEnabled } }, by unfold Runs; decide +kernel⟩,
   ⟨{ up b0 [(R.USBD_CTRL, 9), (R.USB2_CTRL, 0x11), (R.USB2_STATUS, 3), (R.USBD_STATUS, 3)] with usb := { b0.usb with up2 := 0, port8 := psEnabled } }, by unfold Runs; decide +kernel⟩,
   ⟨{ { up b0 [(R.USBD_CTRL, 9), (R.USB2_CTRL, 0x11), (R.USB2_STATUS, 3), (R.USBD_STATUS, 3)] with usb := { b0.usb with up2 := 0, port8 := psEnabled } } with usb := { b0.usb with up2 := 0, port8 := psEnabled, ep1Last := ep1Status ({ up b0 [(R.USBD_CTRL, 9), (R.USB2_CTRL, 0x11), (R.USB2_STATUS, 3), (R.USBD_STATUS, 3)] with usb := { b0.usb with up2 := 0, port8 := psEnabled } }) } }, by unfold Runs; decide +kernel⟩,
   ⟨{ { up b0 [(R.USBD_CTRL, 9), (R.USB2_CTRL, 0x11), (R.USB2_STATUS, 3), (R.USBD_STATUS, 3)] with usb := { b0.usb with up2 := 0, port8 := psEnabled } } with usb := { b0.usb with up2 := 0, port8 := psEnabled, alt1 := true, ep2 := [{ sec := 1, ns := 2, source := 3, kindEdge := 4, seq := 5, detail := 6 }] } }, by unfold Runs; decide +kernel⟩,
   ⟨apSet .usb { authed := true } ({ up b0 [(R.USBD_CTRL, 9), (R.USB2_CTRL, 0x11), (R.USB2_STATUS, 3), (R.USBD_STATUS, 3)] with usb := { b0.usb with up2 := 0, port8 := psEnabled } }), by unfold Runs; decide +kernel⟩,
   ⟨2, { up b0 [(R.USBD_CTRL, 9), (R.USB2_CTRL, 0x11), (R.USB2_STATUS, 3), (R.USBD_STATUS, 0x383)] with usb := { b0.usb with up2 := 0, port8 := psEnabled } }, by unfold Runs; decide +kernel⟩,
   ⟨9, 0, apSet .usb { authed := true } ({ up b0 [(R.USBD_CTRL, 9), (R.USB2_CTRL, 0x11), (R.USB2_STATUS, 3), (R.USBD_STATUS, 3)] with usb := { b0.usb with up2 := 0, port8 := psEnabled } }), by unfold Runs; decide +kernel⟩,
   ⟨1, { up b0 [(R.USBD_CTRL, 9), (R.USB2_CTRL, 0x11), (R.USB2_STATUS, 3), (R.USBD_STATUS, 3)] with usb := { b0.usb with up2 := 0, port8 := psEnabled } }, by unfold Runs; decide +kernel⟩⟩

theorem meets_ModeChangesShowTheirModeAndCause :
    -- MODE_TRANSITION_COMPLETE
    (∃ (p : Path) (s : State), Runs s ∧ s.modes.req = some ⟨mSolo, p⟩ ∧ mode s = mCold ∧
     requestCheck s ⟨mSolo, p⟩ = 0) ∧
    -- ISLAND_GRACE_EXPIRY
    (∃ (s : State), Runs s ∧ islandArmed s = true ∧ (getA s fUpstream ≤ 3 ∨ getA s fUpstream = 5) ∧
     upstreamThere s (getA s fUpstream) = false ∧ graceStart s (getA s fUpstream) + graceTicks s ≤ s.ticks ∧
     bit s fReqBusy = s.modes.req.isSome) ∧
    -- HOST_WATCHDOG_EXPIRY
    (∃ (s : State), Runs s ∧ islandArmed s = true ∧ wdogTicks s ≠ 0 ∧ s.modes.wdogTick + wdogTicks s ≤ s.ticks ∧
     bit s fReqBusy = s.modes.req.isSome) :=
  ⟨⟨.spi, { setAct R.SEC_STATUS 0 (up b0 [(R.DEV_HID, 0x100), (R.RST_STATUS, 1), (R.DEV_MODE, 0x5001050), (R.SEC_LC_STATUS, 0), (R.SEC_STATUS, 3)]) with modes := { b0.modes with req := some ⟨mSolo, .spi⟩ } }, by unfold Runs; decide +kernel⟩,
   ⟨{ setAct R.DEV_ISLAND_CTRL 1 (up b0 [(R.DEV_MODE, 1)]) with ticks := 2000000000 }, by unfold Runs; decide +kernel⟩,
   ⟨{ setAct R.DEV_ISLAND_WDOG 1 (setAct R.DEV_ISLAND_CTRL 1 (up b0 [(R.DEV_MODE, 1)])) with ticks := b0.modes.wdogTick + 250000 }, by unfold Runs; decide +kernel⟩⟩

theorem meets_CommitsMakeTheStagedSetAct :
    -- DEV_COMMIT
    (∃ (k : Nat) (s : State), Runs s ∧ mode s ≠ mStandby ∧ (mode s = mCold ∨
     getF s ⟨R.DEV_HID, 0, 6⟩ = getA s ⟨R.DEV_HID, 0, 6⟩) ∧ k ∈ devKeys ∧ k ≠ R.DEV_ISLAND_CTRL) ∧
    -- TUN_COMMIT
    (∃ (k : Nat) (s : State), Runs s ∧ tunCheck s = none ∧ k ∈ tunRegs) ∧
    -- SCH_COMMIT
    (∃ (m : Mort) (k : Nat) (s : State), Runs s ∧ m.val < 14 ∧ mode s ≠ mStandby ∧
     firstTwice (attached s m) = none ∧ (gatesOf m).find? (fun g => gateBad (schedOf (reg s) g)) = none ∧
     admissionSum s m (reg s) ≤ admissionLimit (checkLevel s) ∧ k ∈ schRegs m) :=
  ⟨⟨R.DEV_ISLAND_WDOG, up b0 [(R.DEV_ISLAND_WDOG, 9)], by unfold Runs; decide +kernel⟩,
   ⟨R.TUN_SUB 7, up b0 [(R.TUN_SUB 7, 0x11)], by unfold Runs; decide +kernel⟩,
   ⟨5, R.SCH_SUB 5 1, up b0 [(R.SCH_SUB 5 1, 2)], by unfold Runs; decide +kernel⟩⟩

theorem meets_HoldExpiryTearsDownAndCounts :
    ∃ (n : Port) (k : Nat) (u : State) (s : State), Runs s ∧ holdRuns s n = true ∧
    teardownHeld n (stopHold n (clearOut s)) = (k, u) :=
  ⟨1, (teardownHeld 1 (stopHold 1 (clearOut (lSet 1 { lGet b0 1 with holding := true } b0)))).1, (teardownHeld 1 (stopHold 1 (clearOut (lSet 1 { lGet b0 1 with holding := true } b0)))).2, lSet 1 { lGet b0 1 with holding := true } b0, by unfold Runs; decide +kernel⟩

theorem meets_IdleStepChangesNothing :
    ∃ s : State, s.pending = [] :=
  ⟨State.reset, rfl⟩

theorem meets_WithoutTheHubDieNothingHappens :
    ∃ (c : Instr) (s : State), ofPowerDie c = false ∧ hubRuns s = false :=
  ⟨.hostKick, State.reset, rfl, by decide +kernel⟩

theorem meets_WithoutVddAoNothingHappens :
    ∃ (c : Instr) (s : State), (∀ straps high, c ≠ .powerOnReset straps high) ∧ c ≠ .vddAoPowerLoss ∧ s.pwr.on = false :=
  ⟨.hostKick, { State.reset with pwr := { on := false } }, fun _ _ h => Instr.noConfusion h, fun h => Instr.noConfusion h, rfl⟩

theorem meets_AntifuseOnlyMovesForward :
    ∃ (f : Fuse) (s t : State), fuseLe f s.fuse ∧ step s = .next t :=
  ⟨{ lc := 1 }, { State.reset with fuse := { lc := 2 } }, { State.reset with fuse := { lc := 2 } },
    ⟨by decide, by decide, fun _ h => by cases h⟩, rfl⟩

theorem meets_PpsInEdgesAreStamped :
    -- PPS_IN_EDGE
    (∃ (falling : Bool) (phase : Fin 8) (p : Plumb) (s : State), Runs s ∧ bit s ⟨R.TIME_PPS_CTRL, 2, 1⟩ = true ∧
     bit s ⟨R.TIME_PPS_CTRL, 3, 1⟩ = falling ∧ p = pinStamp phase s) ∧
    -- PPS_IN_EDGE
    (∃ (falling : Bool) (phase : Fin 8) (s : State), Runs s ∧ (bit s ⟨R.TIME_PPS_CTRL, 2, 1⟩ = false ∨
     bit s ⟨R.TIME_PPS_CTRL, 3, 1⟩ ≠ falling)) :=
  ⟨⟨true, 3, pinStamp 3 { b0 with plumb := { b0.plumb with sec := 7, ns := 600000000 } }, { up b0 [(R.TIME_PPS_CTRL, 12)] with plumb := { b0.plumb with sec := 7, ns := 600000000 } }, by unfold Runs; decide +kernel⟩,
   ⟨true, 0, up b0 [(R.TIME_PPS_CTRL, 4)], by unfold Runs; decide +kernel⟩⟩

theorem meets_EngineNamesNeedMasterAndWorld :
    -- KEY_ENGINE_SELECT
    (∃ (p : Path) (e : Fin 8) (v : Word) (w : Slot) (s : State), Runs s ∧ v.toNat.testBit 8 = false ∧
     w = slotOf s (bits v.toNat 0 5) ∧ (w.master.testBit (pathNum p) = false ∨
     w.world.testBit (getF s ⟨R.KEY_WORLD, 0, 4⟩) = false)) ∧
    -- KEY_ENGINE_SELECT
    (∃ (p : Path) (e : Fin 8) (v : Word) (w : Slot) (s : State), Runs s ∧ v.toNat.testBit 8 = false ∧
     w = slotOf s (bits v.toNat 0 5) ∧ w.master.testBit (pathNum p) = true ∧
     w.world.testBit (getF s ⟨R.KEY_WORLD, 0, 4⟩) = true) :=
  ⟨⟨.usb, 0, 3, {}, up b0 [], by unfold Runs; decide +kernel⟩,
   ⟨.spi, 7, 19, { valid := true, key := [1], dest := 7, lcMask := 8, master := 8, world := 1 }, setSlot 19 { valid := true, key := [1], dest := 7, lcMask := 8, master := 8, world := 1 } b0, by unfold Runs; decide +kernel⟩⟩

theorem meets_TunnelSetsTakeEffectTogether :
    -- FWD_COMMIT
    (∃ (k : Nat) (s : State), Runs s ∧ mode s ≠ mStandby ∧ k ∈ fwdRegs) ∧
    -- FWD_COMMIT
    (∃ (k : Nat) (s : State), Runs s ∧ mode s = mStandby) ∧
    -- REGISTER_WRITE
    (∃ (k : Nat) (v : Word) (p : Path) (addr : Addr) (s : State), Awake s ∧ Unpaired s ∧ mode s ≠ mStandby ∧
     s.stopped.contains 0x7D = false ∧ addr.toNat ∈ fwdRegs) :=
  ⟨⟨0x7D420, up b0 [(0x7D420, 0x12345678), (0x7D024, 2)], by unfold Runs; decide +kernel⟩,
   ⟨0x7D200, up b0 [(R.DEV_MODE, 3)], by unfold Runs; decide +kernel⟩,
   ⟨0x7D420, 5, .spi, 0x7D420, up b0 [], by unfold Awake Unpaired; decide +kernel⟩⟩

theorem meets_DozeKeepsTheModeAndWakesArriveCold :
    -- S1_ENTRY
    (∃ (s : State), Runs s ∧ s.pwr.entry = 1 ∧ queuesEmpty s = true ∧ streamsEmpty s = true ∧
     bit s fChanging = false ∧ bit s fDoze = false ∧ mode s ≠ mService) ∧
    -- S1_EXIT
    (∃ (s : State), Runs s ∧ bit s fDoze = true) ∧
    -- SLEEP_ENTRY_COMPLETE
    (∃ (edges : BitVec 9) (s : State), Runs s ∧ s.pwr.entry = 3 ∧ (s.pwr.target = 2 ∨ s.pwr.target = 3)) ∧
    -- WAKE_RESET_DONE
    (∃ (held_ : BitVec 8) (puf : Fin 4) (fuseBad : Bool) (s : State), Powered s ∧ s.pwr.step = .wipe ∧
     bit s fWaking = true ∧ s.pwr.resetLow = false ∧ mode s = mCold) :=
  ⟨⟨{ up b0 [(R.DEV_MODE, 1), (R.PM_STATUS, 0x400)] with pwr := { b0.pwr with entry := 1, target := 1 } }, by unfold Runs; decide +kernel⟩,
   ⟨up b0 [(R.AO_STATUS, 1), (R.PM_STATUS, 0x200), (R.PM_SLEEP_CTRL, 0x200)], by unfold Runs; decide +kernel⟩,
   ⟨3, { up b0 [(R.PM_SLEEP_CTRL, 3), (R.DEV_MODE, 1)] with pwr := { b0.pwr with entry := 3, target := 2 } }, by unfold Runs; decide +kernel⟩,
   ⟨0, 1, true, { up b0 [(R.AO_STATUS, 0xEA), (R.DEV_MODE, 0)] with pwr := { b0.pwr with step := .wipe, failed := true, resetLow := false } }, by unfold Powered; decide +kernel⟩⟩

theorem meets_RepeatedTagsAreNotExecutedAgain :
    -- MGMT_READ
    (∃ (f : List Byte) (rest : List (List Byte)) (p : Path) (tag : Nat) (r : List Byte) (u : State) (s : State), Runs s ∧
     s.mgmtQ = f :: rest ∧ byteAt f 2 = 1 ∧ mode s ≠ mService ∧ p = .mgmt (BitVec.ofNat 6 (byteAt f 1)) ∧
     tag = ofBE (sub f 8 2) ∧ (smGet dReply s.mgmtLast (byteAt f 1 % 64)).map Prod.fst ≠ some tag ∧
     runFrame p f { s with mgmtQ := rest, out := [] } = (r, u)) ∧
    -- MGMT_WRITE
    (∃ (f : List Byte) (rest : List (List Byte)) (p : Path) (tag : Nat) (r : List Byte) (u : State) (s : State), Runs s ∧
     s.mgmtQ = f :: rest ∧ byteAt f 2 = 2 ∧ mode s ≠ mService ∧ p = .mgmt (BitVec.ofNat 6 (byteAt f 1)) ∧
     tag = ofBE (sub f 8 2) ∧ (smGet dReply s.mgmtLast (byteAt f 1 % 64)).map Prod.fst ≠ some tag ∧
     runFrame p f { s with mgmtQ := rest, out := [] } = (r, u)) ∧
    -- MGMT_WRITE_LIST
    (∃ (f : List Byte) (rest : List (List Byte)) (p : Path) (tag : Nat) (r : List Byte) (u : State) (s : State), Runs s ∧
     s.mgmtQ = f :: rest ∧ byteAt f 2 = 3 ∧ mode s ≠ mService ∧ p = .mgmt (BitVec.ofNat 6 (byteAt f 1)) ∧
     tag = ofBE (sub f 8 2) ∧ (smGet dReply s.mgmtLast (byteAt f 1 % 64)).map Prod.fst ≠ some tag ∧
     runFrame p f { s with mgmtQ := rest, out := [] } = (r, u)) ∧
    -- MGMT_READ
    (∃ (f : List Byte) (rest : List (List Byte)) (p : Path) (tag : Nat) (r : List Byte) (s : State), Runs s ∧
     s.mgmtQ = f :: rest ∧ byteAt f 2 = 1 ∧ mode s ≠ mService ∧ p = .mgmt (BitVec.ofNat 6 (byteAt f 1)) ∧
     tag = ofBE (sub f 8 2) ∧ smGet dReply s.mgmtLast (byteAt f 1 % 64) = some (tag, r)) ∧
    -- MGMT_WRITE
    (∃ (f : List Byte) (rest : List (List Byte)) (p : Path) (tag : Nat) (r : List Byte) (s : State), Runs s ∧
     s.mgmtQ = f :: rest ∧ byteAt f 2 = 2 ∧ mode s ≠ mService ∧ p = .mgmt (BitVec.ofNat 6 (byteAt f 1)) ∧
     tag = ofBE (sub f 8 2) ∧ smGet dReply s.mgmtLast (byteAt f 1 % 64) = some (tag, r)) ∧
    -- MGMT_WRITE_LIST
    (∃ (f : List Byte) (rest : List (List Byte)) (p : Path) (tag : Nat) (r : List Byte) (s : State), Runs s ∧
     s.mgmtQ = f :: rest ∧ byteAt f 2 = 3 ∧ mode s ≠ mService ∧ p = .mgmt (BitVec.ofNat 6 (byteAt f 1)) ∧
     tag = ofBE (sub f 8 2) ∧ smGet dReply s.mgmtLast (byteAt f 1 % 64) = some (tag, r)) :=
  ⟨⟨[0, 5, 1, 0, 0, 0, 0, 0, 0, 1, 0, 2, 0, 0, 0, 0x44], [[1]], .mgmt 5, 1, (runFrame (.mgmt 5) [0, 5, 1, 0, 0, 0, 0, 0, 0, 1, 0, 2, 0, 0, 0, 0x44] { b0 with mgmtQ := [[1]], out := [] }).1, (runFrame (.mgmt 5) [0, 5, 1, 0, 0, 0, 0, 0, 0, 1, 0, 2, 0, 0, 0, 0x44] { b0 with mgmtQ := [[1]], out := [] }).2, { b0 with mgmtQ := [[0, 5, 1, 0, 0, 0, 0, 0, 0, 1, 0, 2, 0, 0, 0, 0x44], [1]] }, by unfold Runs; decide +kernel⟩,
   ⟨[0, 5, 2, 0, 0, 0, 0, 0, 0, 1, 1, 2, 0, 0, 0, 0x44, 0, 0, 0, 9, 0, 0, 0, 7], [[1]], .mgmt 5, 1, (runFrame (.mgmt 5) [0, 5, 2, 0, 0, 0, 0, 0, 0, 1, 1, 2, 0, 0, 0, 0x44, 0, 0, 0, 9, 0, 0, 0, 7] { b0 with mgmtQ := [[1]], out := [] }).1, (runFrame (.mgmt 5) [0, 5, 2, 0, 0, 0, 0, 0, 0, 1, 1, 2, 0, 0, 0, 0x44, 0, 0, 0, 9, 0, 0, 0, 7] { b0 with mgmtQ := [[1]], out := [] }).2, { b0 with mgmtQ := [[0, 5, 2, 0, 0, 0, 0, 0, 0, 1, 1, 2, 0, 0, 0, 0x44, 0, 0, 0, 9, 0, 0, 0, 7], [1]] }, by unfold Runs; decide +kernel⟩,
   ⟨[0, 5, 3, 0, 0, 0, 0, 0, 0, 1, 0, 2, 0, 0, 0, 0, 0, 0, 0, 0x44, 0, 0, 0, 9, 0, 6, 0, 0x44, 0, 0, 0, 7], [[1]], .mgmt 5, 1, (runFrame (.mgmt 5) [0, 5, 3, 0, 0, 0, 0, 0, 0, 1, 0, 2, 0, 0, 0, 0, 0, 0, 0, 0x44, 0, 0, 0, 9, 0, 6, 0, 0x44, 0, 0, 0, 7] { b0 with mgmtQ := [[1]], out := [] }).1, (runFrame (.mgmt 5) [0, 5, 3, 0, 0, 0, 0, 0, 0, 1, 0, 2, 0, 0, 0, 0, 0, 0, 0, 0x44, 0, 0, 0, 9, 0, 6, 0, 0x44, 0, 0, 0, 7] { b0 with mgmtQ := [[1]], out := [] }).2, { b0 with mgmtQ := [[0, 5, 3, 0, 0, 0, 0, 0, 0, 1, 0, 2, 0, 0, 0, 0, 0, 0, 0, 0x44, 0, 0, 0, 9, 0, 6, 0, 0x44, 0, 0, 0, 7], [1]] }, by unfold Runs; decide +kernel⟩,
   ⟨[0, 5, 1, 0, 0, 0, 0, 0, 0, 1], [[1]], .mgmt 5, 1, [0, 0, 0x12], { b0 with mgmtQ := [[0, 5, 1, 0, 0, 0, 0, 0, 0, 1], [1]], mgmtLast := [(5, some (1, [0, 0, 0x12]))] }, by unfold Runs; decide +kernel⟩,
   ⟨[0, 5, 2, 0, 0, 0, 0, 0, 0, 1], [[1]], .mgmt 5, 1, [0, 0, 0x12], { b0 with mgmtQ := [[0, 5, 2, 0, 0, 0, 0, 0, 0, 1], [1]], mgmtLast := [(5, some (1, [0, 0, 0x12]))] }, by unfold Runs; decide +kernel⟩,
   ⟨[0, 5, 3, 0, 0, 0, 0, 0, 0, 1], [[1]], .mgmt 5, 1, [0, 0, 0x12], { b0 with mgmtQ := [[0, 5, 3, 0, 0, 0, 0, 0, 0, 1], [1]], mgmtLast := [(5, some (1, [0, 0, 0x12]))] }, by unfold Runs; decide +kernel⟩⟩

/-! ### Ill-formed commands, one for each check of `wellFormed` -/

theorem illformed_registerWrite : wellFormed (.registerWrite .spi 0x00046 0) = false := by decide
theorem illformed_linkBlockReceived : wellFormed (.linkBlockReceived 0 true false [] 0) = false := by decide
theorem illformed_ctagReceived : wellFormed (.ctagReceived 0 0 [1]) = false := by decide
theorem illformed_originCellIngress : wellFormed (.originCellIngress 5 (some (3, List.replicate 16385 0))) = false := by decide +kernel
theorem illformed_tunnelCellArrival : wellFormed (.tunnelCellArrival 0 0 ⟨[], false⟩) = false := by decide
theorem illformed_tid0FrameArrival : wellFormed (.tid0FrameArrival 0 [1, 2]) = false := by decide
theorem illformed_eventCellArrival : wellFormed (.eventCellArrival 0 (List.replicate 57 0)) = false := by decide +kernel
theorem illformed_overflowFill : wellFormed (.overflowFill 0 (.uncorrectable 0 (List.replicate 4097 0))) = false := by decide +kernel
theorem illformed_egressGrant : wellFormed (.egressGrant 0 ⟨false, 0⟩ (.double 0 [])) = false := by decide
theorem illformed_bar4Request : wellFormed (.bar4Request 0 0 (some []) 0 .ok) = false := by decide
theorem illformed_sendWindowWrite : wellFormed (.sendWindowWrite 0 0 []) = false := by decide
theorem illformed_outboundRead : wellFormed (.outboundRead 0 0 0 []) = false := by decide
theorem illformed_spiWrite : wellFormed (.spiWrite 0x40 [] [1, 2, 3, 4]) = false := by decide
theorem wellformed_registerWrite : wellFormed (.registerWrite .spi 0x00044 0) = true := by decide

/-! ### Single steps, with results taken from the spec's tables and worked examples -/

/-- What a command leaves; the state itself where it answered no next state. -/
def after (c : Instr) (s : State) : State := match exec c s with | .next t => t | _ => s

/-- The check value of CRC-32C, of the ASCII digits 1 to 9 (R78 names the polynomial). -/
theorem test_crc32c : crc32c (ascii "123456789") = 0xE3069283 := by decide +kernel

/-- SHA-256 of "abc" (FIPS 180-4, which R388 rests on). -/
theorem test_sha256 : sha256 (ascii "abc") = bytesBE 32 0xBA7816BF8F01CFEA414140DE5DAE2223B00361A396177A9CB410FF61F20015AD := by
  decide +kernel

/-- AES-256, FIPS 197 appendix C.3. -/
theorem test_aes256 : aesEnc (aesKeys (bytesBE 32 0x000102030405060708090A0B0C0D0E0F101112131415161718191A1B1C1D1E1F))
    (bytesBE 16 0x00112233445566778899AABBCCDDEEFF) = bytesBE 16 0x8EA2B7CA516745BFEAFC49904B496089 := by decide +kernel

/-- R1: the part and step that DEV.ID reads. -/
theorem test_dev_id : reg State.reset R.DEV_ID = 0x17760 := by decide +kernel

/-- Table 0-3: a write of a read-only register does nothing, one of SCRATCH sets it. -/
theorem test_registerWrite_ro : reg (after (.registerWrite .spi 0x00004 5) b0) 0x00004 = reg b0 0x00004 := by decide +kernel
theorem test_registerWrite_rw : reg (after (.registerWrite .spi 0x60044 0xC0FFEE) b0) 0x60044 = 0xC0FFEE := by decide +kernel

/-- R21 (Table 1-5): a request while another is under way is refused with BUSY. -/
theorem test_modeRequest_busy : (after (.modeRequest .spi 1) { up b0 [(R.DEV_MODE, 0x1000)] with modes := { req := some ⟨1, .spi⟩ } }).modes.req
    = some ⟨1, .spi⟩ := by decide +kernel

/-- Chapter 2's worked example: a step from P3 to P1 ends at a contract limit of 9,102 ps. -/
theorem test_levelVready : reg (after .levelVready { up b0 [(R.PM_STATUS, 0x417)] with pwr := { b0.pwr with level := .lowerVolt } })
    R.SPD_LIMIT_PS = 9102 := by decide +kernel

/-- Chapter 4's worked example: hub H2's entry of index 7. -/
theorem test_entry : let e := entryOf [0x02210221, 0x00100935, 0x000C0100, 0x00003C04]
    e.valid = true ∧ e.inMort = 0 ∧ e.inTid = 0x21 ∧ e.egMort = 2 ∧ e.egTid = 0x35 ∧ e.cls = 2 ∧ e.sub = 9 ∧ e.weight = 16
    ∧ e.orgHid = 1 ∧ e.orgIdx = 12 ∧ e.maxFrame = 15364 := by decide +kernel

/-- Chapter 8's worked example: the residence of 1,906.25 ns joins a correction of 64.5 ns. -/
theorem test_correction :
    correction (addCorrection (List.replicate 26 0 ++ bytesBE 8 0x408000 ++ List.replicate 32 0) 18 (19062500 * 65536 / 10000)) 18
      = 0x07B2C000 := by decide +kernel

/-- Chapter 9's worked example: a 32-bit store through a data-invariant window of a 16-bit device. -/
theorem test_outboundWrite :
    ((after (.outboundWrite 3 0x10 [true, true, true, true] [0x78, 0x56, 0x34, 0x12])
      (setAct (R.BRG_OW_BASE 3) 0x00300000 (setAct (R.BRG_OW_LB 3) 0x00200000 (setAct (R.BRG_OW_CTRL 3) 0x410B
        (up b0 [(R.DEV_MODE, 1), (R.PCIE_STATUS 0, 1), (R.PSW_CTRL, 0), (R.BRG_CTRL, 0x00401001)]))))).brg.jobs.flatMap (fun j => j.cycles.flatten.map (fun c => (c.addr, c.lanes))))
      = [(0x200010, [0x34, 0x12]), (0x200012, [0x78, 0x56])] := by decide +kernel

/-- Chapter 11's worked example: 5 V is code 40 and 48 V code 900, and the contract of 48 V and 3 A reads 0x0692C3C0. -/
theorem test_vset : (vsetCode 5000 2 (up b0 [(R.TC_VSET_CAL 2, 0xC3500BB8)])).1 = 40
    ∧ (vsetCode 48000 2 (up b0 [(R.TC_VSET_CAL 2, 0xC3500BB8)])).1 = 900 := by decide +kernel
theorem test_vbusSettled :
    reg (after (.vbusSettled 2 48000) { up b0 [(R.TC_VSET_CAL 2, 0xC3500BB8), (R.TC_STATUS 2, 0x87F2), (R.TC_VSET_CODE 2, 900)]
      with tc := [(2, { attachSrc := true, presentSrc := true, target := 900, req := some ⟨48000, 300, 10, true, false⟩ })] })
      (R.TC_CONTRACT 2) = 0x0692C3C0 := by decide +kernel

/-- Chapter 12's worked example: 47.8 V, 2,200 µF and 96.0 W give 22,468 µs. -/
theorem test_holdup : (holdup { up b0 [(R.PP_BULK, 0x09600898), (R.PP_LOAD_P, 0x03C0)] with pp := { src := 47800 } }).1 = 22468 := by
  decide +kernel

/-- Chapter 14's worked example, t2: a third pulse while both slots are taken is lost and counted. -/
theorem test_crossingPulse :
    let x := xGet (after (.crossingPulse (.group 7) 2 0x80FF)
      { up b0 [(R.RST_STATUS, 1)] with cdc := [(39, { inFlight := some ⟨57, 0x2A⟩, pending := some ⟨62, 2⟩ })] }) 39
    x.overrun = true ∧ x.lost = 1 ∧ x.inFlight = some ⟨57, 0x2A⟩ ∧ x.pending = some ⟨62, 2⟩ := by decide +kernel

/-- Chapter 15's worked example, t3: the third raise is handled at DEGRADE, and the record's bytes 10 and 11 read 0x2F and 0xA0. -/
theorem test_faultRaise :
    let t := after (.faultRaise (.group 5)) { up b0 [(R.DEV_MODE, 1), (R.RST_STATUS, 1), (R.FLT_SRC 47, 0x00030453)] with
      cdc := [(37, { inFlight := some ⟨47, 0⟩ })], flt := { esc := [(47, 2)] } }
    t.flt.history.map (fun r => (r.source, r.kindEdge)) = [(0x2F, 0xA0)] ∧ reg t (R.FLT_ESC 1) = 0x8000 := by decide +kernel

/-- Chapter 16's worked example, t7: the fourth attempt fails. -/
theorem test_wakeVreadyTimeout :
    let t := after .wakeVreadyTimeout { up b0 [(R.AO_STATUS, 0x84B), (R.AO_FAIL, 0x00037800)] with pwr := { step := .vready, attempt := 4, resetLow := false } }
    reg t R.AO_STATUS = 0x0813 ∧ reg t R.AO_FAIL = 0x00047801 := by decide +kernel

/-- Table 17-2: FIELD goes to RETURN or END only. -/
theorem test_lcPermitted : (List.range 8).filter (lcPermitted 3) = [4, 5] := by decide +kernel

/-- Chapter 18's worked example: the seven words that the mailbox gives. -/
theorem test_mgmtReplyDelivery :
    (after (.mgmtReplyDelivery [1, 3, 0x11, 0, 0, 0, 0, 0, 0, 0x2A, 0, 2, 0, 1, 8, 8, 0x4B, 0x3F, 0x1C, 0x80, 0, 0, 0, 2])
      (setAct R.DEV_HID 1 b0)).mbRx
      = [0x00030018, 0x00110301, 0, 0x02002A00, 0x08080100, 0x801C3F4B, 0x02000000] := by decide +kernel

/-- Queues first in, first out (R418): a step takes the front command. -/
theorem test_step_front : (match step { b0 with pending := [.hostKick, .tunCommit] } with | .next t => t.pending | _ => []) = [.tunCommit] := by
  decide +kernel

end Sys2Proof.Tests
end

/-! ## What a resynchronisation of a block's crossings leaves alone (R339–R341)

Turning a block on again discards what lies in its crossings, and with it frames, cells and credits of the Truss. Through all of
that the committed registers, the antifuse, the SDRAM, DEV.MODE and the PAGE_CTRL and PAGE_STATUS of every page stay as they
are, and a crossing that resynchronises goes on doing so. -/

namespace Sys2Proof.Machine

variable {s t u : State}

/-- DEV.MODE, and PAGE_CTRL and PAGE_STATUS of every page. -/
abbrev HeadKey (k : Nat) : Prop := k % 0x1000 = 0x008 ∨ k % 0x1000 = 0x00C ∨ k = R.DEV_MODE

/-- The fields that FlushFrame speaks of. -/
def coreFields (s : State) : SMap Word × SMap Word × Fuse × SMap Byte × SMap Crossing := (s.regs, s.act, s.fuse, s.dram, s.cdc)

/-- What stands in `t` as it stood in `s`, whatever a resynchronisation has discarded in between. -/
structure FlushFrame (s t : State) : Prop where
  act : t.act = s.act
  fuse : t.fuse = s.fuse
  dram : t.dram = s.dram
  head : ∀ k, HeadKey k → reg t k = reg s k
  resyncing : ∀ x, (xGet s x).resyncing = true → (xGet t x).resyncing = true

/-! ### What changes none of these fields -/

theorem coreFields_forAll {α : Type} (l : List α) {f : α → State → State} (h : ∀ a s, coreFields (f a s) = coreFields s) (s : State) :
    coreFields (forAll l f s) = coreFields s :=
  forAll_keeps (P := fun t => coreFields t = coreFields s) l f (fun a t ht => (h a t).trans ht) rfl

@[simp] theorem coreFields_qSet (q : Nat) (v : Queue) (s : State) : coreFields (qSet q v s) = coreFields s := rfl
@[simp] theorem coreFields_tSet (i : Nat) (v : Tunnel) (s : State) : coreFields (tSet i v s) = coreFields s := rfl
@[simp] theorem coreFields_scSet (m : Nat) (v : Sched) (s : State) : coreFields (scSet m v s) = coreFields s := rfl

theorem coreFields_emptyIngress (m : Nat) (w : List Nat) (s : State) : coreFields { inqSet m [] s with waiting := w } = coreFields s := rfl

@[simp] theorem coreFields_noteFill (q : Nat) (s : State) : coreFields (noteFill q s) = coreFields s := by
  unfold noteFill
  split
  · split <;> rfl
  · rfl

@[simp] theorem coreFields_dropCandidate (i : Nat) (s : State) : coreFields (dropCandidate i s) = coreFields s := by
  unfold dropCandidate unhold
  rw [coreFields_forAll _ fun g s => ?_, coreFields_forAll _ fun m s => ?_]
  all_goals
    dsimp only
    split <;> rfl

@[simp] theorem coreFields_removeLast (i k : Nat) (s : State) : coreFields (removeLast i k s) = coreFields s := by
  unfold removeLast
  dsimp only
  rw [coreFields_noteFill]
  split <;> split <;> simp

@[simp] theorem coreFields_abortAdapter (i : Nat) (s : State) : coreFields (abortAdapter i s) = coreFields s := by
  unfold abortAdapter
  dsimp only
  split
  · split <;> split <;> rfl
  · rfl

@[simp] theorem coreFields_closeEgress (i : Nat) (s : State) : coreFields (closeEgress i s) = coreFields s := by
  unfold closeEgress
  dsimp only
  split
  · split
    · rfl
    · simp
  · rfl

@[simp] theorem coreFields_closeBehind (i : Nat) (s : State) : coreFields (closeBehind i s) = coreFields s := by
  unfold closeBehind
  dsimp only
  split <;> simp

@[simp] theorem coreFields_takeBack (i more : Nat) (s : State) : coreFields (takeBack i more s) = coreFields s := by
  unfold takeBack
  dsimp only
  split <;> simp

@[simp] theorem coreFields_accrue (m : Nat) (s : State) : coreFields (accrue m s) = coreFields s := by
  unfold accrue
  dsimp only
  rw [coreFields_scSet, coreFields_forAll _ fun p s => ?_]
  split <;> rfl

/-! ### The frame -/

namespace FlushFrame

theorem refl (s : State) : FlushFrame s s := ⟨rfl, rfl, rfl, fun _ _ => rfl, fun _ h => h⟩

theorem trans (h : FlushFrame s t) (h' : FlushFrame t u) : FlushFrame s u :=
  ⟨h'.act.trans h.act, h'.fuse.trans h.fuse, h'.dram.trans h.dram,
    fun k hk => (h'.head k hk).trans (h.head k hk), fun x hx => h'.resyncing x (h.resyncing x hx)⟩

theorem same (h : FlushFrame s t) (e : coreFields u = coreFields t) : FlushFrame s u := by
  simp only [coreFields, Prod.mk.injEq] at e
  obtain ⟨hregs, hact, hfuse, hdram, hcdc⟩ := e
  exact h.trans ⟨hact, hfuse, hdram, fun k _ => reg_congr hregs k, fun x hx => by simpa [xGet, hcdc] using hx⟩

theorem forAll {α : Type} (h : FlushFrame s t) (l : List α) {f : α → State → State}
    (hf : ∀ a u, FlushFrame s u → FlushFrame s (f a u)) : FlushFrame s (Machine.forAll l f t) :=
  forAll_keeps l f hf h

theorem setReg {k : Nat} (h : FlushFrame s t) (v : Word) (hk : ¬ HeadKey k) : FlushFrame s (Machine.setReg k v t) :=
  h.trans ⟨rfl, rfl, rfl, fun _ hj => reg_setReg_ne v t (by rintro rfl; exact hk hj), fun _ hx => hx⟩

theorem setF {f : Fld} (h : FlushFrame s t) (v : Nat) (hk : ¬ HeadKey f.key) : FlushFrame s (Machine.setF f v t) :=
  h.setReg _ hk

theorem addCnt {k : Nat} (h : FlushFrame s t) (n : Nat) (hk : ¬ HeadKey k) : FlushFrame s (Machine.addCnt k n t) :=
  h.setReg _ hk

theorem bump {k : Nat} (h : FlushFrame s t) (hk : ¬ HeadKey k) : FlushFrame s (Machine.bump k t) := h.addCnt 1 hk

theorem addCnt64 {k : Nat} (h : FlushFrame s t) (n : Nat) (hk : ¬ HeadKey k) (hk' : ¬ HeadKey (k + 4)) :
    FlushFrame s (Machine.addCnt64 k n t) :=
  (h.setReg _ hk).setReg _ hk'

theorem bump64 {k : Nat} (h : FlushFrame s t) (hk : ¬ HeadKey k) (hk' : ¬ HeadKey (k + 4)) :
    FlushFrame s (Machine.bump64 k t) := h.addCnt64 1 hk hk'

theorem xSet {c : Crossing} (h : FlushFrame s t) (x : Nat) (hc : (xGet t x).resyncing = true → c.resyncing = true) :
    FlushFrame s (Machine.xSet x c t) := by
  refine h.trans ⟨rfl, rfl, rfl, fun _ _ => rfl, fun y hy => ?_⟩
  rw [xGet_xSet]
  split
  · next e => exact hc (e ▸ hy)
  · exact hy

theorem pulse (h : FlushFrame s t) (x : Nat) (p : Pulse) : FlushFrame s (Machine.pulse x p t) := by
  unfold Machine.pulse
  dsimp only
  split
  · exact h.xSet x id
  · split
    · exact h.xSet x id
    · have hb := (h.xSet (c := { xGet t x with overrun := true, lost := min 255 ((xGet t x).lost + 1) }) x id).bump
        (k := R.CDC_OVERRUN_EVENTS) (by decide)
      split
      · exact hb
      · exact hb.same rfl

theorem raise (h : FlushFrame s t) (src d : Nat) : FlushFrame s (Machine.raise src d t) := by
  unfold Machine.raise
  split
  · split
    · exact h.same rfl
    · exact h.pulse _ _
  · exact h

theorem limited (h : FlushFrame s t) (key period : Nat) {f : State → State}
    (hf : ∀ u, FlushFrame s u → FlushFrame s (f u)) : FlushFrame s (Machine.limited key period f t) := by
  unfold Machine.limited
  dsimp only
  split
  · exact hf _ (h.same rfl)
  · exact h

theorem countCtAbort (h : FlushFrame s t) (eg : Nat) : FlushFrame s (Machine.countCtAbort eg t) :=
  (h.bump (by decide)).limited _ _ fun _ hu => hu.raise _ _

theorem closeArriving (h : FlushFrame s t) (i : Nat) : FlushFrame s (Machine.closeArriving i t) := by
  unfold Machine.closeArriving
  dsimp only
  split
  · exact h
  · split
    · exact (h.same (by simp)).countCtAbort _
    · exact h.same (by simp)

/-! ### Placing the cells of a control frame -/

theorem injected (h : FlushFrame s t) (page chk writes : Nat) : FlushFrame s (Machine.injected page chk writes t) := by
  unfold Machine.injected
  dsimp only
  split
  · have hc : FlushFrame s (Machine.addCnt R.FLT_FI_INJECTIONS (min (natGet t.fi page) writes)
        { t with fi := natSet t.fi page (natGet t.fi page - min (natGet t.fi page) writes) }) := by
      refine FlushFrame.addCnt ?_ _ (by decide)
      exact h.same rfl
    split
    · exact hc.setF _ (by simp only [HeadKey, R.DEV_MODE]; omega)
    · exact hc
  · exact h

theorem storeCells (h : FlushFrame s t) (cs : List QCell) : FlushFrame s (Machine.storeCells cs t).2 := by
  induction cs generalizing t with
  | nil => exact h
  | cons c cs ih => exact ih ((h.injected 0x52 0 8).injected 0x52 2 1)

theorem storeLines (h : FlushFrame s t) (cs : List QCell) : FlushFrame s (Machine.storeLines cs t).2 := by
  induction cs generalizing t with
  | nil => exact h
  | cons c cs ih => exact ih (h.injected 0x53 0 8)

theorem writeStaging (h : FlushFrame s t) (q : Nat) : FlushFrame s (Machine.writeStaging q t) := by
  unfold Machine.writeStaging
  dsimp only
  split
  · exact (h.storeLines _).same rfl
  · exact h

theorem tailDrop (h : FlushFrame s t) (q flag : Nat) : FlushFrame s (Machine.tailDrop q flag t) :=
  ((h.bump (by simp only [HeadKey, regKey, R.BUF_QDROPS, R.DEV_MODE]; omega)).bump64 (by decide) (by decide)).limited _ _
    fun _ hu => hu.raise _ _

theorem placeTail (h : FlushFrame s t) (q : Nat) (c : QCell) : FlushFrame s (Machine.placeTail q c t).2 := by
  unfold Machine.placeTail
  dsimp only
  have hw := h.writeStaging q
  split
  · refine FlushFrame.tailDrop (FlushFrame.bump hw ?_) _ _
    decide
  · refine FlushFrame.same (FlushFrame.writeStaging (FlushFrame.bump64 ?_ ?_ ?_) q) (coreFields_noteFill _ _)
    · exact hw.same rfl
    · decide
    · decide

theorem placeOnchip (h : FlushFrame s t) (q : Nat) (c : QCell) : FlushFrame s (Machine.placeOnchip q c t) :=
  ((h.injected 0x52 1 1).storeCells [c]).same rfl

theorem place (h : FlushFrame s t) (q arr : Nat) (lead : Bool) (c : QCell) :
    FlushFrame s (Machine.place q arr lead c t).2 := by
  unfold Machine.place
  dsimp only
  split
  · exact h.tailDrop _ _
  split
  · exact h.placeOnchip _ _
  split
  · exact h.placeTail _ _
  split
  · exact h.placeOnchip _ _
  split
  · split
    · refine FlushFrame.tailDrop (FlushFrame.bump h ?_) _ _
      decide
    · refine FlushFrame.placeTail (FlushFrame.bump ?_ ?_) _ _
      · exact h.same rfl
      · decide
  split
  · exact h.bump (by decide)
  · exact h.tailDrop _ _

theorem placeEach (h : FlushFrame s t) (q arr : Nat) (cs : List QCell) (lead : Bool) (k : Nat) (lost : Bool) :
    FlushFrame s (Machine.placeEach q arr cs lead k lost t).2.2 := by
  induction cs generalizing t lead k lost with
  | nil => exact h
  | cons c cs ih =>
    unfold Machine.placeEach
    dsimp only
    split <;> exact ih (h.place q arr lead c) _ _ _

theorem placeControl (h : FlushFrame s t) (arr m tid : Nat) (bytes : List Byte) :
    FlushFrame s (Machine.placeControl arr m tid bytes t) := by
  unfold Machine.placeControl
  dsimp only
  have hp := (h.same (coreFields_accrue m t)).placeEach (256 + m) arr
    ((frameCells tid 3 bytes).map (fun c => { c with eg := m })) false 0 false
  split
  · exact (hp.same (coreFields_removeLast _ _ _)).bump (by decide)
  · split
    · exact hp
    · exact hp.same rfl

theorem sendTid0 (h : FlushFrame s t) (data : List Byte) : FlushFrame s (Machine.sendTid0 data t) := by
  unfold Machine.sendTid0
  split
  · exact h.placeControl _ _ _ _
  · exact h.bump (by decide)

theorem gapSign (h : FlushFrame s t) (i : Nat) : FlushFrame s (Machine.gapSign i t) := by
  unfold Machine.gapSign sendE2e
  dsimp only
  split
  · exact h
  · refine FlushFrame.sendTid0 ?_ _
    exact h.same rfl

/-! ### What a resynchronisation discards -/

theorem flushed (h : FlushFrame s t) (b n : Nat) : FlushFrame s (Machine.flushed b n t) := by
  have hb : FlushFrame s (bqSet b { bqGet t b with flush := false, left := 0 } t) := h.same rfl
  exact (hb.setF 0 (by simp only [HeadKey, regKey, R.SWC_BQ_CTRL, R.DEV_MODE]; omega)).addCnt n
    (by simp only [HeadKey, regKey, R.SWC_BQ_FLUSH_WORDS, R.DEV_MODE]; omega)

theorem discardCell (h : FlushFrame s t) (n : Nat) (w : BobWord) : FlushFrame s (Machine.discardCell n w t) := by
  unfold Machine.discardCell
  dsimp only
  split
  · exact h
  · split
    · exact (h.closeArriving _).same rfl
    · exact h

theorem flushLink (h : FlushFrame s t) (n : Nat) : FlushFrame s (Machine.flushLink n t) := by
  unfold Machine.flushLink
  dsimp only
  refine FlushFrame.flushed (FlushFrame.forAll (h.same ?_) _ fun w _ hu => hu.discardCell n w) _ _
  exact (coreFields_forAll _ (fun _ _ => by rfl) _).trans rfl

theorem flushForming (h : FlushFrame s t) (n : Nat) : FlushFrame s (Machine.flushForming n t) := by
  unfold Machine.flushForming
  dsimp only
  refine FlushFrame.flushed (h.same ?_) _ _
  exact (coreFields_forAll _ (fun _ _ => by rfl) _).trans rfl

theorem loseCtl (h : FlushFrame s t) (m r : Nat) : FlushFrame s (Machine.loseCtl m r t) :=
  FlushFrame.bump (h.same (coreFields_removeLast _ _ _)) (by decide)

theorem abandonFrame (h : FlushFrame s t) (i : Nat) : FlushFrame s (Machine.abandonFrame i t) := by
  unfold Machine.abandonFrame
  dsimp only
  split
  · exact h.same (coreFields_takeBack _ _ _)
  · exact h.closeArriving i

theorem discardFrames (h : FlushFrame s t) (m n : Nat) : FlushFrame s (Machine.discardFrames m n t) := by
  unfold Machine.discardFrames
  dsimp only
  refine FlushFrame.flushed (FlushFrame.same ?_ (coreFields_emptyIngress _ _ _)) _ _
  split
  · split
    · exact h
    · split
      · exact h.loseCtl _ _
      · exact h.abandonFrame _
      · exact h
  · exact h

theorem discardOpen (h : FlushFrame s t) (m n : Nat) : FlushFrame s (Machine.discardOpen m n t) := by
  unfold Machine.discardOpen
  dsimp only
  refine FlushFrame.flushed (h.forAll _ fun i u hu => ?_) _ _
  have ha := hu.same (coreFields_abortAdapter i u)
  split
  · exact ha.gapSign i
  · exact ha

theorem discardStream (h : FlushFrame s t) (x n : Nat) : FlushFrame s (Machine.discardStream x n t) := by
  unfold Machine.discardStream
  dsimp only
  have hb : FlushFrame s (bqSet x { bqGet t x with left := n } t) := h.same rfl
  split
  · split
    · exact hb.flushLink _
    · exact hb.discardFrames _ _
  · split
    · exact hb.flushForming _
    · exact hb.discardOpen _ _



/-- What `xResync` does once it has marked crossing `x`: a stream's words go, and the resynchronisation is counted and raised. -/
theorem resyncTail (h : FlushFrame s t) (kind x items : Nat) :
    FlushFrame s (Machine.raise 94 (x + min 127 items * 256) (Machine.addCnt64 R.CDC_RESYNC_ITEMS items
      (Machine.bump R.CDC_RESYNCS (if kind = 2 then Machine.discardStream x items t else t)))) := by
  refine FlushFrame.raise (FlushFrame.addCnt64 (FlushFrame.bump ?_ ?_) _ ?_ ?_) _ _
  · split
    · exact h.discardStream _ _
    · exact h
  all_goals decide

theorem xResync (h : FlushFrame s t) (x words : Nat) : FlushFrame s (Machine.xResync x words t) := by
  unfold Machine.xResync
  split
  · exact h
  · dsimp only
    split
    · exact h
    · exact FlushFrame.resyncTail (h.xSet x fun _ => rfl) _ _ _

theorem resyncOwn (h : FlushFrame s t) (x : Nat) : FlushFrame s (Machine.resyncOwn x t) :=
  FlushFrame.xResync (h.same (u := nextFree t) rfl) _ _

end FlushFrame

/-- A crossing of Table 14-1 resynchronises from the moment it is told to (R339). -/
theorem xResync_resyncing (x words : Nat) (s : State) (hx : xType x ≠ none) :
    (xGet (xResync x words s) x).resyncing = true := by
  unfold xResync
  split
  · next e => exact absurd e hx
  · dsimp only
    split
    · next e => exact e
    · exact ((FlushFrame.refl _).resyncTail _ _ _).resyncing x (by simp [xGet_xSet])

/-- Every crossing of a list of crossings of Table 14-1 resynchronises once each has been told to. -/
theorem forAll_resyncOwn_resyncing (xs : List Nat) (s : State) (hxs : ∀ x ∈ xs, xType x ≠ none) :
    ∀ x ∈ xs, (xGet (forAll xs resyncOwn s) x).resyncing = true := by
  induction xs generalizing s with
  | nil => simp
  | cons y ys ih =>
    intro x hx
    rw [forAll_cons]
    rcases List.mem_cons.1 hx with rfl | hx
    · have hys := (FlushFrame.refl (resyncOwn x s)).forAll ys (f := resyncOwn) fun _ _ hu => hu.resyncOwn _
      exact hys.resyncing x (xResync_resyncing x _ _ (hxs x List.mem_cons_self))
    · exact ih _ (fun z hz => hxs z (List.mem_cons_of_mem _ hz)) x hx

/-- The crossings of a block are crossings of Table 14-1. -/
theorem xType_of_mem_blockCrossings {page x : Nat} (hx : x ∈ blockCrossings page) : xType x ≠ none := by
  have hlt : x ≤ 13 ∨ (16 ≤ x ∧ x ≤ 29) ∨ (32 ≤ x ∧ x ≤ 60) := by
    unfold blockCrossings at hx
    dsimp only at hx
    split at hx
    case h_9 => split_ifs at hx <;> simp only [List.mem_cons, List.not_mem_nil, or_false] at hx <;> omega
    all_goals simp only [List.mem_cons, List.not_mem_nil, or_false] at hx <;> omega
  rw [xType]
  split_ifs
  · exact Option.some_ne_none _
  · exact Option.some_ne_none _
  · exact Option.some_ne_none _
  · omega

theorem blockCrossings_resyncing (page : Nat) (s : State) :
    ∀ x ∈ blockCrossings page, (xGet (forAll (blockCrossings page) resyncOwn s) x).resyncing = true :=
  forAll_resyncOwn_resyncing _ s fun _ hx => xType_of_mem_blockCrossings hx

end Sys2Proof.Machine

/-! ## Accesses of the register space and PAGE_CTRL (R411–R423) -/

namespace Sys2Proof.Machine

variable {s t : State} {p : Path} {k : PageKind} {page off : Nat} {v : Word}

/-! ### Reaching a register -/

theorem endDoze_of_awake (h : bit s fDoze = false) : endDoze s = s := by simp [endDoze, h]

/-- An access of an awake hub ends no S1 Doze (R369). -/
theorem wake_awake (h : Awake s) :
    (if hubRuns (clearOut s) = true then endDoze (clearOut s) else clearOut s) = clearOut s := by
  obtain ⟨hruns, hdoze⟩ := h
  rw [if_pos (show hubRuns (clearOut s) = true from hruns), endDoze_of_awake (s := clearOut s) hdoze]

theorem pathUp_clearOut {addr : Nat} (h : Runs s) (hr : pathReaches s p addr = true) (ha : addr % 4 = 0) :
    pathUp (clearOut s) p addr = true := by
  have hreach : pathReaches (clearOut s) p addr = true := hr
  have hruns : hubRuns (clearOut s) = true := h
  simp [pathUp, hruns, hreach, ha]

theorem outOfReach_of_runs (h : Runs s) (p : Path) (page : Nat) : outOfReach s p page = false := by
  have hruns : hubRuns s = true := h
  simp [outOfReach, hruns]

/-- A write at an awake hub arrives at its page. -/
theorem writeReg_awake {addr : Nat} (h : Awake s) (hk : pageKindOf (addr / 0x1000) = some k)
    (hs : s.stopped.contains (addr / 0x1000) = false) (v : Word) :
    writeReg p addr v (clearOut s) = pageWrite p k (addr / 0x1000) (addr % 0x1000) v (clearOut s) := by
  simp only [writeReg, wake_awake h, hk, outOfReach_of_runs (s := clearOut s) h.1, clearOut_stopped, hs, Bool.false_eq_true,
    if_false]

theorem onlyRegs_clearOut (s : State) : OnlyRegs s (clearOut s) := rfl

theorem onlyRegs_setReg (h : OnlyRegs s t) (key : Nat) (v : Word) : OnlyRegs s (setReg key v t) := by
  unfold OnlyRegs at *
  generalize t.regs = r, t.out = o at h
  subst h
  rfl

theorem onlyRegs_setF (h : OnlyRegs s t) (f : Fld) (n : Nat) : OnlyRegs s (setF f n t) := onlyRegs_setReg h _ _

theorem kept_onlyRegs (h : OnlyRegs s t) : kept s t = t := by
  have hpending := congrArg State.pending h
  have hfuse := congrArg State.fuse h
  exact kept_eq hpending hfuse

/-- REGISTER_WRITE completes with what the page makes of the write. -/
theorem answers_registerWrite {addr : Addr} {P : State → Prop} (h : Awake s) (hr : pathReaches s p addr.toNat = true)
    (ha : addr.toNat % 4 = 0) (hk : pageKindOf (addr.toNat / 0x1000) = some k)
    (hs : s.stopped.contains (addr.toNat / 0x1000) = false)
    (hw : (pageWrite p k (addr.toNat / 0x1000) (addr.toNat % 0x1000) v (clearOut s)).2 = t)
    (hregs : OnlyRegs s t) (hP : P t) : Answers (.registerWrite p addr v) s P := by
  refine answers_power (f := fun s => if pathUp s p addr.toNat then (writeReg p addr.toNat v s).2 else s) rfl
    (runs_powered h.1) ?_
  rw [if_pos (pathUp_clearOut h.1 hr ha), writeReg_awake h hk hs, hw,
    kept_onlyRegs hregs]
  exact hP

/-! ### A write at its page -/

/-- Away from the standby, and but for what only a privileged path may write, the write is applied (R422, R423). -/
theorem pageWrite_applies (hm : mode s ≠ mStandby ∨ mirroredPage page = false)
    (hp : privileged s p = true ∨ (k = .rst → off ≠ 0x100) ∧ (k = .ao → off ≠ 0x11C)) :
    (pageWrite p k page off v s).2 = applyWrite p k page off v s := by
  have hstandby : ¬ (mode s = mStandby ∧ mirroredPage page = true) := by
    rintro ⟨h1, h2⟩
    exact hm.elim (absurd h1) (by simp [h2])
  unfold pageWrite
  split
  · next hc =>
    simp only [Bool.and_eq_true, Bool.or_eq_true, Bool.not_eq_true', decide_eq_true_eq, beq_iff_eq] at hc
    obtain ⟨hnot, hrow⟩ := hc
    rcases hp with hpriv | ⟨hrst, hao⟩
    · simp [hpriv] at hnot
    · rcases hrow with ⟨hk, ho⟩ | ⟨hk, ho⟩
      · exact absurd ho (hrst hk)
      · exact absurd ho (hao hk)
  · split
    · rfl
    · rfl

theorem applyWrite_acting (ho : 0x100 ≤ off) (hk : keepEnable s k page off v = v)
    (ha : actingWrite p k page off v s = some t) : applyWrite p k page off v s = t := by
  simp only [applyWrite, if_neg (Nat.not_lt.2 ho), hk, ha]

theorem applyWrite_typed (ho : 0x100 ≤ off) (hk : keepEnable s k page off v = v)
    (ha : actingWrite p k page off v s = none) : applyWrite p k page off v s = typedWrite k page off v s := by
  simp only [applyWrite, if_neg (Nat.not_lt.2 ho), hk, ha]

/-! ### The journal of an unpaired hub -/

theorem journal_unpaired (h : Unpaired s) (type : Nat) (body : List Byte) (last : Bool) :
    journal type body last s = s := by
  simp [journal, show holdsRole s = false from h]

theorem journalReg_unpaired (h : Unpaired s) (key : Nat) (v : Word) : journalReg key v s = s := by
  unfold journalReg journalWord
  dsimp only
  split
  · split
    · exact journal_unpaired h _ _ _
    · split
      · exact journal_unpaired h _ _ _
      · simp only [journal_unpaired h]
  · rfl

theorem unpaired_congr (h : Unpaired s) (e : reg t R.DEV_MODE = reg s R.DEV_MODE) : Unpaired t := by
  have hfld (f : Fld) (hf : f.key = R.DEV_MODE) : getF t f = getF s f := getF_of_reg (by rw [hf, e])
  simpa only [Unpaired, holdsRole, mode, hfld fCur rfl, hfld fPrev rfl] using h

theorem bit_setF_one (k lo : Nat) (s : State) (h : lo < 32) : bit (setF ⟨k, lo, 1⟩ 1 s) ⟨k, lo, 1⟩ = true := by
  simp [bit, getF_setF_same ⟨k, lo, 1⟩ 1 s h]

theorem bit_setF_zero (k lo : Nat) (s : State) (h : lo < 32) : bit (setF ⟨k, lo, 1⟩ 0 s) ⟨k, lo, 1⟩ = false := by
  simp [bit, getF_setF_same ⟨k, lo, 1⟩ 0 s h]

/-! ### REGISTER_WRITE -/

/-- `SCRATCH` of a page keeps any word (Table 18-1). -/
theorem answers_scratchWrite {addr : Addr} (h : Awake s) (hr : pathReaches s p addr.toNat = true)
    (hm : mode s ≠ mStandby ∨ mirroredPage (addr.toNat / 0x1000) = false) (ho : addr.toNat % 0x1000 = 0x044)
    (hk : pageKindOf (addr.toNat / 0x1000) = some k) (hs : s.stopped.contains (addr.toNat / 0x1000) = false) :
    Answers (.registerWrite p addr v) s (fun t =>
      reg t addr.toNat = v ∧ RegsBut [addr.toNat] s t ∧ OnlyRegs s t ∧ t.out = []) := by
  have hkey : addr.toNat / 0x1000 * 0x1000 + 0x044 = addr.toNat := by omega
  refine answers_registerWrite (t := setReg addr.toNat v (clearOut s)) h hr (by omega) hk hs ?_ rfl ?_
  · rw [pageWrite_applies (s := clearOut s) hm (.inr (by omega)), ho]
    show setReg (addr.toNat / 0x1000 * 0x1000 + 0x044) v (clearOut s) = _
    rw [hkey]
  · exact ⟨reg_setReg_same _ _ _, regsBut_setReg v (fun _ _ => rfl) (by simp), rfl, rfl⟩

theorem reg_when_setF_ne {f : Fld} {j : Nat} (c : Bool) (n : Nat) (s : State) (h : j ≠ f.key) :
    reg (when c (setF f n) s) j = reg s j := reg_when c _ s fun u => reg_setF_ne n u h

/-- `DEV.MODE` has no bit that a write sets. -/
theorem findRow_devMode {r : RegRow} (h : findRow .dev R.DEV_MODE = some r) : r.rw = 0 ∧ r.rwl = 0 := by
  have hmode : findRow .dev R.DEV_MODE = some { off := R.DEV_MODE } := by decide
  obtain rfl := Option.some.inj (hmode.symm.trans h)
  exact ⟨rfl, rfl⟩

/-- A write by access type at an unpaired hub: the register, and DIRTY where it has RWS bits. -/
theorem typedWrite_unpaired {r : RegRow} {c key : Nat} (hu : Unpaired s) (hk : pageKindOf page = some k)
    (ho : off < 0x1000) (hrow : findRow k off = some r) (hsel : selValue s page r.sel = some c)
    (hkey : key = regKey (page * 0x1000 + off) c) :
    typedWrite k page off v s = when (r.rws != 0) (setF (fDirty page) 1)
      (setReg key (typedValue s k page off r (reg s key) v) s) := by
  unfold typedWrite
  simp only [hrow, hsel, ← hkey]
  by_cases hmode : key = R.DEV_MODE
  · obtain ⟨rfl, rfl⟩ : page = 0 ∧ off = R.DEV_MODE := by
      unfold regKey at hkey
      unfold R.DEV_MODE at hmode ⊢
      omega
    obtain rfl : k = .dev := (Option.some.inj (hk.symm.trans (by decide : pageKindOf 0 = some .dev)))
    obtain ⟨hrw, hrwl⟩ := findRow_devMode hrow
    simp [hrw, hrwl]
  · have hu' : Unpaired (when (r.rws != 0) (setF (fDirty page) 1)
        (setReg key (typedValue s k page off r (reg s key) v) s)) := by
      refine unpaired_congr hu ?_
      rw [reg_when_setF_ne _ _ _ (by simp only [R.DEV_MODE]; omega), reg_setReg_ne _ _ (Ne.symm hmode)]
    generalize when (r.rws != 0) (setF (fDirty page) 1) _ = u at hu' ⊢
    unfold when
    split
    · exact journalReg_unpaired hu' _ _
    · rfl

/-- A register without an action of its own takes what its access types let through (R7). -/
theorem answers_typedWrite {addr : Addr} {r : RegRow} {c key : Nat} (h : Awake s)
    (hr : pathReaches s p addr.toNat = true) (hu : Unpaired s)
    (hm : mode s ≠ mStandby ∨ mirroredPage (addr.toNat / 0x1000) = false)
    (hk : pageKindOf (addr.toNat / 0x1000) = some k) (hs : s.stopped.contains (addr.toNat / 0x1000) = false)
    (h4 : addr.toNat % 4 = 0) (ho : 0x100 ≤ addr.toNat % 0x1000) (hrow : findRow k (addr.toNat % 0x1000) = some r)
    (hsel : selValue s (addr.toNat / 0x1000) r.sel = some c) (hkey : key = regKey addr.toNat c)
    (hen : keepEnable s k (addr.toNat / 0x1000) (addr.toNat % 0x1000) v = v)
    (ha : actingWrite p k (addr.toNat / 0x1000) (addr.toNat % 0x1000) v (clearOut s) = none) :
    Answers (.registerWrite p addr v) s (fun t =>
      reg t key = typedValue s k (addr.toNat / 0x1000) (addr.toNat % 0x1000) r (reg s key) v ∧ (r.rws ≠ 0 →
      bit t (fDirty (addr.toNat / 0x1000)) = true) ∧ RegsBut [key, (fDirty (addr.toNat / 0x1000)).key] s t ∧
      OnlyRegs s t ∧ t.out = []) := by
  generalize hpage : addr.toNat / 0x1000 = page at *
  generalize hoff : addr.toNat % 0x1000 = off at *
  have hact : (k = .rst → off ≠ 0x100) ∧ (k = .ao → off ≠ 0x11C) := by
    constructor <;> rintro rfl rfl <;> simp [actingWrite] at ha
  have haddr : page * 0x1000 + off = addr.toNat := by omega
  have hdirty : key ≠ (fDirty page).key := by
    unfold regKey at hkey
    simp only
    omega
  have hregs : OnlyRegs s (when (r.rws != 0) (setF (fDirty page) 1)
      (setReg key (typedValue s k page off r (reg s key) v) (clearOut s))) := by
    cases r.rws != 0 <;> rfl
  refine answers_registerWrite h hr h4 (by rw [hpage]; exact hk) (by rw [hpage]; exact hs) ?_ hregs ?_
  · rw [hpage, hoff, pageWrite_applies (s := clearOut s) hm (.inr hact), applyWrite_typed (s := clearOut s) ho hen ha]
    exact typedWrite_unpaired (s := clearOut s) hu hk (by omega) hrow hsel (by rw [hkey, haddr])
  · refine ⟨?_, fun hrws => ?_, fun j hj => ?_, hregs, ?_⟩
    · rw [reg_when_setF_ne _ _ _ hdirty, reg_setReg_same]
    · rw [show (r.rws != 0) = true from bne_iff_ne.2 hrws, when_true]
      exact bit_setF_one _ _ _ (by decide)
    · simp only [List.mem_cons, List.not_mem_nil, or_false, not_or] at hj
      rw [reg_when_setF_ne _ _ _ hj.2, reg_setReg_ne _ _ hj.1, reg_clearOut]
    · cases r.rws != 0 <;> rfl

/-- A write that its path cannot make changes nothing (Table 18-8). -/
theorem answers_unreachedWrite {addr : Addr} {P : State → Prop} (h : Powered s)
    (hr : pathReaches s p addr.toNat = false) (hP : P (clearOut s)) : Answers (.registerWrite p addr v) s P := by
  refine answers_power (f := fun s => if pathUp s p addr.toNat then (writeReg p addr.toNat v s).2 else s) rfl h ?_
  have hup : pathUp (clearOut s) p addr.toNat = false := by
    simp [pathUp, show pathReaches (clearOut s) p addr.toNat = false from hr]
  rw [hup, if_neg Bool.false_ne_true, kept_onlyRegs (t := clearOut s) rfl]
  exact hP

/-- `FLT.SRC` of a reserved source ignores writes (R344). -/
theorem fltWrite_reserved {src : Nat} (h : src = 87 ∨ 95 ≤ src ∧ src ≤ 99 ∨ src = 127) (v : Word) (s : State) :
    fltWrite (0x400 + src * 4) v s = some s := by
  have hres : reservedSource src = true := by simpa [reservedSource, or_assoc] using h
  unfold fltWrite
  rw [if_pos ⟨by omega, by omega, by rwa [show (0x400 + src * 4 - 0x400) / 4 = src by omega]⟩]

theorem answers_reservedSourceWrite {addr : Addr} {src : Nat} (h : Awake s) (hs : s.stopped.contains 0x3 = false)
    (hsrc : src = 87 ∨ 95 ≤ src ∧ src ≤ 99 ∨ src = 127) (haddr : addr.toNat = R.FLT_SRC src) :
    Answers (.registerWrite p addr v) s (fun t => t = { s with out := [] }) := by
  have hpage : addr.toNat / 0x1000 = 0x3 := by unfold R.FLT_SRC at haddr; omega
  have hoff : addr.toNat % 0x1000 = 0x400 + src * 4 := by unfold R.FLT_SRC at haddr; omega
  cases hr : pathReaches s p addr.toNat with
  | false => exact answers_unreachedWrite (runs_powered h.1) hr rfl
  | true =>
    refine answers_registerWrite (t := clearOut s) (k := .flt) h hr (by omega) (by rw [hpage]; decide) (by rw [hpage]; exact hs)
      ?_ rfl rfl
    rw [hpage, hoff, pageWrite_applies (.inr (by decide)) (.inr (by simp))]
    exact applyWrite_acting (by omega) rfl (fltWrite_reserved hsrc _ _)

/-- `RST.CTRL` refuses a path that is not privileged (R422). -/
theorem answers_refusedWrite (h : Awake s) (hr : pathReaches s p 0x002100 = true) (hs : s.stopped.contains 0x2 = false)
    (hp : privileged s p = false) :
    Answers (.registerWrite p 0x002100 v) s (fun t =>
      reg t R.DEV_PATH_REFUSED = reg s R.DEV_PATH_REFUSED + 1 ∧ RegsBut [R.DEV_PATH_REFUSED] s t ∧ OnlyRegs s t ∧
      t.out = []) := by
  have hp' : privileged (clearOut s) p = false := hp
  refine answers_registerWrite (t := bump R.DEV_PATH_REFUSED (clearOut s)) (k := .rst) h hr (by decide) (by decide) hs ?_ rfl ?_
  · show (pageWrite p .rst 0x2 0x100 v (clearOut s)).2 = _
    simp [pageWrite, hp']
  · exact ⟨reg_bump_same _ _, regsBut_setReg _ (fun _ _ => rfl) (by simp), rfl, rfl⟩

/-- At the standby a configuration register of a mirrored page refuses the write (R423). -/
theorem answers_standbyWrite {addr : Addr} (h : Awake s) (hr : pathReaches s p addr.toNat = true) (hm : mode s = mStandby)
    (hp : privileged s p = true) (hmir : mirroredPage (addr.toNat / 0x1000) = true) (h4 : addr.toNat % 4 = 0)
    (hk : pageKindOf (addr.toNat / 0x1000) = some k) (hs : s.stopped.contains (addr.toNat / 0x1000) = false)
    (hcfg : configBits s k (addr.toNat / 0x1000) (addr.toNat % 0x1000) ≠ 0)
    (hact : actionBits k (addr.toNat % 0x1000) = 0) :
    Answers (.registerWrite p addr v) s (fun t =>
      reg t R.DEV_STBY_WR_DROPS = reg s R.DEV_STBY_WR_DROPS + 1 ∧ RegsBut [R.DEV_STBY_WR_DROPS] s t ∧ OnlyRegs s t ∧
      t.out = []) := by
  refine answers_registerWrite (t := bump R.DEV_STBY_WR_DROPS (clearOut s)) h hr h4 hk hs ?_ rfl ?_
  · have hp' : privileged (clearOut s) p = true := hp
    have hm' : mode (clearOut s) = mStandby := hm
    have hcfg' : configBits (clearOut s) k (addr.toNat / 0x1000) (addr.toNat % 0x1000) ≠ 0 := hcfg
    simp [pageWrite, hp', hm', hmir, standbyWrite, hcfg', hact]
  · exact ⟨reg_bump_same _ _, regsBut_setReg _ (fun _ _ => rfl) (by simp), rfl, rfl⟩

/-! ### COUNTER_LOW_WORD_READ -/

/-- The read of `SPD.CYCLE_PS`, which crosses, is not that of a 64-bit counter. -/
theorem crosses58_of_wide {r : RegRow} (hrow : findRow k off = some r) (hw : r.wide = true) : crosses58 k off = false := by
  have hnarrow : (findRow .spd 0x104).all (fun r => !r.wide) = true := by decide
  by_contra hne
  simp only [crosses58, Bool.not_eq_false, Bool.and_eq_true, beq_iff_eq] at hne
  obtain ⟨rfl, rfl⟩ := hne
  simp [hrow, hw] at hnarrow

/-- No tap of a lane is a 64-bit counter. -/
theorem liveTaps_of_wide {r : RegRow} (hrow : findRow k off = some r) (hw : r.wide = true) (page : Nat) (s : State) :
    liveTaps k page off s = s := by
  have hnarrow : (findRow .lane 0x110).all (fun r => !r.wide) = true ∧ (findRow .lane 0x114).all (fun r => !r.wide) = true := by
    decide
  unfold liveTaps
  split
  · next hc =>
    simp only [Bool.and_eq_true, Bool.or_eq_true, beq_iff_eq] at hc
    obtain ⟨rfl, rfl | rfl⟩ := hc <;> simp [hrow, hw] at hnarrow
  · rfl

/-- The low word of a 64-bit counter is read, and the high one latched for the path and the page (R419). -/
theorem pageRead_wide {r : RegRow} {c : Nat} (ho : 0x100 ≤ off) (hen : bit s (fEnabled page) = true)
    (hrow : findRow k off = some r) (hsel : selValue s page r.sel = some c) (hw : r.wide = true)
    (hlow : (off - r.off) % 8 = 0) (ht : takingRead k off s = none) (hc : computedRead p k page off s = none) :
    pageRead p k page off s = (reg s (regKey (page * 0x1000 + off) c), { s with
      latch := smSet dLatch s.latch (latchKey p page) (some (reg s (regKey (page * 0x1000 + off) c + 4))) }) := by
  simp only [pageRead, if_neg (Nat.not_lt.2 ho), hen, Bool.not_true, Bool.false_eq_true, if_false, ht, hc,
    crosses58_of_wide hrow hw, liveTaps_of_wide hrow hw, when_false, rowRead, hrow, hsel, hw, hlow, if_true]

/-- A read at an awake hub arrives at its page. -/
theorem readReg_awake {addr : Nat} (h : Awake s) (hk : pageKindOf (addr / 0x1000) = some k)
    (hs : s.stopped.contains (addr / 0x1000) = false) :
    readReg p addr (clearOut s) = (.ok, pageRead p k (addr / 0x1000) (addr % 0x1000) (clearOut s)) := by
  simp only [readReg, wake_awake h, hk, outOfReach_of_runs (s := clearOut s) h.1, clearOut_stopped, hs, Bool.false_eq_true,
    if_false]

/-- COUNTER_LOW_WORD_READ gives the low word and latches the high one (R419). -/
theorem answers_counterRead {addr : Addr} {r : RegRow} {c key : Nat} (h : Awake s)
    (hr : pathReaches s p addr.toNat = true) (hk : pageKindOf (addr.toNat / 0x1000) = some k)
    (hs : s.stopped.contains (addr.toNat / 0x1000) = false) (h4 : addr.toNat % 4 = 0) (ho : 0x100 ≤ addr.toNat % 0x1000)
    (hen : bit s (fEnabled (addr.toNat / 0x1000)) = true) (hrow : findRow k (addr.toNat % 0x1000) = some r)
    (hsel : selValue s (addr.toNat / 0x1000) r.sel = some c) (hkey : key = regKey addr.toNat c) (hw : r.wide = true)
    (hlow : (addr.toNat % 0x1000 - r.off) % 8 = 0) (ht : takingRead k (addr.toNat % 0x1000) (clearOut s) = none)
    (hc : computedRead p k (addr.toNat / 0x1000) (addr.toNat % 0x1000) (clearOut s) = none) :
    Answers (.counterLowWordRead p addr) s (fun t =>
      t = { s with latch := smSet dLatch s.latch (latchKey p (addr.toNat / 0x1000)) (some (reg s (key + 4))),
                   out := [.readData (reg s key)] }) := by
  have hread := pageRead_wide (s := clearOut s) ho hen hrow hsel hw hlow ht hc
  rw [show addr.toNat / 0x1000 * 0x1000 + addr.toNat % 0x1000 = addr.toNat by omega, ← hkey] at hread
  refine answers_power (f := fun s =>
    if pathUp s p addr.toNat then emit (.readData (readReg p addr.toNat s).2.1) (readReg p addr.toNat s).2.2 else s) rfl
    (runs_powered h.1) ?_
  rw [if_pos (pathUp_clearOut h.1 hr h4), readReg_awake h hk hs, hread]
  exact kept_eq rfl rfl

/-! ### `PAGE_CTRL` -/

theorem pageCtrlRow_eq (hk : pageKindOf page = some k) (hm : mode s ≠ mStandby ∨ mirroredPage page = false) :
    pageCtrlRow page v s = pageCtrlWrite k page v s := by
  unfold pageCtrlRow
  rw [hk]
  exact pageWrite_applies hm (.inl rfl)

/-- A write of `PAGE_CTRL` with neither LOCK nor SOFT_RESET is one of ENABLE. -/
theorem pageCtrlWrite_enable (h1 : v.toNat.testBit 1 = false) (h2 : v.toNat.testBit 2 = false) :
    pageCtrlWrite k page v s = enableWrite k page (v.toNat.testBit 0) s := by
  simp only [pageCtrlWrite, h1, h2, when_false]

/-- PAGE_ENABLE_WRITE completes with what ENABLE does. -/
theorem answers_pageEnable {page : BitVec 12} {P : State → Prop} (en : Bool) (h : Runs s)
    (hm : mode s ≠ mStandby ∨ mirroredPage page.toNat = false) (hk : pageKindOf page.toNat = some k)
    (hP : P (kept s (enableWrite k page.toNat en (clearOut s)))) : Answers (.pageEnableWrite page en) s P := by
  refine answers_hub (f := pageCtrlRow page.toNat (if en then 1 else 0)) rfl h ?_
  rw [pageCtrlRow_eq (s := clearOut s) hk hm]
  cases en
  · rw [if_neg Bool.false_ne_true, pageCtrlWrite_enable (by decide) (by decide)]
    exact hP
  · rw [if_pos rfl, pageCtrlWrite_enable (by decide) (by decide)]
    exact hP

theorem unpaired_setEnable (h : Unpaired s) (page a b : Nat) :
    Unpaired (setF (fEnabled page) a (setF (fEnable page) b s)) := by
  refine unpaired_congr h ?_
  rw [reg_setF_ne _ _ (by simp only [R.DEV_MODE]; omega), reg_setF_ne _ _ (by simp only [R.DEV_MODE]; omega)]

/-- ENABLE 0 of an idle block with GATE (R414). -/
theorem enableWrite_off (hu : Unpaired s) (hg : (pageInfo k).gate = true) (hen : bit s (fEnabled page) = true)
    (hi : pageIdle s k page = true) :
    enableWrite k page false s = setF (fEnabled page) 0 (setF (fEnable page) 0 s) := by
  simp only [enableWrite, hg, hen, hi, Bool.not_true, Bool.false_or, Bool.false_eq_true, beq_iff_eq, if_false, if_true]
  exact journalReg_unpaired (unpaired_setEnable hu _ _ _) _ _

theorem fEnable_key_ne (page : Nat) : (fEnable page).key ≠ (fEnabled page).key := by simp only; omega

/-- PAGE_ENABLE_WRITE with 0 at an idle block: ENABLE and ENABLED fall, and nothing else changes (R414). -/
theorem answers_pageOff {page : BitVec 12} (h : Runs s) (hu : Unpaired s)
    (hm : mode s ≠ mStandby ∨ mirroredPage page.toNat = false) (hk : pageKindOf page.toNat = some k)
    (hg : (pageInfo k).gate = true) (hen : bit s (fEnabled page.toNat) = true) (hi : pageIdle s k page.toNat = true) :
    Answers (.pageEnableWrite page false) s (fun t =>
      bit t (fEnable page.toNat) = false ∧ bit t (fEnabled page.toNat) = false ∧
      RegsBut [(fEnable page.toNat).key, (fEnabled page.toNat).key] s t ∧ OnlyRegs s t ∧ t.out = []) := by
  refine answers_pageEnable false h hm hk ?_
  have honly : OnlyRegs s (setF (fEnabled page.toNat) 0 (setF (fEnable page.toNat) 0 (clearOut s))) :=
    onlyRegs_setF (onlyRegs_setF (onlyRegs_clearOut s) _ _) _ _
  rw [enableWrite_off (s := clearOut s) hu hg hen hi, kept_onlyRegs honly]
  refine ⟨?_, bit_setF_zero _ _ _ (by decide), ?_, honly, rfl⟩
  · rw [bit, getF_setF_ne _ _ (fEnable_key_ne _)]
    exact bit_setF_zero _ _ _ (by decide)
  · exact regsBut_setReg _ (regsBut_setReg _ (fun _ _ => rfl) (by simp)) (by simp)

/-- ENABLE 1 of a page with GATE: its crossings resynchronise (R414, R339). -/
theorem enableWrite_on (hu : Unpaired s) (hg : (pageInfo k).gate = true) (hen : bit s (fEnabled page) = false) :
    enableWrite k page true s =
      forAll (blockCrossings page) resyncOwn (setF (fEnabled page) 1 (setF (fEnable page) 1 s)) := by
  simp only [enableWrite, hg, hen, Bool.not_true, Bool.false_or, beq_iff_eq, reduceCtorEq, if_false, if_true]
  have hframe := (FlushFrame.refl (setF (fEnabled page) 1 (setF (fEnable page) 1 s))).forAll (blockCrossings page)
    (f := resyncOwn) fun _ _ hu => hu.resyncOwn _
  exact journalReg_unpaired (unpaired_congr (unpaired_setEnable hu _ _ _) (hframe.head _ (.inr (.inr rfl)))) _ _

/-- Both bits read 1 once they are set, and stay so while the crossings of a block resynchronise. -/
theorem enabled_of_flushFrame (h : FlushFrame (setF (fEnabled page) 1 (setF (fEnable page) 1 s)) t) :
    bit t (fEnable page) = true ∧ bit t (fEnabled page) = true := by
  have hhead (f : Fld) (hf : HeadKey f.key) :
      bit t f = bit (setF (fEnabled page) 1 (setF (fEnable page) 1 s)) f := by
    rw [bit, bit, getF_of_reg (h.head _ hf)]
  rw [hhead _ (.inl (by simp only; omega)), hhead _ (.inr (.inl (by simp only; omega)))]
  refine ⟨?_, bit_setF_one _ _ _ (by decide)⟩
  rw [bit, getF_setF_ne _ _ (fEnable_key_ne _)]
  exact bit_setF_one _ _ _ (by decide)

/-- PAGE_ENABLE_WRITE with 1: ENABLE and ENABLED rise, and every crossing of the block resynchronises (R414, R339). -/
theorem answers_pageOn {page : BitVec 12} (h : Runs s) (hu : Unpaired s)
    (hm : mode s ≠ mStandby ∨ mirroredPage page.toNat = false) (hk : pageKindOf page.toNat = some k)
    (hg : (pageInfo k).gate = true) (hen : bit s (fEnabled page.toNat) = false) :
    Answers (.pageEnableWrite page true) s (fun t =>
      bit t (fEnable page.toNat) = true ∧ bit t (fEnabled page.toNat) = true ∧
      (∀ x ∈ blockCrossings page.toNat, (xGet t x).resyncing = true) ∧ t.act = s.act ∧ t.fuse = s.fuse ∧
      t.dram = s.dram ∧ mode t = mode s) := by
  refine answers_pageEnable true h hm hk ?_
  rw [enableWrite_on (s := clearOut s) hu hg hen]
  have hframe := (FlushFrame.refl (setF (fEnabled page.toNat) 1 (setF (fEnable page.toNat) 1 (clearOut s)))).forAll
    (blockCrossings page.toNat) (f := resyncOwn) fun _ _ hu => hu.resyncOwn _
  obtain ⟨hon, hon'⟩ := enabled_of_flushFrame hframe
  refine ⟨hon, hon', blockCrossings_resyncing _ _, hframe.act, ?_, hframe.dram, ?_⟩
  · rw [kept_fuse, hframe.fuse]
    exact fuseJoin_self _
  · rw [mode, getF_kept, getF_of_reg (hframe.head _ (.inr (.inr rfl))), getF_setF_ne _ _ (by simp only [R.DEV_MODE]; omega),
      getF_setF_ne _ _ (by simp only [R.DEV_MODE]; omega)]
    rfl

/-- A raise of the sources 92 to 99 changes the fault block alone: they go straight to the collector. -/
theorem raise_direct {src : Nat} (h : 92 ≤ src ∧ src ≤ 99) (d : Nat) (s : State) :
    ∃ f, raise src d s = { s with flt := f } := by
  unfold raise
  split
  · exact ⟨_, rfl⟩
  · exact ⟨s.flt, rfl⟩

/-- The counters of a resynchronisation, and nothing else, follow it (R339). -/
theorem countResync_frame (items : Nat) (s : State) :
    ∃ r, addCnt64 R.CDC_RESYNC_ITEMS items (bump R.CDC_RESYNCS s) = { s with regs := r } ∧
      RegsBut [R.CDC_RESYNCS, R.CDC_RESYNC_ITEMS, R.CDC_RESYNC_ITEMS + 4] s { s with regs := r } := by
  refine ⟨_, rfl, fun k hk => ?_⟩
  simp only [List.mem_cons, List.not_mem_nil, or_false, not_or] at hk
  obtain ⟨h1, h2, h3⟩ := hk
  exact (reg_addCnt64 _ _ _ h2 h3).trans (reg_bump _ _ h1)

/-- An event crossing that resynchronises has its slots emptied; it is counted and raises source 94 (R339, R340). -/
theorem xResync_event {x : Nat} (hx : xType x = some 0) (hidle : (xGet s x).resyncing = false) (words : Nat) :
    ∃ r c f, xResync x words s = { s with regs := r, cdc := smSet dCross s.cdc x c, flt := f } ∧
      c.resyncing = true ∧ c.inFlight = none ∧ c.pending = none ∧
      RegsBut [R.CDC_RESYNCS, R.CDC_RESYNC_ITEMS, R.CDC_RESYNC_ITEMS + 4] s { s with regs := r } := by
  simp only [xResync, hx, hidle, Bool.false_eq_true, if_false, if_true, OfNat.zero_ne_ofNat]
  generalize hitems : (if (xGet s x).inFlight.isSome then 1 else 0) + (if (xGet s x).pending.isSome then 1 else 0) = items
  generalize hc : { xGet s x with inFlight := none, delivered := false, pending := none, stalled := false,
                                  resyncing := true, resyncItems := ((xGet s x).resyncItems + items) % 2 ^ 32 } = c
  obtain ⟨r, hr, hbut⟩ := countResync_frame items (xSet x c s)
  obtain ⟨f, hf⟩ := raise_direct (src := 94) (by decide) (x + min 127 items * 256) { xSet x c s with regs := r }
  rw [hr, hf]
  subst hc
  exact ⟨r, _, f, rfl, rfl, rfl, rfl, hbut⟩

/-- All that `resyncOwn` changes at an event crossing. -/
theorem resyncOwn_event {x : Nat} (hx : xType x = some 0) (hidle : (xGet s x).resyncing = false) :
    ∃ c, xGet (resyncOwn x s) x = c ∧ c.resyncing = true ∧ c.inFlight = none ∧ c.pending = none ∧
      RegsBut [R.CDC_RESYNCS, R.CDC_RESYNC_ITEMS, R.CDC_RESYNC_ITEMS + 4] s (resyncOwn x s) ∧
      ∃ r m f, resyncOwn x s = { s with regs := r, cdc := m, flt := f, freeIdx := s.freeIdx + 1 } := by
  obtain ⟨r, c, f, he, hsync, hfl, hpend, hbut⟩ := xResync_event (s := nextFree s) hx hidle ((free s).toNat % 64)
  change resyncOwn x s = _ at he
  rw [he]
  exact ⟨c, smGet_smSet_same _ _ _, hsync, hfl, hpend, hbut, _, _, _, rfl⟩

/-- The same of a block whose one crossing is that of the display outputs: all that changes is named. -/
theorem answers_pageOn_event {page : BitVec 12} (h : Runs s) (hu : Unpaired s)
    (hm : mode s ≠ mStandby ∨ mirroredPage page.toNat = false) (hk : pageKindOf page.toNat = some k)
    (hg : (pageInfo k).gate = true) (hen : bit s (fEnabled page.toNat) = false)
    (hx : blockCrossings page.toNat = [39]) (hidle : (xGet s 39).resyncing = false) :
    Answers (.pageEnableWrite page true) s (fun t =>
      bit t (fEnable page.toNat) = true ∧ bit t (fEnabled page.toNat) = true ∧ (xGet t 39).resyncing = true ∧
      (xGet t 39).inFlight = none ∧ (xGet t 39).pending = none ∧
      RegsBut [(fEnable page.toNat).key, (fEnabled page.toNat).key, R.CDC_RESYNCS, R.CDC_RESYNC_ITEMS,
        R.CDC_RESYNC_ITEMS + 4, R.CDC_OVERRUN_EVENTS] s t ∧
      t = { s with regs := t.regs, cdc := t.cdc, flt := t.flt, freeIdx := s.freeIdx + 1, out := [] }) := by
  refine answers_pageEnable true h hm hk ?_
  rw [enableWrite_on (s := clearOut s) hu hg hen, hx, forAll_cons, forAll_nil]
  generalize hset : setF (fEnabled page.toNat) 1 (setF (fEnable page.toNat) 1 (clearOut s)) = u
  obtain ⟨hon, hon'⟩ : bit (resyncOwn 39 u) (fEnable page.toNat) = true ∧
      bit (resyncOwn 39 u) (fEnabled page.toNat) = true := by
    subst hset
    exact enabled_of_flushFrame ((FlushFrame.refl _).resyncOwn 39)
  obtain ⟨r, hu, hbut⟩ : ∃ r, u = { s with regs := r, out := [] } ∧
      RegsBut [(fEnable page.toNat).key, (fEnabled page.toNat).key] s u := by
    subst hset
    exact ⟨_, rfl, regsBut_setReg _ (regsBut_setReg _ (fun _ _ => rfl) (by simp)) (by simp)⟩
  have hidle' : (xGet u 39).resyncing = false := by rw [hu]; exact hidle
  obtain ⟨c, hget, hsync, hfl, hpend, hbut', r', m, f, he⟩ := resyncOwn_event (by decide) hidle'
  have hkept : kept s (resyncOwn 39 u) = resyncOwn 39 u := kept_eq (by rw [he, hu]) (by rw [he, hu])
  rw [hkept, hget]
  refine ⟨hon, hon', hsync, hfl, hpend, fun j hj => ?_, by rw [he, hu]⟩
  simp only [List.mem_cons, List.not_mem_nil, or_false, not_or] at hj
  obtain ⟨h1, h2, h3, h4, h5, -⟩ := hj
  exact (hbut' j (by simp [h3, h4, h5])).trans (hbut j (by simp [h1, h2]))

/-! ### PAGE_LOCK -/

/-- A write of `PAGE_CTRL` with LOCK set and ENABLE as it stands sets LOCK alone (R415). -/
theorem pageCtrlWrite_lock (h : bit s (fEnable page) = bit s (fEnabled page)) :
    pageCtrlWrite k page (BitVec.ofNat 32 (4 + getF s (fEnable page))) s = lockPage page s := by
  have hlt : getF s (fEnable page) < 2 := Nat.mod_lt _ (by norm_num)
  have hen : enableWrite k page (bit s (fEnable page)) s = s := by simp [enableWrite, h]
  unfold pageCtrlWrite
  rcases (by omega : getF s (fEnable page) = 0 ∨ getF s (fEnable page) = 1) with h0 | h1
  · have hbit : bit s (fEnable page) = (BitVec.ofNat 32 (4 + 0)).toNat.testBit 0 := by rw [bit, h0]; decide
    rw [h0, ← hbit, hen]
    rfl
  · have hbit : bit s (fEnable page) = (BitVec.ofNat 32 (4 + 1)).toNat.testBit 0 := by rw [bit, h1]; decide
    rw [h1, ← hbit, hen]
    rfl

/-- PAGE_LOCK sets LOCK and LOCKED, and nothing else (R415). -/
theorem answers_pageLock {page : BitVec 12} (h : Runs s) (hm : mode s ≠ mStandby ∨ mirroredPage page.toNat = false)
    (hk : pageKindOf page.toNat = some k) (hen : bit s (fEnable page.toNat) = bit s (fEnabled page.toNat)) :
    Answers (.pageLock page) s (fun t =>
      bit t (fLocked page.toNat) = true ∧ bit t (fEnabled page.toNat) = bit s (fEnabled page.toNat) ∧
      RegsBut [(fEnable page.toNat).key, (fLocked page.toNat).key] s t ∧ OnlyRegs s t ∧ t.out = []) := by
  refine answers_hub (f := fun s => pageCtrlRow page.toNat (BitVec.ofNat 32 (4 + getF s (fEnable page.toNat))) s) rfl h ?_
  rw [pageCtrlRow_eq (s := clearOut s) hk hm, pageCtrlWrite_lock (s := clearOut s) hen]
  have honly : OnlyRegs s (lockPage page.toNat (clearOut s)) :=
    onlyRegs_setF (onlyRegs_setF (onlyRegs_clearOut s) _ _) _ _
  have hkey : (fLocked page.toNat).key ≠ page.toNat * 0x1000 + 0x008 := by simp only; omega
  rw [kept_onlyRegs honly]
  refine ⟨?_, ?_, ?_, honly, rfl⟩
  · rw [lockPage, bit, getF_setF_ne _ _ hkey]
    exact bit_setF_one _ _ _ (by decide)
  · rw [lockPage, bit, getF_setF_ne _ _ hkey,
      getF_setF_disj (f := fLocked page.toNat) (g := fEnabled page.toNat) _ _ (by simp) rfl (.inr (by simp))]
    rfl
  · exact regsBut_setReg _ (regsBut_setReg _ (fun _ _ => rfl) (by simp)) (by simp)

/-- Settles O37: each clause is the completion lemma of its command above. -/
theorem registerWritesActByAccessType : Obligations.RegisterWritesActByAccessType := by
  unfold Obligations.RegisterWritesActByAccessType
  exact ⟨fun _ _ _ _ _ h hr hm ho hk hs => answers_scratchWrite h hr hm ho hk hs,
   fun _ _ _ _ _ _ _ _ h hr hu hm hk hs h4 ho hrow hsel hkey hen ha =>
     answers_typedWrite h hr hu hm hk hs h4 ho hrow hsel hkey hen ha,
   fun _ _ _ _ _ h hs hsrc haddr => answers_reservedSourceWrite h hs hsrc haddr,
   fun _ _ _ h hr hs hp => answers_refusedWrite h hr hs hp,
   fun _ _ _ _ _ h hr hm hp hmir h4 hk hs hcfg hact => answers_standbyWrite h hr hm hp hmir h4 hk hs hcfg hact,
   fun _ _ _ _ _ _ _ h hr hk hs h4 ho hen hrow hsel hkey hw hlow ht hc =>
     answers_counterRead h hr hk hs h4 ho hen hrow hsel hkey hw hlow ht hc,
   fun _ _ _ h hu hm hk hg hen hi => answers_pageOff h hu hm hk hg hen hi,
   fun _ _ _ h hu hm hk hg hen => answers_pageOn h hu hm hk hg hen,
   fun _ _ _ h hu hm hk hg hen hx hidle => answers_pageOn_event h hu hm hk hg hen hx hidle,
   fun _ _ _ h hm hk hen => answers_pageLock h hm hk hen⟩

end Sys2Proof.Machine

/-! ## The state after reset -/

namespace Sys2Proof.Machine

/-- The five links, pages 0x10 to 0x14 of Table 18-7, are DOWN after reset. -/
theorem linkState_reset (n : Port) : linkState State.reset n = lsDown := by
  revert n
  decide

/-- The address that stands for a status register of link 239 is that of AO.WAKE_EN, whose reset value is 0x13F. -/
theorem linkState_reset_239 : linkState State.reset 239 = 7 := by decide

/-- Refutes O46: it says DOWN of every number `n`, and beyond the five links `LINK_STATUS n` is the address of another register;
at n = 239 that is AO.WAKE_EN, whose low three bits reset to 7. -/
theorem not_resetLeavesTheHubOff : ¬ Obligations.ResetLeavesTheHubOff := by
  unfold Obligations.ResetLeavesTheHubOff
  rintro ⟨-, -, -, -, -, -, hlinks, -⟩
  have hdown : linkState State.reset 239 = lsDown := hlinks 239
  rw [linkState_reset_239] at hdown
  exact absurd hdown (by decide)

end Sys2Proof.Machine

/-! ## The dies that a command needs (R13, R374, R436) -/

namespace Sys2Proof.Machine

variable {c : Instr} {s : State}

/-- A command outside Table 18-8's power die is an effect behind `hub`. Each command is either one of the power die, which the
premise excludes, or its meaning starts with `hub`. -/
theorem exec_eq_hub (h : ofPowerDie c = false) (s : State) : ∃ f, exec c s = hub s f := by
  cases c <;> dsimp only [ofPowerDie, exec] at h ⊢ <;>
    first
      | exact ⟨_, rfl⟩
      | exact absurd h.symm Bool.false_ne_true

/-- An AUX channel is served by the die that it belongs to. -/
theorem auxDie_eq (k : Nat) (s : State) (f : State → State) : auxDie k s f = hub s f ∨ auxDie k s f = power s f := by
  unfold auxDie
  split
  · exact .inl rfl
  · exact .inr rfl

/-- A write of `TC.CMD` is served by the power die. -/
theorem tcRow_eq (n : Fin 4) (op : Nat) (answer : PdAnswer) (s : State) :
    tcRow n op answer s = power s (fun s => tcAnswer n op answer (tcCmd n op s)) := rfl

/-- A command of the power die is an effect behind `power`, but for that of an AUX channel of the hub die, and for the two that
give and take VDD_AO itself. -/
theorem exec_eq_power (h : ofPowerDie c = true) (hon : ∀ straps high, c ≠ .powerOnReset straps high)
    (hloss : c ≠ .vddAoPowerLoss) (s : State) : ∃ f, exec c s = hub s f ∨ exec c s = power s f := by
  cases c <;> dsimp only [ofPowerDie, exec] at h ⊢
  case powerOnReset straps high => exact absurd rfl (hon straps high)
  case vddAoPowerLoss => exact absurd rfl hloss
  case auxTransactionStart => exact ⟨_, auxDie_eq _ _ _⟩
  case auxTransactionDone => exact ⟨_, auxDie_eq _ _ _⟩
  case tcPrSwap | tcDrSwap | tcVconnSwap | tcExitMode | tcGetSrcCaps => exact ⟨_, .inr (tcRow_eq _ _ _ _)⟩
  all_goals
    first
      | exact absurd h Bool.false_ne_true
      | exact ⟨_, .inr rfl⟩

/-- Settles O47: such a command is an effect behind `hub`, which drops it. -/
theorem withoutTheHubDieNothingHappens : Obligations.WithoutTheHubDieNothingHappens := by
  unfold Obligations.WithoutTheHubDieNothingHappens
  intro c s hc hs
  obtain ⟨f, hf⟩ := exec_eq_hub hc s
  rw [hf, hub_of_not hs]
  rfl

theorem hubRuns_of_off (h : s.pwr.on = false) : hubRuns s = false := by simp [hubRuns, h]

/-- Settles O48: without VDD_AO neither die takes a command. -/
theorem withoutVddAoNothingHappens : Obligations.WithoutVddAoNothingHappens := by
  unfold Obligations.WithoutVddAoNothingHappens
  intro c s hon hloss hs
  have hdropped : ∃ f, exec c s = hub s f ∨ exec c s = power s f := by
    cases hc : ofPowerDie c with
    | false => exact (exec_eq_hub hc s).imp fun _ => .inl
    | true => exact exec_eq_power hc hon hloss s
  obtain ⟨f, hf | hf⟩ := hdropped
  · rw [hf, hub_of_not (hubRuns_of_off hs)]
    rfl
  · rw [hf, power_of_off hs]
    rfl

end Sys2Proof.Machine

/-! ## Mode requests, island causes and the commit of DEV (R20–R30, R430, R457) -/

namespace Sys2Proof.Machine

variable {s t : State}

/-- A command of the hub die whose effect keeps the queue and the antifuse completes with that effect. -/
theorem answers_hub_eq {c : Instr} {f : State → State} {P : State → Prop} (e : exec c s = hub s f) (h : Runs s)
    (ht : f (clearOut s) = t) (hpend : t.pending = s.pending) (hfuse : t.fuse = s.fuse) (hP : P t) : Answers c s P := by
  refine answers_hub e h ?_
  rwa [ht, kept_eq hpend hfuse]

theorem modeRequest_accepted {p : Path} {target : Nat} (hbusy : bit s fReqBusy = false) (hswap : bit s fSwapping = false)
    (hlc : bit s ⟨R.SEC_LC_STATUS, 0, 1⟩ = false) (h : requestable s target = true) :
    modeRequest p target s = setF fReqBusy 1 (modModes (fun x => { x with req := some ⟨target, p⟩ }) s) := by
  simp [modeRequest, hbusy, hswap, hlc, h]

/-- A request that may be made is noted as under way (R21). -/
theorem answers_modeRequest {p : Path} {target : BitVec 3} (h : Runs s) (hbusy : bit s fReqBusy = false)
    (hswap : bit s fSwapping = false) (hlc : bit s ⟨R.SEC_LC_STATUS, 0, 1⟩ = false)
    (hreq : requestable s target.toNat = true) :
    Answers (.modeRequest p target) s (fun t =>
      bit t fReqBusy = true ∧ mode t = mode s ∧ t.modes.req = some ⟨target.toNat, p⟩ ∧ RegsBut [R.DEV_MODE] s t ∧
      t = { s with regs := t.regs, modes := t.modes, out := [] }) := by
  refine answers_hub_eq rfl h (modeRequest_accepted (s := clearOut s) hbusy hswap hlc hreq) rfl rfl ?_
  refine ⟨bit_setF_one _ _ _ (by decide), ?_, rfl, regsBut_setReg _ (fun _ _ => rfl) (by simp), rfl⟩
  exact getF_setF_disj (f := fReqBusy) (g := fCur) 1 _ (by decide) rfl (.inr (by decide))

theorem modeComplete_solo {p : Path} (hreq : s.modes.req = some ⟨mSolo, p⟩) (hm : mode s = mCold)
    (hcheck : requestCheck s ⟨mSolo, p⟩ = 0) :
    modeComplete s = changeModeAndTime mSolo (setF fReqResult 0 (setF fReqBusy 0
      (modModes (fun x => { x with req := none }) s))) := by
  have hcold : mode (setF fReqResult 0 (setF fReqBusy 0 (modModes (fun x => { x with req := none }) s))) = mCold := by
    rw [mode, getF_setF_disj (f := fReqResult) (g := fCur) 0 _ (by decide) rfl (.inr (by decide)),
      getF_setF_disj (f := fReqBusy) (g := fCur) 0 _ (by decide) rfl (.inr (by decide))]
    exact hm
  simp only [modeComplete, hreq, hcheck, hcold]
  rfl

/-- The request for SOLO succeeds at its commit point in COLD (R22). -/
theorem answers_modeTransitionComplete {p : Path} (h : Runs s) (hreq : s.modes.req = some ⟨mSolo, p⟩) (hm : mode s = mCold)
    (hcheck : requestCheck s ⟨mSolo, p⟩ = 0) :
    Answers .modeTransitionComplete s (fun t =>
      t = kept s (changeModeAndTime mSolo (setF fReqResult 0 (setF fReqBusy 0
        { s with out := [], modes := { s.modes with req := none } })))) := by
  refine answers_hub (f := modeComplete) rfl h ?_
  rw [modeComplete_solo (s := clearOut s) hreq hm hcheck]
  rfl

theorem declareIsland_armed (h : islandArmed s = true) (c : Nat) : declareIsland c s = enterIsland c s := if_pos h

/-- The upstream of an armed plan has been lost for GRACE: cause 1 (R25, R457). -/
theorem answers_islandGraceExpiry (h : Runs s) (harm : islandArmed s = true)
    (hu : getA s fUpstream ≤ 3 ∨ getA s fUpstream = 5) (hlost : upstreamThere s (getA s fUpstream) = false)
    (hgrace : graceStart s (getA s fUpstream) + graceTicks s ≤ s.ticks) :
    Answers .islandGraceExpiry s (fun t => t = kept s (enterIsland 1 (clearOut s))) := by
  refine answers_hub rfl h ?_
  have hcause : (getA s fUpstream ≤ 3 ∨ getA s fUpstream = 5) ∧ !upstreamThere s (getA s fUpstream) ∧
      graceStart s (getA s fUpstream) + graceTicks s ≤ s.ticks := ⟨hu, by simp [hlost], hgrace⟩
  rw [← declareIsland_armed (s := clearOut s) harm]
  exact congrArg (kept s) (if_pos hcause)

theorem exec_hostWatchdogExpiry (s : State) : exec .hostWatchdogExpiry s = execHostWatchdogExpiry s := rfl

/-- The watchdog period of an armed plan has passed: cause 2 (R25). -/
theorem answers_hostWatchdogExpiry (h : Runs s) (harm : islandArmed s = true) (hw : wdogTicks s ≠ 0)
    (hlate : s.modes.wdogTick + wdogTicks s ≤ s.ticks) :
    Answers .hostWatchdogExpiry s (fun t => t = kept s (enterIsland 2 (clearOut s))) := by
  refine answers_hub (exec_hostWatchdogExpiry s) h ?_
  rw [← declareIsland_armed (s := clearOut s) harm]
  exact congrArg (kept s) (if_pos ⟨hw, hlate⟩)

/-- HOST_KICK starts the watchdog afresh, and clears the cause of an ISLAND that the watchdog caused (R457). -/
theorem answers_hostKick (h : Runs s) :
    Answers .hostKick s (fun t =>
      t.modes.wdogTick = s.ticks ∧ (mode s = mIsland → getF s fIslCause = 2 → bit t fCauseClear = true) ∧
      RegsBut [R.DEV_MODE] s t ∧ t = { s with regs := t.regs, modes := t.modes, out := [] }) := by
  by_cases hc : mode s = mIsland ∧ getF s fIslCause = 2
  · refine answers_hub_eq (t := setF fCauseClear 1 (modModes (fun x => { x with wdogTick := s.ticks }) (clearOut s)))
      rfl h (if_pos hc) rfl rfl ?_
    exact ⟨rfl, fun _ _ => bit_setF_one _ _ _ (by decide), regsBut_setReg _ (fun _ _ => rfl) (by simp), rfl⟩
  · refine answers_hub_eq (t := modModes (fun x => { x with wdogTick := s.ticks }) (clearOut s)) rfl h (if_neg hc) rfl rfl ?_
    exact ⟨rfl, fun hm hi => absurd ⟨hm, hi⟩ hc, fun _ _ => rfl, rfl⟩

/-- A commit of DEV outside the standby that does not move the hub ID, or does so in COLD, takes effect (R430). -/
theorem answers_devCommit (h : Runs s) (hm : mode s ≠ mStandby)
    (hid : mode s = mCold ∨ getF s ⟨R.DEV_HID, 0, 6⟩ = getA s ⟨R.DEV_HID, 0, 6⟩) :
    Answers .devCommit s (fun t => t = kept s (devApply (clearOut s))) := by
  refine answers_hub (f := devCommit) rfl h ?_
  have hmoves : ¬ (getF s ⟨R.DEV_HID, 0, 6⟩ ≠ getA s ⟨R.DEV_HID, 0, 6⟩ ∧ mode s ≠ mCold) := by
    rintro ⟨hne, hcold⟩
    exact hid.elim hcold hne
  exact congrArg (kept s) ((if_neg (show mode (clearOut s) ≠ mStandby from hm)).trans (if_neg hmoves))

/-- Settles O1: each clause is the completion lemma of its command above. -/
theorem modeCommandsComplete : Obligations.ModeCommandsComplete := by
  unfold Obligations.ModeCommandsComplete
  exact ⟨fun _ _ _ h hbusy hswap hlc hreq => answers_modeRequest h hbusy hswap hlc hreq,
    fun _ _ h hreq hm hcheck => answers_modeTransitionComplete h hreq hm hcheck,
    fun _ h harm hu hlost hgrace => answers_islandGraceExpiry h harm hu hlost hgrace,
    fun _ h harm hw hlate => answers_hostWatchdogExpiry h harm hw hlate,
    fun _ h => answers_hostKick h,
    fun _ h hm hid => answers_devCommit h hm hid⟩

end Sys2Proof.Machine

/-! ## What leaves the mode, its notes and AO.STATUS alone

A change of mode sets tunnels, adapters, links and the source of Plumb going, and a wake restores whole blocks. All of that may
move CAUSE_CLEAR with the upstream of an island plan (Table 1-6), but no other field of DEV.MODE, and neither AO.STATUS, the
notes that the model keeps about the mode, nor the time. -/

namespace Sys2Proof.Machine

-- One theorem after another: many at once, behind the evaluations of the tests, exceed the limit on threads.
set_option Elab.async false

variable {s t u : State}

/-- A register other than DEV.MODE and AO.STATUS. -/
abbrev PlainKey (k : Nat) : Prop := k ≠ R.DEV_MODE ∧ k ≠ R.AO_STATUS

/-- The fields of the state that ModeFrame speaks of. -/
def modeFields (s : State) : SMap Word × Modes × Nat := (s.regs, s.modes, s.ticks)

/-- What stands in `t` as it stood in `s`: of DEV.MODE all but CAUSE_CLEAR. -/
structure ModeFrame (s t : State) : Prop where
  modes : t.modes = s.modes
  ticks : t.ticks = s.ticks
  power : reg t R.AO_STATUS = reg s R.AO_STATUS
  fields : ∀ f : Fld, f.key = R.DEV_MODE → f.lo + f.w ≤ 10 ∨ 11 ≤ f.lo → getF t f = getF s f

namespace ModeFrame

/-! ### Shared operations -/

theorem refl (s : State) : ModeFrame s s := ⟨rfl, rfl, rfl, fun _ _ _ => rfl⟩

theorem trans (h : ModeFrame s t) (h' : ModeFrame t u) : ModeFrame s u :=
  ⟨h'.modes.trans h.modes, h'.ticks.trans h.ticks, h'.power.trans h.power,
    fun f hk hf => (h'.fields f hk hf).trans (h.fields f hk hf)⟩

theorem same (h : ModeFrame s t) (e : modeFields u = modeFields t := by rfl) : ModeFrame s u := by
  simp only [modeFields, Prod.mk.injEq] at e
  obtain ⟨hregs, hmodes, hticks⟩ := e
  exact h.trans ⟨hmodes, hticks, reg_congr hregs _, fun f _ _ => getF_congr hregs f⟩

theorem mode_eq (h : ModeFrame s t) : mode t = mode s := h.fields fCur rfl (.inl (by decide))

theorem setReg {k : Nat} (h : ModeFrame s t) (v : Word) (hk : PlainKey k := by decide) : ModeFrame s (Machine.setReg k v t) :=
  h.trans ⟨rfl, rfl, reg_setReg_ne v t hk.2.symm, fun _ hf _ => getF_setReg_ne v t (hf ▸ hk.1.symm)⟩

theorem setF {f : Fld} (h : ModeFrame s t) (v : Nat) (hk : PlainKey f.key := by decide) : ModeFrame s (Machine.setF f v t) :=
  h.setReg _ hk

theorem setCauseClear (h : ModeFrame s t) (v : Nat) : ModeFrame s (Machine.setF fCauseClear v t) :=
  h.trans ⟨rfl, rfl, reg_setF_ne (f := fCauseClear) v t (by decide), fun f hk hf =>
    getF_setF_disj (f := fCauseClear) v t (by decide) hk (hf.symm.imp id id)⟩

theorem addCnt {k : Nat} (h : ModeFrame s t) (n : Nat) (hk : PlainKey k := by decide) : ModeFrame s (Machine.addCnt k n t) :=
  h.setReg _ hk

theorem bump {k : Nat} (h : ModeFrame s t) (hk : PlainKey k := by decide) : ModeFrame s (Machine.bump k t) := h.addCnt 1 hk

theorem addCnt64 {k : Nat} (h : ModeFrame s t) (n : Nat) (hk : PlainKey k := by decide)
    (hk' : PlainKey (k + 4) := by decide) :
    ModeFrame s (Machine.addCnt64 k n t) :=
  (h.setReg _ hk).setReg _ hk'

theorem bump64 {k : Nat} (h : ModeFrame s t) (hk : PlainKey k := by decide)
    (hk' : PlainKey (k + 4) := by decide) : ModeFrame s (Machine.bump64 k t) :=
  h.addCnt64 1 hk hk'

theorem when (h : ModeFrame s t) (c : Bool) {f : State → State} (hf : ∀ u, ModeFrame s u → ModeFrame s (f u)) :
    ModeFrame s (Machine.when c f t) := by
  cases c
  · exact h
  · exact hf _ h

/-- Two ways on, each of which keeps the frame. -/
theorem ite {c : Prop} [Decidable c] (ht : ModeFrame s t) (hu : ModeFrame s u) : ModeFrame s (if c then t else u) := by
  split
  · exact ht
  · exact hu

/-- An effect under a condition, which keeps the frame. -/
theorem guarded (h : ModeFrame s t) (c : Prop) [Decidable c] {f : State → State}
    (hf : ∀ u, ModeFrame s u → ModeFrame s (f u)) : ModeFrame s (if c then f t else t) := ite (hf _ h) h

/-- An effect for each element of a list, each of which keeps the frame. -/
theorem forAll {α : Type} (h : ModeFrame s t) (l : List α) {f : α → State → State}
    (hf : ∀ a ∈ l, ∀ u, ModeFrame s u → ModeFrame s (f a u)) : ModeFrame s (Machine.forAll l f t) := by
  induction l generalizing t with
  | nil => exact h
  | cons a l ih => exact ih (hf a List.mem_cons_self t h) fun b hb => hf b (List.mem_cons_of_mem a hb)

theorem limited (h : ModeFrame s t) (key period : Nat) {f : State → State}
    (hf : ∀ u, ModeFrame s u → ModeFrame s (f u)) : ModeFrame s (Machine.limited key period f t) := by
  unfold Machine.limited
  dsimp only
  split
  · exact hf _ h.same
  · exact h

theorem pulse (h : ModeFrame s t) (x : Nat) (p : Pulse) : ModeFrame s (Machine.pulse x p t) := by
  unfold Machine.pulse
  dsimp only
  split
  · exact h.same
  split
  · exact h.same
  have hb : ModeFrame s (Machine.bump R.CDC_OVERRUN_EVENTS
      (xSet x { xGet t x with overrun := true, lost := min 255 ((xGet t x).lost + 1) } t)) :=
    bump h.same
  split
  · exact hb
  · exact hb.same

theorem raise (h : ModeFrame s t) (src d : Nat) : ModeFrame s (Machine.raise src d t) := by
  unfold Machine.raise
  split
  · split
    · exact h.same
    · exact h.pulse _ _
  · exact h

theorem raiseN (h : ModeFrame s t) (src : Nat) : ModeFrame s (Machine.raiseN src t) := (h.same (u := nextFree t)).raise _ _

theorem setAct (h : ModeFrame s t) (k : Nat) (v : Word) : ModeFrame s (Machine.setAct k v t) := h.same
theorem emit (h : ModeFrame s t) (o : Output) : ModeFrame s (Machine.emit o t) := h.same
theorem sendCtl (h : ModeFrame s t) (n : Nat) (payload : List Byte) : ModeFrame s (Machine.sendCtl n payload t) := h.same

/-! ### The journal -/

theorem journalOverflow (h : ModeFrame s t) : ModeFrame s (Machine.journalOverflow t) := by
  unfold Machine.journalOverflow
  dsimp only
  refine raise (bump (setF (setF (when h.same _ fun _ hu => hu.same) _ ?_) _ ?_) ?_) _ _
  all_goals decide

theorem sendRecord (h : ModeFrame s t) (r : JRec) : ModeFrame s (Machine.sendRecord r t) :=
  sendCtl (bump64 (h.setReg _)) _ _

theorem journal (h : ModeFrame s t) (type : Nat) (body : List Byte) (last : Bool) :
    ModeFrame s (Machine.journal type body last t) := by
  unfold Machine.journal
  dsimp only
  split
  · split
    · exact h.journalOverflow
    · split
      · exact sendRecord (setF h.same _) _
      · exact setF h.same _
  · exact h

theorem journalReg (h : ModeFrame s t) (key : Nat) (v : Word) : ModeFrame s (Machine.journalReg key v t) := by
  unfold Machine.journalReg journalWord
  dsimp only
  split
  · split
    · exact h.journal _ _ _
    · split
      · exact h.journal _ _ _
      · exact ((h.journal _ _ _).journal _ _ _).journal _ _ _
  · exact h

/-! ### Queues and cells -/

theorem qSet (h : ModeFrame s t) (q : Nat) (v : Queue) : ModeFrame s (Machine.qSet q v t) := h.same
theorem tSet (h : ModeFrame s t) (i : Nat) (v : Tunnel) : ModeFrame s (Machine.tSet i v t) := h.same
theorem scSet (h : ModeFrame s t) (m : Nat) (v : Sched) : ModeFrame s (Machine.scSet m v t) := h.same

theorem setCredit (h : ModeFrame s t) (m key : Nat) (v : Int) : ModeFrame s (Machine.setCredit m key v t) :=
  h.scSet _ _

theorem noteFill (h : ModeFrame s t) (q : Nat) : ModeFrame s (Machine.noteFill q t) := by
  unfold Machine.noteFill
  split
  · split
    · exact h
    · exact h.same
  · exact h.same

theorem dropCandidate (h : ModeFrame s t) (i : Nat) : ModeFrame s (Machine.dropCandidate i t) := by
  unfold Machine.dropCandidate unhold
  refine forAll (forAll h _ fun m _ u hu => ?_) _ fun g _ u hu => ?_
  all_goals
    dsimp only
    split
    · exact hu.same
    · exact hu

theorem dropTags (h : ModeFrame s t) (i : Nat) : ModeFrame s (Machine.dropTags i t) := by
  refine forAll (h.dropCandidate i) _ fun m _ u hu => ?_
  dsimp only
  split
  · exact hu.same
  · exact hu

theorem discardCells (h : ModeFrame s t) (i : Nat) : ModeFrame s (Machine.discardCells i t).2 := by
  unfold Machine.discardCells
  dsimp only
  exact noteFill (dropCandidate h.same i) i

theorem accrue (h : ModeFrame s t) (m : Nat) : ModeFrame s (Machine.accrue m t) := by
  unfold Machine.accrue
  dsimp only
  refine scSet (forAll h _ fun p _ u hu => ?_) _ _
  split
  · exact hu.setCredit _ _ _
  · exact hu.setCredit _ _ _

theorem overbookCheck (h : ModeFrame s t) (m : Nat) : ModeFrame s (Machine.overbookCheck m t) := by
  have hov (v : Nat) : ModeFrame s (Machine.setF (fOverbooked m) v t) := h.setF v (by
    simp only [PlainKey, R.SCH_STATUS, R.DEV_MODE, R.AO_STATUS]; omega)
  unfold Machine.overbookCheck
  dsimp only
  split
  · refine raise (bump (hov _) ?_) _ _
    simp only [PlainKey, R.SCH_OVERBOOK_ENTRIES, R.DEV_MODE, R.AO_STATUS]; omega
  · exact hov _

theorem countCtAbort (h : ModeFrame s t) (eg : Nat) : ModeFrame s (Machine.countCtAbort eg t) :=
  limited (h.bump (by decide)) _ _ fun _ hu => hu.raise _ _

theorem abortAdapter (h : ModeFrame s t) (i : Nat) : ModeFrame s (Machine.abortAdapter i t) := by
  unfold Machine.abortAdapter
  dsimp only
  split
  · split <;> split <;> exact h.same
  · exact h

theorem closeEgress (h : ModeFrame s t) (i : Nat) : ModeFrame s (Machine.closeEgress i t) := by
  unfold Machine.closeEgress
  dsimp only
  split
  · split
    · exact h.same
    · exact abortAdapter h.same i
  · exact h

theorem closeBehind (h : ModeFrame s t) (i : Nat) : ModeFrame s (Machine.closeBehind i t) := by
  unfold Machine.closeBehind
  dsimp only
  split
  · exact h.closeEgress i
  · exact h.same

theorem removeLast (h : ModeFrame s t) (i k : Nat) : ModeFrame s (Machine.removeLast i k t) := by
  unfold Machine.removeLast
  dsimp only
  refine noteFill ?_ i
  split <;> split
  · exact dropCandidate h.same i
  · exact h.same
  · exact dropCandidate h.same i
  · exact h.same

theorem closeArriving (h : ModeFrame s t) (i : Nat) : ModeFrame s (Machine.closeArriving i t) := by
  unfold Machine.closeArriving
  dsimp only
  split
  · exact h
  · split
    · exact countCtAbort (closeBehind h.same i) _
    · exact removeLast h.same i _

/-! ### Placing the cells of a control frame -/

theorem injected (h : ModeFrame s t) (page chk writes : Nat) :
    ModeFrame s (Machine.injected page chk writes t) := by
  unfold Machine.injected
  dsimp only
  split
  · have hc : ModeFrame s (Machine.addCnt R.FLT_FI_INJECTIONS (min (natGet t.fi page) writes)
        { t with fi := natSet t.fi page (natGet t.fi page - min (natGet t.fi page) writes) }) :=
      addCnt h.same _
    split
    · exact hc.setF _ (by simp only [PlainKey, R.DEV_MODE, R.AO_STATUS]; omega)
    · exact hc
  · exact h

theorem storeCells (h : ModeFrame s t) (cs : List QCell) : ModeFrame s (Machine.storeCells cs t).2 := by
  induction cs generalizing t with
  | nil => exact h
  | cons c cs ih => exact ih ((h.injected 0x52 0 8).injected 0x52 2 1)

theorem storeLines (h : ModeFrame s t) (cs : List QCell) : ModeFrame s (Machine.storeLines cs t).2 := by
  induction cs generalizing t with
  | nil => exact h
  | cons c cs ih => exact ih (h.injected 0x53 0 8)

theorem writeStaging (h : ModeFrame s t) (q : Nat) : ModeFrame s (Machine.writeStaging q t) := by
  unfold Machine.writeStaging
  dsimp only
  split
  · exact (h.storeLines _).same rfl
  · exact h

theorem tailDrop (h : ModeFrame s t) (q flag : Nat) : ModeFrame s (Machine.tailDrop q flag t) := by
  refine limited (bump64 (h.bump ?_)) _ _ fun _ hu => hu.raise _ _
  simp only [PlainKey, regKey, R.BUF_QDROPS, R.DEV_MODE, R.AO_STATUS]; omega

theorem placeTail (h : ModeFrame s t) (q : Nat) (c : QCell) : ModeFrame s (Machine.placeTail q c t).2 := by
  unfold Machine.placeTail
  dsimp only
  have hw := h.writeStaging q
  split
  · exact tailDrop (hw.bump (by decide)) _ _
  · exact noteFill (writeStaging (bump64 hw.same) q) q

theorem placeOnchip (h : ModeFrame s t) (q : Nat) (c : QCell) : ModeFrame s (Machine.placeOnchip q c t) :=
  (storeCells (h.injected 0x52 1 1) [c]).same

theorem place (h : ModeFrame s t) (q arr : Nat) (lead : Bool) (c : QCell) : ModeFrame s (Machine.place q arr lead c t).2 := by
  unfold Machine.place
  dsimp only
  split
  · exact h.tailDrop _ _
  split
  · exact h.placeOnchip _ _
  split
  · exact h.placeTail _ _
  split
  · exact h.placeOnchip _ _
  split
  · split
    · exact tailDrop (h.bump (by decide)) _ _
    · exact placeTail (bump h.same) _ _
  split
  · exact h.bump (by decide)
  · exact h.tailDrop _ _

theorem placeEach (h : ModeFrame s t) (q arr : Nat) (cs : List QCell) (lead : Bool) (k : Nat) (lost : Bool) :
    ModeFrame s (Machine.placeEach q arr cs lead k lost t).2.2 := by
  induction cs generalizing t lead k lost with
  | nil => exact h
  | cons c cs ih =>
    unfold Machine.placeEach
    dsimp only
    split <;> exact ih (h.place q arr lead c) _ _ _

theorem placeControl (h : ModeFrame s t) (arr m tid : Nat) (bytes : List Byte) :
    ModeFrame s (Machine.placeControl arr m tid bytes t) := by
  unfold Machine.placeControl
  dsimp only
  have hp := (h.accrue m).placeEach (256 + m) arr ((frameCells tid 3 bytes).map (fun c => { c with eg := m })) false 0 false
  split
  · exact bump (hp.removeLast _ _)
  split
  · exact hp
  · exact hp.same

theorem sendTid0 (h : ModeFrame s t) (data : List Byte) : ModeFrame s (Machine.sendTid0 data t) := by
  unfold Machine.sendTid0
  split
  · exact h.placeControl _ _ _ _
  · exact h.bump (by decide)

/-! ### Tunnels -/

theorem sendE2e (h : ModeFrame s t) (type i seq : Nat) : ModeFrame s (Machine.sendE2e type i seq t) := h.sendTid0 _

theorem entCnt {base : Nat} (h : ModeFrame s t) (i n : Nat) (hb : 0x50000 ≤ base ∧ base < 0x51000) :
    ModeFrame s (Machine.addCnt (Machine.entCnt base i) n t) :=
  h.addCnt n (by simp only [PlainKey, Machine.entCnt, regKey, R.DEV_MODE, R.AO_STATUS]; omega)

theorem resendAll (h : ModeFrame s t) (i : Nat) : ModeFrame s (Machine.resendAll i t) := by
  unfold Machine.resendAll
  dsimp only
  exact entCnt h.same _ _ (by decide)

theorem offerAgain (h : ModeFrame s t) (e : Entry) : ModeFrame s (Machine.offerAgain e t) := by
  unfold Machine.offerAgain
  split
  · split
    · exact h.same
    · exact h
  · exact h

theorem takeBack (h : ModeFrame s t) (i more : Nat) : ModeFrame s (Machine.takeBack i more t) := by
  unfold Machine.takeBack
  dsimp only
  split
  · exact tSet (removeLast (tSet h _ _) _ _) _ _
  · exact removeLast (tSet h _ _) _ _

theorem restartFrames (h : ModeFrame s t) (i : Nat) : ModeFrame s (Machine.restartFrames i t) := by
  unfold Machine.restartFrames
  dsimp only
  split
  · exact h
  split
  · exact offerAgain (takeBack (when h _ fun _ hu => countCtAbort (closeEgress hu _) _) _ _) _
  · exact closeArriving (when h _ fun _ hu => entCnt hu _ _ (by decide)) _

theorem resync (h : ModeFrame s t) (i : Nat) : ModeFrame s (Machine.resync i t) := by
  unfold Machine.resync
  dsimp only
  have hr := bump (k := R.TUN_RESYNCS) (restartFrames (when h (!(tGet t i).rx.any (headGone t i))
    fun _ hu => closeEgress hu i) i)
  split
  · split
    · exact hr.resendAll i
    · exact hr.sendE2e _ _ _
  · exact hr

theorem takeDeferred (h : ModeFrame s t) (i : Nat) : ModeFrame s (Machine.takeDeferred i t) := by
  unfold Machine.takeDeferred
  dsimp only
  split
  · exact setCredit (tSet h _ _) _ _ _
  · exact tSet h _ _

theorem resume (h : ModeFrame s t) (i : Nat) : ModeFrame s (Machine.resume i t) := by
  unfold Machine.resume
  split
  · exact (h.takeDeferred i).resync i
  · exact h

theorem forget (h : ModeFrame s t) {i : Nat} (hi : i < 256) : ModeFrame s (Machine.forget i t) := by
  unfold Machine.forget
  refine qSet (tSet (dropTags (setF h _ ?_) i) _ _) _ _
  simp only [PlainKey, bitIn, R.TUN_STALLED, R.DEV_MODE, R.AO_STATUS]; omega

theorem removeTunnel (h : ModeFrame s t) {i : Nat} (hi : i < 256) : ModeFrame s (Machine.removeTunnel i t).2 := by
  unfold Machine.removeTunnel
  dsimp only
  refine forget (entCnt (discardCells (closeEgress ?_ i) i) _ _ (by decide)) hi
  split
  · split
    · exact h.countCtAbort _
    · exact h
  · exact h

theorem clearEntry (h : ModeFrame s t) (i : Nat) : ModeFrame s (Machine.clearEntry i t) := by
  refine forAll h _ fun w hw u hu => ?_
  have hk : PlainKey (entKey i w) := by
    simp only [List.mem_cons, List.not_mem_nil, or_false] at hw
    simp only [PlainKey, entKey, regKey, R.TUN_ENTRY0, R.DEV_MODE, R.AO_STATUS]
    omega
  exact setAct (hu.setReg 0 hk) _ _

theorem teardown (h : ModeFrame s t) {i : Nat} (hi : i < 256) : ModeFrame s (Machine.teardown i t).2 := by
  unfold Machine.teardown
  dsimp only
  refine addCnt64 (bump (setF (clearEntry (h.removeTunnel hi) i) 1 ?_)) _
  simp only [PlainKey, bitIn, R.TUN_TORN, R.DEV_MODE, R.AO_STATUS]; omega

/-! ### Adapters -/

theorem offerFrame (h : ModeFrame s t) (m : Nat) (f : InFrame) : ModeFrame s (Machine.offerFrame m f t) := h.same

theorem linkUse (h : ModeFrame s t) (k : Nat) : ModeFrame s (Machine.linkUse k t) := by
  refine setF h.same 0 ?_
  simp only [PlainKey, R.PCIE_STATUS, R.DEV_MODE, R.AO_STATUS]; omega

theorem txTlps (h : ModeFrame s t) (k n : Nat) : ModeFrame s (Machine.addCnt64 (R.PCIE_TX_TLPS k) n t) := by
  refine h.addCnt64 n ?_ ?_
  all_goals simp only [PlainKey, R.PCIE_TX_TLPS, R.DEV_MODE, R.AO_STATUS]; omega

theorem complete (h : ModeFrame s t) (f tag status lower : Nat) (data : List Byte) (ep : Bool) :
    ModeFrame s (Machine.complete f tag status lower data ep t) := by
  unfold Machine.complete
  dsimp only
  split
  · exact forAll h _ fun _ _ _ hu => hu.offerFrame _ _
  split
  · exact emit (txTlps (h.linkUse 0) 0 _) _
  · exact h

theorem answerRead (h : ModeFrame s t) (swap status : Nat) (data : List Byte) :
    ModeFrame s (Machine.answerRead swap status data t) := by
  unfold Machine.answerRead
  split
  · exact h.same
  · exact raise (bump h.same) _ _

theorem completeCurrent (h : ModeFrame s t) (status : Nat) (data : List Byte) (d : LbSlot) :
    ModeFrame s (Machine.completeCurrent status data d t) := by
  unfold Machine.completeCurrent
  dsimp only
  split
  · split
    · exact answerRead h.same _ _ _
    · exact h.same
  · exact h.same

theorem bridgeCompletion (h : ModeFrame s t) (tag status : Nat) (data : List Byte) :
    ModeFrame s (Machine.bridgeCompletion tag status data t) := by
  unfold Machine.bridgeCompletion
  dsimp only
  split
  · cases t.brg.current with
    | none => exact h
    | some d => exact h.completeCurrent _ _ _
  · split
    · exact h.same
    · exact h

theorem answerId (h : ModeFrame s t) (f tag status : Nat) : ModeFrame s (Machine.answerId f tag status t) := by
  unfold Machine.answerId
  split
  · split
    · exact h.offerFrame _ _
    · exact h.bridgeCompletion _ _ _
  · exact h.complete _ _ _ _ _ _

theorem sendUp (h : ModeFrame s t) (o : Output) (tlp : List Byte) : ModeFrame s (Machine.sendUp o tlp t) := by
  unfold Machine.sendUp
  split
  · exact h.offerFrame _ _
  split
  · exact emit (txTlps (h.linkUse 0) 0 1) _
  · exact h

theorem sendErr (h : ModeFrame s t) (f kind : Nat) : ModeFrame s (Machine.sendErr f kind t) := by
  unfold Machine.sendErr
  split
  · exact h.sendUp _ _
  · exact h

theorem cfgSet (h : ModeFrame s t) (f dw : Nat) (v : Word) : ModeFrame s (Machine.cfgSet f dw v t) := h.same
theorem cfgOr (h : ModeFrame s t) (f dw : Nat) (m : Word) : ModeFrame s (Machine.cfgOr f dw m t) := h.cfgSet _ _ _

theorem firstError (h : ModeFrame s t) (f i : Nat) (tlp : List Byte) : ModeFrame s (Machine.firstError f i tlp t) := by
  unfold Machine.firstError
  split
  · exact h
  · exact forAll (h.cfgSet _ _ _) _ fun _ _ _ hu => hu.cfgSet _ _ _

theorem aerError (h : ModeFrame s t) (f i : Nat) (tlp : List Byte) : ModeFrame s (Machine.aerError f i tlp t) := by
  unfold Machine.aerError
  have hl (st : Nat) : ModeFrame s (Machine.bump (R.PCIE_UNCORR_ERR (errPage f)) (logError f i st tlp t)) := by
    refine bump (cfgOr (cfgOr (h.firstError f i tlp) _ _ _) _ _ _) ?_
    simp only [PlainKey, R.PCIE_UNCORR_ERR, R.DEV_MODE, R.AO_STATUS]; omega
  dsimp only
  generalize (if cfgBit t f 67 i = true then 2 ^ 18 else 2 ^ 17) = st
  split
  · exact hl st
  · exact raise (sendErr (hl st) _ _) _ _

theorem vdpSet (h : ModeFrame s t) (v : Nat) (x : Vdp) : ModeFrame s (Machine.vdpSet v x t) := h.same

theorem vdpActive (h : ModeFrame s t) (v x : Nat) : ModeFrame s (Machine.setF (fVdp v) x t) :=
  h.setF x (show PlainKey R.PSW_VDP_STATUS by decide)

theorem linkGoes (h : ModeFrame s t) (v : Nat) : ModeFrame s (Machine.linkGoes v t) := by
  unfold Machine.linkGoes
  dsimp only
  exact forAll (addCnt (cfgOr (vdpSet (vdpActive h v 0) v _) _ _ _) _) _ fun _ _ _ hu => hu.answerId _ _ _

theorem vdpRefresh (h : ModeFrame s t) (v : Nat) : ModeFrame s (Machine.vdpRefresh v t) := by
  unfold Machine.vdpRefresh surpriseDown
  dsimp only
  split
  · split
    · exact h.linkGoes v
    · exact raise (bump (linkGoes (h.aerError _ _ _) v)) _ _
  · split
    · exact cfgOr (vdpActive h v 1) _ _ _
    · exact h

theorem setBar4 (h : ModeFrame s t) (n : Nat) : ModeFrame s (Machine.setBar4 n t) := by
  unfold Machine.setBar4
  exact journal h.same _ _ _

theorem cfgResetOf (h : ModeFrame s t) (which : Nat → Bool) : ModeFrame s (Machine.cfgResetOf which t) := by
  unfold Machine.cfgResetOf
  dsimp only
  exact forAll h.same _ fun _ _ _ hu => hu.journal _ _ _

theorem upstreamReset (h : ModeFrame s t) : ModeFrame s (Machine.upstreamReset t) := by
  unfold Machine.upstreamReset
  exact cfgResetOf (setBar4 h.same _) _

theorem upTunnelRefresh (h : ModeFrame s t) : ModeFrame s (Machine.upTunnelRefresh t) := by
  unfold Machine.upTunnelRefresh
  dsimp only
  split
  · exact upstreamReset h.same
  · exact h.same

theorem usb3Port {v : Nat} (h : ModeFrame s t) (hv : v < 8) (lo w x : Nat) :
    ModeFrame s (Machine.setF ⟨R.USB3_PORT_STATUS v, lo, w⟩ x t) :=
  h.setF _ (by simp only [PlainKey, R.USB3_PORT_STATUS, R.DEV_MODE, R.AO_STATUS]; omega)

theorem change3 (h : ModeFrame s t) (p b : Nat) : ModeFrame s (Machine.change3 p b t) := h.same

theorem vportDown {v : Nat} (h : ModeFrame s t) (hv : v < 4) : ModeFrame s (Machine.vportDown v t) := by
  have hv8 : v < 8 := lt_trans hv (by decide)
  unfold Machine.vportDown
  dsimp only
  exact change3 (usb3Port (usb3Port (usb3Port h hv8 _ _ _) hv8 _ _ _) hv8 _ _ _) _ _

theorem vportRefresh {v : Nat} (h : ModeFrame s t) (hv : v < 4) : ModeFrame s (Machine.vportRefresh v t) := by
  have hv8 : v < 8 := lt_trans hv (by decide)
  unfold Machine.vportRefresh
  dsimp only
  split
  · split
    · exact bump (h.vportDown hv)
    split
    · exact h.vportDown hv
    · exact h
  · split
    · exact change3 (usb3Port (usb3Port (usb3Port h hv8 _ _ _) hv8 _ _ _) hv8 _ _ _) _ _
    · exact h

theorem upVirtual (h : ModeFrame s t) : ModeFrame s (Machine.upVirtual t) := by
  unfold Machine.upVirtual
  dsimp only
  split
  · exact offerFrame (setF h _) _ _
  split
  · exact offerFrame (setF h _) _ _
  · exact setF h _

theorem adaptersFollow (h : ModeFrame s t) : ModeFrame s (Machine.adaptersFollow t) := by
  refine upVirtual (forAll (upTunnelRefresh (forAll h _ fun v _ _ hu => hu.vdpRefresh v)) _ fun v hv _ hu => hu.vportRefresh ?_)
  simp only [List.mem_cons, List.not_mem_nil, or_false] at hv
  omega

theorem teardownAll (h : ModeFrame s t) (is : List Nat) (his : ∀ i ∈ is, i < 256) :
    ModeFrame s (Machine.teardownAll is t).2 := by
  unfold Machine.teardownAll
  dsimp only
  refine adaptersFollow ?_
  suffices hall : ∀ a : Nat × State, ModeFrame s a.2 →
      ModeFrame s (is.foldl (fun (a : Nat × State) i => let (n, s) := Machine.teardown i a.2; (a.1 + n, s)) a).2 from
    hall (0, t) h
  induction is with
  | nil => exact fun _ ha => ha
  | cons i is ih =>
    intro a ha
    exact ih (fun j hj => his j (List.mem_cons_of_mem i hj)) _ (ha.teardown (his i List.mem_cons_self))

end ModeFrame
end Sys2Proof.Machine

/-! ## What a change of mode sets going: docks, links, Plumb and halted tunnels -/

namespace Sys2Proof.Machine

-- One theorem after another, as above.
set_option Elab.async false

variable {s t u : State}

theorem validEntries_lt {i : Nat} (hi : i ∈ validEntries s) : i < 256 := List.mem_range.1 (List.mem_filter.1 hi).1

theorem boundTo_lt {n i : Nat} (hi : i ∈ boundTo s n) : i < 256 := validEntries_lt (List.mem_filter.1 hi).1

namespace ModeFrame

/-! ### Docks and the holds of a port -/

theorem lSet (h : ModeFrame s t) (n : Nat) (l : Link) : ModeFrame s (Machine.lSet n l t) := h.same

theorem stopHold (h : ModeFrame s t) (n : Nat) : ModeFrame s (Machine.stopHold n t) := by
  unfold Machine.stopHold
  exact forAll h _ fun k _ _ hu => lSet hu _ _

theorem resumeHeld (h : ModeFrame s t) (n : Nat) : ModeFrame s (Machine.resumeHeld n t) := by
  unfold Machine.resumeHeld
  refine forAll h _ fun i _ u hu => ?_
  dsimp only
  split
  · exact resume (tSet hu _ _) _
  · exact hu

theorem teardownHeld (h : ModeFrame s t) (n : Nat) : ModeFrame s (Machine.teardownHeld n t).2 :=
  h.teardownAll _ fun _ hi => boundTo_lt (List.mem_filter.1 hi).1

theorem raiseLink (h : ModeFrame s t) (n kind : Nat) : ModeFrame s (Machine.raiseLink n kind t) := h.raise _ _

theorem holdReturns (h : ModeFrame s t) (n : Nat) : ModeFrame s (Machine.holdReturns n t) := by
  refine resumeHeld (bump (h.stopHold n) ?_) n
  simp only [PlainKey, R.LINK_HOLD_RESUMES, R.DEV_MODE, R.AO_STATUS]; omega

theorem timeSourceMoves (h : ModeFrame s t) : ModeFrame s (Machine.timeSourceMoves t) := by
  unfold Machine.timeSourceMoves
  split
  · exact setF h 1
  · exact h

theorem dockAdopt (h : ModeFrame s t) : ModeFrame s (Machine.dockAdopt t) := by
  unfold Machine.dockAdopt
  dsimp only
  refine forAll (forAll (forAll h _ fun i _ _ hu => hu.closeArriving i) _ fun i _ _ hu => ?_) _ fun i _ _ hu => hu.resendAll i
  exact bump (tSet hu _ _)

theorem dockTo (h : ModeFrame s t) (n : Nat) : ModeFrame s (Machine.dockTo n t) := by
  unfold Machine.dockTo
  dsimp only
  refine when (setReg h.same _) _ fun u hu => when (timeSourceMoves (bump (setF hu _))) _ fun v hv => hv.dockAdopt

theorem dockEvaluate (h : ModeFrame s t) : ModeFrame s (Machine.dockEvaluate t) := by
  unfold Machine.dockEvaluate
  dsimp only
  split
  · have hd (c : Bool) (v : Nat) : ModeFrame s (Machine.when c (Machine.raise 111 2)
        (Machine.setF ⟨R.PAIR_DOCK_STATUS, 1, 1⟩ v t)) :=
      when (setF h v) c fun _ hu => hu.raise _ _
    split
    · exact (hd _ _).same
    · exact (hd _ _).dockTo _
  · exact h

theorem islandFollow (h : ModeFrame s t) : ModeFrame s (Machine.islandFollow t) := by
  unfold Machine.islandFollow
  split
  · exact h.setCauseClear _
  · exact h

/-! ### Links -/

theorem linkStatus (h : ModeFrame s t) (n lo w v : Nat) : ModeFrame s (Machine.setF ⟨R.LINK_STATUS n, lo, w⟩ v t) :=
  h.setF v (by simp only [PlainKey, R.LINK_STATUS, R.DEV_MODE, R.AO_STATUS]; omega)

theorem setLinkState (h : ModeFrame s t) (n st : Nat) : ModeFrame s (Machine.setLinkState n st t) := by
  unfold Machine.setLinkState
  dsimp only
  exact islandFollow (linkStatus (when h _ fun _ hu => hu.lSet _ _) _ _ _ _)

theorem partnerId (h : ModeFrame s t) (n : Nat) (lo hi : Word) :
    ModeFrame s (Machine.setReg (R.LINK_PARTNER_ID_LO n 1) hi (Machine.setReg (R.LINK_PARTNER_ID_LO n 0) lo t)) := by
  refine (h.setReg lo ?_).setReg hi ?_
  all_goals simp only [PlainKey, R.LINK_PARTNER_ID_LO, R.DEV_MODE, R.AO_STATUS]; omega

theorem partnerReturns (h : ModeFrame s t) (n : Nat) : ModeFrame s (Machine.partnerReturns n t) := by
  unfold Machine.partnerReturns
  dsimp only
  refine partnerId ?_ n _ _
  split
  · split
    · exact h.holdReturns n
    · exact raiseLink (teardownHeld (h.stopHold n) n) _ _
  · exact h

theorem scarfUp (h : ModeFrame s t) : ModeFrame s (Machine.scarfUp t) := by
  unfold Machine.scarfUp
  dsimp only
  have hr := when h (getF t fSync == 2)
    (f := fun s => Machine.forAll s.pair.ring (fun r s => Machine.sendCtl 4 (jrecCell r) s) s)
    fun _ hu => forAll hu _ fun r _ _ hv => hv.sendCtl _ _
  split
  · exact hr.same
  · exact hr

theorem bqSet (h : ModeFrame s t) (b : Nat) (v : Bobbin) : ModeFrame s (Machine.bqSet b v t) := h.same

theorem sendCrdResync (h : ModeFrame s t) (n : Nat) : ModeFrame s (Machine.sendCrdResync n t) := h.sendCtl n _

theorem goUp (h : ModeFrame s t) (n : Nat) : ModeFrame s (Machine.goUp n t) := by
  unfold Machine.goUp
  dsimp only
  refine islandFollow (dockEvaluate (overbookCheck (guarded ?_ _ fun _ hu => hu.scarfUp) n))
  exact partnerReturns (sendCtl (sendCrdResync
    (lSet (bqSet (linkStatus (linkStatus (setLinkState h n lsUp) n _ _ _) n _ _ _) n _) n _) n) n _) n

theorem authCheck (h : ModeFrame s t) (n : Nat) : ModeFrame s (Machine.authCheck n t) := by
  unfold Machine.authCheck
  dsimp only
  split
  · exact h.goUp n
  · exact h

theorem announceRole (h : ModeFrame s t) : ModeFrame s (Machine.announceRole t) := by
  unfold Machine.announceRole
  refine forAll h _ fun n _ u hu => ?_
  split
  · exact hu.sendCtl _ _
  · exact hu

/-! ### The source of Plumb -/

theorem timeSrcChanged (h : ModeFrame s t) : ModeFrame s (Machine.timeSrcChanged t) := by
  unfold Machine.timeSrcChanged
  dsimp only
  have ht (v : Nat) : ModeFrame s (Machine.setF fScarfTrack v { t with time := { t.time with good := 0 } }) := setF h.same v
  split
  · exact setF (setF (setF (ht _) _) _) _
  · exact setF (setF (ht _) _) _
  · exact setF (setF (setF (ht _) _) _) _

theorem setFreq (h : ModeFrame s t) (f : Int) : ModeFrame s (Machine.setFreq f t) := by
  unfold Machine.setFreq
  dsimp only
  split
  · exact raiseN (setF (setReg h _) _) _
  · exact setF (setReg h _) _

theorem quotInt (h : ModeFrame s t) (a : Int) (b : Nat) : ModeFrame s (Machine.quotInt a b t).2 := by
  unfold Machine.quotInt
  split
  · exact h.same
  split
  · exact h
  · exact h.same

theorem holdover (h : ModeFrame s t) : ModeFrame s (Machine.holdover t) := by
  unfold Machine.holdover
  dsimp only
  refine raise (bump (setF (setF ?_ _) _)) _ _
  split
  · exact h
  · exact setFreq (quotInt h _ _) _

/-! ### Tunnels that a mode halts or sets free -/

theorem unhalt (h : ModeFrame s t) : ModeFrame s (Machine.unhalt t) := by
  unfold Machine.unhalt
  refine adaptersFollow (forAll h _ fun i _ u hu => ?_)
  dsimp only
  split
  · exact resume (tSet hu _ _) _
  · exact tSet hu _ _

theorem haltByPlan (h : ModeFrame s t) : ModeFrame s (Machine.haltByPlan t) := by
  unfold Machine.haltByPlan haltTunnel
  refine adaptersFollow (forAll h _ fun i _ u hu => ?_)
  dsimp only
  split
  · split
    · exact resume (tSet hu _ _) _
    · exact hu
  · exact tSet hu _ _

end ModeFrame
end Sys2Proof.Machine

/-! ## The mode, its cause and its count after a change (R22, R25, R26, R457) -/

namespace Sys2Proof.Machine

-- One theorem after another, as above.
set_option Elab.async false

variable {s t u : State} {m : Nat}

/-- `t` stands in mode `m`, changed from `s`: what DEV.MODE shows of it, and what the model notes. -/
structure ModeChanged (m : Nat) (s t : State) : Prop where
  cur : mode t = m
  prev : getF t fPrev = mode s
  count : getF t fTransCount = (getF s fTransCount + 1) % 256
  busy : getF t fReqBusy = getF s fReqBusy
  result : getF t fReqResult = getF s fReqResult
  cause : getF t fIslCause = getF s fIslCause
  req : t.modes.req = s.modes.req
  upstream : t.modes.upstream = s.modes.upstream
  kick : t.modes.wdogTick = s.ticks

/-- What leaves the mode and its notes alone may follow the change. -/
theorem ModeChanged.followed (h : ModeChanged m s t) (f : ModeFrame t u) : ModeChanged m s u where
  cur := f.mode_eq.trans h.cur
  prev := (f.fields fPrev rfl (.inl (by decide))).trans h.prev
  count := (f.fields fTransCount rfl (.inr (by decide))).trans h.count
  busy := (f.fields fReqBusy rfl (.inr (by decide))).trans h.busy
  result := (f.fields fReqResult rfl (.inr (by decide))).trans h.result
  cause := (f.fields fIslCause rfl (.inl (by decide))).trans h.cause
  req := (congrArg Modes.req f.modes).trans h.req
  upstream := (congrArg Modes.upstream f.modes).trans h.upstream
  kick := (congrArg Modes.wdogTick f.modes).trans h.kick

theorem mode_lt (s : State) : mode s < 8 := Nat.mod_lt _ (by decide)

/-- CUR, PREV and TRANS_COUNT as a change of mode writes them. -/
def modeSet (m : Nat) (s : State) : State :=
  setF fTransCount (getF s fTransCount + 1) (setF fPrev (mode s) (setF fCur m s))

/-- A field of DEV.MODE outside CUR, PREV and TRANS_COUNT. -/
theorem getF_modeSet {f : Fld} (s : State) (hk : f.key = R.DEV_MODE) (hlo : 7 ≤ f.lo) (hhi : f.lo + f.w ≤ 24) :
    getF (modeSet m s) f = getF s f := by
  unfold modeSet
  rw [getF_setF_disj (f := fTransCount) _ _ (by decide) hk (.inr hhi),
    getF_setF_disj (f := fPrev) _ _ (by decide) hk (.inl hlo),
    getF_setF_disj (f := fCur) _ _ (by decide) hk (.inl (le_trans (by decide) hlo))]

theorem mode_modeSet (s : State) (hm : m < 8) : mode (modeSet m s) = m := by
  unfold modeSet mode
  rw [getF_setF_disj (f := fTransCount) (g := fCur) _ _ (by decide) rfl (.inr (by decide)),
    getF_setF_disj (f := fPrev) (g := fCur) _ _ (by decide) rfl (.inr (by decide)),
    getF_setF_same fCur _ _ (by decide)]
  exact Nat.mod_eq_of_lt hm

theorem prev_modeSet (s : State) : getF (modeSet m s) fPrev = mode s := by
  unfold modeSet
  rw [getF_setF_disj (f := fTransCount) (g := fPrev) _ _ (by decide) rfl (.inr (by decide)),
    getF_setF_same fPrev _ _ (by decide)]
  exact Nat.mod_eq_of_lt (mode_lt s)

theorem transCount_modeSet (s : State) : getF (modeSet m s) fTransCount = (getF s fTransCount + 1) % 256 :=
  getF_setF_same fTransCount _ _ (by decide)

/-- After the fields of DEV.MODE and the notes are set, whatever leaves them alone keeps the change. -/
theorem modeChanged_modModes {g : Modes → Modes} (hm : m < 8) (f : ModeFrame (modeSet m s) t)
    (hreq : (g t.modes).req = t.modes.req) (hup : (g t.modes).upstream = t.modes.upstream)
    (hkick : (g t.modes).wdogTick = t.ticks) :
    ModeChanged m s (modModes g t) where
  cur := f.mode_eq.trans (mode_modeSet s hm)
  prev := (f.fields fPrev rfl (.inl (by decide))).trans (prev_modeSet s)
  count := (f.fields fTransCount rfl (.inr (by decide))).trans (transCount_modeSet s)
  busy := (f.fields fReqBusy rfl (.inr (by decide))).trans (getF_modeSet s rfl (by decide) (by decide))
  result := (f.fields fReqResult rfl (.inr (by decide))).trans (getF_modeSet s rfl (by decide) (by decide))
  cause := (f.fields fIslCause rfl (.inl (by decide))).trans (getF_modeSet s rfl (by decide) (by decide))
  req := hreq.trans (congrArg Modes.req f.modes)
  upstream := hup.trans (congrArg Modes.upstream f.modes)
  kick := hkick.trans f.ticks

theorem ModeFrame.journalMode (h : ModeFrame s t) : ModeFrame s (Machine.journalMode t) := h.journal _ _ _

theorem ModeFrame.releasePicture (h : ModeFrame s t) : ModeFrame s (Machine.releasePicture t) := h.setF 0

theorem changeMode_spec (s : State) (hm : m < 8) : ModeChanged m s (changeMode m s) := by
  have hset (p q : Prop) [Decidable p] [Decidable q] : ModeFrame (modeSet m s)
      (if p then unhalt (if q then releasePicture (modeSet m s) else modeSet m s)
        else if q then releasePicture (modeSet m s) else modeSet m s) :=
    .guarded (f := unhalt) (.guarded (f := releasePicture) (.refl _) q fun _ hu => hu.releasePicture) p fun _ hu => hu.unhalt
  have hauth : ∀ t, ModeFrame t (forAll [0, 1, 2, 3, 4] authCheck (announceRole (journalMode t))) := fun t =>
    .forAll (.announceRole (.journalMode (.refl t))) _ fun n _ _ hu => hu.authCheck n
  exact (modeChanged_modModes hm (hset _ _) rfl rfl rfl).followed (hauth _)

theorem changeModeAndTime_spec (s : State) (hm : m < 8) : ModeChanged m s (changeModeAndTime m s) := by
  unfold changeModeAndTime
  dsimp only
  split
  · exact changeMode_spec s hm
  · exact (changeMode_spec s hm).followed (.timeSrcChanged (.refl _))

/-- What DEV.MODE and the notes hold when an island cause has overtaken the request and set its number (R26, R30). -/
def islandSet (c : Nat) (s : State) : State :=
  setF fCauseClear 0 (setF fIslCause c (modModes (fun x => { x with upstream := getA s fUpstream }) (preempt s)))

theorem preempt_req (s : State) : (preempt s).modes.req = none := by
  unfold preempt
  split
  · rfl
  · assumption

theorem preempt_ticks (s : State) : (preempt s).ticks = s.ticks := by
  unfold preempt
  split <;> rfl

theorem getF_preempt {f : Fld} (s : State) (hk : f.key = R.DEV_MODE) (hf : f.lo + f.w ≤ 12 ∨ 19 ≤ f.lo) :
    getF (preempt s) f = getF s f := by
  unfold preempt
  split
  · rw [getF_setF_disj (f := fReqResult) _ _ (by decide) hk (hf.symm.imp id fun h => h.trans (by decide)),
      getF_setF_disj (f := fReqBusy) _ _ (by decide) hk (hf.symm.imp (le_trans (by decide)) id)]
    rfl
  · rfl

/-- Where REQ_BUSY stands for a request under way, none is shown after it is overtaken. -/
theorem busy_preempt (h : bit s fReqBusy = s.modes.req.isSome) : bit (preempt s) fReqBusy = false := by
  unfold preempt
  split
  · rw [bit, getF_setF_disj (f := fReqResult) (g := fReqBusy) 5 _ (by decide) rfl (.inr (by decide))]
    exact bit_setF_zero _ _ _ (by decide)
  · next hnone => rw [h, hnone]; rfl

theorem getF_islandSet {f : Fld} (c : Nat) (s : State) (hk : f.key = R.DEV_MODE) (hf : f.lo + f.w ≤ 8 ∨ 11 ≤ f.lo) :
    getF (islandSet c s) f = getF (preempt s) f := by
  unfold islandSet
  rw [getF_setF_disj (f := fCauseClear) _ _ (by decide) hk (hf.symm.imp id fun h => h.trans (by decide)),
    getF_setF_disj (f := fIslCause) _ _ (by decide) hk (hf.symm.imp (le_trans (by decide)) id)]
  rfl

theorem cause_islandSet {c : Nat} (s : State) (hc : c < 4) : getF (islandSet c s) fIslCause = c := by
  unfold islandSet
  rw [getF_setF_disj (f := fCauseClear) (g := fIslCause) _ _ (by decide) rfl (.inr (by decide)),
    getF_setF_same fIslCause _ _ (by decide)]
  exact Nat.mod_eq_of_lt hc

theorem ModeFrame.holdPicture (h : ModeFrame s t) : ModeFrame s (Machine.holdPicture t) := h.setF 1

theorem enterIsland_changed (c : Nat) (s : State) : ModeChanged mIsland (islandSet c s) (enterIsland c s) := by
  have hhold (q : Prop) [Decidable q] (t : State) : ModeFrame t
      (islandFollow (if q then holdover (holdPicture (haltByPlan t)) else holdPicture (haltByPlan t))) :=
    .islandFollow (.guarded (f := holdover) (.holdPicture (.haltByPlan (.refl t))) q fun _ hu => hu.holdover)
  exact (changeMode_spec (islandSet c s) (by decide)).followed (hhold _ _)

/-- What an island cause leaves (R25, R26). -/
theorem ModeChanged.of_islandSet {c : Nat} (h : ModeChanged mIsland (islandSet c s) t) (hc : c < 4)
    (hbusy : bit s fReqBusy = s.modes.req.isSome) :
    mode t = mIsland ∧ getF t fIslCause = c ∧ t.modes.upstream = getA s fUpstream ∧ bit t fReqBusy = false ∧
    t.modes.req = none ∧ getF t fPrev = mode s ∧ getF t fTransCount = (getF s fTransCount + 1) % 256 ∧
    t.modes.wdogTick = s.ticks := by
  have hmode : mode (islandSet c s) = mode s :=
    (getF_islandSet (f := fCur) c s rfl (.inl (by decide))).trans (getF_preempt (f := fCur) s rfl (.inl (by decide)))
  have hcount : getF (islandSet c s) fTransCount = getF s fTransCount :=
    (getF_islandSet (f := fTransCount) c s rfl (.inr (by decide))).trans
      (getF_preempt (f := fTransCount) s rfl (.inr (by decide)))
  refine ⟨h.cur, h.cause.trans (cause_islandSet s hc), h.upstream, ?_, h.req.trans (preempt_req s),
    h.prev.trans hmode, hcount ▸ h.count, h.kick.trans (preempt_ticks s)⟩
  rw [bit, h.busy, getF_islandSet (f := fReqBusy) c s rfl (.inr (by decide))]
  exact busy_preempt hbusy

/-- DEV.MODE of a request that is carried out, before the mode changes (R22). -/
abbrev requestDone (s : State) : State := setF fReqResult 0 (setF fReqBusy 0 s)

theorem getF_requestDone {f : Fld} (s : State) (hk : f.key = R.DEV_MODE) (hf : f.lo + f.w ≤ 12 ∨ 19 ≤ f.lo) :
    getF (requestDone s) f = getF s f := by
  rw [getF_setF_disj (f := fReqResult) _ _ (by decide) hk (hf.symm.imp id fun h => h.trans (by decide)),
    getF_setF_disj (f := fReqBusy) _ _ (by decide) hk (hf.symm.imp (le_trans (by decide)) id)]

theorem busy_requestDone (s : State) : bit (requestDone s) fReqBusy = false := by
  rw [bit, getF_setF_disj (f := fReqResult) (g := fReqBusy) 0 _ (by decide) rfl (.inr (by decide))]
  exact bit_setF_zero _ _ _ (by decide)

/-- What a request that is carried out leaves (R22). -/
theorem ModeChanged.of_requestDone (h : ModeChanged m (requestDone s) t) (hreq : s.modes.req = none) :
    mode t = m ∧ getF t fReqResult = 0 ∧ bit t fReqBusy = false ∧ t.modes.req = none ∧ getF t fPrev = mode s ∧
    getF t fTransCount = (getF s fTransCount + 1) % 256 ∧ t.modes.wdogTick = s.ticks := by
  have hmode : mode (requestDone s) = mode s := getF_requestDone (f := fCur) s rfl (.inl (by decide))
  have hcount : getF (requestDone s) fTransCount = getF s fTransCount :=
    getF_requestDone (f := fTransCount) s rfl (.inr (by decide))
  refine ⟨h.cur, h.result.trans (getF_setF_same fReqResult 0 _ (by decide)), ?_, h.req.trans hreq, h.prev.trans hmode,
    hcount ▸ h.count, h.kick⟩
  rw [bit, h.busy]
  exact busy_requestDone s

/-- Settles O41: the completed request and the two island causes are changes of mode, and `ModeChanged` says what these show. -/
theorem modeChangesShowTheirModeAndCause : Obligations.ModeChangesShowTheirModeAndCause := by
  unfold Obligations.ModeChangesShowTheirModeAndCause
  refine ⟨fun p s h hreq hm hcheck => answers_imp (answers_modeTransitionComplete h hreq hm hcheck) ?_,
    fun s h harm hu hlost hgrace hbusy => answers_imp (answers_islandGraceExpiry h harm hu hlost hgrace) ?_,
    fun s h harm hw hlate hbusy => answers_imp (answers_hostWatchdogExpiry h harm hw hlate) ?_⟩
  · rintro _ rfl
    exact (changeModeAndTime_spec (requestDone { s with out := [], modes := { s.modes with req := none } })
      (by decide)).of_requestDone rfl
  · rintro _ rfl
    exact (enterIsland_changed _ (clearOut s)).of_islandSet (by decide) hbusy
  · rintro _ rfl
    exact (enterIsland_changed _ (clearOut s)).of_islandSet (by decide) hbusy

end Sys2Proof.Machine

/-! ## What a wake does besides arriving in COLD (R371, R379, Table 16-7)

The retention restores registers and sets blocks going, the markers and raises of a start go out, and the links start: all of it
within `ModeFrame`. -/

namespace Sys2Proof.Machine

-- One theorem after another, as above.
set_option Elab.async false

variable {s t u : State}

namespace ModeFrame

theorem modPwr (h : ModeFrame s t) (f : Pwr → Pwr) : ModeFrame s (Machine.modPwr f t) := h.same
theorem modDisp (h : ModeFrame s t) (f : Disp → Disp) : ModeFrame s (Machine.modDisp f t) := h.same
theorem gSet (h : ModeFrame s t) (g : Nat) (v : Gate) : ModeFrame s (Machine.gSet g v t) := h.same
theorem macSet (h : ModeFrame s t) (k : Nat) (m : Mac) : ModeFrame s (Machine.macSet k m t) := h.same

/-! ### Holds and links -/

theorem holdExpires (h : ModeFrame s t) (n : Nat) : ModeFrame s (Machine.holdExpires n t) := by
  unfold Machine.holdExpires
  dsimp only
  refine raiseLink (bump (addCnt64 (teardownHeld (h.stopHold n) n) _ ?_ ?_) ?_) n 2
  all_goals simp only [PlainKey, R.LINK_HOLD_LOSS_CELLS, R.LINK_HOLD_EXPIRIES, R.DEV_MODE, R.AO_STATUS]; omega

theorem suspendBound (h : ModeFrame s t) (n : Nat) : ModeFrame s (Machine.suspendBound n t) := by
  unfold Machine.suspendBound
  dsimp only
  have hs := h.forAll (boundTo t n) (f := fun i s => Machine.tSet i { tGet s i with susp := true } s)
    fun _ _ _ hu => hu.tSet _ _
  exact ite h (ite hs (ite (hs.holdExpires n) (hs.lSet _ _)))

theorem linkStart (h : ModeFrame s t) (n : Nat) : ModeFrame s (Machine.linkStart n t) := by
  unfold Machine.linkStart
  dsimp only
  split
  · refine linkStatus ?_ n _ _ _
    split
    · exact linkStatus (h.lSet _ _) 4 _ _ _
    · exact linkStatus (h.lSet _ _) n _ _ _
  · exact h

theorem setEpoch (h : ModeFrame s t) (e : Nat) : ModeFrame s (Machine.setEpoch e t) := by
  refine forAll (h.setReg _) _ fun n _ _ hu => hu.setReg _ ?_
  simp only [PlainKey, R.LINK_OWN_EPOCH, R.DEV_MODE, R.AO_STATUS]; omega

/-! ### MACs -/

theorem macStatus (h : ModeFrame s t) (k lo w v : Nat) : ModeFrame s (Machine.setF ⟨R.MAC_STATUS k, lo, w⟩ v t) :=
  h.setF v (by simp only [PlainKey, R.MAC_STATUS, R.DEV_MODE, R.AO_STATUS]; omega)

theorem ethLink (h : ModeFrame s t) (k v : Nat) : ModeFrame s (Machine.setF ⟨R.ETH_STATUS, k, 1⟩ v t) :=
  h.setF v (show PlainKey R.ETH_STATUS by decide)

theorem macNoLink (h : ModeFrame s t) (k : Nat) : ModeFrame s (Machine.macNoLink k t) := by
  unfold Machine.macNoLink
  dsimp only
  exact overbookCheck (macStatus (ethLink (macStatus (macStatus h k _ _ _) k _ _ _) k _) k _ _ _) 7

theorem macCtrl_plain {k : Nat} (hk : k < 4) : PlainKey (R.MAC_CTRL k) := by
  simp only [PlainKey, R.MAC_CTRL, R.DEV_MODE, R.AO_STATUS]; omega

theorem macCtrlWrite {k : Nat} (h : ModeFrame s t) (hk : k < 4) (v : Word) : ModeFrame s (Machine.macCtrlWrite k v t) := by
  unfold Machine.macCtrlWrite
  dsimp only
  refine ite (ite (macSet ?_ _ _) (macStatus (macNoLink (macSet ?_ _ _) k) k _ _ _)) (macNoLink ?_ k)
  all_goals
    refine journalReg (guarded (f := Machine.setF (fMacEn k) 0) (h.setReg _ (macCtrl_plain hk)) _ fun _ hu => ?_) _ _
    exact hu.setF 0 (macCtrl_plain hk)

/-! ### USB hubs -/

theorem change2 (h : ModeFrame s t) (p b : Nat) : ModeFrame s (Machine.change2 p b t) := h.same
theorem setPort8 (h : ModeFrame s t) (st : Nat) : ModeFrame s (Machine.setPort8 st t) := h.same
theorem setPower (h : ModeFrame s t) (p : Nat) (on : Bool) : ModeFrame s (Machine.setPower p on t) := h.same

theorem port8Follow (h : ModeFrame s t) : ModeFrame s (Machine.port8Follow t) := by
  unfold Machine.port8Follow
  dsimp only
  split
  · exact h.setPort8 _
  split
  · exact change2 (h.setPort8 _) _ _
  split
  · exact change2 (h.setPort8 _) _ _
  split
  · exact h
  · exact h.setPort8 _

theorem usb2Port (h : ModeFrame s t) (i lo w v : Nat) (hi : i < 8) :
    ModeFrame s (Machine.setF ⟨R.USB2_PORT_STATUS i, lo, w⟩ v t) :=
  h.setF v (by simp only [PlainKey, R.USB2_PORT_STATUS, R.DEV_MODE, R.AO_STATUS]; omega)

theorem cutPower {n : Nat} (h : ModeFrame s t) (hn : n < 8) : ModeFrame s (Machine.cutPower n t) := by
  unfold Machine.cutPower
  dsimp only
  have hp := usb2Port (h.setPower n false) (n - 1) 0 3 psOff (by omega)
  split
  · exact usb3Port (usb3Port hp (by omega) _ _ _) (by omega) _ _ _
  · exact hp

theorem portsOn (h : ModeFrame s t) : ModeFrame s (Machine.portsOn t) := by
  unfold Machine.portsOn
  dsimp only
  refine port8Follow (forAll (forAll (forAll (forAll h _ fun p _ _ hu => hu.setPower p true) _ fun p hp u hu => ?_) _
    fun k hk _ hu => ?_) _ fun p hp u hu => ?_)
  · have hp8 : p < 8 := (by decide : ∀ p ∈ [5, 6], p < 8) p hp
    exact hu.guarded (f := Machine.setF (fPls3 p) plsRxDetect) _ fun _ hv => hv.usb3Port (by omega) _ _ _
  · have hk8 : k < 8 := List.mem_range.1 hk
    exact hu.setF _ (by simp only [PlainKey, R.USB2_TP_STATUS, R.DEV_MODE, R.AO_STATUS]; omega)
  · have hp8 : p < 8 := (by decide : ∀ p ∈ [1, 2, 3, 4, 5, 6, 7], p < 8) p hp
    exact hu.usb2Port _ _ _ _ (by omega)

theorem portsOff (h : ModeFrame s t) : ModeFrame s (Machine.portsOff t) := by
  unfold Machine.portsOff
  dsimp only
  refine port8Follow (setF (same (forAll (forAll h _ fun p hp _ hu => ?_) _ fun p hp _ hu => ?_)) _)
  · exact hu.cutPower ((by decide : ∀ p ∈ [5, 6, 7], p < 8) p hp)
  · have hp8 : p < 8 := (by decide : ∀ p ∈ [1, 2, 3, 4], p < 8) p hp
    exact hu.usb2Port _ _ _ _ (by omega)

theorem hub3Off (h : ModeFrame s t) : ModeFrame s (Machine.hub3Off t) := by
  refine upVirtual (forAll (setF h.same _) _ fun v hv u hu => ?_)
  exact hu.guarded (f := Machine.vportDown v) _ fun _ hw => hw.vportDown ((by decide : ∀ v ∈ [0, 1, 2, 3], v < 4) v hv)

theorem usbCtrl_plain (usb3 : Bool) : PlainKey (if usb3 then R.USB3_CTRL else R.USB2_CTRL) := by cases usb3 <;> decide

theorem usb (h : ModeFrame s t) (x : Usb) : ModeFrame s { t with usb := x } := h.same

theorem usbCtrlSet (h : ModeFrame s t) (usb3 : Bool) (v : Word) : ModeFrame s (Machine.usbCtrlSet usb3 v t) := by
  unfold Machine.usbCtrlSet
  dsimp only
  refine ite (ite (when (setF (setF (setF (setF ?_ 0) 0) 1) 1) _ fun u hu => ?_)
    (ite (adaptersFollow (setF (usb (setF (setF ?_ 0) 0) _) _)) (portsOn (usb (setF (setF ?_ 0) 0) _))))
    (ite (ite (hub3Off ?_) (portsOff ?_)) (ite (port8Follow ?_) ?_))
  case refine_2 =>
    cases usb3
    · exact hu.hub3Off
    · exact hu.portsOff
  all_goals exact h.setReg _ (usbCtrl_plain usb3)

theorem usbCtrlWrite (h : ModeFrame s t) (usb3 : Bool) (v : Word) : ModeFrame s (Machine.usbCtrlWrite usb3 v t) :=
  (h.usbCtrlSet usb3 v).journalReg _ _

/-! ### The display engine -/

theorem placeRaster (h : ModeFrame s t) (line : Nat) : ModeFrame s (Machine.placeRaster line t) := h.same

theorem outputsFollow (h : ModeFrame s t) : ModeFrame s (Machine.outputsFollow t) := by
  refine forAll h _ fun k _ _ hu => hu.setF _ ?_
  simp only [PlainKey, R.DOUT_STATUS, R.DEV_MODE, R.AO_STATUS]; omega

theorem rasterStart (h : ModeFrame s t) : ModeFrame s (Machine.rasterStart t) :=
  outputsFollow (placeRaster (modDisp (setF (h.setReg _) _) _) _)

theorem teFollow (h : ModeFrame s t) (was : Option Nat) (waited : Bool) : ModeFrame s (Machine.teFollow was waited t) := by
  unfold Machine.teFollow
  dsimp only
  have hw := h.guarded (f := Machine.placeRaster (vsyncStart t)) (waited = true) fun _ hu => hu.placeRaster _
  exact ite hw (setF (setF (modDisp hw _) 0) 0)

/-! ### Records and raises of a start -/

theorem sendMsix (h : ModeFrame s t) (v : Nat) : ModeFrame s (Machine.sendMsix v t) := by
  unfold Machine.sendMsix
  dsimp only
  split
  · exact h.setF 1 (show PlainKey 0x3F00 by decide)
  split
  · exact offerFrame h.bump _ _
  · exact emit (txTlps (linkUse h.bump 0) 0 1) _

theorem receiveRecord (h : ModeFrame s t) (hid : Nat) (r : Record) : ModeFrame s (Machine.receiveRecord hid r t) := by
  unfold Machine.receiveRecord
  dsimp only
  split
  · exact setF h.bump 1
  split
  · exact sendMsix (bump64 h.same) _
  · exact bump64 h.same

theorem historyAdd (h : ModeFrame s t) (r : Record) : ModeFrame s (Machine.historyAdd r t) := h.same

theorem recordOut (h : ModeFrame s t) (r : Record) : ModeFrame s (Machine.recordOut r t) := by
  unfold Machine.recordOut
  split
  · split
    · split
      · split
        · exact bump h.same
        · exact setF h.same _
      · split
        · exact h.receiveRecord _ _
        · exact h
    · exact h
  · exact h

theorem recordEp2 (h : ModeFrame s t) (r : Record) : ModeFrame s (Machine.recordEp2 r t) := by
  unfold Machine.recordEp2
  split
  · split
    · exact limited h.bump _ _ fun _ hu => hu.raiseN _
    · exact h.same
  · exact h

theorem makeRecord (h : ModeFrame s t) (stamp : Plumb) (source kindEdge detail : Nat) :
    ModeFrame s (Machine.makeRecord stamp source kindEdge detail t) := by
  unfold Machine.makeRecord
  dsimp only
  exact journal (recordEp2 (recordOut (historyAdd (bump64 h.same) _) _) _) _ _ _

theorem makeMarker (h : ModeFrame s t) (type detail : Nat) : ModeFrame s (Machine.makeMarker type detail t) :=
  makeRecord h.bump _ _ _ _

theorem sendEventCell (h : ModeFrame s t) : ModeFrame s (Machine.sendEventCell t) := by
  unfold Machine.sendEventCell
  dsimp only
  split
  · split
    · exact h
    · exact placeControl (bump (setF h.same _)) _ _ _ _
  · exact h

theorem drainRecords (h : ModeFrame s t) : ModeFrame s (Machine.drainRecords t) := by
  unfold Machine.drainRecords
  dsimp only
  have hc := h.guarded (f := Machine.sendEventCell) (3 ≤ t.flt.outq.length) fun _ hu => hu.sendEventCell
  exact ite (makeMarker hc.same _ _) hc

theorem marker (h : ModeFrame s t) (type detail : Nat) : ModeFrame s (Machine.marker type detail t) :=
  (h.makeMarker type detail).drainRecords

theorem crossingsStart (h : ModeFrame s t) : ModeFrame s (Machine.crossingsStart t) :=
  forAll h _ fun _ _ _ hu => hu.bump.raise _ _

theorem announceCause (h : ModeFrame s t) (afterFail : Bool) : ModeFrame s (Machine.announceCause afterFail t) :=
  crossingsStart (marker (h.setReg _) _ _)

theorem bootRaise (h : ModeFrame s t) (src d : Nat) : ModeFrame s (Machine.bootRaise src d t) := h.modPwr _

theorem pufDone (h : ModeFrame s t) (fails : Nat) : ModeFrame s (Machine.pufDone fails t) := by
  unfold Machine.pufDone
  dsimp only
  split
  · exact bootRaise (setF (h.addCnt _) 0) _ _
  · exact setF (h.addCnt _) 1

theorem fuseError (h : ModeFrame s t) : ModeFrame s (Machine.fuseError t) := by
  have hf : ModeFrame s (nextFree (Machine.bump R.SEC_AF_ERRORS (Machine.setF fAfErr 1 t))) :=
    same (bump (k := R.SEC_AF_ERRORS) (h.setF (f := fAfErr) 1))
  exact hf.bootRaise _ _

theorem lcAnnounce (h : ModeFrame s t) : ModeFrame s (Machine.lcAnnounce t) := by
  unfold Machine.lcAnnounce
  split
  · exact bootRaise (bump (h.modPwr _)) _ _
  · exact h

theorem pumpBoot (h : ModeFrame s t) : ModeFrame s (Machine.pumpBoot t) := by
  unfold Machine.pumpBoot
  split
  · exact h
  · dsimp only
    split
    · exact raise h.same _ _
    · exact h

/-! ### Retention -/

theorem commitReg (h : ModeFrame s t) (k : Nat) : ModeFrame s (Machine.commitReg k t) := h.setAct _ _

/-- A register that a write leaves as it reads. -/
theorem setReg_self (h : ModeFrame s t) (k : Nat) : ModeFrame s (Machine.setReg k (reg t k) t) := by
  have hreg (j : Nat) : reg (Machine.setReg k (reg t k) t) j = reg t j := by
    by_cases hj : j = k
    · rw [hj, reg_setReg_same]
    · exact reg_setReg_ne _ _ hj
  exact h.trans ⟨rfl, rfl, hreg _, fun f _ _ => by simp only [getF, hreg]⟩

/-- DEV.MODE has no bit that the retention keeps. -/
theorem keepMask_devMode : keepMask R.DEV_MODE = (0, false) := by decide

theorem bankValue_devMode (n : Nap) (now : Word) : bankValue n 0 R.DEV_MODE now = now := by
  unfold bankValue
  rw [keepMask_devMode]
  simpa using BitVec.and_allOnes (x := now)

theorem restoreWord {k b : Nat} (h : ModeFrame s t) (n : Nap) (hk : bankOf k = some b) :
    ModeFrame s (Machine.setReg k (bankValue n b k (reg t k)) t) := by
  by_cases hmode : k = R.DEV_MODE
  · subst hmode
    obtain rfl : 0 = b := Option.some.inj ((by decide : bankOf R.DEV_MODE = some 0).symm.trans hk)
    rw [bankValue_devMode]
    exact h.setReg_self _
  · refine h.setReg _ ⟨hmode, ?_⟩
    rintro rfl
    exact absurd hk (by rw [show bankOf R.AO_STATUS = none by decide]; exact nofun)

theorem restoreRegs (h : ModeFrame s t) (n : Nap) (b : Nat) : ModeFrame s (Machine.restoreRegs n b t) := by
  refine forAll h _ fun k hk u hu => ?_
  have hbank : bankOf k = some b := by simpa using (List.mem_filter.1 hk).2
  exact (hu.restoreWord n hbank).guarded (f := Machine.commitReg k) _ fun _ hv => hv.commitReg k

theorem resumeMacs (h : ModeFrame s t) : ModeFrame s (Machine.forAll [0, 1, 2, 3] (fun k s => if bit s (fMacEn k) then
    Machine.macCtrlWrite k (reg s (R.MAC_CTRL k)) (Machine.setF (fMacEn k) 0 s) else s) t) := by
  refine forAll h _ fun k hk u hu => ?_
  have hk4 : k < 4 := (by decide : ∀ k ∈ [0, 1, 2, 3], k < 4) k hk
  exact ite (macCtrlWrite (hu.setF 0 (macCtrl_plain hk4)) hk4 _) hu

theorem resumeBlocks (h : ModeFrame s t) : ModeFrame s (Machine.resumeBlocks t) := by
  unfold Machine.resumeBlocks
  dsimp only
  refine guarded (f := fun s => Machine.teFollow none false (Machine.rasterStart s)) ?_ _
    fun _ hu => hu.rasterStart.teFollow _ _
  refine forAll (usbCtrlWrite (usbCtrlWrite (setF (setF ?_ 0) 0) _ _) _ _) _ fun p _ u hu => ?_
  · exact forAll (resumeMacs (h.setEpoch _)) _ fun g _ _ hu => hu.gSet g _
  · exact ite (hu.setF _ (by simp only [PlainKey, R.DEV_MODE, R.AO_STATUS]; omega)) hu

theorem restoreBanks (h : ModeFrame s t) (n : Nap) (mask : Nat) : ModeFrame s (Machine.restoreBanks n mask t) := by
  unfold Machine.restoreBanks
  dsimp only
  refine when ?_ _ fun u hu => hu.forAll _ fun k _ v hv => ite hv (hv.suspendBound k)
  refine when ?_ _ fun _ hu => hu.setPort8 _
  refine when ?_ _ fun _ hu => hu.resumeBlocks
  refine when ?_ _ fun _ hu => hu.modPwr _
  refine when ?_ _ fun _ hu => hu.same
  refine when ?_ _ fun _ hu => hu.same
  refine when ?_ _ fun _ hu => hu.modDisp _
  refine when ?_ _ fun _ hu => hu.same
  refine when ?_ _ fun _ hu => hu.same
  refine when ?_ _ fun _ hu => hu.setF 1
  exact forAll h _ fun b _ u hu => hu.when _ fun _ hv => hv.restoreRegs n b

theorem retention (h : ModeFrame s t) (held : Nat) : ModeFrame s (Machine.retention held t).2 := by
  unfold Machine.retention
  split
  · exact h
  · dsimp only
    exact setF (setF (setF (restoreBanks (h.modPwr _) _ _) _) _) _

end ModeFrame
end Sys2Proof.Machine

/-! ## S1 Doze keeps the mode, and a wake arrives in COLD (R23) -/

namespace Sys2Proof.Machine

-- One theorem after another, as above.
set_option Elab.async false

variable {s t : State} {m : Nat}

theorem mode_setReg_ne {k : Nat} (v : Word) (s : State) (hk : R.DEV_MODE ≠ k := by decide) : mode (setReg k v s) = mode s :=
  getF_setReg_ne v s hk

theorem mode_setF_ne {f : Fld} (v : Nat) (s : State) (hk : R.DEV_MODE ≠ f.key := by decide) : mode (setF f v s) = mode s :=
  mode_setReg_ne _ s hk

theorem bit_congr (h : s.regs = t.regs) (f : Fld) : bit s f = bit t f := by rw [bit, bit, getF_congr h]

/-! ### S1 Doze -/

theorem mode_endEntry (r : Nat) (s : State) : mode (endEntry r s) = mode s := by
  unfold endEntry
  rw [mode_setF_ne, mode_setF_ne, mode_setF_ne]
  rfl

theorem askLowpower_regs (n : Nat) (s : State) : (askLowpower n s).regs = s.regs := by
  unfold askLowpower
  split <;> rfl

theorem forAll_askLowpower_regs (ns : List Nat) (s : State) : (forAll ns askLowpower s).regs = s.regs :=
  forAll_keeps (P := fun u => u.regs = s.regs) ns askLowpower (fun n u hu => (askLowpower_regs n u).trans hu) rfl

/-- The registers of an entry into S1 (R369). -/
def dozeSet (s : State) : State :=
  setF fDoze 1 (setF fPstate 1 (bump R.PM_S1_ENTRIES (modPwr (fun p => { p with again := false }) (endEntry 0 s))))

theorem mode_dozeSet (s : State) : mode (dozeSet s) = mode s := by
  unfold dozeSet
  rw [mode_setF_ne, mode_setF_ne, bump, addCnt, mode_setReg_ne]
  exact mode_endEntry 0 s

/-- S1_ENTRY finds all it asks for (R369). -/
theorem s1Entry_ready (he : s.pwr.entry = 1) (hq : queuesEmpty s = true) (hs : streamsEmpty s = true)
    (hc : bit s fChanging = false) (hd : bit s fDoze = false) (hm : mode s ≠ mService) :
    ((s.pwr.entry == 1 || (s.pwr.again && bit s fS1Auto && s.pwr.entry == 0)) && queuesEmpty s && streamsEmpty s
      && !bit s fChanging && !bit s fDoze && mode s != mService) = true := by
  simp [he, hq, hs, hc, hd, hm]

/-- The registers of an entry into S1 stand through the requests on the side bands and the self-refresh that follow it. -/
theorem dozeSet_asked_regs (ns : List Nat) (c : Prop) [Decidable c] (f : Mem → Mem) (s : State) :
    (if c then modMem f (forAll ns askLowpower (dozeSet s)) else forAll ns askLowpower (dozeSet s)).regs =
      (dozeSet s).regs := by
  split <;> exact forAll_askLowpower_regs _ _

/-- A requested entry into S1 sets DOZE and keeps the mode. -/
theorem answers_s1Entry (h : Runs s) (he : s.pwr.entry = 1) (hq : queuesEmpty s = true) (hs : streamsEmpty s = true)
    (hc : bit s fChanging = false) (hd : bit s fDoze = false) (hm : mode s ≠ mService) :
    Answers .s1Entry s (fun t => bit t fDoze = true ∧ mode t = mode s) := by
  refine answers_hub rfl h ?_
  have hasked : ((clearOut s).pwr.entry == 1) = true := beq_iff_eq.2 he
  dsimp only
  rw [if_pos (s1Entry_ready (s := clearOut s) he hq hs hc hd hm), if_pos hasked]
  have hregs (c : Prop) [Decidable c] (f : Mem → Mem) := dozeSet_asked_regs [0, 1, 2, 3] c f (clearOut s)
  exact ⟨(bit_congr (hregs _ _) fDoze).trans (bit_setF_one _ _ _ (by decide)),
    (getF_congr (hregs _ _) fCur).trans (mode_dozeSet (clearOut s))⟩

/-- The registers of the end of S1 (R369). -/
def dozeEnded (s : State) : State := bump R.PM_S1_EXITS (setF fPstate 0 (setF fDoze 0 s))

theorem endDoze_regs (h : bit s fDoze = true) : (endDoze s).regs = (dozeEnded s).regs := by
  unfold endDoze
  rw [if_pos h]
  rfl

theorem doze_dozeEnded (s : State) : bit (dozeEnded s) fDoze = false := by
  unfold dozeEnded
  rw [bit, bump, addCnt, getF_setReg_ne (g := fDoze) _ _ (by decide),
    getF_setF_ne (f := fPstate) (g := fDoze) _ _ (by decide)]
  exact bit_setF_zero _ _ _ (by decide)

theorem mode_dozeEnded (s : State) : mode (dozeEnded s) = mode s := by
  unfold dozeEnded
  rw [bump, addCnt, mode_setReg_ne, mode_setF_ne, mode_setF_ne]

/-- Activity ends S1, and keeps the mode. -/
theorem answers_s1Exit (h : Runs s) (hd : bit s fDoze = true) :
    Answers .s1Exit s (fun t => bit t fDoze = false ∧ mode t = mode s) := by
  refine answers_hub (f := endDoze) rfl h ?_
  have hregs : (endDoze (clearOut s)).regs = (dozeEnded (clearOut s)).regs := endDoze_regs hd
  exact ⟨(bit_congr hregs fDoze).trans (doze_dozeEnded _), (getF_congr hregs fCur).trans (mode_dozeEnded (clearOut s))⟩

/-! ### The entry into S2 or S3 -/

theorem smGet_filter_of_not {α : Type} {d : Nat → α} (p : Nat → Bool) (l : SMap α) {k : Nat} (hk : p k = false) :
    smGet d (l.filter (fun e => p e.1)) k = d k := by
  induction l with
  | nil => rfl
  | cons e l ih =>
    rw [List.filter_cons]
    split
    · next he =>
      have hne : k ≠ e.1 := by rintro rfl; rw [hk] at he; exact absurd he (by decide)
      rw [smGet, if_neg hne, ih, ite_self]
    · exact ih

/-- A state that lists registers of the power die alone is in COLD. -/
theorem mode_powerRegs {l : SMap Word} (h : s.regs = l.filter (fun e => powerKey e.1)) : mode s = mCold := by
  have hreg : reg s R.DEV_MODE = 0 := by
    unfold reg
    rw [h, smGet_filter_of_not powerKey l (by decide)]
    decide
  simp only [mode, getF, hreg]
  decide

theorem ModeFrame.showStraps (h : ModeFrame s t) : ModeFrame s (Machine.showStraps t) := by
  unfold Machine.showStraps
  exact setF (setF (h.setReg _) _) _

/-- What most resets keep of the FLT page (R349). -/
theorem ModeFrame.keepFirst (h : ModeFrame s t) (old : State) : ModeFrame s (Machine.forAll
    (R.FLT_HALT_CAUSE :: (List.range 4).map R.FLT_FIRST) (fun k t => Machine.setReg k (reg old k) t) t) :=
  h.forAll _ fun k hk _ hu => hu.setReg _
    ((by decide : ∀ k ∈ R.FLT_HALT_CAUSE :: (List.range 4).map R.FLT_FIRST, PlainKey k) k hk)

/-- A reset of the hub die leaves the mode COLD (Table 16-8). -/
theorem mode_hubReset (cause : Nat) (s : State) : mode (hubReset cause s) = mCold := by
  have hstart (t : State) (ns : List Nat) (v : Nat) (ht : mode t = mCold) : mode (setF fAoEntering 0 (setF fFenceIn v
      (showStraps (forAll ns (fun n t => lSet n { lGet t n with veser := true } t) t)))) = mCold := by
    rw [mode_setF_ne, ModeFrame.mode_eq (.setF (.showStraps (.forAll (.refl t) ns fun n _ _ hu => hu.lSet n _)) v)]
    exact ht
  unfold hubReset
  dsimp only
  split
  · exact hstart _ _ _ (mode_powerRegs rfl)
  · rw [mode_setF_ne, ModeFrame.mode_eq (.keepFirst (.refl _) s)]
    exact hstart _ _ _ (mode_powerRegs rfl)

theorem mode_dropSupply (s : State) : mode (dropSupply s) = mode s := by
  unfold dropSupply
  rw [mode_setF_ne, mode_setF_ne, mode_setF_ne]

/-- A sleep entry that no level wake meets ends in its sleep state, in COLD. -/
theorem answers_sleepEntryComplete (edges : BitVec 9) (h : Runs s) (he : s.pwr.entry = 3)
    (ht : s.pwr.target = 2 ∨ s.pwr.target = 3) :
    Answers (.sleepEntryComplete edges 0) s (fun t => getF t fPstate = s.pwr.target ∧ mode t = mCold) := by
  refine answers_hub rfl h ?_
  have hnow (a b : Nat) : (0 : BitVec 9).toNat &&& a &&& b = 0 := by simp
  dsimp only
  rw [if_pos (show (clearOut s).pwr.entry = 3 from he), if_pos (hnow _ _)]
  constructor
  · rw [getF_kept, addCnt, getF_setReg_ne (g := fPstate) _ _ (by decide), getF_setF_ne (g := fPstate) _ _ (by decide),
      getF_setF_same fPstate _ _ (by decide)]
    exact Nat.mod_eq_of_lt (by rcases ht with ht | ht <;> simp [ht])
  · rw [mode, getF_kept, ← mode, addCnt, mode_setReg_ne, mode_setF_ne, mode_setF_ne, mode_dropSupply]
    exact mode_hubReset _ _

/-! ### The wake -/

/-- The registers of step 5 of a wake: S0, no longer WAKING. -/
def woken (s : State) : State :=
  setF fPstate 0 (setF fWaking 0 (modPwr (fun p => { p with failed := false }) (bump R.AO_WAKES s)))

theorem mode_woken (s : State) : mode (woken s) = mode s := by
  unfold woken
  rw [mode_setF_ne, mode_setF_ne]
  exact mode_setReg_ne _ s

theorem ModeFrame.wakeArrives (held : Nat) (s : State) : ModeFrame (woken s) (wakeArrives held s) := by
  unfold Machine.wakeArrives
  dsimp only
  exact guarded (f := Machine.bootRaise _ _)
    (forAll (announceCause (retention (.refl (woken s)) held) _) _ fun _ _ _ hu => hu.bootRaise _ _) _
    fun _ hu => hu.bootRaise _ _

theorem ModeFrame.powerField (h : ModeFrame s t) (f : Fld) (hf : f.key = R.AO_STATUS) : getF t f = getF s f := by
  simp only [getF, hf, h.power]

/-- The wipe is done, before the wake arrives (R379). -/
abbrev wiped (s : State) : State := setF fWipeDone 1 (modPwr (fun p => { p with step := .idle }) s)

theorem waking_wiped (s : State) : bit (wiped s) fWaking = bit s fWaking := by
  rw [bit, getF_setF_ne (g := fWaking) _ _ (by decide)]
  rfl

theorem mode_woken_wiped (s : State) : mode (woken (wiped s)) = mode s := by
  rw [mode_woken, mode_setF_ne]
  rfl

/-- The end of the wipe in a wake arrives in S0 with the mode that the reset left. -/
theorem answers_wakeResetDone (held : BitVec 8) (puf : Fin 4) (fuseBad : Bool) (h : Powered s) (hstep : s.pwr.step = .wipe)
    (hw : bit s fWaking = true) (hm : mode s = mCold) :
    Answers (.wakeResetDone held puf fuseBad) s (fun t => getF t fPstate = 0 ∧ mode t = mCold) := by
  refine answers_power rfl h ?_
  dsimp only
  rw [if_pos (show (clearOut s).pwr.step = .wipe from hstep),
    if_pos ((waking_wiped (clearOut s)).trans hw)]
  have hraised := ModeFrame.when (.pufDone (.lcAnnounce (.wakeArrives held.toNat (wiped (clearOut s)))) puf.val) fuseBad
    fun _ hu => hu.fuseError
  have hlinks := hraised.pumpBoot.pumpBoot.forAll [0, 1, 2, 3, 4] (f := linkStart) fun n _ _ hu => hu.linkStart n
  exact ⟨(hlinks.powerField fPstate rfl).trans (getF_setF_same fPstate 0 _ (by decide)),
    hlinks.mode_eq.trans ((mode_woken_wiped (clearOut s)).trans hm)⟩

/-- Settles O56: the completion lemmas of the four commands above. -/
theorem dozeKeepsTheModeAndWakesArriveCold : Obligations.DozeKeepsTheModeAndWakesArriveCold := by
  unfold Obligations.DozeKeepsTheModeAndWakesArriveCold
  exact ⟨fun _ h he hq hs hc hd hm => answers_s1Entry h he hq hs hc hd hm, fun _ h hd => answers_s1Exit h hd,
    fun edges _ h he ht => answers_sleepEntryComplete edges h he ht,
    fun held puf fuseBad _ h hstep hw _ hm => answers_wakeResetDone held puf fuseBad h hstep hw hm⟩

end Sys2Proof.Machine

/-! ## Level changes, the speed gauge and the pace guard (R35–R43, R361–R364) -/

namespace Sys2Proof.Machine

variable {s t u : State} {ks : List Nat}

/-! ### Fields and frames -/

theorem getF_lt (s : State) (f : Fld) : getF s f < 2 ^ f.w := Nat.mod_lt _ (Nat.two_pow_pos _)

/-- A field reads back a value that fits it. -/
theorem getF_setF_fits {f : Fld} {v : Nat} (s : State) (hf : f.lo + f.w ≤ 32) (hv : v < 2 ^ f.w) :
    getF (setF f v s) f = v :=
  (getF_setF_same f v s hf).trans (Nat.mod_eq_of_lt hv)

/-- Fields that do not overlap: they lie in two registers, or beside each other in one. -/
abbrev Apart (f g : Fld) : Prop := f.lo + f.w ≤ 32 ∧ (f.lo + f.w ≤ g.lo ∨ g.lo + g.w ≤ f.lo) ∨ g.key ≠ f.key

theorem getF_setF_apart {f g : Fld} (v : Nat) (s : State) (h : Apart f g) : getF (setF f v s) g = getF s g := by
  by_cases hk : g.key = f.key
  · obtain ⟨hf, hd⟩ := h.resolve_right (not_not_intro hk)
    exact getF_setF_disj v s hf hk hd
  · exact getF_setF_ne v s hk

/-- A further change may touch the registers of the list. -/
theorem RegsBut.to (h : RegsBut ks s t) (hu : ∀ k, k ∉ ks → reg u k = reg t k) : RegsBut ks s u :=
  fun k hk => (hu k hk).trans (h k hk)

theorem RegsBut.mono {ks' : List Nat} (h : RegsBut ks s t) (hks : ∀ k ∈ ks, k ∈ ks' := by decide) : RegsBut ks' s t :=
  fun k hk => h k fun hm => hk (hks k hm)

theorem RegsBut.setReg {k : Nat} (h : RegsBut ks s t) (v : Word) (hk : k ∈ ks := by decide) :
    RegsBut ks s (Machine.setReg k v t) := regsBut_setReg v h hk

theorem RegsBut.setF {f : Fld} (h : RegsBut ks s t) (v : Nat) (hk : f.key ∈ ks := by decide) :
    RegsBut ks s (Machine.setF f v t) := h.setReg _ hk

theorem RegsBut.bump {k : Nat} (h : RegsBut ks s t) (hk : k ∈ ks := by decide) : RegsBut ks s (Machine.bump k t) :=
  h.setReg _ hk

theorem RegsBut.pulse (h : RegsBut ks s t) (x : Nat) (p : Pulse) (hk : R.CDC_OVERRUN_EVENTS ∈ ks := by decide) :
    RegsBut ks s (Machine.pulse x p t) :=
  h.to fun _ hj => reg_pulse x p t fun e => hj (e ▸ hk)

theorem pulse_mem (x : Nat) (p : Pulse) (s : State) : (pulse x p s).mem = s.mem := by rw [pulse_frame]
theorem raise_mem (src d : Nat) (s : State) : (raise src d s).mem = s.mem := by rw [raise_frame]
theorem raise_pwr (src d : Nat) (s : State) : (raise src d s).pwr = s.pwr := by rw [raise_frame]

/-! ### The code on VCODE (R361, R362) -/

/-- The code that is due: that of the level, or the P3 code during an external wipe (R380). -/
abbrev dueCode (s : State) : Word := BitVec.ofNat 32 (if s.mem.wiping then 52 else levelVcode s)

theorem driveCode_eq (s : State) : driveCode s =
    if reg s R.PM_VCODE = dueCode s then s else setF fVready 0 (setReg R.PM_VCODE (dueCode s) s) := rfl

theorem driveCode_frame (s : State) : driveCode s = { s with regs := (driveCode s).regs } := by
  rw [driveCode_eq]
  split <;> rfl

theorem driveCode_pwr (s : State) : (driveCode s).pwr = s.pwr := by rw [driveCode_frame]

theorem vcode_driveCode (s : State) : reg (driveCode s) R.PM_VCODE = dueCode s := by
  rw [driveCode_eq]
  split
  · assumption
  · rw [reg_setF_ne _ _ (by decide), reg_setReg_same]

theorem vready_driveCode (h : reg (driveCode s) R.PM_VCODE ≠ reg s R.PM_VCODE) : bit (driveCode s) fVready = false := by
  rw [vcode_driveCode] at h
  rw [driveCode_eq, if_neg h.symm]
  exact bit_setF_zero _ _ _ (by decide)

theorem reg_driveCode {k : Nat} (s : State) (hv : k ≠ R.PM_VCODE) (ha : k ≠ R.AO_STATUS) :
    reg (driveCode s) k = reg s k := by
  rw [driveCode_eq]
  split
  · rfl
  · rw [reg_setF_ne _ _ ha, reg_setReg_ne _ _ hv]

theorem getF_driveCode {f : Fld} (s : State) (hv : f.key ≠ R.PM_VCODE) (ha : f.key ≠ R.AO_STATUS) :
    getF (driveCode s) f = getF s f := getF_of_reg (reg_driveCode s hv ha)

theorem RegsBut.driveCode (h : RegsBut ks s t) (hv : R.PM_VCODE ∈ ks := by decide) (ha : R.AO_STATUS ∈ ks := by decide) :
    RegsBut ks s (Machine.driveCode t) :=
  h.to fun _ hj => reg_driveCode t (fun e => hj (e ▸ hv)) fun e => hj (e ▸ ha)

/-- VCODE takes the code of level `l`, and VREADY falls where that differs from the code in `s`. -/
theorem driveCode_shows {l : Nat} (hcode : reg u R.PM_VCODE = reg s R.PM_VCODE) (hwipe : u.mem.wiping = s.mem.wiping)
    (hl : levelVcode u = levelCode l) :
    reg (driveCode u) R.PM_VCODE = BitVec.ofNat 32 (if s.mem.wiping then 52 else 4 + 16 * l) ∧
    (reg (driveCode u) R.PM_VCODE ≠ reg s R.PM_VCODE → bit (driveCode u) fVready = false) := by
  refine ⟨?_, fun hne => vready_driveCode (hcode ▸ hne)⟩
  rw [vcode_driveCode, dueCode, hwipe, hl]
  rfl

/-! ### The end of a change, and the SDRAM rate -/

theorem reg_compareLevel {k : Nat} (s : State) (hl : k ≠ R.SPD_LIMIT_PS) (hs : k ≠ R.SPD_STATUS) :
    reg (compareLevel s) k = reg s k := by
  unfold compareLevel
  rw [reg_setF_ne _ _ hs, reg_setReg_ne _ _ hl]

theorem getF_compareLevel {f : Fld} (s : State) (hl : f.key ≠ R.SPD_LIMIT_PS) (hs : f.key ≠ R.SPD_STATUS) :
    getF (compareLevel s) f = getF s f := getF_of_reg (reg_compareLevel s hl hs)

theorem RegsBut.compareLevel (h : RegsBut ks s t) (hl : R.SPD_LIMIT_PS ∈ ks := by decide)
    (hs : R.SPD_STATUS ∈ ks := by decide) : RegsBut ks s (Machine.compareLevel t) :=
  h.to fun _ hj => reg_compareLevel t (fun e => hj (e ▸ hl)) fun e => hj (e ▸ hs)

theorem level_endChange {l : Nat} (s : State) (hl : l < 4) : level (endChange l s) = l := by
  unfold endChange level
  rw [getF_compareLevel _ (by decide) (by decide), getF_setF_apart _ _ (by decide), getF_setF_apart _ _ (by decide)]
  exact getF_setF_fits (f := fLevel) _ (by decide) hl

theorem changing_endChange (l : Nat) (s : State) : bit (endChange l s) fChanging = false := by
  unfold endChange
  rw [bit, getF_compareLevel _ (by decide) (by decide)]
  exact bit_setF_zero _ _ _ (by decide)

/-- A field of PM.STATUS above the level and the progress of its change, or of a register that the end of one leaves alone. -/
theorem getF_endChange {f : Fld} (l : Nat) (s : State) (hf : f.key = R.PM_STATUS → 5 ≤ f.lo) (hl : f.key ≠ R.SPD_LIMIT_PS)
    (hs : f.key ≠ R.SPD_STATUS) : getF (endChange l s) f = getF s f := by
  have hapart {g : Fld} (hg : g.key = R.PM_STATUS) (hw : g.lo + g.w ≤ 5) : Apart g f := by
    by_cases hk : f.key = R.PM_STATUS
    · exact .inl ⟨by omega, .inl (hw.trans (hf hk))⟩
    · exact .inr (hg ▸ hk)
  unfold endChange
  rw [getF_compareLevel _ hl hs, getF_setF_apart _ _ (hapart rfl (by decide)), getF_setF_apart _ _ (hapart rfl (by decide)),
    getF_setF_apart _ _ (hapart rfl (by decide))]
  rfl

theorem RegsBut.endChange (h : RegsBut ks s t) (l : Nat) (hp : R.PM_STATUS ∈ ks := by decide)
    (hl : R.SPD_LIMIT_PS ∈ ks := by decide) (hs : R.SPD_STATUS ∈ ks := by decide) : RegsBut ks s (Machine.endChange l t) :=
  ((RegsBut.setF (f := fLevel) (t := modPwr (fun p => { p with level := .idle }) t) h _ hp).setF (f := fTargetLevel) _ hp
    |>.setF (f := fChanging) _ hp).compareLevel hl hs

/-- Where nothing waits for the SDRAM, the gap of a rate change ends with its bit. -/
theorem gapOver_idle (hb : s.disp.bar4 = []) (hh : s.disp.held = []) : gapOver s = setF fRateChanging 0 s := by
  have hlines (l : List Nat) : forAll l heldLine (setF fRateChanging 0 s) = setF fRateChanging 0 s := by
    refine forAll_keeps (P := fun u => u = setF fRateChanging 0 s) l heldLine (fun n u hu => ?_) rfl
    have hnone : smGet (fun _ => none) u.disp.held n = none := by rw [hu, setF_disp, hh]; rfl
    rw [heldLine, hnone]
    exact hu
  unfold gapOver
  dsimp only
  rw [hlines, setF_disp, hb]
  rfl

/-- Where nothing waits for the SDRAM, a change of its rate touches MEM.STATUS and its count alone (R125). -/
structure RateChanged (s t : State) : Prop where
  frame : t = { s with regs := t.regs }
  regs : RegsBut [R.MEM_STATUS, R.MEM_RATE_CHANGES] s t
  gap : bit t fRateChanging = false

theorem rateChanged_gap (h : RegsBut [R.MEM_STATUS, R.MEM_RATE_CHANGES] s t) (e : t = { s with regs := t.regs }) :
    RateChanged s (setF fRateChanging 0 t) where
  frame := by rw [e]; rfl
  regs := h.setF _
  gap := bit_setF_zero _ _ _ (by decide)

theorem rateChange_idle (hb : s.disp.bar4 = []) (hh : s.disp.held = []) : RateChanged s (rateChange s) := by
  unfold rateChange
  dsimp only
  split
  · split
    · rw [gapOver_idle hb hh]
      exact rateChanged_gap (regsBut_refl _ s) rfl
    · rw [gapOver_idle (s := bump _ (setF _ _ s)) hb hh]
      exact rateChanged_gap (((regsBut_refl _ s).setF _).bump) rfl
  · rw [gapOver_idle hb hh]
    exact rateChanged_gap (regsBut_refl _ s) rfl

/-! ### Level changes -/

/-- An effect behind `hub` is asked of the state before it alone. -/
theorem hub_congr {f g : State → State} (h : f (clearOut s) = g (clearOut s)) : hub s f = hub s g := by
  unfold hub
  rw [h]

/-- The change of level, or the return from a wipe, stands at this step. -/
abbrev atStep (step : LevelStep) (s : State) : State := modPwr (fun p => { p with level := step }) s

/-- PM.STATUS once a request is taken up: the marks of an earlier denial are gone. -/
def undenied (s : State) : State := setF fDeniedBusy 0 (setF fDeniedRim 0 (setF fDeniedAdm 0 s))

theorem getF_undenied {f : Fld} (s : State) (hf : f.lo + f.w ≤ 5) : getF (undenied s) f = getF s f := by
  have hapart (i : Nat) (hi : 5 ≤ i) (hi' : i < 32) : Apart ⟨R.PM_STATUS, i, 1⟩ f := .inl ⟨hi', .inr (hf.trans hi)⟩
  unfold undenied
  rw [getF_setF_apart _ _ (hapart 7 (by decide) (by decide)), getF_setF_apart _ _ (hapart 6 (by decide) (by decide)),
    getF_setF_apart _ _ (hapart 5 (by decide) (by decide))]

/-- A rise to level `l` is accepted: step Raise 1 of Table 16-2, before VCODE moves. -/
def raising (l : Nat) (s : State) : State :=
  atStep .raiseVolt
    (pulse 61 ⟨0, l⟩ (compareLevel (setF fTargetLevel l (setF fChanging 1 (undenied s)))))

theorem levelRequest_rise {l : Nat} (hd : bit s fDoze = false) (hc : bit s fChanging = false) (he : s.pwr.entry < 2)
    (hl : level s < l) : levelRequest l s = driveCode (raising l s) := by
  have hlevel : level (undenied s) = level s := getF_undenied s (by decide)
  have hbusy : ¬ (bit (undenied s) fChanging || decide (2 ≤ (undenied s).pwr.entry)) = true := by
    rw [bit, getF_undenied s (by decide), ← bit, hc]
    simpa [show (undenied s).pwr = s.pwr from rfl] using Nat.le_of_lt_succ he
  have hup : decide (level (undenied s) < l) = true := decide_eq_true (hlevel ▸ hl)
  unfold levelRequest startChange
  dsimp only
  rw [endDoze_of_awake hd, ← undenied, if_neg hbusy, if_neg (by omega), if_neg (by omega), if_pos hup]
  rfl

theorem RegsBut.undenied (s : State) : RegsBut [R.PM_STATUS] s (Machine.undenied s) :=
  (((regsBut_refl _ s).setF 0).setF 0).setF 0

theorem getF_raising {f : Fld} (l : Nat) (s : State) (hf : f.key = R.PM_STATUS) :
    getF (raising l s) f = getF (setF fTargetLevel l (setF fChanging 1 (undenied s))) f := by
  show getF (pulse 61 ⟨0, l⟩ _) f = _
  rw [getF_pulse _ _ _ (hf ▸ by decide), getF_compareLevel _ (hf ▸ by decide) (hf ▸ by decide)]

theorem regsBut_raising (l : Nat) (s : State) :
    RegsBut [R.PM_STATUS, R.SPD_LIMIT_PS, R.SPD_STATUS, R.CDC_OVERRUN_EVENTS] s (raising l s) :=
  RegsBut.pulse (t := compareLevel (setF fTargetLevel l (setF fChanging 1 (undenied s))))
    (((RegsBut.undenied s).mono.setF 1).setF l).compareLevel 61 ⟨0, l⟩

/-- A request for a higher level raises the code first (R35, R361, R363). -/
theorem answers_levelRequest {target : BitVec 2} (h : Awake s) (hc : bit s fChanging = false) (he : s.pwr.entry < 2)
    (hl : level s < target.toNat) :
    Answers (.levelRequest target) s (fun t =>
      bit t fChanging = true ∧ getF t fTargetLevel = target.toNat ∧ level t = level s ∧
      reg t R.PM_VCODE = BitVec.ofNat 32 (if s.mem.wiping then 52 else 4 + 16 * target.toNat) ∧
      (reg t R.PM_VCODE ≠ reg s R.PM_VCODE → bit t fVready = false) ∧ t.pwr.level = .raiseVolt ∧
      RegsBut [R.PM_STATUS, R.PM_VCODE, R.AO_STATUS, R.SPD_LIMIT_PS, R.SPD_STATUS, R.CDC_OVERRUN_EVENTS] s t) := by
  obtain ⟨hruns, hd⟩ := h
  refine answers_hub (f := levelRequest target.toNat) rfl hruns ?_
  rw [levelRequest_rise (s := clearOut s) hd hc he hl]
  have hfld {f : Fld} (hf : f.key = R.PM_STATUS) : getF (driveCode (raising target.toNat (clearOut s))) f =
      getF (setF fTargetLevel target.toNat (setF fChanging 1 (undenied (clearOut s)))) f :=
    (getF_driveCode _ (hf ▸ by decide) (hf ▸ by decide)).trans (getF_raising _ _ hf)
  have htarget : getF (setF fTargetLevel target.toNat (setF fChanging 1 (undenied (clearOut s)))) fTargetLevel =
      target.toNat := getF_setF_fits _ (by decide) target.isLt
  obtain ⟨hcode, hready⟩ := driveCode_shows (s := s) (u := raising target.toNat (clearOut s)) (l := target.toNat)
    (regsBut_raising _ _ _ (by decide)) (congrArg Mem.wiping (pulse_mem _ _ _))
    (congrArg levelCode ((getF_raising _ _ rfl).trans htarget))
  refine ⟨?_, (hfld rfl).trans htarget, ?_, hcode, hready, ?_, (regsBut_raising target.toNat (clearOut s)).mono.driveCode⟩
  · rw [bit, getF_kept, hfld rfl, getF_setF_apart _ _ (by decide)]
    exact bit_setF_one _ _ _ (by decide)
  · rw [level, getF_kept, hfld rfl, getF_setF_apart _ _ (by decide), getF_setF_apart _ _ (by decide),
      getF_undenied _ (by decide)]
    rfl
  · exact congrArg Pwr.level (driveCode_pwr (raising target.toNat (clearOut s)))

theorem exec_levelVready (s : State) : exec .levelVready s = execLevelVready s := rfl

theorem exec_levelVready_lowerVolt (hstep : s.pwr.level = .lowerVolt) :
    exec .levelVready s = hub s (fun s => completeChange (setF fVready 1 s)) := by
  rw [exec_levelVready]
  refine hub_congr ?_
  dsimp only [clearOut_pwr]
  rw [hstep]

theorem exec_levelVready_wipeVolt (hstep : s.pwr.level = .wipeVolt) :
    exec .levelVready s = hub s (fun s => endChange (level s) (setF fVrdyFail 0 (setF fVready 1 s))) := by
  rw [exec_levelVready]
  refine hub_congr ?_
  dsimp only [clearOut_pwr]
  rw [hstep]

/-- VREADY ends a fall in level: the target is in force (R363). -/
theorem answers_levelVready_lowerVolt (h : Runs s) (hstep : s.pwr.level = .lowerVolt) :
    Answers .levelVready s (fun t =>
      bit t fChanging = false ∧ level t = getF s fTargetLevel ∧ bit t fVready = true ∧ bit t fVrdyFail = false ∧
      reg t R.PM_LEVEL_CHANGES = reg s R.PM_LEVEL_CHANGES + 1 ∧
      RegsBut [R.PM_STATUS, R.AO_STATUS, R.PM_LEVEL_CHANGES, R.SPD_LIMIT_PS, R.SPD_STATUS] s t ∧
      t = { s with regs := t.regs, pwr := { s.pwr with level := .idle }, out := [] }) := by
  refine answers_hub_eq (exec_levelVready_lowerVolt hstep) h rfl rfl rfl ?_
  have hregs : RegsBut [R.PM_STATUS, R.AO_STATUS, R.SPD_LIMIT_PS, R.SPD_STATUS] s
      (endChange (getF (setF fVready 1 (clearOut s)) fTargetLevel) (setF fVready 1 (clearOut s))) :=
    ((regsBut_refl _ (clearOut s)).setF (f := fVready) 1).endChange _
  unfold completeChange
  refine ⟨?_, ?_, ?_, bit_setF_zero _ _ _ (by decide), ?_, hregs.mono.bump.setF 0, rfl⟩
  · rw [bit, getF_setF_apart _ _ (by decide), getF_bump _ _ (by decide)]
    exact changing_endChange _ _
  · rw [level, getF_setF_apart _ _ (by decide), getF_bump _ _ (by decide), ← level, level_endChange _ (getF_lt _ _)]
    exact getF_setF_apart _ _ (by decide)
  · rw [bit, getF_setF_apart _ _ (by decide), getF_bump _ _ (by decide),
      getF_endChange _ _ (by decide) (by decide) (by decide)]
    exact bit_setF_one _ _ _ (by decide)
  · rw [reg_setF_ne _ _ (by decide), reg_bump_same, hregs _ (by decide)]

/-- VREADY ends the return from an external wipe: the level has stayed as it was (R380). -/
theorem answers_levelVready_wipeVolt (h : Runs s) (hstep : s.pwr.level = .wipeVolt) :
    Answers .levelVready s (fun t =>
      bit t fChanging = false ∧ level t = level s ∧ bit t fVready = true ∧ bit t fVrdyFail = false ∧
      t.pwr = { s.pwr with level := .idle }) := by
  refine answers_hub_eq (exec_levelVready_wipeVolt hstep) h rfl rfl rfl ?_
  refine ⟨changing_endChange _ _, level_endChange _ (getF_lt _ _), ?_, ?_, rfl⟩
  · rw [bit, getF_endChange _ _ (by decide) (by decide) (by decide), getF_setF_apart _ _ (by decide)]
    exact bit_setF_one _ _ _ (by decide)
  · rw [bit, getF_endChange _ _ (by decide) (by decide) (by decide)]
    exact bit_setF_zero _ _ _ (by decide)

/-- The step that a change of the rims leads to where the code is to follow them, and the level `l` of that code: in a fall the
target, in the return from a wipe the level in force. -/
def RimStep (s : State) (step : LevelStep) (l : Nat) : Prop :=
  s.pwr.level = .lowerRim ∧ step = .lowerVolt ∧ l = getF s fTargetLevel ∨
    s.pwr.level = .wipeRim ∧ step = .wipeVolt ∧ l = level s

theorem exec_levelRimChangeDone (s : State) : exec .levelRimChangeDone s = execLevelRimChangeDone s := rfl

theorem exec_levelRimChangeDone_slower {step : LevelStep} {l : Nat} (hstep : RimStep s step l) :
    exec .levelRimChangeDone s = hub s (fun s => driveCode (atStep step (rateChange s))) := by
  rw [exec_levelRimChangeDone]
  refine hub_congr ?_
  dsimp only [clearOut_pwr]
  rcases hstep with ⟨hs, rfl, -⟩ | ⟨hs, rfl, -⟩ <;> rw [hs]

/-- The code follows the rims to level `l` (R363, R380). -/
theorem answers_levelRimChangeDone {step : LevelStep} {l : Nat} (h : Runs s) (hb : s.disp.bar4 = []) (hh : s.disp.held = [])
    (hstep : RimStep s step l) :
    Answers .levelRimChangeDone s (fun t =>
      t.pwr.level = step ∧ (reg t R.PM_VCODE ≠ reg s R.PM_VCODE → bit t fVready = false) ∧
      reg t R.PM_VCODE = BitVec.ofNat 32 (if s.mem.wiping then 52 else 4 + 16 * l) ∧
      bit t fRateChanging = false ∧ RegsBut [R.PM_VCODE, R.AO_STATUS, R.MEM_STATUS, R.MEM_RATE_CHANGES] s t ∧
      t = { s with regs := t.regs, pwr := { s.pwr with level := step }, out := [] }) := by
  obtain ⟨hframe, hregs, hgap⟩ := rateChange_idle (s := clearOut s) hb hh
  have hstatus {f : Fld} (hf : f.key = R.PM_STATUS) : getF (rateChange (clearOut s)) f = getF s f :=
    getF_of_reg (hregs _ (hf ▸ by decide))
  have hlevel : levelVcode (atStep step (rateChange (clearOut s))) = levelCode l := by
    rcases hstep with ⟨-, rfl, rfl⟩ | ⟨-, rfl, rfl⟩ <;> exact congrArg levelCode (hstatus rfl)
  obtain ⟨hcode, hready⟩ := driveCode_shows (s := s) (u := atStep step (rateChange (clearOut s)))
    (hregs _ (by decide)) (by rw [hframe]; rfl) hlevel
  have hregs' : RegsBut [R.PM_VCODE, R.AO_STATUS, R.MEM_STATUS, R.MEM_RATE_CHANGES] s
      (atStep step (rateChange (clearOut s))) := RegsBut.mono (t := atStep step (rateChange (clearOut s))) hregs
  have hall : driveCode (atStep step (rateChange (clearOut s))) =
      { s with
        regs := (driveCode (atStep step (rateChange (clearOut s)))).regs
        pwr := { s.pwr with level := step }
        out := [] } := by
    rw [driveCode_frame, hframe]
    rfl
  refine answers_hub_eq (exec_levelRimChangeDone_slower hstep) h rfl (by rw [hall]) (by rw [hall])
    ⟨by rw [hall], hready, hcode, ?_, hregs'.driveCode, hall⟩
  rw [bit, getF_driveCode _ (by decide) (by decide)]
  exact hgap

/-- What the first expiry of a wait for VREADY goes back to, and the level `l` of its code: in a rise the level in force, in the
return from a wipe P3 (R364, R380). -/
def FirstExpiry (s : State) (step : LevelStep) (l : Nat) : Prop :=
  s.pwr.level = .raiseVolt ∧ step = .restoreRaise ∧ l = level s ∨ s.pwr.level = .wipeVolt ∧ step = .wipeRestore ∧ l = 3

/-- VREADY has not come in time: the failure is shown, counted and raised (R364). -/
def vrdyFailed (s : State) : State :=
  raise 120 (getF s fTargetLevel + 0x100) (bump R.PM_VRDY_FAILS (setF fVrdyFail 1 s))

theorem exec_levelVreadyTimeout (s : State) : exec .levelVreadyTimeout s = execLevelVreadyTimeout s := rfl

theorem exec_levelVreadyTimeout_first {step : LevelStep} {l : Nat} (hstep : FirstExpiry s step l) :
    exec .levelVreadyTimeout s = hub s (fun s => driveCode (atStep step (vrdyFailed s))) := by
  rw [exec_levelVreadyTimeout]
  refine hub_congr ?_
  dsimp only [clearOut_pwr]
  rcases hstep with ⟨hs, rfl, -⟩ | ⟨hs, rfl, -⟩ <;> rw [hs] <;> rfl

theorem getF_vrdyFailed {f : Fld} (s : State) (hf : f.key = R.PM_STATUS) :
    getF (vrdyFailed s) f = getF (setF fVrdyFail 1 s) f := by
  unfold vrdyFailed
  rw [getF_raise _ _ _ (hf ▸ by decide), getF_bump _ _ (hf ▸ by decide)]

theorem level_vrdyFailed (s : State) : level (vrdyFailed s) = level s :=
  (getF_vrdyFailed s rfl).trans (getF_setF_apart _ _ (by decide))

theorem reg_vrdyFailed {k : Nat} (s : State) (hk : k ≠ R.CDC_OVERRUN_EVENTS) (hp : k ≠ R.PM_STATUS)
    (hf : k ≠ R.PM_VRDY_FAILS) : reg (vrdyFailed s) k = reg s k := by
  unfold vrdyFailed
  rw [reg_raise _ _ _ hk, reg_bump _ _ hf, reg_setF_ne _ _ hp]

/-- The failure shows, and the code goes back (R364). -/
theorem answers_levelVreadyTimeout {step : LevelStep} {l : Nat} (h : Runs s) (hstep : FirstExpiry s step l) :
    Answers .levelVreadyTimeout s (fun t =>
      bit t fVrdyFail = true ∧ reg t R.PM_VRDY_FAILS = reg s R.PM_VRDY_FAILS + 1 ∧
      reg t R.PM_VCODE = BitVec.ofNat 32 (if s.mem.wiping then 52 else 4 + 16 * l) ∧ level t = level s ∧
      (reg t R.PM_VCODE ≠ reg s R.PM_VCODE → bit t fVready = false) ∧ t.pwr = { s.pwr with level := step }) := by
  have hlevel : levelVcode (atStep step (vrdyFailed (clearOut s))) = levelCode l := by
    rcases hstep with ⟨-, rfl, rfl⟩ | ⟨-, rfl, rfl⟩
    · exact congrArg levelCode (level_vrdyFailed _)
    · rfl
  obtain ⟨hcode, hready⟩ := driveCode_shows (s := s) (u := atStep step (vrdyFailed (clearOut s)))
    (reg_vrdyFailed _ (by decide) (by decide) (by decide)) (congrArg Mem.wiping (raise_mem _ _ _)) hlevel
  refine answers_hub (exec_levelVreadyTimeout_first hstep) h ⟨?_, ?_, hcode, ?_, hready, ?_⟩
  · rw [bit, getF_kept, getF_driveCode _ (by decide) (by decide)]
    exact decide_eq_true ((getF_vrdyFailed _ rfl).trans (getF_setF_fits _ (by decide) (by decide)))
  · rw [reg_kept, reg_driveCode _ (by decide) (by decide)]
    show reg (vrdyFailed (clearOut s)) _ = _
    unfold vrdyFailed
    rw [reg_raise _ _ _ (by decide), reg_bump_same, reg_setF_ne _ _ (by decide)]
    rfl
  · rw [level, getF_kept, getF_driveCode _ (by decide) (by decide)]
    exact level_vrdyFailed _
  · show (driveCode (atStep step (vrdyFailed (clearOut s)))).pwr = _
    rw [driveCode_pwr]
    exact congrArg (fun p : Pwr => { p with level := step }) (raise_pwr _ _ _)

/-! ### The gauge and the pace guard -/

/-- A sample of `c` ps is held, numbered and counted (R39). -/
def gauged (c : Nat) (s : State) : State :=
  setF ⟨R.SPD_STATUS, 5, 1⟩ 1 (bump64 R.SPD_SAMPLES
    (setReg R.SPD_CYCLE_PS (BitVec.ofNat 32 (c + (getF s ⟨R.SPD_CYCLE_PS, 16, 16⟩ + 1) % 65536 * 65536)) s))

/-- CYCLE_MAX with a sample of `c` ps (R40). -/
def withMax (c : Nat) (s : State) : State :=
  setReg R.SPD_CYCLE_MAX (BitVec.ofNat 32 (max c (reg s R.SPD_CYCLE_MAX).toNat)) s

/-- CYCLE_MIN with a sample of `c` ps (R40). -/
def withMin (c : Nat) (s : State) : State :=
  setReg R.SPD_CYCLE_MIN (BitVec.ofNat 32 (min c (reg s R.SPD_CYCLE_MIN).toNat)) s

/-- What every sample of `c` ps leaves in the gauge. -/
abbrev sampled (c : Nat) (s : State) : State := withMin c (withMax c (gauged c s))

theorem reg_gauged {k : Nat} (c : Nat) (s : State) (hk : k ∉ [R.SPD_CYCLE_PS, R.SPD_SAMPLES, R.SPD_SAMPLES + 4, R.SPD_STATUS]) :
    reg (gauged c s) k = reg s k := by
  simp only [List.mem_cons, List.not_mem_nil, or_false, not_or] at hk
  obtain ⟨hcycle, hlow, hhigh, hstatus⟩ := hk
  unfold gauged
  rw [reg_setF_ne _ _ hstatus, reg_bump64 _ _ hlow hhigh, reg_setReg_ne _ _ hcycle]

theorem reg_withMax {k : Nat} (c : Nat) (s : State) (hk : k ≠ R.SPD_CYCLE_MAX) : reg (withMax c s) k = reg s k :=
  reg_setReg_ne _ _ hk

theorem reg_withMin {k : Nat} (c : Nat) (s : State) (hk : k ≠ R.SPD_CYCLE_MIN) : reg (withMin c s) k = reg s k :=
  reg_setReg_ne _ _ hk

/-- The gauge's extremes aside, a sample reads as `gauged` leaves it. -/
theorem getF_sampled {f : Fld} (c : Nat) (s : State) (hmax : f.key ≠ R.SPD_CYCLE_MAX) (hmin : f.key ≠ R.SPD_CYCLE_MIN) :
    getF (sampled c s) f = getF (gauged c s) f := getF_of_reg ((reg_withMin _ _ hmin).trans (reg_withMax _ _ hmax))

theorem slow_sampled (c : Nat) (s : State) : bit (sampled c s) fSlow = bit s fSlow := by
  rw [bit, getF_sampled _ _ (by decide) (by decide), gauged, getF_setF_apart _ _ (by decide),
    getF_bump64 _ _ (by decide) (by decide), getF_setReg_ne _ _ (by decide)]
  rfl

theorem limit_sampled (c : Nat) (s : State) : reg (sampled c s) R.SPD_LIMIT_PS = reg s R.SPD_LIMIT_PS :=
  (reg_withMin _ _ (by decide)).trans ((reg_withMax _ _ (by decide)).trans (reg_gauged _ _ (by decide)))

theorem cycle_gauged (c : BitVec 16) (s : State) :
    getF (gauged c.toNat s) ⟨R.SPD_CYCLE_PS, 0, 16⟩ = c.toNat ∧
    getF (gauged c.toNat s) ⟨R.SPD_CYCLE_PS, 16, 16⟩ = (getF s ⟨R.SPD_CYCLE_PS, 16, 16⟩ + 1) % 65536 := by
  have hc := c.isLt
  unfold gauged
  rw [getF_setF_ne _ _ (by decide), getF_bump64 _ _ (by decide) (by decide), getF_setReg_same,
    getF_setF_ne _ _ (by decide), getF_bump64 _ _ (by decide) (by decide), getF_setReg_same, bits, bits, BitVec.toNat_ofNat]
  omega

theorem exec_speedGaugeSample (cycle : BitVec 16) (s : State) :
    exec (.speedGaugeSample cycle) s = execSpeedGaugeSample cycle s := rfl

/-- A sample within the limit while the core is not slow does no more than that (R39–R41). -/
theorem exec_speedGaugeSample_within {cycle : BitVec 16} (hslow : bit s fSlow = false)
    (hc : cycle.toNat ≤ (reg s R.SPD_LIMIT_PS).toNat) :
    exec (.speedGaugeSample cycle) s = hub s (sampled cycle.toNat) := by
  have hslow' : ¬ bit (sampled cycle.toNat (clearOut s)) fSlow = true := by
    rw [slow_sampled, bit_clearOut, hslow]
    decide
  have habove : decide ((reg (sampled cycle.toNat (clearOut s)) R.SPD_LIMIT_PS).toNat < cycle.toNat) = false := by
    rw [limit_sampled]
    exact decide_eq_false (Nat.not_lt.2 hc)
  rw [exec_speedGaugeSample]
  refine hub_congr ?_
  set u := sampled cycle.toNat (clearOut s)
  let above := decide ((reg u R.SPD_LIMIT_PS).toNat < cycle.toNat)
  show (if bit (when above (bump64 R.SPD_SLOW_SAMPLES) u) fSlow = true then _
    else if above = true then _ else when above (bump64 R.SPD_SLOW_SAMPLES) u) = u
  rw [show above = false from habove, when_false, if_neg hslow', if_neg Bool.false_ne_true]

/-- The gauge takes a sample within the limit (R39, R40). -/
theorem answers_speedGaugeSample {cycle : BitVec 16} (h : Runs s) (hslow : bit s fSlow = false)
    (hc : cycle.toNat ≤ (reg s R.SPD_LIMIT_PS).toNat) :
    Answers (.speedGaugeSample cycle) s (fun t =>
      getF t ⟨R.SPD_CYCLE_PS, 0, 16⟩ = cycle.toNat ∧
      getF t ⟨R.SPD_CYCLE_PS, 16, 16⟩ = (getF s ⟨R.SPD_CYCLE_PS, 16, 16⟩ + 1) % 65536 ∧
      reg t R.SPD_CYCLE_MAX = BitVec.ofNat 32 (max cycle.toNat (reg s R.SPD_CYCLE_MAX).toNat) ∧
      reg t R.SPD_CYCLE_MIN = BitVec.ofNat 32 (min cycle.toNat (reg s R.SPD_CYCLE_MIN).toNat) ∧
      bit t ⟨R.SPD_STATUS, 5, 1⟩ = true ∧ bit t fSlow = false ∧
      RegsBut [R.SPD_CYCLE_PS, R.SPD_SAMPLES, R.SPD_SAMPLES + 4, R.SPD_STATUS, R.SPD_CYCLE_MAX, R.SPD_CYCLE_MIN] s t ∧
      OnlyRegs s t) := by
  refine answers_hub_eq (exec_speedGaugeSample_within hslow hc) h rfl rfl rfl ?_
  obtain ⟨hcycle, hseq⟩ := cycle_gauged cycle (clearOut s)
  refine ⟨?_, ?_, ?_, ?_, ?_, (slow_sampled _ _).trans hslow, ?_, rfl⟩
  · rw [getF_sampled _ _ (by decide) (by decide), hcycle]
  · rw [getF_sampled _ _ (by decide) (by decide), hseq]
    rfl
  · rw [reg_withMin _ _ (by decide), withMax, reg_setReg_same, reg_gauged _ _ (by decide), reg_clearOut]
  · rw [sampled, withMin, reg_setReg_same, reg_withMax _ _ (by decide), reg_gauged _ _ (by decide), reg_clearOut]
  · rw [bit, getF_sampled _ _ (by decide) (by decide)]
    exact bit_setF_one _ _ _ (by decide)
  · have hgauged : RegsBut [R.SPD_CYCLE_PS, R.SPD_SAMPLES, R.SPD_SAMPLES + 4, R.SPD_STATUS] s
        (gauged cycle.toNat (clearOut s)) := fun k hk => reg_gauged _ _ hk
    exact (RegsBut.setReg hgauged.mono _).setReg _

theorem accrueAll_regs (s : State) : (accrueAll s).regs = s.regs :=
  congrArg Prod.fst (coreFields_forAll (List.range 14) coreFields_accrue s)

theorem regsBut_accrueAll (ks : List Nat) (s : State) : RegsBut ks s (accrueAll s) :=
  fun k _ => reg_congr (accrueAll_regs s) k

/-- The pace guard gives or takes a step: `n` steps are in force now (R42). -/
def pacedBy (n : Nat) (s : State) : State :=
  bump R.SPD_PACE_STEPS (setF fPacing (if n = 0 then 0 else 1) (setF fPaced n (accrueAll s)))

theorem paceStep_slow (hslow : bit s fSlow = true) (hp : getF s fPaced < 4) : paceStep s = pacedBy (getF s fPaced + 1) s := by
  have hc : (bit s fSlow && decide (getF s fPaced < 4)) = true := by simp [hslow, hp]
  unfold paceStep
  dsimp only
  rw [if_pos hc]
  rfl

theorem exec_paceGuardStep (s : State) : exec .paceGuardStep s = execPaceGuardStep s := rfl

theorem exec_paceGuardStep_slow (hen : bit s fPaceEn = true) (hslow : bit s fSlow = true) (hp : getF s fPaced < 4) :
    exec .paceGuardStep s = hub s (pacedBy (getF s fPaced + 1)) := by
  rw [exec_paceGuardStep]
  refine hub_congr ?_
  rw [if_pos (show bit (clearOut s) fPaceEn = true from hen)]
  exact paceStep_slow (s := clearOut s) hslow hp

/-- A slow core has its classes paced one step more (R42). -/
theorem answers_paceGuardStep (h : Runs s) (hen : bit s fPaceEn = true) (hslow : bit s fSlow = true)
    (hp : getF s fPaced < 4) :
    Answers .paceGuardStep s (fun t =>
      getF t fPaced = getF s fPaced + 1 ∧ bit t fPacing = true ∧
      reg t R.SPD_PACE_STEPS = reg s R.SPD_PACE_STEPS + 1 ∧ RegsBut [R.SPD_STATUS, R.SPD_PACE_STEPS] s t) := by
  refine answers_hub (exec_paceGuardStep_slow hen hslow hp) h ?_
  rw [pacedBy, if_neg (Nat.succ_ne_zero _)]
  have hfits : getF s fPaced + 1 < 8 := lt_of_le_of_lt hp (by decide)
  refine ⟨?_, ?_, ?_, (((regsBut_accrueAll _ (clearOut s)).setF _).setF _).bump⟩
  · rw [getF_kept, getF_bump _ _ (by decide), getF_setF_apart _ _ (by decide)]
    exact getF_setF_fits _ (by decide) hfits
  · rw [bit, getF_kept, getF_bump _ _ (by decide)]
    exact bit_setF_one _ _ _ (by decide)
  · rw [reg_kept, reg_bump_same, reg_setF_ne _ _ (by decide), reg_setF_ne _ _ (by decide), reg_congr (accrueAll_regs _)]
    rfl

/-- SPD.PACE_GUARD with EN cleared. -/
abbrev guardOff (s : State) : Word := reg s R.SPD_PACE_GUARD &&& ~~~1 &&& 0xFF07

theorem guardOff_en (s : State) : bits (guardOff s).toNat 0 1 = 0 := by
  have hen : (guardOff s).getLsbD 0 = false := by simp
  have hodd : (guardOff s).toNat.testBit 0 = false := hen
  rw [Nat.testBit_zero, decide_eq_false_iff_not] at hodd
  unfold bits
  omega

theorem exec_paceGuardDisable (s : State) : exec .paceGuardDisable s = execPaceGuardDisable s := rfl

theorem paceGuardWrite_off (s : State) : paceGuardWrite (reg s R.SPD_PACE_GUARD &&& ~~~1) s =
    setF fPacing 0 (setF fPaced 0 (setReg R.SPD_PACE_GUARD (guardOff s) (accrueAll s))) := by
  have hen : ¬ bit (setReg R.SPD_PACE_GUARD (guardOff s) (accrueAll s)) fPaceEn = true := by
    rw [bit, getF_setReg_same, guardOff_en]
    decide
  exact if_neg hen

/-- Without EN nothing is paced (R43). -/
theorem answers_paceGuardDisable (h : Runs s) :
    Answers .paceGuardDisable s (fun t =>
      bit t fPaceEn = false ∧ getF t fPaced = 0 ∧ bit t fPacing = false ∧ RegsBut [R.SPD_STATUS, R.SPD_PACE_GUARD] s t) := by
  refine answers_hub (exec_paceGuardDisable s) h ?_
  rw [paceGuardWrite_off]
  refine ⟨?_, ?_, bit_setF_zero _ _ _ (by decide), (((regsBut_accrueAll _ (clearOut s)).setReg _).setF _).setF _⟩
  · rw [bit, getF_kept, getF_setF_apart _ _ (by decide), getF_setF_apart _ _ (by decide), getF_setReg_same, guardOff_en]
    rfl
  · rw [getF_kept, getF_setF_apart _ _ (by decide)]
    exact getF_setF_fits _ (by decide) (by decide)

theorem exec_spdExtremeRead (max : Bool) (s : State) : exec (.spdExtremeRead max) s = execSpdExtremeRead max s := rfl

/-- A read of an extreme answers it and starts it afresh (R40). -/
theorem answers_spdExtremeRead (max : Bool) (h : Runs s) :
    Answers (.spdExtremeRead max) s (fun t =>
      t.out = [.readData (reg s (if max then R.SPD_CYCLE_MAX else R.SPD_CYCLE_MIN))] ∧ (max = true →
      reg t R.SPD_CYCLE_MAX = 0) ∧ (max = false → reg t R.SPD_CYCLE_MIN = 0xFFFF) ∧
      RegsBut [if max then R.SPD_CYCLE_MAX else R.SPD_CYCLE_MIN] s t ∧ OnlyRegs s t) := by
  cases max with
  | true =>
    refine answers_hub_eq (exec_spdExtremeRead true s) h rfl rfl rfl
      ⟨rfl, fun _ => reg_setReg_same _ _ _, nofun, ?_, rfl⟩
    exact regsBut_setReg _ (regsBut_refl _ s) (by decide)
  | false =>
    refine answers_hub_eq (exec_spdExtremeRead false s) h rfl rfl rfl
      ⟨rfl, nofun, fun _ => reg_setReg_same _ _ _, ?_, rfl⟩
    exact regsBut_setReg _ (regsBut_refl _ s) (by decide)

/-- Settles O2: each clause is the completion lemma of its command above. -/
theorem speedCommandsComplete : Obligations.SpeedCommandsComplete := by
  unfold Obligations.SpeedCommandsComplete
  refine ⟨fun _ _ h hc he hl => answers_levelRequest h hc he hl,
    fun _ h hstep => answers_levelVready_lowerVolt h hstep,
    fun _ h hb hh hstep => answers_levelRimChangeDone h hb hh (.inl ⟨hstep, rfl, rfl⟩),
    fun _ h hstep => answers_imp (answers_levelVreadyTimeout h (.inl ⟨hstep, rfl, rfl⟩)) ?_,
    fun _ h hb hh hstep => answers_imp (answers_levelRimChangeDone h hb hh (.inr ⟨hstep, rfl, rfl⟩)) ?_,
    fun _ h hstep => answers_levelVready_wipeVolt h hstep,
    fun _ h hstep => answers_imp (answers_levelVreadyTimeout h (.inr ⟨hstep, rfl, rfl⟩)) ?_,
    fun _ _ h hslow hc => answers_speedGaugeSample h hslow hc,
    fun _ h hen hslow hp => answers_paceGuardStep h hen hslow hp,
    fun _ h => answers_paceGuardDisable h,
    fun max _ h => answers_spdExtremeRead max h⟩
  · rintro t ⟨hfail, hcount, hcode, hlevel, hready, hpwr⟩
    exact ⟨hfail, hcount, hcode, hlevel, hready, congrArg Pwr.level hpwr⟩
  · rintro t ⟨hstep, hready, hcode, hgap, hregs, -⟩
    exact ⟨hstep, hready, hcode, hgap, hregs⟩
  · rintro t ⟨hfail, hcount, -, hlevel, -, hpwr⟩
    exact ⟨hfail, hcount, hlevel, hpwr⟩

end Sys2Proof.Machine

/-! ## The cable link: states that five of its statements leave out (R51–R58, R63–R65, R314, R382, R403)

Each of the five refuted statements has one clause that names too few conditions; the state written out beside it meets every
condition that the clause does name. -/

namespace Sys2Proof.Machine

variable {c : Instr} {s t : State} {n : Nat}

/-- What a completed command of the hub die shows is so of the state that its effect leaves. -/
theorem of_answers_hub {f : State → State} {P : State → Prop} (e : exec c s = hub s f) (h : Runs s) (ha : Answers c s P) :
    P (kept s (f (clearOut s))) := by
  obtain ⟨t, ht, hP⟩ := ha
  have hnext : Host.Outcome.next t = .next (kept s (f (clearOut s))) := ht.symm.trans (e.trans (hub_of_runs h))
  exact Host.Outcome.next.inj hnext ▸ hP

@[simp] theorem linkState_kept (s t : State) (n : Nat) : linkState (kept s t) n = linkState t n := rfl

/-! ### A running hub -/

/-- The hub die runs in COLD, and LINK1.STATUS holds `v`. -/
def linkAt (v : Word) : State :=
  setReg (R.LINK_STATUS 1) v (setReg R.AO_STATUS 0 { State.reset with pwr := { resetLow := false } })

theorem runs_linkAt (v : Word) : Runs (linkAt v) := by
  have hao (f : Fld) (hf : f.key = R.AO_STATUS) : getF (linkAt v) f = bits (0 : Word).toNat f.lo f.w := by
    rw [linkAt, getF_setReg_ne _ _ (hf ▸ by decide), getF, hf, reg_setReg_same]
  rw [Runs, hubRuns, bit, hao ⟨R.AO_STATUS, 0, 2⟩ rfl, hao ⟨R.AO_STATUS, 3, 1⟩ rfl]
  rfl

theorem linkState_linkAt (v : Word) : linkState (linkAt v) 1 = bits v.toNat 0 3 := getF_setReg_same _ _ _ _ _

/-! ### AUTH at an end in END (R382, R403) -/

/-- In END nothing that arrives, or fails to, ends AUTH before the end's own AUTH_DONE has gone. -/
theorem authEnd_waiting (h : (lGet s n).sbOut.any (fun f => f.1 == 0x42) = true) : authEnd n s = s := if_pos h

/-- Link 1 is in AUTH, the life cycle is END, and the AUTH_DONE 0x06 of this end waits for its slot. -/
def authAtEnd : State := lSet 1 { sbOut := [(0x42, [0x06])] } (setReg R.SEC_STATUS 5 (linkAt 3))

theorem runs_authAtEnd : Runs authAtEnd := runs_linkAt 3

theorem linkState_authAtEnd : linkState authAtEnd 1 = lsAuth :=
  (getF_setReg_ne _ _ (by decide)).trans (linkState_linkAt 3)

theorem lc_authAtEnd : lc authAtEnd = lcEnd := getF_setReg_same _ _ _ _ _

theorem authEnd_authAtEnd : authEnd 1 (clearOut authAtEnd) = clearOut authAtEnd := authEnd_waiting rfl

theorem exec_authFrameMissing (n : Port) (s : State) : exec (.authFrameMissing n) s = execAuthFrameMissing n s := rfl

theorem exec_authFrameMissing_authAtEnd : exec (.authFrameMissing 1) authAtEnd = hub authAtEnd id := by
  rw [exec_authFrameMissing]
  exact hub_congr ((if_pos ⟨linkState_authAtEnd, lc_authAtEnd⟩).trans authEnd_authAtEnd)

/-- Refutes O3: at an end in END the missing frame of AUTH_FRAME_MISSING changes nothing while the end's own AUTH_DONE waits, so
the link stays in AUTH (R382). -/
theorem not_linkLossCommandsComplete : ¬ Obligations.LinkLossCommandsComplete := by
  unfold Obligations.LinkLossCommandsComplete
  rintro ⟨-, -, -, -, -, hmissing, -⟩
  obtain ⟨hdown, -, -⟩ := of_answers_hub exec_authFrameMissing_authAtEnd runs_authAtEnd
    (hmissing 1 authAtEnd runs_authAtEnd linkState_authAtEnd (by decide))
  have hauth : linkState (kept authAtEnd (clearOut authAtEnd)) 1 = lsAuth := linkState_authAtEnd
  exact absurd (hauth.symm.trans hdown) (by decide)

theorem exec_sbAuthDoneReceived (n : Port) (kind : Byte) (s : State) :
    exec (.sbAuthDoneReceived n kind) s = execSbAuthDoneReceived n kind s := rfl

theorem sbGood_of_ne (h : linkState s n ≠ lsDetect) : sbGood n s = s := if_neg h

theorem exec_sbAuthDoneReceived_authAtEnd (kind : Byte) :
    exec (.sbAuthDoneReceived 1 kind) authAtEnd = hub authAtEnd id := by
  have hauth : linkState (clearOut authAtEnd) 1 = lsAuth := linkState_authAtEnd
  have hend : lc (clearOut authAtEnd) = lcEnd := lc_authAtEnd
  rw [exec_sbAuthDoneReceived]
  refine hub_congr (f := sbAuthDone 1 kind) ?_
  unfold sbAuthDone
  dsimp only
  rw [sbGood_of_ne (hauth ▸ by decide), if_neg (not_not_intro hauth), if_pos hend, authEnd_authAtEnd]
  rfl

/-- Refutes O8: at an end in END an AUTH_DONE that arrives before the end's own has gone is not noted, in COLD as in any mode
(R382). -/
theorem not_authAndLaneCommandsComplete : ¬ Obligations.AuthAndLaneCommandsComplete := by
  unfold Obligations.AuthAndLaneCommandsComplete
  rintro ⟨-, -, hdone, -⟩
  have hcold : mode authAtEnd = mCold := by decide
  have hnoted := of_answers_hub (exec_sbAuthDoneReceived_authAtEnd 0) runs_authAtEnd
    (hdone 1 authAtEnd runs_authAtEnd linkState_authAtEnd hcold)
  have hpeer := congrArg (fun t => (lGet t 1).peerDone) hnoted
  exact absurd hpeer (by decide)

/-! ### A good frame in DETECT (R51, R63) -/

theorem linkState_sbGood (h : linkState s n = lsDetect) : linkState (sbGood n s) n = lsTrain := by
  rw [sbGood, if_pos h]
  exact getF_setF_fits (f := fLinkState n) _ (by decide : 0 + 3 ≤ 32) (by decide : lsTrain < 2 ^ 3)

theorem linkState_sbLpNak (n : Nat) (s : State) : linkState (sbLpNak n s) n = linkState (sbGood n s) n := rfl

theorem exec_sbLpNakReceived (n : Port) (s : State) : exec (.sbLpNakReceived n) s = hub s (sbLpNak n) := rfl

/-- Refutes O7: the clause of SB_LP_NAK_RECEIVED asks nothing of the link's state, and in DETECT the frame, being a good one, moves
the link to TRAIN as well (R51). -/
theorem not_sidebandCommandsComplete : ¬ Obligations.SidebandCommandsComplete := by
  unfold Obligations.SidebandCommandsComplete
  rintro ⟨-, -, -, -, -, -, -, -, hnak, -⟩
  have hnoted := of_answers_hub (exec_sbLpNakReceived 1 (linkAt 1)) (runs_linkAt 1) (hnak 1 (linkAt 1) (runs_linkAt 1))
  have hdetect : linkState (linkAt 1) 1 = lsDetect := (linkState_linkAt 1).trans (by decide)
  have htrain : linkState (sbLpNak (1 : Port) (clearOut (linkAt 1))) 1 = lsTrain :=
    (linkState_sbLpNak 1 _).trans (linkState_sbGood hdetect)
  rw [← linkState_kept (linkAt 1), hnoted] at htrain
  exact absurd (hdetect.symm.trans htrain) (by decide)

/-! ### A return from LOWPOWER within a port pair (R53, R67, R314) -/

/-- Ports 1 and 2 are a dock's pair; link 1 is in LOWPOWER, and the hold of port 2, whose link was lost meanwhile, runs. -/
def lowpowerInPair : State := lSet 2 { holding := true } (setReg R.PAIR_DOCK_CTRL 0x25 (linkAt 5))

theorem runs_lowpowerInPair : Runs lowpowerInPair := runs_linkAt 5

theorem linkState_lowpowerInPair : linkState lowpowerInPair 1 = lsLowpower :=
  (getF_setReg_ne _ _ (by decide)).trans (linkState_linkAt 5)

theorem exec_lowpowerExit (e : LpExit) (s : State) : exec (.lowpowerExit e) s = hub s (endLowpower e.port e.own) := rfl

/-- The link's return ends the hold of its pair, which is counted at its port. -/
theorem holdResumes_lowpowerInPair :
    reg (endLowpower (1 : Port) false (clearOut lowpowerInPair)) (R.LINK_HOLD_RESUMES 1) = 1 := by decide +kernel

/-- Refutes O4: the clause of LOWPOWER_EXIT leaves every register but LINK.STATUS and DEV.MODE as before, and asks nothing about a
hold; but a return to UP that ends the hold of a port pair counts HOLD_RESUMES (R67, R314). -/
theorem not_linkStateCommandsComplete : ¬ Obligations.LinkStateCommandsComplete := by
  unfold Obligations.LinkStateCommandsComplete
  rintro ⟨-, -, -, -, hexit, -⟩
  obtain ⟨-, -, -, hregs, -⟩ := of_answers_hub (exec_lowpowerExit ⟨1, false⟩ lowpowerInPair) runs_lowpowerInPair
    (hexit 1 false lowpowerInPair runs_lowpowerInPair linkState_lowpowerInPair)
  have hbefore : reg lowpowerInPair (R.LINK_HOLD_RESUMES 1) = 0 := by decide +kernel
  have hcount := hregs (R.LINK_HOLD_RESUMES 1) (by decide)
  rw [hbefore, reg_kept, holdResumes_lowpowerInPair] at hcount
  exact absurd hcount (by decide)

/-! ### A table of links out of order -/

/-- Link 1 is UP and has one block to acknowledge; its place in the table of links comes before that of link 0. -/
def linksOutOfOrder : State := { linkAt 4 with link := [(1, { rxSinceAck := 1 }), (0, { veser := true })] }

theorem exec_ackSendTimer (n : Port) (s : State) : exec (.ackSendTimer n) s = execAckSendTimer n s := rfl

/-- The ACK is sent in two writes of link 1; the first, of a link as after reset, takes out of the table what should stand before. -/
theorem link_sendAck_linksOutOfOrder : (sendAck 1 (clearOut linksOutOfOrder)).link.length = 1 := by decide +kernel

/-- Refutes O5: it speaks of every list as the table of links, in the canonical form or not; where the keys do not rise, the two
writes of ACK_SEND_TIMER do not leave the list that the one write of its clause does. -/
theorem not_blockCommandsComplete : ¬ Obligations.BlockCommandsComplete := by
  unfold Obligations.BlockCommandsComplete
  rintro ⟨-, -, -, -, htimer, -⟩
  have hruns : Runs linksOutOfOrder := runs_linkAt 4
  have hup : linkState linksOutOfOrder 1 = lsUp := linkState_linkAt 4
  have hdue : (lGet linksOutOfOrder 1).rxSinceAck ≠ 0 := by decide
  have hack : exec (.ackSendTimer 1) linksOutOfOrder = hub linksOutOfOrder (sendAck 1) :=
    (exec_ackSendTimer _ _).trans (hub_congr (if_pos ⟨hup, hdue⟩))
  have hsent := of_answers_hub hack hruns (htimer 1 linksOutOfOrder hruns hup hdue)
  have hlink := congrArg (fun t => t.link.length) hsent
  exact absurd (link_sendAck_linksOutOfOrder.symm.trans hlink) (by decide)

end Sys2Proof.Machine

/-! ## Re-allotment of a link's lanes (R60–R62, Tables 3-6 and 3-7) -/

namespace Sys2Proof.Machine

variable {s t u : State} {n : Nat} {ks : List Nat}

/-! ### What a link shows and keeps -/

@[simp] theorem lGet_setReg (k : Nat) (v : Word) (s : State) (j : Nat) : lGet (setReg k v s) j = lGet s j := rfl
@[simp] theorem lGet_setF (f : Fld) (v : Nat) (s : State) (j : Nat) : lGet (setF f v s) j = lGet s j := rfl
@[simp] theorem lGet_emit (o : Output) (s : State) (j : Nat) : lGet (emit o s) j = lGet s j := rfl
@[simp] theorem lGet_bump (k : Nat) (s : State) (j : Nat) : lGet (bump k s) j = lGet s j := rfl
@[simp] theorem lGet_satAdd (f : Fld) (a : Nat) (s : State) (j : Nat) : lGet (satAdd f a s) j = lGet s j := rfl
theorem lGet_lSet_same (n : Nat) (l : Link) (s : State) : lGet (lSet n l s) n = l := by rw [lGet_lSet, if_pos rfl]
theorem lGet_raise (src d : Nat) (s : State) (j : Nat) : lGet (raise src d s) j = lGet s j := by rw [raise_frame]; rfl

/-- Nothing but registers and what the links keep has changed. -/
def OnlyLinks (s t : State) : Prop := t = { s with regs := t.regs, link := t.link }

theorem OnlyLinks.pending (h : OnlyLinks s t) : t.pending = s.pending := by
  unfold OnlyLinks at h
  rw [h]

theorem OnlyLinks.fuse (h : OnlyLinks s t) : t.fuse = s.fuse := by
  unfold OnlyLinks at h
  rw [h]

theorem OnlyLinks.setReg (h : OnlyLinks s t) (k : Nat) (v : Word) : OnlyLinks s (Machine.setReg k v t) := by
  unfold OnlyLinks at *
  generalize t.regs = r, t.link = l at h
  subst h
  rfl

theorem OnlyLinks.setF (h : OnlyLinks s t) (f : Fld) (v : Nat) : OnlyLinks s (Machine.setF f v t) := h.setReg _ _

theorem OnlyLinks.lSet (h : OnlyLinks s t) (n : Nat) (l : Link) : OnlyLinks s (Machine.lSet n l t) := by
  unfold OnlyLinks at *
  generalize t.regs = r, t.link = m at h
  subst h
  rfl

/-- Link `n` shows the same LINK.STATUS in both, and a view of what it keeps beside its registers is the same. -/
structure LinkFrame {α : Type} (view : Link → α) (n : Nat) (s t : State) : Prop where
  status : reg t (R.LINK_STATUS n) = reg s (R.LINK_STATUS n)
  view_eq : view (lGet t n) = view (lGet s n)

namespace LinkFrame

variable {α : Type} {view : Link → α}

theorem refl (s : State) : LinkFrame view n s s := ⟨rfl, rfl⟩

theorem trans (h : LinkFrame view n s t) (h' : LinkFrame view n t u) : LinkFrame view n s u :=
  ⟨h'.status.trans h.status, h'.view_eq.trans h.view_eq⟩

theorem getF_eq (h : LinkFrame view n s t) {f : Fld} (hf : f.key = R.LINK_STATUS n := by rfl) : getF t f = getF s f :=
  getF_of_reg (hf ▸ h.status)

theorem setReg {k : Nat} (h : LinkFrame view n s t) (v : Word) (hk : R.LINK_STATUS n ≠ k) :
    LinkFrame view n s (Machine.setReg k v t) := h.trans ⟨reg_setReg_ne _ _ hk, rfl⟩

theorem setF {f : Fld} (h : LinkFrame view n s t) (v : Nat) (hk : R.LINK_STATUS n ≠ f.key) :
    LinkFrame view n s (Machine.setF f v t) := h.setReg _ hk

theorem bump {k : Nat} (h : LinkFrame view n s t) (hk : R.LINK_STATUS n ≠ k) : LinkFrame view n s (Machine.bump k t) :=
  h.setReg _ hk

theorem bump64 {k : Nat} (h : LinkFrame view n s t) (hk : R.LINK_STATUS n ≠ k) (hk' : R.LINK_STATUS n ≠ k + 4) :
    LinkFrame view n s (Machine.bump64 k t) := (h.setReg _ hk).setReg _ hk'

theorem lSet {l : Link} (h : LinkFrame view n s t) (hl : view l = view (lGet t n)) :
    LinkFrame view n s (Machine.lSet n l t) :=
  h.trans ⟨rfl, (congrArg view (lGet_lSet_same n l t)).trans hl⟩

theorem emit (h : LinkFrame view n s t) (o : Output) : LinkFrame view n s (Machine.emit o t) := h.trans ⟨rfl, rfl⟩

theorem forAll {β : Type} (h : LinkFrame view n s t) (l : List β) {f : β → State → State}
    (hf : ∀ a u, LinkFrame view n s u → LinkFrame view n s (f a u)) : LinkFrame view n s (Machine.forAll l f t) :=
  forAll_keeps l f hf h

theorem raise (h : LinkFrame view n s t) (src d : Nat) : LinkFrame view n s (Machine.raise src d t) :=
  h.trans ⟨reg_raise _ _ _ (by unfold R.LINK_STATUS R.CDC_OVERRUN_EVENTS; omega), congrArg view (lGet_raise src d t n)⟩

theorem violation (h : LinkFrame view n s t) (b : Nat) : LinkFrame view n s (Machine.violation n b t) :=
  (h.setF (f := ⟨R.LINK_VIOL_STATUS n, b, 1⟩) 1 (by unfold R.LINK_STATUS R.LINK_VIOL_STATUS; dsimp only; omega)).raise _ _

theorem overbookCheck (h : LinkFrame view n s t) (hn : n ≤ 4) : LinkFrame view n s (Machine.overbookCheck n t) := by
  have hk : StatusKey (R.LINK_STATUS n) := by unfold R.LINK_STATUS; omega
  refine h.trans ⟨statusKey_overbookCheck hk n t, congrArg view ?_⟩
  unfold Machine.overbookCheck
  dsimp only
  split
  · rw [lGet_raise]; rfl
  · rfl

/-! Blocks that go out. -/

/-- The view does not show how far the dealing of blocks to the lanes has come. -/
def Undealt (view : Link → α) : Prop := ∀ (l : Link) (d : Nat) (f : SMap (List Nat)), view { l with dealt := d, fec := f } = view l

theorem dealUnits (h : LinkFrame view n s t) (hv : Undealt view) (lanes : List Nat) (units : List (List Byte)) :
    LinkFrame view n s (Machine.dealUnits n lanes units t) := by
  refine h.forAll _ fun a u hu => ?_
  dsimp only
  split
  · exact (hu.lSet (hv _ _ _)).emit _
  · exact hu.lSet (hv _ _ _)

theorem wire (h : LinkFrame view n s t) (hv : Undealt view) (b : TxBlock) : LinkFrame view n s (Machine.wire n b t) := by
  unfold Machine.wire
  dsimp only
  split
  · exact h
  split
  · exact h.emit _
  · exact (h.emit _).dealUnits hv _ _

theorem sendAgain (h : LinkFrame view n s t) (hv : Undealt view) (bs : List TxBlock) :
    LinkFrame view n s (Machine.sendAgain n bs t) := by
  unfold Machine.sendAgain
  split
  · exact h
  · exact (h.forAll bs fun b _ hu => hu.wire hv b).setReg _ (by unfold R.LINK_STATUS R.LINK_REPLAYED_BLOCKS; omega)

/-! Blocks that come in. -/

theorem laneStatus (h : LinkFrame view n s t) (p lo w v : Nat) :
    LinkFrame view n s (Machine.setF ⟨R.LANE_STATUS p, lo, w⟩ v t) :=
  h.setF v (by unfold R.LINK_STATUS R.LANE_STATUS; dsimp only; omega)

theorem turnLanes (h : LinkFrame view n s t) : LinkFrame view n s (Machine.turnLanes n t) := by
  refine h.forAll _ fun k u hu => ?_
  dsimp only
  split
  · exact (hu.laneStatus _ _ _ _).laneStatus _ _ _ _
  · exact hu.laneStatus _ _ _ _

/-- The Scarf link has heard of the peer: no other link's frame is touched by that. -/
theorem scarfHeard (h : LinkFrame view n s t) (c : Prop) [Decidable c] :
    LinkFrame view n s (if c then Machine.setF ⟨R.PAIR_STATUS, 4, 1⟩ 1 t else t) := by
  split
  · exact h.setF 1 (by unfold R.LINK_STATUS R.PAIR_STATUS; dsimp only; omega)
  · exact h

theorem headerCredits (h : LinkFrame view n s t) (hv : ∀ (l : Link) (c : SMap Nat), view { l with txCredit := c } = view l)
    (cell : List Byte) : LinkFrame view n s (Machine.headerCredits n cell t) := by
  unfold Machine.headerCredits grantCredit
  dsimp only
  split
  · split
    · exact (h.lSet (hv _ _)).violation _
    · exact h.lSet (hv _ _)
  · exact h

end LinkFrame

/-! ### Requests and their answers (R60–R62) -/

theorem endLowpower_of_ne (own : Bool) (h : linkState s n ≠ lsLowpower) : endLowpower n own s = s := if_neg h

/-- A change of lanes is asked for: LINK.STATUS shows it, and a frame waits for this end's slot. -/
def splitAsked (n : Nat) (l : Link) (type : Nat) (payload : List Byte) (s : State) : State :=
  sendSb n type payload (setF (fSplitting n) 1 (lSet n l s))

theorem splitAsked_shows (l : Link) (type : Nat) (payload : List Byte) (s : State) :
    bit (splitAsked n l type payload s) (fSplitting n) = true ∧
    lGet (splitAsked n l type payload s) n = { l with sbOut := l.sbOut ++ [(type, payload)] } ∧
    RegsBut [R.LINK_STATUS n] s (splitAsked n l type payload s) := by
  refine ⟨bit_setF_one _ _ _ (by decide), ?_, (regsBut_refl _ _).setF 1 (List.mem_singleton_self _)⟩
  unfold splitAsked sendSb
  rw [lGet_lSet_same, lGet_setF, lGet_lSet_same]

theorem splitRequest_legal {target : Nat} (hn : n ≠ 4) (hup : linkState s n = lsUp) (hfree : bit s (fSplitting n) = false)
    (hlegal : splitIllegal s n target = false) :
    splitRequest n target s = splitAsked n
      { lGet s n with splitStep := .requested, splitOwn := true, splitTarget := target } 0x08 [BitVec.ofNat 8 target] s := by
  have hbusy : ¬ (bit s (fSplitting n) = true ∨ lsUp = lsRetrain) := by simp [hfree]
  unfold splitRequest
  dsimp only
  rw [if_neg hn, hup, if_neg (by decide), if_neg hbusy, hlegal, if_neg Bool.false_ne_true,
    endLowpower_of_ne true (hup ▸ by decide)]
  rfl

theorem exec_splitRequest (n : Port) (target : BitVec 3) (s : State) :
    exec (.splitRequest n target) s = hub s (splitRequest n target.toNat) := rfl

/-- A legal request of this end's host goes to the partner (Table 3-6 step 1). -/
theorem answers_splitRequest {n : Port} {target : BitVec 3} (h : Runs s) (hn : n.val ≠ 4) (hup : linkState s n = lsUp)
    (hfree : bit s (fSplitting n) = false) (hlegal : splitIllegal s n target.toNat = false) :
    Answers (.splitRequest n target) s (fun t =>
      bit t (fSplitting n) = true ∧ (lGet t n).splitStep = .requested ∧ (lGet t n).splitOwn = true ∧
      (lGet t n).splitTarget = target.toNat ∧
      (lGet t n).sbOut = (lGet s n).sbOut ++ [(0x08, [BitVec.ofNat 8 target.toNat])] ∧
      RegsBut [R.LINK_STATUS n] s t ∧ t = { s with regs := t.regs, link := t.link, out := [] }) := by
  refine answers_hub_eq (exec_splitRequest n target s) h (splitRequest_legal (s := clearOut s) hn hup hfree hlegal) rfl rfl ?_
  obtain ⟨hbit, hlink, hregs⟩ := splitAsked_shows (n := n)
    { lGet s n with splitStep := .requested, splitOwn := true, splitTarget := target.toNat } 0x08
    [BitVec.ofNat 8 target.toNat] (clearOut s)
  refine ⟨hbit, ?_, ?_, ?_, ?_, hregs, rfl⟩
  all_goals exact (congrArg _ hlink).trans rfl

theorem sbSplitReq_legal {target : Byte} (hn : n ≠ 4) (hup : linkState s n = lsUp) (hidle : (lGet s n).splitStep = .idle)
    (hfree : bit s (fSplitting n) = false) (hlegal : splitIllegal s n target.toNat = false)
    (haccept : bit s ⟨R.LINK_CTRL n, 3, 1⟩ = true) :
    sbSplitReq n target s = splitAsked n
      { lGet s n with splitStep := .requested, splitOwn := false, splitTarget := target.toNat,
                      sbOut := (lGet s n).sbOut.filter (fun f => f.1 != 0x08) } 0x09 [target] s := by
  have hdetect : linkState s n ≠ lsDetect := hup ▸ by decide
  have hown : ¬ ((lGet s n).splitStep = .requested ∧ (lGet s n).splitOwn = true) := by simp [hidle]
  have hbusy : ¬ (bit s (fSplitting n) = true ∨ (lsUp ≠ lsUp ∧ lsUp ≠ lsLowpower)) := by simp [hfree]
  unfold sbSplitReq
  dsimp only
  rw [sbGood_of_ne hdetect, if_neg (by simp [hn, hup]), if_neg hown, hup, if_neg hbusy, hlegal,
    if_neg Bool.false_ne_true, if_pos haccept, endLowpower_of_ne false (hup ▸ by decide)]
  rfl

theorem exec_sbSplitReqReceived (n : Port) (target : BitVec 8) (s : State) :
    exec (.sbSplitReqReceived n target) s = hub s (sbSplitReq n target) := rfl

/-- A legal request of the partner is acknowledged where SPLIT_ACCEPT says so (Table 3-6 step 2). -/
theorem answers_sbSplitReqReceived {n : Port} {target : BitVec 8} (h : Runs s) (hn : n.val ≠ 4) (hup : linkState s n = lsUp)
    (hidle : (lGet s n).splitStep = .idle) (hfree : bit s (fSplitting n) = false)
    (hlegal : splitIllegal s n target.toNat = false) (haccept : bit s ⟨R.LINK_CTRL n, 3, 1⟩ = true) :
    Answers (.sbSplitReqReceived n target) s (fun t =>
      bit t (fSplitting n) = true ∧ (lGet t n).splitStep = .requested ∧ (lGet t n).splitOwn = false ∧
      (lGet t n).splitTarget = target.toNat ∧
      (lGet t n).sbOut = (lGet s n).sbOut.filter (fun f => f.1 != 0x08) ++ [(0x09, [target])] ∧
      RegsBut [R.LINK_STATUS n] s t ∧ t = { s with regs := t.regs, link := t.link, out := [] }) := by
  refine answers_hub_eq (exec_sbSplitReqReceived n target s) h
    (sbSplitReq_legal (s := clearOut s) hn hup hidle hfree hlegal haccept) rfl rfl ?_
  obtain ⟨hbit, hlink, hregs⟩ := splitAsked_shows (n := n)
    { lGet s n with splitStep := .requested, splitOwn := false, splitTarget := target.toNat,
                    sbOut := (lGet s n).sbOut.filter (fun f => f.1 != 0x08) } 0x09 [target] (clearOut s)
  refine ⟨hbit, ?_, ?_, ?_, ?_, hregs, rfl⟩
  all_goals exact (congrArg _ hlink).trans rfl

theorem sbSplitAck_keeping {target : Byte} (hup : linkState s n = lsUp) (hstep : (lGet s n).splitStep = .requested)
    (hown : (lGet s n).splitOwn = true) (htarget : (lGet s n).splitTarget = target.toNat) (hkeeps : losesLane s n = false) :
    sbSplitAck n target s = lSet n { lGet s n with splitStep := .acked, splitStart := s.ticks } s := by
  unfold sbSplitAck beginTurn
  dsimp only
  rw [sbGood_of_ne (hup ▸ by decide), if_neg (by rw [hup]; decide), if_pos ⟨hstep, hown, htarget⟩, hup, if_neg (by decide),
    if_neg (by decide), hkeeps, if_neg Bool.false_ne_true]

theorem exec_sbSplitAckReceived (n : Port) (target : BitVec 8) (s : State) :
    exec (.sbSplitAckReceived n target) s = hub s (sbSplitAck n target) := rfl

/-- An end that loses no lane waits for TURN once its request is acknowledged (Table 3-6 step 3). -/
theorem answers_sbSplitAckReceived {n : Port} {target : BitVec 8} (h : Runs s) (hup : linkState s n = lsUp)
    (hstep : (lGet s n).splitStep = .requested) (hown : (lGet s n).splitOwn = true)
    (htarget : (lGet s n).splitTarget = target.toNat) (hkeeps : losesLane s n = false) :
    Answers (.sbSplitAckReceived n target) s (fun t =>
      t = lSet n { lGet s n with splitStep := .acked, splitStart := s.ticks } { s with out := [] }) :=
  answers_hub_eq (exec_sbSplitAckReceived n target s) h
    (sbSplitAck_keeping (s := clearOut s) hup hstep hown htarget hkeeps) rfl rfl rfl

/-- A good frame leaves all but the state of a link in DETECT and its count of bad training sets as it was. -/
theorem sbGood_shows (n : Nat) (s : State) : RegsBut [R.LINK_STATUS n] s (sbGood n s) ∧
    (∃ k, lGet (sbGood n s) n = { lGet s n with trainBad := k }) ∧
    OnlyLinks s (sbGood n s) := by
  unfold sbGood
  split
  · exact ⟨(regsBut_refl _ _).setF _ (List.mem_singleton_self _), ⟨0, lGet_lSet_same _ _ _⟩, rfl⟩
  · exact ⟨regsBut_refl _ _, ⟨_, rfl⟩, rfl⟩

/-- A request is abandoned with RESULT `r`. -/
def splitAbandoned (n r : Nat) (s : State) : State :=
  splitRefuse n r (setF (fSplitting n) 0 (lSet n { lGet s n with splitStep := .idle, splitOwn := false } s))

theorem OnlyLinks.splitAbandoned (h : OnlyLinks s t) (n r : Nat) : OnlyLinks s (Machine.splitAbandoned n r t) :=
  (((h.lSet n _).setF _ _).setF _ _).setF _ _

theorem splitAbandoned_shows {r : Nat} (s : State) (hr : r < 8) :
    (lGet (splitAbandoned n r s) n).splitStep = .idle ∧ (lGet (splitAbandoned n r s) n).splitOwn = false ∧
    bit (splitAbandoned n r s) (fSplitting n) = false ∧ getF (splitAbandoned n r s) (fSplitResult n) = r ∧
    RegsBut [R.LINK_STATUS n, R.LINK_SPLIT_STATUS n] s (splitAbandoned n r s) := by
  have hne : R.LINK_STATUS n ≠ R.LINK_SPLIT_STATUS n := by unfold R.LINK_STATUS R.LINK_SPLIT_STATUS; omega
  have hlink : lGet (splitAbandoned n r s) n = { lGet s n with splitStep := .idle, splitOwn := false } := by
    unfold splitAbandoned splitRefuse
    rw [lGet_setF, lGet_satAdd, lGet_setF, lGet_lSet_same]
  refine ⟨congrArg Link.splitStep hlink, congrArg Link.splitOwn hlink, ?_, ?_, ?_⟩
  · unfold splitAbandoned splitRefuse satAdd
    rw [bit, getF_setF_ne _ _ hne, getF_setF_ne _ _ hne]
    exact bit_setF_zero _ _ _ (by decide)
  · exact getF_setF_fits (f := fSplitResult n) _ (by decide : 0 + 3 ≤ 32) hr
  · refine (((regsBut_refl _ s).setF (f := fSplitting n) 0 ?_).setF (f := fSplitRefusals n) _ ?_).setF
      (f := fSplitResult n) r ?_
    all_goals simp

theorem exec_sbSplitNakReceived (n : Port) (target reason : BitVec 8) (s : State) :
    exec (.sbSplitNakReceived n target reason) s = hub s (sbSplitNak n) := rfl

/-- A refusal of the partner ends the request with RESULT 3 (R62). -/
theorem answers_sbSplitNakReceived {n : Port} {target reason : BitVec 8} (h : Runs s)
    (hstep : (lGet s n).splitStep = .requested) (hown : (lGet s n).splitOwn = true) :
    Answers (.sbSplitNakReceived n target reason) s (fun t =>
      (lGet t n).splitStep = .idle ∧ (lGet t n).splitOwn = false ∧ bit t (fSplitting n) = false ∧
      getF t (fSplitResult n) = 3 ∧ RegsBut [R.LINK_STATUS n, R.LINK_SPLIT_STATUS n] s t ∧
      t = { s with regs := t.regs, link := t.link, out := [] }) := by
  obtain ⟨hgood, ⟨k, hlink⟩, hframe⟩ := sbGood_shows n (clearOut s)
  have hnak : sbSplitNak n (clearOut s) = splitAbandoned n 3 (sbGood n (clearOut s)) := by
    unfold sbSplitNak
    dsimp only
    rw [hlink]
    exact (if_pos ⟨hstep, hown⟩).trans (by rw [splitAbandoned, hlink])
  generalize sbGood n (clearOut s) = u at hgood hlink hframe hnak
  have hall : OnlyLinks (clearOut s) (splitAbandoned n 3 u) := hframe.splitAbandoned n 3
  refine answers_hub_eq (exec_sbSplitNakReceived n target reason s) h hnak hall.pending hall.fuse ?_
  obtain ⟨hidle, hfree, hbit, hresult, hregs⟩ := splitAbandoned_shows (n := n) (r := 3) u (by decide)
  exact ⟨hidle, hfree, hbit, hresult, (hgood.mono (by simp)).to hregs, hall⟩

/-! ### A block that is accepted (R54, R60) -/

/-- How far a re-allotment has come, its target, and the LSEQ that is expected. -/
def turnView (l : Link) : SplitStep × Nat × Nat := (l.splitStep, l.splitTarget, l.rxE)

theorem LinkFrame.noteSegment (h : LinkFrame turnView n s t) (hi : Nat) (data : List Byte) :
    LinkFrame turnView n s (Machine.noteSegment n hi data t) := by
  unfold Machine.noteSegment
  dsimp only
  split
  · split
    · exact h.lSet rfl
    · exact h.lSet rfl
  · exact h.lSet rfl

theorem LinkFrame.sendAck (h : LinkFrame turnView n s t) : LinkFrame turnView n s (Machine.sendAck n t) := by
  unfold Machine.sendAck sendCtl
  refine (h.lSet ?_).lSet ?_
  · rfl
  · rw [lGet_lSet_same]; rfl

/-- A TURN block that comes once the change is agreed turns the lanes (Table 3-6 step 4). -/
theorem turnReceived_acked (h : (lGet s n).splitStep = .acked) :
    reg (turnReceived n s) (R.LINK_STATUS n) = reg s (R.LINK_STATUS n) ∧
      turnView (lGet (turnReceived n s) n) = (.turning, (lGet s n).splitTarget, (lGet s n).rxE) := by
  obtain ⟨hstatus, hview⟩ := (LinkFrame.refl (view := turnView) (n := n) s).turnLanes
  have hturn : turnReceived n s = lSet n { lGet (turnLanes n s) n with splitStep := .turning } (turnLanes n s) := by
    unfold turnReceived
    rw [h]
  simp only [turnView, Prod.mk.injEq] at hview
  obtain ⟨-, htarget, hseq⟩ := hview
  rw [hturn, lGet_lSet_same]
  exact ⟨hstatus, by rw [turnView, htarget, hseq]⟩

/-- A block is accepted: E advances, and the block joins its segment. -/
def blockNoted (n hi : Nat) (data : List Byte) (s : State) : State :=
  let l := lGet s n
  let s := lSet n { l with rxE := (l.rxE + 1) % 4096, awaitGood := false, rxSinceAck := l.rxSinceAck + 1 } s
  noteSegment n hi data (bump64 (R.LINK_BLOCKS_RX n) (if n = 4 then setF ⟨R.PAIR_STATUS, 4, 1⟩ 1 s else s))

theorem blockNoted_frame (n hi : Nat) (data : List Byte) (s : State) :
    reg (blockNoted n hi data s) (R.LINK_STATUS n) = reg s (R.LINK_STATUS n) ∧
      turnView (lGet (blockNoted n hi data s) n) =
        ((lGet s n).splitStep, (lGet s n).splitTarget, ((lGet s n).rxE + 1) % 4096) := by
  unfold blockNoted
  dsimp only
  set u := lSet n _ s with hu
  obtain ⟨hstatus, hview⟩ := (((LinkFrame.refl (view := turnView) (n := n) u).scarfHeard (n = 4)).bump64
    (k := R.LINK_BLOCKS_RX n) (by unfold R.LINK_STATUS R.LINK_BLOCKS_RX; omega)
    (by unfold R.LINK_STATUS R.LINK_BLOCKS_RX; omega)).noteSegment hi data
  exact ⟨hstatus, hview.trans (by rw [hu, lGet_lSet_same]; rfl)⟩

/-- What a TURN block of the right key generation does once it is accepted. -/
theorem acceptBlock_turn {data : List Byte} {trailer : BitVec 64} (htype : bits trailer.toNat 48 3 = 1)
    (hkey : bit s (fCipher n) = true → bits trailer.toNat 51 1 = generation (lGet s n).rxBlocks % 2) :
    ∃ cells u, u = turnReceived n (forAll cells (headerCredits n) (blockNoted n (trailer.toNat / 2 ^ 32) data s)) ∧
      acceptBlock n data trailer s = if 8 ≤ (lGet u n).rxSinceAck then sendAck n u else u := by
  have hgen : ¬ (bit s (fCipher n) = true ∧ bits trailer.toNat 51 1 ≠ generation (lGet s n).rxBlocks % 2) :=
    fun ⟨hc, hne⟩ => hne (hkey hc)
  unfold acceptBlock
  dsimp only
  rw [if_neg hgen, htype, if_pos (by decide : 1 ≤ 2)]
  exact ⟨_, _, rfl, rfl⟩

/-- An expected TURN block advances E and turns the lanes of a change that is agreed. -/
theorem acceptBlock_turns {data : List Byte} {trailer : BitVec 64} (hstep : (lGet s n).splitStep = .acked)
    (htype : bits trailer.toNat 48 3 = 1)
    (hkey : bit s (fCipher n) = true → bits trailer.toNat 51 1 = generation (lGet s n).rxBlocks % 2) :
    reg (acceptBlock n data trailer s) (R.LINK_STATUS n) = reg s (R.LINK_STATUS n) ∧
      turnView (lGet (acceptBlock n data trailer s) n) =
        (.turning, (lGet s n).splitTarget, ((lGet s n).rxE + 1) % 4096) := by
  obtain ⟨cells, u, hu, haccept⟩ := acceptBlock_turn (s := s) (data := data) htype hkey
  set v := forAll cells (headerCredits n) (blockNoted n (trailer.toNat / 2 ^ 32) data s)
  obtain ⟨hnoted, hnotedView⟩ := blockNoted_frame n (trailer.toNat / 2 ^ 32) data s
  have hcredits : LinkFrame turnView n (blockNoted n (trailer.toNat / 2 ^ 32) data s) v :=
    (LinkFrame.refl _).forAll cells fun cell _ hw => hw.headerCredits (fun _ _ => rfl) cell
  have hv : turnView (lGet v n) = (.acked, (lGet s n).splitTarget, ((lGet s n).rxE + 1) % 4096) :=
    hcredits.view_eq.trans (hnotedView.trans (by rw [hstep]))
  simp only [turnView, Prod.mk.injEq] at hv
  obtain ⟨hvstep, htarget, hseq⟩ := hv
  obtain ⟨hturned, hturnedView⟩ := turnReceived_acked hvstep
  have hack : LinkFrame turnView n u (acceptBlock n data trailer s) := by
    rw [haccept]
    split
    · exact (LinkFrame.refl u).sendAck
    · exact LinkFrame.refl u
  rw [hack.status, hack.view_eq, hu, hturned, hcredits.status, hnoted, hturnedView, htarget, hseq]
  exact ⟨rfl, rfl⟩

/-- The block that is expected, its BCRC good, is accepted. -/
theorem receiveBlock_expected {data : List Byte} {trailer : BitVec 64} (hup : linkState s n = lsUp)
    (hcrc : blockCrc (padTo 512 data) (trailer.toNat / 2 ^ 32) = trailer.setWidth 32)
    (hseq : bits trailer.toNat 52 12 = (lGet s n).rxE) :
    receiveBlock n true data trailer s =
      acceptBlock n (padTo 512 data) trailer (if n = 4 then setF ⟨R.PAIR_STATUS, 4, 1⟩ 1 s else s) := by
  have hlink : lGet (if n = 4 then setF ⟨R.PAIR_STATUS, 4, 1⟩ 1 s else s) n = lGet s n := by split <;> rfl
  have hd : ((lGet s n).rxE + 4096 - (lGet s n).rxE) % 4096 = 0 := by omega
  unfold receiveBlock
  dsimp only
  rw [if_neg (not_not_intro hup), decide_eq_true hcrc, if_neg (by decide), if_neg (by decide), hlink, hseq, if_pos hd]

theorem exec_turnBlockReceived (b : BlockIn) (s : State) :
    exec (.turnBlockReceived b) s = hub s (receiveBlock b.port b.fecOk b.data b.trailer) := rfl

/-- TURN arrives while data stands still for the change (Table 3-6 step 4). -/
theorem answers_turnBlockReceived {n : Port} {data : List Byte} {trailer : BitVec 64} (h : Runs s)
    (hup : linkState s n = lsUp) (hstep : (lGet s n).splitStep = .acked)
    (hcrc : blockCrc (padTo 512 data) (trailer.toNat / 2 ^ 32) = trailer.setWidth 32)
    (hseq : bits trailer.toNat 52 12 = (lGet s n).rxE) (htype : bits trailer.toNat 48 3 = 1)
    (hkey : bit s (fCipher n) = true → bits trailer.toNat 51 1 = generation (lGet s n).rxBlocks % 2) :
    Answers (.turnBlockReceived ⟨n, true, data, trailer⟩) s (fun t =>
      linkState t n = lsUp ∧ (lGet t n).splitStep = .turning ∧ (lGet t n).splitTarget = (lGet s n).splitTarget ∧
      (lGet t n).rxE = ((lGet s n).rxE + 1) % 4096) := by
  refine answers_hub (exec_turnBlockReceived _ s) h ?_
  dsimp only
  rw [receiveBlock_expected (s := clearOut s) hup hcrc hseq]
  have hheard := (LinkFrame.refl (view := id) (n := n) (clearOut s)).scarfHeard ((n : Nat) = 4)
  set u := if (n : Nat) = 4 then setF ⟨R.PAIR_STATUS, 4, 1⟩ 1 (clearOut s) else clearOut s
  have hlink : lGet u n = lGet s n := hheard.view_eq
  have hcipher : bit u (fCipher n) = bit s (fCipher n) := congrArg (· == 1) (hheard.getF_eq (f := fCipher n))
  obtain ⟨hstatus, hview⟩ := acceptBlock_turns (s := u) (data := padTo 512 data) (hlink ▸ hstep) htype
    (by rw [hcipher, hlink]; exact hkey)
  simp only [turnView, Prod.mk.injEq, hlink] at hview
  exact ⟨(getF_of_reg (hstatus.trans hheard.status)).trans hup, hview⟩

/-! ### The lanes of a configuration -/

theorem link_forAll_setF {β : Type} (l : List β) (f : β → Fld) (v : β → Nat) (s : State) (j : Nat) :
    lGet (forAll l (fun b s => setF (f b) (v b) s) s) j = lGet s j :=
  forAll_keeps (P := fun t => lGet t j = lGet s j) l _ (fun _ _ hu => hu) rfl

/-- Of what a link keeps, a configuration that is taken begins the dealing of blocks anew. -/
theorem lGet_takeSplit (n split working : Nat) (s : State) :
    lGet (takeSplit n split working s) n = { lGet s n with dealt := 0, fec := [] } := by
  unfold takeSplit
  dsimp only
  split
  · exact lGet_lSet_same _ _ _
  · rw [link_forAll_setF]
    exact lGet_lSet_same _ _ _

/-- Below the pages of the lanes, a configuration that is taken writes the three fields of LINK.STATUS that name it. -/
theorem takeSplit_names (n split working : Nat) (s : State) : ∃ code tx rx, ∀ k < 0x20000,
    reg (takeSplit n split working s) k = reg (setF (fRxLanes n) rx (setF (fTxLanes n) tx (setF (fSplit n) code s))) k := by
  unfold takeSplit
  dsimp only
  split
  · next h4 =>
    subst h4
    exact ⟨_, _, _, fun _ _ => rfl⟩
  · refine ⟨_, _, _, fun k hk => (reg_forAll _ _ _ fun j s => reg_setF_ne _ s ?_).trans rfl⟩
    simp only [R.LANE_STATUS]
    omega

theorem linkState_takeSplit (hn : n ≤ 4) (split working : Nat) (s : State) :
    linkState (takeSplit n split working s) n = linkState s n := by
  obtain ⟨code, tx, rx, htake⟩ := takeSplit_names n split working s
  have hapart (lo w : Nat) (h : 3 ≤ lo ∧ lo + w ≤ 32) : Apart ⟨R.LINK_STATUS n, lo, w⟩ (fLinkState n) :=
    .inl ⟨h.2, .inr h.1⟩
  rw [linkState, getF_of_reg (htake _ (by simp only [R.LINK_STATUS]; omega)),
    getF_setF_apart _ _ (hapart 12 4 (by decide)), getF_setF_apart _ _ (hapart 8 4 (by decide)),
    getF_setF_apart _ _ (hapart 4 3 (by decide)), linkState]

theorem reg_takeSplit {k : Nat} (split working : Nat) (s : State) (hk : k < 0x20000) (hne : k ≠ R.LINK_STATUS n) :
    reg (takeSplit n split working s) k = reg s k := by
  obtain ⟨code, tx, rx, htake⟩ := takeSplit_names n split working s
  rw [htake k hk, reg_setF_ne _ _ hne, reg_setF_ne _ _ hne, reg_setF_ne _ _ hne]

/-! ### The end of a change (Table 3-6 steps 5 and 6) -/

/-- What a link keeps, but for how far the dealing of blocks to its lanes has come. -/
def undealt (l : Link) : Link := { l with dealt := 0, fec := [] }

theorem undealt_undealt : LinkFrame.Undealt undealt := fun _ _ _ => rfl

/-- SPLIT_STATUS and SPLITS show that a change is done, and the link is out of it; its lanes are still to be taken. -/
def splitOver (n : Nat) (s : State) : State :=
  let l := lGet s n
  let s := if l.splitOwn then setF (fSplitResult n) 0 s else s
  let s := setF (fSplitHold n) (min 255 ((s.ticks - l.splitStart) * 4 / 1000)) (bump (R.LINK_SPLITS n) s)
  lSet n { l with splitStep := .idle, splitOwn := false, again := none } s

/-- Once the lanes are taken, what is sent again and the check for overbooking leave the link alone. -/
theorem splitDone_frame (hn : n ≤ 4) (s : State) :
    LinkFrame undealt n (setF (fSplitting n) 0 (takeSplit n (lGet s n).splitTarget 15 (splitOver n s))) (splitDone n s) := by
  have hchecked := (LinkFrame.refl (view := undealt)
    (setF (fSplitting n) 0 (takeSplit n (lGet s n).splitTarget 15 (splitOver n s)))).overbookCheck hn
  unfold splitDone
  dsimp only
  cases (lGet s n).again with
  | none => exact hchecked
  | some q => exact hchecked.sendAgain undealt_undealt _

/-- The change is over at this end: LINK.STATUS no longer shows it, and what NAK asked for is no longer due. -/
theorem splitDone_shows (hn : n ≤ 4) (s : State) :
    undealt (lGet (splitDone n s) n) = undealt { lGet s n with splitStep := .idle, splitOwn := false, again := none } ∧
    bit (splitDone n s) (fSplitting n) = false := by
  have hdone := splitDone_frame hn s
  refine ⟨?_, ?_⟩
  · rw [hdone.view_eq, lGet_setF, lGet_takeSplit, splitOver, lGet_lSet_same]
    rfl
  · rw [bit, hdone.getF_eq]
    exact bit_setF_zero _ _ _ (by decide)

/-- The lanes that this end receives on after the turn are locked (Table 3-6 step 5). -/
def turnLocked (n : Nat) (s : State) : State :=
  forAll (linkLanes n) (fun k s => if bit s (fLaneDir (lanePage n k)) then s else setF (fLaneLock (lanePage n k)) 1 s) s

theorem lGet_turnLocked (n : Nat) (s : State) : lGet (turnLocked n s) n = lGet s n :=
  ((LinkFrame.refl (view := id) (n := n) s).forAll _ fun k u hu => by
    split
    · exact hu
    · exact hu.laneStatus _ _ _ _).view_eq

theorem exec_turnedLanesLocked (n : Port) (s : State) : exec (.turnedLanesLocked n) s = execTurnedLanesLocked n s := rfl

theorem exec_turnedLanesLocked_turning {n : Port} (hup : linkState s n = lsUp) (hstep : (lGet s n).splitStep = .turning)
    (hloses : losesLane s n = true) :
    exec (.turnedLanesLocked n) s =
      hub s (fun s => splitDone n (sendCtl n [0x05, BitVec.ofNat 8 (lGet s n).splitTarget] (turnLocked n s))) := by
  rw [exec_turnedLanesLocked]
  exact hub_congr (if_pos ⟨hup, hstep, hloses⟩)

/-- The end whose receiver has locked sends TURN_DONE and goes on (Table 3-6 step 5). -/
theorem answers_turnedLanesLocked {n : Port} (h : Runs s) (hup : linkState s n = lsUp)
    (hstep : (lGet s n).splitStep = .turning) (hloses : losesLane s n = true) :
    Answers (.turnedLanesLocked n) s (fun t =>
      (lGet t n).splitStep = .idle ∧
      (lGet t n).ctlOut = (lGet s n).ctlOut ++ [[0x05, BitVec.ofNat 8 (lGet s n).splitTarget]] ∧
      bit t (fSplitting n) = false) := by
  refine answers_hub (exec_turnedLanesLocked_turning hup hstep hloses) h ?_
  obtain ⟨hlink, hbit⟩ := splitDone_shows (n := n) (by omega)
    (sendCtl n [0x05, BitVec.ofNat 8 (lGet s n).splitTarget] (turnLocked n (clearOut s)))
  refine ⟨congrArg Link.splitStep hlink, (congrArg Link.ctlOut hlink).trans ?_, hbit⟩
  dsimp only [undealt]
  rw [sendCtl, lGet_lSet_same, lGet_turnLocked, lGet_clearOut]

theorem exec_turnDoneReceived (n : Port) (split : BitVec 8) (s : State) :
    exec (.turnDoneReceived n split) s = execTurnDoneReceived n split s := rfl

/-- TURN_DONE ends the change at the end that receives it (Table 3-6 step 6). -/
theorem answers_turnDoneReceived {n : Port} {split : BitVec 8} (h : Runs s) (hup : linkState s n = lsUp)
    (hstep : (lGet s n).splitStep = .turning) (htarget : (lGet s n).splitTarget = split.toNat) :
    Answers (.turnDoneReceived n split) s (fun t =>
      (lGet t n).splitStep = .idle ∧ (lGet t n).splitOwn = false ∧ t = kept s (splitDone n (clearOut s))) := by
  refine answers_hub ((exec_turnDoneReceived n split s).trans (hub_congr (if_pos ⟨hup, hstep, htarget⟩))) h ?_
  obtain ⟨hlink, -⟩ := splitDone_shows (n := n) (by omega) (clearOut s)
  exact ⟨congrArg Link.splitStep hlink, congrArg Link.splitOwn hlink, rfl⟩

/-! ### A turn that fails (R62, Table 3-7) -/

theorem reg_islandFollow {k : Nat} (s : State) (hk : k ≠ R.DEV_MODE) : reg (islandFollow s) k = reg s k := by
  unfold islandFollow
  split
  · exact reg_setF_ne _ _ hk
  · rfl

theorem lGet_islandFollow (s : State) (j : Nat) : lGet (islandFollow s) j = lGet s j := by
  unfold islandFollow
  split <;> rfl

/-- A change of a link's state is that of LINK.STATUS, but for the tick of a leaving of UP and an island plan that follows. -/
theorem setLinkState_cases (n st : Nat) (s : State) : ∃ (x : Nat) (u : State),
    setLinkState n st s = islandFollow (setF (fLinkState n) st u) ∧ u.regs = s.regs ∧
      lGet u n = { lGet s n with leftUp := x } := by
  unfold setLinkState
  dsimp only
  cases linkState s n == lsUp && st != lsUp with
  | false => exact ⟨(lGet s n).leftUp, s, rfl, rfl, rfl⟩
  | true => exact ⟨s.ticks, _, rfl, rfl, lGet_lSet_same _ _ _⟩

/-- The link shows its new state, and every other field of LINK.STATUS and every register but DEV.MODE as before. -/
theorem setLinkState_shows {st : Nat} (s : State) (hst : st < 8) :
    linkState (setLinkState n st s) n = st ∧
    (∃ x, lGet (setLinkState n st s) n = { lGet s n with leftUp := x }) ∧
    (∀ f : Fld, f.key ≠ R.DEV_MODE → Apart (fLinkState n) f → getF (setLinkState n st s) f = getF s f) := by
  obtain ⟨x, u, hset, hregs, hlink⟩ := setLinkState_cases n st s
  have hstatus : R.LINK_STATUS n ≠ R.DEV_MODE := by unfold R.LINK_STATUS R.DEV_MODE; omega
  rw [hset]
  refine ⟨?_, ⟨x, ?_⟩, fun f hf hapart => ?_⟩
  · rw [linkState, getF_of_reg (reg_islandFollow _ hstatus)]
    exact getF_setF_fits (f := fLinkState n) _ (by decide : 0 + 3 ≤ 32) hst
  · rw [lGet_islandFollow, lGet_setF, hlink]
  · rw [getF_of_reg (reg_islandFollow _ hf), getF_setF_apart _ _ hapart, getF_congr hregs]

theorem reg_setLinkState {k st : Nat} (s : State) (hk : k ≠ R.LINK_STATUS n) (hm : k ≠ R.DEV_MODE) :
    reg (setLinkState n st s) k = reg s k := by
  obtain ⟨x, u, hset, hregs, -⟩ := setLinkState_cases n st s
  rw [hset, reg_islandFollow _ hm, reg_setF_ne _ _ hk, reg_congr hregs]

/-- A re-allotment in its steps 3 to 5. -/
def Moving (l : Link) : Prop := l.splitStep = .turning ∨ l.splitStep = .acked ∨ l.splitStep = .ending

/-- The record of the link as a retraining leaves it. -/
def atRetrain (l : Link) : Link := { l with ackExpiries := 0, nakCount := 0, lpAsked := false }

/-- The state in which a retraining shows RETRAIN: the attempts begin anew, the reason and the count stand. -/
def retrainCounted (n reason : Nat) (s : State) : State :=
  setF (fLastReason n) reason (bump (R.LINK_RETRAINS n) (lSet n (atRetrain (lGet s n)) s))

/-- A retraining that ends a re-allotment under way. -/
theorem enterRetrain_moving {reason : Nat} (hup : linkState s n = lsUp) (hmoving : Moving (lGet s n)) :
    enterRetrain n reason s = setLinkState n lsRetrain (retrainCounted n reason (splitAborts n s)) := by
  have hcond : ((lGet s n).splitStep == .acked || (lGet s n).splitStep == .turning || (lGet s n).splitStep == .ending) = true := by
    rcases hmoving with h | h | h <;> rw [h] <;> rfl
  unfold enterRetrain
  rw [if_pos hup]
  dsimp only
  rw [hcond, when_true]
  rfl

theorem lGet_retrainCounted (n reason : Nat) (s : State) : lGet (retrainCounted n reason s) n = atRetrain (lGet s n) := by
  rw [retrainCounted, lGet_setF, lGet_bump, lGet_lSet_same]

theorem reg_retrainCounted (n reason : Nat) (s : State) :
    reg (retrainCounted n reason s) (R.LINK_RETRAINS n) = reg s (R.LINK_RETRAINS n) + 1 := by
  have hstatus : R.LINK_RETRAINS n ≠ R.LINK_STATUS n := by unfold R.LINK_RETRAINS R.LINK_STATUS; omega
  rw [retrainCounted, reg_setF_ne _ _ hstatus, reg_bump_same, reg_lSet]

theorem reason_retrainCounted {reason : Nat} (n : Nat) (s : State) (hr : reason < 16) :
    getF (retrainCounted n reason s) (fLastReason n) = reason :=
  getF_setF_fits (f := fLastReason n) _ (by simp) hr

theorem splitting_retrainCounted (n reason : Nat) (s : State) :
    getF (retrainCounted n reason s) (fSplitting n) = getF s (fSplitting n) := by
  have hcount : R.LINK_STATUS n ≠ R.LINK_RETRAINS n := by unfold R.LINK_RETRAINS R.LINK_STATUS; omega
  have hapart : Apart (fLastReason n) (fSplitting n) := .inl (by simp)
  rw [retrainCounted, getF_setF_apart _ _ hapart, getF_bump _ _ hcount]
  rfl

/-- The record of the link as a re-allotment that is aborted leaves it. -/
def atAbort (l : Link) : Link := { l with splitStep := .idle, splitOwn := false, again := none }

/-- A re-allotment that is aborted shows no longer, and leaves LINK.RETRAINS alone. -/
theorem splitAborts_shows (n : Nat) (s : State) :
    lGet (splitAborts n s) n = atAbort (lGet s n) ∧
    getF (splitAborts n s) (fSplitting n) = 0 ∧ reg (splitAborts n s) (R.LINK_RETRAINS n) = reg s (R.LINK_RETRAINS n) := by
  have hstatus : R.LINK_RETRAINS n ≠ R.LINK_STATUS n := by unfold R.LINK_RETRAINS R.LINK_STATUS; omega
  have hresult : R.LINK_RETRAINS n ≠ R.LINK_SPLIT_STATUS n := by unfold R.LINK_RETRAINS R.LINK_SPLIT_STATUS; omega
  unfold splitAborts
  dsimp only
  refine ⟨?_, ?_, ?_⟩
  · rw [lGet_setF, lGet_lSet_same]
    rfl
  · exact getF_setF_fits _ (by simp) (Nat.two_pow_pos _)
  · rw [reg_setF_ne _ _ hstatus, reg_lSet, reg_when_setF_ne _ _ _ hresult]

/-- A retraining out of a re-allotment ends the re-allotment, shows RETRAIN and its reason, and counts. -/
theorem enterRetrain_moving_shows {reason : Nat} (hr : reason < 16) (hup : linkState s n = lsUp)
    (hmoving : Moving (lGet s n)) :
    linkState (enterRetrain n reason s) n = lsRetrain ∧ getF (enterRetrain n reason s) (fLastReason n) = reason ∧
    (lGet (enterRetrain n reason s) n).splitStep = .idle ∧ (lGet (enterRetrain n reason s) n).splitOwn = false ∧
    reg (enterRetrain n reason s) (R.LINK_RETRAINS n) = reg s (R.LINK_RETRAINS n) + 1 ∧
    getF (enterRetrain n reason s) (fSplitting n) = 0 := by
  have hstatus : R.LINK_RETRAINS n ≠ R.LINK_STATUS n := by unfold R.LINK_RETRAINS R.LINK_STATUS; omega
  have hmode : R.LINK_RETRAINS n ≠ R.DEV_MODE := by unfold R.LINK_RETRAINS R.DEV_MODE; omega
  have hplain : R.LINK_STATUS n ≠ R.DEV_MODE := by unfold R.LINK_STATUS R.DEV_MODE; omega
  have hreason : Apart (fLinkState n) (fLastReason n) := .inl (by simp)
  have hsplitting : Apart (fLinkState n) (fSplitting n) := .inl (by simp)
  obtain ⟨habort, hbit, hcount⟩ := splitAborts_shows n s
  obtain ⟨hstate, ⟨x, hlink⟩, hfields⟩ :=
    setLinkState_shows (n := n) (retrainCounted n reason (splitAborts n s)) (by decide : lsRetrain < 8)
  rw [lGet_retrainCounted, habort] at hlink
  rw [enterRetrain_moving hup hmoving, hlink, hfields _ hplain hreason, hfields _ hplain hsplitting,
    reason_retrainCounted _ _ hr, splitting_retrainCounted, reg_setLinkState _ hstatus hmode, reg_retrainCounted, hcount]
  exact ⟨hstate, rfl, rfl, rfl, rfl, hbit⟩

/-- A failed turn takes the link to RETRAIN, out of the re-allotment (Table 3-7). -/
theorem turnFails_shows (hn : n ≤ 4) (hup : linkState s n = lsUp) (hmoving : Moving (lGet s n)) :
    linkState (turnFails n s) n = lsRetrain ∧ getF (turnFails n s) (fLastReason n) = 5 ∧
    (lGet (turnFails n s) n).splitStep = .idle ∧ (lGet (turnFails n s) n).splitOwn = false ∧
    reg (turnFails n s) (R.LINK_RETRAINS n) = reg s (R.LINK_RETRAINS n) + 1 ∧
    bit (turnFails n s) (fSplitting n) = false := by
  have hstatus : R.LINK_RETRAINS n ≠ R.LINK_STATUS n := by unfold R.LINK_RETRAINS R.LINK_STATUS; omega
  have hbase : R.LINK_RETRAINS n < 0x20000 := by unfold R.LINK_RETRAINS; omega
  obtain ⟨hstate, hreason, hstep, hown, hcount, hsplitting⟩ := enterRetrain_moving_shows (reason := 5) (n := n)
    (s := takeSplit n (getF s (fSplit n)) 15 s) (by decide) ((linkState_takeSplit hn _ _ s).trans hup)
    (by rw [lGet_takeSplit]; exact hmoving)
  rw [reg_takeSplit _ _ _ hbase hstatus] at hcount
  unfold turnFails
  dsimp only
  refine ⟨hstate, hreason, hstep, hown, hcount, ?_⟩
  rw [bit, hsplitting]
  rfl

theorem exec_turnLockTimeout (n : Port) (s : State) : exec (.turnLockTimeout n) s = execTurnLockTimeout n s := rfl

/-- A turned lane that does not lock in time fails the turn (R62). -/
theorem answers_turnLockTimeout {n : Port} (h : Runs s) (hup : linkState s n = lsUp) (hmoving : Moving (lGet s n)) :
    Answers (.turnLockTimeout n) s (fun t =>
      linkState t n = lsRetrain ∧ getF t (fLastReason n) = 5 ∧ (lGet t n).splitStep = .idle ∧
      (lGet t n).splitOwn = false ∧ reg t (R.LINK_RETRAINS n) = reg s (R.LINK_RETRAINS n) + 1 ∧
      bit t (fSplitting n) = false) :=
  answers_hub ((exec_turnLockTimeout n s).trans (hub_congr (if_pos hmoving))) h
    (turnFails_shows (s := clearOut s) (by omega) hup hmoving)

/-- Settles O6: each clause is the completion lemma of its command above. -/
theorem splitCommandsComplete : Obligations.SplitCommandsComplete := by
  unfold Obligations.SplitCommandsComplete
  exact ⟨fun _ _ _ h hn hup hfree hlegal => answers_splitRequest h hn hup hfree hlegal,
    fun _ _ _ h hn hup hidle hfree hlegal haccept => answers_sbSplitReqReceived h hn hup hidle hfree hlegal haccept,
    fun _ _ _ h hup hstep hown htarget hkeeps => answers_sbSplitAckReceived h hup hstep hown htarget hkeeps,
    fun _ _ _ _ h hstep hown => answers_sbSplitNakReceived h hstep hown,
    fun _ _ _ _ h hup hstep hcrc _ hseq htype hkey => answers_turnBlockReceived h hup hstep hcrc hseq htype hkey,
    fun _ _ h hup hstep hloses => answers_turnedLanesLocked h hup hstep hloses,
    fun _ _ _ h hup hstep htarget => answers_turnDoneReceived h hup hstep htarget,
    fun _ _ h hup hmoving => answers_turnLockTimeout h hup hmoving⟩

end Sys2Proof.Machine

/-! ## End-to-end control of a reliable tunnel (R87–R89) -/

namespace Sys2Proof.Machine

variable {s t : State} {i j : Nat}

/-! ### What a control frame of the hub leaves of the tunnels

Its cells join a control queue, whose number is 256 or more; the tunnels, numbered below that, keep what they hold. -/

theorem tun_forAll {α : Type} (l : List α) {f : α → State → State} (h : ∀ a s, (f a s).tun = s.tun) (s : State) :
    (forAll l f s).tun = s.tun :=
  forAll_keeps (P := fun t => t.tun = s.tun) l f (fun a t ht => (h a t).trans ht) rfl

theorem tun_limited (key period : Nat) {f : State → State} (h : ∀ s, (f s).tun = s.tun) (s : State) :
    (limited key period f s).tun = s.tun := by
  unfold limited
  dsimp only
  split
  · exact h _
  · rfl

@[simp] theorem tun_addCnt (k n : Nat) (s : State) : (addCnt k n s).tun = s.tun := rfl
@[simp] theorem tun_bump (k : Nat) (s : State) : (bump k s).tun = s.tun := rfl
@[simp] theorem tun_bump64 (k : Nat) (s : State) : (bump64 k s).tun = s.tun := rfl
@[simp] theorem tun_raise (src d : Nat) (s : State) : (raise src d s).tun = s.tun := by rw [raise_frame]

@[simp] theorem tun_noteFill (q : Nat) (s : State) : (noteFill q s).tun = s.tun := by
  unfold noteFill
  split
  · split <;> rfl
  · rfl

@[simp] theorem tun_dropCandidate (q : Nat) (s : State) : (dropCandidate q s).tun = s.tun := by
  unfold dropCandidate unhold
  rw [tun_forAll _ fun g s => ?_, tun_forAll _ fun m s => ?_]
  all_goals
    dsimp only
    split <;> rfl

@[simp] theorem tun_accrue (m : Nat) (s : State) : (accrue m s).tun = s.tun := by
  unfold accrue
  dsimp only
  refine tun_forAll _ (fun p s => ?_) s
  split <;> rfl

@[simp] theorem tun_injected (page chk writes : Nat) (s : State) : (injected page chk writes s).tun = s.tun := by
  unfold injected
  dsimp only
  split
  · split <;> rfl
  · rfl

@[simp] theorem tun_storeCells (cs : List QCell) (s : State) : (storeCells cs s).2.tun = s.tun := by
  induction cs generalizing s with
  | nil => rfl
  | cons c cs ih => simp [storeCells, ih]

@[simp] theorem tun_storeLines (cs : List QCell) (s : State) : (storeLines cs s).2.tun = s.tun := by
  induction cs generalizing s with
  | nil => rfl
  | cons c cs ih => simp [storeLines, ih]

@[simp] theorem tun_writeStaging (q : Nat) (s : State) : (writeStaging q s).tun = s.tun := by
  unfold writeStaging
  dsimp only
  split
  · simp
  · rfl

@[simp] theorem tun_tailDrop (q flag : Nat) (s : State) : (tailDrop q flag s).tun = s.tun :=
  (tun_limited _ _ (fun s => tun_raise _ _ s) _).trans rfl

@[simp] theorem tun_placeTail (q : Nat) (c : QCell) (s : State) : (placeTail q c s).2.tun = s.tun := by
  unfold placeTail
  dsimp only
  split <;> simp

@[simp] theorem tun_placeOnchip (q : Nat) (c : QCell) (s : State) : (placeOnchip q c s).tun = s.tun := by
  simp [placeOnchip]

@[simp] theorem tun_place (q arr : Nat) (lead : Bool) (c : QCell) (s : State) : (place q arr lead c s).2.tun = s.tun := by
  unfold place
  dsimp only
  split_ifs <;> simp

theorem tun_placeEach (q arr : Nat) (cs : List QCell) (lead : Bool) (k : Nat) (lost : Bool) (s : State) :
    (placeEach q arr cs lead k lost s).2.2.tun = s.tun := by
  induction cs generalizing lead k lost s with
  | nil => rfl
  | cons c cs ih =>
    unfold placeEach
    dsimp only
    split <;> rw [ih, tun_place]

theorem tGet_congr (h : t.tun = s.tun) (i : Nat) : tGet t i = tGet s i := by simp [tGet, h]

/-- Of the tunnels, the removal of a queue's last cells touches its own alone. -/
theorem tGet_removeLast_ne {q : Nat} (h : i ≠ q) (k : Nat) (s : State) : tGet (removeLast q k s) i = tGet s i := by
  unfold removeLast
  dsimp only
  rw [tGet_congr (tun_noteFill _ _)]
  split <;> split <;> simp [tGet_congr (tun_dropCandidate _ _), tGet_congr (qSet_tun _ _ _), tGet_tSet, h]

theorem tGet_placeControl (h : i < 256) (arr m tid : Nat) (bytes : List Byte) (s : State) :
    tGet (placeControl arr m tid bytes s) i = tGet s i := by
  have hplaced (cs : List QCell) : tGet (placeEach (256 + m) arr cs false 0 false (accrue m s)).2.2 i = tGet s i :=
    tGet_congr ((tun_placeEach _ _ _ _ _ _ _).trans (tun_accrue m s)) i
  unfold placeControl
  dsimp only
  split
  · exact (tGet_congr (tun_bump _ _) i).trans ((tGet_removeLast_ne (by omega) _ _).trans (hplaced _))
  · split
    · exact hplaced _
    · exact (tGet_congr (qSet_tun _ _ _) i).trans (hplaced _)

theorem tGet_sendTid0 (h : i < 256) (data : List Byte) (s : State) : tGet (sendTid0 data s) i = tGet s i := by
  unfold sendTid0
  split
  · exact tGet_placeControl h _ _ _ _ _
  · rfl

/-- A tunnel keeps what it holds while an end-to-end control frame goes out (R87). -/
theorem tGet_sendE2e (h : i < 256) (type j seq : Nat) (s : State) : tGet (sendE2e type j seq s) i = tGet s i :=
  tGet_sendTid0 h _ _

/-! ### The terminus (R87) -/

theorem tGet_tSet_same (i : Nat) (v : Tunnel) (s : State) : tGet (tSet i v s) i = v := by rw [tGet_tSet, if_pos rfl]

/-- The E2E_ACK of the accepted cells is sent, and none of them is left to acknowledge. -/
def ackSent (i : Nat) (s : State) : State :=
  sendE2e 0x20 i ((tGet s i).e.getD 0) (tSet i { tGet s i with unacked := 0 } s)

theorem unacked_ackSent (h : i < 256) (s : State) : (tGet (ackSent i s) i).unacked = 0 := by
  rw [ackSent, tGet_sendE2e h, tGet_tSet_same]

theorem exec_e2eAckTimer (i : BitVec 8) (s : State) : exec (.e2eAckTimer i) s = execE2eAckTimer i s := rfl

theorem exec_e2eAckTimer_due {i : BitVec 8} (hv : valid s i.toNat = true) (hterm : (entry s i.toNat).terminus = true)
    (hrel : (entry s i.toNat).reliable = true) (hdue : 0 < (tGet s i.toNat).unacked) :
    exec (.e2eAckTimer i) s = hub s (ackSent i.toNat) := by
  refine (exec_e2eAckTimer i s).trans (hub_congr (if_pos ?_))
  change (valid s i.toNat && (entry s i.toNat).terminus && (entry s i.toNat).reliable
    && decide (0 < (tGet s i.toNat).unacked)) = true
  simp [hv, hterm, hrel, hdue]

/-- Accepted cells are acknowledged when the timer says so (R87). -/
theorem answers_e2eAckTimer {i : BitVec 8} (h : Runs s) (hv : valid s i.toNat = true)
    (hterm : (entry s i.toNat).terminus = true) (hrel : (entry s i.toNat).reliable = true)
    (hdue : 0 < (tGet s i.toNat).unacked) :
    Answers (.e2eAckTimer i) s (fun t => (tGet t i.toNat).unacked = 0 ∧ t = kept s (ackSent i.toNat (clearOut s))) :=
  answers_hub (exec_e2eAckTimer_due hv hterm hrel hdue) h ⟨unacked_ackSent i.isLt (clearOut s), rfl⟩

theorem exec_e2eGapRepeatTimer (i : BitVec 8) (s : State) :
    exec (.e2eGapRepeatTimer i) s = execE2eGapRepeatTimer i s := rfl

theorem exec_e2eGapRepeatTimer_standing {i : BitVec 8} {e : Nat} (hgap : (tGet s i.toNat).gap = some e)
    (hv : valid s i.toNat = true) : exec (.e2eGapRepeatTimer i) s = hub s (sendE2e 0x21 i.toNat e) := by
  have hgap' : (tGet (clearOut s) i.toNat).gap = some e := hgap
  have hv' : valid (clearOut s) i.toNat = true := hv
  refine (exec_e2eGapRepeatTimer i s).trans (hub_congr ?_)
  simp only [hgap', hv', if_true]

/-- While E does not advance, E2E_GAP is repeated (R87). -/
theorem answers_e2eGapRepeatTimer {i : BitVec 8} {e : Nat} (h : Runs s) (hgap : (tGet s i.toNat).gap = some e)
    (hv : valid s i.toNat = true) :
    Answers (.e2eGapRepeatTimer i) s (fun t => t = kept s (sendE2e 0x21 i.toNat e (clearOut s))) :=
  answers_hub (exec_e2eGapRepeatTimer_standing hgap hv) h rfl

/-! ### The origin: cells acknowledged (R88) -/

/-- An E within the retained cells frees those before it. -/
theorem ackUpTo_frees {e k : Nat} {c : QCell} (hhead : (tGet s i).retained.head? = some c)
    (hk : k = (e + 1024 - c.seq) % 1024) (h0 : k ≠ 0) (hle : k ≤ (tGet s i).retained.length) :
    ∃ again, ackUpTo i e s =
      (true, tSet i { tGet s i with retained := (tGet s i).retained.drop k, resend := again, expiries := 0 } s) := by
  have hwithin : ¬ (k = 0 ∨ (tGet s i).retained.length < k) := by omega
  unfold ackUpTo
  simp only [hhead, ← hk, if_neg hwithin]
  exact ⟨_, rfl⟩

theorem exec_e2eAckReceived (i : BitVec 8) (e : BitVec 10) (s : State) :
    exec (.e2eAckReceived i e) s = execE2eAckReceived i e s := rfl

/-- Cells before E are free, and the advance ends STALLED (R88). -/
theorem answers_e2eAckReceived {i : BitVec 8} {e : BitVec 10} {c : QCell} {k : Nat} (h : Runs s)
    (horigin : reliableOrigin s i.toNat = true) (hhead : (tGet s i.toNat).retained.head? = some c)
    (hk : k = (e.toNat + 1024 - c.seq) % 1024) (h0 : k ≠ 0) (hle : k ≤ (tGet s i.toNat).retained.length)
    (hwhole : (tGet s i.toNat).broken = false) :
    Answers (.e2eAckReceived i e) s (fun t =>
      (tGet t i.toNat).retained = (tGet s i.toNat).retained.drop k ∧ (tGet t i.toNat).expiries = 0 ∧
      bit t (bitIn (R.TUN_STALLED 0) i.toNat) = false ∧ RegsBut [(bitIn (R.TUN_STALLED 0) i.toNat).key] s t ∧
      t = { s with regs := t.regs, tun := t.tun, out := [] }) := by
  obtain ⟨again, hack⟩ := ackUpTo_frees (s := clearOut s) hhead hk h0 hle
  have horigin' : reliableOrigin (clearOut s) i.toNat = true := horigin
  generalize hv : { tGet (clearOut s) i.toNat with
    retained := (tGet (clearOut s) i.toNat).retained.drop k, resend := again, expiries := 0 } = v at hack
  have hbroken : v.broken = false := hv ▸ hwhole
  refine answers_hub_eq (t := setF (bitIn (R.TUN_STALLED 0) i.toNat) 0 (tSet i.toNat v (clearOut s)))
    (exec_e2eAckReceived i e s) h ?_ rfl rfl ⟨?_, ?_, ?_, ?_, rfl⟩
  · simp [horigin', hack, tGet_tSet_same, hbroken]
  · exact (congrArg Tunnel.retained (tGet_tSet_same _ _ _)).trans (hv ▸ rfl)
  · exact (congrArg Tunnel.expiries (tGet_tSet_same _ _ _)).trans (hv ▸ rfl)
  · exact bit_setF_zero _ _ _ (Nat.mod_lt _ (by decide))
  · exact RegsBut.setF (fun _ _ => rfl) _ (by simp)

/-! ### The origin: cells sent again (R88, R89) -/

/-- The retained cells `r` of tunnel `i` are to be sent again, and RETX_CELLS counts them. -/
def resent (i : Nat) (r : List QCell) (s : State) : State :=
  addCnt (entCnt R.TUN_ENT_RETX_CELLS i) r.length (tSet i { tGet s i with resend := r } s)

theorem tGet_resent (i : Nat) (r : List QCell) (s : State) : tGet (resent i r s) i = { tGet s i with resend := r } :=
  tGet_tSet_same _ _ _

theorem retx_resent (i : Nat) (r : List QCell) (s : State) :
    reg (resent i r s) (entCnt R.TUN_ENT_RETX_CELLS i) =
      reg s (entCnt R.TUN_ENT_RETX_CELLS i) + BitVec.ofNat 32 r.length := by
  simp [resent, addCnt]

theorem RegsBut.resent {ks : List Nat} (h : RegsBut ks s t) (i : Nat) (r : List QCell)
    (hk : entCnt R.TUN_ENT_RETX_CELLS i ∈ ks) : RegsBut ks s (Machine.resent i r t) :=
  RegsBut.setReg (t := tSet i _ t) h _ hk

theorem exec_e2eGapReceived (i : BitVec 8) (e : BitVec 10) (s : State) :
    exec (.e2eGapReceived i e) s = execE2eGapReceived i e s := rfl

/-- Every retained cell from the reported gap onwards goes again (R88). -/
theorem answers_e2eGapReceived {i : BitVec 8} {e : BitVec 10} (h : Runs s) (horigin : reliableOrigin s i.toNat = true)
    (hany : (tGet s i.toNat).retained.any (fun c => c.seq == e.toNat) = true) :
    Answers (.e2eGapReceived i e) s (fun t =>
      (tGet t i.toNat).resend = (tGet s i.toNat).retained.dropWhile (fun c => c.seq != e.toNat) ∧
      (tGet t i.toNat).retained = (tGet s i.toNat).retained ∧
      reg t (entCnt R.TUN_ENT_RETX_CELLS i.toNat) =
        reg s (entCnt R.TUN_ENT_RETX_CELLS i.toNat) + BitVec.ofNat 32 (tGet t i.toNat).resend.length ∧
      RegsBut [entCnt R.TUN_ENT_RETX_CELLS i.toNat] s t) := by
  refine answers_hub_eq
    (t := resent i.toNat ((tGet s i.toNat).retained.dropWhile (fun c => c.seq != e.toNat)) (clearOut s))
    (exec_e2eGapReceived i e s) h ((if_pos (c := reliableOrigin (clearOut s) i.toNat = true) horigin).trans
      (if_pos hany)) rfl rfl ?_
  rw [tGet_resent]
  exact ⟨rfl, rfl, retx_resent _ _ _, RegsBut.resent (t := clearOut s) (fun _ _ => rfl) _ _ (by simp)⟩

theorem exec_resumeReceived (i : BitVec 8) (s : State) : exec (.resumeReceived i) s = execResumeReceived i s := rfl

/-- Every retained cell goes again when the terminus resumes (R89). -/
theorem answers_resumeReceived {i : BitVec 8} (h : Runs s) (horigin : reliableOrigin s i.toNat = true) :
    Answers (.resumeReceived i) s (fun t =>
      (tGet t i.toNat).resend = (tGet s i.toNat).retained ∧ (tGet t i.toNat).retained = (tGet s i.toNat).retained ∧
      reg t (entCnt R.TUN_ENT_RETX_CELLS i.toNat) =
        reg s (entCnt R.TUN_ENT_RETX_CELLS i.toNat) + BitVec.ofNat 32 (tGet s i.toNat).retained.length ∧
      RegsBut [entCnt R.TUN_ENT_RETX_CELLS i.toNat] s t ∧ t = { s with regs := t.regs, tun := t.tun, out := [] }) := by
  refine answers_hub_eq (t := resent i.toNat (tGet s i.toNat).retained (clearOut s)) (exec_resumeReceived i s) h
    (if_pos (c := reliableOrigin (clearOut s) i.toNat = true) horigin) rfl rfl ?_
  rw [tGet_resent]
  exact ⟨rfl, rfl, retx_resent _ _ _, RegsBut.resent (t := clearOut s) (fun _ _ => rfl) _ _ (by simp), rfl⟩

/-! ### The origin: nothing acknowledged in time (R88) -/

/-- The counter of expiries rises, every retained cell is to be sent again, and the tunnel notes the expiry. -/
def timedOut (i : Nat) (s : State) : State :=
  let u := resent i (tGet s i).retained (bump R.TUN_E2E_EXPIRIES s)
  tSet i { tGet u i with expiries := (tGet u i).expiries + 1 } u

theorem tGet_timedOut (i : Nat) (s : State) :
    tGet (timedOut i s) i = { tGet s i with resend := (tGet s i).retained, expiries := (tGet s i).expiries + 1 } := by
  rw [timedOut, tGet_tSet_same, tGet_resent]
  rfl

theorem e2eExpiries_ne_retx (i : Nat) : R.TUN_E2E_EXPIRIES ≠ entCnt R.TUN_ENT_RETX_CELLS i := by
  unfold entCnt regKey R.TUN_E2E_EXPIRIES R.TUN_ENT_RETX_CELLS; omega

theorem expiries_timedOut (i : Nat) (s : State) : reg (timedOut i s) R.TUN_E2E_EXPIRIES = reg s R.TUN_E2E_EXPIRIES + 1 :=
  (reg_addCnt _ _ _ (e2eExpiries_ne_retx i)).trans (reg_bump_same _ _)

theorem regsBut_timedOut (i : Nat) (s : State) :
    RegsBut [R.TUN_E2E_EXPIRIES, entCnt R.TUN_ENT_RETX_CELLS i] s (timedOut i s) :=
  RegsBut.resent (RegsBut.bump (regsBut_refl _ s) (by simp)) _ _ (by simp)

theorem e2eLimit_timedOut (i : Nat) (s : State) : e2eLimit (timedOut i s) = e2eLimit s := by
  have hctrl : reg (timedOut i s) R.TUN_CTRL = reg s R.TUN_CTRL :=
    regsBut_timedOut i s _ (by unfold entCnt regKey R.TUN_E2E_EXPIRIES R.TUN_ENT_RETX_CELLS R.TUN_CTRL; simp; omega)
  unfold e2eLimit
  rw [getF_of_reg hctrl]

theorem exec_e2eTimerExpiry (i : BitVec 8) (s : State) : exec (.e2eTimerExpiry i) s = execE2eTimerExpiry i s := rfl

theorem exec_e2eTimerExpiry_early {i : BitVec 8} (horigin : reliableOrigin s i.toNat = true)
    (hout : 0 < outstanding s i.toNat) (hearly : (tGet s i.toNat).expiries + 1 < e2eLimit s) :
    exec (.e2eTimerExpiry i) s = hub s (timedOut i.toNat) := by
  have hdue : (reliableOrigin (clearOut s) i.toNat && decide (0 < outstanding (clearOut s) i.toNat)) = true := by
    change (reliableOrigin s i.toNat && decide (0 < outstanding s i.toNat)) = true
    simp [horigin, hout]
  have hlimit : ¬ e2eLimit (timedOut i.toNat (clearOut s)) ≤
      (tGet (resent i.toNat (tGet s i.toNat).retained (bump R.TUN_E2E_EXPIRIES (clearOut s))) i.toNat).expiries + 1 := by
    rw [e2eLimit_timedOut, tGet_resent]
    exact not_le.mpr hearly
  exact (exec_e2eTimerExpiry i s).trans (hub_congr ((if_pos hdue).trans (if_neg hlimit)))

/-- An expiry below E2E_LIMIT sends every retained cell again (R88). -/
theorem answers_e2eTimerExpiry {i : BitVec 8} (h : Runs s) (horigin : reliableOrigin s i.toNat = true)
    (hout : 0 < outstanding s i.toNat) (hearly : (tGet s i.toNat).expiries + 1 < e2eLimit s) :
    Answers (.e2eTimerExpiry i) s (fun t =>
      (tGet t i.toNat).resend = (tGet s i.toNat).retained ∧
      (tGet t i.toNat).expiries = (tGet s i.toNat).expiries + 1 ∧
      reg t R.TUN_E2E_EXPIRIES = reg s R.TUN_E2E_EXPIRIES + 1 ∧
      RegsBut [R.TUN_E2E_EXPIRIES, entCnt R.TUN_ENT_RETX_CELLS i.toNat] s t ∧
      t = { s with regs := t.regs, tun := t.tun, out := [] }) := by
  refine answers_hub_eq (exec_e2eTimerExpiry_early horigin hout hearly) h rfl rfl rfl ?_
  rw [tGet_timedOut]
  exact ⟨rfl, rfl, expiries_timedOut _ _, regsBut_timedOut _ _, rfl⟩

/-- Settles O10: each clause is the completion lemma of its command above. -/
theorem endToEndCommandsComplete : Obligations.EndToEndCommandsComplete := by
  unfold Obligations.EndToEndCommandsComplete
  exact ⟨fun _ _ h hv hterm hrel hdue => answers_e2eAckTimer h hv hterm hrel hdue,
    fun _ _ _ h hgap hv => answers_e2eGapRepeatTimer h hgap hv,
    fun _ _ _ _ _ h horigin hhead hk h0 hle hwhole => answers_e2eAckReceived h horigin hhead hk h0 hle hwhole,
    fun _ _ _ h horigin hany => answers_e2eGapReceived h horigin hany,
    fun _ _ h horigin => answers_resumeReceived h horigin,
    fun _ _ h horigin hout hearly => answers_e2eTimerExpiry h horigin hout hearly⟩

end Sys2Proof.Machine

/-! ## Flushes, underruns and commits: what three statements leave out (R109, R115, R430)

A flush of an adapter's egress queue marks the packets that are being written there, an underrun takes that mark away again, and
a commit of DEV shows COMMITTED in `DEV.HID`. -/

namespace Sys2Proof.Machine

variable {s : State}

/-! ### A flush at the egress of an adapter (R115) -/

/-- Tunnel 5 serves M7, and the consumer there has started on a frame of it that is still being written. -/
def frameAtMac : State :=
  qSet 5 { txOpen := true, adOpen := true, begun := true, last := { eg := 7 } } (setAct (entKey 5 0) 1 (linkAt 0))

theorem runs_frameAtMac : Runs frameAtMac := runs_linkAt 0

theorem unpaired_frameAtMac : Unpaired frameAtMac := by
  unfold Unpaired
  decide +kernel

theorem exec_bqFlushRequest (m : Mort) (egress : Bool) (ct : BitVec 6) (s : State) :
    exec (.bqFlushRequest m egress ct) s = execBqFlushRequest m egress ct s := rfl

/-- The request at the egress of M7 is one for bobbin queue 23. -/
theorem exec_bqFlushRequest_mac (s : State) :
    exec (.bqFlushRequest 7 true 0) s = hub s (fun s => bqFlush 23 (bqCtSet 23 0 s)) := exec_bqFlushRequest 7 true 0 s

/-- The flush notes that the consumer had started on the frame before. -/
theorem before_bqFlush_frameAtMac : (qGet (bqFlush 23 (bqCtSet 23 0 (clearOut frameAtMac))) 5).before = true := by
  decide +kernel

/-- Refutes O9: its clause of BQ_FLUSH_REQUEST lets nothing but registers and the bobbin queues change, but at the egress of an
adapter the packets that are being written are marked in their queues, for the consumer completes those that it has started (R115). -/
theorem not_cellCommandsComplete : ¬ Obligations.CellCommandsComplete := by
  unfold Obligations.CellCommandsComplete
  rintro ⟨-, -, -, -, -, -, -, -, -, -, -, -, hrequest, -⟩
  have hidle : (bqGet frameAtMac 23).flush = false := by decide
  obtain ⟨-, -, -, -, hframe⟩ := of_answers_hub (exec_bqFlushRequest_mac frameAtMac) runs_frameAtMac
    (hrequest 7 true 0 23 frameAtMac runs_frameAtMac unpaired_frameAtMac (by decide) rfl hidle)
  have hunmarked : (qGet frameAtMac 5).before = false := by decide
  have hbefore := congrArg (fun t => (qGet t 5).before) hframe
  exact absurd (before_bqFlush_frameAtMac.symm.trans (hbefore.trans hunmarked)) (by decide)

/-! ### An underrun after a flush (R109, R115) -/

/-- A frame of a streaming tunnel that its adapter has started on ends natively, and with it goes the mark of a flush (R110). -/
theorem abortAdapter_streaming {i : Nat} (hopen : (qGet s i).adOpen = true) (hbegun : (qGet s i).begun = true)
    (hrel : (entry s i).reliable = false) :
    abortAdapter i s = emit (.deliver (qGet s i).last.eg (qGet s i).last.tid (qGet s i).asm true)
      (qSet i { qGet s i with adOpen := false, begun := false, flushing := false, before := false, asm := [] } s) := by
  have hsame (v : Queue) : entry (qSet i v s) i = entry s i := rfl
  unfold abortAdapter
  simp [hopen, hbegun, hsame, hrel]

theorem before_abortAdapter_streaming {i : Nat} (hopen : (qGet s i).adOpen = true) (hbegun : (qGet s i).begun = true)
    (hrel : (entry s i).reliable = false) : (qGet (abortAdapter i s) i).before = false := by
  rw [abortAdapter_streaming hopen hbegun hrel]
  exact congrArg Queue.before ((qGet_qSet i _ s i).trans (if_pos rfl))

theorem exec_cutThroughUnderrun (i : BitVec 8) (s : State) :
    exec (.cutThroughUnderrun i) s = execCutThroughUnderrun i s := rfl

/-- The underrun of a streaming tunnel at a MAC ends the frame there, and is counted (R109). -/
theorem exec_cutThroughUnderrun_mac {i : BitVec 8} (hv : valid s i.toNat = true) (heg : (qGet s i.toNat).last.eg = 7)
    (htx : (qGet s i.toNat).txOpen = true) (hopen : (qGet s i.toNat).adOpen = true)
    (hbegun : (qGet s i.toNat).begun = true) (hempty : (qGet s i.toNat).onchip = [])
    (hrel : (entry s i.toNat).reliable = false) :
    exec (.cutThroughUnderrun i) s = hub s (fun s => bump R.SWC_CT_UNDERRUN (abortAdapter i.toNat s)) := by
  have hdue : (valid s i.toNat && ((qGet s i.toNat).last.eg == 7 ||
      ((qGet s i.toNat).last.eg == 8 && decide ((qGet s i.toNat).last.tid < 0x10))) && (qGet s i.toNat).txOpen &&
      (qGet s i.toNat).begun && (qGet s i.toNat).onchip.isEmpty) = true := by
    simp [hv, heg, htx, hbegun, hempty]
  have hstreaming : ¬ (entry (bump R.SWC_CT_UNDERRUN (abortAdapter i.toNat (clearOut s))) i.toNat).reliable = true := by
    rw [abortAdapter_streaming (s := clearOut s) hopen hbegun hrel]
    exact Bool.eq_false_iff.mp hrel
  exact (exec_cutThroughUnderrun i s).trans (hub_congr ((if_pos hdue).trans (if_neg hstreaming)))

/-- The frame of `frameAtMac`, once a flush at the egress of M7 has been asked for. -/
def flushAskedAtMac : State := bqFlush 23 frameAtMac

theorem runs_flushAskedAtMac : Runs flushAskedAtMac := by
  unfold Runs
  decide +kernel

theorem streaming_flushAskedAtMac : (entry flushAskedAtMac 5).reliable = false := by decide +kernel

/-- Its packet is open and has begun, and the flush waits for its end. -/
theorem qGet_flushAskedAtMac : qGet flushAskedAtMac 5 =
    { txOpen := true, adOpen := true, begun := true, before := true, last := { eg := 7 } } := by decide +kernel

/-- Refutes O11: its first clause of CUT_THROUGH_UNDERRUN keeps every field of the queue but three; but the end of the packet also
takes away the mark that a flush has left on it, which the clause lets stand (R115). -/
theorem not_switchCommandsComplete : ¬ Obligations.SwitchCommandsComplete := by
  unfold Obligations.SwitchCommandsComplete
  rintro ⟨-, -, -, -, -, hunderrun, -⟩
  have hv : valid flushAskedAtMac 5 = true := by decide +kernel
  obtain ⟨heg, htx, hopen, hbegun, hempty⟩ : (qGet flushAskedAtMac 5).last.eg = 7 ∧ (qGet flushAskedAtMac 5).txOpen = true ∧
      (qGet flushAskedAtMac 5).adOpen = true ∧ (qGet flushAskedAtMac 5).begun = true ∧
      (qGet flushAskedAtMac 5).onchip = [] := by
    rw [qGet_flushAskedAtMac]
    decide
  obtain ⟨-, hqueue, -⟩ := of_answers_hub
    (exec_cutThroughUnderrun_mac (i := 5) hv heg htx hopen hbegun hempty streaming_flushAskedAtMac) runs_flushAskedAtMac
    (hunderrun 5 flushAskedAtMac runs_flushAskedAtMac hv (.inl heg) htx hopen hbegun hempty streaming_flushAskedAtMac)
  have hkept := congrArg Queue.before hqueue
  have hmarked : (qGet flushAskedAtMac 5).before = true := congrArg Queue.before qGet_flushAskedAtMac
  have hgone : (qGet (abortAdapter 5 (clearOut flushAskedAtMac)) 5).before = false :=
    before_abortAdapter_streaming hopen hbegun streaming_flushAskedAtMac
  exact absurd (hgone.symm.trans (hkept.trans hmarked)) (by decide)

/-! ### The first commit of DEV (R430) -/

theorem hid_linkAt : reg (linkAt 0) R.DEV_HID = 0 := by decide +kernel

/-- A commit of DEV sets COMMITTED of `DEV.HID` (R430). -/
theorem hid_devCommit_linkAt : reg (devCommit (clearOut (linkAt 0))) R.DEV_HID = 0x100 := by decide +kernel

/-- Refutes O42: its clause of DEV_COMMIT has every register of the set read as before, `DEV.HID` with them, but the first commit sets
COMMITTED there (R430). -/
theorem not_commitsMakeTheStagedSetAct : ¬ Obligations.CommitsMakeTheStagedSetAct := by
  unfold Obligations.CommitsMakeTheStagedSetAct
  rintro ⟨hcommit, -, -⟩
  have hcold : mode (linkAt 0) = mCold := by decide +kernel
  obtain ⟨-, hkept, -⟩ := of_answers_hub (f := devCommit) rfl (runs_linkAt 0)
    (hcommit R.DEV_HID (linkAt 0) (runs_linkAt 0) (by rw [hcold]; decide) (.inl hcold) (by decide) (by decide))
  rw [reg_kept, hid_devCommit_linkAt, hid_linkAt] at hkept
  exact absurd hkept (by decide)

end Sys2Proof.Machine

/-! ## The patrol scrub of a line with an inverted check bit (R127, R129, R359) -/

namespace Sys2Proof.Machine

variable {s : State}

/-- A read that meets no beat with several inverted bits counts those with one, and does nothing else (R127). -/
theorem readBeats_correctable (h : ∀ e ∈ s.mem.fi, e.2 ≠ 2) (a n rank : Nat) :
    readBeats a n rank s = addCnt64 R.MEM_ECC_CORR
      ((s.mem.fi.filter (fun e => decide (a / 8 ≤ e.1 ∧ e.1 < (a + n + 7) / 8))).filter (fun e => e.2 = 1)).length s := by
  have hnone (p : Nat × Nat → Bool) : (s.mem.fi.filter p).filter (fun e => e.2 = 2) = [] :=
    List.filter_eq_nil_iff.2 fun e he => by simpa using h e (List.mem_filter.1 he).1
  unfold readBeats dramSpoiled
  simp only [hnone]
  rfl

/-- The scrub is not behind its pass. -/
abbrev inPass (s : State) : State := modMem (fun m => { m with behind := false }) s

/-- A slot that is not forced reads its line and goes on to the next one, SCRUB_BEHIND cleared (R129). -/
def scrubOn (s : State) : State :=
  setReg R.MEM_SCRUB_POS (BitVec.ofNat 32 ((reg s R.MEM_SCRUB_POS).toNat + 64))
    (setF fScrubBehind 0 (scrubLine (reg s R.MEM_SCRUB_POS).toNat (inPass s)))

/-- The scrub of a line without an uncorrectable beat leaves MEM.SCRUB_POS. -/
theorem scrubPos_scrubLine (h : ∀ e ∈ s.mem.fi, e.2 ≠ 2) (a : Nat) :
    reg (scrubLine a s) R.MEM_SCRUB_POS = reg s R.MEM_SCRUB_POS := by
  unfold scrubLine
  rw [readBeats_correctable h]
  exact reg_addCnt64 _ _ _ (by decide) (by decide)

/-- The scrub of such a line leaves the extent of the SDRAM. -/
theorem installed_scrubLine (h : ∀ e ∈ s.mem.fi, e.2 ≠ 2) (a : Nat) : installed (scrubLine a s) = installed s := by
  unfold scrubLine
  rw [readBeats_correctable h]
  rfl

theorem exec_patrolScrubSlot (forced : Bool) (ecc : DramEcc) (s : State) :
    exec (.patrolScrubSlot forced ecc) s = execPatrolScrubSlot forced ecc s := rfl

/-- Before the last line of the SDRAM, PATROL_SCRUB_SLOT goes on to the next one (R129). -/
theorem exec_patrolScrubSlot_onward (h : ∀ e ∈ s.mem.fi, e.2 ≠ 2) (hready : bit s fMemReady = true)
    (hen : bit s ⟨R.MEM_CTRL, 1, 1⟩ = true) (hnext : (reg s R.MEM_SCRUB_POS).toNat + 64 < installed s * 0x1000000) :
    exec (.patrolScrubSlot false .ok) s = hub s scrubOn := by
  rw [exec_patrolScrubSlot]
  refine hub_congr ?_
  set u := setF fScrubBehind 0
    (scrubLine (reg s R.MEM_SCRUB_POS).toNat (inPass (clearOut s)))
  have hpos : reg u R.MEM_SCRUB_POS = reg s R.MEM_SCRUB_POS :=
    (reg_setF_ne _ _ (by decide)).trans (scrubPos_scrubLine (s := inPass (clearOut s)) h _)
  have hinst : installed u = installed s := installed_scrubLine (s := inPass (clearOut s)) h _
  have hmore : ¬ installed u * 0x1000000 ≤ (reg u R.MEM_SCRUB_POS).toNat + 64 := by
    rw [hpos, hinst]
    exact Nat.not_le.2 hnext
  have hserves : (bit (clearOut s) fMemReady && bit (clearOut s) ⟨R.MEM_CTRL, 1, 1⟩) = true := by
    rw [bit_clearOut, bit_clearOut, hready, hen]
    rfl
  exact (if_pos hserves).trans ((if_neg hmore).trans
    (congrArg (fun pos => setReg R.MEM_SCRUB_POS (BitVec.ofNat 32 (pos.toNat + 64)) u) hpos))

/-- The SDRAM serves and its scrub, at address 0, comes to a beat of which an injection has inverted one check bit. -/
def scrubAtSpoiledBeat : State :=
  { setReg R.MEM_CTRL 2 (setReg R.MEM_STATUS 1 (linkAt 0)) with mem := { fi := [(0, 1)] } }

theorem runs_scrubAtSpoiledBeat : Runs scrubAtSpoiledBeat := by
  unfold Runs
  decide +kernel

/-- The scrub corrects the beat and counts it (R127). -/
theorem eccCorr_scrubOn_scrubAtSpoiledBeat : reg (scrubOn (clearOut scrubAtSpoiledBeat)) R.MEM_ECC_CORR = 1 := by
  decide +kernel

/-- Refutes O12: its clause of PATROL_SCRUB_SLOT leaves every register but MEM.SCRUB_POS and MEM.STATUS as before, and asks
nothing of the line that is read; but a beat of it with an inverted check bit is corrected, and MEM.ECC_CORR counts it (R127,
R359). -/
theorem not_memoryCommandsComplete : ¬ Obligations.MemoryCommandsComplete := by
  unfold Obligations.MemoryCommandsComplete
  rintro ⟨-, -, -, -, -, -, hpatrol, -⟩
  have hready : bit scrubAtSpoiledBeat fMemReady = true := by decide +kernel
  have hen : bit scrubAtSpoiledBeat ⟨R.MEM_CTRL, 1, 1⟩ = true := by decide +kernel
  have hpos : reg scrubAtSpoiledBeat R.MEM_SCRUB_POS = 0 := by decide +kernel
  have hnext : (reg scrubAtSpoiledBeat R.MEM_SCRUB_POS).toNat + 64 < installed scrubAtSpoiledBeat * 0x1000000 := by
    rw [hpos]
    decide
  obtain ⟨-, -, -, hregs, -⟩ := of_answers_hub (exec_patrolScrubSlot_onward (by decide) hready hen hnext)
    runs_scrubAtSpoiledBeat (hpatrol scrubAtSpoiledBeat runs_scrubAtSpoiledBeat hready hen hnext (by rw [hpos]; decide))
  have hnone : reg scrubAtSpoiledBeat R.MEM_ECC_CORR = 0 := by decide +kernel
  have hkept := hregs R.MEM_ECC_CORR (by decide)
  rw [reg_kept, eccCorr_scrubOn_scrubAtSpoiledBeat, hnone] at hkept
  exact absurd hkept (by decide)

end Sys2Proof.Machine

/-! ## Enabling the display while a ZQ calibration waits (R130, R152, R163, Table 5-12) -/

namespace Sys2Proof.Machine

/-- The display is off with a good timing and a frame memory region, and no layer is in force; the SDRAM serves, and a ZQ short
calibration still waits that display urgency put off before the display was stopped. -/
def displayOffZqWaiting : State :=
  { setAct R.MEM_FB_SIZE 1 (setReg R.DISP_H_TIMING (2200 * 65536 + 1920) (setReg R.DISP_H_SYNC (2052 * 65536 + 2008)
      (setReg R.DISP_V_TIMING (1125 * 65536 + 1080) (setReg R.DISP_V_SYNC (1089 * 65536 + 1084)
        (setReg R.DISP_PCLK_KHZ 148500 (setReg R.MEM_STATUS 0x41 (linkAt 0)))))))
    with mem := { zqDue := true } }

theorem exec_dispEnableWrite (v : Word) (s : State) : exec (.dispEnableWrite v) s = hub s (dispCtrlWrite (v ||| 1)) := rfl

theorem runs_displayOffZqWaiting : Runs displayOffZqWaiting := by
  unfold Runs
  decide +kernel

theorem unpaired_displayOffZqWaiting : Unpaired displayOffZqWaiting := by
  unfold Unpaired
  decide +kernel

/-- With no layer in force there is no urgency once the raster runs, and the calibration is no longer put off. -/
theorem zqDue_dispCtrlWrite_displayOffZqWaiting :
    (dispCtrlWrite (0 ||| 1) (clearOut displayOffZqWaiting)).mem.zqDue = false := by decide +kernel

/-- Refutes O14: its clause of DISP_ENABLE_WRITE lets nothing but registers and the display engine change; but the write evaluates
display urgency anew, and where there is none a ZQ calibration that waits for the end of urgency runs, which is kept with the SDRAM
controller (Table 5-12). -/
theorem not_displayFrameCommandsComplete : ¬ Obligations.DisplayFrameCommandsComplete := by
  unfold Obligations.DisplayFrameCommandsComplete
  rintro ⟨henable, -⟩
  have hoff : dispOn displayOffZqWaiting = false := by decide +kernel
  have hready : bit displayOffZqWaiting fMemReady = true := by decide +kernel
  have hregion : fbSize displayOffZqWaiting ≠ 0 := by decide +kernel
  have htiming : timingOk displayOffZqWaiting = true := by decide +kernel
  obtain ⟨-, -, -, -, -, -, honly⟩ := of_answers_hub (exec_dispEnableWrite 0 _) runs_displayOffZqWaiting
    (henable 0 _ runs_displayOffZqWaiting unpaired_displayOffZqWaiting hoff hready hregion htiming)
  have hmem := congrArg (fun t => t.mem.zqDue) honly
  exact absurd (zqDue_dispCtrlWrite_displayOffZqWaiting.symm.trans hmem) (by decide)

end Sys2Proof.Machine

/-! ## Outputs of the display engine (R160–R162, R171, R172, R174) -/

namespace Sys2Proof.Machine

variable {c : Instr} {s t u : State} {ks : List Nat} {k o : Nat}

/-! ### What an output's command may change -/

/-- Nothing but registers and what the display engine keeps has changed. -/
def OnlyDisplay (s t : State) : Prop := t = { s with regs := t.regs, disp := t.disp }

@[simp] theorem reg_modDisp (f : Disp → Disp) (s : State) (k : Nat) : reg (modDisp f s) k = reg s k := rfl
@[simp] theorem getF_modDisp (f : Disp → Disp) (s : State) (g : Fld) : getF (modDisp f s) g = getF s g := rfl
@[simp] theorem bit_modDisp (f : Disp → Disp) (s : State) (g : Fld) : bit (modDisp f s) g = bit s g := rfl

theorem RegsBut.modDisp (h : RegsBut ks s t) (f : Disp → Disp) : RegsBut ks s (Machine.modDisp f t) :=
  h.to fun j _ => reg_modDisp f t j

namespace OnlyDisplay

theorem refl (s : State) : OnlyDisplay s s := rfl

theorem pending (h : OnlyDisplay s t) : t.pending = s.pending := by
  unfold OnlyDisplay at h
  rw [h]

theorem fuse (h : OnlyDisplay s t) : t.fuse = s.fuse := by
  unfold OnlyDisplay at h
  rw [h]

theorem setReg (h : OnlyDisplay s t) (k : Nat) (v : Word) : OnlyDisplay s (Machine.setReg k v t) := by
  unfold OnlyDisplay at *
  generalize t.regs = r, t.disp = d at h
  subst h
  rfl

theorem setF (h : OnlyDisplay s t) (f : Fld) (v : Nat) : OnlyDisplay s (Machine.setF f v t) := h.setReg _ _

theorem modDisp (h : OnlyDisplay s t) (f : Disp → Disp) : OnlyDisplay s (Machine.modDisp f t) := by
  unfold OnlyDisplay at *
  generalize t.regs = r, t.disp = d at h
  subst h
  rfl

end OnlyDisplay

/-- A command of the hub die that touches registers and the display engine alone completes with its effect. -/
theorem answers_display {f : State → State} {P : State → Prop} (e : exec c s = hub s f) (h : Runs s) (ht : f (clearOut s) = t)
    (hd : OnlyDisplay (clearOut s) t) (hP : P t) : Answers c s P :=
  answers_hub_eq e h ht hd.pending hd.fuse hP

/-- A pulse depends on the crossings and the fault block alone. -/
theorem pulse_congr (hcdc : u.cdc = s.cdc) (hflt : u.flt = s.flt) (x : Nat) (p : Pulse) :
    (pulse x p u).cdc = (pulse x p s).cdc ∧ (pulse x p u).flt = (pulse x p s).flt := by
  have hx : xGet u x = xGet s x := by simp [xGet, hcdc]
  unfold pulse
  rw [hx]
  dsimp only
  split
  · exact ⟨by simp [xSet, hcdc], hflt⟩
  split
  · exact ⟨by simp [xSet, hcdc], hflt⟩
  split
  · exact ⟨by simp [bump, addCnt, setReg, xSet, hcdc], hflt⟩
  · exact ⟨by simp [raiseDirect, bump, addCnt, setReg, xSet, hcdc], by simp [raiseDirect, bump, addCnt, setReg, xSet, hflt]⟩

/-- A raise depends on the crossings, the fault block and whether the hub die runs. -/
theorem raise_congr (hruns : hubRuns u = hubRuns s) (hcdc : u.cdc = s.cdc) (hflt : u.flt = s.flt) (src d : Nat) :
    (raise src d u).cdc = (raise src d s).cdc ∧ (raise src d u).flt = (raise src d s).flt := by
  unfold raise
  rw [hruns]
  split
  · split
    · exact ⟨hcdc, by simp [raiseDirect, hflt]⟩
    · exact pulse_congr hcdc hflt _ _
  · exact ⟨hcdc, hflt⟩

theorem hubRuns_congr (hpwr : u.pwr = s.pwr) (hao : reg u R.AO_STATUS = reg s R.AO_STATUS) : hubRuns u = hubRuns s := by
  have hfld (f : Fld) (hf : f.key = R.AO_STATUS) : getF u f = getF s f := getF_of_reg (by rw [hf, hao])
  simp only [hubRuns, bit, hfld ⟨R.AO_STATUS, 0, 2⟩ rfl, hfld ⟨R.AO_STATUS, 3, 1⟩ rfl, hpwr]

@[simp] theorem raise_disp (src d : Nat) (s : State) : (raise src d s).disp = s.disp := by rw [raise_frame]

/-- A raise after registers have changed is the raise before. -/
theorem OnlyRegs.raised (h : OnlyRegs s t) (hout : t.out = []) (hao : reg t R.AO_STATUS = reg s R.AO_STATUS) (src d : Nat) :
    OnlyRaised src d s (raise src d t) := by
  have hpwr := congrArg State.pwr h
  have hcdc := congrArg State.cdc h
  have hflt := congrArg State.flt h
  obtain ⟨ecdc, eflt⟩ := raise_congr (s := s) (hubRuns_congr (s := s) hpwr hao) hcdc hflt src d
  unfold OnlyRaised
  rw [← ecdc, ← eflt]
  refine (raise_frame src d t).trans ?_
  generalize (raise src d t).cdc = x, (raise src d t).regs = r, (raise src d t).flt = y
  unfold OnlyRegs at h
  rw [hout] at h
  rw [h]

/-- The same where the display engine has changed as well. -/
theorem OnlyDisplay.raised (h : OnlyDisplay (clearOut s) t) (hao : reg t R.AO_STATUS = reg s R.AO_STATUS) (src d : Nat) :
    OnlyRaised src d { s with disp := t.disp } (raise src d t) := by
  have hout := congrArg State.out h
  have hregs : OnlyRegs { s with disp := t.disp } t := by
    unfold OnlyRegs
    rw [hout]
    exact h
  exact hregs.raised hout hao src d

theorem OnlyRaised.setReg {src d : Nat} (h : OnlyRaised src d s t) (k : Nat) (v : Word) :
    OnlyRaised src d s (Machine.setReg k v t) := by
  unfold OnlyRaised at *
  generalize t.regs = r at h
  subst h
  rfl

theorem OnlyRaised.setF {src d : Nat} (h : OnlyRaised src d s t) (f : Fld) (v : Nat) :
    OnlyRaised src d s (Machine.setF f v t) := h.setReg _ _

/-- A command of the hub die that raises a source, and else touches registers and the display engine alone, completes with its
effect. -/
theorem answers_raised {f : State → State} {P : State → Prop} {src d : Nat} {x : Disp} (e : exec c s = hub s f) (h : Runs s)
    (ht : f (clearOut s) = t) (hr : OnlyRaised src d { s with disp := x } t) (hP : P t) : Answers c s P := by
  have hpending := congrArg State.pending hr
  have hfuse := congrArg State.fuse hr
  exact answers_hub_eq e h ht hpending hfuse hP

theorem RegsBut.forAll {α : Type} (h : RegsBut ks s t) (l : List α) {f : α → State → State}
    (hf : ∀ a ∈ l, ∀ u, RegsBut ks s u → RegsBut ks s (f a u)) : RegsBut ks s (Machine.forAll l f t) := by
  induction l generalizing t with
  | nil => exact h
  | cons a l ih => exact ih (hf a List.mem_cons_self t h) fun b hb => hf b (List.mem_cons_of_mem a hb)

theorem RegsBut.raise (h : RegsBut ks s t) (src d : Nat) (hk : R.CDC_OVERRUN_EVENTS ∈ ks) :
    RegsBut ks s (Machine.raise src d t) :=
  h.to fun _ hj => reg_raise src d t fun e => hj (e ▸ hk)

/-- A field of a register keeps its value when one beside it is set. -/
theorem getF_setF_beside {lo w lo' w' : Nat} (v : Nat) (s : State) (h : lo + w ≤ 32 ∧ (lo + w ≤ lo' ∨ lo' + w' ≤ lo)) :
    getF (setF ⟨k, lo, w⟩ v s) ⟨k, lo', w'⟩ = getF s ⟨k, lo', w'⟩ := getF_setF_apart v s (.inl h)

/-! ### Commits of an output (R161) -/

theorem journalCommit_unpaired (h : Unpaired s) (page : Nat) (ch : List (Nat × Word)) : journalCommit page ch s = s := by
  have hall : forAll ch (fun p => journalReg p.1 p.2) s = s := by
    induction ch with
    | nil => rfl
    | cons p ch ih => rw [forAll_cons, journalReg_unpaired h, ih]
  unfold journalCommit
  rw [hall, journal_unpaired h, ite_self]

/-- COMMIT of output `k`: BUSY, and RESULT. -/
abbrev fDoutBusy (k : Nat) : Fld := ⟨(0x71 + k) * 0x1000 + 0x024, 0, 1⟩
abbrev fDoutResult (k : Nat) : Fld := ⟨(0x71 + k) * 0x1000 + 0x024, 1, 2⟩

/-- Output `k` waits for the next latch point with the control word `v`. -/
def outputWaits (k : Nat) (v : Word) (s : State) : State :=
  modDisp (fun d => { d with outputs := d.outputs.filter (fun j => j.1 != k) ++ [(k, v)] }) s

/-- The registers of a good commit of output `k`. -/
def doutCommitted (k : Nat) (s : State) : State := setF (fDirty (0x71 + k)) 0 (setF (fDoutBusy k) 1 (setF (fDoutResult k) 0 s))

theorem reg_doutCommitted {j : Nat} (s : State) (hj : j ≠ (fDoutBusy k).key) (hd : j ≠ (fDirty (0x71 + k)).key) :
    reg (doutCommitted k s) j = reg s j := by
  rw [doutCommitted, reg_setF_ne _ _ hd, reg_setF_ne (f := fDoutBusy k) _ _ hj, reg_setF_ne (f := fDoutResult k) _ _ hj]

/-- What a good commit shows. -/
theorem doutCommitted_shows (k : Nat) (s : State) :
    bit (doutCommitted k s) (fDoutBusy k) = true ∧ getF (doutCommitted k s) (fDoutResult k) = 0 ∧
      bit (doutCommitted k s) (fDirty (0x71 + k)) = false ∧
      RegsBut [(fDoutBusy k).key, (fDirty (0x71 + k)).key] s (doutCommitted k s) := by
  have hdirty : (fDoutBusy k).key ≠ (fDirty (0x71 + k)).key := by
    dsimp only
    omega
  refine ⟨?_, ?_, ?_, fun j hj => ?_⟩
  · rw [doutCommitted, bit, getF_setF_ne _ _ hdirty]
    exact bit_setF_one ((0x71 + k) * 0x1000 + 0x024) 0 _ (by decide)
  · rw [doutCommitted, getF_setF_ne (g := fDoutResult k) _ _ hdirty, getF_setF_beside _ _ (by decide)]
    exact getF_setF_fits (f := fDoutResult k) _ (by decide : 1 + 2 ≤ 32) (by decide : 0 < 2 ^ 2)
  · exact bit_setF_zero ((0x71 + k) * 0x1000 + 0x00C) 4 _ (by decide)
  · simp only [List.mem_cons, List.not_mem_nil, or_false, not_or] at hj
    obtain ⟨hbusy, hdirty⟩ := hj
    exact reg_doutCommitted s hbusy hdirty

/-- A commit that passes every check waits for the next latch point. -/
theorem doutCommit_good (hu : Unpaired s) (hm : mode s ≠ mStandby) (hbusy : bit s (fDoutBusy k) = false)
    (hband : overBandwidth s k = false) (hodd : bit s ⟨doutCtrl k, 1, 1⟩ = true → timingOdd s = false) :
    doutCommit k s = outputWaits k (reg s (doutCtrl k)) (doutCommitted k s) := by
  have hdecim : ¬ (bit s ⟨doutCtrl k, 1, 1⟩ && timingOdd s) = true := by
    cases hb : bit s ⟨doutCtrl k, 1, 1⟩ with
    | false => simp
    | true => simp [hodd hb]
  have hctrl : reg (doutCommitted k s) (doutCtrl k) = reg s (doutCtrl k) :=
    reg_doutCommitted s (by unfold doutCtrl R.DOUT_DP_CTRL; dsimp only; omega)
      (by unfold doutCtrl R.DOUT_DP_CTRL; dsimp only; omega)
  have hunp : Unpaired (outputWaits k (reg (doutCommitted k s) (doutCtrl k)) (doutCommitted k s)) :=
    unpaired_congr hu ((reg_modDisp _ _ _).trans (reg_doutCommitted s (by unfold R.DEV_MODE; dsimp only; omega)
      (by unfold R.DEV_MODE; dsimp only; omega)))
  unfold doutCommit
  dsimp only
  rw [if_neg (by simp [hbusy]), if_neg hm, if_neg (by simp [hband]), if_neg hdecim, doutApply]
  change journalCommit _ _ (outputWaits k (reg (doutCommitted k s) (doutCtrl k)) (doutCommitted k s)) = _
  rw [journalCommit_unpaired hunp, hctrl]

theorem exec_doutCommit (k : Fin 4) (s : State) : exec (.doutCommit k) s = hub s (doutCommit k) := rfl

/-- DOUT_COMMIT (R161). -/
theorem answers_doutCommit {k : Fin 4} (h : Runs s) (hu : Unpaired s) (hm : mode s ≠ mStandby)
    (hbusy : bit s (fDoutBusy k) = false) (hband : overBandwidth s k = false)
    (hodd : bit s ⟨doutCtrl k, 1, 1⟩ = true → timingOdd s = false) :
    Answers (.doutCommit k) s (fun t =>
      t.disp.outputs = s.disp.outputs.filter (fun j => j.1 != k.val) ++ [(k.val, reg s (doutCtrl k))] ∧
      bit t (fDoutBusy k) = true ∧ getF t (fDoutResult k) = 0 ∧
      bit t (fDirty (0x71 + k)) = false ∧ RegsBut [(fDoutBusy k).key, (fDirty (0x71 + k)).key] s t ∧
      t = { s with regs := t.regs, disp := t.disp, out := [] }) := by
  obtain ⟨hshown, hresult, hclean, hregs⟩ := doutCommitted_shows k (clearOut s)
  exact answers_hub_eq (exec_doutCommit k s) h (doutCommit_good (s := clearOut s) hu hm hbusy hband hodd) rfl rfl
    ⟨rfl, (bit_modDisp _ _ _).trans hshown, (getF_modDisp _ _ _).trans hresult, (bit_modDisp _ _ _).trans hclean,
      hregs.modDisp _, rfl⟩

/-! ### AUX and DCS transactions (Table 7-13) -/

/-- A command of an AUX channel that touches registers and outputs alone completes with its effect while the channel's die is
there. -/
theorem answers_auxDie {f : State → State} {P : State → Prop} (e : exec c s = auxDie k s f) (hp : Powered s)
    (hr : k < 4 → Runs s) (ht : f (clearOut s) = t) (ho : OnlyRegs s t) (hP : P t) : Answers c s P := by
  have hP' : P (kept s (f (clearOut s))) := by rwa [ht, kept_onlyRegs ho]
  by_cases hk : k < 4
  · exact answers_hub (e.trans (if_pos hk)) (hr hk) hP'
  · exact answers_power (e.trans (if_neg hk)) hp hP'

theorem exec_auxTransactionStart (k : Fin 8) (v : Word) (s : State) :
    exec (.auxTransactionStart k v) s = auxDie k s (auxStart k v) := rfl

/-- AUX_TRANSACTION_START at a channel without a transaction (R160, R273). -/
theorem answers_auxTransactionStart {k : Fin 8} {v : Word} (hp : Powered s) (hr : k.val < 4 → Runs s)
    (hidle : bit s ⟨auxStatus k, 0, 1⟩ = false) :
    Answers (.auxTransactionStart k v) s (fun t =>
      t.out = [.aux k v ((List.range (auxWords k)).flatMap (fun i => bytesLE 4 (reg s (auxWord k i)).toNat))] ∧
      reg t (auxStatus k) = 1 ∧ RegsBut [auxStatus k] s t ∧ OnlyRegs s t) := by
  have hbusy : ¬ bit (clearOut s) ⟨auxStatus k, 0, 1⟩ = true := by simp [hidle]
  exact answers_auxDie (exec_auxTransactionStart k v s) hp hr (if_neg hbusy) rfl
    ⟨rfl, reg_setReg_same _ _ _, (regsBut_refl _ (clearOut s)).setReg 1 List.mem_cons_self, rfl⟩

/-- Data that returns touches the channel's data registers alone. -/
theorem regsBut_auxData (k : Nat) (data : List Byte) (s : State) :
    RegsBut ((List.range (auxWords k)).map (auxWord k)) s (auxData k data s) :=
  (regsBut_refl _ s).forAll _ fun _ hi _ hu => hu.setReg _ (List.mem_map_of_mem hi)

theorem onlyRegs_auxData (h : OnlyRegs s t) (k : Nat) (data : List Byte) : OnlyRegs s (auxData k data t) :=
  forAll_keeps _ _ (fun _ _ hu => onlyRegs_setReg hu _ _) h

theorem out_auxData (k : Nat) (data : List Byte) (s : State) : (auxData k data s).out = s.out :=
  forAll_keeps (P := fun u => u.out = s.out) _ _ (fun _ _ hu => hu) rfl

theorem exec_auxTransactionDone (k : Fin 8) (reply : BitVec 2) (report : BitVec 16) (data : List Byte) (s : State) :
    exec (.auxTransactionDone k reply report data) s = execAuxTransactionDone k reply report data s := rfl

/-- A transaction of a DisplayPort channel is over: its data and reply stand in the registers. -/
def auxReplied (k : Nat) (reply : BitVec 2) (data : List Byte) (s : State) : State :=
  setReg (auxStatus k) (BitVec.ofNat 32 (reply.toNat * 2 + min 15 data.length * 16)) (auxData k data s)

theorem auxTimeouts_ne_auxStatus (k : Nat) : auxStatus k ≠ R.DOUT_AUX_TIMEOUTS k := by
  unfold auxStatus R.DOUT_AUX_STATUS R.TC_AUX_STATUS R.DOUT_AUX_TIMEOUTS
  split <;> omega

/-- AUX_TRANSACTION_DONE of a DisplayPort channel (R160, R273): a reply of 3 is counted as a time-out at an output. -/
theorem answers_auxTransactionDone_dp {k : Fin 8} {reply : BitVec 2} {report : BitVec 16} {data : List Byte} (hp : Powered s)
    (hr : k.val < 4 → Runs s) (hbusy : bit s ⟨auxStatus k, 0, 1⟩ = true) (hdp : auxIsDp k = true) :
    Answers (.auxTransactionDone k reply report data) s (fun t =>
      reg t (auxStatus k) = BitVec.ofNat 32 (reply.toNat * 2 + min 15 data.length * 16) ∧
      RegsBut ([auxStatus k, R.DOUT_AUX_TIMEOUTS k] ++ (List.range 4).map (auxWord k)) s t ∧ OnlyRegs s t ∧ t.out = []) := by
  have hdone : OnlyRegs s (auxReplied k reply data (clearOut s)) :=
    onlyRegs_setReg (onlyRegs_auxData (onlyRegs_clearOut s) _ _) _ _
  have hregs : RegsBut ([auxStatus k, R.DOUT_AUX_TIMEOUTS k] ++ (List.range 4).map (auxWord k)) s
      (auxReplied k reply data (clearOut s)) := by
    have hdata : RegsBut ((List.range (auxWords k)).map (auxWord k)) s (auxData k data (clearOut s)) := regsBut_auxData _ _ _
    rw [auxWords, if_pos hdp] at hdata
    exact (hdata.mono fun _ hj => List.mem_append_right _ hj).setReg _ (by simp)
  have hout : (auxReplied k reply data (clearOut s)).out = [] := out_auxData _ _ _
  by_cases htime : reply = 3 ∧ k.val < 2
  · refine answers_auxDie (exec_auxTransactionDone k reply report data s) hp hr
      ((if_pos hbusy).trans ((if_pos hdp).trans (if_pos htime))) (onlyRegs_setReg hdone _ _)
      ⟨?_, hregs.bump (by simp), onlyRegs_setReg hdone _ _, hout⟩
    exact (reg_bump _ _ (auxTimeouts_ne_auxStatus k)).trans (reg_setReg_same _ _ _)
  · exact answers_auxDie (exec_auxTransactionDone k reply report data s) hp hr
      ((if_pos hbusy).trans ((if_pos hdp).trans (if_neg htime))) hdone
      ⟨reg_setReg_same _ _ _, hregs, hdone, hout⟩

theorem dsiChannel (h : auxIsDp k = false) : 2 ≤ k ∧ k < 4 := by
  simp only [auxIsDp, Bool.or_eq_false_iff, decide_eq_false_iff_not] at h
  omega

/-- A DCS transaction is over: its data, its reply and the peripheral's error report stand in the registers. -/
def dcsReported (k : Nat) (reply : BitVec 2) (report : BitVec 16) (data : List Byte) (s : State) : State :=
  setF ⟨R.DOUT_STATUS k, 2, 1⟩ 1
    (setReg (auxStatus k) (BitVec.ofNat 32 (reply.toNat * 2 + data.length % 256 * 256 + report.toNat * 65536)) (auxData k data s))

/-- Of the registers it touches the data registers of the output and its two status registers. -/
theorem reg_dcsReported {j : Nat} (h : auxIsDp k = false) (reply : BitVec 2) (report : BitVec 16) (data : List Byte) (s : State)
    (hj : j < R.DOUT_STATUS k ∨ R.DOUT_DATA k 8 ≤ j) : reg (dcsReported k reply report data s) j = reg s j := by
  obtain ⟨-, hk⟩ := dsiChannel h
  unfold R.DOUT_STATUS R.DOUT_DATA at hj
  have hs : j ≠ R.DOUT_STATUS k := by unfold R.DOUT_STATUS; omega
  have ha : j ≠ auxStatus k := by unfold auxStatus R.DOUT_AUX_STATUS; rw [if_pos hk]; omega
  rw [dcsReported, reg_setF_ne (f := ⟨R.DOUT_STATUS k, 2, 1⟩) _ _ hs, reg_setReg_ne _ _ ha]
  refine regsBut_auxData k data s j fun hd => ?_
  obtain ⟨i, hi, rfl⟩ := List.mem_map.1 hd
  rw [auxWords, h, if_neg Bool.false_ne_true, List.mem_range] at hi
  rw [auxWord, if_pos hk] at hj
  unfold R.DOUT_DATA at hj
  omega

/-- AUX_TRANSACTION_DONE of a DSI output with an error report (R160, Table 7-13). -/
theorem answers_auxTransactionDone_dsi {k : Fin 8} {reply : BitVec 2} {report : BitVec 16} {data : List Byte} (h : Runs s)
    (hbusy : bit s ⟨auxStatus k, 0, 1⟩ = true) (hdsi : auxIsDp k = false) (hok : reply.getLsbD 1 = false)
    (hrep : report ≠ 0) :
    Answers (.auxTransactionDone k reply report data) s (fun t =>
      reg t (auxStatus k) = BitVec.ofNat 32 (reply.toNat * 2 + data.length % 256 * 256 + report.toNat * 65536) ∧
      reg t (R.DOUT_ERR_REPORTS k) = reg s (R.DOUT_ERR_REPORTS k) + 1 ∧ bit t ⟨R.DOUT_STATUS k, 2, 1⟩ = true ∧
      OnlyRaised 61 k s t) := by
  obtain ⟨hlo, hhi⟩ := dsiChannel hdsi
  have hstatus : auxStatus k = R.DOUT_AUX_STATUS k := if_pos hhi
  have hkept {j : Nat} (hj : j < R.DOUT_STATUS k ∨ R.DOUT_DATA k 8 ≤ j) :
      reg (dcsReported k reply report data (clearOut s)) j = reg s j := reg_dcsReported hdsi _ _ _ _ hj
  have hdone : OnlyRegs s (bump (R.DOUT_ERR_REPORTS k) (dcsReported k reply report data (clearOut s))) :=
    onlyRegs_setReg (onlyRegs_setF (onlyRegs_setReg (onlyRegs_auxData (onlyRegs_clearOut s) _ _) _ _) _ _) _ _
  have hraised : OnlyRaised 61 k s
      (raise 61 k (bump (R.DOUT_ERR_REPORTS k) (dcsReported k reply report data (clearOut s)))) := by
    refine hdone.raised (out_auxData _ _ _) ?_ 61 k
    rw [reg_bump _ _ (by unfold R.AO_STATUS R.DOUT_ERR_REPORTS; omega), hkept (.inr (by unfold R.AO_STATUS R.DOUT_DATA; omega))]
  have hreport : decide (report ≠ 0) = true := decide_eq_true hrep
  refine answers_raised (x := s.disp) ((exec_auxTransactionDone k reply report data s).trans (if_pos hhi)) h
    (t := raise 61 k (bump (R.DOUT_ERR_REPORTS k) (dcsReported k reply report data (clearOut s)))) ?_ hraised
    ⟨?_, ?_, ?_, hraised⟩
  · refine (if_pos hbusy).trans ?_
    simp only [hdsi, hok, hreport]
    rfl
  · rw [hstatus, reg_raise _ _ _ (by unfold R.CDC_OVERRUN_EVENTS R.DOUT_AUX_STATUS; omega),
      reg_bump _ _ (by unfold R.DOUT_ERR_REPORTS R.DOUT_AUX_STATUS; omega), dcsReported,
      reg_setF_ne (f := ⟨R.DOUT_STATUS k, 2, 1⟩) _ _ (by unfold R.DOUT_STATUS R.DOUT_AUX_STATUS; dsimp only; omega),
      ← hstatus, reg_setReg_same]
  · rw [reg_raise _ _ _ (by unfold R.CDC_OVERRUN_EVENTS R.DOUT_ERR_REPORTS; omega), reg_bump_same,
      hkept (.inr (by unfold R.DOUT_ERR_REPORTS R.DOUT_DATA; omega))]
  · rw [bit, getF_raise _ _ _ (by unfold R.CDC_OVERRUN_EVENTS R.DOUT_STATUS; dsimp only; omega),
      getF_bump _ _ (by unfold R.DOUT_ERR_REPORTS R.DOUT_STATUS; dsimp only; omega)]
    exact bit_setF_one (R.DOUT_STATUS k) 2 _ (by decide)

/-! ### HPD and link training (R160, R162) -/

/-- HPD of a DisplayPort output is seen high or low. -/
def setHpd (o : Nat) (high : Bool) (s : State) : State :=
  if o < 2 then setF ⟨R.DOUT_STATUS o, 1, 1⟩ (if high then 1 else 0) s
  else modDisp (fun d => { d with altHpd := smSet (fun _ => false) d.altHpd o high }) s

theorem hpdOf_setHpd (o : Nat) (high : Bool) (s : State) : hpdOf (setHpd o high s) o = high := by
  unfold hpdOf setHpd
  split
  · cases high
    · exact bit_setF_zero (R.DOUT_STATUS o) 1 s (by decide)
    · exact bit_setF_one (R.DOUT_STATUS o) 1 s (by decide)
  · exact smGet_smSet_same _ _ _

theorem OnlyDisplay.setHpd (h : OnlyDisplay s t) (o : Nat) (high : Bool) : OnlyDisplay s (Machine.setHpd o high t) := by
  unfold Machine.setHpd
  split
  · exact h.setF _ _
  · exact h.modDisp _

theorem regsBut_setHpd (o : Nat) (high : Bool) (s : State) : RegsBut [R.DOUT_STATUS o] s (setHpd o high s) := by
  unfold setHpd
  split
  · exact (regsBut_refl _ s).setF _ List.mem_cons_self
  · exact (regsBut_refl _ s).modDisp _

theorem OnlyDisplay.setTrained (h : OnlyDisplay s t) (o : Nat) (b : Bool) : OnlyDisplay s (Machine.setTrained o b t) := by
  unfold Machine.setTrained
  split
  · dsimp only
    split
    · exact (((h.setF _ _).setF _ _).setF _ _).setF _ _
    · exact (h.setF _ _).setF _ _
  · exact h.modDisp _

theorem regsBut_setTrained (o : Nat) (b : Bool) (s : State) : RegsBut [R.DOUT_STATUS o] s (setTrained o b s) := by
  have hm : R.DOUT_STATUS o ∈ [R.DOUT_STATUS o] := List.mem_cons_self
  unfold setTrained
  split
  · dsimp only
    split
    · exact ((((regsBut_refl _ s).setF _ hm).setF _ hm).setF _ hm).setF _ hm
    · exact ((regsBut_refl _ s).setF _ hm).setF _ hm
  · exact (regsBut_refl _ s).modDisp _

theorem training_setTrained (o : Nat) (b : Bool) (s : State) : (setTrained o b s).disp.training = s.disp.training := by
  unfold setTrained
  split
  · dsimp only
    split <;> rfl
  · rfl

/-- An output that loses its training keeps its HPD. -/
theorem hpdOf_untrained (o : Nat) (s : State) : hpdOf (setTrained o false s) o = hpdOf s o := by
  unfold hpdOf setTrained
  split
  · dsimp only
    rw [if_neg Bool.false_ne_true, bit, getF_setF_beside _ _ (by decide), getF_setF_beside _ _ (by decide), bit]
  · rfl

theorem training_endTraining (o : Nat) (s : State) : (endTraining o s).disp.training.contains o = false := by
  simp [endTraining, modDisp]

theorem training_startTraining (o : Nat) (s : State) : (startTraining o s).disp.training.contains o = true := by
  simp [startTraining, modDisp]

/-- HPD of an output has gone: a loss at an output of the DOUT pages is counted, and the output neither is nor becomes trained. -/
def hpdGone (o : Nat) (s : State) : State :=
  endTraining o (setTrained o false (when (decide (o < 2)) (bump (R.DOUT_HPD_LOSSES o)) (setHpd o false s)))

theorem hpdLoss_high (h : hpdOf s o = true) : hpdLoss o s = raise 60 o (hpdGone o s) := by
  unfold hpdLoss
  rw [if_pos h]
  unfold hpdGone setHpd
  by_cases ho : o < 2
  · simp only [if_pos ho, decide_eq_true ho, when_true]
    rfl
  · simp only [if_neg ho, decide_eq_false ho, when_false]

theorem OnlyDisplay.hpdGone (h : OnlyDisplay s t) (o : Nat) : OnlyDisplay s (Machine.hpdGone o t) := by
  unfold Machine.hpdGone Machine.when
  refine (OnlyDisplay.setTrained ?_ _ _).modDisp _
  split
  · exact (h.setHpd _ _).setReg _ _
  · exact h.setHpd _ _

theorem hpdOf_hpdGone (o : Nat) (s : State) : hpdOf (hpdGone o s) o = false := by
  have hcount : hpdOf (when (decide (o < 2)) (bump (R.DOUT_HPD_LOSSES o)) (setHpd o false s)) o = hpdOf (setHpd o false s) o := by
    have hne : R.DOUT_STATUS o ≠ R.DOUT_HPD_LOSSES o := by unfold R.DOUT_STATUS R.DOUT_HPD_LOSSES; omega
    unfold Machine.when
    split
    · rw [hpdOf, bit, getF_bump _ _ hne]
      rfl
    · rfl
  exact (hpdOf_untrained o _).trans (hcount.trans (hpdOf_setHpd o false s))

theorem reg_hpdGone {j : Nat} (s : State) (hs : j ≠ R.DOUT_STATUS o) (hl : j ≠ R.DOUT_HPD_LOSSES o) :
    reg (hpdGone o s) j = reg s j := by
  have hj : j ∉ [R.DOUT_STATUS o] := by simpa using hs
  refine (regsBut_setTrained o false _ j hj).trans ((reg_when _ _ _ fun u => ?_).trans (regsBut_setHpd o false s j hj))
  exact reg_bump _ _ hl

theorem losses_hpdGone (ho : o < 2) (s : State) :
    reg (hpdGone o s) (R.DOUT_HPD_LOSSES o) = reg s (R.DOUT_HPD_LOSSES o) + 1 := by
  have hne : R.DOUT_HPD_LOSSES o ∉ [R.DOUT_STATUS o] := by unfold R.DOUT_STATUS R.DOUT_HPD_LOSSES; simp
  refine (regsBut_setTrained o false _ _ hne).trans ?_
  rw [decide_eq_true ho, when_true, reg_bump_same, regsBut_setHpd o false s _ hne]

theorem exec_hpdLoss (o : Fin 6) (s : State) : exec (.hpdLoss o) s = hub s (hpdLoss (dpOut o)) := rfl

/-- HPD_LOSS of an output whose HPD was high (R162). -/
theorem answers_hpdLoss {o : Fin 6} (h : Runs s) (hhigh : hpdOf s (dpOut o) = true) :
    Answers (.hpdLoss o) s (fun t =>
      hpdOf t (dpOut o) = false ∧ t.disp.training.contains (dpOut o) = false ∧ (dpOut o < 2 →
      reg t (R.DOUT_HPD_LOSSES (dpOut o)) = reg s (R.DOUT_HPD_LOSSES (dpOut o)) + 1) ∧
      OnlyRaised 60 (dpOut o) { s with disp := t.disp } t ∧
      RegsBut [R.DOUT_HPD_LOSSES (dpOut o), R.DOUT_STATUS (dpOut o), R.CDC_OVERRUN_EVENTS] s t) := by
  generalize ho : dpOut o = k
  rw [ho] at hhigh
  have hraised := (OnlyDisplay.hpdGone (.refl (clearOut s)) k).raised (reg_hpdGone (clearOut s)
    (by unfold R.AO_STATUS R.DOUT_STATUS; omega) (by unfold R.AO_STATUS R.DOUT_HPD_LOSSES; omega)) 60 k
  have hshown : hpdOf (raise 60 k (hpdGone k (clearOut s))) k = hpdOf (hpdGone k (clearOut s)) k := by
    unfold hpdOf
    rw [raise_disp, bit, getF_raise _ _ _ (by unfold R.CDC_OVERRUN_EVENTS R.DOUT_STATUS; dsimp only; omega), bit]
  refine answers_raised (exec_hpdLoss o s) h ((congrArg (hpdLoss · _) ho).trans (hpdLoss_high (s := clearOut s) hhigh)) hraised
    ⟨hshown.trans (hpdOf_hpdGone _ _), ?_, fun hk => ?_, ?_, fun j hj => ?_⟩
  · rw [raise_disp]
    exact training_endTraining _ _
  · rw [reg_raise _ _ _ (by unfold R.CDC_OVERRUN_EVENTS R.DOUT_HPD_LOSSES; omega), losses_hpdGone hk, reg_clearOut]
  · rw [raise_disp]
    exact hraised
  · simp only [List.mem_cons, List.not_mem_nil, or_false, not_or] at hj
    obtain ⟨hloss, hstatus, hover⟩ := hj
    rw [reg_raise _ _ _ hover, reg_hpdGone _ hstatus hloss, reg_clearOut]

/-- An output whose HPD has returned trains where it is enabled, at an output of the DOUT pages by itself only with AUTO_TRAIN. -/
def retrains (s : State) (o : Nat) : Bool := dpEnabled s o && (decide (2 ≤ o) || getA s ⟨doutCtrl o, 8, 1⟩ == 1)

theorem hpdReturn_eq (o : Nat) (s : State) :
    hpdReturn o s = if retrains s o then startTraining o (setHpd o true s) else setHpd o true s := by
  unfold hpdReturn setHpd
  split
  · rfl
  · rfl

theorem exec_hpdReturn (o : Fin 6) (s : State) : exec (.hpdReturn o) s = hub s (hpdReturn (dpOut o)) := rfl

/-- HPD_RETURN (R162). -/
theorem answers_hpdReturn {o : Fin 6} (h : Runs s) :
    Answers (.hpdReturn o) s (fun t =>
      hpdOf t (dpOut o) = true ∧ (dpEnabled s (dpOut o) = true → (2 ≤ dpOut o ∨
      getA s ⟨doutCtrl (dpOut o), 8, 1⟩ = 1) → t.disp.training.contains (dpOut o) = true) ∧
      RegsBut [R.DOUT_STATUS (dpOut o)] s t ∧ t = { s with regs := t.regs, disp := t.disp, out := [] }) := by
  have honly : OnlyDisplay (clearOut s) (setHpd (dpOut o) true (clearOut s)) := .setHpd (.refl _) _ _
  have hhigh := hpdOf_setHpd (dpOut o) true (clearOut s)
  have hregs : RegsBut [R.DOUT_STATUS (dpOut o)] s (setHpd (dpOut o) true (clearOut s)) := regsBut_setHpd _ _ _
  have heq := hpdReturn_eq (dpOut o) (clearOut s)
  by_cases hr : retrains s (dpOut o) = true
  · rw [if_pos (show retrains (clearOut s) (dpOut o) = true from hr)] at heq
    exact answers_display (exec_hpdReturn o s) h heq (honly.modDisp _)
      ⟨hhigh, fun _ _ => training_startTraining _ _, hregs.modDisp _, honly.modDisp _⟩
  · rw [if_neg (show ¬ retrains (clearOut s) (dpOut o) = true from hr)] at heq
    refine answers_display (exec_hpdReturn o s) h heq honly ⟨hhigh, fun hen hauto => absurd ?_ hr, hregs, honly⟩
    simpa [retrains, hen] using hauto

theorem exec_dpLinkTrainingDone (o : Fin 6) (ok : Bool) (s : State) :
    exec (.dpLinkTrainingDone o ok) s = execDpLinkTrainingDone o ok s := rfl

/-- An output that is trained shows its lanes and its rate (R162). -/
theorem setTrained_shows (ho : o < 2) (s : State) :
    bit (setTrained o true s) ⟨R.DOUT_STATUS o, 2, 1⟩ = true ∧
      getF (setTrained o true s) ⟨R.DOUT_STATUS o, 4, 2⟩ = getA s ⟨doutCtrl o, 4, 2⟩ ∧
      getF (setTrained o true s) ⟨R.DOUT_STATUS o, 6, 2⟩ = getA s ⟨doutCtrl o, 6, 2⟩ := by
  have hlt (lo : Nat) : getA s ⟨doutCtrl o, lo, 2⟩ < 2 ^ 2 := Nat.mod_lt _ (Nat.two_pow_pos 2)
  unfold setTrained
  rw [if_pos ho]
  dsimp only
  rw [if_pos rfl]
  refine ⟨?_, ?_, getF_setF_fits (f := ⟨R.DOUT_STATUS o, 6, 2⟩) _ (by decide : 6 + 2 ≤ 32) (hlt 6)⟩
  · rw [bit, getF_setF_beside _ _ (by decide), getF_setF_beside _ _ (by decide), getF_setF_beside _ _ (by decide)]
    exact bit_setF_one (R.DOUT_STATUS o) 2 s (by decide)
  · rw [getF_setF_beside _ _ (by decide)]
    exact getF_setF_fits (f := ⟨R.DOUT_STATUS o, 4, 2⟩) _ (by decide : 4 + 2 ≤ 32) (hlt 4)

/-- DP_LINK_TRAINING_DONE of an output that trains (R162). -/
theorem answers_dpLinkTrainingDone {o : Fin 6} (h : Runs s) (ht : s.disp.training.contains (dpOut o) = true) :
    Answers (.dpLinkTrainingDone o true) s (fun t =>
      t.disp.training.contains (dpOut o) = false ∧ (dpOut o < 2 → bit t ⟨R.DOUT_STATUS (dpOut o), 2, 1⟩ = true ∧
      getF t ⟨R.DOUT_STATUS (dpOut o), 4, 2⟩ = getA s ⟨doutCtrl (dpOut o), 4, 2⟩ ∧
      getF t ⟨R.DOUT_STATUS (dpOut o), 6, 2⟩ = getA s ⟨doutCtrl (dpOut o), 6, 2⟩) ∧
      RegsBut [R.DOUT_STATUS (dpOut o)] s t ∧ t = { s with regs := t.regs, disp := t.disp, out := [] }) := by
  have honly : OnlyDisplay (clearOut s) (setTrained (dpOut o) true (endTraining (dpOut o) (clearOut s))) :=
    OnlyDisplay.setTrained (OnlyDisplay.modDisp (.refl _) _) _ _
  refine answers_display (t := setTrained (dpOut o) true (endTraining (dpOut o) (clearOut s)))
    (exec_dpLinkTrainingDone o true s) h (if_pos ht) honly
    ⟨?_, fun ho => setTrained_shows ho (endTraining (dpOut o) (clearOut s)), regsBut_setTrained _ _ (endTraining _ _), honly⟩
  rw [training_setTrained]
  exact training_endTraining _ _

theorem exec_dpIrqHpd (k : Fin 2) (s : State) : exec (.dpIrqHpd k) s = execDpIrqHpd k s := rfl

/-- DP_IRQ_HPD while HPD is high (R160). -/
theorem answers_dpIrqHpd {k : Fin 2} (h : Runs s) (hhigh : hpdOf s k = true) :
    Answers (.dpIrqHpd k) s (fun t =>
      reg t (R.DOUT_IRQ_HPD k) = reg s (R.DOUT_IRQ_HPD k) + 1 ∧ RegsBut [R.DOUT_IRQ_HPD k] s t ∧ OnlyRegs s t ∧
      t.out = []) :=
  answers_hub_eq (exec_dpIrqHpd k s) h (if_pos hhigh) rfl rfl
    ⟨reg_bump_same _ (clearOut s), (regsBut_refl _ (clearOut s)).bump List.mem_cons_self, rfl, rfl⟩

/-! ### Tearing effect and the stale timer (R171, R172, R174) -/

/-- An edge of the selected polarity at the TE pin of output `o` is counted. -/
def teCounted (o : Nat) (s : State) : State := bump (R.DOUT_TE_EDGES o) (setF ⟨R.DOUT_STATUS o, 1, 1⟩ 1 s)

/-- The edge releases the raster that waits, or is kept for VSYNC_START. -/
def teTaken (s : State) : State :=
  if teWaits s then placeRaster (vsyncStart s) (teUse s) else modDisp (fun d => { d with teKept := true }) s

/-- What an edge does at the output whose panel the raster follows. -/
def teFollowed (s : State) : State := teTaken (modDisp (fun d => { d with teTick := s.ticks }) (teSettle s))

theorem OnlyDisplay.teUse (h : OnlyDisplay s t) : OnlyDisplay s (Machine.teUse t) := ((h.modDisp _).setF _ _).setF _ _

theorem OnlyDisplay.teSettle (h : OnlyDisplay s t) : OnlyDisplay s (Machine.teSettle t) := by
  unfold Machine.teSettle
  split
  · exact h
  split
  · exact h.teUse
  split
  · exact h.modDisp _
  · exact h

theorem OnlyDisplay.teFollowed (h : OnlyDisplay s t) : OnlyDisplay s (Machine.teFollowed t) := by
  unfold Machine.teFollowed Machine.teTaken
  split
  · exact ((h.teSettle.modDisp _).teUse).modDisp _
  · exact (h.teSettle.modDisp _).modDisp _

theorem RegsBut.teUse (h : RegsBut ks s t) (hk : R.DISP_STATUS ∈ ks) : RegsBut ks s (Machine.teUse t) :=
  ((h.modDisp _).setF _ hk).setF _ hk

theorem RegsBut.teSettle (h : RegsBut ks s t) (hk : R.DISP_STATUS ∈ ks) : RegsBut ks s (Machine.teSettle t) := by
  unfold Machine.teSettle
  split
  · exact h
  split
  · exact h.teUse hk
  split
  · exact h.modDisp _
  · exact h

theorem RegsBut.teFollowed (h : RegsBut ks s t) (hk : R.DISP_STATUS ∈ ks) : RegsBut ks s (Machine.teFollowed t) := by
  unfold Machine.teFollowed teTaken
  split
  · exact (((h.teSettle hk).modDisp _).teUse hk).modDisp _
  · exact ((h.teSettle hk).modDisp _).modDisp _

/-- The raster waits only where nothing has let it pass, so there is nothing to settle. -/
theorem teSettle_waiting (h : teWaits s = true) : teSettle s = s := by
  simp only [teWaits, Bool.and_eq_true, Bool.not_eq_true'] at h
  obtain ⟨⟨⟨⟨-, hlost⟩, hkept⟩, hpassed⟩, -⟩ := h
  simp [teSettle, hlost, hkept, hpassed]

/-- Before VSYNC_START there is nothing to settle. -/
theorem teSettle_early (h : atVsync s = false) : teSettle s = s := by
  have hpast : pastVsync s = false := by
    simp only [atVsync, pastVsync, decide_eq_false_iff_not] at h ⊢
    omega
  simp [teSettle, h, hpast]

/-- A raster that waits is let go, locked, at VSYNC_START. -/
theorem teFollowed_waiting (h : teWaits s = true) :
    bit (teFollowed s) fTeLocked = true ∧ bit (teFollowed s) fTeLost = false ∧
      (teFollowed s).disp.latchTick = s.ticks ∧ (teFollowed s).disp.latchLine = vsyncStart s := by
  have heq : teFollowed s = placeRaster (vsyncStart s) (teUse (modDisp (fun d => { d with teTick := s.ticks }) s)) := by
    rw [teFollowed, teSettle_waiting h]
    exact if_pos h
  rw [heq]
  refine ⟨?_, bit_setF_zero R.DISP_STATUS 6 _ (by decide), rfl, rfl⟩
  refine (congrArg (· == 1) (getF_setF_apart (f := fTeLost) (g := fTeLocked) 0 _ (by decide))).trans ?_
  exact bit_setF_one R.DISP_STATUS 5 _ (by decide)

/-- An edge before VSYNC_START is kept for it. -/
theorem teFollowed_early (h : atVsync s = false) : (teFollowed s).disp.teKept = true := by
  have hwaits : ¬ teWaits s = true := by simp [teWaits, h]
  rw [teFollowed, teSettle_early h, teTaken]
  exact congrArg (fun t : State => t.disp.teKept) (if_neg hwaits)

theorem getF_teCounted {f : Fld} (o : Nat) (s : State) (hf : f.key / 0x1000 = 0x70) : getF (teCounted o s) f = getF s f := by
  rw [teCounted, getF_bump _ _ (by unfold R.DOUT_TE_EDGES; omega), getF_setF_ne _ _ (by unfold R.DOUT_STATUS; dsimp only; omega)]

/-- The raster is as before once an edge has been counted. -/
theorem raster_teCounted (o : Nat) (s : State) :
    teOutput (teCounted o s) = teOutput s ∧ atVsync (teCounted o s) = atVsync s ∧
      vsyncStart (teCounted o s) = vsyncStart s ∧ bit (teCounted o s) fTeLost = bit s fTeLost := by
  have hact (f : Fld) : getA (teCounted o s) f = getA s f := rfl
  have hdisp : (teCounted o s).disp = s.disp := rfl
  have hticks : (teCounted o s).ticks = s.ticks := rfl
  refine ⟨?_, ?_, ?_, ?_⟩
  · rw [teOutput, teOutput, dispOn, dispOn, bit, bit, bit, bit, getF_teCounted (f := fDispEn) o s rfl,
      getF_teCounted (f := ⟨R.DISP_CTRL, 1, 1⟩) o s rfl, getF_teCounted (f := ⟨R.DISP_CTRL, 2, 1⟩) o s rfl, hact]
  · rw [atVsync, atVsync, lineTicks, lineTicks, porch, porch, getF_teCounted (f := ⟨R.DISP_V_SYNC, 0, 16⟩) o s rfl,
      getF_teCounted (f := ⟨R.DISP_H_TIMING, 16, 16⟩) o s rfl, getF_teCounted (f := ⟨R.DISP_PCLK_KHZ, 0, 20⟩) o s rfl,
      hdisp, hticks]
  · exact getF_teCounted o s rfl
  · rw [bit, bit, getF_teCounted (f := fTeLost) o s rfl]

theorem teWaits_teCounted (o : Nat) (s : State) : teWaits (teCounted o s) = teWaits s := by
  obtain ⟨hout, hvsync, -, hlost⟩ := raster_teCounted o s
  have hdisp : (teCounted o s).disp = s.disp := rfl
  simp only [teWaits, hout, hvsync, hlost, hdisp]

theorem OnlyDisplay.teCounted (h : OnlyDisplay s t) (o : Nat) : OnlyDisplay s (Machine.teCounted o t) := (h.setF _ _).setReg _ _

theorem teCounted_shows (o : Nat) (s : State) :
    reg (teCounted o s) (R.DOUT_TE_EDGES o) = reg s (R.DOUT_TE_EDGES o) + 1 ∧
      bit (teCounted o s) ⟨R.DOUT_STATUS o, 1, 1⟩ = true ∧
      RegsBut [R.DOUT_TE_EDGES o, R.DOUT_STATUS o, R.DISP_STATUS] s (teCounted o s) := by
  have hne : R.DOUT_STATUS o ≠ R.DOUT_TE_EDGES o := by unfold R.DOUT_TE_EDGES R.DOUT_STATUS; omega
  refine ⟨?_, ?_, ((regsBut_refl _ s).setF _ (by simp)).bump (by simp)⟩
  · rw [teCounted, reg_bump_same, reg_setF_ne (f := ⟨R.DOUT_STATUS o, 1, 1⟩) _ _ hne.symm]
  · rw [teCounted, bit, getF_bump _ _ hne]
    exact bit_setF_one (R.DOUT_STATUS o) 1 s (by decide)

/-- An edge of the selected polarity is counted, and acts where the raster follows this output's panel. -/
def teEdged (o : Nat) (s : State) : State :=
  if teOutput (teCounted o s) = some o then teFollowed (teCounted o s) else teCounted o s

theorem exec_teEdge (k : Fin 2) (falling : Bool) (s : State) : exec (.teEdge k falling) s = execTeEdge k falling s := rfl

theorem exec_teEdge_selected {k : Fin 2} {falling : Bool} (hpol : falling = (getA s ⟨doutCtrl (2 + k), 7, 1⟩ == 1)) :
    exec (.teEdge k falling) s = hub s (teEdged (2 + k)) := by
  have hsame : (falling == (getA (clearOut s) ⟨doutCtrl (2 + k), 7, 1⟩ == 1)) = true := by
    rw [hpol]
    exact beq_self_eq_true _
  exact (exec_teEdge k falling s).trans (hub_congr (if_pos hsame))

/-- TE_EDGE of the selected polarity (R171). -/
theorem answers_teEdge {k : Fin 2} {falling : Bool} (h : Runs s) (hpol : falling = (getA s ⟨doutCtrl (2 + k), 7, 1⟩ == 1)) :
    Answers (.teEdge k falling) s (fun t =>
      reg t (R.DOUT_TE_EDGES (2 + k)) = reg s (R.DOUT_TE_EDGES (2 + k)) + 1 ∧
      bit t ⟨R.DOUT_STATUS (2 + k), 1, 1⟩ = true ∧ (teOutput s = some (2 + k.val) → teWaits s = true →
      bit t fTeLocked = true ∧ bit t fTeLost = false ∧ t.disp.latchTick = s.ticks ∧
      t.disp.latchLine = vsyncStart s) ∧ (teOutput s = some (2 + k.val) → atVsync s = false → t.disp.teKept = true) ∧
      RegsBut [R.DOUT_TE_EDGES (2 + k), R.DOUT_STATUS (2 + k), R.DISP_STATUS] s t ∧
      t = { s with regs := t.regs, disp := t.disp, out := [] }) := by
  obtain ⟨hout, hvsync, hstart, -⟩ := raster_teCounted (2 + k) (clearOut s)
  have hwaits := teWaits_teCounted (2 + k) (clearOut s)
  obtain ⟨hcount, hseen, hregs⟩ := teCounted_shows (2 + k) (clearOut s)
  have honly : OnlyDisplay (clearOut s) (teCounted (2 + k) (clearOut s)) := .teCounted (.refl _) _
  by_cases ho : teOutput s = some (2 + k.val)
  · have hfollowed {j : Nat} (hj : 0x71000 ≤ j) :
        reg (teFollowed (teCounted (2 + k) (clearOut s))) j = reg (teCounted (2 + k) (clearOut s)) j :=
      (regsBut_refl _ _).teFollowed (ks := [R.DISP_STATUS]) List.mem_cons_self j
        (by rw [List.mem_singleton]; unfold R.DISP_STATUS; omega)
    refine answers_display (exec_teEdge_selected hpol) h (if_pos (hout.trans ho)) honly.teFollowed
      ⟨?_, ?_, fun _ hw => ?_, fun _ hv => teFollowed_early (hvsync.trans hv), hregs.teFollowed (by simp), honly.teFollowed⟩
    · exact (hfollowed (by unfold R.DOUT_TE_EDGES; omega)).trans hcount
    · exact (congrArg (· == 1) (getF_of_reg (hfollowed (by unfold R.DOUT_STATUS; dsimp only; omega)))).trans hseen
    · obtain ⟨hlocked, hlost, htick, hline⟩ := teFollowed_waiting (hwaits.trans hw)
      exact ⟨hlocked, hlost, htick, hline.trans hstart⟩
  · exact answers_display (exec_teEdge_selected hpol) h (if_neg (hout ▸ ho)) honly
      ⟨hcount, hseen, fun ho' => absurd ho' ho, fun ho' => absurd ho' ho, hregs, honly⟩

/-- A raster that waits at VSYNC_START is let go without an edge. -/
def teFreed (s : State) : State :=
  if teWaits s then placeRaster (vsyncStart s) (modDisp (fun d => { d with tePassed := true }) s) else s

theorem OnlyDisplay.teFreed (h : OnlyDisplay s t) : OnlyDisplay s (Machine.teFreed t) := by
  unfold Machine.teFreed
  split
  · exact (h.modDisp _).modDisp _
  · exact h

theorem reg_teFreed (s : State) (k : Nat) : reg (teFreed s) k = reg s k := by
  unfold teFreed
  split
  · rfl
  · rfl

theorem tePassed_teFreed (s : State) : (teFreed s).disp.tePassed = (s.disp.tePassed || teWaits s) := by
  unfold teFreed
  split
  · next hw =>
    rw [hw, Bool.or_true]
    rfl
  · next hw => rw [Bool.eq_false_of_not_eq_true hw, Bool.or_false]

theorem RegsBut.dispEvent (h : RegsBut ks s t) (i : Nat) (hraw : 0x70010 ∈ ks) (hpend : 0x70018 ∈ ks) :
    RegsBut ks s (Machine.dispEvent i t) := by
  unfold Machine.dispEvent pageEvent
  dsimp only
  split
  · exact h.setF _ hraw
  · exact (h.setF _ hraw).setF _ hpend

theorem OnlyRaised.dispEvent {src d : Nat} (h : OnlyRaised src d s t) (i : Nat) :
    OnlyRaised src d s (Machine.dispEvent i t) := by
  unfold Machine.dispEvent pageEvent
  dsimp only
  split
  · exact h.setF _ _
  · exact (h.setF _ _).setF _ _

theorem disp_dispEvent (i : Nat) (s : State) : (dispEvent i s).disp = s.disp := by
  unfold dispEvent pageEvent
  dsimp only
  split
  · rfl
  · rfl

/-- The missing edge is reported and counted. -/
def teMissed (o : Nat) (s : State) : State := dispEvent 5 (bump R.DISP_TE_MISSING (raise 59 o (teFreed s)))

theorem exec_teMissing (s : State) : exec .teMissing s = execTeMissing s := rfl

/-- With no edge for two nominal frame times the lock is lost. -/
theorem exec_teMissing_late (hout : teOutput s = some o) (hlost : bit s fTeLost = false)
    (hlate : s.disp.teTick + 2 * lineTicks s (getF s ⟨R.DISP_V_TIMING, 16, 16⟩) ≤ s.ticks) :
    exec .teMissing s = hub s (fun s => setF fTeLocked 0 (setF fTeLost 1 (teMissed o s))) := by
  have hnot : ¬ s.ticks < s.disp.teTick + 2 * lineTicks s (getF s ⟨R.DISP_V_TIMING, 16, 16⟩) := Nat.not_lt.2 hlate
  have hdue : ¬ (bit s fTeLost ||
      decide (s.ticks < s.disp.teTick + 2 * lineTicks s (getF s ⟨R.DISP_V_TIMING, 16, 16⟩))) = true := by
    rw [hlost, decide_eq_false hnot]
    exact Bool.false_ne_true
  have hout' : teOutput (clearOut s) = some o := hout
  rw [exec_teMissing]
  refine hub_congr ?_
  dsimp only
  rw [hout']
  exact if_neg hdue

/-- TE_MISSING (R172). -/
theorem answers_teMissing (h : Runs s) (hout : teOutput s = some o) (hlost : bit s fTeLost = false)
    (hlate : s.disp.teTick + 2 * lineTicks s (getF s ⟨R.DISP_V_TIMING, 16, 16⟩) ≤ s.ticks) :
    Answers .teMissing s (fun t =>
      reg t R.DISP_TE_MISSING = reg s R.DISP_TE_MISSING + 1 ∧ bit t fTeLocked = false ∧ bit t fTeLost = true ∧
      t.disp.tePassed = (s.disp.tePassed || teWaits s) ∧ OnlyRaised 59 o { s with disp := t.disp } t ∧
      RegsBut [R.DISP_TE_MISSING, R.DISP_STATUS, 0x70010, 0x70018, R.CDC_OVERRUN_EVENTS] s t) := by
  have hdisp : (teMissed o (clearOut s)).disp = (teFreed (clearOut s)).disp := (disp_dispEvent _ _).trans (raise_disp _ _ _)
  have hraised : OnlyRaised 59 o { s with disp := (teMissed o (clearOut s)).disp } (teMissed o (clearOut s)) := by
    rw [hdisp]
    exact (((OnlyDisplay.teFreed (.refl _)).raised (reg_teFreed _ _) 59 o).setReg _ _).dispEvent 5
  have hregs : RegsBut [R.DISP_TE_MISSING, R.DISP_STATUS, 0x70010, 0x70018, R.CDC_OVERRUN_EVENTS] s (teMissed o (clearOut s)) :=
    ((((regsBut_refl _ s).to fun j _ => reg_teFreed (clearOut s) j).raise 59 o (by decide)).bump).dispEvent 5 (by decide)
      (by decide)
  have hcount : reg (teMissed o (clearOut s)) R.DISP_TE_MISSING = reg s R.DISP_TE_MISSING + 1 := by
    have hevent : RegsBut [0x70010, 0x70018] (bump R.DISP_TE_MISSING (raise 59 o (teFreed (clearOut s))))
        (teMissed o (clearOut s)) := (regsBut_refl _ _).dispEvent 5 (by decide) (by decide)
    rw [hevent _ (by decide), reg_bump_same, reg_raise _ _ _ (by decide), reg_teFreed, reg_clearOut]
  refine answers_raised (exec_teMissing_late hout hlost hlate) h rfl ((hraised.setF _ _).setF _ _)
    ⟨?_, bit_setF_zero R.DISP_STATUS 5 _ (by decide), ?_, ?_, (hraised.setF _ _).setF _ _, (hregs.setF _).setF _⟩
  · rw [reg_setF_ne _ _ (by decide), reg_setF_ne _ _ (by decide), hcount]
  · refine (congrArg (· == 1) (getF_setF_apart (f := fTeLocked) (g := fTeLost) 0 _ (by decide))).trans ?_
    exact bit_setF_one R.DISP_STATUS 6 _ (by decide)
  · exact (congrArg Disp.tePassed hdisp).trans (tePassed_teFreed (clearOut s))

/-- STALE_TIMEOUT_EXPIRY (R174). -/
theorem answers_staleTimeoutExpiry (h : Runs s) (hon : staleTicks s ≠ 0) (hlate : s.disp.lastTick + staleTicks s ≤ s.ticks) :
    Answers .staleTimeoutExpiry s (fun t => t = { s with disp := { s.disp with stale := true }, out := [] }) :=
  answers_hub_eq (f := fun s => if staleTicks s ≠ 0 ∧ s.disp.lastTick + staleTicks s ≤ s.ticks then
    modDisp (fun d => { d with stale := true }) s else s) rfl h (if_pos ⟨hon, hlate⟩) rfl rfl rfl

/-- Settles O13: each clause is the completion lemma of its command above. -/
theorem displayOutputCommandsComplete : Obligations.DisplayOutputCommandsComplete := by
  unfold Obligations.DisplayOutputCommandsComplete
  exact ⟨fun _ _ h hu hm hbusy hband hodd => answers_doutCommit h hu hm hbusy hband hodd,
    fun _ _ _ hp hr hidle => answers_auxTransactionStart hp hr hidle,
    fun _ _ _ _ _ hp hr hbusy hdp => answers_auxTransactionDone_dp hp hr hbusy hdp,
    fun _ _ _ _ _ h hbusy hdsi hok hrep => answers_auxTransactionDone_dsi h hbusy hdsi hok hrep,
    fun _ _ h hhigh => answers_hpdLoss h hhigh,
    fun _ _ h => answers_hpdReturn h,
    fun _ _ h ht => answers_dpLinkTrainingDone h ht,
    fun _ _ h hhigh => answers_dpIrqHpd h hhigh,
    fun _ _ _ h hpol => answers_teEdge h hpol,
    fun _ _ h hout hlost hlate => answers_teMissing h hout hlost hlate,
    fun _ h hon hlate => answers_staleTimeoutExpiry h hon hlate⟩

end Sys2Proof.Machine

/-! ## The tunnel sets of the forwarding table (R190, R423) -/

namespace Sys2Proof.Machine

variable {s t u : State} {k : Nat}

/-! ### The journal leaves the committed copies alone -/

theorem act_raise (src d : Nat) (s : State) : (raise src d s).act = s.act := by rw [raise_frame]

theorem act_journalOverflow (s : State) : (journalOverflow s).act = s.act := by
  unfold journalOverflow when
  dsimp only
  rw [act_raise]
  split <;> rfl

theorem act_journal (type : Nat) (body : List Byte) (last : Bool) (s : State) : (journal type body last s).act = s.act := by
  unfold journal
  split
  · split
    · exact act_journalOverflow s
    · dsimp only
      split <;> rfl
  · rfl

theorem act_journalReg (key : Nat) (v : Word) (s : State) : (journalReg key v s).act = s.act := by
  unfold journalReg
  dsimp only
  split
  · split
    · exact act_journal _ _ _ _
    · split <;> simp only [journalWord, act_journal]
  · rfl

theorem act_forAll {α : Type} (l : List α) {f : α → State → State} (h : ∀ a s, (f a s).act = s.act) (s : State) :
    (forAll l f s).act = s.act :=
  forAll_keeps (P := fun t => t.act = s.act) l f (fun a t ht => (h a t).trans ht) rfl

theorem act_journalCommit (page : Nat) (ch : List (Nat × Word)) (s : State) : (journalCommit page ch s).act = s.act := by
  unfold journalCommit
  split
  · exact (act_journal _ _ _ _).trans (act_forAll ch (fun p s => act_journalReg p.1 p.2 s) s)
  · rfl

/-! ### What a commit copies into force -/

theorem commitRegs_cons (j : Nat) (ks : List Nat) (s : State) : commitRegs (j :: ks) s = commitRegs ks (commitReg j s) := rfl

theorem commitRegs_eq (ks : List Nat) (s : State) : ∃ a, commitRegs ks s = { s with act := a } := by
  induction ks generalizing s with
  | nil => exact ⟨s.act, rfl⟩
  | cons j ks ih =>
    obtain ⟨a, ha⟩ := ih (commitReg j s)
    exact ⟨a, ha⟩

theorem commitRegs_frame (ks : List Nat) (s : State) : commitRegs ks s = { s with act := (commitRegs ks s).act } := by
  obtain ⟨a, ha⟩ := commitRegs_eq ks s
  rw [ha]

@[simp] theorem reg_commitRegs (ks : List Nat) (s : State) (j : Nat) : reg (commitRegs ks s) j = reg s j := by
  rw [commitRegs_frame]
  rfl

/-- Every register of the list acts as staged, and every other one as before. -/
theorem actReg_commitRegs (ks : List Nat) (s : State) (j : Nat) :
    actReg (commitRegs ks s) j = if j ∈ ks then reg s j else actReg s j := by
  induction ks generalizing s with
  | nil => simp [commitRegs]
  | cons a ks ih =>
    rw [commitRegs_cons, ih, commitReg, reg_setAct, actReg_setAct]
    by_cases hj : j = a
    · simp [hj]
    · simp [hj]

/-- The registers of the sets that an address names lie between those of the commands and the counters; set 63 has keys of its
own. -/
theorem mem_fwdRegs (h : k ∈ fwdRegs) : (0x7D420 ≤ k ∧ k < 0x7D800 ∨ 0x1000000 ≤ k) ∧ k % 4 = 0 := by
  have hset (t j : Nat) (ht : 1 ≤ t ∧ t < 1 + 63) (hj : j < 3) :
      (0x7D420 ≤ tsetKey t j ∧ tsetKey t j < 0x7D800 ∨ 0x1000000 ≤ tsetKey t j) ∧ tsetKey t j % 4 = 0 := by
    unfold tsetKey regKey R.FWD_LOOKUPS R.FWD_TSET_CNT
    split <;> omega
  simp only [fwdRegs, List.mem_flatMap, List.mem_range'_1, List.mem_cons, List.not_mem_nil, or_false] at h
  obtain ⟨t, ht, rfl | rfl | rfl⟩ := h
  · exact hset t 0 ht (by decide)
  · exact hset t 1 ht (by decide)
  · exact hset t 2 ht (by decide)

/-! ### FWD_COMMIT -/

/-- RESULT of the commit of the FWD page. -/
abbrev fFwdRole : Fld := ⟨0x7D024, 1, 1⟩

/-- The sets in force, with RESULT OK and DIRTY cleared. -/
def setsCommitted (s : State) : State := setF (fDirty 0x7D) 0 (commitRegs fwdRegs (setF fFwdRole 0 s))

theorem reg_setsCommitted {j : Nat} (s : State) (hj : j ≠ fFwdRole.key) (hd : j ≠ (fDirty 0x7D).key) :
    reg (setsCommitted s) j = reg s j := by
  rw [setsCommitted, reg_setF_ne _ _ hd, reg_commitRegs, reg_setF_ne _ _ hj]

theorem actReg_setsCommitted (s : State) (hk : k ∈ fwdRegs) : actReg (setsCommitted s) k = reg s k := by
  have hne : k ≠ fFwdRole.key := by have := mem_fwdRegs hk; dsimp only; omega
  rw [setsCommitted, actReg_setF, actReg_commitRegs, if_pos hk, reg_setF_ne _ _ hne]

theorem role_setsCommitted (s : State) : getF (setsCommitted s) fFwdRole = 0 := by
  rw [setsCommitted, getF_setF_ne _ _ (by decide), getF_of_reg (reg_commitRegs _ _ _), getF_setF_same _ _ _ (by decide)]
  rfl

/-- Outside the standby a commit of FWD puts the sets in force, and is journalled (R190). -/
theorem fwdCommit_applies (hm : mode s ≠ mStandby) :
    fwdCommit s = journalCommit 0x7D (changed s fwdRegs) (setsCommitted s) := by
  unfold fwdCommit
  rw [if_neg hm]
  rfl

theorem exec_fwdCommit (s : State) : exec .fwdCommit s = hub s fwdCommit := rfl

/-- FWD_COMMIT outside the standby: every set acts as written, and RESULT is OK (R190). -/
theorem answers_fwdCommit_acts (h : Runs s) (hm : mode s ≠ mStandby) (hk : k ∈ fwdRegs) :
    Answers .fwdCommit s (fun t => actReg t k = reg s k ∧ getF t fFwdRole = 0) := by
  refine answers_hub (exec_fwdCommit s) h ?_
  rw [fwdCommit_applies (s := clearOut s) hm, actReg_kept, getF_kept, actReg_congr (act_journalCommit _ _ _),
    getF_journalCommit _ _ _ (by decide)]
  exact ⟨actReg_setsCommitted _ hk, role_setsCommitted _⟩

/-- FWD_COMMIT at the standby: RESULT is ROLE, and nothing acts otherwise (R190, R423). -/
theorem answers_fwdCommit_role (h : Runs s) (hm : mode s = mStandby) :
    Answers .fwdCommit s (fun t => actReg t k = actReg s k ∧ getF t fFwdRole = 1 ∧ RegsBut [0x7D024] s t) :=
  answers_hub_eq (exec_fwdCommit s) h (t := setF fFwdRole 1 (clearOut s)) (if_pos (show mode (clearOut s) = mStandby from hm))
    rfl rfl ⟨rfl, getF_setF_same fFwdRole 1 _ (by decide), (regsBut_refl _ s).setF (f := fFwdRole) 1⟩

/-! ### A write of a tunnel set's register -/

/-- A write by access type at an unpaired hub changes registers alone. -/
theorem onlyRegs_typedWrite {kind : PageKind} {page off : Nat} (hu : Unpaired s) (hk : pageKindOf page = some kind)
    (ho : off < 0x1000) (v : Word) : OnlyRegs s (typedWrite kind page off v s) := by
  cases hrow : findRow kind off with
  | none =>
    simp only [typedWrite, hrow]
    rfl
  | some r =>
    cases hsel : selValue s page r.sel with
    | none =>
      simp only [typedWrite, hrow, hsel]
      rfl
    | some c =>
      rw [typedWrite_unpaired hu hk ho hrow hsel rfl]
      cases r.rws != 0 <;> rfl

theorem fwdWrite_typed {off : Nat} (h : 0x420 ≤ off ∧ off < 0x800) (v : Word) (s : State) : fwdWrite off v s = none := by
  unfold fwdWrite
  split
  case h_6 => rfl
  all_goals omega

/-- A register of a tunnel set is staged: what acts does not move with the write (R190). -/
theorem answers_tsetWrite {p : Path} {addr : Addr} {v : Word} (h : Awake s) (hu : Unpaired s) (hm : mode s ≠ mStandby)
    (hs : s.stopped.contains 0x7D = false) (ha : addr.toNat ∈ fwdRegs) :
    Answers (.registerWrite p addr v) s (fun t => actReg t k = actReg s k) := by
  have hlt : addr.toNat < 0x1000000 := addr.isLt
  obtain ⟨hkey, h4⟩ := mem_fwdRegs ha
  have hpage : addr.toNat / 0x1000 = 0x7D := by omega
  have hoff : 0x420 ≤ addr.toNat % 0x1000 ∧ addr.toNat % 0x1000 < 0x800 := by omega
  cases hr : pathReaches s p addr.toNat with
  | false => exact answers_unreachedWrite (runs_powered h.1) hr rfl
  | true =>
    have hregs := onlyRegs_typedWrite (s := clearOut s) (off := addr.toNat % 0x1000) hu
      (show pageKindOf 0x7D = some .fwd by decide) (by omega) v
    refine answers_registerWrite (k := .fwd) h hr h4 (by rw [hpage]; decide) (by rw [hpage]; exact hs) ?_ hregs ?_
    · rw [hpage, pageWrite_applies (s := clearOut s) (.inl hm) (.inr (by simp))]
      exact applyWrite_typed (by omega) rfl (fwdWrite_typed hoff v _)
    · exact actReg_congr (congrArg State.act hregs) k

/-- Settles O55: each clause is the completion lemma of its command above. -/
theorem tunnelSetsTakeEffectTogether : Obligations.TunnelSetsTakeEffectTogether := by
  unfold Obligations.TunnelSetsTakeEffectTogether
  exact ⟨fun _ _ h hm hk => answers_fwdCommit_acts h hm hk,
    fun _ _ h hm => answers_fwdCommit_role h hm,
    fun _ _ _ _ _ h hu hm hs ha => answers_tsetWrite h hu hm hs ha⟩

end Sys2Proof.Machine

/-! ## What the servo leaves alone (R193, R197, R198) -/

namespace Sys2Proof.Machine

variable {s t u : State} {k : Nat} {f : Fld}

/-! ### The rim copies of Plumb -/

theorem carry_regs (x : Nat) (s : State) : (carry x s).regs = s.regs := by
  unfold carry
  split <;> rfl

theorem realign_regs (x : Nat) (s : State) : (realign x s).regs = s.regs := by
  unfold realign
  dsimp only
  rw [carry_regs]
  split <;> rfl

/-! ### The state of the lock, in two steps -/

/-- An offset in FREE or HOLDOVER starts a new acquisition. -/
def reacquired (s : State) : State :=
  if getF s fTimeState = 3 ∨ getF s fTimeState = 0 then setF fTimeState 1 { s with time := { s.time with good := 0 } } else s

/-- So many offsets in a row have been near. -/
def lockCounted (good : Nat) (s : State) : State := { s with time := { s.time with good := good } }

/-- LOCKED has ended. -/
def lockEnded (s : State) : State := setF fTimeState 1 (raiseN 102 (bump R.TIME_LOCK_LOSSES (lockCounted 0 s)))

/-- The offset ends the lock of STATE `st`, or the near ones in a row bring it. -/
def lockJudged (st : Nat) (o : Int) (good : Nat) (s : State) : State :=
  if st = 2 then if 4 * lockThresh s < o.natAbs then lockEnded s else s
  else if max 1 (getF s ⟨R.TIME_LOCK, 16, 8⟩) ≤ good then setF fTimeState 2 s else s

/-- The near offsets in a row, with this one. -/
def nearCount (o : Int) (s : State) : Nat := if decide (o.natAbs < lockThresh s) then s.time.good + 1 else 0

theorem lockFollow_eq (o : Int) (s : State) : lockFollow o s =
    lockJudged (getF s fTimeState) o (nearCount o (reacquired s)) (lockCounted (nearCount o (reacquired s)) (reacquired s)) := rfl

/-! ### Fields of the TIME page that only an offset or a source changes -/

theorem bits_full (v : Word) : bits v.toNat 0 32 = v.toNat := by
  rw [bits, pow_zero, Nat.div_one, Nat.mod_eq_of_lt v.isLt]

/-- A register reads alike where the field of all its bits does. -/
theorem reg_of_getF (h : getF t ⟨k, 0, 32⟩ = getF s ⟨k, 0, 32⟩) : reg t k = reg s k := by
  simp only [getF, bits_full] at h
  exact BitVec.eq_of_toNat_eq h

/-- A field of the TIME page that steering Plumb leaves alone: neither FREQ_ADJ nor a counter of what steering does, and of
STATUS neither STATE nor FREQ_LIMIT. -/
def Unsteered (f : Fld) : Prop :=
  f.key / 0x1000 = 6 ∧ f.key ∉ [R.TIME_FREQ_ADJ, R.TIME_STEPS, R.TIME_LOCK_LOSSES] ∧ (f.key = R.TIME_STATUS → 4 ≤ f.lo)

/-- Plumb has been steered: the fields of the TIME page that this leaves alone read as before. -/
def Steered (s t : State) : Prop := ∀ f, Unsteered f → getF t f = getF s f

namespace Steered

theorem refl (s : State) : Steered s s := fun _ _ => rfl

theorem trans (h : Steered s t) (h' : Steered t u) : Steered s u := fun f hf => (h' f hf).trans (h f hf)

theorem same (h : Steered s t) (e : u.regs = t.regs) : Steered s u := h.trans fun f _ => getF_congr e f

theorem reg_eq (h : Steered s t) (hk : Unsteered ⟨k, 0, 32⟩) : reg t k = reg s k := reg_of_getF (h _ hk)

theorem bit_eq (h : Steered s t) (hf : Unsteered f) : bit t f = bit s f := by rw [bit, bit, h f hf]

/-- A register outside the page, or one of those that steering writes. -/
theorem setReg (h : Steered s t) (v : Word)
    (hk : k / 0x1000 ≠ 6 ∨ k ∈ [R.TIME_FREQ_ADJ, R.TIME_STEPS, R.TIME_LOCK_LOSSES]) :
    Steered s (Machine.setReg k v t) := by
  refine h.trans fun f hf => getF_setReg_ne v t ?_
  obtain ⟨hpage, hother, -⟩ := hf
  rintro rfl
  exact hk.elim (absurd hpage) hother

theorem bump (h : Steered s t)
    (hk : k / 0x1000 ≠ 6 ∨ k ∈ [R.TIME_FREQ_ADJ, R.TIME_STEPS, R.TIME_LOCK_LOSSES]) :
    Steered s (Machine.bump k t) := h.setReg _ hk

theorem setF (h : Steered s t) (v : Nat) (hk : f.key / 0x1000 ≠ 6) : Steered s (Machine.setF f v t) :=
  h.setReg _ (.inl hk)

/-- STATE or FREQ_LIMIT. -/
theorem setStatus {lo w : Nat} (h : Steered s t) (v : Nat) (hw : lo + w ≤ 4) :
    Steered s (Machine.setF ⟨R.TIME_STATUS, lo, w⟩ v t) := by
  refine h.trans fun f hf => getF_setF_apart v t ?_
  obtain ⟨-, -, hstatus⟩ := hf
  by_cases hk : f.key = R.TIME_STATUS
  · exact .inl ⟨hw.trans (by decide), .inl (hw.trans (hstatus hk))⟩
  · exact .inr hk

theorem ite {c : Prop} [Decidable c] (ht : Steered s t) (hu : Steered s u) : Steered s (if c then t else u) := by
  split
  · exact ht
  · exact hu

theorem forAll {α : Type} (h : Steered s t) (l : List α) {f : α → State → State}
    (hf : ∀ a u, Steered s u → Steered s (f a u)) : Steered s (Machine.forAll l f t) :=
  forAll_keeps l f hf h

theorem raise (h : Steered s t) (src d : Nat) : Steered s (Machine.raise src d t) := by
  refine h.trans fun f hf => getF_raise src d t ?_
  rintro hk
  exact absurd hf.1 (by rw [hk]; decide)

theorem raiseN (h : Steered s t) (src : Nat) : Steered s (Machine.raiseN src t) := (h.same (u := nextFree t) rfl).raise _ _

/-! ### What steering does -/

theorem setFreq (h : Steered s t) (x : Int) : Steered s (Machine.setFreq x t) := by
  unfold Machine.setFreq
  dsimp only
  have hset := setStatus (lo := 3) (w := 1)
    (h.setReg (k := R.TIME_FREQ_ADJ) (BitVec.ofInt 32 (clampI (-freqMax) freqMax x)) (by decide))
    (if decide (clampI (-freqMax) freqMax x ≠ x) then 1 else 0) (by decide)
  exact ite (hset.raiseN _) hset

theorem quotInt (h : Steered s t) (a : Int) (b : Nat) : Steered s (Machine.quotInt a b t).2 := by
  unfold Machine.quotInt
  split
  · exact h.same rfl
  split
  · exact h
  · exact h.same rfl

theorem realign (h : Steered s t) (x : Nat) : Steered s (Machine.realign x t) := h.same (realign_regs x t)

theorem gateFollow (h : Steered s t) (g : Nat) : Steered s (Machine.gateFollow g t) := by
  have hk : gateKey g 0x198 / 0x1000 ≠ 6 := by
    unfold gateKey regKey
    split <;> omega
  unfold Machine.gateFollow
  exact ((h.setF _ hk).setF _ hk).setF _ hk

theorem stepRim (h : Steered s t) (d : Int) (x : Nat) : Steered s (Machine.stepRim d x t) :=
  realign (t := { t with time := { t.time with lag := _ } }) (h.same (by rfl)) x

theorem skipSecond (h : Steered s t) (d : Int) : Steered s (Machine.skipSecond d t) := h.same rfl

theorem stepMade (h : Steered s t) (host : Bool) (d : Int) : Steered s (Machine.stepMade host d t) := by
  have hrim := h.forAll (List.range' 50 8) fun x u hu => stepRim hu d x
  exact forAll (raise (bump (hrim.skipSecond d) (by decide)) 101 (stepDetail host d)) _ fun g u hu =>
    gateFollow (ite (hu.raise _ _) hu) g

theorem reacquired (h : Steered s t) : Steered s (Machine.reacquired t) := by
  unfold Machine.reacquired
  exact ite (setStatus (h.same (by rfl)) 1 (by decide)) h

theorem lockCounted (h : Steered s t) (good : Nat) : Steered s (Machine.lockCounted good t) := h.same rfl

theorem lockEnded (h : Steered s t) : Steered s (Machine.lockEnded t) :=
  setStatus (raiseN (bump (h.lockCounted 0) (by decide)) _) 1 (by decide)

theorem lockJudged (h : Steered s t) (st : Nat) (o : Int) (good : Nat) : Steered s (Machine.lockJudged st o good t) := by
  unfold Machine.lockJudged
  split
  · exact ite h.lockEnded h
  · exact ite (h.setStatus 2 (by decide)) h

theorem lockFollow (h : Steered s t) (o : Int) : Steered s (Machine.lockFollow o t) := by
  rw [lockFollow_eq]
  exact (h.reacquired.lockCounted _).lockJudged _ o _

theorem noteFreq (h : Steered s t) : Steered s (Machine.noteFreq t) := by
  unfold Machine.noteFreq
  exact ite (h.same (by rfl)) h

end Steered

/-! ### What the servo writes first -/

/-- The offset, the delay and the depth of the source are shown, SRC_VALID is set and the offsets are counted. -/
def offsetShown (o : Int) (delay depth : Nat) (s : State) : State :=
  let s := setReg R.TIME_OFFSET (BitVec.ofInt 32 (clampI (-2147483648) 2147483647 o)) s
  let s := setReg R.TIME_SRC_DELAY (BitVec.ofNat 32 delay) s
  let s := setF fDepth (min 15 depth) (setF fTimeSrcValid 1 s)
  setF ⟨R.TIME_STATUS, 16, 16⟩ (getF s ⟨R.TIME_STATUS, 16, 16⟩ + 1) s

/-- The servo's answer to an offset: a step of Plumb where steps are allowed and the offset is large, else FREQ_ADJ. -/
def steer (o : Int) (s : State) : State :=
  if bit s ⟨R.TIME_CTRL, 8, 1⟩ ∧ getF s ⟨R.TIME_STEP_THRESH, 0, 30⟩ * 65536 < o.natAbs then
    stepMade false (-o) (stepPlumb (-o) (accrueAll { s with time := { s.time with integ := 0 } }))
  else
    let i := s.time.integ + (reg s R.TIME_KI).toNat * o
    let q := quotInt ((reg s R.TIME_KP).toNat * o + i) 16777216 { s with time := { s.time with integ := i } }
    setFreq (-q.1) q.2

theorem servo_eq (o : Int) (delay depth : Nat) (s : State) :
    servo o delay depth s = noteFreq (lockFollow o (steer o (offsetShown o delay depth s))) := rfl

theorem Steered.stepPlumb (h : Steered s t) (d : Int) : Steered s (Machine.stepPlumb d t) := h.same rfl

theorem Steered.accrueAll (h : Steered s t) : Steered s (Machine.accrueAll t) := h.same (accrueAll_regs t)

theorem Steered.steer (h : Steered s t) (o : Int) : Steered s (Machine.steer o t) := by
  unfold Machine.steer
  dsimp only
  refine ite (.stepMade (.stepPlumb (.accrueAll ?_) (-o)) false (-o)) (.setFreq (.quotInt ?_ _ _) _)
  · exact h.same rfl
  · exact h.same rfl

/-- After that the servo steers Plumb. -/
theorem steered_servo (o : Int) (delay depth : Nat) (s : State) :
    Steered (offsetShown o delay depth s) (servo o delay depth s) := by
  rw [servo_eq]
  exact .noteFreq (.lockFollow (.steer (.refl _) o) o)

/-- The registers of the TIME page beside those that show the source. -/
theorem reg_offsetShown (o : Int) (delay depth : Nat) (s : State)
    (hk : k ∉ [R.TIME_OFFSET, R.TIME_SRC_DELAY, R.TIME_STATUS]) : reg (offsetShown o delay depth s) k = reg s k := by
  simp only [List.mem_cons, List.not_mem_nil, or_false, not_or] at hk
  obtain ⟨hoffset, hdelay, hstatus⟩ := hk
  unfold offsetShown
  dsimp only
  rw [reg_setF_ne _ _ hstatus, reg_setF_ne _ _ hstatus, reg_setF_ne _ _ hstatus, reg_setReg_ne _ _ hdelay,
    reg_setReg_ne _ _ hoffset]

/-- The servo leaves a register of the TIME page that shows neither the source nor its own steering. -/
theorem reg_servo (o : Int) (delay depth : Nat) (s : State) (hpage : k / 0x1000 = 6)
    (hk : k ∉ [R.TIME_OFFSET, R.TIME_SRC_DELAY, R.TIME_STATUS, R.TIME_FREQ_ADJ, R.TIME_STEPS, R.TIME_LOCK_LOSSES]) :
    reg (servo o delay depth s) k = reg s k := by
  simp only [List.mem_cons, List.not_mem_nil, or_false, not_or] at hk
  obtain ⟨hoffset, hdelay, hstatus, hfreq, hsteps, hlosses⟩ := hk
  rw [(steered_servo o delay depth s).reg_eq ⟨hpage, by simp [hfreq, hsteps, hlosses], fun e => absurd e hstatus⟩]
  exact reg_offsetShown o delay depth s (by simp [hoffset, hdelay, hstatus])

end Sys2Proof.Machine

/-! ## Points of time in registers: TIME_SNAP and PPS_IN (R192, R208) -/

namespace Sys2Proof.Machine

variable {s t u : State} {k : Nat}

/-! ### A point of time in four registers -/

/-- The fraction, the nanoseconds and the two words of seconds of `p` in the registers `key 0` to `key 3`. -/
def stamped (key : Nat → Nat) (p : Plumb) (s : State) : State :=
  forAll [(0, p.frac), (1, p.ns), (2, p.sec), (3, p.sec / 2 ^ 32)] (fun x s => setReg (key x.1) (BitVec.ofNat 32 x.2) s) s

theorem onlyRegs_stamped (h : OnlyRegs s t) (key : Nat → Nat) (p : Plumb) : OnlyRegs s (stamped key p t) :=
  onlyRegs_setReg (onlyRegs_setReg (onlyRegs_setReg (onlyRegs_setReg h _ _) _ _) _ _) _ _

theorem stamped_regsBut (key : Nat → Nat) (p : Plumb) (s : State) :
    RegsBut [key 0, key 1, key 2, key 3] s (stamped key p s) :=
  ((((regsBut_refl _ s).setReg _ (by simp)).setReg _ (by simp)).setReg _ (by simp)).setReg _ (by simp)

/-- What four registers in a row read after it. -/
theorem stamped_shows {key : Nat → Nat} (hkey : ∀ i, key i = key 0 + i * 4) (p : Plumb) (s : State) :
    reg (stamped key p s) (key 0) = BitVec.ofNat 32 p.frac ∧ reg (stamped key p s) (key 1) = BitVec.ofNat 32 p.ns ∧
      reg (stamped key p s) (key 2) = BitVec.ofNat 32 p.sec ∧
      reg (stamped key p s) (key 3) = BitVec.ofNat 32 (p.sec / 2 ^ 32) := by
  have hne {i j : Nat} (h : i ≠ j) : key i ≠ key j := by rw [hkey i, hkey j]; omega
  simp only [stamped, forAll_cons, forAll_nil]
  refine ⟨?_, ?_, ?_, reg_setReg_same _ _ _⟩
  · rw [reg_setReg_ne _ _ (hne (by decide)), reg_setReg_ne _ _ (hne (by decide)), reg_setReg_ne _ _ (hne (by decide)),
      reg_setReg_same]
  · rw [reg_setReg_ne _ _ (hne (by decide)), reg_setReg_ne _ _ (hne (by decide)), reg_setReg_same]
  · rw [reg_setReg_ne _ _ (hne (by decide)), reg_setReg_same]

/-! ### TIME_SNAP (R192) -/

theorem exec_timeSnap (s : State) : exec .timeSnap s = hub s (fun s => stamped R.TIME_SNAP_FRAC s.plumb s) := rfl

theorem answers_timeSnap (h : Runs s) :
    Answers .timeSnap s (fun t =>
      reg t (R.TIME_SNAP_FRAC 0) = BitVec.ofNat 32 s.plumb.frac ∧
      reg t (R.TIME_SNAP_FRAC 1) = BitVec.ofNat 32 s.plumb.ns ∧
      reg t (R.TIME_SNAP_FRAC 2) = BitVec.ofNat 32 s.plumb.sec ∧
      reg t (R.TIME_SNAP_FRAC 3) = BitVec.ofNat 32 (s.plumb.sec / 2 ^ 32) ∧
      RegsBut [R.TIME_SNAP_FRAC 0, R.TIME_SNAP_FRAC 1, R.TIME_SNAP_FRAC 2, R.TIME_SNAP_FRAC 3] s t ∧ OnlyRegs s t ∧
      t.out = []) := by
  obtain ⟨hfrac, hns, hlo, hhi⟩ := stamped_shows (key := R.TIME_SNAP_FRAC) (fun i => by unfold R.TIME_SNAP_FRAC; omega)
    s.plumb (clearOut s)
  exact answers_hub_eq (exec_timeSnap s) h rfl rfl rfl
    ⟨hfrac, hns, hlo, hhi, stamped_regsBut _ _ (clearOut s), onlyRegs_stamped (onlyRegs_clearOut s) _ _, rfl⟩

/-! ### PPS_IN (R208) -/

/-- The offset of a pulse of `p` from the whole second that is nearest to it, in 2^−16 ns (R196). -/
def pulseOffset (p : Plumb) : Int := (p.ns * 65536 + p.frac : Nat) - (if 500000000 ≤ p.ns then (secFine : Int) else 0)

/-- What an edge of the selected polarity does. -/
def ppsTaken (p : Plumb) (s : State) : State :=
  if timeSrc (stamped R.TIME_PPS_IN_FRAC p s) = .pps then servo (pulseOffset p) 0 1 (stamped R.TIME_PPS_IN_FRAC p s)
  else stamped R.TIME_PPS_IN_FRAC p s

theorem exec_ppsInEdge (e : Timed Bool) (s : State) : exec (.ppsInEdge e) s = hub s (fun s =>
    if bit s ⟨R.TIME_PPS_CTRL, 2, 1⟩ ∧ bit s ⟨R.TIME_PPS_CTRL, 3, 1⟩ = e.val then ppsTaken (pinStamp e.phase s) s
    else s) := rfl

theorem ppsInFrac_key (i : Nat) : R.TIME_PPS_IN_FRAC i = R.TIME_PPS_IN_FRAC 0 + i * 4 := by
  unfold R.TIME_PPS_IN_FRAC
  omega

/-- The servo leaves the stamp of a pulse. -/
theorem reg_ppsTaken {i : Nat} (hi : i < 4) (p : Plumb) (s : State) :
    reg (ppsTaken p s) (R.TIME_PPS_IN_FRAC i) = reg (stamped R.TIME_PPS_IN_FRAC p s) (R.TIME_PPS_IN_FRAC i) := by
  unfold ppsTaken
  split
  · refine reg_servo _ _ _ _ ?_ ?_
    · unfold R.TIME_PPS_IN_FRAC
      omega
    · simp only [List.mem_cons, List.not_mem_nil, or_false, R.TIME_PPS_IN_FRAC, R.TIME_OFFSET, R.TIME_SRC_DELAY, R.TIME_STATUS,
        R.TIME_FREQ_ADJ, R.TIME_STEPS, R.TIME_LOCK_LOSSES]
      omega
  · rfl

/-- PPS_IN_EDGE of the selected polarity: the stamp, whatever the source. -/
theorem answers_ppsInEdge {falling : Bool} {phase : Fin 8} {p : Plumb} (h : Runs s)
    (hen : bit s ⟨R.TIME_PPS_CTRL, 2, 1⟩ = true) (hpol : bit s ⟨R.TIME_PPS_CTRL, 3, 1⟩ = falling) (hp : p = pinStamp phase s) :
    Answers (.ppsInEdge ⟨falling, phase⟩) s (fun t =>
      reg t (R.TIME_PPS_IN_FRAC 0) = BitVec.ofNat 32 p.frac ∧ reg t (R.TIME_PPS_IN_FRAC 1) = BitVec.ofNat 32 p.ns ∧
      reg t (R.TIME_PPS_IN_FRAC 2) = BitVec.ofNat 32 p.sec ∧
      reg t (R.TIME_PPS_IN_FRAC 3) = BitVec.ofNat 32 (p.sec / 2 ^ 32)) := by
  subst hp
  refine answers_hub (exec_ppsInEdge ⟨falling, phase⟩ s) h ?_
  dsimp only
  rw [if_pos (show bit (clearOut s) _ = true ∧ bit (clearOut s) _ = falling from ⟨hen, hpol⟩)]
  simp only [reg_kept]
  rw [reg_ppsTaken (by decide), reg_ppsTaken (by decide), reg_ppsTaken (by decide), reg_ppsTaken (by decide)]
  exact stamped_shows ppsInFrac_key _ (clearOut s)

/-- PPS_IN_EDGE with IN_EN 0, or of the other polarity. -/
theorem answers_ppsInEdge_ignored {falling : Bool} {phase : Fin 8} (h : Runs s)
    (hoff : bit s ⟨R.TIME_PPS_CTRL, 2, 1⟩ = false ∨ bit s ⟨R.TIME_PPS_CTRL, 3, 1⟩ ≠ falling) :
    Answers (.ppsInEdge ⟨falling, phase⟩) s (fun t => t = { s with out := [] }) := by
  have hnot : ¬ (bit (clearOut s) ⟨R.TIME_PPS_CTRL, 2, 1⟩ = true ∧ bit (clearOut s) ⟨R.TIME_PPS_CTRL, 3, 1⟩ = falling) := by
    rintro ⟨hen, hpol⟩
    exact hoff.elim (fun h0 => Bool.false_ne_true (h0.symm.trans hen)) (absurd hpol)
  exact answers_hub_eq (exec_ppsInEdge ⟨falling, phase⟩ s) h (if_neg hnot) rfl rfl rfl

/-- Settles O53: an edge is stamped before the source is asked, and the servo leaves the stamp. -/
theorem ppsInEdgesAreStamped : Obligations.PpsInEdgesAreStamped := by
  unfold Obligations.PpsInEdgesAreStamped
  exact ⟨fun _ _ _ _ h hen hpol hp => answers_ppsInEdge h hen hpol hp, fun _ _ _ h hoff => answers_ppsInEdge_ignored h hoff⟩

end Sys2Proof.Machine

/-! ## Peer delay, the message port, pulse per second and the event pins (R201, R204, R206–R209) -/

namespace Sys2Proof.Machine

variable {s t u : State} {k j : Nat} {ks : List Nat}

/-! ### 64-bit counters -/

/-- A 64-bit counter that rises by one, wrapping (R419). -/
theorem cnt64_bump64 (k : Nat) (s : State) : cnt64 (bump64 k s) k = (cnt64 s k + 1) % 2 ^ 64 := by
  unfold bump64 addCnt64
  dsimp only
  generalize cnt64 s k + 1 = n
  rw [cnt64, reg_setReg_same, reg_setReg_ne _ _ (show k ≠ k + 4 by omega), reg_setReg_same, BitVec.toNat_ofNat, BitVec.toNat_ofNat]
  omega

theorem cnt64_congr (h : reg t k = reg s k) (h' : reg t (k + 4) = reg s (k + 4)) : cnt64 t k = cnt64 s k := by
  rw [cnt64, cnt64, h, h']

/-- A 64-bit counter that no change of a list of registers touches. -/
theorem RegsBut.cnt64_eq (h : RegsBut ks s t) (hk : k ∉ ks) (hk' : k + 4 ∉ ks) : cnt64 t k = cnt64 s k :=
  cnt64_congr (h k hk) (h (k + 4) hk')

theorem RegsBut.bump64 (h : RegsBut ks s t) (hk : k ∈ ks) (hk' : k + 4 ∈ ks) : RegsBut ks s (Machine.bump64 k t) :=
  RegsBut.setReg (h.setReg _ hk) _ hk'

/-! ### What the tables of the MACs and the pins read -/

@[simp] theorem macGet_macSet_same (k : Nat) (m : Mac) (s : State) : macGet (macSet k m s) k = m := smGet_smSet_same _ _ _
@[simp] theorem reg_macSet (k : Nat) (m : Mac) (s : State) (j : Nat) : reg (macSet k m s) j = reg s j := rfl
@[simp] theorem pinGet_pinSet_same (k : Nat) (p : EvtPin) (s : State) : pinGet (pinSet k p s) k = p := smGet_smSet_same _ _ _
@[simp] theorem reg_pinSet (k : Nat) (p : EvtPin) (s : State) (j : Nat) : reg (pinSet k p s) j = reg s j := rfl

/-! ### Peer delay (R201, R204) -/

/-- The next Pdelay_Req of a MAC, sent at `tx`. -/
def pdelayAsked (tx : Plumb) (m : Mac) : Mac :=
  { m with pdelaySeq := (m.pdelaySeq + 1) % 65536, pdelay := some ((m.pdelaySeq + 1) % 65536, fineOf tx) }

theorem exec_pdelayReqTimer (k : Fin 4) (phase : Fin 8) (s : State) : exec (.pdelayReqTimer ⟨k, phase⟩) s = hub s (fun s =>
    if bit s (fMacEn k) ∧ bit s ⟨R.MAC_CTRL k, 4, 1⟩ ∧ bit s (fMacLink k) then
      emit (.pdelayReq k (((macGet s k).pdelaySeq + 1) % 65536) (portIdentity s k)) (bump (R.MAC_PDELAY_TX k)
        (macSet k (pdelayAsked (stampAt 56 phase s) (macGet s k)) s))
    else s) := rfl

theorem answers_pdelayReqTimer {k : Fin 4} {phase : Fin 8} (h : Runs s) (hen : bit s (fMacEn k) = true)
    (hpd : bit s ⟨R.MAC_CTRL k, 4, 1⟩ = true) (hlink : bit s (fMacLink k) = true) :
    Answers (.pdelayReqTimer ⟨k, phase⟩) s (fun t =>
      t.out = [.pdelayReq k (((macGet s k).pdelaySeq + 1) % 65536) (portIdentity s k)] ∧
      macGet t k = { macGet s k with pdelaySeq := ((macGet s k).pdelaySeq + 1) % 65536, pdelay := some (((macGet s k).pdelaySeq + 1) % 65536, fineOf (stampAt 56 phase s)) } ∧
      reg t (R.MAC_PDELAY_TX k) = reg s (R.MAC_PDELAY_TX k) + 1 ∧ RegsBut [R.MAC_PDELAY_TX k] s t ∧
      t = { s with regs := t.regs, mac := t.mac, out := t.out }) := by
  refine answers_hub_eq (exec_pdelayReqTimer k phase s) h (if_pos ⟨hen, hpd, hlink⟩) rfl rfl ?_
  refine ⟨rfl, macGet_macSet_same _ _ _, reg_bump_same _ _, ?_, rfl⟩
  exact (regsBut_refl _ s).bump (by simp)

theorem exec_pdelayReqReceived (k : Fin 4) (req : PdelayReq) (turnaround : Word) (s : State) :
    exec (.pdelayReqReceived k req turnaround) s = execPdelayReqReceived k req turnaround s := rfl

theorem answers_pdelayReqReceived {k : Fin 4} {seq : BitVec 16} {turnaround : Word} {port : BitVec 80} (h : Runs s)
    (hen : bit s (fMacEn k) = true) (hpd : bit s ⟨R.MAC_CTRL k, 4, 1⟩ = true) :
    Answers (.pdelayReqReceived k ⟨seq, port⟩ turnaround) s (fun t =>
      t.out = [.pdelayResp k seq.toNat turnaround.toNat (portIdentity s k) (bytesBE 10 port.toNat)] ∧
      reg t (R.MAC_PDELAY_RX k) = reg s (R.MAC_PDELAY_RX k) + 1 ∧
      reg t (R.MAC_PDELAY_TX k) = reg s (R.MAC_PDELAY_TX k) + 1 ∧
      RegsBut [R.MAC_PDELAY_RX k, R.MAC_PDELAY_TX k] s t ∧ OnlyRegs s t) := by
  have hne : R.MAC_PDELAY_TX k ≠ R.MAC_PDELAY_RX k := by unfold R.MAC_PDELAY_TX R.MAC_PDELAY_RX; omega
  refine answers_hub_eq (exec_pdelayReqReceived k _ turnaround s) h (if_pos ⟨hen, hpd⟩) rfl rfl ?_
  refine ⟨rfl, ?_, ?_, ?_, rfl⟩
  · rw [reg_emit, reg_bump _ _ hne.symm, reg_bump_same]
    rfl
  · rw [reg_emit, reg_bump_same, reg_bump _ _ hne]
    rfl
  · exact RegsBut.bump ((regsBut_refl _ s).bump (by simp)) (by simp)

/-- The delay of a MAC's link is shown, and the request is over. -/
def pdelayMeasured (k : Nat) (d : Int) (s : State) : State :=
  bump (R.MAC_PDELAY_RX k) (setF ⟨R.MAC_STATUS k, 4, 1⟩ 1
    (setReg (R.MAC_PDELAY k) (BitVec.ofInt 32 d) (macSet k { macGet s k with pdelay := none } s)))

theorem exec_pdelayRespReceived (k : Fin 4) (seq : Timed (BitVec 16)) (turnaround : BitVec 48) (s : State) :
    exec (.pdelayRespReceived k seq turnaround) s = execPdelayRespReceived k seq turnaround s := rfl

theorem exec_pdelayRespReceived_awaited {k : Fin 4} {seq : BitVec 16} {phase : Fin 8} {t1 : Nat}
    (hpd : bit s ⟨R.MAC_CTRL k, 4, 1⟩ = true) (hreq : (macGet s k).pdelay = some (seq.toNat, t1)) (turnaround : BitVec 48) :
    exec (.pdelayRespReceived k ⟨seq, phase⟩ turnaround) s =
      hub s (pdelayMeasured k ((((fineOf (stampAt 56 phase s) : Int) - t1) - turnaround.toNat) / 2)) := by
  rw [exec_pdelayRespReceived]
  refine hub_congr ?_
  have hreq' : (macGet (clearOut s) k).pdelay = some (seq.toNat, t1) := hreq
  dsimp only
  rw [hreq']
  exact if_pos ⟨rfl, hpd⟩

theorem answers_pdelayRespReceived {k : Fin 4} {seq : BitVec 16} {turnaround : BitVec 48} {phase : Fin 8} {t1 : Nat} (h : Runs s)
    (hpd : bit s ⟨R.MAC_CTRL k, 4, 1⟩ = true) (hreq : (macGet s k).pdelay = some (seq.toNat, t1)) :
    Answers (.pdelayRespReceived k ⟨seq, phase⟩ turnaround) s (fun t =>
      reg t (R.MAC_PDELAY k) = BitVec.ofInt 32 ((((fineOf (stampAt 56 phase s) : Int) - t1) - turnaround.toNat) / 2) ∧
      bit t ⟨R.MAC_STATUS k, 4, 1⟩ = true ∧ (macGet t k).pdelay = none ∧
      reg t (R.MAC_PDELAY_RX k) = reg s (R.MAC_PDELAY_RX k) + 1 ∧
      RegsBut [R.MAC_PDELAY k, R.MAC_STATUS k, R.MAC_PDELAY_RX k] s t ∧
      t = { s with regs := t.regs, mac := t.mac, out := [] }) := by
  have hsp : R.MAC_PDELAY k ≠ R.MAC_STATUS k := by unfold R.MAC_PDELAY R.MAC_STATUS; omega
  have hrp : R.MAC_PDELAY_RX k ≠ R.MAC_PDELAY k := by unfold R.MAC_PDELAY_RX R.MAC_PDELAY; omega
  have hrs : R.MAC_PDELAY_RX k ≠ R.MAC_STATUS k := by unfold R.MAC_PDELAY_RX R.MAC_STATUS; omega
  refine answers_hub_eq (exec_pdelayRespReceived_awaited hpd hreq turnaround) h rfl rfl rfl ?_
  unfold pdelayMeasured
  refine ⟨?_, ?_, ?_, ?_, ?_, rfl⟩
  · rw [reg_bump _ _ hrp.symm, reg_setF_ne _ _ hsp, reg_setReg_same]
  · rw [bit, getF_bump _ _ hrs.symm]
    exact bit_setF_one _ _ _ (by decide)
  · exact congrArg Mac.pdelay (macGet_macSet_same k _ _)
  · rw [reg_bump_same, reg_setF_ne _ _ hrs, reg_setReg_ne _ _ hrp]
    rfl
  · exact RegsBut.bump (RegsBut.setF ((regsBut_refl _ s).setReg _ (by simp)) _ (by simp)) (by simp)

theorem exec_twoStepEntryExpiry (k : Fin 4) (egress : Bool) (s : State) :
    exec (.twoStepEntryExpiry k egress) s = execTwoStepEntryExpiry k egress s := rfl

theorem answers_twoStepEntryExpiry {k : Fin 4} {egress : Bool} (h : Runs s) :
    Answers (.twoStepEntryExpiry k egress) s (fun t =>
      (macGet t k).egress = (if egress then (macGet s k).egress.tail else (macGet s k).egress) ∧
      (macGet t k).origin = (if egress then (macGet s k).origin else (macGet s k).origin.tail) ∧
      t = { s with mac := t.mac, out := [] }) := by
  refine answers_hub_eq (exec_twoStepEntryExpiry k egress s) h rfl rfl rfl ?_
  rw [macGet_macSet_same]
  cases egress <;> exact ⟨rfl, rfl, rfl⟩

/-! ### The message port (R206) -/

/-- The words that a frame puts in the buffer. -/
def msgWords (tag : Byte) (stamp : Option (BitVec 48 × BitVec 32)) (data : List Byte) : List Word :=
  let st : List Word := match stamp with
    | some (sec, ns) => [ns, sec.setWidth 32, BitVec.ofNat 32 (sec.toNat / 2 ^ 32)]
    | none => []
  BitVec.ofNat 32 (data.length % 65536 + tag.toNat * 65536 + (if stamp.isSome then 2 ^ 24 else 0)) :: st ++ wordsOf data

theorem msgWords_none (tag : Byte) (data : List Byte) :
    msgWords tag none data = BitVec.ofNat 32 (data.length % 65536 + tag.toNat * 65536) :: wordsOf data := by
  simp [msgWords]

/-- The words wait to be read. -/
def msgPut (ws : List Word) (s : State) : State :=
  setF ⟨R.TIME_MSG_STATUS, 0, 1⟩ 1 { s with time := { s.time with msgRx := s.time.msgRx ++ ws } }

theorem exec_msgPortDelivery (tag : Byte) (stamp : Option (BitVec 48 × BitVec 32)) (data : List Byte) (s : State) :
    exec (.msgPortDelivery tag stamp data) s = hub s (fun s =>
      if 1024 < s.time.msgRx.length + (msgWords tag stamp data).length then raiseN 107 (bump R.TIME_MSG_RX_DROPS s)
      else msgPut (msgWords tag stamp data) s) := rfl

theorem answers_msgPortDelivery {tag : Byte} {data : List Byte} (h : Runs s)
    (hroom : s.time.msgRx.length + 1 + (wordsOf data).length ≤ 1024) :
    Answers (.msgPortDelivery tag none data) s (fun t =>
      t.time.msgRx = s.time.msgRx ++ BitVec.ofNat 32 (data.length % 65536 + tag.toNat * 65536) :: wordsOf data ∧
      bit t ⟨R.TIME_MSG_STATUS, 0, 1⟩ = true ∧ RegsBut [R.TIME_MSG_STATUS] s t ∧
      t = { s with regs := t.regs, time := t.time, out := [] }) := by
  have hfits : ¬ 1024 < (clearOut s).time.msgRx.length + (msgWords tag none data).length := by
    rw [clearOut_time, msgWords_none, List.length_cons]
    omega
  rw [← msgWords_none]
  exact answers_hub_eq (exec_msgPortDelivery tag none data s) h (if_neg hfits) rfl rfl
    ⟨rfl, bit_setF_one _ _ _ (by decide), (regsBut_refl _ s).setF _, rfl⟩

/-- The first word has been read. -/
def msgTaken (ws : List Word) (s : State) : State :=
  setF ⟨R.TIME_MSG_STATUS, 0, 1⟩ (if ws.isEmpty then 0 else 1) { s with time := { s.time with msgRx := ws } }

theorem msgRxPop_cons {w : Word} {ws : List Word} (h : s.time.msgRx = w :: ws) : msgRxPop s = (w, msgTaken ws s) := by
  unfold msgRxPop
  rw [h]
  rfl

theorem exec_msgRxRead (s : State) : exec .msgRxRead s = hub s (fun s => emit (.readData (msgRxPop s).1) (msgRxPop s).2) := rfl

theorem answers_msgRxRead {w : Word} {ws : List Word} (h : Runs s) (hrx : s.time.msgRx = w :: ws) :
    Answers .msgRxRead s (fun t =>
      t.out = [.readData w] ∧ t.time.msgRx = ws ∧ bit t ⟨R.TIME_MSG_STATUS, 0, 1⟩ = !ws.isEmpty ∧
      RegsBut [R.TIME_MSG_STATUS] s t ∧ t = { s with regs := t.regs, time := t.time, out := t.out }) := by
  have hpop := msgRxPop_cons (s := clearOut s) hrx
  refine answers_hub_eq (exec_msgRxRead s) h (t := emit (.readData w) (msgTaken ws (clearOut s))) (by rw [hpop]) rfl rfl ?_
  refine ⟨rfl, rfl, ?_, ((regsBut_refl _ s).setF _ : RegsBut _ s (msgTaken ws (clearOut s))), rfl⟩
  cases ws with
  | nil => exact bit_setF_zero _ _ _ (by decide)
  | cons => exact bit_setF_one _ _ _ (by decide)

theorem exec_msgTxGo (tag : Byte) (len : BitVec 16) (s : State) :
    exec (.msgTxGo tag len) s = hub s (msgTxGo (tag.toNat + len.toNat * 256)) := rfl

/-- The staged words have gone to M12 as one frame. -/
def msgSent (f : InFrame) (s : State) : State := msgFree (offerFrame 12 f { s with time := { s.time with msgTx := [] } })

theorem answers_msgTxGo {tag : Byte} {len : BitVec 16} (h : Runs s) :
    Answers (.msgTxGo tag len) s (fun t =>
      inqGet t 12 = inqGet s 12 ++ [{ tag := tag.toNat, data := ((s.time.msgTx.map (fun w => bytesLE 4 w.toNat)).flatten).take len.toNat }] ∧
      t.time.msgTx = [] ∧ getF t ⟨R.TIME_MSG_STATUS, 16, 12⟩ = 4092 ∧ RegsBut [R.TIME_MSG_STATUS] s t ∧
      t = { s with regs := t.regs, inq := t.inq, time := t.time, out := [] }) := by
  have htag : bits (tag.toNat + len.toNat * 256) 0 8 = tag.toNat := by
    have := tag.isLt
    simp only [bits]
    omega
  have hlen : bits (tag.toNat + len.toNat * 256) 8 16 = len.toNat := by
    have := tag.isLt
    have := len.isLt
    simp only [bits]
    omega
  refine answers_hub_eq (exec_msgTxGo tag len s) h (t := msgSent { tag := tag.toNat, data :=
    (((s.time.msgTx.map (fun w => bytesLE 4 w.toNat)).flatten).take len.toNat) } (clearOut s)) ?_ rfl rfl ?_
  · rw [msgTxGo, htag, hlen]
    rfl
  · exact ⟨smGet_smSet_same _ _ _, rfl, getF_setF_same _ _ _ (by decide), (regsBut_refl _ s).setF _, rfl⟩

/-! ### Pulse per second (R207, R208) -/

theorem exec_ppsOutEdge (s : State) : exec .ppsOutEdge s = execPpsOutEdge s := rfl

theorem answers_ppsOutEdge {edge : Nat} (h : Runs s) (hrun : ppsRuns s = true) (hedge : edge = secondOf s (fineOf s.plumb))
    (hskip : s.time.ppsSkip ≠ edge) (hsent : s.time.ppsSent.all (fun r => !decide (r.1 ≤ edge ∧ edge ≤ r.2)) = true) :
    Answers .ppsOutEdge s (fun t =>
      t = { s with time := { s.time with ppsSent := runsAdd edge s.time.ppsSent }, out := [.ppsOut (clampN 1 500 (getF s ⟨R.TIME_PPS_CTRL, 16, 9⟩))] }) := by
  subst hedge
  have hdue : (ppsRuns (clearOut s) && (clearOut s).time.ppsSkip != secondOf (clearOut s) (fineOf (clearOut s).plumb) &&
      !(clearOut s).time.ppsSent.any (fun r => decide (r.1 ≤ secondOf (clearOut s) (fineOf (clearOut s).plumb) ∧
        secondOf (clearOut s) (fineOf (clearOut s).plumb) ≤ r.2))) = true := by
    rw [List.not_any_eq_all_not, Bool.and_eq_true, Bool.and_eq_true, bne_iff_ne]
    exact ⟨⟨hrun, hskip⟩, hsent⟩
  exact answers_hub_eq (exec_ppsOutEdge s) h (if_pos hdue) rfl rfl rfl

/-- The source of Plumb is told by the mode, TIME.CTRL and the dock. -/
theorem timeSrc_congr (h : ∀ j ∈ [R.DEV_MODE, R.TIME_CTRL, R.PAIR_DOCK_CTRL, R.PAIR_DOCK_STATUS], reg t j = reg s j) :
    timeSrc t = timeSrc s := by
  have hf (f : Fld) (hk : f.key ∈ [R.DEV_MODE, R.TIME_CTRL, R.PAIR_DOCK_CTRL, R.PAIR_DOCK_STATUS]) : getF t f = getF s f :=
    getF_of_reg (h _ hk)
  have hmode : mode t = mode s := hf fCur (by decide)
  have hpair (n : Nat) : inPair t n = inPair s n := by
    rw [inPair, inPair, bit, bit, hf fDockEn (by decide), hf fPortA (by decide), hf fPortB (by decide)]
  have hfollowed : followed t = followed s := by
    rw [followed, followed, hf fFollow (by decide), hf fPortA (by decide), hf fPortB (by decide)]
  simp only [timeSrc, hmode, hpair, hfollowed, hf fSrcSel (by decide), hf fSrcPort (by decide)]

/-- PPS_IN_EDGE of the selected polarity where PPS is not the source changes nothing but the stamp. -/
theorem answers_ppsInEdge_stampOnly {falling : Bool} {phase : Fin 8} {p : Plumb} (h : Runs s)
    (hen : bit s ⟨R.TIME_PPS_CTRL, 2, 1⟩ = true) (hpol : bit s ⟨R.TIME_PPS_CTRL, 3, 1⟩ = falling) (hsrc : timeSrc s ≠ .pps)
    (hp : p = pinStamp phase s) :
    Answers (.ppsInEdge ⟨falling, phase⟩) s (fun t =>
      reg t (R.TIME_PPS_IN_FRAC 0) = BitVec.ofNat 32 p.frac ∧ reg t (R.TIME_PPS_IN_FRAC 1) = BitVec.ofNat 32 p.ns ∧
      reg t (R.TIME_PPS_IN_FRAC 2) = BitVec.ofNat 32 p.sec ∧
      reg t (R.TIME_PPS_IN_FRAC 3) = BitVec.ofNat 32 (p.sec / 2 ^ 32) ∧
      RegsBut ((List.range 4).map R.TIME_PPS_IN_FRAC) s t ∧ OnlyRegs s t ∧ t.out = []) := by
  subst hp
  have hsrc' : timeSrc (stamped R.TIME_PPS_IN_FRAC (pinStamp phase s) (clearOut s)) ≠ .pps := by
    rwa [timeSrc_congr (s := s) fun j hj => stamped_regsBut _ _ (clearOut s) j
      ((by decide : ∀ j ∈ [R.DEV_MODE, R.TIME_CTRL, R.PAIR_DOCK_CTRL, R.PAIR_DOCK_STATUS], j ∉ [R.TIME_PPS_IN_FRAC 0,
        R.TIME_PPS_IN_FRAC 1, R.TIME_PPS_IN_FRAC 2, R.TIME_PPS_IN_FRAC 3]) j hj)]
  obtain ⟨hfrac, hns, hlo, hhi⟩ := stamped_shows ppsInFrac_key (pinStamp phase s) (clearOut s)
  refine answers_hub_eq (exec_ppsInEdge ⟨falling, phase⟩ s) h ((if_pos ⟨hen, hpol⟩).trans (if_neg hsrc')) rfl rfl ?_
  exact ⟨hfrac, hns, hlo, hhi, stamped_regsBut _ _ (clearOut s), onlyRegs_stamped (onlyRegs_clearOut s) _ _, rfl⟩

end Sys2Proof.Machine

/-! ## What an event record leaves of the timebase (R351–R357)

A record may be journalled, reported to a host by MSI-X or USB, and sent as an event cell through the buffers. None of that
touches what the timebase keeps, or a register of the TIME page. -/

namespace Sys2Proof.Machine

variable {s t u : State} {k : Nat} {f : Fld}

/-- A register outside the TIME page. -/
abbrev OffTime (k : Nat) : Prop := k / 0x1000 ≠ 6

/-- The timebase of `t` is that of `s`: what it keeps, and the registers of its page. -/
structure TimeFrame (s t : State) : Prop where
  time : t.time = s.time
  page : ∀ k, k / 0x1000 = 6 → reg t k = reg s k

namespace TimeFrame

/-! ### Shared operations -/

theorem refl (s : State) : TimeFrame s s := ⟨rfl, fun _ _ => rfl⟩

theorem trans (h : TimeFrame s t) (h' : TimeFrame t u) : TimeFrame s u :=
  ⟨h'.time.trans h.time, fun k hk => (h'.page k hk).trans (h.page k hk)⟩

/-- Neither the registers nor what the timebase keeps have changed. -/
theorem same (h : TimeFrame s t) (e : (u.regs, u.time) = (t.regs, t.time)) : TimeFrame s u := by
  rw [Prod.mk.injEq] at e
  exact h.trans ⟨e.2, fun k _ => reg_congr e.1 k⟩

theorem setReg (h : TimeFrame s t) (v : Word) (hk : OffTime k) : TimeFrame s (Machine.setReg k v t) :=
  h.trans ⟨rfl, fun _ hj => reg_setReg_ne v t fun e => hk (e ▸ hj)⟩

theorem setF (h : TimeFrame s t) (v : Nat) (hk : OffTime f.key) : TimeFrame s (Machine.setF f v t) := h.setReg _ hk

theorem bump (h : TimeFrame s t) (hk : OffTime k) : TimeFrame s (Machine.bump k t) := h.setReg _ hk

theorem addCnt (h : TimeFrame s t) (n : Nat) (hk : OffTime k) : TimeFrame s (Machine.addCnt k n t) := h.setReg _ hk

theorem bump64 (h : TimeFrame s t) (hk : OffTime k) (hk' : OffTime (k + 4)) :
    TimeFrame s (Machine.bump64 k t) := (h.setReg _ hk).setReg _ hk'

theorem ite {c : Prop} [Decidable c] (ht : TimeFrame s t) (hu : TimeFrame s u) : TimeFrame s (if c then t else u) := by
  split
  · exact ht
  · exact hu

theorem forAll {α : Type} (h : TimeFrame s t) (l : List α) {f : α → State → State}
    (hf : ∀ a u, TimeFrame s u → TimeFrame s (f a u)) : TimeFrame s (Machine.forAll l f t) := forAll_keeps l f hf h

theorem raise (h : TimeFrame s t) (src d : Nat) : TimeFrame s (Machine.raise src d t) :=
  h.trans ⟨by rw [raise_frame], fun _ hj => reg_raise src d t fun e => absurd (e ▸ hj) (by decide)⟩

theorem raiseN (h : TimeFrame s t) (src : Nat) : TimeFrame s (Machine.raiseN src t) := (h.same (u := nextFree t) rfl).raise _ _

theorem limited (h : TimeFrame s t) (key period : Nat) {f : State → State}
    (hf : ∀ u, TimeFrame s u → TimeFrame s (f u)) : TimeFrame s (Machine.limited key period f t) := by
  unfold Machine.limited
  dsimp only
  exact ite (hf _ (h.same (by rfl))) h

theorem emit (h : TimeFrame s t) (o : Output) : TimeFrame s (Machine.emit o t) := h.same (by rfl)
theorem sendCtl (h : TimeFrame s t) (n : Nat) (payload : List Byte) : TimeFrame s (Machine.sendCtl n payload t) := h.same (by rfl)
theorem offerFrame (h : TimeFrame s t) (m : Nat) (f : InFrame) : TimeFrame s (Machine.offerFrame m f t) := h.same (by rfl)
theorem historyAdd (h : TimeFrame s t) (r : Record) : TimeFrame s (Machine.historyAdd r t) := h.same (by rfl)

theorem linkUse (h : TimeFrame s t) (k : Nat) : TimeFrame s (Machine.linkUse k t) := by
  refine setF (h.same (by rfl)) 0 ?_
  simp only [OffTime, R.PCIE_STATUS]
  omega

/-! ### The journal -/

theorem journalOverflow (h : TimeFrame s t) : TimeFrame s (Machine.journalOverflow t) := by
  unfold Machine.journalOverflow when
  dsimp only
  exact raise (bump (setF (setF (ite (h.same (by rfl)) (h.same (by rfl))) _ (by decide)) _ (by decide)) (by decide)) _ _

theorem sendRecord (h : TimeFrame s t) (r : JRec) : TimeFrame s (Machine.sendRecord r t) :=
  sendCtl (bump64 (setReg h _ (by decide)) (by decide) (by decide)) _ _

theorem journal (h : TimeFrame s t) (type : Nat) (body : List Byte) (last : Bool) :
    TimeFrame s (Machine.journal type body last t) := by
  unfold Machine.journal
  dsimp only
  split
  · exact ite h.journalOverflow
      (ite (sendRecord (setF (h.same (by rfl)) _ (by decide)) _) (setF (h.same (by rfl)) _ (by decide)))
  · exact h

/-! ### Placing the cells of a control frame -/

theorem noteFill (h : TimeFrame s t) (q : Nat) : TimeFrame s (Machine.noteFill q t) := by
  unfold Machine.noteFill
  split
  · exact ite h (h.same (by rfl))
  · exact h.same (by rfl)

theorem dropCandidate (h : TimeFrame s t) (i : Nat) : TimeFrame s (Machine.dropCandidate i t) := by
  unfold Machine.dropCandidate unhold
  refine forAll (forAll h _ fun m u hu => ?_) _ fun g u hu => ?_
  · exact ite (hu.same (by rfl)) hu
  · exact ite (hu.same (by rfl)) hu

theorem accrue (h : TimeFrame s t) (m : Nat) : TimeFrame s (Machine.accrue m t) := by
  unfold Machine.accrue
  dsimp only
  refine same (t := Machine.forAll _ _ t) (forAll h _ fun p u hu => ite ?_ ?_) rfl
  · exact hu.same (by rfl)
  · exact hu.same (by rfl)

theorem removeLast (h : TimeFrame s t) (i k : Nat) : TimeFrame s (Machine.removeLast i k t) := by
  unfold Machine.removeLast
  dsimp only
  refine noteFill ?_ i
  split
  · exact ite (dropCandidate (h.same (by rfl)) i) (h.same (by rfl))
  · exact ite (dropCandidate (h.same (by rfl)) i) (h.same (by rfl))

theorem injected (h : TimeFrame s t) (page chk writes : Nat) (hp : page ≠ 6) :
    TimeFrame s (Machine.injected page chk writes t) := by
  unfold Machine.injected
  dsimp only
  have hc : TimeFrame s (Machine.addCnt R.FLT_FI_INJECTIONS (min (natGet t.fi page) writes)
      { t with fi := natSet t.fi page (natGet t.fi page - min (natGet t.fi page) writes) }) :=
    addCnt (h.same (by rfl)) _ (by decide)
  refine ite (ite (hc.setF _ ?_) hc) h
  simp only
  omega

theorem storeCells (h : TimeFrame s t) (cs : List QCell) : TimeFrame s (Machine.storeCells cs t).2 := by
  induction cs generalizing t with
  | nil => exact h
  | cons c cs ih => exact ih ((h.injected 0x52 0 8 (by decide)).injected 0x52 2 1 (by decide))

theorem storeLines (h : TimeFrame s t) (cs : List QCell) : TimeFrame s (Machine.storeLines cs t).2 := by
  induction cs generalizing t with
  | nil => exact h
  | cons c cs ih => exact ih (h.injected 0x53 0 8 (by decide))

theorem writeStaging (h : TimeFrame s t) (q : Nat) : TimeFrame s (Machine.writeStaging q t) := by
  unfold Machine.writeStaging
  dsimp only
  exact ite (same (h.storeLines _) rfl) h

theorem tailDrop (h : TimeFrame s t) (q flag : Nat) : TimeFrame s (Machine.tailDrop q flag t) := by
  refine limited (bump64 (h.bump ?_) (by decide) (by decide)) _ _ fun _ hu => hu.raise _ _
  unfold regKey R.BUF_QDROPS
  omega

theorem placeTail (h : TimeFrame s t) (q : Nat) (c : QCell) : TimeFrame s (Machine.placeTail q c t).2 := by
  unfold Machine.placeTail
  dsimp only
  have hw := h.writeStaging q
  split
  · exact tailDrop (hw.bump (by decide)) _ _
  · exact noteFill (writeStaging (bump64 (hw.same (by rfl)) (by decide) (by decide)) q) q

theorem placeOnchip (h : TimeFrame s t) (q : Nat) (c : QCell) : TimeFrame s (Machine.placeOnchip q c t) :=
  same (storeCells (h.injected 0x52 1 1 (by decide)) [c]) rfl

theorem place (h : TimeFrame s t) (q arr : Nat) (lead : Bool) (c : QCell) : TimeFrame s (Machine.place q arr lead c t).2 := by
  unfold Machine.place
  dsimp only
  split
  · exact h.tailDrop _ _
  split
  · exact h.placeOnchip _ _
  split
  · exact h.placeTail _ _
  split
  · exact h.placeOnchip _ _
  split
  · split
    · exact tailDrop (h.bump (by decide)) _ _
    · exact placeTail (bump (h.same (by rfl)) (by decide)) _ _
  split
  · exact h.bump (by decide)
  · exact h.tailDrop _ _

theorem placeEach (h : TimeFrame s t) (q arr : Nat) (cs : List QCell) (lead : Bool) (k : Nat) (lost : Bool) :
    TimeFrame s (Machine.placeEach q arr cs lead k lost t).2.2 := by
  induction cs generalizing t lead k lost with
  | nil => exact h
  | cons c cs ih =>
    unfold Machine.placeEach
    dsimp only
    split <;> exact ih (h.place q arr lead c) _ _ _

theorem placeControl (h : TimeFrame s t) (arr m tid : Nat) (bytes : List Byte) :
    TimeFrame s (Machine.placeControl arr m tid bytes t) := by
  unfold Machine.placeControl
  dsimp only
  have hp := (h.accrue m).placeEach (256 + m) arr ((frameCells tid 3 bytes).map (fun c => { c with eg := m })) false 0 false
  split
  · exact bump (hp.removeLast _ _) (by decide)
  split
  · exact hp
  · exact hp.same (by rfl)

/-! ### Records -/

theorem sendMsix (h : TimeFrame s t) (v : Nat) : TimeFrame s (Machine.sendMsix v t) := by
  unfold Machine.sendMsix
  dsimp only
  exact ite (h.setF 1 (show OffTime 0x3F00 by decide)) 
    (ite (offerFrame (h.bump (by decide)) _ _) (emit (bump64 (linkUse (h.bump (by decide)) 0) (by decide) (by decide)) _))

theorem receiveRecord (h : TimeFrame s t) (hid : Nat) (r : Record) : TimeFrame s (Machine.receiveRecord hid r t) := by
  unfold Machine.receiveRecord
  dsimp only
  have hcounted : TimeFrame s (Machine.bump64 R.FLT_RX_RECORDS { t with flt := { t.flt with rxq := t.flt.rxq ++ [(hid, r)] } }) :=
    bump64 (h.same (by rfl)) (by decide) (by decide)
  exact ite (setF (h.bump (by decide)) 1 (by decide)) (ite (sendMsix hcounted _) hcounted)

theorem recordOut (h : TimeFrame s t) (r : Record) : TimeFrame s (Machine.recordOut r t) := by
  unfold Machine.recordOut
  split
  · split
    · exact ite (ite (bump (h.same (by rfl)) (by decide)) (setF (h.same (by rfl)) _ (by decide))) (ite (h.receiveRecord _ _) h)
    · exact h
  · exact h

theorem recordEp2 (h : TimeFrame s t) (r : Record) : TimeFrame s (Machine.recordEp2 r t) := by
  unfold Machine.recordEp2
  exact ite (ite (limited (h.bump (by decide)) _ _ fun _ hu => hu.raiseN _) (h.same (by rfl))) h

theorem makeRecord (h : TimeFrame s t) (stamp : Plumb) (source kindEdge detail : Nat) :
    TimeFrame s (Machine.makeRecord stamp source kindEdge detail t) := by
  unfold Machine.makeRecord
  dsimp only
  exact journal (recordEp2 (recordOut (historyAdd (bump64 (h.same (by rfl)) (by decide) (by decide)) _) _) _) _ _ _

theorem sendEventCell (h : TimeFrame s t) : TimeFrame s (Machine.sendEventCell t) := by
  unfold Machine.sendEventCell
  dsimp only
  split
  · exact ite h (placeControl (bump (setF (h.same (by rfl)) _ (by decide)) (by decide)) _ _ _ _)
  · exact h

theorem drainRecords (h : TimeFrame s t) : TimeFrame s (Machine.drainRecords t) := by
  unfold Machine.drainRecords makeMarker
  dsimp only
  have hc : TimeFrame s (if 3 ≤ t.flt.outq.length then Machine.sendEventCell t else t) := ite h.sendEventCell h
  exact ite (makeRecord (bump (hc.same (by rfl)) (by decide)) _ _ _ _) hc

theorem record (h : TimeFrame s t) (stamp : Plumb) (source kindEdge detail : Nat) :
    TimeFrame s (Machine.record stamp source kindEdge detail t) := (h.makeRecord _ _ _ _).drainRecords

end TimeFrame

end Sys2Proof.Machine

/-! ## The event pins, and the commands of the peer delay, the port and the pins together (R198, R208, R209, R355) -/

namespace Sys2Proof.Machine

variable {s t u : State} {k : Nat}

/-! ### PPS_IN_MISSING (R198, Table 8-17) -/

/-- A raise with a free detail after registers have changed is the raise before. -/
theorem OnlyRegs.raisedFree (h : OnlyRegs s t) (hout : t.out = []) (hao : reg t R.AO_STATUS = reg s R.AO_STATUS) (src : Nat) :
    OnlyRaised src ((free s).toNat % 65536) { s with freeIdx := s.freeIdx + 1 } (raiseN src t) := by
  have hidx : t.freeIdx = s.freeIdx := by rw [show t = { s with regs := t.regs, out := t.out } from h]
  have hnext : OnlyRegs { s with freeIdx := s.freeIdx + 1 } (nextFree t) := by
    unfold OnlyRegs nextFree at *
    rw [hidx]
    generalize t.regs = r, t.out = o at h ⊢
    rw [h]
  have hfree : free t = free s := by rw [free, free, hidx]
  rw [raiseN, hfree]
  exact hnext.raised hout hao _ _

/-- A command of the hub die that raises a source, and else touches registers alone, completes with its effect. -/
theorem answers_onlyRaised {c : Instr} {f : State → State} {P : State → Prop} {src d : Nat} (e : exec c s = hub s f) (h : Runs s)
    (ht : f (clearOut s) = t) (hr : OnlyRaised src d u t) (hpend : u.pending = s.pending) (hfuse : u.fuse = s.fuse) (hP : P t) :
    Answers c s P :=
  answers_hub_eq e h ht ((congrArg State.pending hr).trans hpend) ((congrArg State.fuse hr).trans hfuse) hP

theorem RegsBut.raiseN {ks : List Nat} (h : RegsBut ks s t) (src : Nat) (hk : R.CDC_OVERRUN_EVENTS ∈ ks) :
    RegsBut ks s (Machine.raiseN src t) :=
  h.to fun _ hj => reg_raiseN src t fun e => hj (e ▸ hk)

/-- An interval without a pulse, before it is raised. -/
def pulseMissed (s : State) : State := bump R.TIME_PPS_IN_MISSES (if timeSrc s = .pps then setF fTimeSrcValid 0 s else s)

theorem onlyRegs_pulseMissed (h : OnlyRegs s t) : OnlyRegs s (pulseMissed t) := by
  unfold pulseMissed
  split
  · exact onlyRegs_setReg (onlyRegs_setF h _ _) _ _
  · exact onlyRegs_setReg h _ _

theorem pulseMissed_regsBut (s : State) : RegsBut [R.TIME_PPS_IN_MISSES, fTimeSrcValid.key] s (pulseMissed s) := by
  unfold pulseMissed
  split
  · exact ((regsBut_refl _ s).setF 0).bump
  · exact (regsBut_refl _ s).bump

theorem out_pulseMissed (s : State) : (pulseMissed s).out = s.out := by
  unfold pulseMissed
  split <;> rfl

theorem misses_pulseMissed (s : State) : reg (pulseMissed s) R.TIME_PPS_IN_MISSES = reg s R.TIME_PPS_IN_MISSES + 1 := by
  unfold pulseMissed
  rw [reg_bump_same]
  split
  · rw [reg_setF_ne _ _ (by decide)]
  · rfl

theorem srcValid_pulseMissed (h : timeSrc s = .pps) : bit (pulseMissed s) fTimeSrcValid = false := by
  unfold pulseMissed
  rw [if_pos h, bit, getF_bump _ _ (by decide)]
  exact bit_setF_zero _ _ _ (by decide)

theorem exec_ppsInMissing (s : State) : exec .ppsInMissing s = hub s (fun s =>
    if bit s ⟨R.TIME_PPS_CTRL, 2, 1⟩ then raiseN 103 (pulseMissed s) else s) := rfl

theorem answers_ppsInMissing (h : Runs s) (hen : bit s ⟨R.TIME_PPS_CTRL, 2, 1⟩ = true) :
    Answers .ppsInMissing s (fun t =>
      reg t R.TIME_PPS_IN_MISSES = reg s R.TIME_PPS_IN_MISSES + 1 ∧
      RegsBut [R.TIME_PPS_IN_MISSES, fTimeSrcValid.key, R.CDC_OVERRUN_EVENTS] s t ∧ (timeSrc s = .pps →
      bit t fTimeSrcValid = false) ∧ OnlyRaised 103 ((free s).toNat % 65536) { s with freeIdx := s.freeIdx + 1 } t) := by
  have honly := onlyRegs_pulseMissed (onlyRegs_clearOut s)
  have hraised := honly.raisedFree (out_pulseMissed (clearOut s))
    (pulseMissed_regsBut (clearOut s) _ (by decide)) 103
  refine answers_onlyRaised (exec_ppsInMissing s) h (if_pos hen) hraised rfl rfl ⟨?_, ?_, fun hsrc => ?_, hraised⟩
  · rw [reg_raiseN _ _ (by decide), misses_pulseMissed]
    rfl
  · exact ((pulseMissed_regsBut (clearOut s)).mono (by decide)).raiseN 103 (by decide)
  · rw [bit, getF_raiseN _ _ (by decide)]
    exact srcValid_pulseMissed (s := clearOut s) hsrc

/-! ### Event pins (R209) -/

/-- Of two writes of a key, both of values that are listed, the second stands. -/
theorem smSet_smSet_listed {α : Type} [DecidableEq α] {d : Nat → α} {v w : α} (m : SMap α) (hv : v ≠ d k) (hw : w ≠ d k) :
    smSet d (smSet d m k v) k w = smSet d m k w := by
  induction m with
  | nil => simp [smSet, hv, hw]
  | cons e m ih =>
    obtain ⟨j, x⟩ := e
    rcases lt_trichotomy k j with hlt | rfl | hgt
    · simp [smSet, hv, hw, hlt]
    · simp [smSet, hv, hw]
    · simp [smSet, ih, hgt.ne', Nat.lt_asymm hgt]

theorem pinSet_pinSet_listed {p q : EvtPin} (s : State) (hp : p ≠ {}) (hq : q ≠ {}) : pinSet k q (pinSet k p s) = pinSet k q s := by
  unfold pinSet
  dsimp only
  rw [smSet_smSet_listed (d := dPin) s.time.evt hp hq]

theorem exec_evtPinEdge (k : Fin 8) (level : Timed Bool) (s : State) : exec (.evtPinEdge k level) s = execEvtPinEdge k level s := rfl

/-- A pin with DEBOUNCE that takes a level other than its stable one has a candidate from then on. -/
theorem exec_evtPinEdge_candidate {k : Fin 8} {level : Bool} {phase : Fin 8} (hedge : (pinGet s k).level ≠ level)
    (hen : bit s ⟨R.TIME_EVT_CTRL k, 0, 1⟩ = true) (hstable : (pinGet s k).stable ≠ level) (hdeb : debounce s k ≠ 0) :
    exec (.evtPinEdge k ⟨level, phase⟩) s = hub s (fun s =>
      pinSet k { pinGet s k with level := level, cand := some (pinStamp phase s) } s) := by
  rw [exec_evtPinEdge]
  refine hub_congr ?_
  have hlisted : ({ pinGet (clearOut s) k with level := level } : EvtPin) ≠ {} := by
    intro e
    have hlevel : level = false := congrArg EvtPin.level e
    have hst : (pinGet s k).stable = false := congrArg EvtPin.stable e
    exact hstable (hst.trans hlevel.symm)
  have hcand : ({ pinGet (clearOut s) k with level := level, cand := some (pinStamp phase (clearOut s)) } : EvtPin) ≠ {} :=
    fun e => nomatch congrArg EvtPin.cand e
  dsimp only
  rw [if_neg (show ¬ (pinGet (clearOut s) k).level = level from hedge), if_pos (show bit (pinSet k _ (clearOut s)) _ = true from hen),
    if_neg (show ¬ level = (pinGet (clearOut s) k).stable from hstable.symm),
    if_neg (show ¬ debounce (pinSet k _ (clearOut s)) k = 0 from hdeb), pinGet_pinSet_same]
  exact pinSet_pinSet_listed (clearOut s) hlisted hcand

theorem answers_evtPinEdge {k : Fin 8} {level : Bool} {phase : Fin 8} (h : Runs s) (hedge : (pinGet s k).level ≠ level)
    (hen : bit s ⟨R.TIME_EVT_CTRL k, 0, 1⟩ = true) (hstable : (pinGet s k).stable ≠ level) (hdeb : debounce s k ≠ 0) :
    Answers (.evtPinEdge k ⟨level, phase⟩) s (fun t =>
      t = pinSet k { pinGet s k with level := level, cand := some (pinStamp phase s) } { s with out := [] }) :=
  answers_hub_eq (exec_evtPinEdge_candidate hedge hen hstable hdeb) h rfl rfl rfl rfl

/-- The new level of a pin is stable. -/
def pinSettled (k : Nat) (level : Bool) (s : State) : State :=
  setF ⟨R.TIME_EVT_LEVEL, k, 1⟩ (if level then 1 else 0) (pinSet k { pinGet s k with stable := level, cand := none } s)

/-- The record of a pin is counted, and its glitches with it. -/
def pinCounted (k : Nat) (s : State) : State := pinSet k { pinGet s k with glitches := 0 } (bump R.TIME_EVT_RECORDS s)

/-- The MSI-X message of a pin's record, where FLT.CTRL asks for one and none is pending. -/
def pinReported (k : Nat) (s : State) : State :=
  if bit s ⟨R.FLT_CTRL, 2, 1⟩ ∧ ¬ bit s ⟨R.FLT_PEND4, k, 1⟩ then
    sendMsix (getF s ⟨R.FLT_CTRL, 8, 5⟩) (setF ⟨R.FLT_PEND4, k, 1⟩ 1 s)
  else s

theorem pinStable_eq (k : Nat) (level : Bool) (at_ : Plumb) (s : State) : pinStable k level at_ s =
    if bit (pinSettled k level s) ⟨R.TIME_EVT_CTRL k, if level then 1 else 2, 1⟩ then
      pinReported k (record at_ (128 + k) (4 + (if level then 1 else 2)) (min 65535 (pinGet s k).glitches)
        (pinCounted k (pinSettled k level s)))
    else pinSettled k level s := rfl

/-- The record of an enabled edge leaves the timebase. -/
theorem pinStable_enabled {level : Bool} {at_ : Plumb} (hk : k < 8)
    (hen : bit s ⟨R.TIME_EVT_CTRL k, if level then 1 else 2, 1⟩ = true) :
    TimeFrame (pinCounted k (pinSettled k level s)) (pinStable k level at_ s) := by
  have hen' : bit (pinSettled k level s) ⟨R.TIME_EVT_CTRL k, if level then 1 else 2, 1⟩ = true := by
    rw [pinSettled, bit, getF_setF_ne _ _ (by simp only [R.TIME_EVT_CTRL, R.TIME_EVT_LEVEL]; omega)]
    exact hen
  have hrecord := (TimeFrame.refl (pinCounted k (pinSettled k level s))).record at_ (128 + k) (4 + (if level then 1 else 2))
    (min 65535 (pinGet s k).glitches)
  rw [pinStable_eq, if_pos hen']
  exact .ite (.sendMsix (hrecord.setF (f := ⟨R.FLT_PEND4, k, 1⟩) 1 (show OffTime R.FLT_PEND4 by decide)) _) hrecord

theorem pinStable_disabled {level : Bool} {at_ : Plumb} (hk : k < 8)
    (hen : bit s ⟨R.TIME_EVT_CTRL k, if level then 1 else 2, 1⟩ = false) : pinStable k level at_ s = pinSettled k level s := by
  have hen' : ¬ bit (pinSettled k level s) ⟨R.TIME_EVT_CTRL k, if level then 1 else 2, 1⟩ = true := by
    rw [pinSettled, bit, getF_setF_ne _ _ (by simp only [R.TIME_EVT_CTRL, R.TIME_EVT_LEVEL]; omega)]
    exact Bool.not_eq_true _ ▸ hen
  exact if_neg hen'

theorem pinGet_pinSettled (k : Nat) (level : Bool) (s : State) :
    pinGet (pinSettled k level s) k = { pinGet s k with stable := level, cand := none } := pinGet_pinSet_same _ _ _

theorem level_pinSettled (hk : k < 8) (level : Bool) (s : State) :
    bit (pinSettled k level s) ⟨R.TIME_EVT_LEVEL, k, 1⟩ = level := by
  cases level with
  | true => exact bit_setF_one _ _ _ (by omega)
  | false => exact bit_setF_zero _ _ _ (by omega)

/-- What a pin shows once its level is stable. -/
theorem pinStable_shows (hk : k < 8) (level : Bool) (at_ : Plumb) (s : State) :
    (pinGet (pinStable k level at_ s) k).stable = level ∧ (pinGet (pinStable k level at_ s) k).cand = none ∧
      bit (pinStable k level at_ s) ⟨R.TIME_EVT_LEVEL, k, 1⟩ = level ∧
      (bit s ⟨R.TIME_EVT_CTRL k, if level then 1 else 2, 1⟩ = true →
        reg (pinStable k level at_ s) R.TIME_EVT_RECORDS = reg s R.TIME_EVT_RECORDS + 1 ∧
          (pinGet (pinStable k level at_ s) k).glitches = 0) := by
  cases hen : bit s ⟨R.TIME_EVT_CTRL k, if level then 1 else 2, 1⟩ with
  | false =>
    rw [pinStable_disabled hk hen, pinGet_pinSettled, level_pinSettled hk]
    exact ⟨rfl, rfl, rfl, fun h => absurd h Bool.false_ne_true⟩
  | true =>
    have hframe := pinStable_enabled (at_ := at_) hk hen
    have hpin : pinGet (pinStable k level at_ s) k = { pinGet s k with stable := level, cand := none, glitches := 0 } := by
      rw [pinGet, hframe.time, ← pinGet, pinCounted, pinGet_pinSet_same, pinGet_pinSettled]
    rw [hpin, bit, getF_of_reg (hframe.page _ (show R.TIME_EVT_LEVEL / 0x1000 = 6 by decide)), hframe.page _ (by decide)]
    refine ⟨rfl, rfl, ?_, fun _ => ⟨?_, rfl⟩⟩
    · rw [pinCounted, getF_of_reg (reg_pinSet _ _ _ _), getF_bump _ _ (show R.TIME_EVT_LEVEL ≠ R.TIME_EVT_RECORDS by decide)]
      exact level_pinSettled hk level s
    · rw [pinCounted, reg_pinSet, reg_bump_same, pinSettled, reg_setF_ne _ _ (show R.TIME_EVT_RECORDS ≠ R.TIME_EVT_LEVEL by decide), reg_pinSet]

theorem exec_evtDebounceExpiry (k : Fin 8) (s : State) : exec (.evtDebounceExpiry k) s = execEvtDebounceExpiry k s := rfl

theorem exec_evtDebounceExpiry_candidate {k : Fin 8} {at_ : Plumb} (hc : (pinGet s k).cand = some at_) :
    exec (.evtDebounceExpiry k) s = hub s (fun s => pinStable k (pinGet s k).level at_ s) := by
  rw [exec_evtDebounceExpiry]
  refine hub_congr ?_
  show (match (pinGet (clearOut s) k).cand with | some t => pinStable k (pinGet (clearOut s) k).level t (clearOut s) | none => clearOut s) = _
  rw [show (pinGet (clearOut s) k).cand = some at_ from hc]

theorem answers_evtDebounceExpiry {k : Fin 8} {at_ : Plumb} (h : Runs s) (hc : (pinGet s k).cand = some at_) :
    Answers (.evtDebounceExpiry k) s (fun t =>
      (pinGet t k).stable = (pinGet s k).level ∧ (pinGet t k).cand = none ∧
      bit t ⟨R.TIME_EVT_LEVEL, k, 1⟩ = (pinGet s k).level ∧
      (bit s ⟨R.TIME_EVT_CTRL k, if (pinGet s k).level then 1 else 2, 1⟩ = true →
      reg t R.TIME_EVT_RECORDS = reg s R.TIME_EVT_RECORDS + 1 ∧ (pinGet t k).glitches = 0)) :=
  answers_hub (exec_evtDebounceExpiry_candidate hc) h (pinStable_shows k.isLt (pinGet s k).level at_ (clearOut s))

/-- Settles O17: each clause is the completion lemma of its command above. -/
theorem peerDelayPortAndPinCommandsComplete : Obligations.PeerDelayPortAndPinCommandsComplete := by
  unfold Obligations.PeerDelayPortAndPinCommandsComplete
  exact ⟨fun _ _ _ h hen hpd hlink => answers_pdelayReqTimer h hen hpd hlink,
    fun _ _ _ _ _ h hen hpd => answers_pdelayReqReceived h hen hpd,
    fun _ _ _ _ _ _ h hpd hreq => answers_pdelayRespReceived h hpd hreq,
    fun _ _ _ h => answers_twoStepEntryExpiry h,
    fun _ _ _ h hroom => answers_msgPortDelivery h hroom,
    fun _ _ _ h hrx => answers_msgRxRead h hrx,
    fun _ _ _ h => answers_msgTxGo h,
    fun _ _ h hrun hedge hskip hsent => answers_ppsOutEdge h hrun hedge hskip hsent,
    fun _ _ _ _ h hen hpol hsrc hp => answers_ppsInEdge_stampOnly h hen hpol hsrc hp,
    fun _ h hen => answers_ppsInMissing h hen,
    fun _ _ _ _ h hedge hen hstable hdeb => answers_evtPinEdge h hedge hen hstable hdeb,
    fun _ _ _ h hc => answers_evtDebounceExpiry h hc⟩

end Sys2Proof.Machine

/-! ## The tick of Plumb (R191, R306) -/

namespace Sys2Proof.Machine

variable {s t u : State} {k : Nat}

/-! ### TIME_TICK -/

/-- No SET and no STEP waits. -/
theorem applyAdj_idle (h : s.time.adj = 0) : applyAdj s = s := by
  have hsame : ({ s with time := { s.time with adj := 0 } } : State) = s := by rw [← h]
  unfold applyAdj
  dsimp only
  rw [h, if_pos rfl, if_neg (by decide), if_neg (by decide), hsame]

/-- Plumb has gained its 4 ns × (1 + FREQ_ADJ). -/
def ticked (s : State) : State :=
  { s with
    ticks := s.ticks + 1
    plumb := plumbOf ((fineOf s.plumb : Int) + (262144 + (s.time.rem + freqAdj s * 1024) / 1000000000)).toNat
    time := { s.time with rem := (s.time.rem + freqAdj s * 1024) % 1000000000 } }

/-- What a tick does once Plumb has moved. -/
def tickTaken (s : State) : State :=
  let s := sendHeartbeat (aspmIdle 1 (aspmIdle 0 (rasterTick s)))
  if s.ticks % 250 = 0 then forAll (List.range' 50 8) realign s else s

theorem exec_timeTick (h : s.time.adj = 0) : exec .timeTick s = hub s (fun s => tickTaken (ticked s)) := by
  have hidle : applyAdj (ticked (clearOut s)) = ticked (clearOut s) := applyAdj_idle h
  have htaken : tickTaken (applyAdj (ticked (clearOut s))) = tickTaken (ticked (clearOut s)) := by rw [hidle]
  exact hub_congr (f := fun s => tickTaken (applyAdj (ticked s))) htaken

/-! ### What follows a tick leaves the time as it is -/

/-- The ticks, Plumb, and the part of a tick that Plumb does not show. -/
def clock (s : State) : Nat × Plumb × Int := (s.ticks, s.plumb, s.time.rem)

theorem clock_startFrame (s : State) : clock (startFrame s) = clock s := by
  unfold startFrame
  refine forAll_keeps (P := fun t => clock t = clock s) [2, 3] _ (fun k t ht => ?_) rfl
  split
  · exact ht
  · exact ht

theorem OnlyDisplay.clock (h : OnlyDisplay s t) : Machine.clock t = Machine.clock s := by
  rw [show t = { s with regs := t.regs, disp := t.disp } from h]
  rfl

theorem clock_rasterTick (s : State) : clock (rasterTick s) = clock s := by
  have hsettle : clock (teSettle s) = clock s := OnlyDisplay.clock (OnlyDisplay.teSettle rfl)
  unfold rasterTick
  dsimp only
  split
  · split
    · exact (clock_startFrame _).trans hsettle
    · exact hsettle
  · rfl

/-- An idle PCIe link enters L1, or nothing happens. -/
theorem aspmIdle_cases (k : Nat) (s : State) : aspmIdle k s = setF (fInL1 k) 1 s ∨ aspmIdle k s = s := ite_eq_or_eq _ _ _

theorem clock_aspmIdle (k : Nat) (s : State) : clock (aspmIdle k s) = clock s := by
  rcases aspmIdle_cases k s with h | h
  · rw [h]
    rfl
  · rw [h]

theorem clock_sendHeartbeat (s : State) : clock (sendHeartbeat s) = clock s := by
  unfold sendHeartbeat
  split <;> rfl

/-- A rim copy of Plumb that is realigned changes what is left of the copy and its crossing, and sends nothing. -/
theorem realign_frame (x : Nat) (s : State) : clock (realign x s) = clock s ∧ (realign x s).out = s.out := by
  have hcarry (u : State) : clock (carry x u) = clock u ∧ (carry x u).out = u.out := by
    unfold carry
    split <;> exact ⟨rfl, rfl⟩
  unfold realign
  dsimp only
  split
  · exact hcarry { s with time := { s.time with lag := smSet dInt s.time.lag x 0 } }
  · exact hcarry s

theorem realignAll_frame (l : List Nat) (s : State) :
    clock (forAll l realign s) = clock s ∧ (forAll l realign s).out = s.out :=
  forAll_keeps (P := fun t => clock t = clock s ∧ t.out = s.out) l realign
    (fun x t ht => ⟨(realign_frame x t).1.trans ht.1, (realign_frame x t).2.trans ht.2⟩) ⟨rfl, rfl⟩

theorem clock_tickTaken (s : State) : clock (tickTaken s) = clock s := by
  have hbeat : clock (sendHeartbeat (aspmIdle 1 (aspmIdle 0 (rasterTick s)))) = clock s := by
    rw [clock_sendHeartbeat, clock_aspmIdle, clock_aspmIdle, clock_rasterTick]
  unfold tickTaken
  dsimp only
  split
  · exact (realignAll_frame _ _).1.trans hbeat
  · exact hbeat

theorem answers_timeTick (h : Runs s) (hadj : s.time.adj = 0) :
    Answers .timeTick s (fun t =>
      t.ticks = s.ticks + 1 ∧
      t.plumb = plumbOf ((fineOf s.plumb : Int) + (262144 + (s.time.rem + freqAdj s * 1024) / 1000000000)).toNat ∧
      t.time.rem = (s.time.rem + freqAdj s * 1024) % 1000000000) := by
  refine answers_hub (exec_timeTick hadj) h ?_
  have hclock : clock (kept s (tickTaken (ticked (clearOut s)))) = clock (ticked s) := clock_tickTaken (ticked (clearOut s))
  simp only [clock, Prod.mk.injEq] at hclock
  exact hclock

/-! ### A tick at which nothing else is due -/

theorem rasterTick_off (h : dispOn s = false) : rasterTick s = s := if_neg (by rw [h]; decide)

theorem aspmIdle_down (h : bit s (fDlUp k) = false) : aspmIdle k s = s := if_neg (by rw [h]; simp)

theorem sendHeartbeat_alone (h : bit s ⟨R.PAIR_STATUS, 1, 1⟩ = false) : sendHeartbeat s = s := if_neg (by rw [h]; simp)

theorem tickTaken_alone (hal : s.ticks % 250 ≠ 0) (hdisp : dispOn s = false) (hup0 : bit s (fDlUp 0) = false)
    (hup1 : bit s (fDlUp 1) = false) (hpair : bit s ⟨R.PAIR_STATUS, 1, 1⟩ = false) : tickTaken s = s := by
  have hbeat : sendHeartbeat (aspmIdle 1 (aspmIdle 0 (rasterTick s))) = s := by
    rw [rasterTick_off hdisp, aspmIdle_down hup0, aspmIdle_down hup1, sendHeartbeat_alone hpair]
  unfold tickTaken
  rw [hbeat, if_neg hal]

theorem answers_timeTick_alone (h : Runs s) (hadj : s.time.adj = 0) (hal : (s.ticks + 1) % 250 ≠ 0)
    (hdisp : dispOn s = false) (hup0 : bit s (fDlUp 0) = false) (hup1 : bit s (fDlUp 1) = false)
    (hpair : bit s ⟨R.PAIR_STATUS, 1, 1⟩ = false) :
    Answers .timeTick s (fun t =>
      t = { s with ticks := s.ticks + 1, plumb := plumbOf ((fineOf s.plumb : Int) + (262144 + (s.time.rem + freqAdj s * 1024) / 1000000000)).toNat, time := { s.time with rem := (s.time.rem + freqAdj s * 1024) % 1000000000 }, out := [] }) :=
  answers_hub_eq (exec_timeTick hadj) h (tickTaken_alone (s := ticked (clearOut s)) hal hdisp hup0 hup1 hpair) rfl rfl rfl

/-! ### A tick at which a heartbeat is due (R306) -/

theorem aspmIdle_regsBut (hk : k < 2) (s : State) :
    RegsBut [R.PCIE_STATUS 0, R.PCIE_STATUS 1] s (aspmIdle k s) ∧ aspmIdle k s = { s with regs := (aspmIdle k s).regs } := by
  have hkey : (fInL1 k).key ∈ [R.PCIE_STATUS 0, R.PCIE_STATUS 1] := by
    obtain rfl | rfl : k = 0 ∨ k = 1 := by omega
    · exact List.mem_cons_self
    · exact List.mem_cons_of_mem _ List.mem_cons_self
  rcases aspmIdle_cases k s with h | h
  · rw [h]
    exact ⟨(regsBut_refl _ s).setF 1 hkey, rfl⟩
  · rw [h]
    exact ⟨regsBut_refl _ s, rfl⟩

/-- The heartbeat frame reads PAIR.STATUS, PAIR.EPOCH, DEV.MODE and DEV.HID. -/
theorem ownHeartbeat_congr (hact : t.act = s.act)
    (h : ∀ j ∈ [R.PAIR_STATUS, R.PAIR_EPOCH, R.DEV_MODE, R.DEV_HID], reg t j = reg s j) : ownHeartbeat t = ownHeartbeat s := by
  have hf (f : Fld) (hk : f.key ∈ [R.PAIR_STATUS, R.PAIR_EPOCH, R.DEV_MODE, R.DEV_HID]) : getF t f = getF s f :=
    getF_of_reg (h _ hk)
  have hmode : mode t = mode s := hf fCur (by decide)
  simp only [ownHeartbeat, hmode, h R.PAIR_EPOCH (by decide), hf ⟨R.PAIR_STATUS, 0, 1⟩ (by decide),
    hf ⟨R.DEV_HID, 8, 1⟩ (by decide), getA, actReg, hact]

theorem sendHeartbeat_due (h : bit s ⟨R.PAIR_STATUS, 1, 1⟩ = true) (hdue : s.ticks % 6000 = 0) :
    sendHeartbeat s = emit (.heartbeat (ownHeartbeat s)) s :=
  if_pos (by rw [h, hdue]; rfl)

/-- The heartbeat that the tick of 24 µs sends. -/
theorem out_tickTaken (hpair : bit s ⟨R.PAIR_STATUS, 1, 1⟩ = true) (hdue : s.ticks % 6000 = 0) (hdisp : dispOn s = false) :
    (tickTaken s).out = s.out ++ [.heartbeat (ownHeartbeat s)] := by
  obtain ⟨hregs0, honly0⟩ := aspmIdle_regsBut (k := 0) (by decide) s
  obtain ⟨hregs1, honly1⟩ := aspmIdle_regsBut (k := 1) (by decide) (aspmIdle 0 s)
  have hregs : RegsBut [R.PCIE_STATUS 0, R.PCIE_STATUS 1] s (aspmIdle 1 (aspmIdle 0 s)) := hregs0.to hregs1
  have honly : aspmIdle 1 (aspmIdle 0 s) = { s with regs := (aspmIdle 1 (aspmIdle 0 s)).regs } := by
    rw [honly1, honly0]
  have hbeat : (sendHeartbeat (aspmIdle 1 (aspmIdle 0 (rasterTick s)))).out = s.out ++ [.heartbeat (ownHeartbeat s)] := by
    rw [rasterTick_off hdisp]
    generalize aspmIdle 1 (aspmIdle 0 s) = u at hregs honly ⊢
    have hown : ownHeartbeat u = ownHeartbeat s :=
      ownHeartbeat_congr (by rw [honly]) fun j hj => hregs j (by revert j; decide)
    have hpair' : bit u ⟨R.PAIR_STATUS, 1, 1⟩ = true := by
      rw [bit, getF_of_reg (hregs _ (by decide))]
      exact hpair
    rw [sendHeartbeat_due hpair' (by rw [honly]; exact hdue), emit, hown, honly]
  unfold tickTaken
  dsimp only
  split
  · exact (realignAll_frame _ _).2.trans hbeat
  · exact hbeat

theorem answers_timeTick_heartbeat (h : Runs s) (hadj : s.time.adj = 0) (hpair : bit s ⟨R.PAIR_STATUS, 1, 1⟩ = true)
    (hdue : (s.ticks + 1) % 6000 = 0) (hdisp : dispOn s = false) :
    Answers .timeTick s (fun t => t.out = [.heartbeat (ownHeartbeat { s with ticks := s.ticks + 1 })]) :=
  answers_hub (exec_timeTick hadj) h (out_tickTaken (s := ticked (clearOut s)) hpair hdue hdisp)

end Sys2Proof.Machine

/-! ## The exchanges of a link, and the loss of the source (R195, R196, R198) -/

namespace Sys2Proof.Machine

variable {s t u : State} {k : Nat}

/-! ### TIME_ADJ_SET and TIME_ADJ_STEP (R193) -/

theorem answers_timeAdjSet (h : Runs s) :
    Answers .timeAdjSet s (fun t => t = { s with time := { s.time with adj := s.time.adj ||| 1 }, out := [] }) :=
  answers_hub_eq (f := timeAdj 1) rfl h rfl rfl rfl rfl

theorem answers_timeAdjStep (h : Runs s) :
    Answers .timeAdjStep s (fun t => t = { s with time := { s.time with adj := s.time.adj ||| 2 }, out := [] }) :=
  answers_hub_eq (f := timeAdj 2) rfl h rfl rfl rfl rfl

/-! ### A request is sent (R195) -/

@[simp] theorem exGet_exSet_same (n : Nat) (e : Exchange) (s : State) : exGet (exSet n e s) n = e := smGet_smSet_same _ _ _
@[simp] theorem reg_exSet (n : Nat) (e : Exchange) (s : State) (j : Nat) : reg (exSet n e s) j = reg s j := rfl

/-- The DREQ with this number goes out, with so many timeouts before it. -/
def dreqSent (n seq timeouts : Nat) (s : State) : State :=
  bump64 R.TIME_EXCH_TX (sendCtl n ([0x10] ++ bytesBE 2 seq)
    (exSet n { seq := seq, waiting := true, t1 := none, timeouts := timeouts } s))

theorem bump64_frame (k : Nat) (s : State) : bump64 k s = { s with regs := (bump64 k s).regs } := rfl

theorem dreqSent_frame (n seq timeouts : Nat) (s : State) : dreqSent n seq timeouts s =
    { s with regs := (dreqSent n seq timeouts s).regs, link := (dreqSent n seq timeouts s).link,
             time := (dreqSent n seq timeouts s).time } := by
  unfold dreqSent
  rw [bump64_frame]
  rfl

theorem exGet_dreqSent (n seq timeouts : Nat) (s : State) :
    exGet (dreqSent n seq timeouts s) n = { seq := seq, waiting := true, t1 := none, timeouts := timeouts } :=
  exGet_exSet_same _ _ _

theorem ctlOut_dreqSent (n seq timeouts : Nat) (s : State) :
    (lGet (dreqSent n seq timeouts s) n).ctlOut = (lGet s n).ctlOut ++ [[0x10] ++ bytesBE 2 seq] :=
  congrArg Link.ctlOut (lGet_lSet_same n _ _)

theorem cnt64_dreqSent (n seq timeouts : Nat) (s : State) :
    cnt64 (dreqSent n seq timeouts s) R.TIME_EXCH_TX = (cnt64 s R.TIME_EXCH_TX + 1) % 2 ^ 64 := cnt64_bump64 _ _

theorem dreqSent_regsBut (n seq timeouts : Nat) (s : State) :
    RegsBut [R.TIME_EXCH_TX, R.TIME_EXCH_TX + 4] s (dreqSent n seq timeouts s) :=
  RegsBut.bump64 (t := sendCtl n _ (exSet n _ s)) (fun _ _ => rfl) (by decide) (by decide)

/-- No DREQ waits for its DRESP. -/
theorem exec_dreqTimer_first {n : Port} (hlink : linkState s n = lsUp ∨ linkState s n = lsLowpower)
    (hw : (exGet s n).waiting = false) :
    exec (.dreqTimer n) s = hub s (fun s => dreqSent n (((exGet s n).seq + 1) % 65536) 0 s) := by
  refine hub_congr ?_
  have hw' : (exGet (clearOut s) n).waiting = false := hw
  dsimp only
  rw [if_pos (show linkState (clearOut s) n = _ ∨ linkState (clearOut s) n = _ from hlink), hw']
  rfl

theorem answers_dreqTimer_first {n : Port} (h : Runs s) (hlink : linkState s n = lsUp ∨ linkState s n = lsLowpower)
    (hw : (exGet s n).waiting = false) :
    Answers (.dreqTimer n) s (fun t =>
      exGet t n = { seq := ((exGet s n).seq + 1) % 65536, waiting := true, t1 := none, timeouts := 0 } ∧
      (lGet t n).ctlOut = (lGet s n).ctlOut ++ [[0x10] ++ bytesBE 2 (((exGet s n).seq + 1) % 65536)] ∧
      cnt64 t R.TIME_EXCH_TX = (cnt64 s R.TIME_EXCH_TX + 1) % 2 ^ 64 ∧
      RegsBut [R.TIME_EXCH_TX, R.TIME_EXCH_TX + 4] s t ∧
      t = { s with regs := t.regs, link := t.link, time := t.time, out := [] }) :=
  answers_hub_eq (exec_dreqTimer_first hlink hw) h rfl rfl rfl
    ⟨exGet_dreqSent .., ctlOut_dreqSent .., cnt64_dreqSent .., dreqSent_regsBut _ _ _ (clearOut s), rfl⟩

/-- A DREQ stayed without its DRESP. -/
def dreqMissed (n : Nat) (s : State) : State :=
  if timeSrc (bump R.TIME_EXCH_TIMEOUT s) = .link n then setF fTimeSrcValid 0 (bump R.TIME_EXCH_TIMEOUT s)
  else bump R.TIME_EXCH_TIMEOUT s

theorem dreqMissed_regsBut (n : Nat) (s : State) :
    RegsBut [R.TIME_EXCH_TIMEOUT, fTimeSrcValid.key] s (dreqMissed n s) ∧
      dreqMissed n s = { s with regs := (dreqMissed n s).regs } := by
  unfold dreqMissed
  split
  · exact ⟨(regsBut_refl _ s).bump.setF 0, rfl⟩
  · exact ⟨(regsBut_refl _ s).bump, rfl⟩

theorem timeouts_dreqMissed (n : Nat) (s : State) :
    reg (dreqMissed n s) R.TIME_EXCH_TIMEOUT = reg s R.TIME_EXCH_TIMEOUT + 1 := by
  unfold dreqMissed
  split
  · rw [reg_setF_ne _ _ (by decide), reg_bump_same]
  · rw [reg_bump_same]

theorem srcValid_dreqMissed {n : Nat} (h : timeSrc s = .link n) : bit (dreqMissed n s) fTimeSrcValid = false := by
  have hsrc : timeSrc (bump R.TIME_EXCH_TIMEOUT s) = .link n :=
    (timeSrc_congr fun j hj => reg_bump _ _ (by rintro rfl; revert hj; decide)).trans h
  unfold dreqMissed
  rw [if_pos hsrc]
  exact bit_setF_zero _ _ _ (by decide)

/-- What the DREQ after a missing DRESP leaves as it was. -/
theorem dreqAgain_regsBut (n seq timeouts : Nat) (s : State) :
    RegsBut [R.TIME_EXCH_TIMEOUT, R.TIME_EXCH_TX, R.TIME_EXCH_TX + 4, fTimeSrcValid.key] s
        (dreqSent n seq timeouts (dreqMissed n s)) ∧
      dreqSent n seq timeouts (dreqMissed n s) =
        { s with regs := (dreqSent n seq timeouts (dreqMissed n s)).regs
                 link := (dreqSent n seq timeouts (dreqMissed n s)).link
                 time := (dreqSent n seq timeouts (dreqMissed n s)).time } := by
  obtain ⟨hmissed, honly⟩ := dreqMissed_regsBut n s
  constructor
  · exact (RegsBut.mono hmissed).to (RegsBut.mono (dreqSent_regsBut n seq timeouts (dreqMissed n s)))
  · generalize dreqMissed n s = u at honly ⊢
    rw [dreqSent_frame, honly]

/-- A DREQ waits for its DRESP, and it is not the tenth in a row. -/
theorem exec_dreqTimer_again {n : Port} (hlink : linkState s n = lsUp ∨ linkState s n = lsLowpower)
    (hw : (exGet s n).waiting = true) (hten : (exGet s n).timeouts + 1 ≠ 10) :
    exec (.dreqTimer n) s = hub s (fun s =>
      dreqSent n (((exGet s n).seq + 1) % 65536) (((exGet s n).timeouts + 1) % 10) (dreqMissed n s)) := by
  refine hub_congr ?_
  have hw' : (exGet (clearOut s) n).waiting = true := hw
  have hten' : ¬ (exGet (clearOut s) n).timeouts + 1 = 10 := hten
  dsimp only
  rw [if_pos (show linkState (clearOut s) n = _ ∨ linkState (clearOut s) n = _ from hlink), hw']
  simp only [if_true, Bool.true_and, hten', if_false, beq_iff_eq]
  rfl

theorem answers_dreqTimer_again {n : Port} (h : Runs s) (hlink : linkState s n = lsUp ∨ linkState s n = lsLowpower)
    (hw : (exGet s n).waiting = true) (hten : (exGet s n).timeouts + 1 ≠ 10) :
    Answers (.dreqTimer n) s (fun t =>
      (exGet t n).waiting = true ∧ (exGet t n).t1 = none ∧ (exGet t n).seq = ((exGet s n).seq + 1) % 65536 ∧
      (exGet t n).timeouts = ((exGet s n).timeouts + 1) % 10 ∧
      reg t R.TIME_EXCH_TIMEOUT = reg s R.TIME_EXCH_TIMEOUT + 1 ∧ (timeSrc s = .link n →
      bit t fTimeSrcValid = false) ∧
      RegsBut [R.TIME_EXCH_TIMEOUT, R.TIME_EXCH_TX, R.TIME_EXCH_TX + 4, fTimeSrcValid.key] s t ∧
      t = { s with regs := t.regs, link := t.link, time := t.time, out := [] }) := by
  obtain ⟨hsent, hframe⟩ := dreqAgain_regsBut n (((exGet s n).seq + 1) % 65536) (((exGet s n).timeouts + 1) % 10) (clearOut s)
  have hex := exGet_dreqSent n (((exGet s n).seq + 1) % 65536) (((exGet s n).timeouts + 1) % 10) (dreqMissed n (clearOut s))
  have hshown := dreqSent_regsBut n (((exGet s n).seq + 1) % 65536) (((exGet s n).timeouts + 1) % 10) (dreqMissed n (clearOut s))
  have hpend := congrArg State.pending hframe
  have hfuse := congrArg State.fuse hframe
  refine answers_hub_eq (t := dreqSent n (((exGet s n).seq + 1) % 65536) (((exGet s n).timeouts + 1) % 10)
    (dreqMissed n (clearOut s))) (exec_dreqTimer_again hlink hw hten) h rfl hpend hfuse
    ⟨?_, ?_, ?_, ?_, ?_, fun hsrc => ?_, hsent, hframe⟩
  · exact congrArg Exchange.waiting hex
  · exact congrArg Exchange.t1 hex
  · exact congrArg Exchange.seq hex
  · exact congrArg Exchange.timeouts hex
  · exact (hshown _ (by decide)).trans (timeouts_dreqMissed n (clearOut s))
  · rw [bit, getF_of_reg (hshown _ (by decide))]
    exact srcValid_dreqMissed (s := clearOut s) hsrc

/-! ### A request is answered (R195) -/

theorem exec_dreqReceived {n : Port} {seq : BitVec 16} {phase : Fin 8} (hup : linkState s n = lsUp) :
    exec (.dreqReceived n ⟨seq, phase⟩) s = hub s (fun s =>
      sendCtl n ([0x11] ++ bytesBE 2 seq.toNat ++ stampBytes (stampAt (51 + n) phase s) ++ List.replicate 12 0 ++
        [BitVec.ofNat 8 (getF s fTimeState), BitVec.ofNat 8 (getF s fDepth)]) s) :=
  hub_congr (if_pos (show linkState (clearOut s) n = _ from hup))

theorem answers_dreqReceived {n : Port} {seq : BitVec 16} {phase : Fin 8} (h : Runs s) (hup : linkState s n = lsUp) :
    Answers (.dreqReceived n ⟨seq, phase⟩) s (fun t =>
      t = lSet n { lGet s n with ctlOut := (lGet s n).ctlOut ++ [[0x11] ++ bytesBE 2 seq.toNat ++ stampBytes (stampAt (51 + n) phase s) ++ List.replicate 12 0 ++ [BitVec.ofNat 8 (getF s fTimeState), BitVec.ofNat 8 (getF s fDepth)]] } { s with out := [] }) :=
  answers_hub_eq (exec_dreqReceived hup) h rfl rfl rfl rfl

/-! ### An answer is measured (R195, R196, R199) -/

/-- A point of time as a DRESP carries it, in 2^−16 ns. -/
def stampFine (t : BitVec 96) : Int := fineOf ⟨bits t.toNat 48 48, bits t.toNat 16 32, bits t.toNat 0 16⟩

/-- The exchange is over and its link delay shown. -/
def linkMeasured (n : Nat) (delay : Int) (s : State) : State :=
  setReg (R.TIME_LINK_DELAY n) (BitVec.ofInt 32 delay)
    (bump64 R.TIME_EXCH_RX (exSet n { exGet s n with waiting := false, timeouts := 0 } s))

/-- What the DRESP that is waited for does: `t4` stamps its arrival, `t1` its DREQ. -/
def drespTaken (n : Nat) (t1 t2 t3 t4 : Int) (depth : Nat) (s : State) : State :=
  let delay := ((t4 - t1) - (t3 - t2)) / 2
  if timeSrc (linkMeasured n delay s) = .link n then
    servo (((t1 - t2) + (t4 - t3)) / 2 - asym s n) (toField 32 delay) (depth + 1) (linkMeasured n delay s)
  else linkMeasured n delay s

theorem exec_drespReceived_unfold (n : Port) (seq : Timed (BitVec 16)) (t2 t3 : BitVec 96) (st depth : Byte) (s : State) :
    exec (.drespReceived n seq t2 t3 st depth) s = execDrespReceived n seq t2 t3 st depth s := rfl

theorem exec_drespReceived {n : Port} {seq : BitVec 16} {t2 t3 : BitVec 96} {st depth : Byte} {phase : Fin 8} {t1 : Nat}
    (hup : linkState s n = lsUp) (hw : (exGet s n).waiting = true) (hseq : (exGet s n).seq = seq.toNat)
    (ht1 : (exGet s n).t1 = some t1) :
    exec (.drespReceived n ⟨seq, phase⟩ t2 t3 st depth) s = hub s
      (drespTaken n t1 (stampFine t2) (stampFine t3) (fineOf (stampAt (51 + n) phase s)) depth.toNat) := by
  rw [exec_drespReceived_unfold]
  refine hub_congr ?_
  have ht1' : (exGet (clearOut s) n).t1 = some t1 := ht1
  have hgo : ¬ (¬ (exGet (clearOut s) n).waiting = true ∨ (exGet (clearOut s) n).seq ≠ seq.toNat ∨
      linkState (clearOut s) n ≠ lsUp) := by
    rintro (hw' | hseq' | hup')
    · exact hw' hw
    · exact hseq' hseq
    · exact hup' hup
  have hstamp : stampAt (51 + n) phase (clearOut s) = stampAt (51 + n) phase s := rfl
  unfold drespTaken linkMeasured stampFine
  dsimp only
  rw [ht1', hstamp]
  exact if_neg hgo

theorem linkMeasured_frame (n : Nat) (delay : Int) (s : State) : linkMeasured n delay s =
    { s with regs := (linkMeasured n delay s).regs, time := (linkMeasured n delay s).time } := by
  unfold linkMeasured
  rw [bump64_frame]
  rfl

theorem linkMeasured_regsBut (n : Nat) (delay : Int) (s : State) :
    RegsBut [R.TIME_LINK_DELAY n, R.TIME_EXCH_RX, R.TIME_EXCH_RX + 4] s (linkMeasured n delay s) :=
  ((regsBut_refl _ s).bump64 (by simp) (by simp)).setReg _ (by simp)

theorem linkDelay_linkMeasured (n : Nat) (delay : Int) (s : State) :
    reg (linkMeasured n delay s) (R.TIME_LINK_DELAY n) = BitVec.ofInt 32 delay := reg_setReg_same _ _ _

theorem cnt64_linkMeasured (hn : k < 5) (delay : Int) (s : State) :
    cnt64 (linkMeasured k delay s) R.TIME_EXCH_RX = (cnt64 s R.TIME_EXCH_RX + 1) % 2 ^ 64 := by
  have hne (j : Nat) (hj : R.TIME_EXCH_RX ≤ j) : j ≠ R.TIME_LINK_DELAY k := by
    unfold R.TIME_EXCH_RX at hj
    unfold R.TIME_LINK_DELAY
    omega
  rw [linkMeasured, cnt64_congr (reg_setReg_ne _ _ (hne _ le_rfl)) (reg_setReg_ne _ _ (hne _ (by decide))), cnt64_bump64]
  rfl

theorem exGet_linkMeasured (n : Nat) (delay : Int) (s : State) :
    exGet (linkMeasured n delay s) n = { exGet s n with waiting := false, timeouts := 0 } := exGet_exSet_same _ _ _

theorem timeSrc_linkMeasured (hn : k < 5) (delay : Int) (s : State) : timeSrc (linkMeasured k delay s) = timeSrc s := by
  refine timeSrc_congr fun j hj => linkMeasured_regsBut k delay s j ?_
  simp only [List.mem_cons, List.not_mem_nil, or_false, R.TIME_LINK_DELAY, R.TIME_EXCH_RX, R.DEV_MODE, R.TIME_CTRL,
    R.PAIR_DOCK_CTRL, R.PAIR_DOCK_STATUS] at hj ⊢
  omega

theorem answers_drespReceived {n : Port} {seq : BitVec 16} {t2 t3 : BitVec 96} {st depth : Byte} {phase : Fin 8} {t1 : Nat}
    {p2 p3 : Int} (h : Runs s) (hup : linkState s n = lsUp) (hw : (exGet s n).waiting = true)
    (hseq : (exGet s n).seq = seq.toNat) (ht1 : (exGet s n).t1 = some t1) (hsrc : timeSrc s ≠ .link n)
    (hp2 : p2 = stampFine t2) (hp3 : p3 = stampFine t3) :
    Answers (.drespReceived n ⟨seq, phase⟩ t2 t3 st depth) s (fun t =>
      reg t (R.TIME_LINK_DELAY n) = BitVec.ofInt 32 ((((fineOf (stampAt (51 + n) phase s) : Int) - t1) - (p3 - p2)) / 2) ∧
      exGet t n = { exGet s n with waiting := false, timeouts := 0 } ∧
      cnt64 t R.TIME_EXCH_RX = (cnt64 s R.TIME_EXCH_RX + 1) % 2 ^ 64 ∧
      RegsBut [R.TIME_LINK_DELAY n, R.TIME_EXCH_RX, R.TIME_EXCH_RX + 4] s t ∧
      t = { s with regs := t.regs, time := t.time, out := [] }) := by
  subst hp2 hp3
  refine answers_hub_eq (exec_drespReceived hup hw hseq ht1) h (if_neg ?_) rfl rfl
    ⟨linkDelay_linkMeasured .., exGet_linkMeasured .., cnt64_linkMeasured n.isLt .., linkMeasured_regsBut _ _ (clearOut s),
      linkMeasured_frame _ _ (clearOut s)⟩
  rw [timeSrc_linkMeasured n.isLt]
  exact hsrc

/-- What the servo shows of its source. -/
theorem offset_servo (o : Int) (delay depth : Nat) (s : State) :
    reg (servo o delay depth s) R.TIME_OFFSET = BitVec.ofInt 32 (clampI (-2147483648) 2147483647 o) ∧
      bit (servo o delay depth s) fTimeSrcValid = true ∧ getF (servo o delay depth s) fDepth = min 15 depth := by
  have hsteered := steered_servo o delay depth s
  rw [hsteered.reg_eq ⟨by decide, by decide, by decide⟩, hsteered.bit_eq ⟨by decide, by decide, by decide⟩,
    hsteered fDepth ⟨by decide, by decide, by decide⟩]
  unfold offsetShown
  dsimp only
  refine ⟨?_, ?_, ?_⟩
  · rw [reg_setF_ne _ _ (by decide), reg_setF_ne _ _ (by decide), reg_setF_ne _ _ (by decide), reg_setReg_ne _ _ (by decide),
      reg_setReg_same]
  · rw [bit, getF_setF_beside _ _ (by decide), getF_setF_beside _ _ (by decide)]
    exact bit_setF_one _ _ _ (by decide)
  · rw [getF_setF_beside _ _ (by decide)]
    exact getF_setF_fits _ (by decide) (by show min 15 depth < 2 ^ 4; omega)

theorem answers_drespReceived_source {n : Port} {seq : BitVec 16} {t2 t3 : BitVec 96} {st depth : Byte} {phase : Fin 8}
    {t1 : Nat} {p2 p3 : Int} (h : Runs s) (hup : linkState s n = lsUp) (hw : (exGet s n).waiting = true)
    (hseq : (exGet s n).seq = seq.toNat) (ht1 : (exGet s n).t1 = some t1) (hsrc : timeSrc s = .link n)
    (hp2 : p2 = stampFine t2) (hp3 : p3 = stampFine t3) :
    Answers (.drespReceived n ⟨seq, phase⟩ t2 t3 st depth) s (fun t =>
      reg t (R.TIME_LINK_DELAY n) = BitVec.ofInt 32 ((((fineOf (stampAt (51 + n) phase s) : Int) - t1) - (p3 - p2)) / 2) ∧
      reg t R.TIME_OFFSET = BitVec.ofInt 32 (clampI (-2147483648) 2147483647 (((t1 - p2) + ((fineOf (stampAt (51 + n) phase s) : Int) - p3)) / 2 - asym s n)) ∧
      bit t fTimeSrcValid = true ∧ getF t fDepth = min 15 (depth.toNat + 1)) := by
  subst hp2 hp3
  refine answers_hub (exec_drespReceived hup hw hseq ht1) h ?_
  have hlink : timeSrc (linkMeasured n ((((fineOf (stampAt (51 + n) phase s) : Int) - t1) -
      (stampFine t3 - stampFine t2)) / 2) (clearOut s)) = .link n :=
    (timeSrc_linkMeasured n.isLt _ _).trans hsrc
  unfold drespTaken
  dsimp only
  rw [if_pos hlink]
  refine ⟨?_, offset_servo _ _ _ _⟩
  refine (reg_servo _ _ _ _ ?_ ?_).trans (linkDelay_linkMeasured n _ _)
  · have := n.isLt
    unfold R.TIME_LINK_DELAY
    omega
  · have := n.isLt
    simp only [List.mem_cons, List.not_mem_nil, or_false, R.TIME_LINK_DELAY, R.TIME_OFFSET, R.TIME_SRC_DELAY, R.TIME_STATUS,
      R.TIME_FREQ_ADJ, R.TIME_STEPS, R.TIME_LOCK_LOSSES]
    omega

/-! ### The source is lost (R198) -/

theorem RegsBut.quotInt {ks : List Nat} (h : RegsBut ks s t) (a : Int) (b : Nat) : RegsBut ks s (Machine.quotInt a b t).2 := by
  unfold Machine.quotInt
  split
  · exact h
  split
  · exact h
  · exact h

theorem RegsBut.setFreq {ks : List Nat} (h : RegsBut ks s t) (x : Int)
    (hks : ∀ j ∈ [R.TIME_FREQ_ADJ, fFreqLimit.key, R.CDC_OVERRUN_EVENTS], j ∈ ks := by decide) :
    RegsBut ks s (Machine.setFreq x t) := by
  have hset := (h.setReg (BitVec.ofInt 32 (clampI (-freqMax) freqMax x)) (hks R.TIME_FREQ_ADJ (by decide))).setF (f := fFreqLimit)
    (if decide (clampI (-freqMax) freqMax x ≠ x) then 1 else 0) (hks _ (by decide))
  unfold Machine.setFreq
  dsimp only
  split
  · exact hset.raiseN 105 (hks _ (by decide))
  · exact hset

theorem kept_onlyRaised {src d : Nat} (h : OnlyRaised src d s t) : kept s t = t := by
  have hpend := congrArg State.pending h
  have hfuse := congrArg State.fuse h
  exact kept_eq hpend hfuse

/-- FREQ_ADJ takes the mean of its values over LOCKED. -/
def freqMean (s : State) : State :=
  if s.time.hist.isEmpty then s
  else setFreq (quotInt (s.time.hist.map Prod.snd).sum s.time.hist.length s).1
    (quotInt (s.time.hist.map Prod.snd).sum s.time.hist.length s).2

/-- STATE shows HOLDOVER, and the entry is counted. -/
def heldOver (s : State) : State := bump R.TIME_HOLDOVER_ENTRIES (setF fTimeState 3 (setF fTimeSrcValid 0 s))

theorem onlyRegs_heldOver (h : OnlyRegs s t) : OnlyRegs s (heldOver t) := onlyRegs_setReg (onlyRegs_setF (onlyRegs_setF h _ _) _ _) _ _

theorem RegsBut.heldOver {ks : List Nat} (h : RegsBut ks s t)
    (hks : ∀ j ∈ [fTimeState.key, R.TIME_HOLDOVER_ENTRIES], j ∈ ks := by decide) : RegsBut ks s (Machine.heldOver t) :=
  ((h.setF 0 (hks _ (by decide))).setF 3 (hks _ (by decide))).bump (hks _ (by decide))

theorem heldOver_shows (s : State) : getF (heldOver s) fTimeState = 3 ∧ bit (heldOver s) fTimeSrcValid = false ∧
    reg (heldOver s) R.TIME_HOLDOVER_ENTRIES = reg s R.TIME_HOLDOVER_ENTRIES + 1 := by
  unfold heldOver
  refine ⟨?_, ?_, ?_⟩
  · rw [getF_bump _ _ (by decide)]
    exact getF_setF_fits _ (by decide) (by decide)
  · rw [bit, getF_bump _ _ (by decide), getF_setF_beside _ _ (by decide)]
    exact bit_setF_zero _ _ _ (by decide)
  · rw [reg_bump_same, reg_setF_ne _ _ (by decide), reg_setF_ne _ _ (by decide)]

theorem holdover_eq (s : State) : holdover s = raise 100 (getF (freqMean s) fSrcSel) (heldOver (freqMean s)) := by
  have hsel : getF (setF fTimeState 3 (setF fTimeSrcValid 0 (freqMean s))) fSrcSel = getF (freqMean s) fSrcSel := by
    rw [getF_setF_ne _ _ (by decide), getF_setF_ne _ _ (by decide)]
  rw [← hsel]
  rfl

theorem exec_timeSourceLoss (hst : getF s fTimeState = 1 ∨ getF s fTimeState = 2) :
    exec .timeSourceLoss s = hub s holdover :=
  hub_congr (if_pos (show getF (clearOut s) fTimeState = 1 ∨ getF (clearOut s) fTimeState = 2 from hst))

theorem freqMean_regsBut (s : State) : RegsBut [fFreqLimit.key, R.TIME_FREQ_ADJ, R.CDC_OVERRUN_EVENTS] s (freqMean s) := by
  unfold freqMean
  split
  · exact regsBut_refl _ s
  · exact ((regsBut_refl _ s).quotInt _ _).setFreq _

theorem answers_timeSourceLoss (h : Runs s) (hst : getF s fTimeState = 1 ∨ getF s fTimeState = 2) :
    Answers .timeSourceLoss s (fun t =>
      getF t fTimeState = 3 ∧ bit t fTimeSrcValid = false ∧
      reg t R.TIME_HOLDOVER_ENTRIES = reg s R.TIME_HOLDOVER_ENTRIES + 1 ∧ (s.time.hist = [] →
      OnlyRaised 100 (getF s fSrcSel) s t) ∧
      RegsBut [fTimeState.key, R.TIME_FREQ_ADJ, R.TIME_HOLDOVER_ENTRIES, R.CDC_OVERRUN_EVENTS] s t) := by
  have hmean := freqMean_regsBut (clearOut s)
  obtain ⟨hstate, hvalid, hcount⟩ := heldOver_shows (freqMean (clearOut s))
  refine answers_hub (exec_timeSourceLoss hst) h ?_
  rw [holdover_eq]
  refine ⟨?_, ?_, ?_, fun hhist => ?_, ?_⟩
  · exact (getF_raise 100 _ _ (by decide)).trans hstate
  · exact (congrArg (· == 1) (getF_raise 100 _ _ (by decide))).trans hvalid
  · exact (reg_raise 100 _ _ (by decide)).trans (hcount.trans (congrArg (· + 1) (hmean _ (by decide))))
  · have hnone : freqMean (clearOut s) = clearOut s := if_pos (by rw [clearOut_time, hhist]; rfl)
    rw [hnone]
    have hraised := (onlyRegs_heldOver (onlyRegs_clearOut s)).raised rfl
      (((regsBut_refl _ (clearOut s)).heldOver (ks := [fTimeState.key, R.TIME_HOLDOVER_ENTRIES])) _ (by decide)) 100 (getF s fSrcSel)
    exact (kept_onlyRaised hraised).symm ▸ hraised
  · exact ((hmean.mono (by decide)).heldOver).raise 100 _ (by decide)

/-- Settles O16: each clause is the completion lemma of its command above. -/
theorem timeCommandsComplete : Obligations.TimeCommandsComplete := by
  unfold Obligations.TimeCommandsComplete
  exact ⟨fun _ h hadj => answers_timeTick h hadj,
    fun _ h hadj hal hdisp hup0 hup1 hpair => answers_timeTick_alone h hadj hal hdisp hup0 hup1 hpair,
    fun _ h hadj hpair hdue hdisp => answers_timeTick_heartbeat h hadj hpair hdue hdisp,
    fun _ h => answers_timeSnap h,
    fun _ h => answers_timeAdjSet h,
    fun _ h => answers_timeAdjStep h,
    fun _ _ h hlink hw => answers_dreqTimer_first h hlink hw,
    fun _ _ h hlink hw hten => answers_dreqTimer_again h hlink hw hten,
    fun _ _ _ _ h hup => answers_dreqReceived h hup,
    fun _ _ _ _ _ _ _ _ _ _ _ h hup hw hseq ht1 hsrc hp2 hp3 => answers_drespReceived h hup hw hseq ht1 hsrc hp2 hp3,
    fun _ _ _ _ _ _ _ _ _ _ _ h hup hw hseq ht1 hsrc hp2 hp3 => answers_drespReceived_source h hup hw hseq ht1 hsrc hp2 hp3,
    fun _ h hst => answers_timeSourceLoss h hst⟩

end Sys2Proof.Machine

/-! ## The MACs (R178–R182, R203) -/

namespace Sys2Proof.Machine

variable {s t u : State} {k : Nat} {ks : List Nat}

/-! ### The overbooking check of M7 (R142) -/

theorem mac_raise (src d : Nat) (s : State) : (raise src d s).mac = s.mac := by rw [raise_frame]

theorem mac_overbookCheck (m : Nat) (s : State) : (overbookCheck m s).mac = s.mac := by
  unfold overbookCheck
  dsimp only
  split
  · exact mac_raise _ _ _
  · rfl

/-- The registers that the overbooking check of M7 writes. -/
abbrev overbookKeys : List Nat := [(fOverbooked 7).key, R.SCH_OVERBOOK_ENTRIES 7, R.CDC_OVERRUN_EVENTS]

theorem RegsBut.overbookCheck (h : RegsBut ks s t) (hks : ∀ j ∈ overbookKeys, j ∈ ks) :
    RegsBut ks s (Machine.overbookCheck 7 t) := by
  have hset (v : Nat) : RegsBut ks s (Machine.setF (fOverbooked 7) v t) := h.setF v (hks _ (by decide))
  unfold Machine.overbookCheck
  dsimp only
  split
  · exact ((hset _).bump (hks _ (by decide))).raise 52 7 (hks _ (by decide))
  · exact hset _

/-- A register of a MAC's page, or of the page of the four, is none of these. -/
theorem reg_overbookCheck (hk : 0x78000 ≤ k ∧ k < 0x80000) (s : State) : reg (overbookCheck 7 s) k = reg s k := by
  refine RegsBut.overbookCheck (regsBut_refl overbookKeys s) (fun _ hj => hj) k ?_
  simp only [List.mem_cons, List.not_mem_nil, or_false, R.SCH_STATUS, R.SCH_OVERBOOK_ENTRIES, R.CDC_OVERRUN_EVENTS]
  omega

/-! ### A line without link -/

/-- The registers that show a line's link, and those of the overbooking check. -/
abbrev linkKeys (k : Nat) : List Nat := R.MAC_STATUS k :: R.ETH_STATUS :: overbookKeys

/-- STATUS of the MAC and of ETH show no link. -/
def linkCleared (k : Nat) (s : State) : State :=
  setF ⟨R.MAC_STATUS k, 3, 1⟩ 0 (setF ⟨R.ETH_STATUS, k, 1⟩ 0 (setF (fMacSpeed k) 0 (setF (fMacLink k) 0 s)))

theorem macNoLink_eq (k : Nat) (s : State) : macNoLink k s = overbookCheck 7 (linkCleared k s) := rfl

theorem mac_macNoLink (k : Nat) (s : State) : (macNoLink k s).mac = s.mac := mac_overbookCheck _ _

theorem RegsBut.macNoLink (h : RegsBut ks s t) (hks : ∀ j ∈ linkKeys k, j ∈ ks) : RegsBut ks s (Machine.macNoLink k t) := by
  have hstatus : R.MAC_STATUS k ∈ ks := hks _ (by simp)
  have heth : R.ETH_STATUS ∈ ks := hks _ (by simp)
  have hcleared : RegsBut ks s (linkCleared k t) :=
    (((h.setF (f := fMacLink k) 0 hstatus).setF (f := fMacSpeed k) 0 hstatus).setF (f := ⟨R.ETH_STATUS, k, 1⟩) 0 heth).setF
      (f := ⟨R.MAC_STATUS k, 3, 1⟩) 0 hstatus
  rw [macNoLink_eq]
  exact hcleared.overbookCheck fun j hj => hks j (List.mem_cons_of_mem _ (List.mem_cons_of_mem _ hj))

theorem macStatus_ne_ethStatus (k : Nat) : R.MAC_STATUS k ≠ R.ETH_STATUS := by
  simp only [R.MAC_STATUS, R.ETH_STATUS]
  omega

/-- What a line shows without link. -/
theorem macNoLink_shows (hk : k < 4) (s : State) :
    bit (macNoLink k s) (fMacLink k) = false ∧ getF (macNoLink k s) (fMacSpeed k) = 0 ∧
      bit (macNoLink k s) ⟨R.ETH_STATUS, k, 1⟩ = false := by
  have hstatus : reg (macNoLink k s) (R.MAC_STATUS k) = reg (linkCleared k s) (R.MAC_STATUS k) :=
    reg_overbookCheck (by simp only [R.MAC_STATUS]; omega) _
  have heth : reg (macNoLink k s) R.ETH_STATUS = reg (linkCleared k s) R.ETH_STATUS := reg_overbookCheck (by decide) _
  have hne := macStatus_ne_ethStatus k
  rw [bit, bit, getF_of_reg (f := fMacLink k) hstatus, getF_of_reg (f := fMacSpeed k) hstatus,
    getF_of_reg (f := ⟨R.ETH_STATUS, k, 1⟩) heth]
  unfold linkCleared
  refine ⟨?_, ?_, ?_⟩
  · rw [getF_setF_beside _ _ (by decide), getF_setF_ne _ _ hne, getF_setF_beside _ _ (by decide)]
    exact bit_setF_zero _ _ _ (by decide)
  · rw [getF_setF_beside _ _ (by decide), getF_setF_ne _ _ hne, getF_setF_same _ _ _ (by simp)]
    rfl
  · rw [getF_setF_ne _ _ hne.symm]
    exact bit_setF_zero _ _ _ (by omega)

/-! ### MAC_ENABLE (R178) -/

/-- CTRL takes its writable bits. -/
def ctrlSet (k : Nat) (v : Word) (s : State) : State := setReg (R.MAC_CTRL k) (v &&& 0xFFF001F) s

theorem unpaired_ctrlSet (h : Unpaired s) (k : Nat) (v : Word) : Unpaired (ctrlSet k v s) :=
  unpaired_congr h (reg_setReg_ne _ _ (by simp only [R.DEV_MODE, R.MAC_CTRL]; omega))

/-- The word that MAC_ENABLE writes, in its writable bits: EN and MODE as given, the rest as they were. -/
abbrev enableWord (w : Word) (n : Nat) : Word := (w &&& ~~~7) ||| BitVec.ofNat 32 n

theorem enableWord_low (w : Word) {n : Nat} (hn : n < 8) : (enableWord w n &&& 0xFFF001F).toNat % 2 ^ 3 = n := by
  have hword : (BitVec.ofNat 32 n).toNat = n := by rw [BitVec.toNat_ofNat]; omega
  rw [BitVec.toNat_and, BitVec.toNat_or, BitVec.toNat_and, hword, Nat.and_mod_two_pow, Nat.or_mod_two_pow, Nat.and_mod_two_pow,
    show (~~~7 : Word).toNat % 2 ^ 3 = 0 by decide, show (0xFFF001F : Word).toNat % 2 ^ 3 = 2 ^ 3 - 1 by decide, Nat.and_zero,
    Nat.zero_or, Nat.and_two_pow_sub_one_eq_mod, Nat.mod_mod, Nat.mod_eq_of_lt hn]

/-- EN and MODE as MAC_ENABLE writes them. -/
theorem enableWord_shows {e md : Nat} (he : e < 2) (hmd : md < 4) (k : Nat) (w : Word) (s : State) :
    getF (ctrlSet k (enableWord w (e + md * 2)) s) (fMacEn k) = e ∧
      getF (ctrlSet k (enableWord w (e + md * 2)) s) ⟨R.MAC_CTRL k, 1, 2⟩ = md := by
  have hlow := enableWord_low w (n := e + md * 2) (by omega)
  simp only [getF, ctrlSet, reg_setReg_same, bits]
  omega

theorem macCtrlWrite_off (h : Unpaired s) {v : Word} (hmode : getF (ctrlSet k v s) ⟨R.MAC_CTRL k, 1, 2⟩ ≠ 3)
    (hen : bit (ctrlSet k v s) (fMacEn k) = false) : macCtrlWrite k v s = macNoLink k (ctrlSet k v s) := by
  have hen' : ¬ bit (ctrlSet k v s) (fMacEn k) = true := by simp [hen]
  unfold macCtrlWrite
  dsimp only
  rw [← ctrlSet, if_neg hmode, journalReg_unpaired (unpaired_ctrlSet h k v), if_neg hen']

theorem macCtrlWrite_on (h : Unpaired s) {v : Word} (hmode : getF (ctrlSet k v s) ⟨R.MAC_CTRL k, 1, 2⟩ ≠ 3)
    (hen : bit (ctrlSet k v s) (fMacEn k) = true) (hwas : bit s (fMacEn k) = false) :
    macCtrlWrite k v s = setF ⟨R.MAC_STATUS k, 5, 1⟩ 0 (macNoLink k
      (macSet k { macGet s k with mode := getF (ctrlSet k v s) ⟨R.MAC_CTRL k, 1, 2⟩ } (ctrlSet k v s))) := by
  have hwas' : ¬ bit s (fMacEn k) = true := by simp [hwas]
  unfold macCtrlWrite
  dsimp only
  rw [← ctrlSet, if_neg hmode, journalReg_unpaired (unpaired_ctrlSet h k v), if_pos hen, if_neg hwas']
  rfl

/-- MODE 3 enables nothing. -/
theorem macCtrlWrite_refused (h : Unpaired s) {v : Word} (hmode : getF (ctrlSet k v s) ⟨R.MAC_CTRL k, 1, 2⟩ = 3) :
    macCtrlWrite k v s = macNoLink k (setF (fMacEn k) 0 (ctrlSet k v s)) := by
  have hun : Unpaired (setF (fMacEn k) 0 (ctrlSet k v s)) :=
    unpaired_congr (unpaired_ctrlSet h k v) (reg_setF_ne _ _ (by simp only [R.DEV_MODE, R.MAC_CTRL]; omega))
  have hen : ¬ bit (setF (fMacEn k) 0 (ctrlSet k v s)) (fMacEn k) = true := by
    rw [bit_setF_zero _ _ _ (by decide)]
    decide
  unfold macCtrlWrite
  dsimp only
  rw [← ctrlSet, if_pos hmode, journalReg_unpaired hun, if_neg hen]

theorem exec_macEnable (k md : Fin 4) (s : State) : exec (.macEnable k md) s = hub s (fun s => macCtrlWrite k
    (enableWord (reg s (R.MAC_CTRL k))
      ((if bit s ⟨(0x79 + k) * 0x1000 + 0x00C, 0, 1⟩ then 1 else getF s (fMacEn k)) + md.val * 2)) s) := rfl

theorem reg_macNoLink_ctrl (hk : k < 4) (s : State) : reg (macNoLink k s) (R.MAC_CTRL k) = reg s (R.MAC_CTRL k) := by
  refine RegsBut.macNoLink (k := k) (regsBut_refl (linkKeys k) s) (fun _ hj => hj) _ ?_
  simp only [List.mem_cons, List.not_mem_nil, or_false, R.MAC_CTRL, R.MAC_STATUS, R.ETH_STATUS, R.SCH_STATUS,
    R.SCH_OVERBOOK_ENTRIES, R.CDC_OVERRUN_EVENTS]
  omega

theorem RegsBut.ctrlSet (k : Nat) (v : Word) (s : State) : RegsBut (R.MAC_CTRL k :: linkKeys k) s (Machine.ctrlSet k v s) :=
  (regsBut_refl _ s).setReg _ List.mem_cons_self

theorem macGet_kept (s t : State) (k : Nat) : macGet (kept s t) k = macGet t k := rfl

theorem macGet_setF (f : Fld) (v : Nat) (s : State) (k : Nat) : macGet (setF f v s) k = macGet s k := rfl

theorem macGet_macNoLink (k : Nat) (s : State) (j : Nat) : macGet (macNoLink k s) j = macGet s j := by
  rw [macGet, mac_macNoLink, ← macGet]

theorem RegsBut.kept (h : RegsBut ks s t) (u : State) : RegsBut ks s (Machine.kept u t) := h

theorem bit_kept (s t : State) (f : Fld) : bit (kept s t) f = bit t f := rfl

/-- MAC_ENABLE where the block is enabled. -/
theorem answers_macEnable_on {k md : Fin 4} (h : Runs s) (hu : Unpaired s) (hmd : md.val ≠ 3)
    (hpage : bit s ⟨(0x79 + k) * 0x1000 + 0x00C, 0, 1⟩ = true) (hen : bit s (fMacEn k) = false) :
    Answers (.macEnable k md) s (fun t =>
      bit t (fMacEn k) = true ∧ (macGet t k).mode = md.val ∧ bit t (fMacLink k) = false ∧ getF t (fMacSpeed k) = 0 ∧
      RegsBut [R.MAC_CTRL k, R.MAC_STATUS k, R.ETH_STATUS, (fOverbooked 7).key, R.SCH_OVERBOOK_ENTRIES 7, R.CDC_OVERRUN_EVENTS] s t) := by
  obtain ⟨hctrlEn, hctrlMode⟩ := enableWord_shows (e := 1) (by decide) md.isLt k (reg s (R.MAC_CTRL k)) (clearOut s)
  have hbit : bit (ctrlSet k (enableWord (reg s (R.MAC_CTRL k)) (1 + md.val * 2)) (clearOut s)) (fMacEn k) = true := by
    rw [bit, hctrlEn]
    rfl
  refine answers_hub (exec_macEnable k md s) h ?_
  dsimp only
  rw [if_pos (show bit (clearOut s) _ = true from hpage),
    show reg (clearOut s) (R.MAC_CTRL k) = reg s (R.MAC_CTRL k) from rfl,
    macCtrlWrite_on (s := clearOut s) hu (by rw [hctrlMode]; exact hmd) hbit hen, hctrlMode]
  have hctrl := RegsBut.ctrlSet k (enableWord (reg s (R.MAC_CTRL k)) (1 + md.val * 2)) (clearOut s)
  generalize ctrlSet k (enableWord (reg s (R.MAC_CTRL k)) (1 + md.val * 2)) (clearOut s) = u at hbit hctrl ⊢
  obtain ⟨hlink, hspeed, -⟩ := macNoLink_shows k.isLt (macSet k { macGet (clearOut s) k with mode := md.val } u)
  have hkey : R.MAC_CTRL k ≠ R.MAC_STATUS k := by simp only [R.MAC_CTRL, R.MAC_STATUS]; omega
  refine ⟨?_, ?_, ?_, ?_, ?_⟩
  · rw [bit_kept, bit, getF_setF_ne _ _ hkey, getF_of_reg (f := fMacEn k) (reg_macNoLink_ctrl k.isLt _)]
    exact hbit
  · rw [macGet_kept, macGet_setF, macGet_macNoLink, macGet_macSet_same]
  · rw [bit_kept, bit, getF_setF_beside _ _ (by decide)]
    exact hlink
  · rw [getF_kept, getF_setF_beside _ _ (by decide)]
    exact hspeed
  · exact RegsBut.kept (RegsBut.setF (f := ⟨R.MAC_STATUS k, 5, 1⟩) (RegsBut.macNoLink (k := k) (t := macSet k _ u) hctrl
      fun _ hj => List.mem_cons_of_mem _ hj) 0 (by simp)) s

/-- MAC_ENABLE with MODE 3. -/
theorem answers_macEnable_mode3 {k md : Fin 4} (h : Runs s) (hu : Unpaired s) (hmd : md.val = 3) :
    Answers (.macEnable k md) s (fun t => bit t (fMacEn k) = false) := by
  refine answers_hub (exec_macEnable k md s) h ?_
  have hlt : (if bit (clearOut s) ⟨(0x79 + k) * 0x1000 + 0x00C, 0, 1⟩ then 1 else getF (clearOut s) (fMacEn k)) < 2 := by
    split
    · decide
    · exact Nat.mod_lt _ (Nat.two_pow_pos _)
  generalize (if bit (clearOut s) ⟨(0x79 + k) * 0x1000 + 0x00C, 0, 1⟩ then 1 else getF (clearOut s) (fMacEn k)) = e at hlt ⊢
  obtain ⟨-, hctrlMode⟩ := enableWord_shows hlt md.isLt k (reg (clearOut s) (R.MAC_CTRL k)) (clearOut s)
  rw [macCtrlWrite_refused (s := clearOut s) hu (hctrlMode.trans hmd), bit_kept, bit,
    getF_of_reg (f := fMacEn k) (reg_macNoLink_ctrl k.isLt _)]
  exact bit_setF_zero _ _ _ (by decide)

/-- MAC_ENABLE where the block is not enabled: MODE is taken, and the MAC stays as it is. -/
theorem answers_macEnable_gated {k md : Fin 4} (h : Runs s) (hu : Unpaired s) (hmd : md.val ≠ 3)
    (hpage : bit s ⟨(0x79 + k) * 0x1000 + 0x00C, 0, 1⟩ = false) (hen : bit s (fMacEn k) = false) :
    Answers (.macEnable k md) s (fun t =>
      bit t (fMacEn k) = false ∧ getF t ⟨R.MAC_CTRL k, 1, 2⟩ = md.val ∧
      RegsBut [R.MAC_CTRL k, R.MAC_STATUS k, R.ETH_STATUS, (fOverbooked 7).key, R.SCH_OVERBOOK_ENTRIES 7, R.CDC_OVERRUN_EVENTS] s t) := by
  have hzero : getF (clearOut s) (fMacEn k) = 0 := by
    have hlt : getF (clearOut s) (fMacEn k) < 2 := Nat.mod_lt _ (Nat.two_pow_pos _)
    have hne : getF (clearOut s) (fMacEn k) ≠ 1 := ne_of_beq_false hen
    omega
  obtain ⟨hctrlEn, hctrlMode⟩ := enableWord_shows (e := 0) (by decide) md.isLt k (reg s (R.MAC_CTRL k)) (clearOut s)
  have hbit : bit (ctrlSet k (enableWord (reg s (R.MAC_CTRL k)) (0 + md.val * 2)) (clearOut s)) (fMacEn k) = false := by
    rw [bit, hctrlEn]
    rfl
  refine answers_hub (exec_macEnable k md s) h ?_
  dsimp only
  rw [if_neg (show ¬ bit (clearOut s) _ = true from Bool.not_eq_true _ ▸ hpage), hzero,
    show reg (clearOut s) (R.MAC_CTRL k) = reg s (R.MAC_CTRL k) from rfl,
    macCtrlWrite_off (s := clearOut s) hu (by rw [hctrlMode]; exact hmd) hbit]
  have hctrl := RegsBut.ctrlSet k (enableWord (reg s (R.MAC_CTRL k)) (0 + md.val * 2)) (clearOut s)
  refine ⟨?_, ?_, ?_⟩
  · rw [bit_kept, bit, getF_of_reg (f := fMacEn k) (reg_macNoLink_ctrl k.isLt _)]
    exact hbit
  · rw [getF_kept, getF_of_reg (f := ⟨R.MAC_CTRL k, 1, 2⟩) (reg_macNoLink_ctrl k.isLt _)]
    exact hctrlMode
  · exact RegsBut.kept (RegsBut.macNoLink (k := k) hctrl fun _ hj => List.mem_cons_of_mem _ hj) s

/-! ### MAC_LINK_UP and MAC_LINK_LOSS (R178) -/

/-- STATUS of the MAC and of ETH show the link. -/
def linkShown (k speed an : Nat) (s : State) : State :=
  setF ⟨R.ETH_STATUS, k, 1⟩ 1 (setF ⟨R.MAC_STATUS k, 5, 1⟩ 0 (setF ⟨R.MAC_STATUS k, 3, 1⟩ an
    (setF (fMacSpeed k) speed (setF (fMacLink k) 1 s))))

theorem linkShown_regsBut (k speed an : Nat) (s : State) : RegsBut (linkKeys k) s (linkShown k speed an s) := by
  have hstatus : R.MAC_STATUS k ∈ linkKeys k := List.mem_cons_self
  exact RegsBut.setF (f := ⟨R.ETH_STATUS, k, 1⟩) (RegsBut.setF (f := ⟨R.MAC_STATUS k, 5, 1⟩) (RegsBut.setF
    (f := ⟨R.MAC_STATUS k, 3, 1⟩) (RegsBut.setF (f := fMacSpeed k) (RegsBut.setF (f := fMacLink k) (regsBut_refl _ s) 1 hstatus)
      speed hstatus) an hstatus) 0 hstatus) 1 (List.mem_cons_of_mem _ List.mem_cons_self)

theorem linkShown_shows (hk : k < 4) {speed : Nat} (hspeed : speed < 4) (an : Nat) (s : State) :
    bit (linkShown k speed an s) (fMacLink k) = true ∧ getF (linkShown k speed an s) (fMacSpeed k) = speed ∧
      bit (linkShown k speed an s) ⟨R.ETH_STATUS, k, 1⟩ = true := by
  have hne := macStatus_ne_ethStatus k
  unfold linkShown
  refine ⟨?_, ?_, bit_setF_one _ _ _ (by omega)⟩
  · rw [bit, getF_setF_ne _ _ hne, getF_setF_beside _ _ (by decide), getF_setF_beside _ _ (by decide),
      getF_setF_beside _ _ (by decide)]
    exact bit_setF_one _ _ _ (by decide)
  · rw [getF_setF_ne _ _ hne, getF_setF_beside _ _ (by decide), getF_setF_beside _ _ (by decide)]
    exact getF_setF_fits _ (by simp) hspeed

theorem speedOf_lt (md phy : Nat) : speedOf md phy < 4 := by
  unfold speedOf
  split <;> omega

/-- Whether auto-negotiation runs on the line. -/
def anegRuns (k : Nat) (s : State) : Nat := if (macGet s k).mode ≠ 0 ∧ bit s ⟨R.MAC_CTRL k, 3, 1⟩ then 1 else 0

theorem exec_macLinkUp (k : Fin 4) (phy : Fin 3) (s : State) : exec (.macLinkUp k phy) s = hub s (fun s =>
    if bit s (fMacEn k) then overbookCheck 7 (linkShown k (speedOf (macGet s k).mode phy) (anegRuns k s) s) else s) := rfl

/-- The overbooking check leaves what a line shows. -/
theorem line_overbookCheck (hk : k < 4) (s : State) :
    bit (overbookCheck 7 s) (fMacLink k) = bit s (fMacLink k) ∧ getF (overbookCheck 7 s) (fMacSpeed k) = getF s (fMacSpeed k) ∧
      bit (overbookCheck 7 s) ⟨R.ETH_STATUS, k, 1⟩ = bit s ⟨R.ETH_STATUS, k, 1⟩ := by
  have hstatus : reg (overbookCheck 7 s) (R.MAC_STATUS k) = reg s (R.MAC_STATUS k) :=
    reg_overbookCheck (by simp only [R.MAC_STATUS]; omega) _
  have heth : reg (overbookCheck 7 s) R.ETH_STATUS = reg s R.ETH_STATUS := reg_overbookCheck (by decide) _
  rw [bit, bit, bit, bit, getF_of_reg (f := fMacLink k) hstatus, getF_of_reg (f := fMacSpeed k) hstatus,
    getF_of_reg (f := ⟨R.ETH_STATUS, k, 1⟩) heth]
  exact ⟨rfl, rfl, rfl⟩

theorem answers_macLinkUp {k : Fin 4} {phy : Fin 3} (h : Runs s) (hen : bit s (fMacEn k) = true) :
    Answers (.macLinkUp k phy) s (fun t =>
      bit t (fMacLink k) = true ∧ getF t (fMacSpeed k) = speedOf (macGet s k).mode phy ∧
      bit t ⟨R.ETH_STATUS, k, 1⟩ = true ∧
      RegsBut [R.MAC_STATUS k, R.ETH_STATUS, (fOverbooked 7).key, R.SCH_OVERBOOK_ENTRIES 7, R.CDC_OVERRUN_EVENTS] s t) := by
  have hregs := linkShown_regsBut k (speedOf (macGet s k).mode phy) (anegRuns k (clearOut s)) (clearOut s)
  have hshown := linkShown_shows k.isLt (speedOf_lt (macGet s k).mode phy) (anegRuns k (clearOut s)) (clearOut s)
  refine answers_hub (exec_macLinkUp k phy s) h ?_
  dsimp only
  rw [if_pos (show bit (clearOut s) _ = true from hen), show macGet (clearOut s) k = macGet s k from rfl]
  generalize linkShown k (speedOf (macGet s k).mode phy) (anegRuns k (clearOut s)) (clearOut s) = u at hregs hshown ⊢
  obtain ⟨hlink, hspeed, heth⟩ := line_overbookCheck k.isLt u
  rw [bit_kept, bit_kept, getF_kept, hlink, hspeed, heth]
  obtain ⟨hlink', hspeed', heth'⟩ := hshown
  exact ⟨hlink', hspeed', heth', RegsBut.kept (RegsBut.overbookCheck hregs fun _ hj => List.mem_cons_of_mem _ (List.mem_cons_of_mem _ hj)) s⟩

theorem exec_macLinkLoss (k : Fin 4) (remote : Bool) (s : State) : exec (.macLinkLoss k remote) s = hub s (fun s =>
    if bit s (fMacLink k) then
      raise (64 + k) (if remote then 1 else 0) (setF ⟨R.MAC_STATUS k, 5, 1⟩ (if remote then 1 else 0) (macNoLink k s))
    else s) := rfl

theorem answers_macLinkLoss {k : Fin 4} {remote : Bool} (h : Runs s) (hlink : bit s (fMacLink k) = true) :
    Answers (.macLinkLoss k remote) s (fun t =>
      bit t (fMacLink k) = false ∧ getF t (fMacSpeed k) = 0 ∧ bit t ⟨R.MAC_STATUS k, 5, 1⟩ = remote ∧
      bit t ⟨R.ETH_STATUS, k, 1⟩ = false ∧
      RegsBut [R.MAC_STATUS k, R.ETH_STATUS, (fOverbooked 7).key, R.SCH_OVERBOOK_ENTRIES 7, R.CDC_OVERRUN_EVENTS] s t) := by
  have hstatus : R.MAC_STATUS k ≠ R.CDC_OVERRUN_EVENTS := by
    have := k.isLt
    simp only [R.MAC_STATUS, R.CDC_OVERRUN_EVENTS]
    omega
  have hne := macStatus_ne_ethStatus k
  obtain ⟨hdown, hspeed, heth⟩ := macNoLink_shows k.isLt (clearOut s)
  refine answers_hub (exec_macLinkLoss k remote s) h ?_
  dsimp only
  rw [if_pos (show bit (clearOut s) _ = true from hlink)]
  refine ⟨?_, ?_, ?_, ?_, ?_⟩
  · rw [bit_kept, bit, getF_raise (f := fMacLink k) _ _ _ hstatus, getF_setF_beside _ _ (by decide)]
    exact hdown
  · rw [getF_kept, getF_raise (f := fMacSpeed k) _ _ _ hstatus, getF_setF_beside _ _ (by decide)]
    exact hspeed
  · rw [bit_kept, bit, getF_raise (f := ⟨R.MAC_STATUS k, 5, 1⟩) _ _ _ hstatus]
    cases remote with
    | true => exact bit_setF_one _ _ _ (by decide)
    | false => exact bit_setF_zero _ _ _ (by decide)
  · rw [bit_kept, bit, getF_raise (f := ⟨R.ETH_STATUS, k, 1⟩) _ _ _ (show R.ETH_STATUS ≠ R.CDC_OVERRUN_EVENTS by decide),
      getF_setF_ne _ _ hne.symm]
    exact heth
  · exact RegsBut.raise (RegsBut.setF (f := ⟨R.MAC_STATUS k, 5, 1⟩) (RegsBut.macNoLink (k := k) (regsBut_refl _ (clearOut s))
      fun _ hj => hj) _ List.mem_cons_self) _ _ (by simp)

/-! ### Frames that a line sends, and its errors (R178, R182, R203) -/

theorem exec_macFrameReceived (k : Fin 4) (frame : Timed (List Byte)) (parity : Bool) (s : State) :
    exec (.macFrameReceived k frame parity) s = execMacFrameReceived k frame parity s := rfl

/-- A frame with a wrong FCS. -/
theorem answers_macFrameReceived_fcsErr {k : Fin 4} {frame : List Byte} {parity : Bool} {phase : Fin 8} (h : Runs s)
    (hen : bit s (fMacEn k) = true) (hlink : bit s (fMacLink k) = true)
    (hfcs : frame.drop (frame.length - 4) ≠ bytesLE 4 (fcs32 (frame.take (frame.length - 4))).toNat) :
    Answers (.macFrameReceived k ⟨frame, phase⟩ parity) s (fun t =>
      reg t (R.MAC_RX_FCS_ERR k) = reg s (R.MAC_RX_FCS_ERR k) + 1 ∧ RegsBut [R.MAC_RX_FCS_ERR k] s t ∧ OnlyRegs s t ∧
      t.out = []) := by
  have hup : ¬ ¬ (bit (clearOut s) (fMacEn k) = true ∧ bit (clearOut s) (fMacLink k) = true) := not_not_intro ⟨hen, hlink⟩
  exact answers_hub_eq (t := bump (R.MAC_RX_FCS_ERR k) (clearOut s)) (exec_macFrameReceived k ⟨frame, phase⟩ parity s) h
    ((if_neg hup).trans (if_pos hfcs)) rfl rfl
    ⟨reg_bump_same _ _, (regsBut_refl _ s).bump List.mem_cons_self, rfl, rfl⟩

theorem exec_macFrameTransmit (tag : Byte) (stamp : Option (BitVec 48 × BitVec 32)) (frame : Timed (List Byte)) (s : State) :
    exec (.macFrameTransmit tag stamp frame) s = execMacFrameTransmit tag stamp frame s := rfl

/-- A frame without a PTP message leaves as it is. -/
theorem exec_macFrameTransmit_plain {tag : Byte} {stamp : Option (BitVec 48 × BitVec 32)} {frame : List Byte} {phase : Fin 8}
    (htag : tag.toNat < 4) (hen : bit s (fMacEn tag.toNat) = true) (hlink : bit s (fMacLink tag.toNat) = true)
    (hptp : ptpAt frame = none) :
    exec (.macFrameTransmit tag stamp ⟨frame, phase⟩) s = hub s (macSend tag.toNat frame) := by
  have hup : ¬ ¬ (bit (clearOut s) (fMacEn tag.toNat) = true ∧ bit (clearOut s) (fMacLink tag.toNat) = true) :=
    not_not_intro ⟨hen, hlink⟩
  rw [exec_macFrameTransmit]
  refine hub_congr ?_
  dsimp only
  rw [if_neg (Nat.not_le.2 htag), Nat.mod_eq_of_lt htag, if_neg hup, hptp]

theorem answers_macFrameTransmit {tag : Byte} {stamp : Option (BitVec 48 × BitVec 32)} {frame : List Byte} {phase : Fin 8}
    (h : Runs s) (htag : tag.toNat < 4) (hen : bit s (fMacEn tag.toNat) = true) (hlink : bit s (fMacLink tag.toNat) = true)
    (hptp : ptpAt frame = none) :
    Answers (.macFrameTransmit tag stamp ⟨frame, phase⟩) s (fun t =>
      t.out = [.macFrame tag.toNat frame] ∧
      cnt64 t (R.MAC_TX_FRAMES tag.toNat) = (cnt64 s (R.MAC_TX_FRAMES tag.toNat) + 1) % 2 ^ 64 ∧
      RegsBut [R.MAC_TX_FRAMES tag.toNat, R.MAC_TX_FRAMES tag.toNat + 4] s t ∧ OnlyRegs s t) :=
  answers_hub_eq (exec_macFrameTransmit_plain htag hen hlink hptp) h rfl rfl rfl
    ⟨rfl, cnt64_bump64 _ _, RegsBut.bump64 (regsBut_refl _ (clearOut s)) (by simp) (by simp), rfl⟩

/-- The errors of a line at the last second boundary. -/
def fcsTaken (k : Nat) (s : State) : State :=
  macSet k { macGet s k with fcsSeen := (reg s (R.MAC_RX_FCS_ERR k)).toNat } s

theorem exec_fcsSecondInterval (k : Fin 4) (s : State) : exec (.fcsSecondInterval k) s = hub s (fun s =>
    if getF (fcsTaken k s) ⟨R.MAC_FCS_THRESH k, 0, 16⟩ <
        ((reg s (R.MAC_RX_FCS_ERR k)).toNat + 2 ^ 32 - (macGet s k).fcsSeen) % 2 ^ 32 then
      raise 68 k (fcsTaken k s)
    else fcsTaken k s) := rfl

theorem answers_fcsSecondInterval {k : Fin 4} (h : Runs s)
    (hfew : ((reg s (R.MAC_RX_FCS_ERR k)).toNat + 2 ^ 32 - (macGet s k).fcsSeen) % 2 ^ 32 ≤ getF s ⟨R.MAC_FCS_THRESH k, 0, 16⟩) :
    Answers (.fcsSecondInterval k) s (fun t =>
      t = macSet k { macGet s k with fcsSeen := (reg s (R.MAC_RX_FCS_ERR k)).toNat } { s with out := [] }) :=
  answers_hub_eq (exec_fcsSecondInterval k s) h (if_neg (Nat.not_lt.2 hfew)) rfl rfl rfl

theorem answers_fcsSecondInterval_raised {k : Fin 4} (h : Runs s)
    (hmany : getF s ⟨R.MAC_FCS_THRESH k, 0, 16⟩ < ((reg s (R.MAC_RX_FCS_ERR k)).toNat + 2 ^ 32 - (macGet s k).fcsSeen) % 2 ^ 32) :
    Answers (.fcsSecondInterval k) s (fun t =>
      macGet t k = { macGet s k with fcsSeen := (reg s (R.MAC_RX_FCS_ERR k)).toNat } ∧
      OnlyRaised 68 k { s with mac := t.mac } t ∧ RegsBut [R.CDC_OVERRUN_EVENTS] s t) := by
  have hmac : (raise 68 k (fcsTaken k (clearOut s))).mac = (fcsTaken k (clearOut s)).mac := mac_raise _ _ _
  have hregs : OnlyRegs { s with mac := (fcsTaken k (clearOut s)).mac } (fcsTaken k (clearOut s)) := rfl
  have hraised := hregs.raised rfl rfl 68 k
  refine answers_onlyRaised (exec_fcsSecondInterval k s) h (if_pos hmany) hraised rfl rfl ⟨?_, ?_, ?_⟩
  · rw [macGet, hmac]
    exact macGet_macSet_same _ _ _
  · rw [hmac]
    exact hraised
  · exact RegsBut.raise (t := fcsTaken k (clearOut s)) (fun _ _ => rfl) 68 k (by decide)

end Sys2Proof.Machine

/-! ## What forwarding leaves of the counts of frames (R184–R189) -/

namespace Sys2Proof.Machine

variable {s t u : State} {k : Nat} {f : Fld}

/-- A register at the offset of the frames that a MAC has received, or of the lookups of FWD. -/
def CountKey (k : Nat) : Prop := (k % 0x1000 = 0x800 ∨ k % 0x1000 = 0x804) ∧ k < 0x80000

/-- The counts at these offsets are as before. -/
def CountsKept (s t : State) : Prop := ∀ j, CountKey j → reg t j = reg s j

namespace CountsKept

theorem refl (s : State) : CountsKept s s := fun _ _ => rfl

theorem trans (h : CountsKept s t) (h' : CountsKept t u) : CountsKept s u := fun j hj => (h' j hj).trans (h j hj)

theorem same (h : CountsKept s t) (e : u.regs = t.regs) : CountsKept s u := h.trans fun j _ => reg_congr e j

theorem setReg (h : CountsKept s t) (v : Word) (hk : ¬ CountKey k) : CountsKept s (Machine.setReg k v t) :=
  h.trans fun _ hj => reg_setReg_ne v t fun e => hk (e ▸ hj)

theorem setF (h : CountsKept s t) (v : Nat) (hk : ¬ CountKey f.key) : CountsKept s (Machine.setF f v t) := h.setReg _ hk

theorem bump (h : CountsKept s t) (hk : ¬ CountKey k) : CountsKept s (Machine.bump k t) := h.setReg _ hk

theorem bump64 (h : CountsKept s t) (hk : ¬ CountKey k) (hk' : ¬ CountKey (k + 4)) : CountsKept s (Machine.bump64 k t) :=
  (h.setReg _ hk).setReg _ hk'

/-- A counter of MAC `k` at another offset of its page. -/
theorem bumpAt {off : Nat} (h : CountsKept s t) (k : Nat) (hoff : off % 0x1000 ≠ 0x800 ∧ off % 0x1000 ≠ 0x804) :
    CountsKept s (Machine.bump (off + k * 0x1000) t) :=
  h.bump (by unfold CountKey; omega)

theorem ite {c : Prop} [Decidable c] (ht : CountsKept s t) (hu : CountsKept s u) : CountsKept s (if c then t else u) := by
  split
  · exact ht
  · exact hu

theorem raise (h : CountsKept s t) (src d : Nat) : CountsKept s (Machine.raise src d t) :=
  h.trans fun j hj => reg_raise src d t (by
    rintro rfl
    exact absurd hj.2 (by decide))

theorem limited (h : CountsKept s t) (key period : Nat) {f : State → State} (hf : ∀ u, CountsKept s u → CountsKept s (f u)) :
    CountsKept s (Machine.limited key period f t) := by
  unfold Machine.limited
  dsimp only
  exact ite (hf _ (h.same rfl)) h

theorem injected (h : CountsKept s t) (page chk writes : Nat) : CountsKept s (Machine.injected page chk writes t) := by
  have hkey : ¬ CountKey (page * 0x1000 + 0x040) := by unfold CountKey; omega
  have hcount (n : Nat) (u : State) (hu : CountsKept s u) : CountsKept s (addCnt R.FLT_FI_INJECTIONS n u) :=
    hu.setReg _ (by unfold CountKey; decide)
  unfold Machine.injected
  dsimp only
  exact ite (ite (setF (f := ⟨page * 0x1000 + 0x040, 0, 1⟩) (hcount _ _ (h.same (by rfl))) 0 hkey) (hcount _ _ (h.same (by rfl)))) h

/-! ### The steps of forwarding -/

theorem fwdSet (h : CountsKept s t) (i : Nat) (e : Option FwdEntry) : CountsKept s (Machine.fwdSet i e t) := by
  unfold Machine.fwdSet
  dsimp only
  exact (injected (h.same (by rfl)) _ _ _).setReg _ (by unfold CountKey; decide)

theorem fwdParity (h : CountsKept s t) (i : Nat) : CountsKept s (Machine.fwdParity i t) :=
  raise (bump (h.fwdSet i none) (by unfold CountKey; decide)) 69 i

end CountsKept

/-- What a tag of the set does of the frame: taken, skipped or held. -/
def memberStep (k : Nat) (c : Category) (a : List Nat × Nat × State) (t : Nat) : List Nat × Nat × State :=
  let (ok, n, s) := a
  match lookup s 7 t true with
  | none => (ok, n + 1, bump (R.MAC_NO_TUNNEL k) s)
  | some (i, e) =>
    if !memberPermitted c e then (ok, n + 1, bump (R.MAC_CLASS_SKIP k) s)
    else if e.origin && e.terminus && e.egMort == 7 && e.egTid % 4 == k then (ok, n + 1, bump (R.MAC_SPLIT_HORIZON k) s)
    else if !running s i then (ok, n + 1, bump (R.MAC_HELD_SKIP k) s)
    else (ok ++ [t], n, s)

theorem members_eq (k : Nat) (c : Category) (tags : List Nat) (s : State) :
    members k c tags s = tags.foldl (memberStep k c) ([], 0, s) := rfl

theorem CountsKept.memberStep (k : Nat) (c : Category) {a : List Nat × Nat × State} (h : CountsKept s a.2.2) (t : Nat) :
    CountsKept s (Machine.memberStep k c a t).2.2 := by
  obtain ⟨ok, n, u⟩ := a
  unfold Machine.memberStep
  dsimp only
  split
  · exact h.bumpAt k (by decide)
  split
  · exact h.bumpAt k (by decide)
  split
  · exact h.bumpAt k (by decide)
  split
  · exact h.bumpAt k (by decide)
  · exact h

theorem CountsKept.members (h : CountsKept s t) (k : Nat) (c : Category) (tags : List Nat) :
    CountsKept s (Machine.members k c tags t).2.2 := by
  rw [members_eq]
  have hfold (a : List Nat × Nat × State) (ha : CountsKept s a.2.2) : CountsKept s (tags.foldl (Machine.memberStep k c) a).2.2 := by
    induction tags generalizing a with
    | nil => exact ha
    | cons x tags ih => exact ih _ (ha.memberStep k c x)
  exact hfold _ h

/-- The entry that the lookup finds, unless its parity is wrong. -/
def fwdHit (vid da : Nat) (parity : Bool) (s : State) : Option Nat × State :=
  match fwdFind s vid da with
  | some i => if parity || fwdSpoiled s i then (none, fwdParity i s) else (some i, s)
  | none => (none, s)

/-- The tunnel set that the frame goes to. -/
def fwdTset (k : Nat) (r : Option Nat × State) : Nat × State :=
  match r.1 with
  | some i =>
    let e := (fwdGet r.2 i).getD { vid := 0, da := 0, tset := 0 }
    (e.tset, bump64 R.FWD_HITS (fwdSet i (some { e with hits := (e.hits + 1) % 2 ^ 32 }) r.2))
  | none => (getF r.2 ⟨R.MAC_MISS_TSET k, 0, 6⟩, bump64 R.FWD_MISSES (bump (R.MAC_FWD_MISS k) r.2))

/-- The entry counts the members that were skipped. -/
def fwdSkips (hit : Option Nat) (skips : Nat) (s : State) : State :=
  match hit with
  | some i =>
    match fwdGet s i with
    | some e => fwdSet i (some { e with skips := min 65535 (e.skips + skips) }) s
    | none => s
  | none => s

/-- The copies for the members that take the frame enter M7's queue, where the receive buffer has room. -/
def fwdQueued (k : Nat) (rx : Plumb) (f : List Byte) (ok : List Nat) (s : State) : State :=
  if ok.isEmpty then bump (R.MAC_NO_EGRESS k) s
  else
    let room := if category f = .general then 49152 else 65536
    if room < rxBufUsed s k + f.length then
      limited (71 * 1024 + k) tenUs (raise 71 k) (bump (R.MAC_RX_BUF_DROP k) s)
    else
      enqueueFrames (ok.zipIdx.map (fun p =>
        { tag := p.1, data := f, src := k, stamp := some rx, last := p.2 + 1 == ok.length, ahead := category f != .general })) s

/-- What a lookup does with a frame outside Time. -/
def fwdGo (k : Nat) (rx : Plumb) (f : List Byte) (parity : Bool) (s : State) : State :=
  let vid := if frameVid f = 0 then getF s ⟨R.MAC_CTRL k, 16, 12⟩ else frameVid f
  let r := fwdHit vid (ofBE (f.take 6)) parity (bump64 R.FWD_LOOKUPS s)
  let q := fwdTset k r
  let m := members k (category f) (tsetTags q.2 q.1) q.2
  fwdQueued k rx f m.1 (fwdSkips r.1 m.2.1 m.2.2)

theorem forwardFrame_eq (k : Nat) (rx : Plumb) {f : List Byte} (parity : Bool) (s : State) (hc : category f ≠ .time) :
    forwardFrame k rx f parity s = fwdGo k rx f parity s := by
  unfold forwardFrame
  dsimp only
  rw [if_neg hc]
  rfl

namespace CountsKept

theorem fwdHit (h : CountsKept s t) (vid da : Nat) (parity : Bool) : CountsKept s (Machine.fwdHit vid da parity t).2 := by
  unfold Machine.fwdHit
  split
  · split
    · exact h.fwdParity _
    · exact h
  · exact h

theorem fwdTset {r : Option Nat × State} (h : CountsKept s r.2) (k : Nat) : CountsKept s (Machine.fwdTset k r).2 := by
  unfold Machine.fwdTset
  split
  · exact (h.fwdSet _ _).bump64 (by unfold CountKey; decide) (by unfold CountKey; decide)
  · exact (h.bumpAt k (by decide)).bump64 (by unfold CountKey; decide) (by unfold CountKey; decide)

theorem fwdSkips (h : CountsKept s t) (hit : Option Nat) (skips : Nat) : CountsKept s (Machine.fwdSkips hit skips t) := by
  unfold Machine.fwdSkips
  split
  · split
    · exact h.fwdSet _ _
    · exact h
  · exact h

theorem enqueueFrames (h : CountsKept s t) (fs : List InFrame) : CountsKept s (Machine.enqueueFrames fs t) := by
  unfold Machine.enqueueFrames
  dsimp only
  exact ite (h.same rfl) (h.same rfl)

theorem fwdQueued (h : CountsKept s t) (k : Nat) (rx : Plumb) (f : List Byte) (ok : List Nat) :
    CountsKept s (Machine.fwdQueued k rx f ok t) := by
  unfold Machine.fwdQueued
  dsimp only
  exact ite (h.bumpAt k (by decide)) (ite ((h.bumpAt k (by decide)).limited _ _ fun _ hu => hu.raise 71 k) (h.enqueueFrames _))

/-- After the lookup is counted, forwarding leaves these counts. -/
theorem fwdGo (k : Nat) (rx : Plumb) (f : List Byte) (parity : Bool) (s : State) :
    CountsKept (Machine.bump64 R.FWD_LOOKUPS s) (Machine.fwdGo k rx f parity s) := by
  unfold Machine.fwdGo
  dsimp only
  exact fwdQueued (fwdSkips (members (fwdTset (fwdHit (refl _) _ _ _) k) k _ _) _ _) k rx f _

theorem cnt64_eq (h : CountsKept s t) (hk : CountKey k) (hk' : CountKey (k + 4)) : cnt64 t k = cnt64 s k :=
  cnt64_congr (h k hk) (h (k + 4) hk')

end CountsKept

/-! ### MAC_FRAME_RECEIVED -/

/-- A frame without a PTP message is not of Time. -/
theorem category_of_ptpAt {f : List Byte} (h : ptpAt f = none) : category f ≠ .time := by
  unfold ptpAt at h
  split at h
  · cases h
  · next heth =>
    split at h
    · cases h
    · next hudp =>
      unfold category
      dsimp only
      rw [if_neg (show ¬ (etherType f = 0x88F7 ∨ udpPtp f = true) from not_or.2 ⟨heth, hudp⟩)]
      split <;> decide

theorem exec_macFrameReceived_forwards {k : Fin 4} {frame : List Byte} {parity : Bool} {phase : Fin 8}
    (hen : bit s (fMacEn k) = true) (hlink : bit s (fMacLink k) = true)
    (hfcs : frame.drop (frame.length - 4) = bytesLE 4 (fcs32 (frame.take (frame.length - 4))).toNat)
    (hmin : 64 ≤ frame.length) (hmax : frame.length ≤ clampN 64 9600 (getF s ⟨R.MAC_MAX_FRAME k, 0, 14⟩))
    (hctl : etherType frame ≠ 0x8808) (hptp : ptpAt frame = none) (hruns : etherRuns s = true) :
    exec (.macFrameReceived k ⟨frame, phase⟩ parity) s = hub s (fun u =>
      forwardFrame k (stampAt 56 phase s) frame parity (bump64 (R.MAC_RX_FRAMES k) u)) := by
  have hup : ¬ ¬ (bit (clearOut s) (fMacEn k) = true ∧ bit (clearOut s) (fMacLink k) = true) := not_not_intro ⟨hen, hlink⟩
  have hmax' : ¬ clampN 64 9600 (getF (clearOut s) ⟨R.MAC_MAX_FRAME k, 0, 14⟩) < frame.length := Nat.not_lt.2 hmax
  have hruns' : etherRuns (bump64 (R.MAC_RX_FRAMES k) (clearOut s)) = true := by
    have hmode : mode (bump64 (R.MAC_RX_FRAMES k) (clearOut s)) = mode s := by
      refine getF_bump64 (f := fCur) _ _ ?_ ?_
      · simp only [R.DEV_MODE, R.MAC_RX_FRAMES]; omega
      · simp only [R.DEV_MODE, R.MAC_RX_FRAMES]; omega
    rw [etherRuns, hmode]
    exact hruns
  have hstamp : stampAt 56 phase (clearOut s) = stampAt 56 phase s := rfl
  rw [exec_macFrameReceived]
  refine hub_congr ?_
  dsimp only
  rw [if_neg hup, if_neg (not_not_intro hfcs), if_neg (Nat.not_lt.2 hmin), if_neg hmax', if_neg hctl, hptp, hstamp, hruns']
  exact if_neg (by simp)

theorem cnt64_kept (s t : State) (k : Nat) : cnt64 (kept s t) k = cnt64 t k := rfl

theorem answers_macFrameReceived {k : Fin 4} {frame : List Byte} {parity : Bool} {phase : Fin 8} (h : Runs s)
    (hen : bit s (fMacEn k) = true) (hlink : bit s (fMacLink k) = true)
    (hfcs : frame.drop (frame.length - 4) = bytesLE 4 (fcs32 (frame.take (frame.length - 4))).toNat)
    (hmin : 64 ≤ frame.length) (hmax : frame.length ≤ clampN 64 9600 (getF s ⟨R.MAC_MAX_FRAME k, 0, 14⟩))
    (hctl : etherType frame ≠ 0x8808) (hptp : ptpAt frame = none) (hruns : etherRuns s = true) :
    Answers (.macFrameReceived k ⟨frame, phase⟩ parity) s (fun t =>
      cnt64 t (R.MAC_RX_FRAMES k) = (cnt64 s (R.MAC_RX_FRAMES k) + 1) % 2 ^ 64 ∧
      cnt64 t R.FWD_LOOKUPS = (cnt64 s R.FWD_LOOKUPS + 1) % 2 ^ 64 ∧
      t = kept s (forwardFrame k (stampAt 56 phase s) frame parity (bump64 (R.MAC_RX_FRAMES k) (clearOut s)))) := by
  have hkept : CountsKept (bump64 R.FWD_LOOKUPS (bump64 (R.MAC_RX_FRAMES k) (clearOut s)))
      (forwardFrame k (stampAt 56 phase s) frame parity (bump64 (R.MAC_RX_FRAMES k) (clearOut s))) := by
    rw [forwardFrame_eq _ _ _ _ (category_of_ptpAt hptp)]
    exact .fwdGo _ _ _ _ _
  have hk := k.isLt
  refine answers_hub (exec_macFrameReceived_forwards hen hlink hfcs hmin hmax hctl hptp hruns) h ⟨?_, ?_, rfl⟩
  · have hlookups := RegsBut.bump64 (regsBut_refl [R.FWD_LOOKUPS, R.FWD_LOOKUPS + 4] (bump64 (R.MAC_RX_FRAMES k) (clearOut s)))
      (k := R.FWD_LOOKUPS) (by decide) (by decide)
    rw [cnt64_kept, hkept.cnt64_eq (by simp only [CountKey, R.MAC_RX_FRAMES]; omega) (by simp only [CountKey, R.MAC_RX_FRAMES]; omega),
      hlookups.cnt64_eq (by simp only [List.mem_cons, List.not_mem_nil, or_false, R.MAC_RX_FRAMES, R.FWD_LOOKUPS]; omega)
        (by simp only [List.mem_cons, List.not_mem_nil, or_false, R.MAC_RX_FRAMES, R.FWD_LOOKUPS]; omega)]
    exact cnt64_bump64 _ _
  · have hframes := RegsBut.bump64 (regsBut_refl [R.MAC_RX_FRAMES k, R.MAC_RX_FRAMES k + 4] (clearOut s))
      (k := R.MAC_RX_FRAMES k) (by simp) (by simp)
    rw [cnt64_kept, hkept.cnt64_eq (by unfold CountKey; decide) (by unfold CountKey; decide), cnt64_bump64,
      hframes.cnt64_eq (by simp only [List.mem_cons, List.not_mem_nil, or_false, R.MAC_RX_FRAMES, R.FWD_LOOKUPS]; omega)
        (by simp only [List.mem_cons, List.not_mem_nil, or_false, R.MAC_RX_FRAMES, R.FWD_LOOKUPS]; omega)]
    rfl

end Sys2Proof.Machine

/-! ## The forwarding table, and the commands of Ethernet together (R187–R190) -/

namespace Sys2Proof.Machine

variable {s t u : State} {k i : Nat} {ks : List Nat}

/-! ### An entry changes -/

/-- An injection takes what is left of its writes, and shows that it is over. -/
theorem injected_frame (page chk writes : Nat) (s : State) : injected page chk writes s =
    { s with regs := (injected page chk writes s).regs, fi := (injected page chk writes s).fi } := by
  unfold injected
  dsimp only
  split
  · split <;> rfl
  · rfl

theorem RegsBut.injected {page : Nat} (h : RegsBut ks s t) (chk writes : Nat) (hpage : page * 0x1000 + 0x040 ∈ ks)
    (hcount : R.FLT_FI_INJECTIONS ∈ ks) : RegsBut ks s (Machine.injected page chk writes t) := by
  have hspent (n : Nat) (u : State) (hu : RegsBut ks s u) : RegsBut ks s (addCnt R.FLT_FI_INJECTIONS n u) := hu.setReg _ hcount
  unfold Machine.injected
  dsimp only
  split
  · split
    · exact RegsBut.setF (f := ⟨page * 0x1000 + 0x040, 0, 1⟩) (hspent _ _ h) 0 hpage
    · exact hspent _ _ h
  · exact h

/-- The registers that a change of the table may touch. -/
abbrev fwdKeys : List Nat := [R.FWD_RESULT, R.FWD_STATUS, 0x7D040, R.FLT_FI_INJECTIONS]

/-- The entry as the table keeps it: an injection may have spoiled its parity (R359). -/
def fwdKept (s : State) (e : Option FwdEntry) : Option FwdEntry := e.map fun e => { e with fi := spoils s 0x7D 0 1 }

/-- The table with entry `i`. -/
def fwdStored (i : Nat) (e : Option FwdEntry) (s : State) : State := { s with fwd := smSet dFwd s.fwd i (fwdKept s e) }

/-- The entries of the table, and those of the CAM, as FWD.STATUS counts them. -/
def fwdCounted (s : State) : Word :=
  BitVec.ofNat 32 (s.fwd.length + (s.fwd.filter (fun p => decide (4096 ≤ p.1))).length * 65536)

theorem fwdSet_eq (i : Nat) (e : Option FwdEntry) (s : State) : fwdSet i e s =
    setReg R.FWD_STATUS (fwdCounted (injected 0x7D 0 1 (fwdStored i e s))) (injected 0x7D 0 1 (fwdStored i e s)) := rfl

/-- Nothing has changed but registers, the table and what an injection has left. -/
def OnlyTable (s t : State) : Prop := t = { s with regs := t.regs, fwd := t.fwd, fi := t.fi }

theorem OnlyTable.setReg (h : OnlyTable s t) (k : Nat) (v : Word) : OnlyTable s (Machine.setReg k v t) := by
  unfold OnlyTable at *
  generalize t.regs = r, t.fwd = w, t.fi = x at h
  subst h
  rfl

theorem OnlyTable.setF (h : OnlyTable s t) (f : Fld) (v : Nat) : OnlyTable s (Machine.setF f v t) := h.setReg _ _

theorem onlyTable_fwdSet (i : Nat) (e : Option FwdEntry) (s : State) : OnlyTable s (fwdSet i e s) := by
  have htable : OnlyTable s (injected 0x7D 0 1 (fwdStored i e s)) := by
    unfold OnlyTable
    rw [injected_frame]
    rfl
  rw [fwdSet_eq]
  exact htable.setReg _ _

theorem fwd_fwdSet (i : Nat) (e : Option FwdEntry) (s : State) : (fwdSet i e s).fwd = smSet dFwd s.fwd i (fwdKept s e) := by
  have hfwd : (injected 0x7D 0 1 (fwdStored i e s)).fwd = smSet dFwd s.fwd i (fwdKept s e) := by
    rw [injected_frame]
    rfl
  rw [fwdSet_eq]
  exact hfwd

theorem RegsBut.fwdSet (h : RegsBut ks s t) (i : Nat) (e : Option FwdEntry) (hks : ∀ j ∈ fwdKeys, j ∈ ks) :
    RegsBut ks s (Machine.fwdSet i e t) := by
  rw [fwdSet_eq]
  exact RegsBut.setReg (RegsBut.injected (page := 0x7D) (t := fwdStored i e t) h 0 1 (hks 0x7D040 (by decide))
    (hks R.FLT_FI_INJECTIONS (by decide))) _ (hks R.FWD_STATUS (by decide))

/-- Entry `i` has changed, and FWD.RESULT shows it. -/
def fwdPut (i : Nat) (e : Option FwdEntry) (s : State) : State := fwdResult 0 (setF fFwdIndex i (fwdSet i e s))

theorem onlyTable_fwdPut (i : Nat) (e : Option FwdEntry) (s : State) : OnlyTable s (fwdPut i e s) :=
  ((onlyTable_fwdSet i e s).setF _ _).setF _ _

theorem RegsBut.fwdPut (h : RegsBut ks s t) (i : Nat) (e : Option FwdEntry) (hks : ∀ j ∈ fwdKeys, j ∈ ks) :
    RegsBut ks s (Machine.fwdPut i e t) :=
  RegsBut.setF (f := fFwdCode) (RegsBut.setF (f := fFwdIndex) (h.fwdSet i e hks) i (hks _ (by decide))) 0 (hks _ (by decide))

theorem result_fwdPut (hi : i < 8192) (e : Option FwdEntry) (s : State) :
    getF (fwdPut i e s) fFwdCode = 0 ∧ getF (fwdPut i e s) fFwdIndex = i := by
  unfold fwdPut fwdResult
  refine ⟨getF_setF_fits _ (by decide) (by decide), ?_⟩
  rw [getF_setF_beside _ _ (by decide)]
  exact getF_setF_fits _ (by decide) hi

/-- A command of the hub die that changes an entry completes with it. -/
theorem answers_fwdPut {c : Instr} {f : State → State} {e : Option FwdEntry} (hex : exec c s = hub s f) (h : Runs s)
    (hf : f (clearOut s) = fwdPut i e (clearOut s)) (hi : i < 8192) :
    Answers c s (fun t =>
      t.fwd = smSet dFwd s.fwd i (fwdKept s e) ∧ getF t fFwdCode = 0 ∧ getF t fFwdIndex = i ∧
      RegsBut [R.FWD_RESULT, R.FWD_STATUS, 0x7D040, R.FLT_FI_INJECTIONS] s t ∧
      t = { s with regs := t.regs, fwd := t.fwd, fi := t.fi, out := [] }) := by
  have hframe := onlyTable_fwdPut i e (clearOut s)
  have hregs : RegsBut fwdKeys s (fwdPut i e (clearOut s)) := RegsBut.fwdPut (regsBut_refl _ (clearOut s)) i e fun _ hj => hj
  obtain ⟨hcode, hindex⟩ := result_fwdPut hi e (clearOut s)
  have hfwd : (fwdPut i e (clearOut s)).fwd = smSet dFwd s.fwd i (fwdKept s e) := fwd_fwdSet i e (clearOut s)
  have hpend := congrArg State.pending hframe
  have hfuse := congrArg State.fuse hframe
  refine answers_hub_eq hex h hf hpend hfuse ⟨hfwd, hcode, hindex, hregs, hframe⟩

/-! ### Where a key may stand (R187) -/

theorem fwdBucket_lt (s : State) (vid da : Nat) : fwdBucket s vid da < 1024 :=
  Nat.xor_lt_two_pow (n := 10) (Nat.mod_lt _ (by decide)) (Nat.mod_lt _ (by decide))

theorem lt_of_mem_fwdPlaces {vid da : Nat} (h : i ∈ fwdPlaces s vid da) : i < 8192 := by
  have hbucket := fwdBucket_lt s vid da
  simp only [fwdPlaces, List.mem_append, List.mem_map, List.mem_range, List.mem_range'_1] at h
  rcases h with ⟨w, hw, rfl⟩ | ⟨-, hcam⟩
  · omega
  · omega

theorem lt_of_fwdFind {vid da : Nat} (h : fwdFind s vid da = some i) : i < 8192 :=
  lt_of_mem_fwdPlaces (List.mem_of_find?_eq_some h)

/-! ### INSERT, DELETE, LOOKUP and FLUSH_ALL (R188) -/

/-- A command that has changed the table, outside the standby and unpaired. -/
theorem fwdChange_applies {op : Nat} {f : State → Nat × State} (hu : Unpaired s) (hm : mode s ≠ mStandby) (hf : f s = (0, t))
    (ht : reg t R.DEV_MODE = reg s R.DEV_MODE) : fwdChange op f s = fwdResult 0 t := by
  have hun : Unpaired (fwdResult 0 t) := unpaired_congr hu ((reg_setF_ne _ _ (by decide)).trans ht)
  unfold fwdChange
  rw [if_neg hm]
  dsimp only
  rw [hf]
  dsimp only
  rw [if_pos (by decide), journalFwd, journal_unpaired hun]

theorem mode_key_fwdIndex (i : Nat) (e : Option FwdEntry) (s : State) :
    reg (setF fFwdIndex i (fwdSet i e s)) R.DEV_MODE = reg s R.DEV_MODE := by
  rw [reg_setF_ne _ _ (by decide)]
  exact RegsBut.fwdSet (regsBut_refl fwdKeys s) i e (fun _ hj => hj) _ (by decide)

theorem exec_fwdInsert (s : State) : exec .fwdInsert s = hub s
    (fwdChange 1 (fun s => fwdInsert (keyVid s) (keyDa s) (getF s ⟨R.FWD_KEY_TSET, 0, 6⟩) s)) := rfl

theorem answers_fwdInsert (h : Runs s) (hu : Unpaired s) (hm : mode s ≠ mStandby)
    (hnew : fwdFind s (keyVid s) (keyDa s) = none)
    (hfree : (fwdPlaces s (keyVid s) (keyDa s)).find? (fun i => (fwdGet s i).isNone) = some i) :
    Answers .fwdInsert s (fun t =>
      t.fwd = smSet dFwd s.fwd i (some { vid := keyVid s, da := keyDa s, tset := getF s ⟨R.FWD_KEY_TSET, 0, 6⟩, fi := spoils s 0x7D 0 1 }) ∧
      getF t fFwdCode = 0 ∧ getF t fFwdIndex = i ∧
      RegsBut [R.FWD_RESULT, R.FWD_STATUS, 0x7D040, R.FLT_FI_INJECTIONS] s t ∧
      t = { s with regs := t.regs, fwd := t.fwd, fi := t.fi, out := [] }) := by
  refine answers_fwdPut (i := i) (e := some { vid := keyVid s, da := keyDa s, tset := getF s ⟨R.FWD_KEY_TSET, 0, 6⟩ })
    (exec_fwdInsert s) h ?_ (lt_of_mem_fwdPlaces (List.mem_of_find?_eq_some hfree))
  refine fwdChange_applies (s := clearOut s) hu hm ?_ (mode_key_fwdIndex i _ (clearOut s))
  have hnew' : fwdFind (clearOut s) (keyVid (clearOut s)) (keyDa (clearOut s)) = none := hnew
  have hfree' : (fwdPlaces (clearOut s) (keyVid (clearOut s)) (keyDa (clearOut s))).find?
      (fun i => (fwdGet (clearOut s) i).isNone) = some i := hfree
  unfold fwdInsert
  rw [hnew']
  simp only [hfree']
  rfl

theorem exec_fwdDelete (s : State) : exec .fwdDelete s = hub s
    (fwdChange 2 (fun s => fwdDelete (keyVid s) (keyDa s) s)) := rfl

theorem answers_fwdDelete (h : Runs s) (hu : Unpaired s) (hm : mode s ≠ mStandby)
    (hfind : fwdFind s (keyVid s) (keyDa s) = some i) :
    Answers .fwdDelete s (fun t =>
      t.fwd = smSet dFwd s.fwd i none ∧ getF t fFwdCode = 0 ∧ getF t fFwdIndex = i ∧
      RegsBut [R.FWD_RESULT, R.FWD_STATUS, 0x7D040, R.FLT_FI_INJECTIONS] s t ∧
      t = { s with regs := t.regs, fwd := t.fwd, fi := t.fi, out := [] }) := by
  refine answers_fwdPut (i := i) (e := none) (exec_fwdDelete s) h ?_ (lt_of_fwdFind hfind)
  refine fwdChange_applies (s := clearOut s) hu hm ?_ (mode_key_fwdIndex i none (clearOut s))
  have hfind' : fwdFind (clearOut s) (keyVid (clearOut s)) (keyDa (clearOut s)) = some i := hfind
  unfold fwdDelete
  rw [hfind']

/-- FWD.RESULT and the counters of the entry that a lookup finds. -/
def fwdShown (i : Nat) (e : FwdEntry) (s : State) : State :=
  setReg R.FWD_RES_HITS (BitVec.ofNat 32 e.hits) (setReg R.FWD_RES_SKIPS (BitVec.ofNat 32 e.skips)
    (setF fFwdIndex i (fwdResult 0 s)))

theorem exec_fwdLookup (parity : Bool) (s : State) : exec (.fwdLookup parity) s = hub s (fwdCmd 3 parity) := rfl

theorem fwdCmd_lookup {e : FwdEntry} (hm : mode s ≠ mStandby) (hfind : fwdFind s (keyVid s) (keyDa s) = some i)
    (hget : fwdGet s i = some e) (hfi : e.fi = false) : fwdCmd 3 false s = fwdShown i e s := by
  have hsound : (false || fwdSpoiled s i) ≠ true := by simp [fwdSpoiled, hget, hfi]
  unfold fwdCmd
  rw [if_neg hm, hfind]
  dsimp only
  rw [if_neg hsound, hget]
  rfl

theorem answers_fwdLookup {e : FwdEntry} (h : Runs s) (hm : mode s ≠ mStandby)
    (hfind : fwdFind s (keyVid s) (keyDa s) = some i) (hget : fwdGet s i = some e) (hfi : e.fi = false) :
    Answers (.fwdLookup false) s (fun t =>
      getF t fFwdCode = 0 ∧ getF t fFwdIndex = i ∧ reg t R.FWD_RES_HITS = BitVec.ofNat 32 e.hits ∧
      reg t R.FWD_RES_SKIPS = BitVec.ofNat 32 e.skips ∧ RegsBut [R.FWD_RESULT, R.FWD_RES_HITS, R.FWD_RES_SKIPS] s t ∧
      OnlyRegs s t ∧ t.out = []) := by
  refine answers_hub_eq (t := fwdShown i e (clearOut s)) (exec_fwdLookup false s) h
    (fwdCmd_lookup (s := clearOut s) hm hfind hget hfi) rfl rfl ⟨?_, ?_, reg_setReg_same _ _ _, ?_, ?_, rfl, rfl⟩
  · unfold fwdShown fwdResult
    rw [getF_setReg_ne _ _ (by decide), getF_setReg_ne _ _ (by decide), getF_setF_beside _ _ (by decide)]
    exact getF_setF_fits _ (by decide) (by decide)
  · unfold fwdShown
    rw [getF_setReg_ne _ _ (by decide), getF_setReg_ne _ _ (by decide)]
    exact getF_setF_fits _ (by decide) (lt_of_fwdFind hfind)
  · unfold fwdShown
    rw [reg_setReg_ne _ _ (by decide), reg_setReg_same]
  · exact RegsBut.setReg (RegsBut.setReg (RegsBut.setF (f := fFwdIndex) (RegsBut.setF (f := fFwdCode)
      (regsBut_refl _ (clearOut s)) 0 (by decide)) i (by decide)) _ (by decide)) _ (by decide)

theorem exec_fwdFlushAll (s : State) : exec .fwdFlushAll s = hub s (fwdChange 4 (fun s => (0, fwdFlush s))) := rfl

theorem answers_fwdFlushAll (h : Runs s) (hu : Unpaired s) (hm : mode s ≠ mStandby) :
    Answers .fwdFlushAll s (fun t =>
      t.fwd = [] ∧ reg t R.FWD_STATUS = 0 ∧ getF t fFwdCode = 0 ∧ RegsBut [R.FWD_RESULT, R.FWD_STATUS] s t ∧
      t = { s with regs := t.regs, fwd := [], out := [] }) := by
  have hflush : fwdChange 4 (fun s => (0, fwdFlush s)) (clearOut s) = fwdResult 0 (fwdFlush (clearOut s)) :=
    fwdChange_applies (s := clearOut s) hu hm rfl (reg_setReg_ne _ _ (by decide))
  have honly : OnlyRegs { clearOut s with fwd := [] } (fwdResult 0 (fwdFlush (clearOut s))) :=
    onlyRegs_setF (onlyRegs_setReg (s := { clearOut s with fwd := [] }) (t := { clearOut s with fwd := [] }) rfl _ _) _ _
  refine answers_hub_eq (exec_fwdFlushAll s) h hflush rfl rfl ⟨rfl, ?_, ?_, ?_, honly⟩
  · exact (reg_setF_ne _ _ (by decide)).trans (reg_setReg_same _ _ _)
  · exact getF_setF_fits _ (by decide) (by decide)
  · exact RegsBut.setF (f := fFwdCode) (RegsBut.setReg (t := { clearOut s with fwd := [] }) (regsBut_refl _ s) 0 (by decide)) 0
      (by decide)

/-! ### FWD_COMMIT (R190) -/

/-- Nothing has changed but registers and committed copies. -/
def OnlyActs (s t : State) : Prop := t = { s with regs := t.regs, act := t.act }

theorem OnlyActs.setF (h : OnlyActs s t) (f : Fld) (v : Nat) : OnlyActs s (Machine.setF f v t) := by
  unfold OnlyActs at *
  generalize t.regs = r, t.act = a at h
  subst h
  rfl

theorem OnlyActs.commitRegs (h : OnlyActs s t) (ks : List Nat) : OnlyActs s (Machine.commitRegs ks t) := by
  obtain ⟨a, ha⟩ := commitRegs_eq ks t
  unfold OnlyActs at *
  rw [ha]
  generalize t.regs = r, t.act = b at h
  subst h
  rfl

theorem onlyActs_setsCommitted (s : State) : OnlyActs s (setsCommitted s) :=
  (OnlyActs.commitRegs (OnlyActs.setF (s := s) (t := s) rfl _ _) _).setF _ _

theorem answers_fwdCommit (h : Runs s) (hu : Unpaired s) (hm : mode s ≠ mStandby) :
    Answers .fwdCommit s (fun t =>
      (∀ k ∈ fwdRegs, actReg t k = reg s k) ∧ bit t ⟨0x7D024, 1, 1⟩ = false ∧ bit t (fDirty 0x7D) = false ∧
      RegsBut [0x7D024, (fDirty 0x7D).key] s t ∧ t = { s with regs := t.regs, act := t.act, out := [] }) := by
  have hun : Unpaired (setsCommitted (clearOut s)) :=
    unpaired_congr (s := clearOut s) hu (reg_setsCommitted _ (by decide) (by decide))
  have hcommit : fwdCommit (clearOut s) = setsCommitted (clearOut s) := by
    rw [fwdCommit_applies (s := clearOut s) hm, journalCommit_unpaired hun]
  have hframe := onlyActs_setsCommitted (clearOut s)
  have hpend := congrArg State.pending hframe
  have hfuse := congrArg State.fuse hframe
  refine answers_hub_eq (exec_fwdCommit s) h hcommit hpend hfuse ⟨fun k hk => ?_, ?_, ?_, fun j hj => ?_, hframe⟩
  · exact actReg_setsCommitted (clearOut s) hk
  · rw [bit, role_setsCommitted]
    rfl
  · exact bit_setF_zero _ _ _ (by decide)
  · simp only [List.mem_cons, List.not_mem_nil, or_false, not_or] at hj
    exact reg_setsCommitted (clearOut s) hj.1 hj.2

/-- Settles O15: each clause is the completion lemma of its command above. -/
theorem ethernetCommandsComplete : Obligations.EthernetCommandsComplete := by
  unfold Obligations.EthernetCommandsComplete
  exact ⟨fun _ _ _ h hu hmd hpage hen _ => answers_macEnable_on h hu hmd hpage hen,
    fun _ _ _ h hu hmd => answers_macEnable_mode3 h hu hmd,
    fun _ _ _ h hu hmd hpage hen _ => answers_macEnable_gated h hu hmd hpage hen,
    fun _ _ _ h hen => answers_macLinkUp h hen,
    fun _ _ _ h hlink => answers_macLinkLoss h hlink,
    fun _ _ _ _ _ h hen hlink hfcs => answers_macFrameReceived_fcsErr h hen hlink hfcs,
    fun _ _ _ _ _ h hen hlink hfcs hmin hmax hctl hptp hruns =>
      answers_macFrameReceived h hen hlink hfcs hmin hmax hctl hptp hruns,
    fun _ _ _ _ _ h htag hen hlink hptp => answers_macFrameTransmit h htag hen hlink hptp,
    fun _ _ h hfew => answers_fcsSecondInterval h hfew,
    fun _ _ h hmany => answers_fcsSecondInterval_raised h hmany,
    fun _ _ h hu hm hnew hfree => answers_fwdInsert h hu hm hnew hfree,
    fun _ _ h hu hm hfind => answers_fwdDelete h hu hm hfind,
    fun _ _ _ h hm hfind hget hfi => answers_fwdLookup h hm hfind hget hfi,
    fun _ h hu hm => answers_fwdFlushAll h hu hm,
    fun _ h hu hm => answers_fwdCommit h hu hm⟩

end Sys2Proof.Machine

/-! ## The bridge and the host paths: states that three of their statements leave out (R216, R227, R231, R254)

Each of the three refuted statements has one clause that names too few conditions; the state written out beside it meets every
condition that the clause does name. -/

namespace Sys2Proof.Machine

/-! ### A posted write fails ahead of a read that keeps its bytes (R227, R229) -/

/-- The bridge is on; a posted write to window 0 cycles, and behind it waits a read of the same window that keeps what it fetches. -/
def writeBeforeRead : State :=
  { setReg R.BRG_CTRL 1 (linkAt 0)
    with brg := { jobs := [{ who := .write 0 }, { who := .read 0 0, cycles := [[]], keep := true }] } }

theorem runs_writeBeforeRead : Runs writeBeforeRead := by
  unfold Runs
  decide +kernel

theorem cycling_writeBeforeRead : cycling writeBeforeRead = true := by decide +kernel

theorem exec_postedWriteFailure (timeout : Bool) (s : State) :
    exec (.postedWriteFailure timeout) s = execPostedWriteFailure timeout s := rfl

theorem exec_postedWriteFailure_writeBeforeRead :
    exec (.postedWriteFailure true) writeBeforeRead = hub writeBeforeRead (cycleEnds (cycleError true)) :=
  (exec_postedWriteFailure _ _).trans (hub_congr (if_pos (by decide +kernel : _ = true)))

/-- A write to a prefetchable window discards what the reads behind it would have kept (R227). -/
theorem keep_cycleEnds_writeBeforeRead :
    (cycleEnds (cycleError true) (clearOut writeBeforeRead)).brg.jobs.map LbJob.keep = [false] := by decide +kernel

/-- Refutes O19: the clause of POSTED_WRITE_FAILURE leaves the jobs behind the write as they were, but a read of the same window
among them no longer keeps what it fetches beyond its own bytes (R227). -/
theorem not_bridgeOutboundCommandsComplete : ¬ Obligations.BridgeOutboundCommandsComplete := by
  unfold Obligations.BridgeOutboundCommandsComplete
  rintro ⟨-, -, -, -, -, -, -, -, -, hfailure, -⟩
  obtain ⟨hjobs, -⟩ := of_answers_hub exec_postedWriteFailure_writeBeforeRead runs_writeBeforeRead
    (hfailure true { who := .write 0 } [{ who := .read 0 0, cycles := [[]], keep := true }] 0 writeBeforeRead
      runs_writeBeforeRead cycling_writeBeforeRead rfl rfl rfl rfl)
  have hkeep := congrArg (List.map LbJob.keep) hjobs
  exact absurd (keep_cycleEnds_writeBeforeRead.symm.trans hkeep) (by decide)

/-! ### An inbound window at the top of PCIe's addresses (R216, R231) -/

/-- The bridge is on and the local master has the bus; the only inbound window translates to the last four bytes below 2^64. The
upstream link is up, every element may master it, and the windows of VDP0 hold address 0. -/
def windowAtTop : State :=
  { cfgSet cBridge 1 4 (cfgSet (cVdp 5) 1 4 (cfgSet cUp 1 4 (cfgSet (cVdp 0) 1 2
      (setAct (R.BRG_IW_CTRL 0) 1 (setAct (R.BRG_IW_PCIE_LO 0) 0xFFFFFFFC (setAct (R.BRG_IW_PCIE_HI 0) 0xFFFFFFFF
        (setReg R.BRG_CTRL 1 (setReg (R.PCIE_STATUS 0) 1 (linkAt 0)))))))))
    with brg := { master := true } }

theorem runs_windowAtTop : Runs windowAtTop := by
  unfold Runs
  decide +kernel

theorem inboundWindow_windowAtTop : inboundWindow windowAtTop 4 = some 0 := by decide +kernel

theorem inPcie_windowAtTop : 2 ^ 64 = inPcie windowAtTop 0 + (4 / 4 * 4 - (inWindow windowAtTop 0).lb) := by decide +kernel

/-- What a command puts out. -/
def outputOf (c : Instr) (s : State) : List Output :=
  match exec c s with
  | .next t => t.out
  | _ => []

theorem outputOf_of_answers {c : Instr} {s : State} {P : State → Prop} (h : Answers c s P) : ∃ t, P t ∧ outputOf c s = t.out := by
  obtain ⟨t, ht, hP⟩ := h
  refine ⟨t, hP, ?_⟩
  rw [outputOf, ht]

/-- The header of the TLP has 64 bits for the address: it reads 0, which lies behind VDP0, and the switch answers there. -/
theorem outputOf_inboundCycle_windowAtTop :
    outputOf (.inboundCycle 4 false [0] []) windowAtTop = [.completion 0 1 [] false] := by decide +kernel

/-- Refutes O20: the third clause of INBOUND_CYCLE does not bound the translated address; at 2^64 the request that the switch gets
is one for address 0, and where a VDP holds that, none goes upstream (R216). -/
theorem not_bridgeInboundCommandsComplete : ¬ Obligations.BridgeInboundCommandsComplete := by
  unfold Obligations.BridgeInboundCommandsComplete
  rintro ⟨-, -, -, -, -, -, -, -, -, hread, -⟩
  obtain ⟨t, ⟨hout, -⟩, hshown⟩ := outputOf_of_answers
    (hread 4 [0] [] 0 (2 ^ 64) windowAtTop runs_windowAtTop (by decide +kernel) (by decide +kernel) (by decide)
      (by decide +kernel) rfl inboundWindow_windowAtTop (by decide +kernel) inPcie_windowAtTop (by decide +kernel)
      (by decide +kernel) (by decide +kernel) rfl (by decide +kernel) (by decide +kernel))
  rw [outputOf_inboundCycle_windowAtTop, hout] at hshown
  exact absurd hshown (by simp)

/-! ### A frame at EP3 OUT while EP3 IN is halted (R254, Table 10-9) -/

/-- The device function is on and configured and its register access open, and EP3 IN is halted. -/
def ep3InHalted : State :=
  { setReg R.USBD_CTRL 8 (setReg R.USBD_STATUS 0x202 (linkAt 0)) with usb := { up2 := 0, port8 := psEnabled } }

theorem awake_ep3InHalted : Awake ep3InHalted := by
  unfold Awake
  decide +kernel

/-- The frame is acknowledged, and its reply met with STALL. -/
theorem outputOf_ep3OutFrame_ep3InHalted :
    outputOf (.ep3OutFrame [0, 0, 1] false) ep3InHalted = [.usb 0xD2 [], .usb 0x1E []] := by decide +kernel

/-- The device function as it takes the frame: counted, the toggle of EP3 OUT turned, and acknowledged. -/
def ep3Taken (s : State) : State :=
  { bump R.USBD_EP3_FRAMES s with
    usb := { s.usb with toggle := smSet (fun _ => false) s.usb.toggle 3 (!toggleGet s 3) }, out := [.usb 0xD2 []] }

/-- Refutes O40: the first clause of EP3_OUT_FRAME lets the reply leave whether EP3 IN is halted or not, but a halted endpoint
answers with STALL (Table 10-9). -/
theorem not_hostPathCommandsComplete : ¬ Obligations.HostPathCommandsComplete := by
  unfold Obligations.HostPathCommandsComplete
  rintro ⟨-, -, -, -, -, -, -, -, -, -, -, hframe, -⟩
  obtain ⟨t, ⟨-, hout⟩, hshown⟩ := outputOf_of_answers
    (hframe [0, 0, 1] [0, 0, 1] _ _ _ ep3InHalted awake_ep3InHalted (by decide +kernel) (by decide +kernel) (by decide +kernel)
      (by decide +kernel) (by decide) (by decide) rfl (by decide +kernel)
      (Eq.refl (answerFrame .usb [0, 0, 1] (ep3Taken ep3InHalted))))
  rw [outputOf_ep3OutFrame_ep3InHalted, hout] at hshown
  exact absurd hshown (by decide +kernel)

end Sys2Proof.Machine

/-! ## What the switch and the adapters leave of a PCIe link (R215, R216, R218, R221)

TLPs, errors of the switch, tunnels that come or go and the journal write to many registers. Of the two PCIe pages they write to
counters of TLPs and of errors, and a TLP takes its link out of L1; what a link has trained to, whether it is up, its controls and
its counts of retrains and link-downs stay. -/

namespace Sys2Proof.Machine

-- One theorem after another, as above.
set_option Elab.async false

variable {s t u : State}

/-- PCIE.CTRL, PCIE.STATUS, PCIE.BAR_CFG, PCIE.RETRAINS and PCIE.LINK_DOWNS of both links. -/
abbrev PortKey (j : Nat) : Prop :=
  0x80000 ≤ j ∧ j < 0x82000 ∧
    (j % 0x1000 = 0x100 ∨ j % 0x1000 = 0x104 ∨ j % 0x1000 = 0x108 ∨ j % 0x1000 = 0x824 ∨ j % 0x1000 = 0x828)

/-- The BAR4 size that a reset of the upstream side puts in effect (R221). -/
def bar4Asked (s : State) : Nat := clampN 24 32 (getF s ⟨R.PCIE_BAR_CFG 0, 0, 5⟩)

/-- The two links show the same in both: but a link that was not in L1 is not in it later, and one that was may have left it. -/
structure PortShown (s t : State) : Prop where
  regs : ∀ j, PortKey j → j % 0x1000 ≠ 0x104 → reg t j = reg s j
  fields : ∀ k lo w, k < 2 → lo + w ≤ 5 → getF t ⟨R.PCIE_STATUS k, lo, w⟩ = getF s ⟨R.PCIE_STATUS k, lo, w⟩
  active : ∀ k, k < 2 → getF s (fInL1 k) = 0 → getF t (fInL1 k) = 0

/-- The links show the same, and the upstream side has the size of BAR4 and the tunnel that it had. -/
structure PortFrame (s t : State) : Prop extends PortShown s t where
  bar4 : t.pcie.bar4 = s.pcie.bar4
  tunnel : t.pcie.upTunnel = s.pcie.upTunnel

/-- The fields of the state that PortFrame speaks of. -/
def portFields (s : State) : SMap Word × Nat × Bool := (s.regs, s.pcie.bar4, s.pcie.upTunnel)

namespace PortShown

theorem refl (s : State) : PortShown s s := ⟨fun _ _ _ => rfl, fun _ _ _ _ _ => rfl, fun _ _ h => h⟩

theorem trans (h : PortShown s t) (h' : PortShown t u) : PortShown s u :=
  ⟨fun j hj hne => (h'.regs j hj hne).trans (h.regs j hj hne),
    fun k lo w hk hlo => (h'.fields k lo w hk hlo).trans (h.fields k lo w hk hlo),
    fun k hk h0 => h'.active k hk (h.active k hk h0)⟩

theorem of_regs (e : t.regs = s.regs) : PortShown s t :=
  ⟨fun _ _ _ => reg_congr e _, fun _ _ _ _ _ => getF_congr e _, fun _ _ h0 => (getF_congr e _).trans h0⟩

theorem bar4Asked_eq (h : PortShown s t) : bar4Asked t = bar4Asked s :=
  congrArg (clampN 24 32) (getF_of_reg (f := ⟨R.PCIE_BAR_CFG 0, 0, 5⟩) (h.regs _ (by decide) (by decide)))

end PortShown

namespace PortFrame

/-! ### Shared operations -/

theorem refl (s : State) : PortFrame s s := ⟨.refl s, rfl, rfl⟩

theorem trans (h : PortFrame s t) (h' : PortFrame t u) : PortFrame s u :=
  ⟨h.toPortShown.trans h'.toPortShown, h'.bar4.trans h.bar4, h'.tunnel.trans h.tunnel⟩

theorem same (h : PortFrame s t) (e : portFields u = portFields t := by rfl) : PortFrame s u := by
  simp only [portFields, Prod.mk.injEq] at e
  obtain ⟨hregs, hbar4, htunnel⟩ := e
  exact h.trans ⟨.of_regs hregs, hbar4, htunnel⟩

theorem setReg {j : Nat} (h : PortFrame s t) (v : Word) (hj : ¬ PortKey j := by decide) :
    PortFrame s (Machine.setReg j v t) := by
  have hne {i : Nat} (hi : PortKey i) : i ≠ j := fun e => hj (e ▸ hi)
  have hstatus {k : Nat} (hk : k < 2) : R.PCIE_STATUS k ≠ j := hne (by unfold R.PCIE_STATUS; omega)
  exact h.trans ⟨⟨fun i hi _ => reg_setReg_ne v t (hne hi), fun k _ _ hk _ => getF_setReg_ne v t (hstatus hk),
    fun k hk h0 => (getF_setReg_ne v t (hstatus hk)).trans h0⟩, rfl, rfl⟩

theorem setF {f : Fld} (h : PortFrame s t) (v : Nat) (hj : ¬ PortKey f.key := by decide) :
    PortFrame s (Machine.setF f v t) := h.setReg _ hj

theorem addCnt {j : Nat} (h : PortFrame s t) (n : Nat) (hj : ¬ PortKey j := by decide) :
    PortFrame s (Machine.addCnt j n t) := h.setReg _ hj

theorem bump {j : Nat} (h : PortFrame s t) (hj : ¬ PortKey j := by decide) : PortFrame s (Machine.bump j t) := h.addCnt 1 hj

theorem addCnt64 {j : Nat} (h : PortFrame s t) (n : Nat) (hj : ¬ PortKey j := by decide)
    (hj' : ¬ PortKey (j + 4) := by decide) : PortFrame s (Machine.addCnt64 j n t) := (h.setReg _ hj).setReg _ hj'

theorem when (h : PortFrame s t) (c : Bool) {f : State → State} (hf : ∀ u, PortFrame s u → PortFrame s (f u)) :
    PortFrame s (Machine.when c f t) := by
  cases c
  · exact h
  · exact hf _ h

theorem forAll {α : Type} (h : PortFrame s t) (l : List α) {f : α → State → State}
    (hf : ∀ a ∈ l, ∀ u, PortFrame s u → PortFrame s (f a u)) : PortFrame s (Machine.forAll l f t) := by
  induction l generalizing t with
  | nil => exact h
  | cons a l ih => exact ih (hf a List.mem_cons_self t h) fun b hb => hf b (List.mem_cons_of_mem a hb)

theorem pulse (h : PortFrame s t) (x : Nat) (p : Pulse) : PortFrame s (Machine.pulse x p t) := by
  unfold Machine.pulse
  dsimp only
  split
  · exact h.same
  split
  · exact h.same
  have hb : PortFrame s (Machine.bump R.CDC_OVERRUN_EVENTS
      (xSet x { xGet t x with overrun := true, lost := min 255 ((xGet t x).lost + 1) } t)) := bump h.same
  split
  · exact hb
  · exact hb.same

theorem raise (h : PortFrame s t) (src d : Nat) : PortFrame s (Machine.raise src d t) := by
  unfold Machine.raise
  split
  · split
    · exact h.same
    · exact h.pulse _ _
  · exact h

theorem raiseN (h : PortFrame s t) (src : Nat) : PortFrame s (Machine.raiseN src t) := (h.same (u := nextFree t)).raise _ _

theorem emit (h : PortFrame s t) (o : Output) : PortFrame s (Machine.emit o t) := h.same

theorem sendCtl (h : PortFrame s t) (n : Nat) (payload : List Byte) : PortFrame s (Machine.sendCtl n payload t) := h.same

theorem offerFrame (h : PortFrame s t) (m : Nat) (f : InFrame) : PortFrame s (Machine.offerFrame m f t) := h.same

/-! ### The journal -/

theorem journalOverflow (h : PortFrame s t) : PortFrame s (Machine.journalOverflow t) := by
  unfold Machine.journalOverflow
  dsimp only
  refine raise (bump (setF (setF (when h.same _ fun _ hu => hu.same) _ ?_) _ ?_) ?_) _ _
  all_goals decide

theorem sendRecord (h : PortFrame s t) (r : JRec) : PortFrame s (Machine.sendRecord r t) :=
  sendCtl (addCnt64 (h.setReg _) 1) _ _

theorem journal (h : PortFrame s t) (type : Nat) (body : List Byte) (last : Bool) :
    PortFrame s (Machine.journal type body last t) := by
  unfold Machine.journal
  dsimp only
  split
  · split
    · exact h.journalOverflow
    · split
      · exact sendRecord (setF h.same _) _
      · exact setF h.same _
  · exact h

theorem journalWord (h : PortFrame s t) (addr : Nat) (v : Word) : PortFrame s (Machine.journalWord addr v t) :=
  h.journal _ _ _

/-! ### TLPs on their way (R216) -/

/-- A TLP on the upstream link takes it out of L1. -/
theorem linkUse (h : PortFrame s t) : PortFrame s (Machine.linkUse 0 t) := by
  refine h.trans ⟨⟨fun j _ hj => reg_setF_ne (f := fInL1 0) 0 _ fun e => hj (e ▸ rfl), fun k lo w _ hlo => ?_,
    fun k hk h0 => ?_⟩, rfl, rfl⟩
  · exact getF_setF_apart (f := fInL1 0) 0 _ (.inl ⟨by decide, .inr hlo⟩)
  · obtain rfl | rfl : k = 0 ∨ k = 1 := by omega
    · exact getF_setF_same (fInL1 0) 0 _ (by decide)
    · exact (getF_setF_ne (f := fInL1 0) 0 _ (by decide)).trans h0

theorem tlpsSent (h : PortFrame s t) (n : Nat) : PortFrame s (Machine.addCnt64 (R.PCIE_TX_TLPS 0) n t) := h.addCnt64 n

theorem complete (h : PortFrame s t) (f tag status lower : Nat) (data : List Byte) (ep : Bool) :
    PortFrame s (Machine.complete f tag status lower data ep t) := by
  unfold Machine.complete
  dsimp only
  split
  · exact forAll h _ fun _ _ _ hu => hu.offerFrame _ _
  split
  · exact emit (tlpsSent h.linkUse _) _
  · exact h

theorem answerRead (h : PortFrame s t) (swap status : Nat) (data : List Byte) :
    PortFrame s (Machine.answerRead swap status data t) := by
  unfold Machine.answerRead
  split
  · exact h.same
  · exact raise (bump h.same) _ _

theorem completeCurrent (h : PortFrame s t) (status : Nat) (data : List Byte) (d : LbSlot) :
    PortFrame s (Machine.completeCurrent status data d t) := by
  unfold Machine.completeCurrent
  dsimp only
  split
  · split
    · exact answerRead h.same _ _ _
    · exact h.same
  · exact h.same

theorem bridgeCompletion (h : PortFrame s t) (tag status : Nat) (data : List Byte) :
    PortFrame s (Machine.bridgeCompletion tag status data t) := by
  unfold Machine.bridgeCompletion
  dsimp only
  split
  · cases t.brg.current with
    | none => exact h
    | some d => exact h.completeCurrent _ _ _
  · split
    · exact h.same
    · exact h

theorem answerId (h : PortFrame s t) (f tag status : Nat) : PortFrame s (Machine.answerId f tag status t) := by
  unfold Machine.answerId
  split
  · split
    · exact h.offerFrame _ _
    · exact h.bridgeCompletion _ _ _
  · exact h.complete _ _ _ _ _ _

theorem sendUp (h : PortFrame s t) (o : Output) (tlp : List Byte) : PortFrame s (Machine.sendUp o tlp t) := by
  unfold Machine.sendUp
  split
  · exact h.offerFrame _ _
  split
  · exact emit (tlpsSent h.linkUse 1) _
  · exact h

/-! ### Errors of an element (R214) -/

theorem sendErr (h : PortFrame s t) (f kind : Nat) : PortFrame s (Machine.sendErr f kind t) := by
  unfold Machine.sendErr
  split
  · exact h.sendUp _ _
  · exact h

theorem cfgSet (h : PortFrame s t) (f dw : Nat) (v : Word) : PortFrame s (Machine.cfgSet f dw v t) := h.same
theorem cfgOr (h : PortFrame s t) (f dw : Nat) (m : Word) : PortFrame s (Machine.cfgOr f dw m t) := h.cfgSet _ _ _

theorem firstError (h : PortFrame s t) (f i : Nat) (tlp : List Byte) : PortFrame s (Machine.firstError f i tlp t) := by
  unfold Machine.firstError
  split
  · exact h
  · exact forAll (h.cfgSet _ _ _) _ fun _ _ _ hu => hu.cfgSet _ _ _

theorem logError (h : PortFrame s t) (f i st : Nat) (tlp : List Byte) : PortFrame s (Machine.logError f i st tlp t) :=
  cfgOr (cfgOr (h.firstError f i tlp) _ _ _) _ _ _

theorem aerError (h : PortFrame s t) (f i : Nat) (tlp : List Byte) : PortFrame s (Machine.aerError f i tlp t) := by
  have hkey : ¬ PortKey (R.PCIE_UNCORR_ERR (errPage f)) := by
    unfold errPage
    split <;> decide
  unfold Machine.aerError
  dsimp only
  generalize (if cfgBit t f 67 i = true then 2 ^ 18 else 2 ^ 17) = st
  have hl := bump (h.logError f i st tlp) hkey
  split
  · exact hl
  · exact raise (hl.sendErr _ _) _ _

theorem corError (h : PortFrame s t) (f i : Nat) : PortFrame s (Machine.corError f i t) := by
  have hc := cfgOr (h.cfgOr f 68 (BitVec.ofNat 32 (2 ^ i))) f 18 (BitVec.ofNat 32 (2 ^ 16))
  unfold Machine.corError
  dsimp only
  split
  · exact hc
  · exact hc.sendErr _ _

theorem unsupported (h : PortFrame s t) (f : Nat) (tlp : List Byte) : PortFrame s (Machine.unsupported f tlp t) := by
  unfold Machine.unsupported
  dsimp only
  split
  · exact corError (logError (h.cfgOr _ _ _) _ _ _ _) _ _
  · exact aerError (h.cfgOr _ _ _) _ _ _

theorem refuseTlp (h : PortFrame s t) (f : Nat) (tlp : List Byte) : PortFrame s (Machine.refuseTlp f tlp t) := by
  unfold Machine.refuseTlp
  dsimp only
  split
  · exact answerId (h.unsupported f tlp) _ _ _
  · exact h.unsupported f tlp

/-! ### The way of a TLP through the switch -/

theorem vdpSet (h : PortFrame s t) (v : Nat) (x : Vdp) : PortFrame s (Machine.vdpSet v x t) := h.same

theorem toVdp (h : PortFrame s t) (v : Nat) (tlp : List Byte) : PortFrame s (Machine.toVdp v tlp t) := by
  unfold Machine.toVdp
  dsimp only
  split
  · split
    · exact h.bridgeCompletion _ _ _
    · exact h.refuseTlp _ _
  split
  · refine offerFrame ?_ _ _
    split
    · exact h.vdpSet _ _
    · exact h
  split
  · exact bump h
  · exact h.answerId _ _ _
  · exact h

theorem vdpCompletion (h : PortFrame s t) (v : Nat) (o : Output) (tlp : List Byte) :
    PortFrame s (Machine.vdpCompletion v o tlp t) := by
  unfold Machine.vdpCompletion
  dsimp only
  split
  · split
    · exact (h.vdpSet _ _).sendUp _ _
    · exact (h.vdpSet _ _).toVdp _ _
  · exact (h.vdpSet _ _).sendUp _ _

theorem requestUp (h : PortFrame s t) (v : Nat) (o : Output) (tlp : List Byte) :
    PortFrame s (Machine.requestUp v o tlp t) := by
  unfold Machine.requestUp
  split
  · exact h.sendUp _ _
  · exact h.refuseTlp _ _

theorem vdpMemory (h : PortFrame s t) (v : Nat) (o : Output) (tlp : List Byte) :
    PortFrame s (Machine.vdpMemory v o tlp t) := by
  unfold Machine.vdpMemory
  split
  · exact h.refuseTlp _ _
  split
  · exact h.requestUp _ _ _
  split
  · split
    · exact h.refuseTlp _ _
    · exact h.toVdp _ _
  · split
    · exact h.refuseTlp _ _
    · exact h.requestUp _ _ _

theorem vdpMessage (h : PortFrame s t) (v : Nat) (o : Output) (tlp : List Byte) :
    PortFrame s (Machine.vdpMessage v o tlp t) := by
  have hpass : PortFrame s (if mayPass t v tlp then Machine.sendUp o tlp t else t) := by
    split
    · exact h.sendUp _ _
    · exact h
  unfold Machine.vdpMessage
  split
  · exact hpass
  · exact hpass
  · exact h.vdpMemory _ _ _
  · split
    · split
      · exact h
      · exact h.toVdp _ _
    · exact h.sendUp _ _
  · exact h

theorem fromVdp (h : PortFrame s t) (v : Nat) (o : Output) (tlp : List Byte) : PortFrame s (Machine.fromVdp v o tlp t) := by
  unfold Machine.fromVdp
  dsimp only
  split
  · exact h.aerError _ _ _
  split
  · exact h.vdpCompletion _ _ _
  split
  · split
    · exact (h.aerError _ _ _).answerId _ _ _
    · exact h.aerError _ _ _
  split
  · exact h.vdpMessage _ _ _
  split
  · exact h.vdpMemory _ _ _
  · exact h.refuseTlp _ _

theorem bridgeRequest (h : PortFrame s t) (tag : Nat) (write : Bool) (addr len : Nat) (data : List Byte) :
    PortFrame s (Machine.bridgeRequest tag write addr len data t) := h.fromVdp _ _ _

theorem drainInbound (h : PortFrame s t) : PortFrame s (Machine.drainInbound t) := by
  unfold Machine.drainInbound
  dsimp only
  split
  · refine forAll h.same _ fun w _ u hu => ?_
    split
    · exact hu.forAll _ fun c _ _ hv => hv.bridgeRequest _ _ _ _ _
    · exact hu
  · exact h

/-! ### What follows a link or a tunnel pair -/

theorem vdpActive (h : PortFrame s t) (v x : Nat) : PortFrame s (Machine.setF (fVdp v) x t) :=
  h.setF x (show ¬ PortKey R.PSW_VDP_STATUS by decide)

theorem linkGoes (h : PortFrame s t) (v : Nat) : PortFrame s (Machine.linkGoes v t) := by
  unfold Machine.linkGoes
  dsimp only
  exact forAll (addCnt (cfgOr (vdpSet (vdpActive h v 0) v _) _ _ _) _) _ fun _ _ _ hu => hu.answerId _ _ _

theorem vdpRefresh (h : PortFrame s t) (v : Nat) : PortFrame s (Machine.vdpRefresh v t) := by
  unfold Machine.vdpRefresh surpriseDown
  dsimp only
  split
  · split
    · exact h.linkGoes v
    · exact raise (bump (linkGoes (h.aerError _ _ _) v)) _ _
  · split
    · exact cfgOr (vdpActive h v 1) _ _ _
    · exact h

theorem usb3Port {v : Nat} (h : PortFrame s t) (lo w x : Nat) (hv : v < 8) :
    PortFrame s (Machine.setF ⟨R.USB3_PORT_STATUS v, lo, w⟩ x t) :=
  h.setF _ (by simp only [PortKey, R.USB3_PORT_STATUS]; omega)

theorem vportDown {v : Nat} (h : PortFrame s t) (hv : v < 8) : PortFrame s (Machine.vportDown v t) :=
  (((h.usb3Port 4 1 0 hv).usb3Port 5 1 0 hv).usb3Port 0 4 plsRxDetect hv).same

theorem vportRefresh {v : Nat} (h : PortFrame s t) (hv : v < 8) : PortFrame s (Machine.vportRefresh v t) := by
  unfold Machine.vportRefresh
  dsimp only
  split
  · split
    · exact bump (h.vportDown hv)
    split
    · exact h.vportDown hv
    · exact h
  · split
    · exact (((h.usb3Port 4 1 1 hv).usb3Port 5 1 1 hv).usb3Port 0 4 plsU0 hv).same
    · exact h

theorem upVirtual (h : PortFrame s t) : PortFrame s (Machine.upVirtual t) := by
  unfold Machine.upVirtual
  dsimp only
  split
  · exact offerFrame (setF h _) _ _
  split
  · exact offerFrame (setF h _) _ _
  · exact setF h _

theorem islandFollow (h : PortFrame s t) : PortFrame s (Machine.islandFollow t) := by
  unfold Machine.islandFollow
  split
  · exact h.setF _
  · exact h

theorem overbookCheck {m : Nat} (h : PortFrame s t) (hm : m ≤ 13) : PortFrame s (Machine.overbookCheck m t) := by
  have hov (x : Nat) : PortFrame s (Machine.setF (fOverbooked m) x t) :=
    h.setF x (by simp only [PortKey, R.SCH_STATUS]; omega)
  unfold Machine.overbookCheck
  dsimp only
  split
  · exact raise (bump (hov _) (by simp only [PortKey, R.SCH_OVERBOOK_ENTRIES]; omega)) _ _
  · exact hov _

end PortFrame

/-! ### The upstream side is reset (R221) -/

theorem PortFrame.cfgResetOf (h : PortFrame s t) (which : Nat → Bool) : PortFrame s (Machine.cfgResetOf which t) := by
  unfold Machine.cfgResetOf
  exact forAll h.same _ fun _ _ _ hu => hu.journalWord _ _

/-- The size of BAR4 is set before the journal is told. -/
theorem setBar4_shows (n : Nat) (s : State) :
    PortFrame { s with pcie := { s.pcie with bar4 := n } } (setBar4 n s) := (PortFrame.refl _).journalWord _ _

theorem upstreamReset_shows (s : State) :
    PortFrame { s with pcie := { s.pcie with bus := 0, bar4 := bar4Asked s } } (upstreamReset s) :=
  (setBar4_shows (bar4Asked s) { s with pcie := { s.pcie with bus := 0 } }).cfgResetOf _

theorem bar4_upstreamReset (s : State) : (upstreamReset s).pcie.bar4 = bar4Asked s := (upstreamReset_shows s).bar4

theorem portShown_upstreamReset (s : State) : PortShown s (upstreamReset s) := by
  refine PortShown.trans ?_ (upstreamReset_shows s).toPortShown
  exact .of_regs rfl

theorem portShown_upTunnelRefresh (s : State) : PortShown s (upTunnelRefresh s) := by
  unfold upTunnelRefresh
  dsimp only
  split
  · refine PortShown.trans ?_ (portShown_upstreamReset _)
    exact .of_regs rfl
  · exact .of_regs rfl

/-- BAR4 keeps its size unless the tunnel that was the upstream side has gone. -/
theorem bar4_upTunnelRefresh (s : State) : (upTunnelRefresh s).pcie.bar4 = s.pcie.bar4 ∨
    (s.pcie.upTunnel = true ∧ (upTunnelRefresh s).pcie.bar4 = bar4Asked s) := by
  unfold upTunnelRefresh
  dsimp only
  split
  next hgone =>
    have hwas : s.pcie.upTunnel = true := (Bool.and_eq_true _ _ ▸ hgone).1
    exact .inr ⟨hwas, bar4_upstreamReset _⟩
  next => exact .inl rfl

/-! ### The adapters follow -/

/-- The VDPs follow before the upstream side does, and the virtual USB 3 ports after it. -/
theorem adaptersFollow_shows (s : State) : ∃ u, PortFrame s u ∧ PortFrame (upTunnelRefresh u) (adaptersFollow s) := by
  refine ⟨_, (PortFrame.refl s).forAll [0, 1, 2, 3, 4] fun v _ _ hu => hu.vdpRefresh v, ?_⟩
  refine ((PortFrame.refl _).forAll _ fun v hv _ hu => hu.vportRefresh ?_).upVirtual
  simp only [List.mem_cons, List.not_mem_nil, or_false] at hv
  omega

theorem portShown_adaptersFollow (s : State) : PortShown s (adaptersFollow s) := by
  obtain ⟨u, hvdps, hports⟩ := adaptersFollow_shows s
  exact hvdps.toPortShown.trans ((portShown_upTunnelRefresh u).trans hports.toPortShown)

theorem bar4_adaptersFollow (s : State) : (adaptersFollow s).pcie.bar4 = s.pcie.bar4 ∨
    (s.pcie.upTunnel = true ∧ (adaptersFollow s).pcie.bar4 = bar4Asked s) := by
  obtain ⟨u, hvdps, hports⟩ := adaptersFollow_shows s
  rw [hports.bar4, ← hvdps.bar4, ← hvdps.tunnel, ← hvdps.bar4Asked_eq]
  exact bar4_upTunnelRefresh u

end Sys2Proof.Machine

/-! ## PCIe links train and go down (R215, R218, R221) -/

namespace Sys2Proof.Machine

-- One theorem after another, as above.
set_option Elab.async false

variable {s t u : State}

/-! ### What training and leaving L0 write -/

/-- The rate that a link trains to (R215). -/
abbrev trainSpeed (s : State) (k partner : Nat) : Nat :=
  min (min (min (getF s ⟨R.PCIE_CTRL k, 0, 2⟩) (pcieMax (rimLevel s))) (linkTarget s k)) partner

/-- The width that a link trains to (R215). -/
abbrev trainWidth (s : State) (k partner : Nat) : Nat := min (min 2 (getF s ⟨R.PCIE_CTRL k, 3, 2⟩)) partner

theorem getF_pcieTrain_speed (k width : Nat) (speed : Fin 4) (s : State) :
    getF (pcieTrain k speed width s) (fPcieSpeed k) = trainSpeed s k speed :=
  (getF_setF_beside _ _ (by decide)).trans
    (getF_setF_fits (f := fPcieSpeed k) s (by decide : 1 + 2 ≤ 32) (Nat.lt_of_le_of_lt (Nat.min_le_right _ _) speed.isLt))

theorem getF_pcieTrain_width (k : Nat) (speed : Fin 4) (width : Fin 3) (s : State) :
    getF (pcieTrain k speed width s) (fPcieWidth k) = trainWidth s k width := by
  have hwidth : trainWidth s k width < 2 ^ 2 :=
    Nat.lt_of_le_of_lt (Nat.min_le_right _ _) (Nat.lt_of_lt_of_le width.isLt (by decide))
  exact getF_setF_fits (f := fPcieWidth k) _ (by decide : 3 + 2 ≤ 32) hwidth

/-- Training writes SPEED and WIDTH, bits 1 to 4, alone. -/
theorem getF_pcieTrain_beside (k speed width : Nat) (s : State) {lo w : Nat} (h : lo + w ≤ 1 ∨ 5 ≤ lo) :
    getF (pcieTrain k speed width s) ⟨R.PCIE_STATUS k, lo, w⟩ = getF s ⟨R.PCIE_STATUS k, lo, w⟩ :=
  (getF_setF_beside _ _ (by omega)).trans (getF_setF_beside _ _ (by omega))

theorem reg_pcieTrain (k speed width : Nat) (s : State) {j : Nat} (h : j ≠ R.PCIE_STATUS k) :
    reg (pcieTrain k speed width s) j = reg s j :=
  (reg_setF_ne (f := fPcieWidth k) _ _ h).trans (reg_setF_ne (f := fPcieSpeed k) _ _ h)

theorem getF_linkUse_below (k : Nat) (s : State) {lo w : Nat} (h : lo + w ≤ 5) :
    getF (linkUse k s) ⟨R.PCIE_STATUS k, lo, w⟩ = getF s ⟨R.PCIE_STATUS k, lo, w⟩ := getF_setF_beside _ _ (by omega)

theorem getF_linkUse_fInL1 (k : Nat) (s : State) : getF (linkUse k s) (fInL1 k) = 0 :=
  getF_setF_same (fInL1 k) 0 _ (by decide : 5 + 1 ≤ 32)

theorem bit_of_getF_one {f : Fld} (h : getF s f = 1) : bit s f = true := decide_eq_true h

theorem bit_of_getF_zero {f : Fld} (h : getF s f = 0) : bit s f = false := by rw [bit_eq, h]; rfl

theorem rimLevel_congr (hstatus : reg t R.PM_STATUS = reg s R.PM_STATUS) (hlevel : t.pwr.level = s.pwr.level) :
    rimLevel t = rimLevel s := by
  have hfld (f : Fld) (hf : f.key = R.PM_STATUS) : getF t f = getF s f := getF_of_reg (by rw [hf, hstatus])
  rw [rimLevel, rimLevel, hlevel, level, level, hfld ⟨R.PM_STATUS, 0, 2⟩ rfl, hfld ⟨R.PM_STATUS, 2, 2⟩ rfl]

/-! ### PCIE_LINK_UP -/

/-- A link that trained and is up. -/
def pcieUp (k : Fin 2) (speed : Fin 4) (width : Fin 3) (s : State) : State :=
  linkUse k (setF (fDlUp k) 1 (pcieTrain k speed width s))

theorem pcieUp_shows (k : Fin 2) (speed : Fin 4) (width : Fin 3) (s : State) :
    getF (pcieUp k speed width s) (fDlUp k) = 1 ∧ getF (pcieUp k speed width s) (fInL1 k) = 0 ∧
      getF (pcieUp k speed width s) (fPcieSpeed k) = trainSpeed s k speed ∧
      getF (pcieUp k speed width s) (fPcieWidth k) = trainWidth s k width :=
  ⟨(getF_linkUse_below _ _ (by decide)).trans (getF_setF_same (fDlUp k) 1 _ (by decide : 0 + 1 ≤ 32)), getF_linkUse_fInL1 _ _,
    (getF_linkUse_below _ _ (by decide)).trans ((getF_setF_beside _ _ (by decide)).trans (getF_pcieTrain_speed k width speed s)),
    (getF_linkUse_below _ _ (by decide)).trans ((getF_setF_beside _ _ (by decide)).trans (getF_pcieTrain_width k speed width s))⟩

/-- What follows a link's state: the check of the rate, the adapters and the island's cause. -/
theorem portShown_followed (k : Fin 2) (s : State) :
    PortShown s (islandFollow (adaptersFollow (overbookCheck (5 + k) s))) :=
  ((PortFrame.refl s).overbookCheck (by omega)).toPortShown.trans
    ((portShown_adaptersFollow _).trans (PortFrame.refl _).islandFollow.toPortShown)

theorem exec_pcieLinkUp (k : Fin 2) (speed : Fin 4) (width : Fin 3) (s : State) :
    exec (.pcieLinkUp k speed width) s = hub s (fun s =>
      if pcieAllowed s k then
        drainInbound (islandFollow (adaptersFollow (overbookCheck (5 + k) (pcieUp k speed width s))))
      else s) := rfl

theorem answers_pcieLinkUp {k : Fin 2} {speed : Fin 4} {width : Fin 3} (h : Runs s) (hmay : pcieAllowed s k = true) :
    Answers (.pcieLinkUp k speed width) s (fun t =>
      bit t (fDlUp k) = true ∧ bit t (fInL1 k) = false ∧ getF t (fPcieSpeed k) = trainSpeed s k speed ∧
      getF t (fPcieWidth k) = trainWidth s k width) := by
  refine answers_hub ((exec_pcieLinkUp k speed width s).trans (hub_congr
    (g := fun s => drainInbound (islandFollow (adaptersFollow (overbookCheck (5 + k) (pcieUp k speed width s)))))
    (if_pos hmay))) h ?_
  obtain ⟨hup, hl1, hspeed, hwidth⟩ := pcieUp_shows k speed width (clearOut s)
  have hshown := (portShown_followed k (pcieUp k speed width (clearOut s))).trans
    (PortFrame.refl _).drainInbound.toPortShown
  exact ⟨bit_of_getF_one ((hshown.fields k 0 1 k.isLt (by decide)).trans hup), bit_of_getF_zero (hshown.active k k.isLt hl1),
    (hshown.fields k 1 2 k.isLt (by decide)).trans hspeed, (hshown.fields k 3 2 k.isLt (by decide)).trans hwidth⟩

/-! ### PCIE_LINK_DOWN -/

theorem exec_pcieLinkDown (k : Fin 2) (s : State) : exec (.pcieLinkDown k) s = hub s (pcieDown k) := rfl

/-- A link that left L0 and L1, before anything follows it. -/
def linkLeft (k : Nat) (s : State) : State := pcieLeave k (bump (R.PCIE_LINK_DOWNS k) s)

theorem pcieDown_up {k : Nat} (hup : bit s (fDlUp k) = true) :
    pcieDown k s = islandFollow (adaptersFollow (overbookCheck (5 + k)
      (when (k == 0) upstreamReset (raiseN (72 + k) (linkLeft k s))))) := if_pos hup

theorem pcie_linkLeft (k : Nat) (s : State) : (linkLeft k s).pcie = s.pcie := by
  unfold linkLeft pcieLeave
  cases k == 0 <;> rfl

theorem getF_linkLeft_fDlUp (k : Nat) (s : State) : getF (linkLeft k s) (fDlUp k) = 0 :=
  (getF_setF_beside _ _ (by decide)).trans (getF_setF_same (fDlUp k) 0 _ (by decide : 0 + 1 ≤ 32))

theorem getF_linkLeft_fInL1 (k : Nat) (s : State) : getF (linkLeft k s) (fInL1 k) = 0 :=
  getF_setF_same (fInL1 k) 0 _ (by decide : 5 + 1 ≤ 32)

/-- Beside STATUS, a link that leaves L0 and L1 writes its count of link-downs alone. -/
theorem reg_linkLeft (k : Nat) (s : State) {j : Nat} (h : j ≠ R.PCIE_STATUS k) :
    reg (linkLeft k s) j = reg (bump (R.PCIE_LINK_DOWNS k) s) j := by
  refine (reg_setF_ne (f := fInL1 k) _ _ h).trans ((reg_setF_ne (f := fDlUp k) _ _ h).trans ?_)
  cases k == 0 <;> rfl

theorem bar4Asked_linkLeft (k : Fin 2) (s : State) : bar4Asked (linkLeft k s) = bar4Asked s := by
  have hcfg : reg (linkLeft k s) (R.PCIE_BAR_CFG 0) = reg s (R.PCIE_BAR_CFG 0) :=
    (reg_linkLeft _ _ (by decide +revert)).trans (reg_bump _ _ (by decide +revert))
  exact congrArg (clampN 24 32) (getF_of_reg (f := ⟨R.PCIE_BAR_CFG 0, 0, 5⟩) hcfg)

theorem portShown_when_upstreamReset (c : Bool) (s : State) : PortShown s (when c upstreamReset s) := by
  cases c
  · exact .refl s
  · exact portShown_upstreamReset s

/-- The BAR4 size that a reset put in effect stays when the adapters follow. -/
theorem bar4_adaptersFollow_asked (h : s.pcie.bar4 = bar4Asked s) : (adaptersFollow s).pcie.bar4 = bar4Asked s := by
  obtain hkept | ⟨-, hasked⟩ := bar4_adaptersFollow s
  · exact hkept.trans h
  · exact hasked

theorem bar4_adaptersFollow_untunnelled (h : s.pcie.upTunnel = false) : (adaptersFollow s).pcie.bar4 = s.pcie.bar4 :=
  (bar4_adaptersFollow s).resolve_right fun ⟨hwas, _⟩ => by simp [h] at hwas

/-- The upstream link's going puts the BAR4 size that was asked for in effect (R221). -/
theorem bar4_pcieDown_upstream (hup : bit s (fDlUp 0) = true) : (pcieDown 0 s).pcie.bar4 = bar4Asked s := by
  rw [pcieDown_up hup, (PortFrame.refl _).islandFollow.bar4]
  have hraised := (PortFrame.refl (linkLeft 0 s)).raiseN 72
  have hcheck := (PortFrame.refl (upstreamReset (raiseN 72 (linkLeft 0 s)))).overbookCheck (m := 5) (by decide)
  have hasked : bar4Asked (overbookCheck 5 (upstreamReset (raiseN 72 (linkLeft 0 s)))) = bar4Asked s :=
    hcheck.bar4Asked_eq.trans ((portShown_upstreamReset _).bar4Asked_eq.trans
      (hraised.bar4Asked_eq.trans (bar4Asked_linkLeft 0 s)))
  refine (bar4_adaptersFollow_asked ?_).trans hasked
  exact hcheck.bar4.trans ((bar4_upstreamReset _).trans
    ((hraised.bar4Asked_eq.trans (bar4Asked_linkLeft 0 s)).trans hasked.symm))

/-- The downstream link's going leaves BAR4 alone. -/
theorem bar4_pcieDown_downstream (hup : bit s (fDlUp 1) = true) (htunnel : s.pcie.upTunnel = false) :
    (pcieDown 1 s).pcie.bar4 = s.pcie.bar4 := by
  rw [pcieDown_up hup, (PortFrame.refl _).islandFollow.bar4]
  have hframe := ((PortFrame.refl (linkLeft 1 s)).raiseN 73).overbookCheck (m := 6) (by decide)
  have hpcie := pcie_linkLeft 1 s
  exact (bar4_adaptersFollow_untunnelled (hframe.tunnel.trans ((congrArg Pcie.upTunnel hpcie).trans htunnel))).trans
    (hframe.bar4.trans (congrArg Pcie.bar4 hpcie))

theorem portShown_pcieDown {k : Fin 2} (hup : bit s (fDlUp k) = true) : PortShown (linkLeft k s) (pcieDown k s) := by
  rw [pcieDown_up hup]
  exact ((PortFrame.refl _).raiseN _).toPortShown.trans ((portShown_when_upstreamReset _ _).trans (portShown_followed k _))

theorem answers_pcieLinkDown {k : Fin 2} (h : Runs s) (hup : bit s (fDlUp k) = true) :
    Answers (.pcieLinkDown k) s (fun t =>
      bit t (fDlUp k) = false ∧ bit t (fInL1 k) = false ∧
      reg t (R.PCIE_LINK_DOWNS k) = reg s (R.PCIE_LINK_DOWNS k) + 1 ∧
      (k.val = 0 → t.pcie.bar4 = clampN 24 32 (getF s ⟨R.PCIE_BAR_CFG 0, 0, 5⟩)) ∧
      (k.val = 1 → s.pcie.upTunnel = false → t.pcie.bar4 = s.pcie.bar4)) := by
  have hshown : PortShown (linkLeft k (clearOut s)) (pcieDown k (clearOut s)) := portShown_pcieDown hup
  refine answers_hub (exec_pcieLinkDown k s) h ⟨?_, ?_, ?_, fun hk => ?_, fun hk htunnel => ?_⟩
  · exact bit_of_getF_zero ((hshown.fields k 0 1 k.isLt (by decide)).trans (getF_linkLeft_fDlUp k _))
  · exact bit_of_getF_zero (hshown.active k k.isLt (getF_linkLeft_fInL1 k _))
  · have hkey : ∀ k : Fin 2, PortKey (R.PCIE_LINK_DOWNS k) ∧ R.PCIE_LINK_DOWNS k % 0x1000 ≠ 0x104 ∧
        R.PCIE_LINK_DOWNS k ≠ R.PCIE_STATUS k := by decide
    obtain ⟨hport, hmod, hne⟩ := hkey k
    exact (hshown.regs _ hport hmod).trans ((reg_linkLeft k _ hne).trans (reg_bump_same _ _))
  · obtain rfl : k = 0 := Fin.ext hk
    exact bar4_pcieDown_upstream (s := clearOut s) hup
  · obtain rfl : k = 1 := Fin.ext hk
    exact bar4_pcieDown_downstream (s := clearOut s) hup htunnel

/-! ### PCIE_RETRAIN -/

/-- The request to retrain is taken back and counted. -/
def retrainTaken (k : Nat) (s : State) : State :=
  setF ⟨R.PCIE_STATUS k, 6, 1⟩ 0 (setF ⟨R.PCIE_CTRL k, 2, 1⟩ 0 (bump (R.PCIE_RETRAINS k) s))

theorem exec_pcieRetrain (k : Fin 2) (speed : Fin 4) (width : Fin 3) (ok : Bool) (s : State) :
    exec (.pcieRetrain k speed width ok) s = hub s (pcieRetrain k speed width ok) := rfl

theorem pcieRetrain_up {k : Fin 2} (speed : Fin 4) (width : Fin 3) (hup : bit s (fDlUp k) = true) :
    pcieRetrain k speed width true s = overbookCheck (5 + k) (pcieTrain k speed width (retrainTaken k s)) := if_pos hup

theorem reg_retrainTaken (k : Fin 2) (s : State) {j : Nat} (hs : j ≠ R.PCIE_STATUS k) (hc : j ≠ R.PCIE_CTRL k) :
    reg (retrainTaken k s) j = reg (bump (R.PCIE_RETRAINS k) s) j :=
  (reg_setF_ne (f := ⟨R.PCIE_STATUS k, 6, 1⟩) _ _ hs).trans (reg_setF_ne (f := ⟨R.PCIE_CTRL k, 2, 1⟩) _ _ hc)

/-- What bounds the rate and the width stays as the request is taken back. -/
theorem getF_retrainTaken_ctrl (k : Fin 2) (s : State) {lo w : Nat} (h : lo + w ≤ 2 ∨ 3 ≤ lo) :
    getF (retrainTaken k s) ⟨R.PCIE_CTRL k, lo, w⟩ = getF s ⟨R.PCIE_CTRL k, lo, w⟩ := by
  have hkeys : R.PCIE_CTRL k ≠ R.PCIE_STATUS k ∧ R.PCIE_CTRL k ≠ R.PCIE_RETRAINS k := by decide +revert
  refine (getF_setF_ne (f := ⟨R.PCIE_STATUS k, 6, 1⟩) (g := ⟨R.PCIE_CTRL k, lo, w⟩) _ _ hkeys.1).trans ?_
  exact (getF_setF_beside _ _ (by omega)).trans (getF_of_reg (f := ⟨R.PCIE_CTRL k, lo, w⟩) (reg_bump _ _ hkeys.2))

theorem rimLevel_retrainTaken (k : Fin 2) (s : State) : rimLevel (retrainTaken k s) = rimLevel s :=
  rimLevel_congr ((reg_retrainTaken k s (by decide +revert) (by decide +revert)).trans (reg_bump _ _ (by decide +revert))) rfl

theorem trainSpeed_retrainTaken (k : Fin 2) (speed : Fin 4) (s : State) :
    trainSpeed (retrainTaken k s) k speed = trainSpeed s k speed := by
  rw [trainSpeed, getF_retrainTaken_ctrl k s (by decide), rimLevel_retrainTaken]
  rfl

theorem trainWidth_retrainTaken (k : Fin 2) (width : Fin 3) (s : State) :
    trainWidth (retrainTaken k s) k width = trainWidth s k width := by
  rw [trainWidth, getF_retrainTaken_ctrl k s (by decide)]

theorem getF_retrainTaken_fDlUp (k : Fin 2) (s : State) : getF (retrainTaken k s) (fDlUp k) = getF s (fDlUp k) := by
  have hkeys : R.PCIE_STATUS k ≠ R.PCIE_CTRL k ∧ R.PCIE_STATUS k ≠ R.PCIE_RETRAINS k := by decide +revert
  refine (getF_setF_beside _ _ (by decide)).trans ?_
  exact (getF_setF_ne (f := ⟨R.PCIE_CTRL k, 2, 1⟩) (g := fDlUp k) _ _ hkeys.1).trans
    (getF_of_reg (f := fDlUp k) (reg_bump _ _ hkeys.2))

theorem answers_pcieRetrain {k : Fin 2} {speed : Fin 4} {width : Fin 3} (h : Runs s) (hup : bit s (fDlUp k) = true) :
    Answers (.pcieRetrain k speed width true) s (fun t =>
      reg t (R.PCIE_RETRAINS k) = reg s (R.PCIE_RETRAINS k) + 1 ∧ bit t (fDlUp k) = true ∧
      getF t (fPcieSpeed k) = trainSpeed s k speed ∧ getF t (fPcieWidth k) = trainWidth s k width) := by
  refine answers_hub ((exec_pcieRetrain k speed width true s).trans
    (hub_congr (g := fun s => overbookCheck (5 + k) (pcieTrain k speed width (retrainTaken k s)))
      (pcieRetrain_up speed width hup))) h ?_
  have hshown := ((PortFrame.refl (pcieTrain k speed width (retrainTaken k (clearOut s)))).overbookCheck
    (m := 5 + k) (by omega)).toPortShown
  have hkey : ∀ k : Fin 2, PortKey (R.PCIE_RETRAINS k) ∧ R.PCIE_RETRAINS k % 0x1000 ≠ 0x104 ∧
      R.PCIE_RETRAINS k ≠ R.PCIE_STATUS k ∧ R.PCIE_RETRAINS k ≠ R.PCIE_CTRL k := by decide
  obtain ⟨hport, hmod, hstatus, hctrl⟩ := hkey k
  refine ⟨?_, ?_, ?_, ?_⟩
  · exact (hshown.regs _ hport hmod).trans
      ((reg_pcieTrain _ _ _ _ hstatus).trans ((reg_retrainTaken k _ hstatus hctrl).trans (reg_bump_same _ _)))
  · exact bit_of_getF_one ((hshown.fields k 0 1 k.isLt (by decide)).trans
      ((getF_pcieTrain_beside _ _ _ _ (by decide)).trans ((getF_retrainTaken_fDlUp k _).trans (of_decide_eq_true hup))))
  · exact (hshown.fields k 1 2 k.isLt (by decide)).trans
      ((getF_pcieTrain_speed k width speed _).trans (trainSpeed_retrainTaken k speed _))
  · exact (hshown.fields k 3 2 k.isLt (by decide)).trans
      ((getF_pcieTrain_width k speed width _).trans (trainWidth_retrainTaken k width _))

/-! ### UPSTREAM_HOT_RESET -/

theorem journalWord_unpaired (h : Unpaired s) (addr : Nat) (v : Word) : journalWord addr v s = s := journal_unpaired h _ _ _

theorem forAll_fixed {α : Type} (l : List α) {f : α → State → State} (h : ∀ a, f a s = s) : forAll l f s = s :=
  forAll_keeps (P := fun u => u = s) l f (fun a _ hu => hu ▸ h a) rfl

theorem unpaired_pcie (h : Unpaired s) (p : Pcie) : Unpaired { s with pcie := p } := unpaired_congr h (reg_congr rfl _)

/-- Without a pair's standby no journal is told as words of configuration space return to reset. -/
theorem cfgResetOf_unpaired (h : Unpaired s) (which : Nat → Bool) :
    cfgResetOf which s =
      { s with pcie := { s.pcie with
          cfg := s.pcie.cfg.filter (fun p => !(which (p.1 / 1024) && !cfgSticky (p.1 % 1024))) } } := by
  have hp := unpaired_pcie h
    { s.pcie with cfg := s.pcie.cfg.filter (fun p => !(which (p.1 / 1024) && !cfgSticky (p.1 % 1024))) }
  unfold cfgResetOf
  exact forAll_fixed _ fun _ => journalWord_unpaired hp _ _

theorem setBar4_unpaired (h : Unpaired s) (n : Nat) : setBar4 n s = { s with pcie := { s.pcie with bar4 := n } } := by
  have hbar4 := journalWord_unpaired (unpaired_pcie h { s.pcie with bar4 := n }) bar4Addr (BitVec.ofNat 32 n)
  unfold setBar4
  exact hbar4

/-- The words of configuration space return to reset, but those of AER, which outlive a hot reset. -/
theorem upstreamReset_unpaired (h : Unpaired s) :
    upstreamReset s =
      { s with pcie := { s.pcie with cfg := s.pcie.cfg.filter (fun p => cfgSticky (p.1 % 1024)), bus := 0,
                                     bar4 := bar4Asked s } } := by
  have hsticky : (fun p : Nat × Word => !(true && !cfgSticky (p.1 % 1024))) = fun p => cfgSticky (p.1 % 1024) := by
    funext p
    rw [Bool.true_and, Bool.not_not]
  have hbar4 := setBar4_unpaired (s := { s with pcie := { s.pcie with bus := 0 } })
    (unpaired_pcie h _) (bar4Asked s)
  have hcfg := cfgResetOf_unpaired (s := { s with pcie := { s.pcie with bus := 0, bar4 := bar4Asked s } })
    (unpaired_pcie h _) fun _ => true
  rw [hsticky] at hcfg
  exact (congrArg (cfgResetOf fun _ => true) hbar4).trans hcfg

theorem exec_upstreamHotReset (s : State) : exec .upstreamHotReset s = hub s upstreamReset := rfl

theorem answers_upstreamHotReset (h : Runs s) (hu : Unpaired s) :
    Answers .upstreamHotReset s (fun t =>
      t = { s with pcie := { s.pcie with cfg := s.pcie.cfg.filter (fun p => cfgSticky (p.1 % 1024)), bus := 0,
                                         bar4 := clampN 24 32 (getF s ⟨R.PCIE_BAR_CFG 0, 0, 5⟩) }, out := [] }) :=
  answers_hub_eq (exec_upstreamHotReset s) h (upstreamReset_unpaired (s := clearOut s) hu) rfl rfl rfl

end Sys2Proof.Machine

/-! ## Configuration words that errors are logged in (R214) -/

namespace Sys2Proof.Machine

-- One theorem after another, as above.
set_option Elab.async false

variable {s t u : State}

/-! ### Words of configuration space -/

theorem cfgGet_cfgSet (f dw : Nat) (v : Word) (s : State) (g d : Nat) :
    cfgGet (cfgSet f dw v s) g d = if g * 1024 + d = f * 1024 + dw then v else cfgGet s g d := smGet_smSet _ _ _ _

theorem cfgGet_cfgSet_same (f dw : Nat) (v : Word) (s : State) : cfgGet (cfgSet f dw v s) f dw = v := by
  rw [cfgGet_cfgSet, if_pos rfl]

theorem cfgGet_congr (h : t.pcie.cfg = s.pcie.cfg) (f dw : Nat) : cfgGet t f dw = cfgGet s f dw := by rw [cfgGet, h, ← cfgGet]

theorem cfgBit_congr {f dw : Nat} (h : cfgGet t f dw = cfgGet s f dw) (i : Nat) : cfgBit t f dw i = cfgBit s f dw i := by
  rw [cfgBit, h, ← cfgBit]

theorem cfgF_congr {f dw : Nat} (h : cfgGet t f dw = cfgGet s f dw) (lo w : Nat) : cfgF t f dw lo w = cfgF s f dw lo w := by
  rw [cfgF, h, ← cfgF]

theorem cfgBit_cfgOr_same (f dw : Nat) (m : Word) (s : State) (i : Nat) :
    cfgBit (cfgOr f dw m s) f dw i = (cfgBit s f dw i || m.toNat.testBit i) := by
  rw [cfgOr, cfgBit, cfgGet_cfgSet_same, BitVec.toNat_or, Nat.testBit_or, ← cfgBit]

theorem malformed_congr {f : Nat} (h : maxPayload t f = maxPayload s f) (tlp : List Byte) :
    malformed t f tlp = malformed s f tlp := by rw [malformed, h, ← malformed]

/-! ### A log of an error -/

/-- The words in which an element logs errors: device status, and AER but its masks and severities. -/
abbrev LogWord (dw : Nat) : Prop := dw = 18 ∨ dw = 65 ∨ dw = 68 ∨ (70 ≤ dw ∧ dw ≤ 74)

/-- Element `f` has logged errors: configuration space alone differs, and of it the words for the log alone; of the device status,
which shares its word with the device control, the upper half. -/
structure ErrLogged (f : Nat) (s t : State) : Prop where
  frame : t = { s with pcie := { s.pcie with cfg := t.pcie.cfg } }
  words : ∀ g dw, dw < 1024 → (g ≠ f ∨ ¬ LogWord dw) → cfgGet t g dw = cfgGet s g dw
  control : ∀ i, i < 16 → cfgBit t f 18 i = cfgBit s f 18 i

namespace ErrLogged

variable {f : Nat}

theorem refl (f : Nat) (s : State) : ErrLogged f s s := ⟨rfl, fun _ _ _ _ => rfl, fun _ _ => rfl⟩

theorem trans (h : ErrLogged f s t) (h' : ErrLogged f t u) : ErrLogged f s u := by
  refine ⟨?_, fun g dw hdw hg => (h'.words g dw hdw hg).trans (h.words g dw hdw hg),
    fun i hi => (h'.control i hi).trans (h.control i hi)⟩
  have ht := h.frame
  have hu := h'.frame
  generalize t.pcie.cfg = c at ht
  generalize u.pcie.cfg = d at hu ⊢
  rw [hu, ht]

theorem cfgSet {dw : Nat} (h : ErrLogged f s t) (v : Word) (hlog : LogWord dw ∧ dw ≠ 18) :
    ErrLogged f s (Machine.cfgSet f dw v t) := by
  refine h.trans ⟨rfl, fun g d hd hg => ?_, fun i _ => cfgBit_congr ?_ i⟩
  · exact (cfgGet_cfgSet _ _ _ _ _ _).trans (if_neg (by omega))
  · exact (cfgGet_cfgSet _ _ _ _ _ _).trans (if_neg (by omega))

theorem cfgOr {dw : Nat} (h : ErrLogged f s t) (m : Word) (hlog : LogWord dw ∧ dw ≠ 18) :
    ErrLogged f s (Machine.cfgOr f dw m t) := h.cfgSet _ hlog

/-- Bits of the device status become 1. -/
theorem status (h : ErrLogged f s t) (m : Word) (hm : ∀ i, i < 16 → m.toNat.testBit i = false) :
    ErrLogged f s (Machine.cfgOr f 18 m t) := by
  refine h.trans ⟨rfl, fun g d hd hg => ?_, fun i hi => ?_⟩
  · exact (cfgGet_cfgSet _ _ _ _ _ _).trans (if_neg (by omega))
  · rw [cfgBit_cfgOr_same, hm i hi, Bool.or_false]

theorem firstError (h : ErrLogged f s t) (i : Nat) (tlp : List Byte) : ErrLogged f s (Machine.firstError f i tlp t) := by
  unfold Machine.firstError
  split
  · exact h
  · exact ((((h.cfgSet (dw := 70) _ (by decide)).cfgSet (dw := 71) _ (by decide)).cfgSet (dw := 72) _ (by decide)).cfgSet
      (dw := 73) _ (by decide)).cfgSet (dw := 74) _ (by decide)

/-- An error is logged with the bits `st` of the device status. -/
theorem logError (h : ErrLogged f s t) (i st : Nat) (tlp : List Byte)
    (hst : ∀ i, i < 16 → (BitVec.ofNat 32 st).toNat.testBit i = false) : ErrLogged f s (Machine.logError f i st tlp t) :=
  ((h.firstError i tlp).cfgOr (dw := 65) _ (by decide)).status _ hst

/-! ### What does not depend on the log -/

theorem cfg_eq (h : ErrLogged f s t) {g dw : Nat} (hdw : dw < 1024 := by decide) (hw : ¬ LogWord dw := by decide) :
    cfgGet t g dw = cfgGet s g dw := h.words g dw hdw (.inr hw)

theorem errEnabled_eq (h : ErrLogged f s t) {kind : Nat} (hkind : kind < 16) : errEnabled t f kind = errEnabled s f kind := by
  rw [errEnabled, errEnabled, h.control kind hkind, cfgBit_congr (h.cfg_eq (dw := 1)) 8]

theorem maxPayload_eq (h : ErrLogged f s t) : maxPayload t f = maxPayload s f := by
  have hbits : cfgF t f 18 5 3 = cfgF s f 18 5 3 := by
    refine Nat.eq_of_testBit_eq fun i => ?_
    rw [cfgF, cfgF, testBit_bits, testBit_bits]
    by_cases hi : i < 3
    · exact congrArg (decide (i < 3) && ·) (h.control (i + 5) (by omega))
    · rw [decide_eq_false hi, Bool.false_and, Bool.false_and]
  rw [maxPayload, hbits, ← maxPayload]

theorem vdpOfBus_eq (h : ErrLogged f s t) (b : Nat) : vdpOfBus t b = vdpOfBus s b := by
  have hbelow (v : Nat) : busBelow t (cVdp v) b = busBelow s (cVdp v) b := by
    rw [busBelow, secBus, subBus, cfgF_congr (h.cfg_eq (dw := 6)), cfgF_congr (h.cfg_eq (dw := 6)), ← secBus, ← subBus, ← busBelow]
  rw [vdpOfBus, vdpOfBus]
  simp only [hbelow]

theorem inq_eq (h : ErrLogged f s t) : t.inq = s.inq := (congrArg State.inq h.frame :)
theorem out_eq (h : ErrLogged f s t) : t.out = s.out := (congrArg State.out h.frame :)
theorem regs_eq (h : ErrLogged f s t) : t.regs = s.regs := (congrArg State.regs h.frame :)

end ErrLogged

/-! ### Errors that no message tells of -/

theorem ofNat_two_pow_low {n : Nat} (hn : 16 ≤ n ∧ n < 32) (i : Nat) (hi : i < 16) :
    (BitVec.ofNat 32 (2 ^ n)).toNat.testBit i = false := by
  rw [BitVec.toNat_ofNat, Nat.mod_eq_of_lt (Nat.pow_lt_pow_right (by decide) hn.2), Nat.testBit_two_pow]
  exact decide_eq_false (by omega)

theorem sendErr_disabled {f kind : Nat} (h : errEnabled s f kind = false) : sendErr f kind s = s := by
  rw [sendErr, h, Bool.false_and]
  rfl

/-- A correctable error that is masked, or of an element that sends no message of it, is logged alone. -/
theorem errLogged_corError {f i : Nat} (h : cfgBit s f 69 i = true ∨ errEnabled s f 0 = false) : ErrLogged f s (corError f i s) := by
  have hlog : ErrLogged f s (cfgOr f 18 (BitVec.ofNat 32 (2 ^ 16)) (cfgOr f 68 (BitVec.ofNat 32 (2 ^ i)) s)) :=
    ((ErrLogged.refl f s).cfgOr (dw := 68) _ (by decide)).status _ (ofNat_two_pow_low (by decide))
  unfold corError
  dsimp only
  split
  next => exact hlog
  next hmask =>
    rw [cfgBit_congr (hlog.cfg_eq (dw := 69))] at hmask
    rwa [sendErr_disabled ((hlog.errEnabled_eq (by decide)).trans (h.resolve_left hmask))]

/-- An advisory non-fatal error that is masked, or of an element that sends no correctable messages, is logged alone. -/
theorem errLogged_unsupported {f : Nat} {tlp : List Byte} (hkind : tlpKind tlp = .nonPosted) (hsev : cfgBit s f 67 20 = false)
    (h : cfgBit s f 69 13 = true ∨ errEnabled s f 0 = false) : ErrLogged f s (unsupported f tlp s) := by
  have hstatus := (ErrLogged.refl f s).status (BitVec.ofNat 32 (2 ^ 19)) (ofNat_two_pow_low (by decide))
  have hlog := hstatus.logError 20 0 tlp fun i _ => Nat.zero_testBit i
  have hadvisory : tlpKind tlp = .nonPosted ∧ (!cfgBit (cfgOr f 18 (BitVec.ofNat 32 (2 ^ 19)) s) f 67 20) = true := by
    rw [cfgBit_congr (hstatus.cfg_eq (dw := 67)), hsev]
    exact ⟨hkind, rfl⟩
  unfold unsupported
  dsimp only
  rw [if_pos hadvisory]
  refine hlog.trans (errLogged_corError ?_)
  rwa [cfgBit_congr (hlog.cfg_eq (dw := 69)), hlog.errEnabled_eq (by decide)]

end Sys2Proof.Machine

/-! ## TLPs come in (R214, R216, R217) -/

namespace Sys2Proof.Machine

-- One theorem after another, as above.
set_option Elab.async false

variable {s t u : State} {ks : List Nat}

/-! ### What a link counts -/

/-- Replays and correctable errors are added to the link's counts. -/
def errorsCounted (k replays corr : Nat) (s : State) : State :=
  addCnt (R.PCIE_CORR_ERR k) corr (addCnt (R.PCIE_REPLAYS k) replays s)

theorem linkErrors_none (k replays : Nat) (s : State) : linkErrors k replays 0 s = errorsCounted k replays 0 s := by
  rw [linkErrors, if_pos rfl]
  rfl

/-- Beside the counts, correctable errors go to the element that has the link, and may pass the threshold of source 74. -/
theorem linkErrors_induct {P : State → Prop} {corr : Nat} (k replays : Nat) (s : State) (hcorr : corr ≠ 0)
    (hlog : ∀ m, P (corError (if k = 0 then cUp else cVdp 4) 0
      { errorsCounted k replays corr s with pcie := { (errorsCounted k replays corr s).pcie with corr := m } }))
    (hraise : ∀ u, P u → P (raiseN 74 u)) : P (linkErrors k replays corr s) := by
  have hpassed (c : Prop) [Decidable c] {u : State} (hu : P u) : P (if c then raiseN 74 u else u) := by
    split
    · exact hraise u hu
    · exact hu
  -- The test against the second in ticks is put behind a name: comparing terms with it, the kernel would count it down.
  obtain ⟨inSecond, hsecond⟩ : ∃ inSecond : Nat → Nat → Nat → Nat × Nat, ∀ now tick before,
      (if tick + 250000000 ≤ now then (now, 0) else (tick, before)) = inSecond now tick before :=
    ⟨_, fun _ _ _ => rfl⟩
  rw [linkErrors, if_neg hcorr, ← errorsCounted]
  conv in ite _ _ _ => rw [hsecond]
  exact hpassed _ (hlog _)

/-! ### Errors that are counted and logged alone -/

/-- What a link's errors change that no message tells of: the counts, the log of `f`, and what a raise writes. -/
structure ErrsCounted (k replays corr f : Nat) (s t : State) : Prop where
  regs : RegsBut [R.PCIE_REPLAYS k, R.PCIE_CORR_ERR k, R.CDC_OVERRUN_EVENTS] s t
  replays_eq : reg t (R.PCIE_REPLAYS k) = reg s (R.PCIE_REPLAYS k) + BitVec.ofNat 32 replays
  corr_eq : reg t (R.PCIE_CORR_ERR k) = reg s (R.PCIE_CORR_ERR k) + BitVec.ofNat 32 corr
  inq : t.inq = s.inq
  payload : maxPayload t f = maxPayload s f

theorem regsBut_errorsCounted (k replays corr : Nat) (s : State) :
    RegsBut [R.PCIE_REPLAYS k, R.PCIE_CORR_ERR k] s (errorsCounted k replays corr s) :=
  ((regsBut_refl _ s).setReg _ (by simp)).setReg _ (by simp)

theorem reg_addCnt_same (j n : Nat) (s : State) : reg (addCnt j n s) j = reg s j + BitVec.ofNat 32 n := reg_setReg_same _ _ _

theorem errsCounted_errorsCounted (k replays corr f : Nat) (s : State) :
    ErrsCounted k replays corr f s (errorsCounted k replays corr s) where
  regs := (regsBut_errorsCounted k replays corr s).mono (by simp)
  replays_eq := (reg_addCnt _ _ _ (by unfold R.PCIE_REPLAYS R.PCIE_CORR_ERR; omega)).trans (reg_addCnt_same _ _ _)
  corr_eq := (reg_addCnt_same _ _ _).trans (congrArg (· + _) (reg_addCnt _ _ _ (by unfold R.PCIE_REPLAYS R.PCIE_CORR_ERR; omega)))
  inq := rfl
  payload := rfl

theorem ErrsCounted.of_log {k replays corr f : Nat} (h : ErrsCounted k replays corr f s t) (hlog : ErrLogged f t u) :
    ErrsCounted k replays corr f s u where
  regs := h.regs.to fun _ _ => reg_congr hlog.regs_eq _
  replays_eq := (reg_congr hlog.regs_eq _).trans h.replays_eq
  corr_eq := (reg_congr hlog.regs_eq _).trans h.corr_eq
  inq := hlog.inq_eq.trans h.inq
  payload := hlog.maxPayload_eq.trans h.payload

theorem ErrsCounted.raiseN {k replays corr f : Nat} (h : ErrsCounted k replays corr f s t) (src : Nat)
    (hk : R.PCIE_REPLAYS k ≠ R.CDC_OVERRUN_EVENTS ∧ R.PCIE_CORR_ERR k ≠ R.CDC_OVERRUN_EVENTS) :
    ErrsCounted k replays corr f s (Machine.raiseN src t) where
  regs := h.regs.raiseN src (by simp)
  replays_eq := (reg_raiseN _ _ hk.1).trans h.replays_eq
  corr_eq := (reg_raiseN _ _ hk.2).trans h.corr_eq
  inq := by
    rw [Machine.raiseN, raise_frame]
    exact h.inq
  payload := by
    rw [Machine.raiseN, raise_frame]
    exact h.payload

/-- Errors of the physical downstream link that are masked, or of which VDP4 sends no messages, are counted and logged. -/
theorem errsCounted_linkErrors {replays corr : Nat}
    (h : corr = 0 ∨ cfgBit s (cVdp 4) 69 0 = true ∨ errEnabled s (cVdp 4) 0 = false) :
    ErrsCounted 1 replays corr (cVdp 4) s (linkErrors 1 replays corr s) := by
  by_cases hcorr : corr = 0
  · subst hcorr
    rw [linkErrors_none]
    exact errsCounted_errorsCounted _ _ _ _ s
  · refine linkErrors_induct 1 replays s hcorr (fun m => ?_) fun u hu => hu.raiseN 74 (by decide)
    have hcounted := errsCounted_errorsCounted 1 replays corr (cVdp 4) s
    have hm : ErrsCounted 1 replays corr (cVdp 4) s
        { errorsCounted 1 replays corr s with pcie := { (errorsCounted 1 replays corr s).pcie with corr := m } } :=
      ⟨hcounted.regs, hcounted.replays_eq, hcounted.corr_eq, rfl, rfl⟩
    exact hm.of_log (errLogged_corError (h.resolve_left hcorr))

/-! ### What is offered to a mortise, and what counts -/

theorem inqGet_offerFrame (m : Nat) (f : InFrame) (s : State) : inqGet (offerFrame m f s) m = inqGet s m ++ [f] := by
  rw [offerFrame, inqGet, inqSet, smGet_smSet, if_pos rfl]

theorem reg_offerFrame (m : Nat) (f : InFrame) (s : State) (k : Nat) : reg (offerFrame m f s) k = reg s k := rfl
theorem cnt64_offerFrame (m : Nat) (f : InFrame) (s : State) (k : Nat) : cnt64 (offerFrame m f s) k = cnt64 s k := rfl

theorem inqGet_congr (h : t.inq = s.inq) (m : Nat) : inqGet t m = inqGet s m := by rw [inqGet, h, ← inqGet]

theorem cnt64_bump64_of {k : Nat} (h : reg t k = reg s k) (h' : reg t (k + 4) = reg s (k + 4)) :
    cnt64 (bump64 k t) k = (cnt64 s k + 1) % 2 ^ 64 := by rw [cnt64_bump64, cnt64_congr h h']

theorem RegsBut.linkUse {k : Nat} (h : RegsBut ks s t) (hk : R.PCIE_STATUS k ∈ ks) : RegsBut ks s (Machine.linkUse k t) :=
  h.to fun _ hj => reg_setF_ne (f := fInL1 k) _ _ fun e => hj (e ▸ hk)

/-! ### TLP_RECEIVED from the physical downstream link -/

theorem exec_tlpReceived_downstream (tlp : List Byte) (replays corr : Byte) (ecc : DramEcc) (s : State) :
    exec (.tlpReceived (.downstream tlp) ⟨replays, corr⟩ ecc) s = hub s (fun s =>
      if bit s (fDlUp 1) then
        if malformed (bump64 (R.PCIE_RX_TLPS 1) (linkUse 1 (linkErrors 1 replays.toNat corr.toNat s))) (cVdp 4) tlp then
          aerError (cVdp 4) 18 tlp (bump64 (R.PCIE_RX_TLPS 1) (linkUse 1 (linkErrors 1 replays.toNat corr.toNat s)))
        else offerFrame 6 { tag := 0, data := tlp }
          (bump64 (R.PCIE_RX_TLPS 1) (linkUse 1 (linkErrors 1 replays.toNat corr.toNat s)))
      else s) := rfl

/-- The errors of a TLP are counted before the TLP is. -/
theorem answers_tlpReceived_downstream {tlp : List Byte} {replays corr : Byte} {ecc : DramEcc} (h : Runs s)
    (hup : bit s (fDlUp 1) = true) (hgood : malformed s (cVdp 4) tlp = false)
    (hquiet : corr = 0 ∨ cfgBit s (cVdp 4) 69 0 = true ∨ errEnabled s (cVdp 4) 0 = false) :
    Answers (.tlpReceived (.downstream tlp) ⟨replays, corr⟩ ecc) s (fun t =>
      inqGet t 6 = inqGet s 6 ++ [{ tag := 0, data := tlp }] ∧
      cnt64 t (R.PCIE_RX_TLPS 1) = (cnt64 s (R.PCIE_RX_TLPS 1) + 1) % 2 ^ 64 ∧
      reg t (R.PCIE_REPLAYS 1) = reg s (R.PCIE_REPLAYS 1) + BitVec.ofNat 32 replays.toNat ∧
      reg t (R.PCIE_CORR_ERR 1) = reg s (R.PCIE_CORR_ERR 1) + BitVec.ofNat 32 corr.toNat ∧ bit t (fInL1 1) = false ∧
      RegsBut [R.PCIE_RX_TLPS 1, R.PCIE_RX_TLPS 1 + 4, R.PCIE_REPLAYS 1, R.PCIE_CORR_ERR 1, R.PCIE_STATUS 1,
        R.CDC_OVERRUN_EVENTS] s t) := by
  have hcount : ErrsCounted 1 replays.toNat corr.toNat (cVdp 4) (clearOut s)
      (linkErrors 1 replays.toNat corr.toNat (clearOut s)) :=
    errsCounted_linkErrors (hquiet.imp_left fun e => congrArg BitVec.toNat e)
  refine answers_hub (exec_tlpReceived_downstream tlp replays corr ecc s) h ?_
  generalize linkErrors 1 replays.toNat corr.toNat (clearOut s) = v at hcount
  have htaken : malformed (bump64 (R.PCIE_RX_TLPS 1) (linkUse 1 v)) (cVdp 4) tlp = false :=
    (malformed_congr hcount.payload tlp).trans hgood
  have hstatus {j : Nat} (hj : j ≠ R.PCIE_STATUS 1) : reg (linkUse 1 v) j = reg v j := reg_setF_ne (f := fInL1 1) _ _ hj
  have hshown {j : Nat} (hrx : j ≠ R.PCIE_RX_TLPS 1) (hrx' : j ≠ R.PCIE_RX_TLPS 1 + 4) (hj : j ≠ R.PCIE_STATUS 1) :
      reg (bump64 (R.PCIE_RX_TLPS 1) (linkUse 1 v)) j = reg v j := (reg_bump64 _ _ hrx hrx').trans (hstatus hj)
  rw [if_pos (show bit (clearOut s) (fDlUp 1) = true from hup), htaken, if_neg Bool.false_ne_true]
  refine ⟨?_, ?_, ?_, ?_, ?_, ?_⟩
  · exact (inqGet_offerFrame _ _ _).trans (congrArg (· ++ _) (inqGet_congr hcount.inq 6))
  · exact cnt64_bump64_of ((hstatus (by decide)).trans (hcount.regs _ (by decide)))
      ((hstatus (by decide)).trans (hcount.regs _ (by decide)))
  · exact (hshown (by decide) (by decide) (by decide)).trans hcount.replays_eq
  · exact (hshown (by decide) (by decide) (by decide)).trans hcount.corr_eq
  · exact bit_of_getF_zero ((getF_of_reg (f := fInL1 1) (reg_bump64 _ _ (by decide) (by decide))).trans (getF_linkUse_fInL1 1 v))
  · have hregs := hcount.regs.mono (ks' := [R.PCIE_RX_TLPS 1, R.PCIE_RX_TLPS 1 + 4, R.PCIE_REPLAYS 1, R.PCIE_CORR_ERR 1,
      R.PCIE_STATUS 1, R.CDC_OVERRUN_EVENTS])
    exact (hregs.linkUse (by decide)).bump64 (by decide) (by decide)

/-! ### What a TLP touches -/

/-- Nothing has changed but registers, what is offered to the mortises, and what the switch keeps. -/
def OnlySwitch (s t : State) : Prop := t = { s with regs := t.regs, inq := t.inq, pcie := t.pcie }

theorem OnlySwitch.refl (s : State) : OnlySwitch s s := rfl

theorem OnlySwitch.setReg (h : OnlySwitch s t) (k : Nat) (v : Word) : OnlySwitch s (Machine.setReg k v t) := by
  unfold OnlySwitch at *
  generalize t.regs = r, t.inq = q, t.pcie = p at h
  subst h
  rfl

theorem OnlySwitch.pcie (h : OnlySwitch s t) (p : Pcie) : OnlySwitch s { t with pcie := p } := by
  unfold OnlySwitch at *
  generalize t.regs = r, t.inq = q, t.pcie = p at h
  subst h
  rfl

theorem OnlySwitch.offerFrame (h : OnlySwitch s t) (m : Nat) (f : InFrame) : OnlySwitch s (Machine.offerFrame m f t) := by
  unfold OnlySwitch at *
  generalize t.regs = r, t.inq = q, t.pcie = p at h
  subst h
  rfl

theorem OnlySwitch.bump64 (h : OnlySwitch s t) (k : Nat) : OnlySwitch s (Machine.bump64 k t) := (h.setReg _ _).setReg _ _

theorem OnlySwitch.linkUse (h : OnlySwitch s t) (k : Nat) : OnlySwitch s (Machine.linkUse k t) := (h.pcie _).setReg _ _

theorem OnlySwitch.pending_eq (h : OnlySwitch s t) : t.pending = s.pending := (congrArg State.pending h :)
theorem OnlySwitch.fuse_eq (h : OnlySwitch s t) : t.fuse = s.fuse := (congrArg State.fuse h :)

/-! ### TLP_RECEIVED from the physical upstream link -/

/-- A TLP that the physical upstream link brings without an error is counted, with its replays. -/
def tlpTaken (replays : Nat) (s : State) : State := bump64 (R.PCIE_RX_TLPS 0) (linkUse 0 (errorsCounted 0 replays 0 s))

theorem bit_of_reg {f : Fld} (h : reg t f.key = reg s f.key) : bit t f = bit s f := by rw [bit_eq, bit_eq, getF_of_reg h]

theorem upArrives_linkErrors {replays : Nat} (h : upIsTunnel s = false) :
    upArrives (linkErrors 0 replays 0 s) = tlpTaken replays s := by
  have hsrc : upIsTunnel (errorsCounted 0 replays 0 s) = false :=
    (bit_of_reg (f := ⟨R.PSW_CTRL, 0, 1⟩) (regsBut_errorsCounted 0 replays 0 s _ (by decide))).trans h
  rw [linkErrors_none, upArrives, hsrc, if_neg Bool.false_ne_true, tlpTaken]

theorem regsBut_tlpTaken (replays : Nat) (s : State) :
    RegsBut [R.PCIE_RX_TLPS 0, R.PCIE_RX_TLPS 0 + 4, R.PCIE_STATUS 0, R.PCIE_REPLAYS 0, R.PCIE_CORR_ERR 0] s
      (tlpTaken replays s) :=
  (((regsBut_errorsCounted 0 replays 0 s).mono).linkUse (by decide)).bump64 (by decide) (by decide)

theorem cnt64_tlpTaken (replays : Nat) (s : State) :
    cnt64 (tlpTaken replays s) (R.PCIE_RX_TLPS 0) = (cnt64 s (R.PCIE_RX_TLPS 0) + 1) % 2 ^ 64 := by
  have hregs : RegsBut [R.PCIE_STATUS 0, R.PCIE_REPLAYS 0, R.PCIE_CORR_ERR 0] s (linkUse 0 (errorsCounted 0 replays 0 s)) :=
    ((regsBut_errorsCounted 0 replays 0 s).mono).linkUse (by decide)
  exact cnt64_bump64_of (hregs _ (by decide)) (hregs _ (by decide))

theorem onlySwitch_tlpTaken (replays : Nat) (s : State) : OnlySwitch s (tlpTaken replays s) :=
  ((((OnlySwitch.refl s).setReg _ _).setReg _ _).linkUse 0).bump64 _

theorem inq_tlpTaken (replays : Nat) (s : State) : (tlpTaken replays s).inq = s.inq := rfl

/-- A TLP leaves its link up. -/
theorem bit_tlpTaken_fDlUp (replays : Nat) (s : State) : bit (tlpTaken replays s) (fDlUp 0) = bit s (fDlUp 0) := by
  have hfld : getF (tlpTaken replays s) (fDlUp 0) = getF s (fDlUp 0) :=
    (getF_of_reg (f := fDlUp 0) (reg_bump64 _ _ (by decide) (by decide))).trans ((getF_linkUse_below 0 _ (by decide)).trans
      (getF_of_reg (f := fDlUp 0) (regsBut_errorsCounted 0 replays 0 s _ (by decide))))
  rw [bit_eq, hfld, ← bit_eq]

theorem exec_tlpReceived_upstream (tlp : List Byte) (replays corr : Byte) (ecc : DramEcc) (s : State) :
    exec (.tlpReceived (.upstream tlp) ⟨replays, corr⟩ ecc) s = hub s (fun s =>
      if bit s (fDlUp 0) && !upIsTunnel s then
        fromUpstream ecc tlp (upArrives (linkErrors 0 replays.toNat corr.toNat s))
      else s) := rfl

/-- Without correctable errors the TLP is routed as soon as it is counted. -/
theorem hub_tlpReceived_upstream {tlp : List Byte} {replays : Byte} {ecc : DramEcc} (htunnel : upIsTunnel s = false)
    (hup : bit s (fDlUp 0) = true) :
    exec (.tlpReceived (.upstream tlp) ⟨replays, 0⟩ ecc) s =
      hub s (fun s => fromUpstream ecc tlp (tlpTaken replays.toNat s)) := by
  have hmay : (bit (clearOut s) (fDlUp 0) && !upIsTunnel (clearOut s)) = true := by
    rw [show bit (clearOut s) (fDlUp 0) = true from hup, show upIsTunnel (clearOut s) = false from htunnel]
    rfl
  refine (exec_tlpReceived_upstream tlp replays 0 ecc s).trans (hub_congr ?_)
  rw [if_pos hmay]
  exact congrArg (fromUpstream ecc tlp) (upArrives_linkErrors htunnel)

/-- A memory request is neither of configuration, nor a message, nor of I/O. -/
theorem tlpType_of_isMem {tlp : List Byte} (h : isMem tlp = true) :
    isCfg tlp = false ∧ isMsg tlp = false ∧ (tlpType tlp = 2 : Bool) = false := by
  simp only [isMem, Bool.or_eq_true, beq_iff_eq] at h
  obtain h | h := h <;> simp [isCfg, isMsg, h]

/-- A memory request that hits no BAR goes by the windows of the upstream port and of the VDPs. -/
theorem fromUpstream_memory {ecc : DramEcc} {tlp : List Byte} (hgood : malformed s cUp tlp = false) (hmem : isMem tlp = true)
    (hkind : tlpKind tlp ≠ .completion) (hbar : barHit s (tlpAddr tlp) = none) :
    (memBelow s cUp (tlpAddr tlp) = false → fromUpstream ecc tlp s = refuseTlp cUp tlp s) ∧
      ∀ v, memBelow s cUp (tlpAddr tlp) = true → vdpOfAddr s (tlpAddr tlp) = some v → fromUpstream ecc tlp s = toVdp v tlp s := by
  obtain ⟨hcfg, hmsg, hio⟩ := tlpType_of_isMem hmem
  unfold fromUpstream
  rw [if_neg (by simp [hgood])]
  split
  next hcpl => exact absurd hcpl hkind
  next =>
    rw [hcfg, hmsg, hmem]
    simp only [Bool.false_eq_true, if_false, if_true, hbar, hio, Bool.false_or]
    refine ⟨fun hbelow => ?_, fun v hbelow hv => ?_⟩
    · rw [hbelow]
      rfl
    · rw [hbelow, hv]
      rfl

/-- A posted TLP enters the tunnel of a VDP whose link is active. -/
theorem toVdp_posted {v : Nat} {tlp : List Byte} (hv : v < 5) (hactive : bit s (fVdp v) = true) (hkind : tlpKind tlp = .posted) :
    toVdp v tlp s = offerFrame 5 { tag := 0x20 + v, data := tlp } s := by
  rw [toVdp, if_neg (by omega), if_pos hactive]
  dsimp only
  rw [hkind, if_neg (by decide)]
  rfl

/-- A posted memory request behind a VDP enters that VDP's tunnel. -/
theorem answers_tlpReceived_posted {tlp : List Byte} {replays corr : Byte} {ecc : DramEcc} {v : Nat} (h : Runs s)
    (htunnel : upIsTunnel s = false) (hup : bit s (fDlUp 0) = true) (hgood : malformed s cUp tlp = false)
    (hmem : isMem tlp = true) (hkind : tlpKind tlp = .posted) (hbar : barHit s (tlpAddr tlp) = none)
    (hbelow : memBelow s cUp (tlpAddr tlp) = true) (haddr : vdpOfAddr s (tlpAddr tlp) = some v) (hv : v < 5)
    (hactive : bit s (fVdp v) = true) (hcorr : corr = 0) :
    Answers (.tlpReceived (.upstream tlp) ⟨replays, corr⟩ ecc) s (fun t =>
      inqGet t 5 = inqGet s 5 ++ [{ tag := 0x20 + v, data := tlp }] ∧
      cnt64 t (R.PCIE_RX_TLPS 0) = (cnt64 s (R.PCIE_RX_TLPS 0) + 1) % 2 ^ 64 ∧
      RegsBut [R.PCIE_RX_TLPS 0, R.PCIE_RX_TLPS 0 + 4, R.PCIE_STATUS 0, R.PCIE_REPLAYS 0, R.PCIE_CORR_ERR 0] s t ∧
      t = { s with regs := t.regs, inq := t.inq, pcie := t.pcie, out := [] }) := by
  subst hcorr
  have hkey : R.PSW_VDP_STATUS ∉ [R.PCIE_RX_TLPS 0, R.PCIE_RX_TLPS 0 + 4, R.PCIE_STATUS 0, R.PCIE_REPLAYS 0,
      R.PCIE_CORR_ERR 0] := by decide
  have hlink : bit (tlpTaken replays.toNat (clearOut s)) (fVdp v) = true :=
    (bit_of_reg (f := fVdp v) (regsBut_tlpTaken replays.toNat (clearOut s) _ hkey)).trans hactive
  obtain ⟨-, hroute⟩ := fromUpstream_memory (s := tlpTaken replays.toNat (clearOut s)) (ecc := ecc) hgood hmem
    (by rw [hkind]; decide) hbar
  have ht := (hroute v hbelow haddr).trans (toVdp_posted hv hlink hkind)
  have honly := (onlySwitch_tlpTaken replays.toNat (clearOut s)).offerFrame 5 { tag := 0x20 + v, data := tlp }
  refine answers_hub_eq (hub_tlpReceived_upstream htunnel hup) h ht honly.pending_eq honly.fuse_eq ⟨?_, ?_, ?_, honly⟩
  · exact (inqGet_offerFrame _ _ _).trans (congrArg (· ++ _) (inqGet_congr (inq_tlpTaken replays.toNat (clearOut s)) 5))
  · exact (cnt64_offerFrame _ _ _ _).trans (cnt64_tlpTaken replays.toNat (clearOut s))
  · exact (regsBut_tlpTaken replays.toNat (clearOut s)).to fun _ _ => reg_offerFrame _ _ _ _

/-! ### A request that the switch does not support -/

/-- With no message of it sent, a request is answered with UR where its requester is upstream. -/
theorem refuseTlp_logged {f : Nat} {tlp : List Byte} (hkind : tlpKind tlp = .nonPosted)
    (hlog : ErrLogged f s (unsupported f tlp s)) (hbus : vdpOfBus s (tlpTag tlp / 65536) = none) :
    refuseTlp f tlp s = complete f (tlpTag tlp) 1 0 [] false (unsupported f tlp s) := by
  unfold refuseTlp
  dsimp only
  rw [hkind]
  dsimp only
  rw [answerId, (hlog.vdpOfBus_eq _).trans hbus]

theorem complete_upstream (f tag status lower : Nat) (data : List Byte) (ep : Bool) (htunnel : upIsTunnel s = false)
    (hup : bit s (fDlUp 0) = true) :
    ∃ n, complete f tag status lower data ep s =
      emit (.completion tag status data ep) (addCnt64 (R.PCIE_TX_TLPS 0) n (linkUse 0 s)) := by
  refine ⟨(cplTlps (maxPayload s f) (functionId s f) tag status lower data ep).length, ?_⟩
  unfold complete
  dsimp only
  rw [htunnel, hup, if_neg Bool.false_ne_true, if_pos rfl]

/-- A request outside the windows of the upstream port, which takes it as an advisory error, is answered with UR. -/
theorem answers_tlpReceived_unclaimed {tlp : List Byte} {replays corr : Byte} {ecc : DramEcc} (h : Runs s)
    (htunnel : upIsTunnel s = false) (hup : bit s (fDlUp 0) = true) (hgood : malformed s cUp tlp = false)
    (hmem : isMem tlp = true) (hkind : tlpKind tlp = .nonPosted) (hbar : barHit s (tlpAddr tlp) = none)
    (hbelow : memBelow s cUp (tlpAddr tlp) = false) (hsev : cfgBit s cUp 67 20 = false)
    (hquiet : cfgBit s cUp 69 13 = true ∨ errEnabled s cUp 0 = false) (hbus : vdpOfBus s (tlpTag tlp / 65536) = none)
    (hcorr : corr = 0) :
    Answers (.tlpReceived (.upstream tlp) ⟨replays, corr⟩ ecc) s (fun t =>
      t.out = [.completion (tlpTag tlp) 1 [] false] ∧ t.inq = s.inq ∧
      RegsBut [R.PCIE_RX_TLPS 0, R.PCIE_RX_TLPS 0 + 4, R.PCIE_STATUS 0, R.PCIE_REPLAYS 0, R.PCIE_CORR_ERR 0,
        R.PCIE_TX_TLPS 0, R.PCIE_TX_TLPS 0 + 4] s t) := by
  subst hcorr
  obtain ⟨hroute, -⟩ := fromUpstream_memory (s := tlpTaken replays.toNat (clearOut s)) (ecc := ecc) hgood hmem
    (by rw [hkind]; decide) hbar
  have hlog : ErrLogged cUp (tlpTaken replays.toNat (clearOut s)) (unsupported cUp tlp (tlpTaken replays.toNat (clearOut s))) :=
    errLogged_unsupported hkind hsev hquiet
  have ht := (hroute hbelow).trans (refuseTlp_logged hkind hlog hbus)
  have hregs : RegsBut [R.PCIE_RX_TLPS 0, R.PCIE_RX_TLPS 0 + 4, R.PCIE_STATUS 0, R.PCIE_REPLAYS 0, R.PCIE_CORR_ERR 0] s
      (unsupported cUp tlp (tlpTaken replays.toNat (clearOut s))) :=
    (regsBut_tlpTaken replays.toNat (clearOut s)).to fun _ _ => reg_congr hlog.regs_eq _
  have hup' : bit (unsupported cUp tlp (tlpTaken replays.toNat (clearOut s))) (fDlUp 0) = true :=
    (bit_congr hlog.regs_eq _).trans ((bit_tlpTaken_fDlUp replays.toNat (clearOut s)).trans hup)
  have hinq : (unsupported cUp tlp (tlpTaken replays.toNat (clearOut s))).inq = s.inq := hlog.inq_eq
  have hout : (unsupported cUp tlp (tlpTaken replays.toNat (clearOut s))).out = [] := hlog.out_eq
  generalize unsupported cUp tlp (tlpTaken replays.toNat (clearOut s)) = u at ht hregs hup' hinq hout
  obtain ⟨n, hn⟩ := complete_upstream cUp (tlpTag tlp) 1 0 [] false
    ((bit_of_reg (f := ⟨R.PSW_CTRL, 0, 1⟩) (hregs _ (by decide))).trans htunnel) hup'
  refine answers_hub (hub_tlpReceived_upstream htunnel hup) h ?_
  rw [ht.trans hn]
  refine ⟨congrArg (· ++ _) hout, hinq, ?_⟩
  have hwide := hregs.mono (ks' := [R.PCIE_RX_TLPS 0, R.PCIE_RX_TLPS 0 + 4, R.PCIE_STATUS 0, R.PCIE_REPLAYS 0,
    R.PCIE_CORR_ERR 0, R.PCIE_TX_TLPS 0, R.PCIE_TX_TLPS 0 + 4])
  exact ((hwide.linkUse (by decide)).setReg _).setReg _

/-! ### TLP_RECEIVED from the tunnel -/

theorem exec_tlpReceived_tunnel (errs : LinkErrs) (ecc : DramEcc) (s : State) :
    exec (.tlpReceived .tunnel errs ecc) s = execTlpReceived .tunnel errs ecc s := rfl

/-- The switch takes the TLP that waits longest. -/
theorem answers_tlpReceived_tunnel {tlp : List Byte} {rest : List (List Byte)} {errs : LinkErrs} {ecc : DramEcc} (h : Runs s)
    (hin : s.pcie.inbox = tlp :: rest) :
    Answers (.tlpReceived .tunnel errs ecc) s (fun t =>
      t = kept s (fromUpstream ecc tlp { clearOut s with pcie := { s.pcie with inbox := rest } })) := by
  refine answers_hub (exec_tlpReceived_tunnel errs ecc s) h ?_
  dsimp only
  rw [show (clearOut s).pcie.inbox = tlp :: rest from hin]
  rfl

end Sys2Proof.Machine

/-! ## Send windows (R222) -/

namespace Sys2Proof.Machine

-- One theorem after another, as above.
set_option Elab.async false

variable {s t u : State} {ks : List Nat}

/-! ### What a request at a BAR finds -/

/-- Tunnels are looked up in the committed table, and by the pair of ports that a dock names. -/
theorem lookup_congr (h : OnlySwitch s t) (hdock : reg t R.PAIR_DOCK_CTRL = reg s R.PAIR_DOCK_CTRL) (m tid : Nat) (sof : Bool) :
    lookup t m tid sof = lookup s m tid sof := by
  have hnames (e : Entry) : namesB t e = namesB s e := by
    rw [namesB, namesB, bit_of_reg (f := fDockEn) hdock, getF_of_reg (f := fPortB) hdock]
  unfold OnlySwitch at h
  unfold lookup
  simp only [hnames]
  generalize t.regs = r, t.inq = q, t.pcie = p at h
  subst h
  rfl

theorem regsBut_upArrives (s : State) :
    RegsBut [R.PCIE_RX_TLPS 0, R.PCIE_RX_TLPS 0 + 4, R.PCIE_STATUS 0] s (upArrives s) := by
  unfold upArrives
  split
  · exact regsBut_refl _ s
  · exact ((regsBut_refl _ s).linkUse (by decide)).bump64 (by decide) (by decide)

theorem onlySwitch_upArrives (s : State) : OnlySwitch s (upArrives s) := by
  unfold upArrives
  split
  · exact .refl s
  · exact ((OnlySwitch.refl s).linkUse 0).bump64 _

theorem inq_upArrives (s : State) : (upArrives s).inq = s.inq := by
  unfold upArrives
  split <;> rfl

theorem openFrame_upArrives (s : State) (n : Nat) : openFrame (upArrives s) n = openFrame s n := by
  unfold upArrives
  split <;> rfl

theorem openFrame_setOpen (n : Nat) (f : List Byte) (s : State) : openFrame (setOpen n f s) n = f := by
  rw [openFrame, setOpen, smGet_smSet, if_pos rfl]

theorem OnlySwitch.setOpen (h : OnlySwitch s t) (n : Nat) (f : List Byte) : OnlySwitch s (Machine.setOpen n f t) := h.pcie _

/-! ### SEND_WINDOW_WRITE -/

/-- Data that continues the open frame, or begins one, is added to it. -/
theorem sendWindow_next {n off : Nat} {data : List Byte} (hen : getA s ⟨R.PSW_SW_CTRL n, 0, 1⟩ = 1)
    (hsize : off + data.length ≤ swSize s n) (htunnel : (lookup s 5 n true).isSome = true) (hdata : data ≠ [])
    (hoff : off = (openFrame s n).length) : sendWindow n off data s = grow n data s := by
  have hmay : ¬ (getA s ⟨R.PSW_SW_CTRL n, 0, 1⟩ = 0 ∨ swSize s n < off + data.length) := by omega
  have hfound : ¬ (lookup s 5 n true).isNone = true := by
    rw [Option.isNone_iff_eq_none]
    exact Option.ne_none_iff_isSome.2 htunnel
  have hsome : ¬ data.isEmpty = true := by rwa [List.isEmpty_iff]
  unfold sendWindow
  rw [if_neg hmay, if_neg hfound, if_neg hsome]
  by_cases hopen : openFrame s n = []
  · have hzero : off = 0 := by rw [hoff, hopen]; rfl
    rw [if_pos hzero, abandon, hopen]
    rfl
  · have hlater : off ≠ 0 := fun e => hopen (List.eq_nil_of_length_eq_zero (hoff.symm.trans e))
    have hnext : (!(openFrame s n).isEmpty) = true ∧ off = (openFrame s n).length := by
      simpa [List.isEmpty_iff, hopen] using hoff
    rw [if_neg hlater, if_pos hnext]

/-- At FRAME_BYTES the frame enters its tunnel. -/
theorem grow_full {n : Nat} {data : List Byte} (hfull : (openFrame s n ++ data).length = swFrame s n) :
    grow n data s =
      offerFrame 5 { tag := n, data := openFrame s n ++ data } (setOpen n [] (bump64 R.PSW_SW_FRAMES s)) := by
  unfold grow
  dsimp only
  rw [if_neg (by omega), if_pos hfull]

theorem exec_sendWindowWrite (n : Fin 16) (off : BitVec 20) (data : List Byte) (s : State) :
    exec (.sendWindowWrite n off data) s = hub s (barArrives (sendWindow n off.toNat data)) := rfl

/-- The write that completes a frame sends it. -/
theorem answers_sendWindowWrite {n : Fin 16} {off : BitVec 20} {data : List Byte} (h : Runs s) (hup : upstreamUp s = true)
    (hen : getA s ⟨R.PSW_SW_CTRL n, 0, 1⟩ = 1) (hsize : off.toNat + data.length ≤ swSize s n)
    (htunnel : (lookup s 5 n true).isSome = true) (hdata : data ≠ []) (hoff : off.toNat = (openFrame s n).length)
    (hfull : (openFrame s n ++ data).length = swFrame s n) :
    Answers (.sendWindowWrite n off data) s (fun t =>
      inqGet t 5 = inqGet s 5 ++ [{ tag := n.val, data := openFrame s n ++ data }] ∧ openFrame t n = [] ∧
      cnt64 t R.PSW_SW_FRAMES = (cnt64 s R.PSW_SW_FRAMES + 1) % 2 ^ 64 ∧
      RegsBut [R.PSW_SW_FRAMES, R.PSW_SW_FRAMES + 4, R.PCIE_RX_TLPS 0, R.PCIE_RX_TLPS 0 + 4, R.PCIE_STATUS 0] s t ∧
      t = { s with regs := t.regs, inq := t.inq, pcie := t.pcie, out := [] }) := by
  have hexec : exec (.sendWindowWrite n off data) s = hub s (fun s => sendWindow n off.toNat data (upArrives s)) :=
    (exec_sendWindowWrite n off data s).trans (hub_congr (if_pos hup))
  refine answers_hub hexec h ?_
  have honly := onlySwitch_upArrives (clearOut s)
  have hregs := regsBut_upArrives (clearOut s)
  have hframe : openFrame (upArrives (clearOut s)) n = openFrame s n := openFrame_upArrives (clearOut s) n
  have hinq : (upArrives (clearOut s)).inq = s.inq := inq_upArrives (clearOut s)
  have hact : (upArrives (clearOut s)).act = s.act := (congrArg State.act honly :)
  have hlook := lookup_congr honly (hregs _ (by decide)) 5 n true
  generalize upArrives (clearOut s) = v at honly hregs hframe hinq hact hlook ⊢
  have hgetA (f : Fld) : getA v f = getA s f := by rw [getA, actReg_congr hact, ← getA]
  have hswSize : swSize v n = swSize s n := by rw [swSize, hgetA, ← swSize]
  have hswFrame : swFrame v n = swFrame s n := hgetA _
  rw [sendWindow_next ((hgetA _).trans hen) (hswSize ▸ hsize) (hlook ▸ htunnel) hdata (hframe ▸ hoff),
    grow_full (by rw [hframe, hswFrame, hfull]), hframe]
  have hsent := ((honly.bump64 R.PSW_SW_FRAMES).setOpen n []).offerFrame 5 { tag := n.val, data := openFrame s n ++ data }
  rw [kept_eq (s := s) hsent.pending_eq hsent.fuse_eq]
  refine ⟨?_, ?_, ?_, ?_, hsent⟩
  · exact (inqGet_offerFrame _ _ _).trans (congrArg (· ++ _) (inqGet_congr hinq 5))
  · exact openFrame_setOpen n [] _
  · exact (cnt64_offerFrame _ _ _ _).trans (cnt64_bump64_of (hregs _ (by decide)) (hregs _ (by decide)))
  · have hwide := hregs.mono (ks' := [R.PSW_SW_FRAMES, R.PSW_SW_FRAMES + 4, R.PCIE_RX_TLPS 0, R.PCIE_RX_TLPS 0 + 4,
      R.PCIE_STATUS 0])
    exact (hwide.bump64 (by decide) (by decide)).to fun _ _ => reg_offerFrame _ _ _ _

end Sys2Proof.Machine

/-! ## Completion timeouts of the bridge function (R214, R231) -/

namespace Sys2Proof.Machine

-- One theorem after another, as above.
set_option Elab.async false

variable {s t : State}

theorem exec_pcieCompletionTimeout (s : State) :
    exec .pcieCompletionTimeout s = hub s (fun s => if cfgBit s cBridge 26 4 then s else raiseN 76 (aerError cBridge 14 [] s)) := rfl

/-- The timeout as it is logged and counted. -/
def timeoutLogged (s : State) : State :=
  bump (R.PCIE_UNCORR_ERR 0) (logError cBridge 14 (if cfgBit s cBridge 67 14 then 2 ^ 18 else 2 ^ 17) [] s)

theorem testBit_errStatus (fatal : Bool) (i : Nat) (hi : i < 16) :
    (BitVec.ofNat 32 (if fatal then 2 ^ 18 else 2 ^ 17)).toNat.testBit i = false := by
  cases fatal
  · exact ofNat_two_pow_low (n := 17) (by decide) i hi
  · exact ofNat_two_pow_low (n := 18) (by decide) i hi

theorem errLogged_timeout (s : State) :
    ErrLogged cBridge s (logError cBridge 14 (if cfgBit s cBridge 67 14 then 2 ^ 18 else 2 ^ 17) [] s) :=
  (ErrLogged.refl cBridge s).logError 14 _ [] (testBit_errStatus _)

/-- The error's own bit of the Uncorrectable Error Status is set. -/
theorem cfgBit_logError {f i : Nat} (st : Nat) (tlp : List Byte) (s : State) (hi : i < 32) :
    cfgBit (logError f i st tlp s) f 65 i = true := by
  have hbit : (BitVec.ofNat 32 (2 ^ i)).toNat.testBit i = true := by
    rw [BitVec.toNat_ofNat, Nat.mod_eq_of_lt (Nat.pow_lt_pow_right (by decide) hi), Nat.testBit_two_pow_self]
  have hother : cfgGet (logError f i st tlp s) f 65 =
      cfgGet (cfgOr f 65 (BitVec.ofNat 32 (2 ^ i)) (firstError f i tlp s)) f 65 :=
    (cfgGet_cfgSet _ _ _ _ _ _).trans (if_neg (by omega))
  rw [cfgBit_congr hother, cfgBit_cfgOr_same, hbit, Bool.or_true]

theorem aerError_timeout (s : State) :
    aerError cBridge 14 [] s =
      if cfgBit (timeoutLogged s) cBridge 66 14 then timeoutLogged s
      else raise 75 0x20 (sendErr cBridge (if cfgBit s cBridge 67 14 then 2 else 1) (timeoutLogged s)) := rfl

/-- Only registers change beside configuration space. -/
theorem onlyRegs_timeoutLogged (s : State) :
    OnlyRegs { s with pcie := (timeoutLogged (clearOut s)).pcie } (timeoutLogged (clearOut s)) := by
  have hlog := (errLogged_timeout (clearOut s)).frame
  unfold timeoutLogged
  generalize logError cBridge 14 _ [] (clearOut s) = v at hlog ⊢
  refine onlyRegs_setReg ?_ _ _
  unfold OnlyRegs
  generalize v.pcie.cfg = c at hlog
  subst hlog
  rfl

theorem cfgBit_timeoutLogged (s : State) : cfgBit (timeoutLogged s) cBridge 65 14 = true := cfgBit_logError _ _ s (by decide)

/-- The mask and the enables of the bridge function's errors stay. -/
theorem cfgBit_timeoutLogged_mask (s : State) : cfgBit (timeoutLogged s) cBridge 66 14 = cfgBit s cBridge 66 14 :=
  cfgBit_congr ((errLogged_timeout s).cfg_eq (dw := 66)) 14

theorem errEnabled_timeoutLogged (s : State) {kind : Nat} (hkind : kind < 16) :
    errEnabled (timeoutLogged s) cBridge kind = errEnabled s cBridge kind := (errLogged_timeout s).errEnabled_eq hkind

theorem regsBut_timeoutLogged (s : State) : RegsBut [R.PCIE_UNCORR_ERR 0, R.CDC_OVERRUN_EVENTS] s (timeoutLogged s) :=
  ((regsBut_refl _ s).to fun _ _ => reg_congr (errLogged_timeout s).regs_eq _).bump

theorem uncorrErr_timeoutLogged (s : State) : reg (timeoutLogged s) (R.PCIE_UNCORR_ERR 0) = reg s (R.PCIE_UNCORR_ERR 0) + 1 :=
  (reg_bump_same _ _).trans (congrArg (· + 1) (reg_congr (errLogged_timeout s).regs_eq _))

theorem pcie_raise (src d : Nat) (s : State) : (raise src d s).pcie = s.pcie := by rw [raise_frame]

theorem pcie_raiseN (src : Nat) (s : State) : (raiseN src s).pcie = s.pcie := pcie_raise src _ (nextFree s)

theorem cfgBit_of_pcie (h : t.pcie = s.pcie) (f dw i : Nat) : cfgBit t f dw i = cfgBit s f dw i :=
  cfgBit_congr (cfgGet_congr (congrArg Pcie.cfg h) f dw) i

theorem hub_pcieCompletionTimeout (h : cfgBit s cBridge 26 4 = false) :
    exec .pcieCompletionTimeout s = hub s (fun s => raiseN 76 (aerError cBridge 14 [] s)) := by
  refine (exec_pcieCompletionTimeout s).trans (hub_congr (if_neg ?_))
  rw [show cfgBit (clearOut s) cBridge 26 4 = false from h]
  exact Bool.false_ne_true

/-- A masked timeout is logged and counted, and raises source 76 alone. -/
theorem answers_pcieCompletionTimeout_masked (h : Runs s) (hasks : cfgBit s cBridge 26 4 = false)
    (hmask : cfgBit s cBridge 66 14 = true) :
    Answers .pcieCompletionTimeout s (fun t =>
      cfgBit t cBridge 65 14 = true ∧ reg t (R.PCIE_UNCORR_ERR 0) = reg s (R.PCIE_UNCORR_ERR 0) + 1 ∧
      RegsBut [R.PCIE_UNCORR_ERR 0, R.CDC_OVERRUN_EVENTS] s t ∧
      OnlyRaised 76 ((free s).toNat % 65536) { s with freeIdx := s.freeIdx + 1, pcie := t.pcie } t) := by
  have hmasked : cfgBit (timeoutLogged (clearOut s)) cBridge 66 14 = true := (cfgBit_timeoutLogged_mask _).trans hmask
  have ht : raiseN 76 (aerError cBridge 14 [] (clearOut s)) = raiseN 76 (timeoutLogged (clearOut s)) := by
    rw [aerError_timeout, if_pos hmasked]
  have hregs := regsBut_timeoutLogged (clearOut s)
  have hpcie : (raiseN 76 (timeoutLogged (clearOut s))).pcie = (timeoutLogged (clearOut s)).pcie := pcie_raiseN _ _
  have hout : (timeoutLogged (clearOut s)).out = [] := (errLogged_timeout (clearOut s)).out_eq
  have honly := onlyRegs_timeoutLogged s
  have hraised := honly.raisedFree hout (hregs _ (by decide)) 76
  refine answers_onlyRaised (hub_pcieCompletionTimeout hasks) h ht hraised rfl rfl ⟨?_, ?_, ?_, ?_⟩
  · exact (cfgBit_of_pcie hpcie _ _ _).trans (cfgBit_timeoutLogged _)
  · exact (reg_raiseN _ _ (by decide)).trans (uncorrErr_timeoutLogged (clearOut s))
  · exact hregs.raiseN 76 (by decide)
  · rw [hpcie]
    exact hraised

/-- Where the bridge function sends no messages, an unmasked timeout raises source 75 as well. -/
theorem answers_pcieCompletionTimeout_unmasked (h : Runs s) (hasks : cfgBit s cBridge 26 4 = false)
    (hquiet : (errEnabled s cBridge 1 || errEnabled s cBridge 2) = false) (hmask : cfgBit s cBridge 66 14 = false) :
    Answers .pcieCompletionTimeout s (fun t =>
      cfgBit t cBridge 65 14 = true ∧ reg t (R.PCIE_UNCORR_ERR 0) = reg s (R.PCIE_UNCORR_ERR 0) + 1 ∧
      RegsBut [R.PCIE_UNCORR_ERR 0, R.CDC_OVERRUN_EVENTS] s t ∧
      t = kept s (raiseN 76 (aerError cBridge 14 [] (clearOut s)))) := by
  have hopen : ¬ cfgBit (timeoutLogged (clearOut s)) cBridge 66 14 = true := by
    rw [cfgBit_timeoutLogged_mask, show cfgBit (clearOut s) cBridge 66 14 = false from hmask]
    exact Bool.false_ne_true
  have hsilent (kind : Nat) (hkind : kind = 1 ∨ kind = 2) : errEnabled (timeoutLogged (clearOut s)) cBridge kind = false := by
    obtain ⟨hnonfatal, hfatal⟩ := Bool.or_eq_false_iff.1 hquiet
    obtain rfl | rfl := hkind
    · exact (errEnabled_timeoutLogged _ (by decide)).trans hnonfatal
    · exact (errEnabled_timeoutLogged _ (by decide)).trans hfatal
  have ht : aerError cBridge 14 [] (clearOut s) = raise 75 0x20 (timeoutLogged (clearOut s)) := by
    rw [aerError_timeout, if_neg hopen, sendErr_disabled (hsilent _ (by split <;> simp))]
  have hregs := regsBut_timeoutLogged (clearOut s)
  have hcount := uncorrErr_timeoutLogged (clearOut s)
  have hlogged := cfgBit_timeoutLogged (clearOut s)
  refine answers_hub (hub_pcieCompletionTimeout hasks) h ?_
  rw [ht]
  generalize timeoutLogged (clearOut s) = v at hregs hcount hlogged
  have hpcie : (raiseN 76 (raise 75 0x20 v)).pcie = v.pcie := (pcie_raiseN _ _).trans (pcie_raise _ _ _)
  refine ⟨?_, ?_, ?_, rfl⟩
  · exact (cfgBit_of_pcie hpcie cBridge 65 14).trans hlogged
  · exact (reg_raiseN _ _ (by decide)).trans ((reg_raise _ _ _ (by decide)).trans hcount)
  · exact (hregs.raise 75 0x20 (by decide)).raiseN 76 (by decide)

end Sys2Proof.Machine

/-! ## Commits of the PSW and BRG pages (R235, Table 9-10) -/

namespace Sys2Proof.Machine

-- One theorem after another, as above.
set_option Elab.async false

variable {s t u : State}

/-- A page's staged windows act, its result is OK, and nothing of it is dirty. -/
def windowsCommitted (page : Nat) (ks : List Nat) (s : State) : State :=
  setF (fDirty page) 0 (commitResult page 0 0 (commitRegs ks s))

theorem onlyActs_windowsCommitted (page : Nat) (ks : List Nat) (s : State) : OnlyActs s (windowsCommitted page ks s) :=
  (((OnlyActs.commitRegs (s := s) (t := s) rfl ks).setF _ _).setF _ _).setF _ _

theorem regsBut_windowsCommitted (page : Nat) (ks : List Nat) (s : State) :
    RegsBut [page * 0x1000 + 0x024, (fDirty page).key] s (windowsCommitted page ks s) :=
  ((((regsBut_refl _ s).to fun _ _ => reg_commitRegs ks s _).setF (f := ⟨page * 0x1000 + 0x024, 1, 3⟩) 0 (by simp)).setF
    (f := ⟨page * 0x1000 + 0x024, 8, 8⟩) 0 (by simp)).setF (f := fDirty page) 0 (by simp)

theorem actReg_windowsCommitted (page : Nat) {ks : List Nat} (s : State) {k : Nat} (hk : k ∈ ks) :
    actReg (windowsCommitted page ks s) k = reg s k := (actReg_commitRegs ks s k).trans (if_pos hk)

theorem result_windowsCommitted (page : Nat) (ks : List Nat) (s : State) :
    getF (windowsCommitted page ks s) ⟨page * 0x1000 + 0x024, 1, 3⟩ = 0 := by
  have hkey : page * 0x1000 + 0x024 ≠ (fDirty page).key := by
    dsimp only
    omega
  refine (getF_setF_ne (f := fDirty page) (g := ⟨page * 0x1000 + 0x024, 1, 3⟩) _ _ hkey).trans ?_
  exact (getF_setF_beside _ _ (by decide)).trans (getF_setF_same ⟨page * 0x1000 + 0x024, 1, 3⟩ 0 _ (by decide : 1 + 3 ≤ 32))

/-- Without a pair's standby no journal is told. -/
theorem windowCommit_unpaired {page : Nat} {ks : List Nat} (h : Unpaired s)
    (hpage : R.DEV_MODE ∉ [page * 0x1000 + 0x024, (fDirty page).key]) :
    windowCommit page 0 ks s = windowsCommitted page ks s :=
  (if_pos rfl).trans (journalCommit_unpaired (unpaired_congr h (regsBut_windowsCommitted page ks s _ hpage)) page _)

theorem exec_pswBrgCommit (brg : Bool) (s : State) : exec (.pswBrgCommit brg) s = hub s (pswBrgCommit brg) := rfl

/-- A commit that takes effect completes with the staged windows in force. -/
theorem answers_windowCommit {brg : Bool} {page : Nat} {ks : List Nat} (h : Runs s)
    (hcommit : pswBrgCommit brg (clearOut s) = windowsCommitted page ks (clearOut s)) :
    Answers (.pswBrgCommit brg) s (fun t =>
      (∀ k ∈ ks, actReg t k = reg s k) ∧ getF t ⟨page * 0x1000 + 0x024, 1, 3⟩ = 0 ∧ bit t (fDirty page) = false ∧
      RegsBut [page * 0x1000 + 0x024, (fDirty page).key] s t ∧ t = { s with regs := t.regs, act := t.act, out := [] }) := by
  have hframe := onlyActs_windowsCommitted page ks (clearOut s)
  have hpend := congrArg State.pending hframe
  have hfuse := congrArg State.fuse hframe
  exact answers_hub_eq (exec_pswBrgCommit brg s) h hcommit hpend hfuse
    ⟨fun _ hk => actReg_windowsCommitted page (clearOut s) hk, result_windowsCommitted page ks (clearOut s),
      bit_setF_zero _ _ _ (by decide), regsBut_windowsCommitted page ks (clearOut s), hframe⟩

theorem pswBrgCommit_psw (h : Unpaired s) (hcheck : pswCheck s = 0) :
    pswBrgCommit false s = windowsCommitted 0x82 pswRegs s := by
  rw [pswBrgCommit, if_neg Bool.false_ne_true, hcheck, windowCommit_unpaired h (by decide)]

theorem pswBrgCommit_brg (h : Unpaired s) (hcheck : brgCheck s = 0) :
    pswBrgCommit true s = windowsCommitted 0x90 brgRegs s := by
  rw [pswBrgCommit, if_pos rfl, hcheck, windowCommit_unpaired h (by decide)]

/-- Settles O18: each clause is the completion lemma of its command above. -/
theorem pcieCommandsComplete : Obligations.PcieCommandsComplete := by
  unfold Obligations.PcieCommandsComplete
  exact ⟨fun _ _ _ _ h hmay => answers_pcieLinkUp h hmay,
    fun _ _ h hup => answers_pcieLinkDown h hup,
    fun _ _ _ _ h hup => answers_pcieRetrain h hup,
    fun _ h hu => answers_upstreamHotReset h hu,
    fun _ _ _ _ _ h hup hgood hquiet => answers_tlpReceived_downstream h hup hgood hquiet,
    fun _ _ _ _ _ _ h htunnel hup hgood hmem hkind hbar hbelow haddr hv hactive hcorr =>
      answers_tlpReceived_posted h htunnel hup hgood hmem hkind hbar hbelow haddr hv hactive hcorr,
    fun _ _ _ _ _ h htunnel hup hgood _ _ hmem hkind hbar hbelow hsev hquiet hbus hcorr =>
      answers_tlpReceived_unclaimed h htunnel hup hgood hmem hkind hbar hbelow hsev hquiet hbus hcorr,
    fun _ _ _ _ _ _ h hin => answers_tlpReceived_tunnel h hin,
    fun _ _ _ _ h hup hen hsize htunnel hdata hoff hfull =>
      answers_sendWindowWrite h hup hen hsize htunnel hdata hoff hfull,
    fun _ h hasks hmask => answers_pcieCompletionTimeout_masked h hasks hmask,
    fun _ h hasks hquiet hmask => answers_pcieCompletionTimeout_unmasked h hasks hquiet hmask,
    fun s h hu hcheck => answers_windowCommit h (pswBrgCommit_psw (s := clearOut s) hu hcheck),
    fun s h hu hcheck => answers_windowCommit h (pswBrgCommit_brg (s := clearOut s) hu hcheck)⟩

end Sys2Proof.Machine

/-! ## USB 3 ports: a state that one statement leaves out (R245)

The clause of USB3_LINK_STATE_FRAME asks for a virtual port whose pair is up, and nothing of the link state that the port shows. -/

namespace Sys2Proof.Machine

/-- The pair of USB 3 port 4 is committed, and the port stands as virtual and connected with its link disabled. -/
def virtualPortDisabled : State :=
  setReg (R.USB3_PORT_STATUS 3) 0x34
    (setAct (entKey 5 0) 0x01038005 (setAct (entKey 6 0) 0x08001005 (setAct (entKey 6 1) 3 (linkAt 0))))

theorem runs_virtualPortDisabled : Runs virtualPortDisabled := by
  unfold Runs
  decide +kernel

theorem virtual_virtualPortDisabled : bit virtualPortDisabled (fVirtual3 4) = true := by decide +kernel

theorem pairUp_virtualPortDisabled : pairUp virtualPortDisabled 2 8 3 = true := by decide +kernel

/-- The frame by which the far hub tells that its link has entered U3. -/
def u3Frame : List Byte := [2, 3, 0, 0]

theorem exec_usb3LinkStateFrame (tag : Byte) (frame : List Byte) (s : State) :
    exec (.usb3LinkStateFrame tag frame) s = execUsb3LinkStateFrame tag frame s := rfl

/-- What the far hub's word of U3 leaves where the port's link is disabled: the word is noted, and no register changes. -/
theorem exec_usb3LinkStateFrame_virtualPortDisabled :
    exec (.usb3LinkStateFrame 3 u3Frame) virtualPortDisabled =
      hub virtualPortDisabled (fun s => { s with usb := { s.usb with far := natSet s.usb.far 3 4 } }) :=
  (exec_usb3LinkStateFrame _ _ _).trans (hub_congr (by decide +kernel))

/-- Refutes O21: the clause of USB3_LINK_STATE_FRAME says that a virtual port follows its far hub into U3, but one whose link is
disabled waits for a reset (R346), and its state still reads disabled. -/
theorem not_usbHubCommandsComplete : ¬ Obligations.UsbHubCommandsComplete := by
  unfold Obligations.UsbHubCommandsComplete
  rintro ⟨-, -, -, -, -, -, -, -, -, -, -, -, -, -, -, -, -, -, -, -, -, -, -, -, hframe, -⟩
  obtain ⟨hu3, -⟩ := of_answers_hub exec_usb3LinkStateFrame_virtualPortDisabled runs_virtualPortDisabled
    (hframe 3 u3Frame virtualPortDisabled runs_virtualPortDisabled (by decide) rfl (by decide) (by decide)
      virtual_virtualPortDisabled pairUp_virtualPortDisabled)
  have hdisabled : getF virtualPortDisabled (fPls3 4) = plsDisabled := by decide +kernel
  exact absurd (hdisabled.symm.trans hu3) (by decide)

end Sys2Proof.Machine

/-! ## What the translators' commands touch (R247–R250) -/

namespace Sys2Proof.Machine

variable {c : Instr} {s t : State} {ks : List Nat} {k : Nat}

/-! ### A translator, its status and its port's changes -/

theorem ttGet_ttSet_same (k : Nat) (x : Tt) (s : State) : ttGet (ttSet k x s) k = x := smGet_smSet_same _ _ _

theorem ttGet_setF (f : Fld) (v : Nat) (s : State) (k : Nat) : ttGet (setF f v s) k = ttGet s k := rfl
theorem ttGet_bump (j : Nat) (s : State) (k : Nat) : ttGet (bump j s) k = ttGet s k := rfl

theorem reg_ttSet_ne {j : Nat} (x : Tt) (s : State) (h : j ≠ R.USB2_TP_STATUS k) : reg (ttSet k x s) j = reg s j :=
  reg_setF_ne (f := ⟨R.USB2_TP_STATUS k, 8, 5⟩) _ { s with usb := { s.usb with tt := smSet dTt s.usb.tt k x } } h

/-- The count of splits outstanding leaves the fields below it. -/
theorem getF_ttSet_below {lo w : Nat} (k : Nat) (x : Tt) (s : State) (h : lo + w ≤ 8) :
    getF (ttSet k x s) ⟨R.USB2_TP_STATUS k, lo, w⟩ = getF s ⟨R.USB2_TP_STATUS k, lo, w⟩ :=
  getF_setF_beside _ { s with usb := { s.usb with tt := smSet dTt s.usb.tt k x } } ⟨by decide, .inr h⟩

theorem RegsBut.ttSet (h : RegsBut ks s t) (x : Tt) (hk : R.USB2_TP_STATUS k ∈ ks) : RegsBut ks s (Machine.ttSet k x t) :=
  h.to fun _ hj => reg_ttSet_ne x t fun e => hj (e ▸ hk)

/-- A change bit of a port stands in no register and in no translator. -/
theorem reg_when_change2 (b : Bool) (p n : Nat) (s : State) (j : Nat) : reg (when b (change2 p n) s) j = reg s j := by
  cases b <;> rfl

theorem ttGet_when_change2 (b : Bool) (p n : Nat) (s : State) (k : Nat) : ttGet (when b (change2 p n) s) k = ttGet s k := by
  cases b <;> rfl

theorem RegsBut.whenChange2 (h : RegsBut ks s t) (b : Bool) (p n : Nat) : RegsBut ks s (when b (change2 p n) t) :=
  h.to fun j _ => reg_when_change2 b p n t j

/-! ### What a command of the USB adapter may change -/

/-- Nothing but registers and what the USB adapter keeps has changed. -/
def OnlyUsb (s t : State) : Prop := t = { s with regs := t.regs, usb := t.usb }

namespace OnlyUsb

theorem refl (s : State) : OnlyUsb s s := rfl

theorem pending (h : OnlyUsb s t) : t.pending = s.pending := (congrArg State.pending h :)
theorem fuse (h : OnlyUsb s t) : t.fuse = s.fuse := (congrArg State.fuse h :)

theorem setReg (h : OnlyUsb s t) (j : Nat) (v : Word) : OnlyUsb s (Machine.setReg j v t) := by
  unfold OnlyUsb at *
  generalize t.regs = r, t.usb = x at h
  subst h
  rfl

theorem setF (h : OnlyUsb s t) (f : Fld) (v : Nat) : OnlyUsb s (Machine.setF f v t) := h.setReg _ _
theorem bump (h : OnlyUsb s t) (j : Nat) : OnlyUsb s (Machine.bump j t) := h.setReg _ _

theorem usb (h : OnlyUsb s t) (x : Usb) : OnlyUsb s { t with usb := x } := by
  unfold OnlyUsb at *
  generalize t.regs = r, t.usb = y at h
  subst h
  rfl

theorem ttSet (h : OnlyUsb s t) (k : Nat) (x : Tt) : OnlyUsb s (Machine.ttSet k x t) := (h.usb _).setF _ _

theorem whenChange2 (h : OnlyUsb s t) (b : Bool) (p n : Nat) : OnlyUsb s (when b (change2 p n) t) := by
  cases b with
  | false => exact h
  | true => exact h.usb _

/-- A raise after registers and the USB adapter have changed is the raise before. -/
theorem raised (h : OnlyUsb (clearOut s) t) (hao : reg t R.AO_STATUS = reg s R.AO_STATUS) (src d : Nat) :
    OnlyRaised src d { s with usb := t.usb } (raise src d t) := by
  have hout := congrArg State.out h
  have hregs : OnlyRegs { s with usb := t.usb } t := by
    unfold OnlyRegs
    rw [hout]
    exact h
  exact hregs.raised hout hao src d

end OnlyUsb

/-- A command of the hub die that touches registers and the USB adapter alone completes with its effect. -/
theorem answers_usb {f : State → State} {P : State → Prop} (e : exec c s = hub s f) (h : Runs s) (ht : f (clearOut s) = t)
    (hu : OnlyUsb (clearOut s) t) (hP : P t) : Answers c s P := answers_hub_eq e h ht hu.pending hu.fuse hP

/-- A command that hands the USB adapter's mortise one frame completes with that alone. -/
theorem answers_offered {f : InFrame} (e : exec c s = hub s (offerFrame 8 f)) (h : Runs s) :
    Answers c s (fun t => inqGet t 8 = inqGet s 8 ++ [f] ∧ RegsBut [] s t ∧
      t = { s with regs := t.regs, inq := t.inq, out := [] }) :=
  answers_hub_eq e h rfl rfl rfl ⟨inqGet_offerFrame 8 f (clearOut s), fun _ _ => rfl, rfl⟩

end Sys2Proof.Machine

/-! ## Splits of the translated ports (R249) -/

namespace Sys2Proof.Machine

variable {s t : State} {ks : List Nat} {k : Fin 8} {isIn ls : Bool} {dev : BitVec 7} {ep : BitVec 4} {data : List Byte}

/-! ### START_SPLIT -/

/-- SPLIT_REQ of a start-split, with the handle that it is sent under. -/
def splitReq (handle : Nat) (pid : Byte) (isIn : Bool) (dev : BitVec 7) (ls : Bool) (ep : BitVec 4) (kind : Fin 4)
    (frameNo : BitVec 11) (uframe : BitVec 3) (dataPid : Byte) (data : List Byte) : List Byte :=
  [1, BitVec.ofNat 8 handle, pid, BitVec.ofNat 8 (dev.toNat + if ls then 128 else 0), BitVec.ofNat 8 (ep.toNat + kind.val * 16)]
    ++ bytesBE 2 (frameNo.toNat + uframe.toNat * 2048) ++ [if isIn then 0 else dataPid] ++ bytesBE 2 (data.take 64).length
    ++ data.take 64

/-- The split that a non-periodic start-split opens. -/
def Tt.opened (x : Tt) (isIn : Bool) (dev : BitVec 7) (ep : BitVec 4) (uframe : BitVec 3) : Split :=
  { handle := x.nextHandle % 256, dev := dev.toNat, ep := ep.toNat, isIn := isIn, uframe := uframe.toNat }

/-- A translator takes a split into a free non-periodic buffer. -/
def Tt.started (x : Tt) (sp : Split) : Tt :=
  { x with nextHandle := (x.nextHandle + 1) % 256, err := x.err.filter (· != (sp.dev, sp.ep, sp.isIn)), np := x.np ++ [sp] }

/-- A non-periodic split goes to the dock, counted and acknowledged. -/
def splitSent (k : Nat) (sp : Split) (frame : List Byte) (s : State) : State :=
  emit (.usb pidAck []) (offerFrame 8 { tag := 0x10 + k, data := frame }
    (bump64 R.USB2_SPLITS_FWD (ttSet k ((ttGet s k).started sp) s)))

theorem regsBut_splitSent (k : Nat) (sp : Split) (frame : List Byte) (s : State) :
    RegsBut [R.USB2_SPLITS_FWD, R.USB2_SPLITS_FWD + 4, R.USB2_TP_STATUS k] s (splitSent k sp frame s) :=
  RegsBut.to (((regsBut_refl _ s).ttSet _ (by simp)).bump64 (by simp) (by simp)) fun _ _ => rfl

theorem cnt64_splitSent (k : Fin 8) (sp : Split) (frame : List Byte) (s : State) :
    cnt64 (splitSent k sp frame s) R.USB2_SPLITS_FWD = (cnt64 s R.USB2_SPLITS_FWD + 1) % 2 ^ 64 :=
  cnt64_bump64_of (t := ttSet k _ s) (reg_ttSet_ne _ _ (by simp only [R.USB2_SPLITS_FWD, R.USB2_TP_STATUS]; omega))
    (reg_ttSet_ne _ _ (by simp only [R.USB2_SPLITS_FWD, R.USB2_TP_STATUS]; omega))

theorem exec_startSplit {pid dataPid : Byte} {kind : Fin 4} {frameNo : BitVec 11} {uframe : BitVec 3}
    (hbound : bit s (fBound k) = true) (hen : bit s ⟨R.USB2_TP_CTRL k, 0, 1⟩ = true) (hkind : kind.val < 2)
    (hroom : (ttGet s k).np.length < 2) (hgoing : (ttGet s k).stopped = false) :
    exec (.startSplit k pid isIn dev ls ep kind frameNo uframe dataPid data) s =
      hub s (splitSent k ((ttGet s k).opened isIn dev ep uframe)
        (splitReq ((ttGet s k).nextHandle % 256) pid isIn dev ls ep kind frameNo uframe dataPid data)) := by
  have hserves : (!(bit (clearOut s) (fBound k) && bit (clearOut s) ⟨R.USB2_TP_CTRL k, 0, 1⟩)
      || (ttGet (clearOut s) k).stopped) = false := by
    rw [bit_clearOut, bit_clearOut, hbound, hen]
    exact hgoing
  have hperiodic : (kind.val == 2) = false := beq_false_of_ne (by omega)
  have hfree : decide (2 ≤ (ttGet (clearOut s) k).np.length) = false := decide_eq_false (Nat.not_le.2 hroom)
  show execStartSplit k pid isIn dev ls ep kind frameNo uframe dataPid data s = _
  refine hub_congr ?_
  simp only [hserves, hperiodic, hfree, if_neg (show kind.val ≠ 3 by omega), Bool.not_false, Bool.and_false, Bool.false_and,
    Bool.false_eq_true, if_false]
  rfl

/-- START_SPLIT of a control or bulk endpoint with a buffer free. -/
theorem answers_startSplit {pid dataPid : Byte} {kind : Fin 4} {frameNo : BitVec 11} {uframe : BitVec 3} (h : Runs s)
    (hbound : bit s (fBound k) = true) (hen : bit s ⟨R.USB2_TP_CTRL k, 0, 1⟩ = true) (hkind : kind.val < 2)
    (hroom : (ttGet s k).np.length < 2) (hgoing : (ttGet s k).stopped = false) :
    Answers (.startSplit k pid isIn dev ls ep kind frameNo uframe dataPid data) s (fun t =>
      t.out = [.usb pidAck []] ∧
      (ttGet t k).np = (ttGet s k).np ++ [(ttGet s k).opened isIn dev ep uframe] ∧
      inqGet t 8 = inqGet s 8 ++ [{
        tag := 0x10 + k.val
        data := splitReq ((ttGet s k).nextHandle % 256) pid isIn dev ls ep kind frameNo uframe dataPid data }] ∧
      cnt64 t R.USB2_SPLITS_FWD = (cnt64 s R.USB2_SPLITS_FWD + 1) % 2 ^ 64 ∧
      RegsBut [R.USB2_SPLITS_FWD, R.USB2_SPLITS_FWD + 4, R.USB2_TP_STATUS k] s t) :=
  answers_hub_eq (exec_startSplit hbound hen hkind hroom hgoing) h rfl rfl rfl
    ⟨rfl, congrArg Tt.np (ttGet_ttSet_same k _ _), inqGet_offerFrame 8 _ _, cnt64_splitSent k _ _ (clearOut s),
      regsBut_splitSent k _ _ (clearOut s)⟩

/-! ### COMPLETE_SPLIT -/

/-- The buffer or entry of a handle is free again. -/
def Tt.freed (x : Tt) (handle : Nat) : Tt :=
  { x with np := x.np.filter (fun y => y.handle != handle), per := x.per.filter (fun y => y.handle != handle) }

theorem exec_completeSplit {sp : Split} {pid : Nat}
    (herr : (ttGet s k).err.contains (dev.toNat, ep.toNat, isIn) = false)
    (hfind : ((ttGet s k).np ++ (ttGet s k).per).find? (fun x => x.is dev.toNat ep.toNat isIn) = some sp)
    (hlive : sp.expired = false) (hresult : sp.result = some (pid, data)) :
    exec (.completeSplit k dev ep isIn) s =
      hub s (fun s => emit (.usb (if pid = 0 then pidErr else pid) data) (ttSet k ((ttGet s k).freed sp.handle) s)) := by
  have htt : ttGet (clearOut s) k = ttGet s k := rfl
  show execCompleteSplit k dev ep isIn s = _
  refine hub_congr ?_
  simp only [htt, herr, hfind, hlive, hresult, Bool.false_eq_true, if_false]
  rfl

/-- COMPLETE_SPLIT of a split whose result is there. -/
theorem answers_completeSplit {sp : Split} {pid : Nat} (h : Runs s)
    (herr : (ttGet s k).err.contains (dev.toNat, ep.toNat, isIn) = false)
    (hfind : ((ttGet s k).np ++ (ttGet s k).per).find? (fun x => x.is dev.toNat ep.toNat isIn) = some sp)
    (hlive : sp.expired = false) (hresult : sp.result = some (pid, data)) :
    Answers (.completeSplit k dev ep isIn) s (fun t =>
      t.out = [.usb (if pid = 0 then pidErr else pid) data] ∧
      (ttGet t k).np = (ttGet s k).np.filter (fun x => x.handle != sp.handle) ∧
      (ttGet t k).per = (ttGet s k).per.filter (fun x => x.handle != sp.handle) ∧ RegsBut [R.USB2_TP_STATUS k] s t) := by
  have htt := ttGet_ttSet_same k ((ttGet s k).freed sp.handle) (clearOut s)
  exact answers_hub_eq (exec_completeSplit herr hfind hlive hresult) h rfl rfl rfl
    ⟨rfl, congrArg Tt.np htt, congrArg Tt.per htt, (regsBut_refl _ (clearOut s)).ttSet _ (by simp)⟩

/-! ### TT_SPLIT_RESULT_FRAME -/

/-- The splits of a handle have their result, but for those that have expired. -/
def answered (handle : Nat) (r : Nat × List Byte) (x : Split) : Split :=
  if x.handle = handle ∧ !x.expired then { x with result := some r } else x

/-- The non-periodic buffers of a handle have their result. -/
def Tt.answered (x : Tt) (handle : Nat) (r : Nat × List Byte) : Tt := { x with np := x.np.map (Machine.answered handle r) }

theorem exec_ttSplitResultFrame {frame : List Byte} {late : Bool} (htype : byteAt frame 0 = 2)
    (hlen : ofBE (sub frame 8 2) ≤ 64) (hwhole : frame.length = 10 + ofBE (sub frame 8 2))
    (hheld : (ttGet s k).np.any (fun x => x.handle == byteAt frame 1) = true) :
    exec (.ttSplitResultFrame k frame late) s =
      hub s (fun s => ttSet k ((ttGet s k).answered (byteAt frame 1) (byteAt frame 2, frame.drop 10)) s) := by
  have htt : ttGet (clearOut s) k = ttGet s k := rfl
  show execTtSplitResultFrame k frame late s = _
  refine hub_congr ?_
  simp only [htype, decide_eq_false (Nat.not_lt.2 hlen), hwhole, htt, hheld, bne_self_eq_false, Bool.or_self,
    Bool.false_eq_true, if_false, if_true]
  rfl

/-- TT_SPLIT_RESULT_FRAME of a non-periodic split. -/
theorem answers_ttSplitResultFrame {frame : List Byte} {late : Bool} (h : Runs s) (htype : byteAt frame 0 = 2)
    (hlen : ofBE (sub frame 8 2) ≤ 64) (hwhole : frame.length = 10 + ofBE (sub frame 8 2))
    (hheld : (ttGet s k).np.any (fun x => x.handle == byteAt frame 1) = true) :
    Answers (.ttSplitResultFrame k frame late) s (fun t =>
      (ttGet t k).np = (ttGet s k).np.map (answered (byteAt frame 1) (byteAt frame 2, frame.drop 10)) ∧
      (ttGet t k).per = (ttGet s k).per ∧ RegsBut [R.USB2_TP_STATUS k] s t ∧
      t = { s with regs := t.regs, usb := t.usb, out := [] }) := by
  have htt := ttGet_ttSet_same k ((ttGet s k).answered (byteAt frame 1) (byteAt frame 2, frame.drop 10)) (clearOut s)
  have honly := (OnlyUsb.refl (clearOut s)).ttSet k ((ttGet s k).answered (byteAt frame 1) (byteAt frame 2, frame.drop 10))
  exact answers_usb (exec_ttSplitResultFrame htype hlen hwhole hheld) h rfl honly
    ⟨congrArg Tt.np htt, (congrArg Tt.per htt :), (regsBut_refl _ (clearOut s)).ttSet _ (by simp), honly⟩

/-! ### TT_TIMEOUT_EXPIRY -/

theorem raise_usb (src d : Nat) (s : State) : (raise src d s).usb = s.usb := by rw [raise_frame]

theorem ttGet_congr (h : t.usb = s.usb) (k : Nat) : ttGet t k = ttGet s k := by rw [ttGet, h, ← ttGet]

theorem usb_raiseTt (k code : Nat) (s : State) : (raiseTt k code s).usb = s.usb := by
  unfold raiseTt limited
  dsimp only
  split
  · exact raise_usb _ _ _
  · rfl

theorem reg_raiseTt (k code : Nat) (s : State) {j : Nat} (hj : j ≠ R.CDC_OVERRUN_EVENTS) :
    reg (raiseTt k code s) j = reg s j := by
  unfold raiseTt limited
  dsimp only
  split
  · exact reg_raise 82 _ { s with limit := natSet s.limit _ (s.ticks + 1) } hj
  · rfl

/-- A split of a handle still waits for its result. -/
def awaited (handle : Nat) (x : Split) : Bool := x.handle == handle && x.result.isNone && !x.expired

/-- A non-periodic request that waits under a handle expires. -/
def Tt.timedOut (x : Tt) (handle : Nat) : Tt :=
  { x with np := x.np.map (fun y => if awaited handle y then { y with expired := true } else y) }

/-- A request of translator `k` that waits under a handle expires, and is counted. -/
def splitExpired (k handle : Nat) (s : State) : State :=
  bump R.USB2_REMOTE_TIMEOUTS (ttSet k ((ttGet s k).timedOut handle) s)

theorem exec_ttTimeoutExpiry {handle : Byte} (hdue : (ttGet s k).np.any (awaited handle.toNat) = true) :
    exec (.ttTimeoutExpiry k handle) s = hub s (fun s => raiseTt k 1 (splitExpired k handle.toNat s)) :=
  hub_congr (if_pos hdue)

/-- TT_TIMEOUT_EXPIRY of a request that waits. -/
theorem answers_ttTimeoutExpiry {handle : Byte} (h : Runs s) (hdue : (ttGet s k).np.any (awaited handle.toNat) = true) :
    Answers (.ttTimeoutExpiry k handle) s (fun t =>
      (ttGet t k).np = (ttGet s k).np.map (fun x => if awaited handle.toNat x then { x with expired := true } else x) ∧
      reg t R.USB2_REMOTE_TIMEOUTS = reg s R.USB2_REMOTE_TIMEOUTS + 1 ∧
      RegsBut [R.USB2_TP_STATUS k, R.USB2_REMOTE_TIMEOUTS, R.CDC_OVERRUN_EVENTS] s t) := by
  have hregs : RegsBut [R.USB2_TP_STATUS k, R.USB2_REMOTE_TIMEOUTS, R.CDC_OVERRUN_EVENTS] s
      (splitExpired k handle.toNat (clearOut s)) := ((regsBut_refl _ (clearOut s)).ttSet _ (by simp)).bump (by simp)
  refine answers_hub (exec_ttTimeoutExpiry hdue) h ⟨?_, ?_, ?_⟩
  · have htt := ttGet_congr (usb_raiseTt k 1 (splitExpired k handle.toNat (clearOut s))) k
    exact congrArg Tt.np (htt.trans (ttGet_ttSet_same k _ (clearOut s)))
  · exact (reg_raiseTt _ _ _ (by decide)).trans ((reg_bump_same _ _).trans
      (congrArg (· + 1) (reg_ttSet_ne _ _ (by simp only [R.USB2_REMOTE_TIMEOUTS, R.USB2_TP_STATUS]; omega))))
  · exact (hregs.to fun _ hj => reg_raiseTt _ _ _ fun e => hj (by simp [e])).kept s

end Sys2Proof.Machine

/-! ## The ports of a dock (R247, R248, R250), and the commands of the translators together -/

namespace Sys2Proof.Machine

variable {s : State} {k : Fin 8} {p : BitVec 3} {frame : List Byte}

/-! ### TT_PORT_STATUS_FRAME -/

theorem stateOfStatus_lt (w : Nat) : stateOfStatus w < 2 ^ 3 := by
  unfold stateOfStatus
  split_ifs <;> decide

/-- What PORT_STATUS reports, in the status register of translated port `k` and in its translator. -/
def tpReported (k : Nat) (frame : List Byte) (s : State) : State :=
  ttSet k { ttGet s k with wStatus := ofBE (sub frame 2 2) }
    (setF ⟨R.USB2_TP_STATUS k, 5, 1⟩ (byteAt frame 4 % 2)
      (setF ⟨R.USB2_TP_STATUS k, 3, 1⟩ (bits (ofBE (sub frame 2 2)) 9 1)
        (setF (fBound k) 1 (setF (fTp k) (stateOfStatus (ofBE (sub frame 2 2))) s))))

/-- The change bits of port `p` as its state goes from `was` to `st`. -/
def tpChanged (p was st : Nat) (s : State) : State :=
  when (was == psEnabled && st == psDisabled) (change2 p 1) (when (was == psSuspended && st == psEnabled) (change2 p 2)
    (when (was == psResetting && st == psEnabled) (change2 p 4)
      (when (decide (2 ≤ was) != decide (2 ≤ st)) (change2 p 0) s)))

theorem reg_tpChanged (p was st : Nat) (s : State) (j : Nat) : reg (tpChanged p was st s) j = reg s j := by
  simp only [tpChanged, reg_when_change2]

theorem ttGet_tpChanged (p was st : Nat) (s : State) (k : Nat) : ttGet (tpChanged p was st s) k = ttGet s k := by
  simp only [tpChanged, ttGet_when_change2]

theorem getF_tpReported (k : Nat) (frame : List Byte) (s : State) :
    getF (tpReported k frame s) (fTp k) = stateOfStatus (ofBE (sub frame 2 2)) := by
  unfold tpReported
  rw [getF_ttSet_below _ _ _ (by decide), getF_setF_beside _ _ (by decide), getF_setF_beside _ _ (by decide),
    getF_setF_beside _ _ (by decide)]
  exact getF_setF_fits _ (by decide : 0 + 3 ≤ 32) (stateOfStatus_lt _)

theorem bound_tpReported (k : Nat) (frame : List Byte) (s : State) : bit (tpReported k frame s) (fBound k) = true := by
  unfold tpReported
  rw [bit, getF_ttSet_below _ _ _ (by decide), getF_setF_beside _ _ (by decide), getF_setF_beside _ _ (by decide)]
  exact bit_setF_one _ _ _ (by decide)

theorem regsBut_tpReported (k : Nat) (frame : List Byte) (s : State) :
    RegsBut [R.USB2_TP_STATUS k] s (tpReported k frame s) :=
  have hk : R.USB2_TP_STATUS k ∈ [R.USB2_TP_STATUS k] := List.mem_cons_self
  (((((regsBut_refl _ s).setF _ hk).setF _ hk).setF _ hk).setF _ hk).ttSet _ hk

theorem onlyUsb_tpReported (k : Nat) (frame : List Byte) (s : State) : OnlyUsb s (tpReported k frame s) :=
  (((((OnlyUsb.refl s).setF _ _).setF _ _).setF _ _).setF _ _).ttSet _ _

theorem exec_ttPortStatusFrame (htype : byteAt frame 0 = 4) (hlen : frame.length = 8)
    (hen : bit s ⟨R.USB2_TP_CTRL k, 0, 1⟩ = true) (hpair : pairUp s 3 8 (0x10 + k) = true) :
    exec (.ttPortStatusFrame k frame) s = hub s (fun s =>
      tpChanged (9 + k) (getF s (fTp k)) (stateOfStatus (ofBE (sub frame 2 2))) (tpReported k frame s)) := by
  have hen' : bit (clearOut s) ⟨R.USB2_TP_CTRL k, 0, 1⟩ = true := hen
  have hpair' : pairUp (clearOut s) 3 8 (0x10 + k) = true := hpair
  show execTtPortStatusFrame k frame s = _
  refine hub_congr ?_
  simp only [htype, hlen, hen', hpair', bne_self_eq_false, Bool.or_self, Bool.not_true, Bool.false_eq_true, if_false]
  rfl

/-- TT_PORT_STATUS_FRAME of an enabled port whose pair is up. -/
theorem answers_ttPortStatusFrame (h : Runs s) (htype : byteAt frame 0 = 4) (hlen : frame.length = 8)
    (hen : bit s ⟨R.USB2_TP_CTRL k, 0, 1⟩ = true) (hpair : pairUp s 3 8 (0x10 + k) = true) :
    Answers (.ttPortStatusFrame k frame) s (fun t =>
      getF t (fTp k) = stateOfStatus (ofBE (sub frame 2 2)) ∧ bit t (fBound k) = true ∧
      (ttGet t k).wStatus = ofBE (sub frame 2 2) ∧ RegsBut [R.USB2_TP_STATUS k] s t ∧
      t = { s with regs := t.regs, usb := t.usb, out := [] }) := by
  have hreg := reg_tpChanged (9 + k) (getF s (fTp k)) (stateOfStatus (ofBE (sub frame 2 2))) (tpReported k frame (clearOut s))
  have honly : OnlyUsb (clearOut s) (tpChanged (9 + k) (getF s (fTp k)) (stateOfStatus (ofBE (sub frame 2 2)))
      (tpReported k frame (clearOut s))) :=
    ((((onlyUsb_tpReported k frame (clearOut s)).whenChange2 _ _ _).whenChange2 _ _ _).whenChange2 _ _ _).whenChange2 _ _ _
  refine answers_usb (exec_ttPortStatusFrame htype hlen hen hpair) h rfl honly ⟨?_, ?_, ?_, ?_, honly⟩
  · exact (getF_of_reg (hreg _)).trans (getF_tpReported k frame _)
  · exact (bit_of_reg (hreg _)).trans (bound_tpReported k frame _)
  · rw [ttGet_tpChanged, tpReported, ttGet_ttSet_same]
  · exact (regsBut_tpReported k frame (clearOut s)).to fun j _ => hreg j

/-! ### PORT_STATUS_TIMEOUT -/

/-- Every split of a translator has failed. -/
def Tt.failed (x : Tt) : Tt :=
  { x with np := x.np.map (fun y => { y with expired := true }), per := x.per.map (fun y => { y with expired := true }) }

/-- Translated port `k` is unbound. -/
def tpUnbound (k : Nat) (s : State) : State :=
  bump R.USB2_UNBINDS (when (decide (2 ≤ getF s (fTp k))) (change2 (9 + k) 0)
    (setF (fTp k) psDisconnected (setF (fBound k) 0 (ttSet k (ttGet s k).failed s))))

theorem reg_tpUnbound {k j : Nat} (s : State) (hj : j ≠ R.USB2_UNBINDS) :
    reg (tpUnbound k s) j = reg (setF (fTp k) psDisconnected (setF (fBound k) 0 (ttSet k (ttGet s k).failed s))) j :=
  (reg_bump _ _ hj).trans (reg_when_change2 _ _ _ _ _)

theorem ttGet_tpUnbound (k : Nat) (s : State) : ttGet (tpUnbound k s) k = (ttGet s k).failed := by
  rw [tpUnbound, ttGet_bump, ttGet_when_change2, ttGet_setF, ttGet_setF, ttGet_ttSet_same]

theorem onlyUsb_tpUnbound (k : Nat) (s : State) : OnlyUsb s (tpUnbound k s) :=
  (((((OnlyUsb.refl s).ttSet _ _).setF _ _).setF _ _).whenChange2 _ _ _).bump _

theorem regsBut_tpUnbound (k : Nat) (s : State) : RegsBut [R.USB2_TP_STATUS k, R.USB2_UNBINDS] s (tpUnbound k s) :=
  have hk : R.USB2_TP_STATUS k ∈ [R.USB2_TP_STATUS k, R.USB2_UNBINDS] := List.mem_cons_self
  (((((regsBut_refl _ s).ttSet _ hk).setF _ hk).setF _ hk).whenChange2 _ _ _).bump (by simp)

theorem status_ne_unbinds (k : Fin 8) : R.USB2_TP_STATUS k ≠ R.USB2_UNBINDS := by
  simp only [R.USB2_TP_STATUS, R.USB2_UNBINDS]
  omega

theorem tpUnbound_shows (k : Fin 8) (s : State) : getF (tpUnbound k s) (fTp k) = psDisconnected ∧
    bit (tpUnbound k s) (fBound k) = false ∧ reg (tpUnbound k s) R.USB2_UNBINDS = reg s R.USB2_UNBINDS + 1 := by
  refine ⟨?_, ?_, ?_⟩
  · exact (getF_of_reg (reg_tpUnbound s (status_ne_unbinds k))).trans
      (getF_setF_fits _ (by decide : 0 + 3 ≤ 32) (by decide : psDisconnected < 2 ^ 3))
  · refine (bit_of_reg (reg_tpUnbound s (status_ne_unbinds k))).trans ?_
    rw [bit, getF_setF_beside _ _ (by decide)]
    exact bit_setF_zero _ _ _ (by decide)
  · have hne := (status_ne_unbinds k).symm
    rw [tpUnbound, reg_bump_same, reg_when_change2, reg_setF_ne _ _ hne, reg_setF_ne _ _ hne, reg_ttSet_ne _ _ hne]

theorem exec_portStatusTimeout (hbound : bit s (fBound k) = true) :
    exec (.portStatusTimeout k) s = hub s (fun s => raise 83 k (tpUnbound k s)) := hub_congr (if_pos hbound)

/-- PORT_STATUS_TIMEOUT of a bound port. -/
theorem answers_portStatusTimeout (h : Runs s) (hbound : bit s (fBound k) = true) :
    Answers (.portStatusTimeout k) s (fun t =>
      getF t (fTp k) = psDisconnected ∧ bit t (fBound k) = false ∧
      (ttGet t k).np = (ttGet s k).np.map (fun x => { x with expired := true }) ∧
      (ttGet t k).per = (ttGet s k).per.map (fun x => { x with expired := true }) ∧
      reg t R.USB2_UNBINDS = reg s R.USB2_UNBINDS + 1 ∧ OnlyRaised 83 k { s with usb := t.usb } t ∧
      RegsBut [R.USB2_TP_STATUS k, R.USB2_UNBINDS, R.CDC_OVERRUN_EVENTS] s t) := by
  obtain ⟨hstate, hunbound, hcount⟩ := tpUnbound_shows k (clearOut s)
  have hregs := regsBut_tpUnbound k (clearOut s)
  have hao : R.AO_STATUS ∉ [R.USB2_TP_STATUS k, R.USB2_UNBINDS] := by
    simp only [R.AO_STATUS, R.USB2_TP_STATUS, R.USB2_UNBINDS, List.mem_cons, List.not_mem_nil, or_false, not_or]
    omega
  have hne : R.USB2_TP_STATUS k ≠ R.CDC_OVERRUN_EVENTS := by
    simp only [R.USB2_TP_STATUS, R.CDC_OVERRUN_EVENTS]
    omega
  have hreg {j : Nat} (hj : j ≠ R.CDC_OVERRUN_EVENTS) := reg_raise 83 k (tpUnbound k (clearOut s)) hj
  have hraised := (onlyUsb_tpUnbound k (clearOut s)).raised (hregs _ hao) 83 k
  have husb := raise_usb 83 k (tpUnbound k (clearOut s))
  have htt : ttGet (raise 83 k (tpUnbound k (clearOut s))) k = (ttGet s k).failed :=
    (ttGet_congr husb k).trans (ttGet_tpUnbound k (clearOut s))
  refine answers_onlyRaised (exec_portStatusTimeout hbound) h rfl hraised rfl rfl
    ⟨(getF_of_reg (hreg hne)).trans hstate, (bit_of_reg (hreg hne)).trans hunbound, congrArg Tt.np htt, congrArg Tt.per htt,
      (hreg (by decide)).trans hcount, ?_, ?_⟩
  · rw [husb]
    exact hraised
  · exact RegsBut.raise (hregs.mono (by simp)) 83 k (by simp)

/-! ### The dock's side: SPLIT_REQ, PORT_CMD and PORT_STATUS -/

theorem toNat_beq_zero (hp : p ≠ 0) : (p.toNat == 0) = false := beq_false_of_ne fun e => hp (BitVec.eq_of_toNat_eq e)

/-- SPLIT_RESULT of an IN transaction: its handle, what the device answered, and its data. -/
def splitResult (frame : List Byte) (pid : Byte) (data : List Byte) : List Byte :=
  [2, BitVec.ofNat 8 (byteAt frame 1), pid, 0, 0] ++ sub frame 5 2 ++ [0] ++ bytesBE 2 (data.take 64).length ++ data.take 64

theorem exec_ttSplitReqFrame {pid : Byte} {data : List Byte} (hp : p ≠ 0) (htype : byteAt frame 0 = 1)
    (hlen : ofBE (sub frame 8 2) ≤ 64) (hwhole : frame.length = 10 + ofBE (sub frame 8 2))
    (hremote : isRemote s p.toNat = true) (hon : getF s (fPort p.toNat) = psEnabled) (hin : byteAt frame 2 % 16 = 9) :
    exec (.ttSplitReqFrame p frame pid data) s =
      hub s (offerFrame 8 { tag := 0x18 + p.toNat, data := splitResult frame pid data }) := by
  have hremote' : isRemote (clearOut s) p.toNat = true := hremote
  have hon' : getF (clearOut s) (fPort p.toNat) = psEnabled := hon
  show execTtSplitReqFrame p frame pid data s = _
  refine hub_congr ?_
  simp only [toNat_beq_zero hp, htype, decide_eq_false (Nat.not_lt.2 hlen), hwhole, hremote', hon', hin, bne_self_eq_false,
    beq_self_eq_true, Bool.or_self, Bool.and_self, Bool.not_true, Bool.false_eq_true, if_false, if_true]
  rfl

/-- PORT_CMD acts on a port that holds a device. -/
def portCommanded (n cmd : Nat) (chirp : Bool) (s : State) : State :=
  match cmd with
  | 1 => setF (fPortChirp n) (if chirp then 1 else 0) (setF (fPort n) psResetting s)
  | 2 => if getF s (fPort n) = psEnabled then setF (fPort n) psSuspended s else s
  | 3 => if getF s (fPort n) = psSuspended then setF (fPort n) psEnabled s else s
  | 4 => setF (fPort n) psDisabled s
  | _ => s

theorem exec_ttPortCmdFrame {chirp : Bool} (hp : p ≠ 0) (htype : byteAt frame 0 = 3) (hlen : frame.length = 8)
    (hremote : isRemote s p.toNat = true) (hon : 2 ≤ getF s (fPort p.toNat)) :
    exec (.ttPortCmdFrame p frame chirp) s = hub s (portCommanded p.toNat (byteAt frame 1) chirp) := by
  have hremote' : isRemote (clearOut s) p.toNat = true := hremote
  have hon' : decide (getF (clearOut s) (fPort p.toNat) < 2) = false := decide_eq_false (Nat.not_lt.2 hon)
  show execTtPortCmdFrame p frame chirp s = _
  refine hub_congr ?_
  simp only [toNat_beq_zero hp, htype, hlen, hremote', hon', bne_self_eq_false, Bool.or_self, Bool.not_true,
    Bool.false_eq_true, if_false]
  rfl

/-- TT_PORT_CMD_FRAME with a reset. -/
theorem answers_ttPortCmdFrame_reset {chirp : Bool} (h : Runs s) (hp : p ≠ 0) (htype : byteAt frame 0 = 3)
    (hlen : frame.length = 8) (hremote : isRemote s p.toNat = true) (hon : 2 ≤ getF s (fPort p.toNat)) (hcmd : byteAt frame 1 = 1) :
    Answers (.ttPortCmdFrame p frame chirp) s (fun t =>
      getF t (fPort p.toNat) = psResetting ∧ bit t (fPortChirp p.toNat) = chirp ∧
      RegsBut [R.USB2_PORT_STATUS (p.toNat - 1)] s t ∧ OnlyRegs s t ∧ t.out = []) := by
  have hexec := exec_ttPortCmdFrame (chirp := chirp) hp htype hlen hremote hon
  rw [hcmd] at hexec
  refine answers_hub_eq hexec h rfl rfl rfl
    ⟨?_, ?_, ((regsBut_refl _ (clearOut s)).setF _ (by simp)).setF _ (by simp), rfl, rfl⟩
  · exact (getF_setF_beside (lo := 5) (lo' := 0) _ _ (by decide)).trans
      (getF_setF_fits (f := fPort p.toNat) _ (by decide : 0 + 3 ≤ 32) (by decide : psResetting < 2 ^ 3))
  · cases chirp with
    | false => exact bit_setF_zero _ _ _ (by decide)
    | true => exact bit_setF_one _ _ _ (by decide)

/-- TT_PORT_CMD_FRAME with a suspend of an enabled port. -/
theorem answers_ttPortCmdFrame_suspend {chirp : Bool} (h : Runs s) (hp : p ≠ 0) (htype : byteAt frame 0 = 3)
    (hlen : frame.length = 8) (hremote : isRemote s p.toNat = true) (hon : getF s (fPort p.toNat) = psEnabled)
    (hcmd : byteAt frame 1 = 2) :
    Answers (.ttPortCmdFrame p frame chirp) s (fun t =>
      getF t (fPort p.toNat) = psSuspended ∧ RegsBut [R.USB2_PORT_STATUS (p.toNat - 1)] s t ∧ OnlyRegs s t ∧ t.out = []) := by
  have hexec := exec_ttPortCmdFrame (chirp := chirp) hp htype hlen hremote (le_trans (by decide : 2 ≤ psEnabled) hon.ge)
  rw [hcmd] at hexec
  exact answers_hub_eq hexec h (if_pos hon) rfl rfl
    ⟨getF_setF_fits (f := fPort p.toNat) _ (by decide : 0 + 3 ≤ 32) (by decide : psSuspended < 2 ^ 3),
      (regsBut_refl _ (clearOut s)).setF _ (by simp), rfl, rfl⟩

/-- PORT_STATUS of local port `n`. -/
def portStatus (s : State) (n : Nat) : List Byte :=
  [4, 0] ++ bytesBE 2 (wPortStatus (getF s (fPort n)) (bit s (fPortLs n)) false (portOc s n) (portPowered s n))
    ++ [BitVec.ofNat 8 (getF s (fPortChirp n)), 0, 0, 0]

/-- A remote port without a SuperSpeed companion that is enabled reports its own state (R247). -/
theorem exec_portStatusTimer (hremote : isRemote s p.toNat = true)
    (halone : 6 < p.toNat ∨ bit s (fConn3 p.toNat) = false ∨ bit s (fVirtual3 p.toNat) = true) :
    exec (.portStatusTimer p) s = hub s (offerFrame 8 { tag := 0x18 + p.toNat, data := portStatus s p.toNat }) := by
  have hremote' : isRemote (clearOut s) p.toNat = true := hremote
  have halone' : (decide (p.toNat ≤ 6) && bit (clearOut s) (fConn3 p.toNat) && !bit (clearOut s) (fVirtual3 p.toNat))
      = false := by
    rcases halone with hfar | hconn | hvirtual
    · simp [Nat.not_le.2 hfar]
    · simp [hconn]
    · simp [hvirtual]
  show execPortStatusTimer p s = _
  refine hub_congr ?_
  simp only [hremote', halone', Bool.false_eq_true, if_true, if_false]
  rfl

/-- Settles O22: each clause is the completion lemma of its command above. -/
theorem translatorCommandsComplete : Obligations.TranslatorCommandsComplete := by
  unfold Obligations.TranslatorCommandsComplete
  exact ⟨fun _ _ _ _ _ _ _ _ _ _ _ _ h hbound hen hkind hroom hgoing => answers_startSplit h hbound hen hkind hroom hgoing,
    fun _ _ _ _ _ _ _ _ h herr hfind hlive hresult => answers_completeSplit h herr hfind hlive hresult,
    fun _ _ _ _ h htype hlen hwhole hheld => answers_ttSplitResultFrame h htype hlen hwhole hheld,
    fun _ _ _ h hdue => answers_ttTimeoutExpiry h hdue,
    fun _ _ _ h htype hlen hen hpair => answers_ttPortStatusFrame h htype hlen hen hpair,
    fun _ _ h hbound => answers_portStatusTimeout h hbound,
    fun _ _ _ _ _ h hp htype hlen hwhole hremote hon hin =>
      answers_offered (exec_ttSplitReqFrame hp htype hlen hwhole hremote hon hin) h,
    fun _ _ _ _ h hp htype hlen hremote hon hcmd => answers_ttPortCmdFrame_reset h hp htype hlen hremote hon hcmd,
    fun _ _ _ _ h hp htype hlen hremote hon hcmd => answers_ttPortCmdFrame_suspend h hp htype hlen hremote hon hcmd,
    fun _ _ h hremote halone => answers_offered (exec_portStatusTimer hremote halone) h⟩

end Sys2Proof.Machine

/-! ## An EPR entry while the e-marker has not answered: what one statement leaves out (R259, R262, R263)

The refuted statement has one clause that names too few conditions; the state written out beside it meets every condition that the
clause does name. -/

namespace Sys2Proof.Machine

/-- Port 1 is a source under a contract, with EPR_EN and a cable marked EPR-capable; an e-marker that has been asked has not
answered. -/
def eprWhileAsking : State :=
  tcSet 1 { asking := true } (setReg (R.TC_CABLE_VDO 1) 0x20000 (setReg (R.TC_CTRL 1) 0x140
    (setReg (R.TC_STATUS 1) 0x8092 State.reset)))

/-- The port enters EPR and says so; its objects wait for the e-marker's answer. -/
theorem answers_eprModeReceived_asking : Answers (.eprModeReceived 1 0) eprWhileAsking (fun t =>
    bit t (fEpr 1) = true ∧ t.out = [.pd 1 .eprAck, .pd 1 .eprSucceeded]) := by
  have hexec (s : State) : exec (.eprModeReceived 1 0) s = execEprModeReceived 1 0 s := rfl
  refine answers_power (hexec _) rfl ?_
  decide +kernel

/-- Refutes O24: the first clause of EPR_MODE_RECEIVED asks nothing about the e-marker, and until that has answered no
EPR_Source_Capabilities go out (R259). -/
theorem not_typeCContractCommandsComplete : ¬ Obligations.TypeCContractCommandsComplete := by
  unfold Obligations.TypeCContractCommandsComplete
  rintro ⟨-, -, -, -, -, -, -, -, -, -, -, -, hepr, -⟩
  have hsource : isSource eprWhileAsking 1 = true := by decide +kernel
  have hcontract : bit eprWhileAsking (fContract 1) = true := by decide +kernel
  have hpd : pdOn eprWhileAsking 1 = true := by decide +kernel
  have hen : bit eprWhileAsking (fTcCtrl 1 8) = true := by decide +kernel
  have hcable : cableEpr eprWhileAsking 1 = true := by decide +kernel
  obtain ⟨t, ht, -, hcaps, -⟩ := hepr 1 0 eprWhileAsking rfl hsource hcontract hpd hen hcable
  obtain ⟨u, hu, -, hsent⟩ := answers_eprModeReceived_asking
  obtain rfl : t = u := Host.Outcome.next.inj (ht.symm.trans hu)
  exact absurd (congrArg List.length (hsent.symm.trans hcaps)) (by simp)

end Sys2Proof.Machine

/-! ## Type-C ports: their fields, and what their shared operations do (R261–R269, chapter 11) -/

namespace Sys2Proof.Machine

variable {c : Instr} {s t : State} {ks : List Nat} {n : Nat}

/-! ### Fields and registers of a port -/

/-- Registers at two offsets of the TC pages differ, whichever the ports. -/
theorem tcKey_ne {a b i j : Nat} (h : a % 0x1000 ≠ b % 0x1000 := by decide) : a + i * 0x1000 ≠ b + j * 0x1000 := by omega

@[simp] theorem bit_setF_beside {k lo w lo' w' : Nat} (v : Nat) (s : State)
    (h : lo + w ≤ 32 ∧ (lo + w ≤ lo' ∨ lo' + w' ≤ lo)) : bit (setF ⟨k, lo, w⟩ v s) ⟨k, lo', w'⟩ = bit s ⟨k, lo', w'⟩ := by
  rw [bit_eq, bit_eq, getF_setF_beside v s h]

@[simp] theorem bit_setF_self {k lo : Nat} (v : Nat) (s : State) (h : lo < 32) :
    bit (setF ⟨k, lo, 1⟩ v s) ⟨k, lo, 1⟩ = decide (v % 2 = 1) := by
  rw [bit_eq, getF_setF_same ⟨k, lo, 1⟩ v s h]
  rfl

@[simp] theorem bit_setReg_other {f : Fld} {k : Nat} (v : Word) (s : State) (h : f.key ≠ k) :
    bit (setReg k v s) f = bit s f := bit_of_reg (reg_setReg_ne v s h)

@[simp] theorem bit_setF_other {f g : Fld} (v : Nat) (s : State) (h : g.key ≠ f.key) : bit (setF f v s) g = bit s g :=
  bit_of_reg (reg_setF_ne v s h)

@[simp] theorem bit_bump_other {f : Fld} {k : Nat} (s : State) (h : f.key ≠ k) : bit (bump k s) f = bit s f :=
  bit_of_reg (reg_bump k s h)

/-! ### What a port keeps, and what it sends -/

@[simp] theorem tcGet_tcSet_same (n : Nat) (x : Tc) (s : State) : tcGet (tcSet n x s) n = x := smGet_smSet_same _ _ _
@[simp] theorem tcGet_modTc_same (n : Nat) (f : Tc → Tc) (s : State) : tcGet (modTc n f s) n = f (tcGet s n) :=
  tcGet_tcSet_same _ _ _
@[simp] theorem tcGet_setReg (k : Nat) (v : Word) (s : State) (n : Nat) : tcGet (setReg k v s) n = tcGet s n := rfl
@[simp] theorem tcGet_setF (f : Fld) (v : Nat) (s : State) (n : Nat) : tcGet (setF f v s) n = tcGet s n := rfl
@[simp] theorem tcGet_bump (k : Nat) (s : State) (n : Nat) : tcGet (bump k s) n = tcGet s n := rfl
@[simp] theorem tcGet_pd (m : Nat) (x : PdMsg) (s : State) (n : Nat) : tcGet (pd m x s) n = tcGet s n := rfl
@[simp] theorem tcGet_clearOut (s : State) (n : Nat) : tcGet (clearOut s) n = tcGet s n := rfl
@[simp] theorem tcGet_kept (s t : State) (n : Nat) : tcGet (kept s t) n = tcGet t n := rfl
@[simp] theorem tcGet_raise (src d : Nat) (s : State) (n : Nat) : tcGet (raise src d s) n = tcGet s n := by
  rw [raise_frame]
  rfl

@[simp] theorem reg_modTc (n : Nat) (f : Tc → Tc) (s : State) (k : Nat) : reg (modTc n f s) k = reg s k := rfl
@[simp] theorem bit_modTc (n : Nat) (f : Tc → Tc) (s : State) (g : Fld) : bit (modTc n f s) g = bit s g := rfl
@[simp] theorem getF_modTc (n : Nat) (f : Tc → Tc) (s : State) (g : Fld) : getF (modTc n f s) g = getF s g := rfl
@[simp] theorem reg_pd (n : Nat) (m : PdMsg) (s : State) (k : Nat) : reg (pd n m s) k = reg s k := rfl
@[simp] theorem bit_pd (n : Nat) (m : PdMsg) (s : State) (g : Fld) : bit (pd n m s) g = bit s g := rfl
@[simp] theorem getF_pd (n : Nat) (m : PdMsg) (s : State) (g : Fld) : getF (pd n m s) g = getF s g := rfl
@[simp] theorem pd_out (n : Nat) (m : PdMsg) (s : State) : (pd n m s).out = s.out ++ [.pd n m] := rfl
@[simp] theorem modTc_out (n : Nat) (f : Tc → Tc) (s : State) : (modTc n f s).out = s.out := rfl
@[simp] theorem bump_out (k : Nat) (s : State) : (bump k s).out = s.out := rfl
@[simp] theorem raise_out (src d : Nat) (s : State) : (raise src d s).out = s.out := by rw [raise_frame]

theorem RegsBut.modTc (h : RegsBut ks s t) (n : Nat) (f : Tc → Tc) : RegsBut ks s (Machine.modTc n f t) := h
theorem RegsBut.pd (h : RegsBut ks s t) (n : Nat) (m : PdMsg) : RegsBut ks s (Machine.pd n m t) := h
theorem RegsBut.trans {u : State} (h : RegsBut ks s t) (h' : RegsBut ks t u) : RegsBut ks s u := h.to h'

/-- A command of the power die completes with its effect, which leaves the queue and the antifuse. -/
theorem answers_power_eq {f : State → State} {P : State → Prop} (e : exec c s = power s f) (h : Powered s)
    (ht : f (clearOut s) = t) (hpend : t.pending = s.pending) (hfuse : t.fuse = s.fuse) (hP : P t) : Answers c s P := by
  refine answers_power e h ?_
  rwa [ht, kept_eq hpend hfuse]

/-- A command of the power die completes with its effect, seen through what no command changes. -/
theorem answers_power_kept {f : State → State} {P : State → Prop} (e : exec c s = power s f) (h : Powered s)
    (ht : f (clearOut s) = t) (hP : P (kept s t)) : Answers c s P :=
  answers_power e h (ht ▸ hP)

/-! ### The commands of TC.CMD begin and end (Table 11-9) -/

/-- The end of a command under way shows its RESULT. -/
theorem tcEnd_of_op {r : Nat} (h : (tcGet s n).op ≠ 0) :
    tcEnd n r s = modTc n (fun t => { t with op := 0 }) (setReg (R.TC_CMD_STATUS n) (BitVec.ofNat 32 (r * 2)) s) := if_neg h

theorem regsBut_tcEnd (n r : Nat) (s : State) (hk : R.TC_CMD_STATUS n ∈ ks) : RegsBut ks s (tcEnd n r s) := by
  unfold tcEnd
  split
  · exact regsBut_refl _ s
  · exact ((regsBut_refl ks s).setReg _ hk).modTc n _

theorem tcAnswer_awaited (n op : Nat) (s : State) : tcAnswer n op .awaited s = s := ite_self _

/-! ### Values that the spec leaves open (R263) -/

/-- The counter of free values stands at `i`. -/
def freeTo (i : Nat) (s : State) : State := { s with freeIdx := i }

@[simp] theorem tcGet_freeTo (i : Nat) (s : State) (n : Nat) : tcGet (freeTo i s) n = tcGet s n := rfl
@[simp] theorem reg_freeTo (i : Nat) (s : State) (k : Nat) : reg (freeTo i s) k = reg s k := rfl
@[simp] theorem bit_freeTo (i : Nat) (s : State) (f : Fld) : bit (freeTo i s) f = bit s f := rfl
@[simp] theorem freeTo_out (i : Nat) (s : State) : (freeTo i s).out = s.out := rfl

theorem quot_freeTo (a b : Nat) (s : State) : ∃ i, (quot a b s).2 = freeTo i s := by
  unfold quot
  split
  · exact ⟨_, rfl⟩
  · split
    · exact ⟨s.freeIdx, rfl⟩
    · exact ⟨_, rfl⟩

theorem vsetCode_freeTo (mv n : Nat) (s : State) : ∃ i, (vsetCode mv n s).2 = freeTo i s := by
  unfold vsetCode
  dsimp only
  split
  · exact ⟨_, rfl⟩
  · split
    · exact ⟨_, rfl⟩
    · exact ⟨s.freeIdx, rfl⟩

/-- A code set at once is the new target, and stands in VSET_CODE. -/
theorem setVset_eq (mv n : Nat) (s : State) : ∃ c i, setVset mv n s =
    modTc n (fun t => { t with target := c }) (setReg (R.TC_VSET_CODE n) (BitVec.ofNat 32 c) (freeTo i s)) := by
  obtain ⟨i, hi⟩ := vsetCode_freeTo mv n s
  exact ⟨(vsetCode mv n s).1, i, hi ▸ rfl⟩

/-! ### The budget and the contract (R261, R263) -/

/-- The registers that the beginning or the end of a contract may write. -/
abbrev contractKeys (n : Nat) : List Nat := [R.TC_STATUS n, R.TC_CONTRACT n, R.TC_SRC_BUDGET 0]

theorem status_mem (n : Nat) : R.TC_STATUS n ∈ contractKeys n := List.mem_cons_self
theorem contract_mem (n : Nat) : R.TC_CONTRACT n ∈ contractKeys n := List.mem_cons_of_mem _ List.mem_cons_self

/-- USED follows the contracts in force, for which a free value may be used up. -/
theorem refreshUsed_eq (s : State) : ∃ w i, refreshUsed s = setF ⟨R.TC_SRC_BUDGET 0, 16, 10⟩ w (freeTo i s) := by
  obtain ⟨i, hi⟩ := quot_freeTo ((List.range 4).map (portPower s)).sum 100000 s
  exact ⟨_, i, by unfold refreshUsed; dsimp only; rw [hi]⟩

@[simp] theorem tcGet_refreshUsed (s : State) (n : Nat) : tcGet (refreshUsed s) n = tcGet s n := by
  obtain ⟨w, i, h⟩ := refreshUsed_eq s
  rw [h]
  rfl

@[simp] theorem refreshUsed_out (s : State) : (refreshUsed s).out = s.out := by
  obtain ⟨w, i, h⟩ := refreshUsed_eq s
  rw [h]
  rfl

theorem reg_refreshUsed {k : Nat} (s : State) (hk : k ≠ R.TC_SRC_BUDGET 0) : reg (refreshUsed s) k = reg s k := by
  obtain ⟨w, i, h⟩ := refreshUsed_eq s
  rw [h, reg_setF_ne _ _ hk, reg_freeTo]

/-- USED stands at an offset of its own. -/
@[simp] theorem bit_refreshUsed {off j lo w : Nat} (s : State) (h : off % 0x1000 ≠ 0x1F0) :
    bit (refreshUsed s) ⟨off + j * 0x1000, lo, w⟩ = bit s ⟨off + j * 0x1000, lo, w⟩ :=
  bit_of_reg (reg_refreshUsed s (by simp only [R.TC_SRC_BUDGET]; omega))

theorem RegsBut.refreshUsed (h : RegsBut ks s t) (hk : R.TC_SRC_BUDGET 0 ∈ ks := by simp) :
    RegsBut ks s (Machine.refreshUsed t) :=
  h.to fun _ hj => reg_refreshUsed t fun e => hj (e ▸ hk)

@[simp] theorem tcGet_voidContract (n : Nat) (s : State) : tcGet (voidContract n s) n =
    { tcGet s n with req := none, contract := none, eprAsked := false, capsSent := false } := by
  simp [voidContract]

@[simp] theorem voidContract_out (n : Nat) (s : State) : (voidContract n s).out = s.out := by simp [voidContract]

@[simp] theorem bit_voidContract_contract (n : Nat) (s : State) : bit (voidContract n s) (fContract n) = false := by
  simp [voidContract]

@[simp] theorem bit_voidContract_transition (n : Nat) (s : State) : bit (voidContract n s) (fTransition n) = false := by
  simp [voidContract]

theorem RegsBut.voidContract (h : RegsBut ks s t) (n : Nat) (hk : contractKeys n ⊆ ks) :
    RegsBut ks s (Machine.voidContract n t) := by
  have hstatus := hk (status_mem n)
  unfold Machine.voidContract
  exact RegsBut.refreshUsed ((((h.setF 0 hstatus).setF 0 hstatus).setF 0 hstatus).setReg 0 (hk (contract_mem n)))
    (hk (by simp))

/-! ### The switch, VCONN and the mux (R265, R266, R271) -/

@[simp] theorem bit_openSwitch_switch (n : Nat) (s : State) : bit (openSwitch n s) (fSwitch n) = false := by
  simp [openSwitch]

@[simp] theorem tcGet_openSwitch (n : Nat) (s : State) : tcGet (openSwitch n s) n = { tcGet s n with wantClose := false } :=
  tcGet_modTc_same _ _ _

theorem RegsBut.vconnFollow (h : RegsBut ks s t) (n : Nat) (hk : R.TC_STATUS n ∈ ks := by simp) :
    RegsBut ks s (Machine.vconnFollow n t) := h.setF _ hk

@[simp] theorem bit_vconnFollow_vconn (n : Nat) (s : State) :
    bit (vconnFollow n s) (fVconnSrc n) = ((tcGet s n).vconn && bit s (fTcCtrl n 7)) := by
  unfold vconnFollow
  rw [bit_setF_self _ _ (by decide)]
  cases (tcGet s n).vconn && bit s (fTcCtrl n 7) <;> rfl

/-- A UFP without a mode takes the USB 3.2 setting, and nothing else changes. -/
theorem usbDefault_eq (n : Nat) (s : State) : usbDefault n s = s ∨ usbDefault n s = setF (fMux n) 1 s :=
  (ite_eq_or_eq _ _ _).symm

/-! ### A contract comes into force (R263, R268) -/

/-- What a request that becomes the contract in force leaves: the contract in TC.CONTRACT as a word, and USED after it. -/
theorem enforce_eq (n : Nat) (q : TcReq) (s : State) : ∃ w i, enforce n q s =
    refreshUsed (bump (R.TC_CONTRACTS n) (setReg (R.TC_CONTRACT n) w (setF (fContract n) 1 (setF (fTransition n) 0
      (modTc n (fun t => { t with req := none, contract := some q }) (freeTo i s)))))) := by
  obtain ⟨i, hi⟩ := quot_freeTo q.mv 50 s
  exact ⟨_, i, by unfold enforce; dsimp only; rw [hi]⟩

/-- Discovery after a first contract touches no register. -/
theorem afterContract_regs (n : Nat) (s : State) : (afterContract n s).regs = s.regs := by
  unfold afterContract
  dsimp only
  split <;> rfl

/-- Discovery after a first contract leaves the contract and the request. -/
theorem tcGet_afterContract (n : Nat) (s : State) : (tcGet (afterContract n s) n).contract = (tcGet s n).contract ∧
    (tcGet (afterContract n s) n).req = (tcGet s n).req := by
  unfold afterContract
  dsimp only
  split <;> simp [startModes]

end Sys2Proof.Machine

/-! ## What the hub die does to itself, the power die's ports do not see (R13)

A link that is lost, a swap of the pair that is aborted and a DisplayPort output that loses HPD set tunnels, adapters, docks and
the journal going. None of that touches the TC and PP pages or what the Type-C ports keep, and what has been sent stays sent. -/

namespace Sys2Proof.Machine

-- One theorem after another, as above.
set_option Elab.async false

variable {s t u : State}

/-- A register outside the power die's pages 0x40 to 0x4F. -/
abbrev OffPower (k : Nat) : Prop := k < 0x40000 ∨ 0x50000 ≤ k

/-- The ports of `t` are those of `s`, as are the power die's pages, and all that `s` has sent stands first in what `t` has. -/
structure PortsKept (s t : State) : Prop where
  tc : t.tc = s.tc
  page : ∀ k, 0x40000 ≤ k → k < 0x50000 → reg t k = reg s k
  sent : s.out <+: t.out

/-- The fields of the state that PortsKept speaks of. -/
def portsFields (s : State) : SMap Word × SMap Tc × List Output := (s.regs, s.tc, s.out)

namespace PortsKept

/-! ### Shared operations -/

theorem refl (s : State) : PortsKept s s := ⟨rfl, fun _ _ _ => rfl, List.prefix_rfl⟩

theorem trans (h : PortsKept s t) (h' : PortsKept t u) : PortsKept s u :=
  ⟨h'.tc.trans h.tc, fun k hlo hhi => (h'.page k hlo hhi).trans (h.page k hlo hhi), h.sent.trans h'.sent⟩

theorem same (h : PortsKept s t) (e : portsFields u = portsFields t := by rfl) : PortsKept s u := by
  simp only [portsFields, Prod.mk.injEq] at e
  obtain ⟨hregs, htc, hout⟩ := e
  exact h.trans ⟨htc, fun k _ _ => reg_congr hregs k, hout ▸ List.prefix_rfl⟩

theorem setReg {k : Nat} (h : PortsKept s t) (v : Word) (hk : OffPower k := by decide) : PortsKept s (Machine.setReg k v t) :=
  h.trans ⟨rfl, fun _ _ _ => reg_setReg_ne v t (by omega), List.prefix_rfl⟩

theorem setF {f : Fld} (h : PortsKept s t) (v : Nat) (hk : OffPower f.key := by decide) : PortsKept s (Machine.setF f v t) :=
  h.setReg _ hk

theorem addCnt {k : Nat} (h : PortsKept s t) (n : Nat) (hk : OffPower k := by decide) : PortsKept s (Machine.addCnt k n t) :=
  h.setReg _ hk

theorem bump {k : Nat} (h : PortsKept s t) (hk : OffPower k := by decide) : PortsKept s (Machine.bump k t) := h.addCnt 1 hk

theorem addCnt64 {k : Nat} (h : PortsKept s t) (n : Nat) (hk : OffPower k := by decide) (hk' : OffPower (k + 4) := by decide) :
    PortsKept s (Machine.addCnt64 k n t) := (h.setReg _ hk).setReg _ hk'

theorem emit (h : PortsKept s t) (o : Output) : PortsKept s (Machine.emit o t) :=
  h.trans ⟨rfl, fun _ _ _ => rfl, List.prefix_append _ _⟩

/-- Two ways on, each of which keeps the ports. -/
theorem ite {c : Prop} [Decidable c] (ht : PortsKept s t) (hu : PortsKept s u) : PortsKept s (if c then t else u) := by
  split
  · exact ht
  · exact hu

/-- An effect under a condition, which keeps the ports. -/
theorem when (h : PortsKept s t) (c : Bool) {f : State → State} (hf : ∀ u, PortsKept s u → PortsKept s (f u)) :
    PortsKept s (Machine.when c f t) := by
  cases c
  · exact h
  · exact hf _ h

/-- An effect for each element of a list, each of which keeps the ports. -/
theorem forAll {α : Type} (h : PortsKept s t) (l : List α) {f : α → State → State}
    (hf : ∀ a u, PortsKept s u → PortsKept s (f a u)) : PortsKept s (Machine.forAll l f t) := forAll_keeps l f hf h

theorem raise (h : PortsKept s t) (src d : Nat) : PortsKept s (Machine.raise src d t) :=
  h.trans ⟨by rw [raise_frame], fun _ _ hhi => reg_raise src d t (Nat.ne_of_lt (hhi.trans (by decide))), by rw [raise_out]⟩

theorem limited (h : PortsKept s t) (key period : Nat) {f : State → State}
    (hf : ∀ u, PortsKept s u → PortsKept s (f u)) : PortsKept s (Machine.limited key period f t) := by
  unfold Machine.limited
  dsimp only
  exact ite (hf _ h.same) h

/-! ### The journal -/

theorem sendCtl (h : PortsKept s t) (n : Nat) (payload : List Byte) : PortsKept s (Machine.sendCtl n payload t) := h.same

theorem journalOverflow (h : PortsKept s t) : PortsKept s (Machine.journalOverflow t) := by
  unfold Machine.journalOverflow
  dsimp only
  refine raise (bump (setF (setF (when h.same _ fun _ hu => hu.same) _ ?_) _ ?_) ?_) _ _
  all_goals decide

theorem journal (h : PortsKept s t) (type : Nat) (body : List Byte) (last : Bool) :
    PortsKept s (Machine.journal type body last t) := by
  have hsent (r : JRec) {v : State} (hv : PortsKept s v) : PortsKept s (sendRecord r v) :=
    sendCtl (addCnt64 (hv.setReg _) 1) _ _
  unfold Machine.journal
  dsimp only
  exact ite (ite h.journalOverflow (ite (hsent _ (setF h.same _)) (setF h.same _))) h

/-! ### Queues and cells -/

theorem qSet (h : PortsKept s t) (q : Nat) (v : Queue) : PortsKept s (Machine.qSet q v t) := h.same
theorem tSet (h : PortsKept s t) (i : Nat) (v : Tunnel) : PortsKept s (Machine.tSet i v t) := h.same

theorem noteFill (h : PortsKept s t) (q : Nat) : PortsKept s (Machine.noteFill q t) := by
  unfold Machine.noteFill
  exact ite (ite h h.same) h.same

theorem dropCandidate (h : PortsKept s t) (i : Nat) : PortsKept s (Machine.dropCandidate i t) := by
  unfold Machine.dropCandidate unhold
  refine forAll (forAll h _ fun _ u hu => ?_) _ fun _ u hu => ?_
  all_goals exact ite hu.same hu

theorem dropTags (h : PortsKept s t) (i : Nat) : PortsKept s (Machine.dropTags i t) :=
  forAll (h.dropCandidate i) _ fun _ _ hu => ite hu.same hu

theorem discardCells (h : PortsKept s t) (i : Nat) : PortsKept s (Machine.discardCells i t).2 := by
  unfold Machine.discardCells
  dsimp only
  exact noteFill (dropCandidate h.same i) i

theorem overbookCheck (h : PortsKept s t) (m : Nat) : PortsKept s (Machine.overbookCheck m t) := by
  have hov (v : Nat) : PortsKept s (Machine.setF (fOverbooked m) v t) :=
    h.setF v (by simp only [OffPower, R.SCH_STATUS]; omega)
  unfold Machine.overbookCheck
  dsimp only
  exact ite (raise (bump (hov _) (by simp only [OffPower, R.SCH_OVERBOOK_ENTRIES]; omega)) _ _) (hov _)

theorem countCtAbort (h : PortsKept s t) (eg : Nat) : PortsKept s (Machine.countCtAbort eg t) :=
  limited (h.bump (by decide)) _ _ fun _ hu => hu.raise _ _

theorem abortAdapter (h : PortsKept s t) (i : Nat) : PortsKept s (Machine.abortAdapter i t) := by
  unfold Machine.abortAdapter
  dsimp only
  split
  · split <;> split
    · exact emit h.same _
    · exact emit h.same _
    · exact h.same
    · exact h.same
  · exact h

theorem closeEgress (h : PortsKept s t) (i : Nat) : PortsKept s (Machine.closeEgress i t) := by
  unfold Machine.closeEgress
  dsimp only
  split
  · exact ite h.same (abortAdapter h.same i)
  · exact h

theorem closeBehind (h : PortsKept s t) (i : Nat) : PortsKept s (Machine.closeBehind i t) := by
  unfold Machine.closeBehind
  dsimp only
  exact ite (h.closeEgress i) h.same

theorem removeLast (h : PortsKept s t) (i k : Nat) : PortsKept s (Machine.removeLast i k t) := by
  unfold Machine.removeLast
  dsimp only
  refine noteFill ?_ i
  split <;> split
  · exact dropCandidate h.same i
  · exact h.same
  · exact dropCandidate h.same i
  · exact h.same

theorem closeArriving (h : PortsKept s t) (i : Nat) : PortsKept s (Machine.closeArriving i t) := by
  unfold Machine.closeArriving
  dsimp only
  split
  · exact h
  · exact ite (countCtAbort (closeBehind h.same i) _) (removeLast h.same i _)

/-! ### Tunnels -/

theorem entCnt {base : Nat} (h : PortsKept s t) (i n : Nat) (hb : 0x50000 ≤ base) :
    PortsKept s (Machine.addCnt (Machine.entCnt base i) n t) :=
  h.addCnt n (by simp only [OffPower, Machine.entCnt, regKey]; omega)

theorem resendAll (h : PortsKept s t) (i : Nat) : PortsKept s (Machine.resendAll i t) := by
  unfold Machine.resendAll
  dsimp only
  exact entCnt h.same _ _ (by decide)

theorem forget (h : PortsKept s t) (i : Nat) : PortsKept s (Machine.forget i t) := by
  unfold Machine.forget
  refine qSet (tSet (dropTags (setF h _ ?_) i) _ _) _ _
  simp only [OffPower, bitIn, R.TUN_STALLED]; omega

theorem removeTunnel (h : PortsKept s t) (i : Nat) : PortsKept s (Machine.removeTunnel i t).2 := by
  unfold Machine.removeTunnel
  dsimp only
  refine forget (entCnt (discardCells (closeEgress ?_ i) i) _ _ (by decide)) i
  split
  · exact ite (h.countCtAbort _) h
  · exact h

theorem clearEntry (h : PortsKept s t) (i : Nat) : PortsKept s (Machine.clearEntry i t) :=
  forAll h _ fun w u hu =>
    same (t := Machine.setReg (entKey i w) 0 u) (hu.setReg 0 (by simp only [OffPower, entKey, regKey, R.TUN_ENTRY0]; omega))

theorem teardown (h : PortsKept s t) (i : Nat) : PortsKept s (Machine.teardown i t).2 := by
  unfold Machine.teardown
  dsimp only
  exact addCnt64 (bump (setF (clearEntry (h.removeTunnel i) i) 1 (by simp only [OffPower, bitIn, R.TUN_TORN]; omega))) _

/-! ### Adapters -/

theorem linkUse (h : PortsKept s t) (k : Nat) : PortsKept s (Machine.linkUse k t) :=
  setF h.same 0 (by simp only [OffPower, R.PCIE_STATUS]; omega)

theorem txTlps (h : PortsKept s t) (k n : Nat) : PortsKept s (Machine.addCnt64 (R.PCIE_TX_TLPS k) n t) := by
  refine h.addCnt64 n ?_ ?_
  all_goals simp only [OffPower, R.PCIE_TX_TLPS]; omega

theorem offerFrame (h : PortsKept s t) (m : Nat) (f : InFrame) : PortsKept s (Machine.offerFrame m f t) := h.same

theorem complete (h : PortsKept s t) (f tag status lower : Nat) (data : List Byte) (ep : Bool) :
    PortsKept s (Machine.complete f tag status lower data ep t) := by
  unfold Machine.complete
  dsimp only
  exact ite (forAll h _ fun _ _ hu => hu.same) (ite (emit (txTlps (h.linkUse 0) 0 _) _) h)

theorem answerRead (h : PortsKept s t) (swap status : Nat) (data : List Byte) :
    PortsKept s (Machine.answerRead swap status data t) := by
  unfold Machine.answerRead
  exact ite (h.emit _) (raise (bump (h.emit _)) _ _)

theorem completeCurrent (h : PortsKept s t) (status : Nat) (data : List Byte) (d : LbSlot) :
    PortsKept s (Machine.completeCurrent status data d t) := by
  unfold Machine.completeCurrent
  dsimp only
  split
  · split
    · exact answerRead h.same _ _ _
    · exact h.same
  · exact h.same

theorem bridgeCompletion (h : PortsKept s t) (tag status : Nat) (data : List Byte) :
    PortsKept s (Machine.bridgeCompletion tag status data t) := by
  unfold Machine.bridgeCompletion
  dsimp only
  split
  · cases t.brg.current with
    | none => exact h
    | some d => exact h.completeCurrent _ _ _
  · split
    · exact h.same
    · exact h

theorem answerId (h : PortsKept s t) (f tag status : Nat) : PortsKept s (Machine.answerId f tag status t) := by
  unfold Machine.answerId
  split
  · split
    · exact h.same
    · exact h.bridgeCompletion _ _ _
  · exact h.complete _ _ _ _ _ _

theorem sendUp (h : PortsKept s t) (o : Output) (tlp : List Byte) : PortsKept s (Machine.sendUp o tlp t) := by
  unfold Machine.sendUp
  split
  · exact h.same
  · exact ite (emit (txTlps (h.linkUse 0) 0 1) _) h

theorem sendErr (h : PortsKept s t) (f kind : Nat) : PortsKept s (Machine.sendErr f kind t) := by
  unfold Machine.sendErr
  exact ite (h.sendUp _ _) h

theorem cfgOr (h : PortsKept s t) (f dw : Nat) (m : Word) : PortsKept s (Machine.cfgOr f dw m t) := h.same

theorem firstError (h : PortsKept s t) (f i : Nat) (tlp : List Byte) : PortsKept s (Machine.firstError f i tlp t) := by
  unfold Machine.firstError
  exact ite h (forAll h.same _ fun _ _ hu => hu.same)

theorem aerError (h : PortsKept s t) (f i : Nat) (tlp : List Byte) : PortsKept s (Machine.aerError f i tlp t) := by
  have hl (st : Nat) : PortsKept s (Machine.bump (R.PCIE_UNCORR_ERR (errPage f)) (logError f i st tlp t)) :=
    bump (cfgOr (cfgOr (h.firstError f i tlp) _ _ _) _ _ _) (by simp only [OffPower, R.PCIE_UNCORR_ERR]; omega)
  unfold Machine.aerError
  dsimp only
  generalize (if cfgBit t f 67 i = true then 2 ^ 18 else 2 ^ 17) = st
  exact ite (hl st) (raise (sendErr (hl st) _ _) _ _)

theorem vdpActive (h : PortsKept s t) (v x : Nat) : PortsKept s (Machine.setF (fVdp v) x t) :=
  h.setF x (show OffPower R.PSW_VDP_STATUS by decide)

theorem vdpSet (h : PortsKept s t) (v : Nat) (x : Vdp) : PortsKept s (Machine.vdpSet v x t) := h.same

theorem linkGoes (h : PortsKept s t) (v : Nat) : PortsKept s (Machine.linkGoes v t) := by
  unfold Machine.linkGoes
  dsimp only
  exact forAll (addCnt (cfgOr (vdpSet (vdpActive h v 0) v _) _ _ _) _) _ fun _ _ hu => hu.answerId _ _ _

theorem vdpRefresh (h : PortsKept s t) (v : Nat) : PortsKept s (Machine.vdpRefresh v t) := by
  unfold Machine.vdpRefresh surpriseDown
  dsimp only
  exact ite (ite (h.linkGoes v) (raise (bump (linkGoes (h.aerError _ _ _) v)) _ _)) (ite (cfgOr (vdpActive h v 1) _ _ _) h)

theorem setBar4 (h : PortsKept s t) (n : Nat) : PortsKept s (Machine.setBar4 n t) := by
  unfold Machine.setBar4
  exact journal h.same _ _ _

theorem cfgResetOf (h : PortsKept s t) (which : Nat → Bool) : PortsKept s (Machine.cfgResetOf which t) := by
  unfold Machine.cfgResetOf
  dsimp only
  exact forAll h.same _ fun _ _ hu => hu.journal _ _ _

theorem upstreamReset (h : PortsKept s t) : PortsKept s (Machine.upstreamReset t) := by
  unfold Machine.upstreamReset
  exact cfgResetOf (setBar4 h.same _) _

theorem upTunnelRefresh (h : PortsKept s t) : PortsKept s (Machine.upTunnelRefresh t) := by
  unfold Machine.upTunnelRefresh
  dsimp only
  exact ite (upstreamReset h.same) h.same

theorem usb3Port (h : PortsKept s t) (v lo w x : Nat) : PortsKept s (Machine.setF ⟨R.USB3_PORT_STATUS v, lo, w⟩ x t) :=
  h.setF _ (by simp only [OffPower, R.USB3_PORT_STATUS]; omega)

theorem change3 (h : PortsKept s t) (p b : Nat) : PortsKept s (Machine.change3 p b t) := h.same

theorem vportDown (h : PortsKept s t) (v : Nat) : PortsKept s (Machine.vportDown v t) := by
  unfold Machine.vportDown
  dsimp only
  exact change3 (usb3Port (usb3Port (usb3Port h v _ _ _) v _ _ _) v _ _ _) _ _

theorem vportRefresh (h : PortsKept s t) (v : Nat) : PortsKept s (Machine.vportRefresh v t) := by
  unfold Machine.vportRefresh
  dsimp only
  exact ite (ite (bump (h.vportDown v)) (ite (h.vportDown v) h))
    (ite (change3 (usb3Port (usb3Port (usb3Port h v _ _ _) v _ _ _) v _ _ _) _ _) h)

theorem upVirtual (h : PortsKept s t) : PortsKept s (Machine.upVirtual t) := by
  unfold Machine.upVirtual
  dsimp only
  exact ite (offerFrame (setF h _) _ _) (ite (offerFrame (setF h _) _ _) (setF h _))

theorem adaptersFollow (h : PortsKept s t) : PortsKept s (Machine.adaptersFollow t) :=
  upVirtual (forAll (upTunnelRefresh (forAll h _ fun v _ hu => hu.vdpRefresh v)) _ fun v _ hu => hu.vportRefresh v)

theorem teardownAll (h : PortsKept s t) (is : List Nat) : PortsKept s (Machine.teardownAll is t).2 := by
  unfold Machine.teardownAll
  dsimp only
  refine adaptersFollow ?_
  suffices hall : ∀ a : Nat × State, PortsKept s a.2 →
      PortsKept s (is.foldl (fun (a : Nat × State) i => let (n, s) := Machine.teardown i a.2; (a.1 + n, s)) a).2 from
    hall (0, t) h
  induction is with
  | nil => exact fun _ ha => ha
  | cons i is ih => exact fun a ha => ih _ (ha.teardown i)

/-! ### Docks -/

theorem timeSourceMoves (h : PortsKept s t) : PortsKept s (Machine.timeSourceMoves t) := by
  unfold Machine.timeSourceMoves
  exact ite (setF h 1) h

theorem dockAdopt (h : PortsKept s t) : PortsKept s (Machine.dockAdopt t) := by
  unfold Machine.dockAdopt
  dsimp only
  exact forAll (forAll (forAll h _ fun i _ hu => hu.closeArriving i) _ fun _ _ hu => bump hu.same) _
    fun i _ hu => hu.resendAll i

theorem dockTo (h : PortsKept s t) (n : Nat) : PortsKept s (Machine.dockTo n t) := by
  unfold Machine.dockTo
  dsimp only
  exact when (setReg h.same _) _ fun _ hu => when (timeSourceMoves (bump (setF hu _))) _ fun _ hv => hv.dockAdopt

theorem dockEvaluate (h : PortsKept s t) : PortsKept s (Machine.dockEvaluate t) := by
  unfold Machine.dockEvaluate
  dsimp only
  refine ite ?_ h
  have hd (c : Bool) (v : Nat) : PortsKept s (Machine.when c (Machine.raise 111 2)
      (Machine.setF ⟨R.PAIR_DOCK_STATUS, 1, 1⟩ v t)) :=
    when (setF h v) c fun _ hu => hu.raise _ _
  split
  · exact (hd _ _).same
  · exact (hd _ _).dockTo _

theorem islandFollow (h : PortsKept s t) : PortsKept s (Machine.islandFollow t) := by
  unfold Machine.islandFollow
  exact ite (setF h _) h

/-! ### A link is lost -/

theorem lSet (h : PortsKept s t) (n : Nat) (l : Link) : PortsKept s (Machine.lSet n l t) := h.same

theorem holdExpires (h : PortsKept s t) {n : Nat} (hn : n < 5) : PortsKept s (Machine.holdExpires n t) := by
  unfold Machine.holdExpires teardownHeld stopHold raiseLink
  dsimp only
  refine raise (bump (addCnt64 (teardownAll (forAll h _ fun _ _ hu => hu.same) _) _ ?_ ?_) ?_) _ _
  all_goals simp only [OffPower, R.LINK_HOLD_EXPIRIES, R.LINK_HOLD_LOSS_CELLS]; omega

theorem suspendBound (h : PortsKept s t) {n : Nat} (hn : n < 5) : PortsKept s (Machine.suspendBound n t) := by
  have hsusp (l : List Nat) : PortsKept s (Machine.forAll l (fun i s => Machine.tSet i { tGet s i with susp := true } s) t) :=
    h.forAll _ fun _ _ hu => hu.tSet _ _
  unfold Machine.suspendBound
  dsimp only
  exact ite h (ite (hsusp _) (ite ((hsusp _).holdExpires hn) (lSet (hsusp _) _ _)))

theorem scarfLost (h : PortsKept s t) : PortsKept s (Machine.scarfLost t) := by
  unfold Machine.scarfLost
  exact ite (setF h.same 3) h

/-- A register of the five links. -/
theorem linkKey {n : Nat} (off : Nat) (hn : n < 5) (hoff : off < 0x11000 := by decide) : OffPower (off + n * 0x1000) :=
  .inl (by omega)

theorem startRetry (h : PortsKept s t) {n : Nat} (hn : n < 5) : PortsKept s (Machine.startRetry n t) :=
  same (setF (f := ⟨R.LINK_HOLD_STATUS n, 1, 1⟩) h 1 (linkKey 0x10118 hn))

theorem linkDown (h : PortsKept s t) {n : Nat} (hn : n < 5) (reason : Nat) : PortsKept s (Machine.linkDown n reason t) := by
  unfold Machine.linkDown
  dsimp only
  refine ite h (islandFollow (dockEvaluate (overbookCheck ?_ n)))
  refine when (when (when (setReg (bump (same (when (forAll h _ fun _ _ hu => hu.emit _) _ fun _ hu =>
    hu.setF 5 ?_)) ?_) _ ?_) _ fun _ hu => raise (suspendBound (addCnt64 hu _ ?_ ?_) hn) _ _) _ fun _ hu => hu.scarfLost) _
    fun _ hu => hu.startRetry hn
  · exact linkKey 0x1010C hn
  · exact linkKey 0x1082C hn
  · exact linkKey 0x10104 hn
  · exact linkKey 0x10860 hn
  · simp only [OffPower, R.LINK_RETRAIN_LOSS_CELLS]; omega

/-! ### A swap of the pair is aborted, and an output loses HPD -/

theorem swapInterrupted (h : PortsKept s t) : PortsKept s (Machine.swapInterrupted t) := by
  unfold Machine.swapInterrupted abortSwap endSwap thaw modPair
  dsimp only
  exact ite h (raise (bump (setF (setF (same (when h _ fun _ hu => hu.sendCtl _ _)) _) _)) _ _)

theorem hpdLoss (h : PortsKept s t) {k : Nat} (hk : 2 ≤ k) : PortsKept s (Machine.hpdLoss k t) := by
  unfold Machine.hpdLoss setTrained
  dsimp only
  rw [if_neg (Nat.not_lt.2 hk), if_neg (Nat.not_lt.2 hk)]
  exact ite (raise h.same _ _) h

theorem onHub (h : PortsKept s t) {f : State → State} (hf : ∀ u, PortsKept s u → PortsKept s (f u)) :
    PortsKept s (Machine.onHub f t) := ite (hf _ h) h

/-! ### What is read of a port -/

theorem reg_port (h : PortsKept s t) {n off : Nat} (hn : n < 4) (hoff : 0x40000 ≤ off ∧ off < 0x41000 := by decide) :
    reg t (off + n * 0x1000) = reg s (off + n * 0x1000) := h.page _ (by omega) (by omega)

theorem bit_port (h : PortsKept s t) {n off lo w : Nat} (hn : n < 4) (hoff : 0x40000 ≤ off ∧ off < 0x41000 := by decide) :
    bit t ⟨off + n * 0x1000, lo, w⟩ = bit s ⟨off + n * 0x1000, lo, w⟩ := bit_of_reg (h.reg_port hn hoff)

theorem tcGet_eq (h : PortsKept s t) (n : Nat) : tcGet t n = tcGet s n := congrArg (fun m => smGet dTc m n) h.tc

end PortsKept
end Sys2Proof.Machine

/-! ## Role swaps and the commands of TC.CMD (R260–R262, R266, Table 11-9) -/

namespace Sys2Proof.Machine

variable {c : Instr} {s t u : State} {ks : List Nat} {n : Nat}

/-! ### What a swap does once it is accepted -/

@[simp] theorem prsAccepted_out (n : Nat) (s : State) : (prsAccepted n s).out = s.out := by
  unfold prsAccepted openSwitch
  split <;> simp

/-- The contract ends with the roles. -/
theorem tcGet_prsAccepted (n : Nat) (s : State) : (tcGet (prsAccepted n s) n).contract = none ∧
    (tcGet (prsAccepted n s) n).prs = if isSource s n then .sourceOn else .awaitOff := by
  unfold prsAccepted
  split <;> simp

@[simp] theorem bit_prsAccepted_contract (n : Nat) (s : State) : bit (prsAccepted n s) (fContract n) = false := by
  unfold prsAccepted openSwitch
  split <;> simp

/-- A sink opens its switch. -/
theorem bit_prsAccepted_switch (h : isSource s n = false) : bit (prsAccepted n s) (fSwitch n) = false := by
  rw [prsAccepted, if_neg (h ▸ Bool.false_ne_true), bit_modTc, bit_openSwitch_switch]

theorem RegsBut.prsAccepted (h : RegsBut ks s t) (n : Nat) (hk : contractKeys n ⊆ ks) :
    RegsBut ks s (Machine.prsAccepted n t) := by
  have hvoid := h.voidContract n hk
  unfold Machine.prsAccepted openSwitch
  split
  · exact hvoid.modTc _ _
  · exact ((hvoid.setF 0 (hk (status_mem n))).modTc _ _).modTc _ _

/-- Of a DR_Swap the registers alone remain. -/
theorem drsAccepted_frame (n : Nat) (s : State) : drsAccepted n s = { s with regs := (drsAccepted n s).regs } := by
  unfold drsAccepted
  obtain h | h := usbDefault_eq n (bump (R.TC_SWAPS n) (setF (fDataRole n) (1 - getF s (fDataRole n)) s))
  all_goals
    rw [h]
    rfl

/-- The data role changes over. -/
theorem bit_drsAccepted_dataRole (n : Nat) (s : State) :
    bit (drsAccepted n s) (fDataRole n) = !bit s (fDataRole n) := by
  have hflip : decide ((1 - getF s (fDataRole n)) % 2 = 1) = !bit s (fDataRole n) := by
    have hlt : getF s (fDataRole n) < 2 := getF_lt s (fDataRole n)
    rw [bit_eq, ← decide_not, decide_eq_decide]
    omega
  unfold drsAccepted
  obtain h | h := usbDefault_eq n (bump (R.TC_SWAPS n) (setF (fDataRole n) (1 - getF s (fDataRole n)) s))
  all_goals
    rw [h]
    simp [hflip]

theorem reg_drsAccepted_swaps (n : Nat) (s : State) :
    reg (drsAccepted n s) (R.TC_SWAPS n) = reg s (R.TC_SWAPS n) + 1 := by
  unfold drsAccepted
  obtain h | h := usbDefault_eq n (bump (R.TC_SWAPS n) (setF (fDataRole n) (1 - getF s (fDataRole n)) s))
  all_goals
    rw [h]
    simp [reg_setF_ne]

theorem RegsBut.usbDefault (h : RegsBut ks s t) (n : Nat) (hk : R.TC_STATUS n ∈ ks := by simp) :
    RegsBut ks s (Machine.usbDefault n t) := by
  obtain e | e := usbDefault_eq n t
  · rwa [e]
  · rw [e]
    exact h.setF 1 hk

theorem RegsBut.drsAccepted (h : RegsBut ks s t) (n : Nat) (hk : R.TC_STATUS n ∈ ks := by simp)
    (hk' : R.TC_SWAPS n ∈ ks := by simp) : RegsBut ks s (Machine.drsAccepted n t) :=
  ((h.setF _ hk).bump hk').usbDefault n hk

/-! ### PR_Swap (R266) -/

section
variable {n : Fin 4}

/-- PR_Swap is asked of the partner. -/
def prSwapAsked (n : Nat) (s : State) : State :=
  pd n .prSwap (modTc n (fun t => { t with prs := .asked }) (tcBegin n 1 s))

theorem tcGet_prSwapAsked (n : Nat) (s : State) : tcGet (prSwapAsked n s) n = { tcGet s n with op := 1, prs := .asked } := by
  simp [prSwapAsked, tcBegin]

theorem regsBut_prSwapAsked (n : Nat) (s : State) : RegsBut [R.TC_CMD_STATUS n] s (prSwapAsked n s) :=
  (((regsBut_refl _ s).setReg 1 List.mem_cons_self).modTc n _).modTc n _ |>.pd n _

theorem tcCmd_prSwap {n : Nat} (hfree : bit s (fTcBusy n) = false) (hatt : isAttached s n = true) (hpd : pdOn s n = true)
    (hidle : (tcGet s n).prs = .idle) : tcCmd n 1 s = prSwapAsked n s := by
  simp [tcCmd, hfree, hatt, hpd, hidle, prSwapAsked]

/-- PR_Swap is under way, and the partner has not answered. -/
theorem answers_tcPrSwap_awaited (h : Powered s) (hatt : isAttached s n = true) (hpd : pdOn s n = true)
    (hfree : bit s (fTcBusy n) = false) (hidle : (tcGet s n).prs = .idle) :
    Answers (.tcPrSwap n .awaited) s (fun t =>
      tcGet t n = { tcGet s n with op := 1, prs := .asked } ∧ reg t (R.TC_CMD_STATUS n) = 1 ∧
      t.out = [.pd n .prSwap] ∧ RegsBut [R.TC_CMD_STATUS n] s t ∧
      t = { s with regs := t.regs, tc := t.tc, out := t.out }) := by
  have hcmd : tcAnswer n 1 .awaited (tcCmd n 1 (clearOut s)) = prSwapAsked n (clearOut s) := by
    rw [tcAnswer_awaited, tcCmd_prSwap (s := clearOut s) hfree hatt hpd hidle]
  exact answers_power_eq (tcRow_eq n 1 .awaited s) h hcmd rfl rfl
    ⟨tcGet_prSwapAsked n _, reg_setReg_same _ _ _, rfl, regsBut_prSwapAsked n (clearOut s), rfl⟩

/-- The partner accepts. -/
theorem answers_tcPrSwap_accept (h : Powered s) (hatt : isAttached s n = true) (hpd : pdOn s n = true)
    (hfree : bit s (fTcBusy n) = false) (hidle : (tcGet s n).prs = .idle) :
    Answers (.tcPrSwap n .accept) s (fun t =>
      (tcGet t n).prs = (if isSource s n then .sourceOn else .awaitOff) ∧ (isSource s n = false →
      bit t (fSwitch n) = false) ∧ (tcGet t n).contract = none ∧ bit t (fContract n) = false ∧
      reg t (R.TC_CMD_STATUS n) = 1 ∧ t.out = [.pd n .prSwap] ∧
      RegsBut [R.TC_CMD_STATUS n, R.TC_STATUS n, R.TC_CONTRACT n, R.TC_SRC_BUDGET 0] s t) := by
  have hcmd : tcAnswer n 1 .accept (tcCmd n 1 (clearOut s)) = prsAccepted n (prSwapAsked n (clearOut s)) := by
    rw [tcCmd_prSwap (s := clearOut s) hfree hatt hpd hidle]
    simp [tcAnswer, tcGet_prSwapAsked]
  have hsource : isSource (prSwapAsked n (clearOut s)) n = isSource s n := by
    simp [prSwapAsked, tcBegin, isSource, isAttached, cc, getF_setReg_ne]
  obtain ⟨hcontract, hprs⟩ := tcGet_prsAccepted n (prSwapAsked n (clearOut s))
  have hbut : RegsBut (contractKeys n) (prSwapAsked n (clearOut s)) (prsAccepted n (prSwapAsked n (clearOut s))) :=
    (regsBut_refl _ _).prsAccepted n (List.Subset.refl _)
  refine answers_power_kept (tcRow_eq n 1 .accept s) h hcmd
    ⟨hsource ▸ hprs, fun hsink => bit_prsAccepted_switch (hsource.trans hsink), hcontract, bit_prsAccepted_contract n _, ?_,
      prsAccepted_out n _, ?_⟩
  · exact (hbut _ (by simp [tcKey_ne])).trans (reg_setReg_same _ _ _)
  · exact ((regsBut_prSwapAsked n (clearOut s)).mono (by simp)).prsAccepted n (by simp [contractKeys])

/-- The partner rejects. -/
theorem answers_tcPrSwap_reject (h : Powered s) (hatt : isAttached s n = true) (hpd : pdOn s n = true)
    (hfree : bit s (fTcBusy n) = false) (hidle : (tcGet s n).prs = .idle) :
    Answers (.tcPrSwap n .reject) s (fun t =>
      tcGet t n = { tcGet s n with op := 0 } ∧ reg t (R.TC_CMD_STATUS n) = 2 ∧ t.out = [.pd n .prSwap] ∧
      RegsBut [R.TC_CMD_STATUS n] s t ∧ t = { s with regs := t.regs, tc := t.tc, out := t.out }) := by
  have hcmd : tcAnswer n 1 .reject (tcCmd n 1 (clearOut s)) =
      modTc n (fun t => { t with op := 0 }) (setReg (R.TC_CMD_STATUS n) 2
        (modTc n (fun t => { t with prs := if t.prs = .asked then .idle else t.prs }) (prSwapAsked n (clearOut s)))) := by
    rw [tcCmd_prSwap (s := clearOut s) hfree hatt hpd hidle]
    simp [tcAnswer, tcGet_prSwapAsked, tcEnd_of_op]
  refine answers_power_eq (tcRow_eq n 1 .reject s) h hcmd rfl rfl ⟨?_, reg_setReg_same _ _ _, rfl, ?_, rfl⟩
  · simp [tcGet_prSwapAsked, ← hidle]
  · exact (((regsBut_prSwapAsked n (clearOut s)).modTc n _).setReg 2 List.mem_cons_self).modTc n _

end

/-! ### What a command of a port leaves alone -/

/-- Nothing but registers, what the ports keep and outputs has changed. -/
def OnlyPorts (s t : State) : Prop := t = { s with regs := t.regs, tc := t.tc, out := t.out }

namespace OnlyPorts

theorem onto (h : OnlyPorts s t) (hu : OnlyPorts t u) : OnlyPorts s u :=
  hu.trans (congrArg (fun t => { t with regs := u.regs, tc := u.tc, out := u.out }) h)

theorem clearOut (s : State) : OnlyPorts s (clearOut s) := rfl
theorem setReg (h : OnlyPorts s t) (k : Nat) (v : Word) : OnlyPorts s (Machine.setReg k v t) := h.onto rfl
theorem setF (h : OnlyPorts s t) (f : Fld) (v : Nat) : OnlyPorts s (Machine.setF f v t) := h.onto rfl
theorem bump (h : OnlyPorts s t) (k : Nat) : OnlyPorts s (Machine.bump k t) := h.onto rfl
theorem modTc (h : OnlyPorts s t) (n : Nat) (f : Tc → Tc) : OnlyPorts s (Machine.modTc n f t) := h.onto rfl
theorem pd (h : OnlyPorts s t) (n : Nat) (m : PdMsg) : OnlyPorts s (Machine.pd n m t) := h.onto rfl

theorem ite {c : Prop} [Decidable c] (ht : OnlyPorts s t) (hu : OnlyPorts s u) : OnlyPorts s (if c then t else u) := by
  split
  · exact ht
  · exact hu

theorem tcEnd (h : OnlyPorts s t) (n r : Nat) : OnlyPorts s (Machine.tcEnd n r t) := ite h ((h.setReg _ _).modTc n _)

theorem drsAccepted (h : OnlyPorts s t) (n : Nat) : OnlyPorts s (Machine.drsAccepted n t) :=
  h.onto (by rw [drsAccepted_frame]; rfl)

/-- Without outputs, what is sent is nothing. -/
theorem silent (h : OnlyPorts s t) (ho : t.out = []) : t = { s with regs := t.regs, tc := t.tc, out := [] } :=
  h.trans (by rw [ho])

end OnlyPorts

/-- A command of the power die completes with its effect, which touches the ports alone. -/
theorem answers_ports {f : State → State} {P : State → Prop} (e : exec c s = power s f) (h : Powered s)
    (ht : f (clearOut s) = t) (hf : OnlyPorts s t) (hP : P t) : Answers c s P :=
  answers_power_eq e h ht (by rw [hf]) (by rw [hf]) hP

/-! ### A command of TC.CMD ends -/

@[simp] theorem tcGet_tcEnd (n r : Nat) (s : State) : tcGet (tcEnd n r s) n = { tcGet s n with op := 0 } := by
  by_cases h : (tcGet s n).op = 0
  · rw [tcEnd, if_pos h, ← h]
  · rw [tcEnd_of_op h, tcGet_modTc_same, tcGet_setReg]

/-- A command that is under way shows its RESULT at its end. -/
theorem reg_tcEnd_status {r : Nat} (h : (tcGet s n).op ≠ 0) :
    reg (tcEnd n r s) (R.TC_CMD_STATUS n) = BitVec.ofNat 32 (r * 2) := by
  rw [tcEnd_of_op h, reg_modTc, reg_setReg_same]

@[simp] theorem tcEnd_out (n r : Nat) (s : State) : (tcEnd n r s).out = s.out := by
  unfold tcEnd
  split <;> rfl

/-- Of the registers the end of a command writes its status alone. -/
@[simp] theorem reg_tcEnd {r off : Nat} (m : Nat) (s : State) (h : off % 0x1000 ≠ 0x1E4) :
    reg (tcEnd n r s) (off + m * 0x1000) = reg s (off + m * 0x1000) :=
  regsBut_tcEnd (ks := [R.TC_CMD_STATUS n]) n r s List.mem_cons_self _ (by simp only [List.mem_singleton, R.TC_CMD_STATUS]; omega)

@[simp] theorem bit_tcEnd {r off lo w : Nat} (m : Nat) (s : State) (h : off % 0x1000 ≠ 0x1E4) :
    bit (tcEnd n r s) ⟨off + m * 0x1000, lo, w⟩ = bit s ⟨off + m * 0x1000, lo, w⟩ := bit_of_reg (reg_tcEnd m s h)

/-- A command of TC.CMD begins, and its message goes out. -/
def tcAsked (n op : Nat) (m : PdMsg) (s : State) : State := pd n m (tcBegin n op s)

@[simp] theorem tcGet_tcAsked (n op : Nat) (m : PdMsg) (s : State) : tcGet (tcAsked n op m s) n = { tcGet s n with op := op } := by
  simp [tcAsked, tcBegin]

theorem regsBut_tcAsked (n op : Nat) (m : PdMsg) (s : State) : RegsBut [R.TC_CMD_STATUS n] s (tcAsked n op m s) :=
  ((regsBut_refl _ s).setReg 1 List.mem_cons_self).modTc n _ |>.pd n _

theorem OnlyPorts.tcAsked (h : OnlyPorts s t) (n op : Nat) (m : PdMsg) : OnlyPorts s (Machine.tcAsked n op m t) :=
  ((h.setReg _ _).modTc n _).pd n m

@[simp] theorem tcGet_drsAccepted (m : Nat) (s : State) (n : Nat) : tcGet (drsAccepted m s) n = tcGet s n := by
  rw [drsAccepted_frame]
  rfl

@[simp] theorem drsAccepted_out (m : Nat) (s : State) : (drsAccepted m s).out = s.out := by rw [drsAccepted_frame]

theorem RegsBut.tcEnd (h : RegsBut ks s t) (n r : Nat) (hk : R.TC_CMD_STATUS n ∈ ks := by simp) :
    RegsBut ks s (Machine.tcEnd n r t) := h.trans (regsBut_tcEnd n r t hk)

section
variable {n : Fin 4}

/-! ### The commands of TC.CMD but PR_Swap (Table 11-9) -/

/-- The partner accepts a DR_Swap. -/
theorem answers_tcDrSwap_accept (h : Powered s) (hatt : isAttached s n = true) (hpd : pdOn s n = true)
    (hfree : bit s (fTcBusy n) = false) (hmux : mux s n < 2) :
    Answers (.tcDrSwap n .accept) s (fun t =>
      bit t (fDataRole n) = (!bit s (fDataRole n)) ∧ (tcGet t n).op = 0 ∧ reg t (R.TC_CMD_STATUS n) = 0 ∧
      reg t (R.TC_SWAPS n) = reg s (R.TC_SWAPS n) + 1 ∧ t.out = [.pd n .drSwap] ∧
      RegsBut [R.TC_CMD_STATUS n, R.TC_STATUS n, R.TC_SWAPS n] s t ∧
      t = { s with regs := t.regs, tc := t.tc, out := t.out }) := by
  have hcmd : tcCmd n 2 (clearOut s) = tcAsked n 2 .drSwap (clearOut s) := by
    simp [tcCmd, tcAsked, show bit (clearOut s) (fTcBusy n) = false from hfree,
      show isAttached (clearOut s) n = true from hatt, show pdOn (clearOut s) n = true from hpd,
      show mux (clearOut s) n < 2 from hmux]
  have hdone : tcAnswer n 2 .accept (tcCmd n 2 (clearOut s)) =
      tcEnd n tcOk (drsAccepted n (tcAsked n 2 .drSwap (clearOut s))) := by
    rw [hcmd]
    simp [tcAnswer]
  refine answers_ports (tcRow_eq n 2 .accept s) h hdone ((((OnlyPorts.clearOut s).tcAsked n 2 _).drsAccepted n).tcEnd n _)
    ⟨?_, ?_, ?_, ?_, ?_, ?_, ((((OnlyPorts.clearOut s).tcAsked n 2 _).drsAccepted n).tcEnd n _)⟩
  · simp [bit_drsAccepted_dataRole, tcAsked, tcBegin]
  · simp
  · exact reg_tcEnd_status (by simp)
  · simp [reg_drsAccepted_swaps, tcAsked, tcBegin, reg_setReg_ne]
  · rw [tcEnd_out, drsAccepted_out]
    rfl
  · exact (((regsBut_tcAsked n 2 _ (clearOut s)).mono (by simp)).drsAccepted n).tcEnd n _

/-- DR_Swap is refused unless the port is attached, PD is on and no mode is active. -/
theorem answers_tcDrSwap_illegal (h : Powered s) (hfree : bit s (fTcBusy n) = false)
    (hill : (isAttached s n && pdOn s n && decide (mux s n < 2)) = false) :
    Answers (.tcDrSwap n .awaited) s (fun t =>
      reg t (R.TC_CMD_STATUS n) = 8 ∧ RegsBut [R.TC_CMD_STATUS n] s t ∧ OnlyRegs s t ∧ t.out = []) := by
  have hcmd : tcAnswer n 2 .awaited (tcCmd n 2 (clearOut s)) = tcNow n tcIllegal (clearOut s) := by
    rw [tcAnswer_awaited, tcCmd, if_neg (show ¬ bit (clearOut s) (fTcBusy n) = true from hfree ▸ Bool.false_ne_true)]
    exact if_neg (show ¬ (isAttached s n && pdOn s n && decide (mux s n < 2)) = true from hill ▸ Bool.false_ne_true)
  exact answers_power_eq (tcRow_eq n 2 .awaited s) h hcmd rfl rfl
    ⟨reg_setReg_same _ _ _, (regsBut_refl _ (clearOut s)).setReg _ List.mem_cons_self, rfl, rfl⟩

end

/-! ### VCONN_Swap (R266) -/

/-- VCONN changes over to this port, which says so. -/
def vconnTaken (n : Nat) (s : State) : State :=
  bump (R.TC_SWAPS n) (pd n .psRdy (vconnFollow n (modTc n (fun t => { t with vconn := true }) s)))

theorem OnlyPorts.vconnFollow (h : OnlyPorts s t) (n : Nat) : OnlyPorts s (Machine.vconnFollow n t) := h.setF _ _

theorem OnlyPorts.vconnTaken (h : OnlyPorts s t) (n : Nat) : OnlyPorts s (Machine.vconnTaken n t) :=
  (((h.modTc n _).vconnFollow n).pd n _).bump _

theorem RegsBut.vconnTaken (h : RegsBut ks s t) (n : Nat) (hk : R.TC_STATUS n ∈ ks := by simp)
    (hk' : R.TC_SWAPS n ∈ ks := by simp) : RegsBut ks s (Machine.vconnTaken n t) :=
  (((h.modTc n _).vconnFollow n hk).pd n _).bump hk'

@[simp] theorem tcGet_vconnFollow (m : Nat) (s : State) (n : Nat) : tcGet (vconnFollow m s) n = tcGet s n := rfl
@[simp] theorem vconnFollow_out (n : Nat) (s : State) : (vconnFollow n s).out = s.out := rfl

/-- VCONN_SRC is a field of TC.STATUS. -/
@[simp] theorem reg_vconnFollow {off : Nat} (m n : Nat) (s : State) (h : off % 0x1000 ≠ 0x104) :
    reg (vconnFollow n s) (off + m * 0x1000) = reg s (off + m * 0x1000) :=
  reg_setF_ne _ _ (by simp only [R.TC_STATUS]; omega)

@[simp] theorem tcGet_vconnTaken (n : Nat) (s : State) : tcGet (vconnTaken n s) n = { tcGet s n with vconn := true } := by
  simp [vconnTaken]

/-- VCONN is supplied where VCONN_EN is set. -/
theorem bit_vconnTaken_vconn (n : Nat) (s : State) : bit (vconnTaken n s) (fVconnSrc n) = bit s (fTcCtrl n 7) := by
  simp [vconnTaken]

@[simp] theorem reg_vconnTaken_swaps (n : Nat) (s : State) :
    reg (vconnTaken n s) (R.TC_SWAPS n) = reg s (R.TC_SWAPS n) + 1 := by
  simp [vconnTaken]

section
variable {n : Fin 4}

theorem tcCmd_vconnSwap (hatt : isAttached s n = true) (hpd : pdOn s n = true) (hfree : bit s (fTcBusy n) = false)
    (hv : (tcGet s n).vconn = true ∨ bit s (fTcCtrl n 7) = true) : tcCmd n 3 s = tcAsked n 3 .vconnSwap s := by
  simp [tcCmd, tcAsked, hatt, hpd, hfree, hv]

/-- The partner accepts that the source of VCONN gives it up; its PS_RDY is awaited. -/
theorem answers_tcVconnSwap_given (h : Powered s) (hatt : isAttached s n = true) (hpd : pdOn s n = true)
    (hfree : bit s (fTcBusy n) = false) (hv : (tcGet s n).vconn = true) (hw : (tcGet s n).vcsWait = false) :
    Answers (.tcVconnSwap n .accept) s (fun t =>
      tcGet t n = { tcGet s n with op := 3, vcsWait := true } ∧ reg t (R.TC_CMD_STATUS n) = 1 ∧
      t.out = [.pd n .vconnSwap] ∧ RegsBut [R.TC_CMD_STATUS n] s t ∧
      t = { s with regs := t.regs, tc := t.tc, out := t.out }) := by
  have hcmd : tcAnswer n 3 .accept (tcCmd n 3 (clearOut s)) =
      modTc n (fun t => { t with vcsWait := true }) (tcAsked n 3 .vconnSwap (clearOut s)) := by
    rw [tcCmd_vconnSwap (s := clearOut s) hatt hpd hfree (.inl hv)]
    simp [tcAnswer, hw, vcsAccepted, hv]
  exact answers_power_eq (tcRow_eq n 3 .accept s) h hcmd rfl rfl
    ⟨by simp, reg_setReg_same _ _ _, rfl, (regsBut_tcAsked n 3 _ (clearOut s)).modTc n _, rfl⟩

/-- The partner accepts that this port takes VCONN over. -/
theorem answers_tcVconnSwap_taken (h : Powered s) (hatt : isAttached s n = true) (hpd : pdOn s n = true)
    (hfree : bit s (fTcBusy n) = false) (hv : (tcGet s n).vconn = false) (hw : (tcGet s n).vcsWait = false)
    (hen : bit s (fTcCtrl n 7) = true) :
    Answers (.tcVconnSwap n .accept) s (fun t =>
      (tcGet t n).vconn = true ∧ (tcGet t n).op = 0 ∧ bit t (fVconnSrc n) = true ∧ reg t (R.TC_CMD_STATUS n) = 0 ∧
      reg t (R.TC_SWAPS n) = reg s (R.TC_SWAPS n) + 1 ∧ t.out = [.pd n .vconnSwap, .pd n .psRdy] ∧
      RegsBut [R.TC_CMD_STATUS n, R.TC_STATUS n, R.TC_SWAPS n] s t ∧
      t = { s with regs := t.regs, tc := t.tc, out := t.out }) := by
  have hcmd : tcAnswer n 3 .accept (tcCmd n 3 (clearOut s)) =
      tcEnd n tcOk (vconnTaken n (tcAsked n 3 .vconnSwap (clearOut s))) := by
    rw [tcCmd_vconnSwap (s := clearOut s) hatt hpd hfree (.inr hen)]
    simp [tcAnswer, hw, vcsAccepted, hv, vconnTaken]
  have hports := (((OnlyPorts.clearOut s).tcAsked n 3 .vconnSwap).vconnTaken n).tcEnd n tcOk
  have hout : (tcEnd n tcOk (vconnTaken n (tcAsked n 3 .vconnSwap (clearOut s)))).out = [.pd n .vconnSwap, .pd n .psRdy] := by
    rw [tcEnd_out]
    rfl
  refine answers_ports (tcRow_eq n 3 .accept s) h hcmd hports ⟨by simp, by simp, ?_, reg_tcEnd_status (by simp), ?_, hout, ?_, hports⟩
  · simpa [bit_vconnTaken_vconn, tcAsked, tcBegin] using hen
  · simp [tcAsked, tcBegin, reg_setReg_ne]
  · exact (((regsBut_tcAsked n 3 _ (clearOut s)).mono (by simp)).vconnTaken n).tcEnd n tcOk

/-- A VCONN_Swap received of the source of VCONN is accepted; the PS_RDY of the new source is awaited. -/
theorem answers_vconnSwapReceived_accept (h : Powered s) (hatt : isAttached s n = true) (hpd : pdOn s n = true)
    (hallow : bit s (fTcCtrl n 11) = true) (hv : (tcGet s n).vconn = true) :
    Answers (.vconnSwapReceived n) s (fun t =>
      t = tcSet n { tcGet s n with vcsWait := true } { s with out := [.pd n .accept] }) := by
  have ht : (if isAttached s n && pdOn s n then
      if bit s (fTcCtrl n 11) && ((tcGet s n).vconn || bit s (fTcCtrl n 7)) then vcsAccepted n (pd n .accept (clearOut s))
      else pd n .reject (clearOut s)
    else clearOut s) = modTc n (fun t => { t with vcsWait := true }) (pd n .accept (clearOut s)) := by
    simp [hatt, hpd, hallow, hv, vcsAccepted]
  exact answers_power_eq rfl h ht rfl rfl rfl

/-- A VCONN_Swap that is not allowed is rejected. -/
theorem answers_vconnSwapReceived_reject (h : Powered s) (hatt : isAttached s n = true) (hpd : pdOn s n = true)
    (hallow : bit s (fTcCtrl n 11) = false) : Answers (.vconnSwapReceived n) s (fun t => OnlyOut [.pd n .reject] s t) := by
  have ht : (if isAttached s n && pdOn s n then
      if bit s (fTcCtrl n 11) && ((tcGet s n).vconn || bit s (fTcCtrl n 7)) then vcsAccepted n (pd n .accept (clearOut s))
      else pd n .reject (clearOut s)
    else clearOut s) = pd n .reject (clearOut s) := by
    simp [hatt, hpd, hallow]
  exact answers_power_eq rfl h ht rfl rfl rfl


/-! ### Source objects, sent and asked for (R260, R261) -/

/-- The source advertises its objects. -/
theorem answers_tcSendCaps (h : Powered s) (hsource : isSource s n = true) (hpd : pdOn s n = true)
    (hfree : bit s (fTcBusy n) = false) (hask : (tcGet s n).asking = false) (hclosed : bit s (fSwitch n) = true) :
    Answers (.tcSendCaps n) s (fun t =>
      t.out = [.pd n (.sourceCaps (bit s (fEpr n)) (advertised s n))] ∧ (tcGet t n).capsSent = true ∧
      reg t (R.TC_CMD_STATUS n) = 0 ∧ RegsBut [R.TC_CMD_STATUS n] s t ∧
      t = { s with regs := t.regs, tc := t.tc, out := t.out }) := by
  have hatt : isAttached s n = true := (Bool.and_eq_true_iff.1 hsource).1
  have hcmd : tcCmd n 5 (clearOut s) = tcNow n tcOk (modTc n (fun t => { t with capsSent := true })
      (pd n (.sourceCaps (bit s (fEpr n)) (advertised s n)) (clearOut s))) := by
    rw [tcCmd, if_neg (show ¬ bit (clearOut s) (fTcBusy n) = true from hfree ▸ Bool.false_ne_true)]
    refine (if_pos (show (isAttached s n && pdOn s n && isSource s n && bit s (fSwitch n)) = true by
      simp [hatt, hpd, hsource, hclosed])).trans (congrArg (tcNow n tcOk) ?_)
    exact if_pos (show (pdOn s n && !(tcGet s n).asking) = true by simp [hpd, hask])
  exact answers_power_eq rfl h hcmd rfl rfl
    ⟨rfl, by simp [tcNow], reg_setReg_same _ _ _, (((regsBut_refl _ (clearOut s)).pd n _).modTc n _).setReg _ List.mem_cons_self, rfl⟩

/-- The partner's objects are asked for. -/
theorem answers_tcGetSrcCaps (h : Powered s) (hatt : isAttached s n = true) (hpd : pdOn s n = true)
    (hfree : bit s (fTcBusy n) = false) :
    Answers (.tcGetSrcCaps n .awaited) s (fun t =>
      tcGet t n = { tcGet s n with op := 9 } ∧ reg t (R.TC_CMD_STATUS n) = 1 ∧ t.out = [.pd n .getSourceCap] ∧
      RegsBut [R.TC_CMD_STATUS n] s t ∧ t = { s with regs := t.regs, tc := t.tc, out := t.out }) := by
  have hcmd : tcAnswer n 9 .awaited (tcCmd n 9 (clearOut s)) = tcAsked n 9 .getSourceCap (clearOut s) := by
    rw [tcAnswer_awaited, tcCmd, if_neg (show ¬ bit (clearOut s) (fTcBusy n) = true from hfree ▸ Bool.false_ne_true)]
    exact if_pos (show (isAttached s n && pdOn s n) = true by simp [hatt, hpd])
  exact answers_power_eq (tcRow_eq n 9 .awaited s) h hcmd rfl rfl
    ⟨by simp, reg_setReg_same _ _ _, rfl, regsBut_tcAsked n 9 _ (clearOut s), rfl⟩

/-! ### Swaps that the partner asks for (R266) -/

/-- A PR_Swap received is accepted. -/
theorem answers_prSwapReceived_accept (h : Powered s) (hatt : isAttached s n = true) (hpd : pdOn s n = true)
    (hidle : (tcGet s n).prs = .idle) (hallow : bit s (fTcCtrl n 10) = true) :
    Answers (.prSwapReceived n) s (fun t =>
      (tcGet t n).prs = (if isSource s n then .sourceOn else .awaitOff) ∧ (isSource s n = false →
      bit t (fSwitch n) = false) ∧ (tcGet t n).contract = none ∧ bit t (fContract n) = false ∧
      t.out = [.pd n .accept] ∧ RegsBut [R.TC_STATUS n, R.TC_CONTRACT n, R.TC_SRC_BUDGET 0] s t) := by
  have ht : (if isAttached s n && pdOn s n && decide ((tcGet s n).prs = .idle) then
      if bit s (fTcCtrl n 10) then prsAccepted n (pd n .accept (clearOut s)) else pd n .reject (clearOut s)
    else clearOut s) = prsAccepted n (pd n .accept (clearOut s)) := by
    simp [hatt, hpd, hidle, hallow]
  obtain ⟨hcontract, hprs⟩ := tcGet_prsAccepted n (pd n .accept (clearOut s))
  have hbut : RegsBut (contractKeys n) (clearOut s) (prsAccepted n (pd n .accept (clearOut s))) :=
    ((regsBut_refl _ (clearOut s)).pd n .accept).prsAccepted n (List.Subset.refl _)
  exact answers_power_kept rfl h ht ⟨hprs, fun hsink => bit_prsAccepted_switch hsink, hcontract, bit_prsAccepted_contract n _,
    prsAccepted_out n _, hbut⟩

/-- A PR_Swap that is not allowed is rejected. -/
theorem answers_prSwapReceived_reject (h : Powered s) (hatt : isAttached s n = true) (hpd : pdOn s n = true)
    (hidle : (tcGet s n).prs = .idle) (hallow : bit s (fTcCtrl n 10) = false) :
    Answers (.prSwapReceived n) s (fun t => OnlyOut [.pd n .reject] s t) := by
  have ht : (if isAttached s n && pdOn s n && decide ((tcGet s n).prs = .idle) then
      if bit s (fTcCtrl n 10) then prsAccepted n (pd n .accept (clearOut s)) else pd n .reject (clearOut s)
    else clearOut s) = pd n .reject (clearOut s) := by
    simp [hatt, hpd, hidle, hallow]
  exact answers_power_eq rfl h ht rfl rfl rfl

/-- A DR_Swap received is accepted. -/
theorem answers_drSwapReceived_accept (h : Powered s) (hatt : isAttached s n = true) (hpd : pdOn s n = true)
    (hmux : mux s n < 2) (hallow : bit s (fTcCtrl n 9) = true) :
    Answers (.drSwapReceived n) s (fun t =>
      bit t (fDataRole n) = (!bit s (fDataRole n)) ∧ reg t (R.TC_SWAPS n) = reg s (R.TC_SWAPS n) + 1 ∧
      t.out = [.pd n .accept] ∧ RegsBut [R.TC_STATUS n, R.TC_SWAPS n] s t ∧
      t = { s with regs := t.regs, tc := t.tc, out := t.out }) := by
  have ht : (if isAttached s n && pdOn s n then
      if 2 ≤ mux s n then hardReset n true false (clearOut s)
      else if bit s (fTcCtrl n 9) then drsAccepted n (pd n .accept (clearOut s)) else pd n .reject (clearOut s)
    else clearOut s) = drsAccepted n (pd n .accept (clearOut s)) := by
    simp [hatt, hpd, Nat.not_le.2 hmux, hallow]
  have hports := ((OnlyPorts.clearOut s).pd n .accept).drsAccepted n
  exact answers_ports rfl h ht hports ⟨bit_drsAccepted_dataRole _ _, reg_drsAccepted_swaps _ _, drsAccepted_out _ _,
    ((regsBut_refl _ (clearOut s)).pd n _).drsAccepted n, hports⟩

end

/-! ### PS_RDY (R262, R265, R266) -/

@[simp] theorem cc_setF {v : Nat} (n : Nat) (s : State) (h : v < 8) : cc (setF (fCc n) v s) n = v :=
  getF_setF_fits s (show 0 + 3 ≤ 32 by decide) h

theorem RegsBut.setVset (h : RegsBut ks s t) (mv n : Nat) (hk : R.TC_VSET_CODE n ∈ ks := by simp) :
    RegsBut ks s (Machine.setVset mv n t) := by
  obtain ⟨v, i, hset⟩ := setVset_eq mv n t
  rw [hset]
  exact RegsBut.modTc (RegsBut.setReg (t := freeTo i t) h _ hk) n _

/-- A command of TC.CMD that is under way ends with a RESULT. -/
def endIf (n op r : Nat) (s : State) : State := if (tcGet s n).op = op then tcEnd n r s else s

theorem OnlyPorts.endIf (h : OnlyPorts s t) (n op r : Nat) : OnlyPorts s (Machine.endIf n op r t) := ite (h.tcEnd n r) h

theorem RegsBut.endIf (h : RegsBut ks s t) (n op r : Nat) (hk : R.TC_CMD_STATUS n ∈ ks := by simp) :
    RegsBut ks s (Machine.endIf n op r t) := by
  unfold Machine.endIf
  split
  · exact h.tcEnd n r hk
  · exact h

/-- All but the command stays. -/
theorem tcGet_endIf (n op r : Nat) (s : State) : ∃ o, tcGet (endIf n op r s) n = { tcGet s n with op := o } := by
  unfold endIf
  split
  · exact ⟨0, tcGet_tcEnd n r s⟩
  · exact ⟨(tcGet s n).op, rfl⟩

@[simp] theorem endIf_out (n op r : Nat) (s : State) : (endIf n op r s).out = s.out := by
  unfold endIf
  split <;> simp

@[simp] theorem reg_endIf {off : Nat} (n op r m : Nat) (s : State) (h : off % 0x1000 ≠ 0x1E4) :
    reg (endIf n op r s) (off + m * 0x1000) = reg s (off + m * 0x1000) := by
  unfold endIf
  split <;> simp [h]

@[simp] theorem bit_endIf {off lo w : Nat} (n op r m : Nat) (s : State) (h : off % 0x1000 ≠ 0x1E4) :
    bit (endIf n op r s) ⟨off + m * 0x1000, lo, w⟩ = bit s ⟨off + m * 0x1000, lo, w⟩ := bit_of_reg (reg_endIf n op r m s h)

/-- The end of the command shows. -/
theorem endIf_shows {n op r : Nat} (hop : (tcGet s n).op = op) (h : op ≠ 0) :
    reg (endIf n op r s) (R.TC_CMD_STATUS n) = BitVec.ofNat 32 (r * 2) ∧ (tcGet (endIf n op r s) n).op = 0 := by
  unfold endIf
  rw [if_pos hop]
  exact ⟨reg_tcEnd_status (hop ▸ h), by rw [tcGet_tcEnd]⟩

/-- The new sink closes its switch, and the swap counts. -/
def sinkClosed (n : Nat) (s : State) : State :=
  bump (R.TC_SWAPS n) (setF (fSwitch n) 1 (modTc n (fun t => { t with prs := .idle }) s))

/-- VCONN is given up, and the swap counts. -/
def vconnGiven (n : Nat) (s : State) : State :=
  bump (R.TC_SWAPS n) (vconnFollow n (modTc n (fun t => { t with vcsWait := false, vconn := false }) s))

section
variable {n : Fin 4}

/-- The old source of VBUS has let go: the old sink turns to source. -/
theorem answers_psRdyReceived_turn (h : Powered s) (hprs : (tcGet s n).prs = .awaitOff) :
    Answers (.psRdyReceived n) s (fun t =>
      cc t n = ccSrc ∧ bit t (fPwrRole n) = true ∧ (tcGet t n).prs = .closing ∧ (tcGet t n).wantClose = true ∧
      RegsBut [R.TC_STATUS n, R.TC_VSET_CODE n] s t) := by
  obtain ⟨v, i, hset⟩ := setVset_eq 5000 n (clearOut s)
  refine answers_power_eq (execPsRdyReceived.eq_1 n s) h (t := modTc n (fun t => { t with prs := .closing, wantClose := true })
    (setF (fCc n) ccSrc (setF (fPwrRole n) 1 (setVset 5000 n (clearOut s))))) ?_ ?_ ?_ ?_
  · exact if_pos hprs
  · rw [hset]
    rfl
  · rw [hset]
    rfl
  · have hset : RegsBut [R.TC_STATUS n, R.TC_VSET_CODE n] (clearOut s) (setVset 5000 n (clearOut s)) :=
      (regsBut_refl _ _).setVset 5000 n
    exact ⟨cc_setF n _ (by decide), by simp, by simp, by simp,
      ((hset.setF 1 List.mem_cons_self).setF ccSrc List.mem_cons_self).modTc n _⟩

/-- The new source is there: the new sink closes its switch. -/
theorem answers_psRdyReceived_close (h : Powered s) (hprs : (tcGet s n).prs = .awaitSource) :
    Answers (.psRdyReceived n) s (fun t =>
      bit t (fSwitch n) = true ∧ (tcGet t n).prs = .idle ∧ reg t (R.TC_SWAPS n) = reg s (R.TC_SWAPS n) + 1 ∧
      ((tcGet s n).op = 1 → reg t (R.TC_CMD_STATUS n) = 0) ∧
      RegsBut [R.TC_STATUS n, R.TC_SWAPS n, R.TC_CMD_STATUS n] s t ∧
      t = { s with regs := t.regs, tc := t.tc, out := [] }) := by
  have hports : OnlyPorts s (endIf n 1 tcOk (sinkClosed n (clearOut s))) := .endIf (.bump (.setF (.modTc (.clearOut s) n _) _ _) _) n 1 tcOk
  have hkeeps : tcGet (sinkClosed n (clearOut s)) n = { tcGet s n with prs := .idle } := by simp [sinkClosed]
  obtain ⟨o, ho⟩ := tcGet_endIf n 1 tcOk (sinkClosed n (clearOut s))
  refine answers_ports (execPsRdyReceived.eq_1 n s) h ((if_neg (by simp [hprs])).trans ((if_pos hprs).trans ?_)) hports
    ⟨by simp [sinkClosed], by rw [ho, hkeeps], by simp [sinkClosed, reg_setF_ne], fun hop => ?_, ?_, hports.silent (endIf_out ..)⟩
  · rw [endIf, hkeeps]
    rfl
  · exact (endIf_shows (by rw [hkeeps]; exact hop) (by decide)).1
  · exact ((((regsBut_refl _ (clearOut s)).modTc n _).setF _ (by simp)).bump (by simp)).endIf n 1 tcOk

/-- The new source of VCONN is there. -/
theorem answers_psRdyReceived_vconn (h : Powered s) (hprs : (tcGet s n).prs = .idle) (hw : (tcGet s n).vcsWait = true) :
    Answers (.psRdyReceived n) s (fun t =>
      (tcGet t n).vconn = false ∧ (tcGet t n).vcsWait = false ∧ bit t (fVconnSrc n) = false ∧
      reg t (R.TC_SWAPS n) = reg s (R.TC_SWAPS n) + 1 ∧
      RegsBut [R.TC_STATUS n, R.TC_SWAPS n, R.TC_CMD_STATUS n] s t ∧
      t = { s with regs := t.regs, tc := t.tc, out := [] }) := by
  have hports : OnlyPorts s (endIf n 3 tcOk (vconnGiven n (clearOut s))) :=
    .endIf (.bump (.vconnFollow (.modTc (.clearOut s) n _) n) _) n 3 tcOk
  have hkeeps : tcGet (vconnGiven n (clearOut s)) n = { tcGet s n with vcsWait := false, vconn := false } := by simp [vconnGiven]
  obtain ⟨o, ho⟩ := tcGet_endIf n 3 tcOk (vconnGiven n (clearOut s))
  refine answers_ports (execPsRdyReceived.eq_1 n s) h
    ((if_neg (by simp [hprs])).trans ((if_neg (by simp [hprs])).trans ((if_pos hw).trans ?_))) hports
    ⟨by rw [ho, hkeeps], by rw [ho, hkeeps], by simp [vconnGiven], by simp [vconnGiven], ?_, hports.silent (endIf_out ..)⟩
  · rw [endIf, hkeeps]
    rfl
  · exact ((((regsBut_refl _ (clearOut s)).modTc n _).vconnFollow n).bump (by simp)).endIf n 3 tcOk

end

/-- What comes after a contract in force is messages and what the port keeps of them: registers, contract and request stay. -/
theorem sinkContract_keeps (n : Nat) (q : TcReq) (s : State) : (sinkContract n q s).regs = (enforce n q s).regs ∧
    (tcGet (sinkContract n q s) n).contract = (tcGet (enforce n q s) n).contract ∧
    (tcGet (sinkContract n q s) n).req = (tcGet (enforce n q s) n).req := by
  unfold sinkContract
  dsimp only
  split
  · obtain ⟨i, hi⟩ := quot_freeTo (vmax (enforce n q s) n * imax (enforce n q s) n) 100000 (enforce n q s)
    rw [hi]
    obtain ⟨hcontract, hreq⟩ := tcGet_afterContract n (freeTo i (enforce n q s))
    exact ⟨afterContract_regs n (freeTo i (enforce n q s)), by simp [hcontract], by simp [hreq]⟩
  · exact ⟨afterContract_regs n _, tcGet_afterContract n _⟩

/-- The request is the contract in force, and the registers say so. -/
theorem enforce_spec (n : Nat) (q : TcReq) (s : State) : (tcGet (enforce n q s) n).contract = some q ∧
    (tcGet (enforce n q s) n).req = none ∧ bit (enforce n q s) (fContract n) = true ∧
    bit (enforce n q s) (fTransition n) = false ∧ reg (enforce n q s) (R.TC_CONTRACTS n) = reg s (R.TC_CONTRACTS n) + 1 ∧
    RegsBut [R.TC_STATUS n, R.TC_CONTRACT n, R.TC_CONTRACTS n, R.TC_SRC_BUDGET 0] s (enforce n q s) := by
  obtain ⟨w, i, h⟩ := enforce_eq n q s
  rw [h]
  refine ⟨by simp, by simp, by simp, by simp, ?_, ?_⟩
  · rw [reg_refreshUsed _ tcKey_ne]
    simp [reg_setReg_ne, reg_setF_ne]
  · have hfree : RegsBut [R.TC_STATUS n, R.TC_CONTRACT n, R.TC_CONTRACTS n, R.TC_SRC_BUDGET 0] s (freeTo i s) := fun _ _ => rfl
    exact (((((hfree.modTc n _).setF 0 (by simp)).setF 1 (by simp)).setReg w (by simp)).bump (by simp)).refreshUsed

section
variable {n : Fin 4}

/-- The transition to a contract ends at the sink. -/
theorem answers_psRdyReceived_contract {q : TcReq} (h : Powered s) (hsink : isSink s n = true) (hprs : (tcGet s n).prs = .idle)
    (hw : (tcGet s n).vcsWait = false) (hreq : (tcGet s n).req = some q) (hmoving : bit s (fTransition n) = true) :
    Answers (.psRdyReceived n) s (fun t =>
      (tcGet t n).contract = some q ∧ (tcGet t n).req = none ∧ bit t (fContract n) = true ∧
      bit t (fTransition n) = false ∧ reg t (R.TC_CONTRACTS n) = reg s (R.TC_CONTRACTS n) + 1 ∧
      RegsBut [R.TC_STATUS n, R.TC_CONTRACT n, R.TC_CONTRACTS n, R.TC_SRC_BUDGET 0] s t) := by
  refine answers_power_kept (execPsRdyReceived.eq_1 n s) h (t := sinkContract n q (clearOut s)) ?_ ?_
  · refine (if_neg (by simp [hprs])).trans ((if_neg (by simp [hprs])).trans ((if_neg (by simp [hw])).trans ?_))
    rw [tcGet_clearOut, hreq]
    exact if_pos (Bool.and_eq_true_iff.2 ⟨hsink, hmoving⟩)
  · obtain ⟨hregs, hcontract, hnone⟩ := sinkContract_keeps n q (clearOut s)
    obtain ⟨hc, hr, hcbit, htbit, hcount, hbut⟩ := enforce_spec n q (clearOut s)
    exact ⟨hcontract.trans hc, hnone.trans hr, (bit_of_reg (reg_congr hregs _)).trans hcbit,
      (bit_of_reg (reg_congr hregs _)).trans htbit, (reg_congr hregs _).trans hcount, fun k hk => (reg_congr hregs k).trans (hbut k hk)⟩

end

/-- VBUS is at vSafe0V: the old source presents Rd as a sink. -/
def turnedSink (n : Nat) (s : State) : State := setF (fCc n) ccSnk (setF (fPwrRole n) 0 (setF (fDischarging n) 0 s))

/-- TC.STATUS and USED after the turn from source to sink. -/
theorem turnedSink_spec (n : Nat) (s : State) : bit (refreshUsed (turnedSink n s)) (fDischarging n) = false ∧
    cc (refreshUsed (turnedSink n s)) n = ccSnk ∧ bit (refreshUsed (turnedSink n s)) (fPwrRole n) = false ∧
    RegsBut [R.TC_STATUS n, R.TC_SRC_BUDGET 0] s (refreshUsed (turnedSink n s)) := by
  have hcc : cc (refreshUsed (turnedSink n s)) n = cc (turnedSink n s) n :=
    getF_of_reg (reg_refreshUsed _ tcKey_ne)
  refine ⟨by simp [turnedSink], hcc.trans (cc_setF n _ (by decide)), by simp [turnedSink], ?_⟩
  exact ((((regsBut_refl _ s).setF 0 (by simp)).setF 0 (by simp)).setF ccSnk (by simp)).refreshUsed

section
variable {n : Fin 4}

/-- The old source, discharged, turns to sink and says so. -/
theorem answers_vbusDischarged_turn (h : Powered s) (hdis : bit s (fDischarging n) = true) (hprs : (tcGet s n).prs = .sourceOff) :
    Answers (.vbusDischarged n) s (fun t =>
      bit t (fDischarging n) = false ∧ cc t n = ccSnk ∧ bit t (fPwrRole n) = false ∧ (tcGet t n).prs = .awaitSource ∧
      t.out = [.pd n .psRdy] ∧ RegsBut [R.TC_STATUS n, R.TC_SRC_BUDGET 0] s t) := by
  obtain ⟨hoff, hcc, hrole, hbut⟩ := turnedSink_spec n (clearOut s)
  refine answers_power_kept (execVbusDischarged.eq_1 n s) h
    (t := pd n .psRdy (modTc n (fun t => { t with prs := .awaitSource }) (refreshUsed (turnedSink n (clearOut s)))))
    ((if_pos hdis).trans (if_pos hprs)) ⟨hoff, hcc, hrole, by simp, ?_, hbut⟩
  rw [kept_out]
  simp [turnedSink]

end

/-! ### The end of every mode (R272) -/

/-- The mux leaves its setting, whatever the hub die does of it. -/
theorem muxNone_keeps (n : Nat) (s : State) : ∃ u, PortsKept s u ∧ muxNone n s = setF (fMux n) 0 u := by
  have hhpd : PortsKept s (if mux s n = 3 ∨ mux s n = 4 then
      if hubRuns s then hpdLoss (4 + n) s
      else { s with disp := { s.disp with altHpd := smSet (fun _ => false) s.disp.altHpd (4 + n) false } }
    else s) := .ite (.ite ((PortsKept.refl s).hpdLoss (by omega)) ((PortsKept.refl s).same rfl)) (.refl s)
  exact ⟨_, .ite (hhpd.lSet _ _) hhpd, rfl⟩

/-- Every mode is exited: the mux shows NONE, no entry is under way, and what else changes is not the ports'. -/
theorem exitModes_keeps (n : Fin 4) (s : State) : ∃ u, PortsKept s u ∧
    exitModes n 1 s = modTc n (fun t => { t with entry := .idle }) (setF (fMux n) 0 u) := by
  have hlost : PortsKept s (if mux s n = 2 then onHub (linkDown n 1) s else s) :=
    .ite ((PortsKept.refl s).onHub fun _ hu => hu.linkDown (by omega) 1) (.refl s)
  obtain ⟨u, hu, hnone⟩ := muxNone_keeps n (if mux s n = 2 then onHub (linkDown n 1) s else s)
  exact ⟨u, hlost.trans hu, congrArg (modTc n fun t => { t with entry := .idle }) hnone⟩

@[simp] theorem cc_modTc (m : Nat) (f : Tc → Tc) (s : State) (n : Nat) : cc (modTc m f s) n = cc s n := rfl
@[simp] theorem cc_setF_beside {lo w : Nat} (v : Nat) (s : State) (h : 3 ≤ lo ∧ lo + w ≤ 32) :
    cc (setF ⟨R.TC_STATUS n, lo, w⟩ v s) n = cc s n := getF_setF_beside v s (by omega)
@[simp] theorem mux_modTc (m : Nat) (f : Tc → Tc) (s : State) (n : Nat) : mux (modTc m f s) n = mux s n := rfl
@[simp] theorem mux_freeTo (i : Nat) (s : State) (n : Nat) : mux (freeTo i s) n = mux s n := rfl
@[simp] theorem mux_setReg {k : Nat} (v : Word) (s : State) (h : R.TC_STATUS n ≠ k) : mux (setReg k v s) n = mux s n :=
  getF_setReg_ne v s h
@[simp] theorem mux_bump {k : Nat} (s : State) (h : R.TC_STATUS n ≠ k) : mux (bump k s) n = mux s n := mux_setReg _ s h
@[simp] theorem mux_setF_beside {lo w : Nat} (v : Nat) (s : State) (h : lo + w ≤ 12 ∨ 15 ≤ lo ∧ lo + w ≤ 32) :
    mux (setF ⟨R.TC_STATUS n, lo, w⟩ v s) n = mux s n := getF_setF_beside v s (by omega)
@[simp] theorem mux_setF_self {v : Nat} (n : Nat) (s : State) (h : v < 8) : mux (setF (fMux n) v s) n = v :=
  getF_setF_fits s (show 12 + 3 ≤ 32 by decide) h

/-! ### Hard reset (R267, Table 11-3) -/

/-- A hard reset is counted, after it has been sent. -/
def resetBegun (n : Nat) (s : State) : State := bump (R.TC_HARD_RESETS_TX n) (pd n .hardReset s)

/-- Contract, modes and command end, and a swap of the pair with them. -/
def resetEnds (n : Nat) (s : State) : State := onHub swapInterrupted (tcEnd n tcAborted (exitModes n 1 (voidContract n s)))

/-- The switch opens, the code goes to 5 V where VBUS is or is to be driven, and a source discharges. -/
def resetSupply (n : Nat) (was back : Bool) (s : State) : State :=
  when was (discharge n) (if was = true ∨ back = true then setVset 5000 n (openSwitch n s) else openSwitch n s)

/-- What a port keeps after a hard reset, in its role of the time of attach. -/
def resetTc (src : Bool) (t : Tc) : Tc :=
  { t with wantClose := true, vconn := src, vcsWait := false, prs := .idle, asking := false, bist := false, discovered := false,
           entry := .idle, presentSrc := src }

/-- The port takes its roles of the time of attach. -/
def resetRoles (n : Nat) (src : Bool) (s : State) : State :=
  vconnFollow n (modTc n (resetTc src)
    (setF (fPwrRole n) (if src then 1 else 0) (setF (fDataRole n) (if src then 1 else 0)
      (setF (fCc n) (if src then ccSrc else ccSnk) s))))

theorem hardReset_eq (n : Nat) (s : State) : hardReset n true false s = raise 25 (n + 256 + 0)
    (resetRoles n (tcGet s n).attachSrc (resetSupply n (isSource s n) (tcGet s n).attachSrc (resetEnds n (resetBegun n s)))) := rfl

/-- Neither contract, nor transition, nor mode; as many hard resets sent as in `s`. -/
structure Unbound (n : Nat) (s t : State) : Prop where
  contract : bit t (fContract n) = false
  transition : bit t (fTransition n) = false
  mux : mux t n = 0
  none : (tcGet t n).contract = .none
  sent : reg t (R.TC_HARD_RESETS_TX n) = reg s (R.TC_HARD_RESETS_TX n)

namespace Unbound

theorem openSwitch (h : Unbound n s t) : Unbound n s (Machine.openSwitch n t) := by
  obtain ⟨hc, ht, hm, hn, hs⟩ := h
  unfold Machine.openSwitch
  exact ⟨by simp [hc], by simp [ht], by simp [hm], by simp [hn], by simp [hs, reg_setF_ne]⟩

theorem setVset (h : Unbound n s t) (mv : Nat) : Unbound n s (Machine.setVset mv n t) := by
  obtain ⟨hc, ht, hm, hn, hs⟩ := h
  obtain ⟨v, i, hset⟩ := setVset_eq mv n t
  rw [hset]
  exact ⟨by simp [hc], by simp [ht], by simp [hm], by simp [hn], by simp [hs, reg_setReg_ne]⟩

theorem discharge (h : Unbound n s t) : Unbound n s (Machine.discharge n t) := by
  obtain ⟨hc, ht, hm, hn, hs⟩ := h
  unfold Machine.discharge
  split
  · exact ⟨hc, ht, hm, hn, hs⟩
  · exact ⟨by simp [hc], by simp [ht], by simp [hm], by simp [hn],
      (reg_bump _ _ tcKey_ne).trans ((reg_setF_ne _ _ tcKey_ne).trans hs)⟩

theorem resetSupply (h : Unbound n s t) (was back : Bool) : Unbound n s (Machine.resetSupply n was back t) := by
  have hset : Unbound n s (if was = true ∨ back = true then Machine.setVset 5000 n (Machine.openSwitch n t)
      else Machine.openSwitch n t) := by
    split
    · exact h.openSwitch.setVset 5000
    · exact h.openSwitch
  cases was
  · exact hset
  · exact hset.discharge

theorem resetRoles (h : Unbound n s t) (src : Bool) : Unbound n s (Machine.resetRoles n src t) := by
  obtain ⟨hc, ht, hm, hn, hs⟩ := h
  unfold Machine.resetRoles vconnFollow
  exact ⟨by simp [hc], by simp [ht], by simp [hm], by simp [resetTc, hn], by simp [hs, reg_setF_ne]⟩

/-- What is not the ports' changes nothing of it. -/
theorem portsKept (h : Unbound n s t) (hu : PortsKept t u) (hn : n < 4) : Unbound n s u := by
  obtain ⟨hc, ht, hm, hnone, hs⟩ := h
  exact ⟨(hu.bit_port hn).trans hc, (hu.bit_port hn).trans ht, (getF_of_reg (hu.reg_port hn)).trans hm,
    by rw [hu.tcGet_eq, hnone], (hu.reg_port hn).trans hs⟩

/-- At the end of the contract and of every mode. -/
theorem resetEnds (n : Fin 4) (s : State) : Unbound n s (Machine.resetEnds n s) := by
  obtain ⟨u, hu, hexit⟩ := exitModes_keeps n (voidContract n s)
  have hcontract : bit u (fContract n) = false := (hu.bit_port n.isLt).trans (bit_voidContract_contract n s)
  have htransition : bit u (fTransition n) = false := (hu.bit_port n.isLt).trans (bit_voidContract_transition n s)
  have hnone : (tcGet u n).contract = .none := by rw [hu.tcGet_eq, tcGet_voidContract]
  have hsent : reg u (R.TC_HARD_RESETS_TX n) = reg s (R.TC_HARD_RESETS_TX n) :=
    (hu.reg_port n.isLt).trans ((regsBut_refl (contractKeys n) s).voidContract n (List.Subset.refl _) _ (by simp [tcKey_ne]))
  have hvoid : Unbound n s (tcEnd n tcAborted (exitModes n 1 (voidContract n s))) := by
    rw [hexit]
    exact ⟨by simp [hcontract], by simp [htransition], (getF_of_reg (by simp)).trans (mux_setF_self n u (by decide)),
      by simp [hnone], by simp [hsent, reg_setF_ne]⟩
  exact hvoid.portsKept ((PortsKept.refl _).onHub fun _ hw => hw.swapInterrupted) n.isLt

end Unbound

theorem bit_discharge_switch (n : Nat) (s : State) : bit (discharge n s) (fSwitch n) = bit s (fSwitch n) := by
  unfold discharge
  split
  · rfl
  · simp

/-- The switch stays open. -/
theorem bit_resetSupply_switch (n : Nat) (was back : Bool) (s : State) : bit (resetSupply n was back s) (fSwitch n) = false := by
  have hset : bit (if was = true ∨ back = true then setVset 5000 n (openSwitch n s) else openSwitch n s) (fSwitch n) = false := by
    split
    · obtain ⟨v, i, h⟩ := setVset_eq 5000 n (openSwitch n s)
      rw [h]
      simp
    · simp
  cases was
  · exact hset
  · exact (bit_discharge_switch n _).trans hset

/-- The roles are those of the time of attach. -/
theorem resetRoles_spec (n : Nat) (src : Bool) (s : State) : bit (resetRoles n src s) (fPwrRole n) = src ∧
    bit (resetRoles n src s) (fDataRole n) = src ∧ cc (resetRoles n src s) n = (if src then ccSrc else ccSnk) ∧
    bit (resetRoles n src s) (fSwitch n) = bit s (fSwitch n) ∧ tcGet (resetRoles n src s) n = resetTc src (tcGet s n) := by
  unfold resetRoles vconnFollow
  cases src <;> simp [ccSrc, ccSnk]

/-- A hard reset sent: it is counted, the switch is open, nothing is left of contract and modes, and the roles are those of attach. -/
theorem hardReset_spec (n : Fin 4) (s : State) : let t := hardReset n true false s
    reg t (R.TC_HARD_RESETS_TX n) = reg s (R.TC_HARD_RESETS_TX n) + 1 ∧ bit t (fSwitch n) = false ∧
    bit t (fContract n) = false ∧ bit t (fTransition n) = false ∧ mux t n = 0 ∧
    bit t (fPwrRole n) = (tcGet s n).attachSrc ∧ bit t (fDataRole n) = (tcGet s n).attachSrc ∧
    cc t n = (if (tcGet s n).attachSrc then ccSrc else ccSnk) ∧ (tcGet t n).wantClose = true ∧
    (tcGet t n).vconn = (tcGet s n).attachSrc ∧ (tcGet t n).contract = none ∧ (tcGet t n).prs = .idle := by
  intro t
  let v := resetSupply n (isSource s n) (tcGet s n).attachSrc (resetEnds n (resetBegun n s))
  have hkept : PortsKept (resetRoles n (tcGet s n).attachSrc v) t := by
    rw [show t = _ from hardReset_eq n s]
    exact (PortsKept.refl _).raise 25 _
  have hbound : Unbound n (resetBegun n s) t :=
    (((Unbound.resetEnds n (resetBegun n s)).resetSupply _ _).resetRoles _).portsKept hkept n.isLt
  obtain ⟨hc, ht, hm, hn, hs⟩ := hbound
  obtain ⟨hpwr, hdata, hcc, hswitch, htc⟩ := resetRoles_spec n (tcGet s n).attachSrc v
  have htc' : tcGet t n = resetTc (tcGet s n).attachSrc (tcGet v n) := (hkept.tcGet_eq n).trans htc
  exact ⟨hs.trans (reg_setReg_same _ _ _), (hkept.bit_port n.isLt).trans (hswitch.trans (bit_resetSupply_switch n _ _ _)), hc, ht, hm,
    (hkept.bit_port n.isLt).trans hpwr, (hkept.bit_port n.isLt).trans hdata, (getF_of_reg (hkept.reg_port n.isLt)).trans hcc,
    by rw [htc']; rfl, by rw [htc']; rfl, hn, by rw [htc']; rfl⟩

/-- A DR_Swap during a mode is answered by a hard reset. -/
theorem answers_drSwapReceived_reset {n : Fin 4} (h : Powered s) (hatt : isAttached s n = true) (hpd : pdOn s n = true)
    (hmux : 2 ≤ mux s n) :
    Answers (.drSwapReceived n) s (fun t =>
      reg t (R.TC_HARD_RESETS_TX n) = reg s (R.TC_HARD_RESETS_TX n) + 1 ∧ bit t (fSwitch n) = false ∧
      bit t (fContract n) = false ∧ bit t (fTransition n) = false ∧ mux t n = 0 ∧
      bit t (fPwrRole n) = (tcGet s n).attachSrc ∧ bit t (fDataRole n) = (tcGet s n).attachSrc ∧
      cc t n = (if (tcGet s n).attachSrc then ccSrc else ccSnk) ∧ (tcGet t n).wantClose = true ∧
      (tcGet t n).vconn = (tcGet s n).attachSrc ∧ (tcGet t n).contract = none ∧ (tcGet t n).prs = .idle) :=
  answers_power_kept (execDrSwapReceived.eq_1 n s) h ((if_pos (Bool.and_eq_true_iff.2 ⟨hatt, hpd⟩)).trans (if_pos hmux))
    (hardReset_spec n (clearOut s))

/-- Settles O25: each command of the swaps by the rule of its acceptance, which touches the port's registers and what it keeps;
the answer to a DR_Swap in a mode by what a hard reset keeps of the port through a link that is lost. -/
theorem typeCSwapCommandsComplete : Obligations.TypeCSwapCommandsComplete := by
  unfold Obligations.TypeCSwapCommandsComplete
  exact ⟨fun _ _ => answers_tcPrSwap_awaited, fun _ _ => answers_tcPrSwap_accept, fun _ _ => answers_tcPrSwap_reject,
    fun _ _ => answers_tcDrSwap_accept, fun _ _ h hfree hill _ => answers_tcDrSwap_illegal h hfree hill,
    fun _ _ => answers_tcVconnSwap_given, fun _ _ => answers_tcVconnSwap_taken, fun _ _ => answers_tcSendCaps,
    fun _ _ => answers_tcGetSrcCaps, fun _ _ => answers_prSwapReceived_accept, fun _ _ => answers_prSwapReceived_reject,
    fun _ _ => answers_drSwapReceived_accept, fun _ _ => answers_drSwapReceived_reset,
    fun _ _ => answers_vconnSwapReceived_accept, fun _ _ => answers_vconnSwapReceived_reject,
    fun _ _ => answers_psRdyReceived_turn, fun _ _ => answers_psRdyReceived_close, fun _ _ => answers_psRdyReceived_vconn,
    fun _ _ _ => answers_psRdyReceived_contract, fun _ _ => answers_vbusDischarged_turn⟩

end Sys2Proof.Machine

/-! ## Alternate modes: discovery, entry, exit, and HPD of their DisplayPort (R268, R271–R273) -/

namespace Sys2Proof.Machine

variable {c : Instr} {s t u : State} {ks : List Nat} {n : Nat}

/-! ### Two changes of what a port keeps -/

/-- A value written over another, neither of which an unlisted key reads as, is as if written alone. -/
theorem smSet_smSet {α : Type} [DecidableEq α] {d : Nat → α} {k : Nat} {v w : α} (hv : v ≠ d k) (hw : w ≠ d k) (m : SMap α) :
    smSet d (smSet d m k v) k w = smSet d m k w := by
  induction m with
  | nil => simp [smSet, hv, hw]
  | cons e m ih =>
    obtain ⟨j, x⟩ := e
    by_cases hlt : k < j
    · simp [smSet, hlt, hv, hw]
    · by_cases heq : k = j
      · simp [smSet, heq, heq ▸ hv, heq ▸ hw]
      · simp [smSet, hlt, heq, ih]

/-- A port with an entry under way is not as an unlisted one. -/
theorem tc_ne_unlisted {x : Tc} (h : x.entry ≠ .idle) : x ≠ dTc n := fun e => h (e ▸ rfl)

/-- While an entry is under way, what a port keeps is what has been written last. -/
theorem tcSet_tcSet {x y : Tc} (hx : x.entry ≠ .idle) (hy : y.entry ≠ .idle) (s : State) :
    tcSet n y (tcSet n x s) = tcSet n y s := by
  unfold tcSet
  rw [smSet_smSet (tc_ne_unlisted hx) (tc_ne_unlisted hy)]

/-- A message between two changes of what the port keeps. -/
theorem modTc_pd_modTc {f g : Tc → Tc} (m : PdMsg) (s : State) (hf : (f (tcGet s n)).entry ≠ .idle)
    (hg : (g (f (tcGet s n))).entry ≠ .idle) :
    modTc n g (pd n m (modTc n f s)) = tcSet n (g (f (tcGet s n))) (pd n m s) :=
  calc modTc n g (pd n m (modTc n f s))
    _ = tcSet n (g (tcGet (modTc n f s) n)) (tcSet n (f (tcGet s n)) (pd n m s)) := rfl
    _ = tcSet n (g (f (tcGet s n))) (pd n m s) := by rw [tcGet_modTc_same, tcSet_tcSet hf hg]

theorem OnlyPorts.link (h : OnlyPorts s t) : t.link = s.link := by rw [h]

/-! ### The choice of a mode (R268) -/

/-- DisplayPort is tried where Veserlink is not allowed or not offered. -/
theorem pickMode_dp {code : Nat} (hveser : (bit s (fModePol n 1) && (tcGet s n).veserOk) = false)
    (hpol : bit s (fModePol n 2) = true) (hcode : (tcGet s n).dpCode = code) (hle : 3 ≤ code) (href : (tcGet s n).refused = 0) :
    pickMode n s = modTc n (fun t => { t with entry := .enter code }) (pd n (.enterMode 0xFF01 1) s) := by
  have hne : code ≠ 2 := by omega
  have hpos : code ≠ 0 := by omega
  unfold pickMode
  simp [hveser, hpol, hcode, hne, hpos, href, hle]

/-- Without a mode that applies the mux shows NONE, and a command under way ends with the RESULT of what refused it. -/
theorem pickMode_none (hveser : (tcGet s n).veserOk = false) (hdp : bit s (fModePol n 2) = false ∨ (tcGet s n).dpCode = 0)
    (husb : bit s (fModePol n 3) = false) (href : (tcGet s n).refused ≠ 0) :
    pickMode n s = endIf n 6 (tcGet s n).refused
      (setF (fMux n) 0 (modTc n (fun t => { t with entry := .idle }) (raise 29 n s))) := by
  have hdp' : (bit s (fModePol n 2) && (tcGet s n).dpCode != 0) = false := by
    obtain h | h := hdp
    · rw [h, Bool.false_and]
    · simp [h]
  unfold pickMode endIf
  simp [hveser, hdp', husb, href]

/-- What has been sent first stays first. -/
theorem head_of_prefix {o : Output} {l : List Output} (h : [o] <+: l) : l.head? = some o := by
  obtain ⟨r, rfl⟩ := h
  rfl

section
variable {n : Fin 4}

/-- A mode is looked for at the command of software. -/
theorem answers_tcEnterMode (h : Powered s) (hatt : isAttached s n = true) (hpd : pdOn s n = true) (hdfp : isDfp s n = true)
    (hfree : bit s (fTcBusy n) = false) (hmux : mux s n < 2) (hidle : (tcGet s n).entry = .idle) :
    Answers (.tcEnterMode n) s (fun t =>
      tcGet t n = { tcGet s n with op := 6, entry := .identity, refused := 0, usbCap := false, veserOk := false, dpCode := 0, dpListed := false } ∧
      reg t (R.TC_CMD_STATUS n) = 1 ∧ t.out = [.pd n (.discoverIdentity false)] ∧ RegsBut [R.TC_CMD_STATUS n] s t ∧
      t = { s with regs := t.regs, tc := t.tc, out := t.out }) := by
  have hcmd : tcCmd n 6 (clearOut s) = startModes n (tcBegin n 6 (clearOut s)) := by
    rw [tcCmd, if_neg (show ¬ bit (clearOut s) (fTcBusy n) = true from hfree ▸ Bool.false_ne_true)]
    refine if_pos (show (isAttached s n && pdOn s n && isDfp s n && decide (mux s n < 2) && decide ((tcGet s n).entry = .idle)) = true by
      simp [hatt, hpd, hdfp, hmux, hidle])
  exact answers_power_eq (execTcEnterMode.eq_1 n s) h hcmd rfl rfl
    ⟨by simp [startModes, tcBegin], reg_setReg_same _ _ _, rfl,
      (((regsBut_refl _ (clearOut s)).setReg 1 List.mem_cons_self).modTc n _ |>.modTc n _).pd n _, rfl⟩

/-! ### Discovery of what the partner offers -/

/-- The identity is known: the SVIDs are asked for. -/
theorem answers_modeDiscoveryResponse_identity {hdr : Word} (h : Powered s) (hentry : (tcGet s n).entry = .identity) :
    Answers (.modeDiscoveryResponse n (.identity hdr)) s (fun t =>
      t = tcSet n { tcGet s n with entry := .svids, usbCap := decide (bits hdr.toNat 30 2 ≠ 0) } { s with out := [.pd n .discoverSvids] }) := by
  refine answers_power_eq (execModeDiscoveryResponse.eq_1 n _ s) h (t := pd n .discoverSvids
    (modTc n (fun t => { t with entry := .svids, usbCap := decide (bits hdr.toNat 30 2 ≠ 0) }) (clearOut s))) ?_ rfl rfl rfl
  rw [tcGet_clearOut, hentry]

/-- Veserlink is listed: its modes are asked for. -/
theorem answers_modeDiscoveryResponse_svids {d : Bool} (h : Powered s) (hentry : (tcGet s n).entry = .svids)
    (hpol : bit s (fModePol n 1) = true) :
    Answers (.modeDiscoveryResponse n (.svids true d)) s (fun t =>
      t = tcSet n { tcGet s n with entry := .veserModes, veserOk := true, dpListed := d } { s with out := [.pd n (.discoverModes 0x6B3A)] }) := by
  have hnext : discoverNext n (modTc n (fun t => { t with veserOk := true, dpListed := d }) (clearOut s)) =
      modTc n (fun t => { t with entry := .veserModes }) (pd n (.discoverModes 0x6B3A)
        (modTc n (fun t => { t with veserOk := true, dpListed := d }) (clearOut s))) := by
    unfold discoverNext
    simp [hentry, show bit (clearOut s) (fModePol n 1) = true from hpol]
  refine answers_power_eq (execModeDiscoveryResponse.eq_1 n _ s) h (?_ : _ = modTc n (fun t => { t with entry := .veserModes })
    (pd n (.discoverModes 0x6B3A) (modTc n (fun t => { t with veserOk := true, dpListed := d }) (clearOut s)))) rfl rfl ?_
  · rw [tcGet_clearOut, hentry]
    exact hnext
  · exact modTc_pd_modTc _ _ (show (tcGet s n).entry ≠ .idle by simp [hentry]) nofun

/-- The modes of Veserlink are known: those of a DisplayPort that is listed are asked for. -/
theorem answers_modeDiscoveryResponse_veser (h : Powered s) (hentry : (tcGet s n).entry = .veserModes)
    (hpol : bit s (fModePol n 2) = true) (hdp : (tcGet s n).dpListed = true) :
    Answers (.modeDiscoveryResponse n .veserModes) s (fun t =>
      t = tcSet n { tcGet s n with entry := .dpModes } { s with out := [.pd n (.discoverModes 0xFF01)] }) := by
  have hnext : discoverNext n (clearOut s) =
      modTc n (fun t => { t with entry := .dpModes }) (pd n (.discoverModes 0xFF01) (clearOut s)) := by
    unfold discoverNext
    simp [hentry, hdp, show bit (clearOut s) (fModePol n 2) = true from hpol]
  refine answers_power_eq (execModeDiscoveryResponse.eq_1 n _ s) h (?_ : _ = modTc n (fun t => { t with entry := .dpModes })
    (pd n (.discoverModes 0xFF01) (clearOut s))) rfl rfl rfl
  rw [tcGet_clearOut, hentry]
  exact hnext

/-- The pin assignment taken of those that the sink offers. -/
theorem pinAssignment_eq {p : Bool} (c d : Bool) (h : (c || d) = true) :
    (if d && (!c || p) then 4 else if c then 3 else 0) = if d && (!c || p) then 4 else 3 := by
  cases c with
  | true => rfl
  | false =>
    have hd : d = true := h
    rw [hd]
    rfl

/-- The modes of DisplayPort are known: its pin assignment is entered where Veserlink is not. -/
theorem answers_modeDiscoveryResponse_dp {c d : Bool} {code : Nat} (h : Powered s) (hentry : (tcGet s n).entry = .dpModes)
    (hveser : (bit s (fModePol n 1) && (tcGet s n).veserOk) = false) (hpol : bit s (fModePol n 2) = true) (hcd : (c || d) = true)
    (hcode : code = (if d && (!c || bit s (fModePol n 5)) then 4 else 3)) (href : (tcGet s n).refused = 0) :
    Answers (.modeDiscoveryResponse n (.dpModes c d)) s (fun t =>
      t = tcSet n { tcGet s n with dpCode := code, entry := .enter code } { s with out := [.pd n (.enterMode 0xFF01 1)] }) := by
  have hle : 3 ≤ code := by
    rw [hcode]
    split <;> decide
  have hnext : discoverNext n (modTc n (fun t => { t with dpCode := code }) (clearOut s)) =
      modTc n (fun t => { t with entry := .enter code }) (pd n (.enterMode 0xFF01 1)
        (modTc n (fun t => { t with dpCode := code }) (clearOut s))) := by
    unfold discoverNext
    simp only [tcGet_modTc_same, tcGet_clearOut, hentry]
    refine pickMode_dp ?_ hpol ?_ hle ?_
    · rw [tcGet_modTc_same]
      exact hveser
    · rw [tcGet_modTc_same]
    · rw [tcGet_modTc_same]
      exact href
  refine answers_power_eq (execModeDiscoveryResponse.eq_1 n _ s) h (?_ : _ = modTc n (fun t => { t with entry := .enter code })
    (pd n (.enterMode 0xFF01 1) (modTc n (fun t => { t with dpCode := code }) (clearOut s)))) rfl rfl ?_
  · rw [tcGet_clearOut, hentry, ← hnext, hcode, ← pinAssignment_eq c d hcd]
    rfl
  · exact modTc_pd_modTc _ _ (show (tcGet s n).entry ≠ .idle by simp [hentry]) nofun

/-- The partner refuses Veserlink by its silence. -/
def veserRefused (n : Nat) (s : State) : State :=
  modTc n (fun t => { t with refused := tcNoResponse, veserOk := false }) s

/-- The partner does not answer an Enter Mode of Veserlink, and no other mode applies. -/
theorem answers_modeEntryTimeout (h : Powered s) (hentry : (tcGet s n).entry = .enter 2)
    (hdp : bit s (fModePol n 2) = false ∨ (tcGet s n).dpCode = 0) (husb : bit s (fModePol n 3) = false) :
    Answers (.modeEntryTimeout n) s (fun t =>
      mux t n = 0 ∧ (tcGet t n).entry = .idle ∧ (tcGet t n).veserOk = false ∧ ((tcGet s n).op = 6 →
      reg t (R.TC_CMD_STATUS n) = 6 ∧ (tcGet t n).op = 0) ∧
      RegsBut [R.TC_STATUS n, R.TC_CMD_STATUS n, R.CDC_OVERRUN_EVENTS] s t ∧ t.out = []) := by
  have hrefuse : refuseMode n tcNoResponse (clearOut s) = endIf n 6 tcNoResponse (setF (fMux n) 0
      (modTc n (fun t => { t with entry := .idle }) (raise 29 n (veserRefused n (clearOut s))))) := by
    have hkeeps : tcGet (veserRefused n (clearOut s)) n = { tcGet s n with refused := tcNoResponse, veserOk := false } := by
      simp [veserRefused]
    unfold refuseMode
    simp only [tcGet_clearOut, hentry, if_true]
    have hpick := pickMode_none (s := veserRefused n (clearOut s)) (n := n) (by rw [hkeeps]) (hdp.imp_right fun h0 => by rw [hkeeps]; exact h0)
      husb (by rw [hkeeps]; exact three_ne_zero)
    exact hpick.trans (by rw [hkeeps])
  generalize hv : modTc n (fun t => { t with entry := .idle }) (raise 29 n (veserRefused n (clearOut s))) = v at hrefuse
  have hkeeps : tcGet v n = { tcGet s n with refused := tcNoResponse, veserOk := false, entry := .idle } := by
    simp [← hv, veserRefused]
  have hout : v.out = [] := by
    simp [← hv, veserRefused]
  have hbut : RegsBut [R.TC_STATUS n, R.TC_CMD_STATUS n, R.CDC_OVERRUN_EVENTS] (clearOut s) v := by
    rw [← hv]
    exact (((regsBut_refl _ (clearOut s)).modTc n _).raise 29 n (by simp)).modTc n _
  obtain ⟨o, ho⟩ := tcGet_endIf n 6 tcNoResponse (setF (fMux n) 0 v)
  rw [tcGet_setF, hkeeps] at ho
  have hmux : mux (endIf n 6 tcNoResponse (setF (fMux n) 0 v)) n = 0 :=
    (getF_of_reg (reg_endIf n 6 _ n _ (by decide))).trans (mux_setF_self n v (by decide))
  refine answers_power_kept (execModeEntryTimeout.eq_1 n s) h hrefuse ⟨hmux, by rw [tcGet_kept, ho], by rw [tcGet_kept, ho],
    fun hop => endIf_shows (by rw [tcGet_setF, hkeeps]; exact hop) (by decide), (hbut.setF 0 (by simp)).endIf n 6 _, ?_⟩
  rw [kept_out, endIf_out]
  exact hout

/-! ### A mode is entered (R271, R272) -/

/-- A link that starts is not the ports'. -/
theorem PortsKept.linkStart (h : PortsKept s t) {n : Nat} (hn : n < 5) : PortsKept s (Machine.linkStart n t) := by
  unfold Machine.linkStart
  dsimp only
  refine ite (PortsKept.setF (ite ((h.lSet _ _).setF _) ((h.lSet _ _).setF _ ?_)) _ ?_) h
  · exact linkKey 0x10104 hn
  · exact linkKey 0x10104 hn

/-- The mux takes its setting and the entry is counted; what the hub die makes of a link is not the ports'. -/
theorem enterMux_keeps (n : Fin 4) (m : Nat) (s : State) :
    PortsKept (bump (R.TC_MODE_ENTRIES n) (setF (fMux n) m s)) (enterMux n m s) := by
  unfold enterMux
  dsimp only
  have hn : n.val < 5 := by omega
  split
  · exact ((PortsKept.refl _).lSet _ _).onHub fun u hu =>
      (hu.setF (f := fRef n) _ (PortsKept.linkKey 0x10104 hn)).linkStart hn
  · exact .refl _

/-- Where the mode is not Veserlink, that is all. -/
theorem enterMux_alt {m : Nat} (n : Nat) (s : State) (hm : m ≠ 2) :
    enterMux n m s = bump (R.TC_MODE_ENTRIES n) (setF (fMux n) m s) := if_neg hm

/-- The mux shows the mode, and its entries are one more. -/
theorem enterMux_shows {m : Nat} (n : Fin 4) (s : State) (hm : m < 8) : mux (enterMux n m s) n = m ∧
    reg (enterMux n m s) (R.TC_MODE_ENTRIES n) = reg s (R.TC_MODE_ENTRIES n) + 1 ∧
    tcGet (enterMux n m s) n = tcGet s n ∧ s.out <+: (enterMux n m s).out := by
  have hkept := enterMux_keeps n m s
  refine ⟨(getF_of_reg (hkept.reg_port n.isLt)).trans ((mux_bump _ tcKey_ne).trans (mux_setF_self n s hm)), ?_,
    hkept.tcGet_eq n, hkept.sent⟩
  rw [hkept.reg_port n.isLt, reg_bump_same, reg_setF_ne _ _ tcKey_ne]

/-- The partner has entered the mode that was asked of it. -/
theorem answers_enterModeAckReceived {m : Nat} (h : Powered s) (hentry : (tcGet s n).entry = .enter m) (hm : 2 ≤ m) (hle : m ≤ 4) :
    Answers (.enterModeAckReceived n) s (fun t =>
      mux t n = m ∧ (tcGet t n).entry = .idle ∧ reg t (R.TC_MODE_ENTRIES n) = reg s (R.TC_MODE_ENTRIES n) + 1 ∧
      ((tcGet s n).op = 6 → reg t (R.TC_CMD_STATUS n) = 0) ∧ (m ≠ 2 →
      RegsBut [R.TC_STATUS n, R.TC_MODE_ENTRIES n, R.TC_CMD_STATUS n] s t ∧ t.link = s.link)) := by
  generalize hu : modTc n (fun t => { t with entry := .idle }) (clearOut s) = u
  have hkeeps : tcGet u n = { tcGet s n with entry := .idle } := by simp [← hu]
  obtain ⟨hmux, hcount, htc, -⟩ := enterMux_shows n u (show m < 8 by omega)
  obtain ⟨o, ho⟩ := tcGet_endIf n 6 tcOk (enterMux n m u)
  rw [htc, hkeeps] at ho
  refine answers_power_kept (execEnterModeAckReceived.eq_1 n s) h (t := endIf n 6 tcOk (enterMux n m u)) ?_
    ⟨?_, ?_, ?_, ?_, ?_⟩
  · rw [tcGet_clearOut, hentry, endIf, ← hu]
  · exact (getF_of_reg (reg_endIf n 6 _ n _ (by decide))).trans hmux
  · rw [tcGet_kept, ho]
  · exact (reg_endIf n 6 _ n _ (by decide)).trans (hcount.trans (by rw [← hu]; rfl))
  · exact fun hop => (endIf_shows (by rw [htc, hkeeps]; exact hop) (by decide)).1
  · intro hne
    rw [enterMux_alt n u hne, ← hu]
    have hports : OnlyPorts s (endIf n 6 tcOk (bump (R.TC_MODE_ENTRIES n) (setF (fMux n) m
        (modTc n (fun t => { t with entry := .idle }) (clearOut s))))) :=
      .endIf (.bump (.setF (.modTc (.clearOut s) n _) _ _) _) n 6 tcOk
    have hbut : RegsBut [R.TC_STATUS n, R.TC_MODE_ENTRIES n, R.TC_CMD_STATUS n] (clearOut s)
        (modTc n (fun t => { t with entry := .idle }) (clearOut s)) := (regsBut_refl _ (clearOut s)).modTc n _
    exact ⟨((hbut.setF m (by simp)).bump (by simp)).endIf n 6 tcOk, hports.link⟩

/-- A UFP that speaks PD answers what the DFP asks of it. -/
theorem discoverable (hatt : isAttached s n = true) (hpd : pdOn s n = true) (hufp : bit s (fDataRole n) = false) :
    (isAttached s n && !bit s (fDataRole n) && pdOn s n) = true := by simp [hatt, hpd, hufp]

/-- The DFP enters Veserlink, with the policy's leave. -/
theorem answers_enterModeReceived_veser (h : Powered s) (hatt : isAttached s n = true) (hpd : pdOn s n = true)
    (hufp : bit s (fDataRole n) = false) (hpol : bit s (fModePol n 4) = true) :
    Answers (.enterModeReceived n 0x6B3A 1) s (fun t =>
      mux t n = 2 ∧ reg t (R.TC_MODE_ENTRIES n) = reg s (R.TC_MODE_ENTRIES n) + 1 ∧
      t.out.head? = some (.pd n (.vdmAck []))) := by
  obtain ⟨hmux, hcount, -, hsent⟩ := enterMux_shows (m := 2) n (pd n (.vdmAck []) (clearOut s)) (by decide)
  exact answers_power_kept (execEnterModeReceived.eq_1 n 0x6B3A 1 s) h
    ((if_pos (discoverable hatt hpd hufp)).trans (if_pos ⟨rfl, rfl, hpol⟩)) ⟨hmux, hcount, head_of_prefix hsent⟩

/-- Any other mode is refused. -/
theorem answers_enterModeReceived_nak {svid : BitVec 16} {position : BitVec 3} (h : Powered s) (hatt : isAttached s n = true)
    (hpd : pdOn s n = true) (hufp : bit s (fDataRole n) = false)
    (hno : svid ≠ 0x6B3A ∨ position ≠ 1 ∨ bit s (fModePol n 4) = false) :
    Answers (.enterModeReceived n svid position) s (fun t => OnlyOut [.pd n .vdmNak] s t) := by
  have hno' : ¬ (svid = 0x6B3A ∧ position = 1 ∧ bit s (fModePol n 4) = true) := by
    rintro ⟨hsvid, hpos, hpol⟩
    simp [hsvid, hpos, hpol] at hno
  exact answers_power_eq (execEnterModeReceived.eq_1 n svid position s) h
    ((if_pos (discoverable hatt hpd hufp)).trans (if_neg hno')) rfl rfl rfl

/-! ### What the DFP discovers of the chip (R271) -/

theorem answers_discoverReceived_identity (h : Powered s) (hatt : isAttached s n = true) (hpd : pdOn s n = true)
    (hufp : bit s (fDataRole n) = false) :
    Answers (.discoverReceived n .identity) s (fun t =>
      OnlyOut [.pd n (.vdmAck [reg s (R.TC_ID_HDR n), reg s (R.TC_ID_PRODUCT n)])] s t) :=
  answers_power_eq (execDiscoverReceived.eq_1 n .identity s) h (if_pos (discoverable hatt hpd hufp)) rfl rfl rfl

theorem answers_discoverReceived_svids (h : Powered s) (hatt : isAttached s n = true) (hpd : pdOn s n = true)
    (hufp : bit s (fDataRole n) = false) :
    Answers (.discoverReceived n .svids) s (fun t => OnlyOut [.pd n (.vdmAck [0x6B3A0000])] s t) :=
  answers_power_eq (execDiscoverReceived.eq_1 n .svids s) h (if_pos (discoverable hatt hpd hufp)) rfl rfl rfl

theorem answers_discoverReceived_modes {v : BitVec 16} (h : Powered s) (hatt : isAttached s n = true) (hpd : pdOn s n = true)
    (hufp : bit s (fDataRole n) = false) :
    Answers (.discoverReceived n (.modes v)) s (fun t =>
      OnlyOut [.pd n (if v = 0x6B3A then .vdmAck [0x31] else .vdmNak)] s t) := by
  have ht : (if v = 0x6B3A then pd n (.vdmAck [BitVec.ofNat 32 0x31]) (clearOut s) else pd n .vdmNak (clearOut s)) =
      pd n (if v = 0x6B3A then .vdmAck [0x31] else .vdmNak) (clearOut s) := by
    split <;> rfl
  exact answers_power_eq (execDiscoverReceived.eq_1 n (.modes v) s) h ((if_pos (discoverable hatt hpd hufp)).trans ht) rfl rfl rfl

/-! ### A mode is left (R272) -/

/-- Software leaves the mode, and the partner agrees. -/
theorem answers_tcExitMode (h : Powered s) (hatt : isAttached s n = true) (hpd : pdOn s n = true)
    (hfree : bit s (fTcBusy n) = false) (hdfp : isDfp s n = true) (hmux : 2 ≤ mux s n) :
    Answers (.tcExitMode n .accept) s (fun t =>
      mux t n = 0 ∧ (tcGet t n).entry = .idle ∧ (tcGet t n).op = 0 ∧ reg t (R.TC_CMD_STATUS n) = 0 ∧
      t.out.head? = some (.pd n (.exitMode (if mux s n = 2 then 0x6B3A else 0xFF01)))) := by
  generalize hm : PdMsg.exitMode (if mux s n = 2 then 0x6B3A else 0xFF01) = m
  have hcmd : tcCmd n 7 (clearOut s) = tcAsked n 7 m (clearOut s) := by
    rw [tcCmd, if_neg (show ¬ bit (clearOut s) (fTcBusy n) = true from hfree ▸ Bool.false_ne_true), ← hm]
    exact (if_pos (show (isAttached s n && pdOn s n && isDfp s n) = true by simp [hatt, hpd, hdfp])).trans (if_pos hmux)
  obtain ⟨u, hu, hexit⟩ := exitModes_keeps n (tcAsked n 7 m (clearOut s))
  have hop : (tcGet u n).op = 7 := by rw [hu.tcGet_eq, tcGet_tcAsked]
  have hdone : tcAnswer n 7 .accept (tcCmd n 7 (clearOut s)) =
      tcEnd n tcOk (modTc n (fun t => { t with entry := .idle }) (setF (fMux n) 0 u)) := by
    rw [hcmd, ← hexit]
    simp [tcAnswer]
  refine answers_power_kept (tcRow_eq n 7 .accept s) h hdone ⟨?_, by simp, by simp, ?_, head_of_prefix ?_⟩
  · exact (getF_of_reg (reg_tcEnd n _ (by decide))).trans (mux_setF_self n u (by decide))
  · exact reg_tcEnd_status (by simp [hop])
  · rw [kept_out, tcEnd_out]
    exact hu.sent

/-! ### HPD of a DisplayPort mode (R273) -/

/-- HPD of an output beyond the DOUT pages follows its Attention without a register but those of the raise. -/
theorem attention_follows {o : Nat} (ho : 2 ≤ o) (hpd : Bool) (s : State) :
    let t := if hpd then (if hpdOf s o then s else hpdReturn o s) else hpdLoss o s
    hpdOf t o = hpd ∧ RegsBut [R.CDC_OVERRUN_EVENTS] s t := by
  have hno : ¬ o < 2 := by omega
  have hset (b : Bool) : RegsBut [R.CDC_OVERRUN_EVENTS] s (setHpd o b s) := by
    rw [setHpd, if_neg hno]
    exact (regsBut_refl _ s).modDisp _
  cases hpd
  · by_cases hhigh : hpdOf s o = true
    · show hpdOf (hpdLoss o s) o = false ∧ RegsBut [R.CDC_OVERRUN_EVENTS] s (hpdLoss o s)
      have hshown : hpdOf (raise 60 o (hpdGone o s)) o = hpdOf (hpdGone o s) o := by
        rw [hpdOf, hpdOf, if_neg hno, if_neg hno, raise_disp]
      have hgone : RegsBut [R.CDC_OVERRUN_EVENTS] s (hpdGone o s) := by
        unfold hpdGone setTrained
        rw [if_neg hno, decide_eq_false hno]
        exact hset false
      rw [hpdLoss_high hhigh]
      exact ⟨hshown.trans (hpdOf_hpdGone o s), hgone.raise 60 o List.mem_cons_self⟩
    · have hkeeps : hpdLoss o s = s := if_neg hhigh
      exact ⟨(congrArg (hpdOf · o) hkeeps).trans (Bool.eq_false_iff.2 hhigh), fun k _ => congrArg (reg · k) hkeeps⟩
  · by_cases hhigh : hpdOf s o = true
    · have hkeeps : (if hpdOf s o then s else hpdReturn o s) = s := if_pos hhigh
      exact ⟨(congrArg (hpdOf · o) hkeeps).trans hhigh, fun k _ => congrArg (reg · k) hkeeps⟩
    · have hback : (if hpdOf s o then s else hpdReturn o s) = hpdReturn o s := if_neg hhigh
      have hreturn : hpdOf (hpdReturn o s) o = true ∧ RegsBut [R.CDC_OVERRUN_EVENTS] s (hpdReturn o s) := by
        rw [hpdReturn_eq]
        split
        · exact ⟨hpdOf_setHpd o true s, (hset true).modDisp _⟩
        · exact ⟨hpdOf_setHpd o true s, hset true⟩
      exact hback.symm ▸ hreturn

/-- HPD of a DisplayPort mode follows its Attention, whether or not the hub die runs. -/
theorem answers_displayportAttention {hpd : Bool} (h : Powered s) (hmux : mux s n = 3 ∨ mux s n = 4) :
    Answers (.displayportAttention n hpd) s (fun t =>
      hpdOf t (4 + n) = hpd ∧ RegsBut [R.CDC_OVERRUN_EVENTS] s t) := by
  have ho : 2 ≤ 4 + n.val := by omega
  by_cases hrun : hubRuns s = true
  · exact answers_power_kept (execDisplayportAttention.eq_1 n hpd s) h ((if_pos hmux).trans (if_pos hrun))
      (attention_follows ho hpd (clearOut s))
  · refine answers_power_eq (execDisplayportAttention.eq_1 n hpd s) h ((if_pos hmux).trans (if_neg hrun)) rfl rfl
      ⟨?_, fun _ _ => rfl⟩
    exact (if_neg (by omega)).trans (smGet_smSet_same _ _ _)

end

/-- Settles O26: discovery and the choice of a mode by what one step asks next; entry and exit by what a link that starts or is
lost leaves of the ports. -/
theorem typeCModeCommandsComplete : Obligations.TypeCModeCommandsComplete := by
  unfold Obligations.TypeCModeCommandsComplete
  exact ⟨fun _ _ => answers_tcEnterMode, fun _ _ _ => answers_modeDiscoveryResponse_identity,
    fun _ _ _ => answers_modeDiscoveryResponse_svids, fun _ _ => answers_modeDiscoveryResponse_veser,
    fun _ _ _ _ _ => answers_modeDiscoveryResponse_dp, fun _ _ => answers_modeEntryTimeout,
    fun _ _ _ => answers_enterModeAckReceived, fun _ _ => answers_tcExitMode, fun _ _ => answers_discoverReceived_identity,
    fun _ _ => answers_discoverReceived_svids, fun _ _ _ => answers_discoverReceived_modes,
    fun _ _ => answers_enterModeReceived_veser, fun _ _ _ _ => answers_enterModeReceived_nak,
    fun _ _ _ => answers_displayportAttention⟩

end Sys2Proof.Machine
